-- ==== Sys2Proof/Word.lean ====
section
/-! DEFINITION. The word types of the FLN-M192: register slots hold 48-bit values (R26) and memory is
addressed by the byte. -/
namespace Sys2Proof

/-- A 48-bit register value, also the native word (R5: POS48, V48, A48, J48 and T48). -/
abbrev Word48 := BitVec 48

/-- A byte of memory or of a frame. -/
abbrev Byte := BitVec 8

end Sys2Proof
end

