-- ==== Sys2Proof/Machine/Sparse.lean ====
section
/-! DEFINITION. Sparse tables: lists of key and value pairs, strictly rising by key, in which a key that is
not listed reads as a default. Registers, memory and the per-index internal state are held so. -/
namespace Sys2Proof.Machine

/-- The value a table holds at a key, or the default. -/
def tabGet {α : Type} (d : α) : List (Nat × α) → Nat → α
  | [], _ => d
  | (k', v) :: t, k => if k' = k then v else tabGet d t k

/-- The table with a value placed at a key, in rising order. -/
def tabPut {α : Type} (k : Nat) (v : α) : List (Nat × α) → List (Nat × α)
  | [] => [(k, v)]
  | (k', v') :: t =>
    if k < k' then (k, v) :: (k', v') :: t
    else if k = k' then (k, v) :: t
    else (k', v') :: tabPut k v t

/-- The table without a key. -/
def tabDel {α : Type} (k : Nat) : List (Nat × α) → List (Nat × α)
  | [] => []
  | (k', v') :: t => if k' = k then tabDel k t else (k', v') :: tabDel k t

/-- Write a value at a key. Writing the default removes the entry, so that equal tables are equal lists. -/
def tabSet {α : Type} [DecidableEq α] (d : α) (k : Nat) (v : α) (t : List (Nat × α)) : List (Nat × α) :=
  if v = d then tabDel k t else tabPut k v t

/-- Keys strictly rising. -/
def tabRising {α : Type} : List (Nat × α) → Bool
  | [] => true
  | [_] => true
  | (k, _) :: (k', v') :: t => decide (k < k') && tabRising ((k', v') :: t)

/-- No listed value equals the default. -/
def tabNoDefault {α : Type} [DecidableEq α] (d : α) (t : List (Nat × α)) : Bool :=
  t.all (fun p => decide (p.2 ≠ d))

end Sys2Proof.Machine
end

