-- ==== Sys2Proof/Machine/Operands.lean ====
section
/-! DEFINITION. Number formats, bit fields and byte order (R4 to R7 of 00_scope.md): the operand forms every
unit shares. -/
namespace Sys2Proof.Machine

/-- Bits lo and up, w of them, of a number. -/
def bitsOf (x lo w : Nat) : Nat := x / 2 ^ lo % 2 ^ w

/-- Bit b of a number. -/
def bitOf (x b : Nat) : Bool := x / 2 ^ b % 2 == 1

/-- A number with w bits from lo replaced by v. -/
def putBits (x lo w v : Nat) : Nat :=
  x - (x / 2 ^ lo % 2 ^ w) * 2 ^ lo + (v % 2 ^ w) * 2 ^ lo

/-- A number with bit b set or cleared. -/
def putBit (x b : Nat) (v : Bool) : Nat := putBits x b 1 (if v then 1 else 0)

/-- 1 for true, 0 for false. -/
def b2n (b : Bool) : Nat := if b then 1 else 0

/-- Two's complement reading of the low w bits (R5). -/
def sgn (w x : Nat) : Int :=
  let y := x % 2 ^ w
  if 2 * y < 2 ^ w then (y : Int) else (y : Int) - 2 ^ w

/-- The low w bits of an integer. -/
def uns (w : Nat) (i : Int) : Nat := (i % (2 ^ w : Int)).toNat

/-- An integer brought into the range of a signed field of w bits. -/
def satS (w : Nat) (i : Int) : Int :=
  let hi : Int := 2 ^ (w - 1) - 1
  let lo : Int := -(2 ^ (w - 1))
  if i > hi then hi else if i < lo then lo else i

/-- A count brought into the range of an unsigned field of w bits. -/
def satU (w n : Nat) : Nat := if n < 2 ^ w then n else 2 ^ w - 1

/-- Signed 48-bit difference a - b of two T48 values (R7). -/
def t48Diff (a b : Word48) : Int := (a - b).toInt

/-- True when a is at or after b in the sense of R7. -/
def t48Reached (a b : Word48) : Bool := decide (0 ≤ t48Diff a b)

/-- Round a rational to the nearest integer, ties to even (R6). -/
def roundEven (q : Rat) : Int :=
  let f := q.floor
  let r := q - f
  if r < 1 / 2 then f
  else if 1 / 2 < r then f + 1
  else if f % 2 = 0 then f else f + 1

/-- Shift an integer right by k with rounding to nearest, ties to even (R6). -/
def shrEven (i : Int) (k : Nat) : Int :=
  let m : Int := 2 ^ k
  let f := i / m
  let r := i % m
  if 2 * r < m then f
  else if 2 * r > m then f + 1
  else if f % 2 = 0 then f else f + 1

/-- Little-endian number of a byte list. -/
def leNat : List Byte → Nat
  | [] => 0
  | b :: t => b.toNat + 256 * leNat t

/-- The n low bytes of a number, least significant first. -/
def leBytes : Nat → Nat → List Byte
  | 0, _ => []
  | n + 1, x => BitVec.ofNat 8 (x % 256) :: leBytes n (x / 256)

/-- Big-endian number of a byte list. -/
def beNat (l : List Byte) : Nat := l.foldl (fun acc b => acc * 256 + b.toNat) 0

/-- The n low bytes of a number, most significant first. -/
def beBytes (n x : Nat) : List Byte := (leBytes n x).reverse

/-- Element i of a list of bytes, 0 past its end. -/
def byteAt (l : List Byte) (i : Nat) : Nat := (l.getD i 0#8).toNat

/-- n bytes from position i, little-endian. -/
def leAt (l : List Byte) (i n : Nat) : Nat := leNat ((l.drop i).take n)

/-- One step of a bitwise CRC of w bits, most significant bit first. -/
def crcBitMsb (w poly crc : Nat) (bit : Bool) : Nat :=
  let top := bitOf crc (w - 1)
  let sh := crc * 2 % 2 ^ w
  if top != bit then Nat.xor sh poly else sh

/-- A bitwise CRC of w bits over a bit list, most significant bit first. -/
def crcMsb (w poly init : Nat) (l : List Bool) : Nat := l.foldl (crcBitMsb w poly) init

/-- One bit of a reflected CRC with reversed polynomial. -/
def crcBitRefl (poly crc : Nat) : Nat :=
  if crc % 2 = 1 then Nat.xor (crc / 2) poly else crc / 2

/-- One byte of a reflected CRC. -/
def crcByteRefl (poly crc : Nat) (b : Byte) : Nat :=
  let x := Nat.xor crc b.toNat
  let f := crcBitRefl poly
  f (f (f (f (f (f (f (f x)))))))

/-- A reflected CRC over bytes from an initial register, without the final inversion. -/
def crcRefl (poly init : Nat) (l : List Byte) : Nat := l.foldl (crcByteRefl poly) init

/-- The bits of a byte, most significant first. -/
def byteBitsMsb (b : Byte) : List Bool :=
  [7, 6, 5, 4, 3, 2, 1, 0].map (fun i => bitOf b.toNat i)

/-- The numbers lo, lo + 1, ..., n of them. -/
def upFrom (lo n : Nat) : List Nat := (List.range n).map (fun i => lo + i)

end Sys2Proof.Machine
end

