-- ==== Sys2Proof/Machine/Hidden.lean ====
section
/-! DEFINITION. The internal state of each unit that the spec implies and no register holds: plain structures,
grouped by chapter. -/
namespace Sys2Proof.Machine

/-! ### Access to register slots (01_architecture.md) -/

/-- What the M192 holds for one agent: the latched high word (R29), the staged low word with a mark that the
unit's weir has left OPEN since (R31, R34), the latched LT_NS (15_time.md), and the last response (R11). -/
structure AgentH where
  latch : Option (Nat × Nat) := none
  staged : Option (Nat × Nat × Bool) := none
  ltNs : Option Nat := none
  code : Nat := 0
  data : Nat := 0
  deriving DecidableEq, Repr

/-! ### Clocks, power and weirs (02_clocks_power_weirs.md) -/

/-- The sequencer and reset machinery: the tick from which both always-on rails have been in their windows (R59), the tick
of the sequencer's last event, where a power-down leads (4 FAULT_WAIT, 5 FAULT_STOP; R61, R63), the tick of the restart
after a rail fault, the tick at which a requested software reset begins (R70), whether the chip is in reset and whether
the HB pins are forced off with it, the tick the PLL started, whether RESET_N is low (R69), and the PMBus master: speed,
addresses and period from the image, the tick of the last poll and the replies still to come, each as regulator and command
(R65). -/
structure PowerH where
  aonSince : Nat := 0
  since : Nat := 0
  downTo : Nat := 0
  railRestart : Option Nat := none
  softReset : Option Nat := none
  inReset : Bool := true
  hbForcedOff : Bool := true
  pllFrom : Nat := 0
  rstLow : Bool := false
  pmb : Option (Nat × List Nat × Nat) := none
  pmbAt : Nat := 0
  pmbOut : List (Nat × Nat) := []
  deriving DecidableEq, Repr

/-- One weir's transition in progress (R76 to R83): its phase (0 none, 1 draining, 2 powering up, 3 unit reset,
4 waiting for a boundary, 5 a pipeline still running after a forced close), the tick the phase began, the responses owed at
the drain (R77), whether power goes when the transition ends, the tick at which the weir last left OPEN and the tick
from which it has been OPEN. -/
structure WeirH where
  phase : Nat := 0
  since : Nat := 0
  owed : Nat := 0
  powerOff : Bool := false
  leftAt : Option Nat := none
  deriving DecidableEq, Repr

/-! ### Start-up and the configuration image (03_boot_image.md) -/

/-- A flash device: whether it answers, its bytes that differ from the erased value 0xFF, the pages whose contents a failed or
interrupted program or erase left open, each with the number of its first free value plus 1, and the pages of a write that power
loss interrupted, each with the number of a free value (R118). -/
structure FlashH where
  present : Bool := true
  cells : List (Nat × Byte) := []
  open_ : List (Nat × Nat) := []
  torn : List (Nat × Nat) := []
  deriving DecidableEq, Repr

/-- What unit configuration or a live switch loads: a register slot, bytes of a memory window, the bytes of the TAGS section
(R106), or one of the configuration values that no register shows. -/
inductive Load where
  | reg (addr v : Nat)
  | mem (addr : Nat) (bytes : List Byte)
  | tags (bytes : List Byte)
  | sigmaDelta (g a b : Nat)
  | schedule (slot nrec nsc upFirst upMs : Nat)
  | schedCrc (crc : Nat)
  | ldMax (node ns : Nat)
  | lineMasters (n : Nat)
  | passwordCheck (v : Nat)
  | changeLog (entries : List (List Byte))
  | pmbus (speed : Nat) (addrs : List Nat) (ms : Nat)
  | pcieIds (vendor subVendor subSystem device : Nat)
  | ethLatency (p ingress egress : Nat)
  deriving DecidableEq, Repr

/-- An order to switch images (R108 to R115): the writer of GO, RESTART mode, the target slot, the cycle N, the target's
GEN and DIGEST, what its live sections load, the shed set its admission check left, and whether its part in this head is
complete. -/
structure ImgH where
  ag : Nat
  restart : Bool
  target : Nat
  n : Nat
  gen : Nat := 0
  digest : Nat := 0
  loads : List Load := []
  shedSet : List Nat := []
  staged : Bool := false
  deriving DecidableEq, Repr

/-- How the header's XSPI_CFG field sets a flash device (R88): the opcode, address and value of the volatile-configuration write
that selects 8D-8D-8D mode, the 8D read opcode, its dummy clocks and its frequency code. -/
structure Xspi where
  wvcrOp : Nat
  wvcrAddr : Nat
  wvcrVal : Nat
  readOp : Nat
  dummy : Nat
  freq : Nat
  deriving DecidableEq, Repr

/-- Start-up: the tick of the reset release, the slots still to try and the one being tried, whether it is the first
candidate, the XSPI_CFG the image was read with, none for a read in 1S-1S-1S mode (R87), the cycle boundaries seen synchronised
in the network stage (R104), a flash operation in progress (OP, slot, address; R117), an ordered switch, what this head has sent
to its partner and what the partner has armed (N and DIGEST, R115), and what a live switch loads into units behind closed weirs,
by weir (R114). -/
structure BootH where
  from_ : Nat := 0
  left : List Nat := []
  slot : Nat := 0
  first : Bool := true
  xspi : Option Xspi := none
  bnds : Nat := 0
  flashOp : Option (Nat × Nat × Nat) := none
  order : Option ImgH := none
  told : Option (Nat × Nat) := none
  partner : Option (Nat × Nat) := none
  due : List (Nat × Load) := []
  deriving DecidableEq, Repr

/-- Admission: the check that runs (0 on command with the Jets assumed, 1 after a change of J, 2 for a live switch, 3 with a
shed axis added back), whether a check after a change of J follows it, the shed axes still to be tried (R147), the shed set in force (R145), the axes shed in the order of their shedding, and the axes that
enter HOLD or leave it at the next boundary (R144, R147). -/
structure AdmH where
  running : Option (Nat × Nat) := none
  again : Bool := false
  back : List Nat := []
  shedSet : List Nat := []
  shed : List Nat := []
  toHold : List Nat := []
  toReady : List Nat := []
  deriving DecidableEq, Repr

/-! ### Axes (05_axes.md; the later chapters add to an axis in structures of their own) -/

/-- A swap request as it stood at the write of REQ (R166): STATE_LOAD, AT, and the cycle of the boundary selected. -/
structure SwapReq where
  stateLoad : Bool
  at_ : Bool
  cycle : Nat
  deriving DecidableEq, Repr

/-- An axis: its pending command and the writer (R174), in a twin head the commands waiting for a later boundary (cycle, whether
from the channel B head, command, writer; R481), its pending swap request (R162), whether fresh feedback has
come in this cycle (R177), the boundary, counted by State.cycles, at which a group STOP acts, 0 for none (R181), a reaction on age due (R178), the fault causes detected
since the last boundary (R302), and in a drive the command age (R423) and the ENABLE of the command last applied (R422). -/
structure AxisH where
  cmd : Nat := 0
  cmdAgent : Nat := 0
  cmdLater : List (Nat × Bool × Nat × Nat) := []
  swap : Option SwapReq := none
  fresh : Bool := false
  groupStop : Nat := 0
  ageDue : Bool := false
  det : Nat := 0
  cmdAge : Nat := 0
  cmdEn : Bool := false
  deriving DecidableEq, Repr

/-! ### Jets (06_jets.md, 07_control_structures.md) -/

/-- A task on a Jet: its axis, whether it is the current-loop task, its grant and cost, and whether its result is
discarded at its end (R183). -/
structure JetTask where
  axis : Nat
  cl : Bool
  start : Nat
  cost : Nat
  drop : Bool := false
  deriving DecidableEq, Repr

/-- A Jet: the task it runs, the start of its self-test, whether it has passed one since it left service (R212), the position it
vacated (R212, R213, R217), when, and whether no standby filled it, so that it waits for this Jet's self-test (R213), and its work in
the cycle. -/
structure JetH where
  task : Option JetTask := none
  testFrom : Option Nat := none
  eligible : Bool := false
  vacated : Option Nat := none
  vacAt : Nat := 0
  held : Bool := false
  busy : Nat := 0
  deriving DecidableEq, Repr

/-- The Jets together: the cycle of a scheduled swap (R215), and the start of the rotation period (R216). -/
structure JetSysH where
  swapAt : Option Nat := none
  rotFrom : Nat := 0
  deriving DecidableEq, Repr

/-- Feedback of an axis as a task takes it (R195): PACT and VACT. -/
structure Feed where
  pact : Word48
  vact : Word48
  deriving DecidableEq, Repr

/-- A commit-store entry (R196): state words, command record, flags. -/
structure Entry where
  writes : List (Nat × Nat)
  cmd : List Byte
  sat : Bool := false
  accSat : Bool := false
  div0 : Bool := false
  intHold : Bool := false
  outLim : Bool := false
  deriving DecidableEq, Repr

/-- The tasks of an axis (R197): the cycle task's state (0 IDLE, 1 QUEUED, 2 RUNNING, 3 HELD, 4 COMMITTED,
5 REPEATED), whether it is a recompute and served as metered, its feedback and setpoints, the setpoints of the cycle once the pass
for the next has begun (R195), its commit-store entry, the AGE of its command (R422); the current-loop task (0 idle, 1 queued,
2 running), its executions lost in a row (R241), its inputs with the setpoint in effect at its release (R204), whether it is its
first since a swap (R243), and the current setpoint in effect and the one waiting for OI (R204). -/
structure JobH where
  st : Nat := 0
  recompute : Bool := false
  metered : Bool := false
  feed : Option Feed := none
  set : Int × Int × Int := (0, 0, 0)
  cyc : Int × Int × Int := (0, 0, 0)
  entry : Option Entry := none
  reps : Nat := 0
  cl : Nat := 0
  clLost : Nat := 0
  rawA : Int := 0
  rawB : Int := 0
  thetaM : Nat := 0
  clRef : Int := 0
  clSwap : Bool := false
  refNow : Int := 0
  refAt : Option Int := none
  deriving DecidableEq, Repr

/-! ### Feedback (10_feedback.md) -/

/-- The edge estimator of an axis (R342 to R346): latest and reference edge, counts after it, direction, 1 STARTING or
2 REVERSAL, the last value under R342 and its mean period as a ratio. -/
structure EdgeH where
  tLast : Option Nat := none
  tRef : Option Nat := none
  dc : Nat := 0
  dir : Int := 0
  mode : Nat := 0
  vk : Int := 0
  perN : Nat := 0
  perD : Nat := 0
  deriving DecidableEq, Repr

/-- An encoder channel: input levels, Hall code once read, single-turn and multiturn counts, the index reference, the latest edge, the
serial frame (its start, its last clock edge, the previous valid absolute value, the II it refers to, the failures and validity waiting
for the sample, whether it has ended before its II, and whether the sample of the cycle still waits for it), the latest counts with
their ticks (R350), the ticks from which the latches capture, and LAT_TOG of latch 0 (R421). -/
structure EncH where
  a : Bool := false
  b : Bool := false
  hall : Option Nat := none
  st : Nat := 0
  mt : Int := 0
  idxRef : Option Nat := none
  tEdge : Option Nat := none
  fails : Nat := 0
  running : Option Nat := none
  edgeAt : Option Nat := none
  absPrev : Option Nat := none
  ii : Nat := 0
  ended : Bool := false
  due : Bool := false
  frameV : Bool := false
  neLow : Bool := false
  recent : List (Nat × Int) := []
  arm0 : Option Nat := none
  arm1 : Option Nat := none
  tog : Bool := false
  deriving DecidableEq, Repr

/-- An axis's feedback: its edge estimator, the cycle and value of its last valid positions, newest first (R347), the reference position of JUMP
(R337), the last change of POS, whether JUMP and the remote fault are failing, whether the node still reports its
feedback fault and its fault, the last LAT_TOG (R421), the latch order owed to the node (R422: 1 arm, 2 disarm), and the last fresh PACT (R253). -/
structure FbH where
  est : EdgeH := {}
  hist : List (Nat × Word48) := []
  ref : Option Word48 := none
  last : Option Word48 := none
  changed : Nat := 0
  jump : Bool := false
  remote : Bool := false
  nodeFb : Bool := false
  nodeFault : Bool := false
  latTog : Option Bool := none
  latCmd : Nat := 0
  pact : Word48 := 0
  deriving DecidableEq, Repr

/-! ### PWM and the gate guard (11_pwm_guard.md) -/

/-- A timer channel: the live period and compares, the tick of τ = 0, the ticks of the commits pending, the ticks of the shadow writes
not yet transferred (period, first and second compare word), the boundaries since the last transfer of period and
compare, the pins behind the guard and the ticks of their last falls, the command x with its last change, a
shoot-through request's start, whether the guard still holds both sides off after it and the tick at which it stopped, the low side's
conduction in the period, the count of short periods, a refresh period,
and the end of the blanking window. -/
structure TcH where
  per : Nat := 0
  a1 : Nat := 0
  a2 : Nat := 0
  b1 : Nat := 0
  b2 : Nat := 0
  start : Nat := 0
  commit : List Nat := []
  perW : Option Nat := none
  cmpW : Option Nat := none
  cmp2W : Option Nat := none
  sincePer : Nat := 2
  sinceCmp : Nat := 2
  x : Bool := false
  xSince : Nat := 0
  pinA : Bool := false
  pinB : Bool := false
  fallA : Nat := 0
  fallB : Nat := 0
  shoot : Option Nat := none
  hold : Bool := false
  shootEnd : Nat := 0
  lowFrom : Option Nat := none
  lowOn : Nat := 0
  short : Nat := 0
  refresh : Bool := false
  blankTo : Nat := 0
  deriving DecidableEq, Repr

/-- A stage group: the tick its state or precharge phase began, whether the precharge pulse is over, whether the
sequence is a rerun, the trip tick while its snapshot is open, the last low-side conduction, the last tick of a
shoot-through request, an uncleared self-test failure with the half-bridges whose comparators have passed since, and the sigma-delta inputs of raw_a and raw_b (R393) with
their results of the period. -/
structure SgH where
  since : Nat := 0
  gap : Bool := false
  tripAt : Option Nat := none
  lastLow : Nat := 0
  shootAt : Option Nat := none
  selfFail : Bool := false
  stOk : List Nat := []
  sdA : Nat := 0
  sdB : Nat := 0
  gotA : Option Int := none
  gotB : Option Int := none
  deriving DecidableEq, Repr

/-- A comparator: the tick since which both outputs have been inactive, and the start of a self-test. -/
structure CmpH where
  inact : Nat := 0
  test : Option Nat := none
  deriving DecidableEq, Repr

/-- A sigma-delta input: its consecutive overcurrent results, the tick since which it has been inactive, and the tick of
the last window restart (R525), 0 for none. -/
structure SdH where
  run : Nat := 0
  inact : Nat := 0
  restart : Nat := 0
  deriving DecidableEq, Repr

/-! ### Psiend (12_psiend_links.md, 13_psiend_cycle.md) -/

/-- A port's receiver: 0 looking for SD or SYN, 1 taking a header, 2 taking a body, 3 ignoring until idle (R417, R418),
4 ignoring until the next window (R446); the kind of window of the frame (0 slot, 1 uplink allocation, 2 ranging, 3 not
guarded), the node it belongs to, the tick of its SD and the close of its window, its bytes, the records completed, and
whether it has failed. -/
structure RxH where
  st : Nat := 0
  kind : Nat := 0
  node : Nat := 0
  start : Nat := 0
  close : Nat := 0
  t48 : Word48 := 0
  hdr : List Byte := []
  body : List Byte := []
  recs : Nat := 0
  bad : Bool := false
  deriving DecidableEq, Repr

/-- A port: its receiver, the end of the transmission in progress or last ended, whether that transmission is still to be
counted in TX_FRAMES and the forwarding entry it is a copy for, when it began or is to begin, when its link state began, the ticks of its last 16
invalid code groups, newest first (R402), a RANGE_REQ that passed its check and one that is admitted (node, T1, tick of
its SD), the input port whose frame or sync it repeats (R426), and the bytes last sent. -/
structure PortH where
  rx : RxH := {}
  txFrom : Nat := 0
  txUntil : Nat := 0
  txOwed : Bool := false
  txCopy : Option Nat := none
  since : Nat := 0
  errs : List Nat := []
  rngIn : Option (Nat × Nat × Nat) := none
  rngReq : Option (Nat × Nat × Nat) := none
  rpt : Option Nat := none
  sent : List Byte := []
  deriving DecidableEq, Repr

/-- A node as the head sees it: whether a frame of the cycle was admitted, passed its check, every check (R534), or was recomputed; its
records of the cycle; the ticks of the frame's SD, of its last symbol and of the command's readiness; whether the
command was launched or waits for the downlink; header and body of the frame so far; its violations in the last cycles, newest first, whether the head
owes it an unmute (R449), and its last feedback STATUS. -/
structure NodeH where
  seen : Bool := false
  passed : Bool := false
  whole : Bool := false
  recomputed : Bool := false
  recs : List (List Byte) := []
  start : Nat := 0
  lastSym : Nat := 0
  ready : Option Nat := none
  launched : Bool := false
  delayed : Bool := false
  frame : List Byte := []
  viol : List Nat := []
  unmute : Bool := false
  status : Nat := 0
  deriving DecidableEq, Repr

/-- A dynamic frame waiting for the receive ring (R461): the T48 of its SD, its port, its header and body. -/
structure DynIn where
  t48 : Word48
  port : Nat
  bytes : List Byte
  deriving DecidableEq, Repr

/-- A service request as it arrived (R463): its port, its sender, its body, and whether 16 were held then (R464). -/
structure SvcReq where
  port : Nat
  node : Nat
  body : List Byte
  busy : Bool := false
  deriving DecidableEq, Repr

/-- A frame received whole and addressed to this M192 that a row of its own takes up: COMMAND and RANGE_RSP in a drive,
RANGE_RSP and the frames of R476 in a head: type, port, tick of its SD, header and body. -/
structure InFrame where
  type : Nat
  port : Nat
  start : Nat
  hdr : List Byte
  body : List Byte
  deriving DecidableEq, Repr

/-- A downlink allocation of the cycle (R459): its port, first mini-slot, flow, and the service answer it carries, 0 for
the flow's own frame. -/
structure DynGrant where
  port : Nat
  ms : Nat
  flow : Nat
  tag : Nat
  deriving DecidableEq, Repr

/-- The network unit: containers received and to be sent for each node, dynamic frames, frames for rows of their own and service requests received, the
requests held (R464), answers by number, the grants of the cycle, LD_MAX by node (R451), the forwarding entries that have had their window in
the cycle, and the cold start: the tick of its state's beginning, whether the listening count has started (R465), the
cycles of COLD begun, whether the next boundary is its first, and the cycles in which a COLD_START with ATTEMPT 0xFF is still to be sent (R470). -/
structure NetH where
  contIn : List (Nat × Nat × List Byte) := []
  contOut : List (Nat × List Byte) := []
  dynIn : List DynIn := []
  inbox : List InFrame := []
  svcIn : List SvcReq := []
  svcHeld : List SvcReq := []
  svcOut : List (Nat × (Nat × List Byte)) := []
  svcSeq : Nat := 0
  grants : List DynGrant := []
  ldMax : List (Nat × Nat) := []
  fwdDone : List Nat := []
  csFrom : Nat := 0
  csHears : Bool := false
  csCycles : Nat := 0
  csFirst : Bool := false
  csAnswer : Nat := 0
  deriving DecidableEq, Repr

/-- A drive's ranging on one channel (R441, R442): T1 of the request sent and not yet answered, exchanges ended, the last
result, whether D is set, the cycle count of the last request cycle's start, and whether a request went out in the cycle. -/
structure RngH where
  t1 : Option Nat := none
  tries : Nat := 0
  prev : Option Int := none
  ranged : Bool := false
  since : Nat := 0
  sent : Bool := false
  deriving DecidableEq, Repr

/-- A command frame a drive holds for the cycle: ABDICATE, and its records. -/
structure CmdIn where
  abdicate : Bool
  recs : List (List Byte)
  deriving DecidableEq, Repr

/-- The network side of a drive, and of a twin follower on the head link (R436 to R450): its schedule entry from the image,
the exact boundary and the rate correction in 1/16 and 1/256 ns, per channel CORR of the last valid sync, whether a sync was
valid or missed in the cycle, the first sync's cycle and arrival (R443), misses and slips in a row, ranging, the cycle of
entry into INTEGRATED; command frames of the cycle by channel, whether a valid one came on each at all, the channel applied now and in the last cycle, what was heard in
the last cycle, cycles without a command frame, whether OI has passed, the feedback frame of the cycle, frames sent by port and
the uplink allocation used in the cycle, own frames ended with EE in the last cycles. -/
structure DriveH where
  slot : Nat := 0
  nrec : Nat := 0
  nsc : Nat := 0
  upFirst : Nat := 0
  upMs : Nat := 0
  bndX : Int := 0
  rate : Int := 0
  corrA : Nat := 0
  corrB : Nat := 0
  gotA : Bool := false
  gotB : Bool := false
  missA : Bool := false
  missB : Bool := false
  firstCyc : Nat := 0
  firstAt : Nat := 0
  missRun : Nat := 0
  slipRun : Nat := 0
  rngA : RngH := {}
  rngB : RngH := {}
  sinceInt : Nat := 0
  frA : Option CmdIn := none
  frB : Option CmdIn := none
  cmdA : Bool := false
  cmdB : Bool := false
  sel : Option Bool := none
  selPrev : Bool := false
  hearA : Bool := false
  hearB : Bool := false
  noCmd : Nat := 0
  oiDone : Bool := false
  fbSent : Bool := false
  upSent : Bool := false
  ends : List Nat := []
  deriving DecidableEq, Repr

/-! ### Twin heads (14_twin_heads.md) -/

/-- A STATUS body as received (R477), with the tick of its receipt. -/
structure PStat where
  tstate : Nat := 0
  flags : Nat := 0
  hoN : Nat := 0
  gen : Nat := 0
  cycle : Nat := 0
  at_ : Nat := 0
  deriving DecidableEq, Repr

/-- An order sent and not yet acknowledged (R478): its number, its record, the cycle count of its last sending. -/
structure Sent where
  seq : Nat
  bytes : List Byte
  addr : Nat
  at_ : Nat
  deriving DecidableEq, Repr

/-- A part of a state copy as received (R487): cycle, axis, part, data, the tick of its arrival. -/
structure CopyPart where
  cycle : Nat
  axis : Nat
  part : Nat
  data : List Byte
  at_ : Nat
  deriving DecidableEq, Repr

/-- A twin head: the CRC of its SCHEDULE section, the partner's last STATUS and the ticks of the last valid one on each
link, the tick from which it sends LEADER (R498), whether it sends no further command frame in the cycle (R495), whether the
head link was lost (R499), whether it resumes the lead at the next boundary or waits for the answer to its abdication
(R498), causes of abdication noted; its digests and their cycle (R484), whether the
partner's DIGEST of the cycle came; orders sent, the next number to perform, orders waiting, acknowledgements given and
owed (R478); the copies' next axis and the parts received (R487), the cycles in which a flag last cleared (R490);
deafness and claim (R496, R500), the armed handover (R497); the cycle or tick of the mirrored order being performed (R478), and the commands to axis weirs waiting for
their boundary: cycle, whether from the channel B head, weir, command, responses owed (R481, R482); the pull's place and start (R501) and verified cycles. -/
structure TwinH where
  schedCrc : Nat := 0
  partner : Option PStat := none
  hlAt0 : Option Nat := none
  hlAt1 : Option Nat := none
  statusSent : Bool := false
  digSent : Bool := false
  leadFrom : Nat := 0
  silent : Bool := false
  lost : Bool := false
  resume : Bool := false
  abdWait : Bool := false
  abdDue : Nat := 0
  digests : List Nat := []
  digCycle : Nat := 0
  digGot : Bool := true
  deafDone : Bool := false
  casEnd : Option Nat := none
  seqOut : Nat := 0
  sent : List Sent := []
  seqIn : Nat := 0
  orders : List (Nat × List Byte) := []
  acked : List (Nat × List Byte) := []
  ackOut : List (List Byte) := []
  copyNext : Nat := 0
  copied : Bool := false
  parts : List CopyPart := []
  cleared : List (Nat × Nat) := []
  ownDeaf : Nat := 0
  claim : Bool := false
  hoN : Option Nat := none
  ordN : Nat := 0
  weirDue : List (Nat × Bool × Nat × Nat × Nat) := []
  pullPos : Nat := 0
  pullFrom : Nat := 0
  pullGot : Nat := 0
  verRun : Nat := 0
  deriving DecidableEq, Repr

/-! ### Cascade (08_profiles_cams.md) -/

/-- A segment of a plan (R256 to R259): ticks, jerk, an acceleration set outright (R297), and its number as SEG shows it. -/
structure Seg where
  n : Nat
  j : Rat
  a0 : Option Rat := none
  no : Nat
  deriving DecidableEq, Repr, Inhabited

/-- A profile (R254): exact position, velocity and acceleration in counts per tick, and the segments still to run. -/
structure Prof where
  p : Rat := 0
  v : Rat := 0
  a : Rat := 0
  segs : List Seg := []
  deriving DecidableEq, Repr, Inhabited

/-- The limits of a move, in counts per tick to the appropriate power. -/
structure Lims where
  vmax : Rat := 0
  amax : Rat := 0
  dmax : Rat := 0
  jmax : Rat := 0
  deriving DecidableEq, Repr, Inhabited

/-- The active move: whether it is a VEL move, its target in counts (modulo 2^48) or its velocity, its limits, its end
velocity, an AMAX still to be used (R272), whether a replan is due since which pass with the end velocity it is to
reach, and whether its plan holds a reversal. -/
structure Move where
  vel : Bool := false
  target : Int := 0
  vt : Rat := 0
  lims : Lims := {}
  ve : Rat := 0
  amaxNew : Option Rat := none
  replan : Option Nat := none
  veNew : Rat := 0
  rev : Bool := false
  id : Nat := 0
  deriving DecidableEq, Repr, Inhabited

/-- An entry of the move queue (R264): its words, then what Cascade holds of it: the target resolved to an absolute one
(R267), whether that target counts from where a VEL move comes to rest (R267), the pass since which its plan is requested, the state
the plan starts from with its segments, a reversal in it, whether its group has started it (R275), what R261 made of a BLENDED entry
(0 nothing, 1 blended, 2 dropped), and the velocity it ends with for a BLENDED successor. -/
structure QEnt where
  target : Nat := 0
  vmax : Nat := 0
  amax : Nat := 0
  dmax : Nat := 0
  jmax : Nat := 0
  type : Nat := 0
  trans : Nat := 0
  gstart : Bool := false
  super : Bool := false
  id : Nat := 0
  tick : Nat := 0
  abs : Option Int := none
  rest : Bool := false
  lims : Lims := {}
  req : Option Nat := none
  plan : Option (Prof × List Seg × Bool) := none
  go : Bool := false
  blend : Nat := 0
  ve : Rat := 0
  deriving DecidableEq, Repr, Inhabited

/-- A Cascade command waiting for its pass (R248): a flush, a push, a change (EN and the three limits), an engagement
(AT_POS, X, REL), a disengagement (AT_POS, X), a switch (X, table, FORCE), the CANCEL of a follower operation, a start and an abort of
homing. -/
inductive CasCmd where
  | flush
  | push (e : QEnt)
  | change (en : Nat) (vm am dm : Nat)
  | engage (atPos : Bool) (x : Nat) (rel : Bool)
  | disengage (atPos : Bool) (x : Nat)
  | switch (x : Nat) (table : Nat) (force : Bool)
  | cancel
  | home
  | abort
  deriving DecidableEq, Repr, Inhabited

/-- A cam in use: its table, the master offset of its coordinate and base in counts, the wraps at its engagement, whether the offset
is still MASTER_OFF (until a switch, R286, R289), and whether the base is still SLAVE_OFF (R287, R288). -/
structure CamH where
  table : Nat := 0
  off : Rat := 0
  base : Rat := 0
  wraps0 : Int := 0
  live : Bool := true
  plain : Bool := true
  deriving DecidableEq, Repr, Inhabited

/-- A following: gear or cam, the source as it was at engagement, the unwrapped master value in 2^-24 counts, the gear's
ratio terms, the ratio it started from and the master travel since (R281, R282), whether it is still clutching, and the cam. -/
structure EngH where
  cam : Bool := false
  kind : Nat := 0
  idx : Nat := 0
  m : Int := 0
  num : Int := 1
  den : Nat := 1
  r0 : Rat := 0
  x : Int := 0
  clutching : Bool := false
  camH : CamH := {}
  deriving DecidableEq, Repr, Inhabited

/-- What Cascade holds for an axis: its profile, the position it gave out with the superimposed part, the active move, the
queue, commands waiting with their ticks, a DMAX and an AMAX for the next entry (R271, R272), the engagement armed (X and REL) and the
last pass's master value with its source, the following, the switch armed (X and table), the disengagement armed (X) and the pass since
which the plan of one is requested (R279, R251), the superimposed profile and the entry whose plan it waits for, the exact output,
whether the last move has ended, the entries held before the pushes of the pass, the next entry's limits and PARAM_DEFERRED before a
change of the pass (R250), and PACT and VACT as they were before it (R277). -/
structure CasH where
  prof : Prof := {}
  move : Option Move := none
  q : List QEnt := []
  cmds : List (Nat × CasCmd) := []
  dmaxNext : Option Rat := none
  amaxNext : Option Rat := none
  armed : Option (Int × Bool) := none
  armM : Option (Nat × Nat × Int) := none
  eng : Option EngH := none
  sw : Option (Int × Nat) := none
  armOff : Option Int := none
  off : Option Nat := none
  sup : Prof := {}
  supReq : Option (Nat × QEnt) := none
  out : Rat := 0
  done : Bool := false
  qOld : Nat := 0
  chgOld : Option (Option Rat × Option Rat × Bool) := none
  act : Int × Int := (0, 0)
  deriving DecidableEq, Repr, Inhabited

/-- A group start waiting: its tick, the passes it has waited, and whether it starts in the pass under way (R275, R276). -/
structure GrpH where
  at_ : Option Nat := none
  waited : Nat := 0
  starting : Bool := false
  deriving DecidableEq, Repr

/-- A line-master order or segment (R290, R291): t_s in 2^-16 ns, p_s in 2^-24 counts, v_s and v_t in 2^-32 counts per ns,
α in 2^-56 counts per ns², and REANCHOR. -/
structure LmOrd where
  ts : Int := 0
  p : Int := 0
  v : Int := 0
  vt : Int := 0
  al : Nat := 0
  re : Bool := false
  deriving DecidableEq, Repr, Inhabited

/-- A line master: the segment in force, the orders pending, the tick of a prediction under way, and its value of the
last pass. -/
structure LmH where
  cur : LmOrd := {}
  pend : List LmOrd := []
  pred : Option Nat := none
  m : Int := 0
  vm : Int := 0
  am : Int := 0
  deriving DecidableEq, Repr, Inhabited

/-- Cascade as a whole: the tick of the pass under way, whether the cycle's pass has begun, the cam checks with the
tick of their start, how many line masters the image defines (R247), and the plans made in the pass (R251). -/
structure CasSysH where
  from_ : Option Nat := none
  done : Bool := false
  checks : List (Nat × Nat) := []
  lms : Nat := 0
  plans : Nat := 0
  deriving DecidableEq, Repr

/-! ### Stopping and homing (09_stops_homing.md) -/

/-- One limit or home input: the tick of the last raw change, and the consecutive record samples of the raw level. -/
structure InH where
  since : Nat := 0
  run : Nat := 0
  deriving DecidableEq, Repr

/-- An axis's stop and standstill: the class of the ramp running (1 STOP, 2 quick) and one to be planned, whether a fault
reaction, a request that ends in READY and an STO request (R310) were received, the cycles since the entry, whether the check
of R301 is open; cycles the error has exceeded FE_LIMIT, cycles at rest, cycles ENABLED at rest (R312); the inputs, the ticks
from which BLK_POS and BLK_NEG run out; and PSET of the last boundary. -/
structure StopH where
  cls : Nat := 0
  want : Nat := 0
  fault : Bool := false
  ready : Bool := false
  sto : Bool := false
  ended : Bool := false
  cycles : Nat := 0
  watch : Bool := false
  feRun : Nat := 0
  restRun : Nat := 0
  crRun : Nat := 0
  inP : InH := {}
  inN : InH := {}
  inH : InH := {}
  blkP : Nat := 0
  blkN : Nat := 0
  lastP : Int := 0
  deriving DecidableEq, Repr

/-- A homing under way (R317 to R324): the parameters read at START, the direction of the search and of the motion now, the
velocity wanted, what follows standstill (0 nothing, 1 leave, 2 search again, 3 leave again), the end result to give at rest (0 none), the travel
and the position of the last pass, the latch with the tick of its window's end, the accepted P_h, and the start of the dwell. -/
structure HomeH where
  on : Bool := false
  method : Nat := 0
  neg : Bool := false
  idxSw : Bool := false
  time : Nat := 0
  vfast : Rat := 0
  vslow : Rat := 0
  lims : Lims := {}
  offset : Int := 0
  range : Nat := 0
  torq : Nat := 0
  dirNeg : Bool := false
  want : Rat := 0
  planned : Rat := 0
  next : Nat := 0
  leaving : Bool := false
  endRes : Nat := 0
  travel : Rat := 0
  held : Bool := false
  latch : Option (Word48 × Nat) := none
  accept : Option Word48 := none
  narrowed : Bool := false
  dwell : Option Nat := none
  deriving DecidableEq, Repr

/-! ### Time (15_time.md) -/

/-- A PTP domain: off_d and rate_d (R513), good posts and posts beyond LOCK_THR in a row, the last accepted t2, and the
ticks of the last accepted post and of the entry into LOCKED. -/
structure DomH where
  off : Int := 0
  rate : Int := 0
  good : Nat := 0
  bad : Nat := 0
  t2 : Option Word48 := none
  lastPost : Nat := 0
  lockedAt : Nat := 0
  deriving DecidableEq, Repr

/-- A time comparator: the tick of its arming, a condition met at the arming (R528), the tick of its last firing, and
the end of its pulse (R530). -/
structure TtH where
  armedAt : Nat := 0
  late : Bool := false
  fired : Option Nat := none
  pulseEnd : Option Nat := none
  deriving DecidableEq, Repr

/-- An entry of the transmit timestamp queue (R522). -/
structure TsqE where
  id : Nat
  stamp : Word48
  deriving DecidableEq, Repr

/-- The Time unit: its domains, C as it stood at the tick of the last selection (R516), the selected domain with the
tick of its selection, the clock frozen in HOLDOVER with the tick of its entry, the line time at which the next boundary
is due (R505), its comparators, the timestamp queue, the levels of the GPIO pins comparators drive, the tick at which SYNC_OUT rose
while it is high (R700), and the tick of T48 = 0 (R503). -/
structure TimeH where
  from_ : Nat := 0
  doms : List (Nat × DomH) := []
  c0 : Int := 0
  cAt : Nat := 0
  sel : Option Nat := none
  selAt : Nat := 0
  frozen : Int × Int := (0, 0)
  holdAt : Nat := 0
  target : Int := 0
  tts : List (Nat × TtH) := []
  tsq : List TsqE := []
  gpio : Nat := 0
  syncOut : Option Nat := none
  deriving DecidableEq, Repr

/-! ### Mirage (16_mirage.md) -/

/-- A record awaiting grant (R538): its number, the tick and T48 time of its sample, value, whether it is a post-trigger
record, and its flags TRIG, GAP, FORCED, MASK, SUSPECT; whether it is a time anchor (R537). -/
structure MirRec where
  id : Nat
  tick : Nat
  t48 : Word48
  v : Word48
  post : Bool := false
  trig : Bool := false
  gap : Bool := false
  forced : Bool := false
  mask : Bool := false
  suspect : Bool := false
  abs : Bool := false
  deriving DecidableEq, Repr

/-- A capture channel: a write of ARM, DISARM or FORCE_TRIG not yet in effect with its tick; the end of the hold of R543; the tick
the previous acquisition ended and whether a dead time has been taken since the counters were cleared; the acquisition's
first slot with the length then in effect, pre-trigger records stored, their next offset, post records stored; the trigger
(T48 time, act tick, short), whether its record is still to come, the time of that record; triggers
missed in the re-arm and the first one's time; the last sample, the last value requested for storing, the tick of the last
record stored; whether the next sample is forced, whether it follows a loss, records
stored since arming; the mask's point and failures in a row; records awaiting grant and the next number; the last
level-tested sample; the cycle of arming and of the last sample; the tick of the last commit of its source with the results
seen; the tick of the last trigger acted on; the line last driven with the ticks of its start and end; the tick of the oldest unread streamed
record; an upload that has completed; the staged length of its ring (R540). -/
structure MirH where
  arm : Option Nat := none
  disarm : Option Nat := none
  force : Option Nat := none
  holdTo : Option Nat := none
  ended : Option Nat := none
  deadSeen : Bool := false
  a : Nat := 0
  len0 : Nat := 0
  pre : Nat := 0
  preOff : Nat := 0
  postN : Nat := 0
  trigT : Option (Word48 × Nat) := none
  short : Bool := false
  trigDue : Bool := false
  recT : Word48 := 0
  missed : Nat := 0
  missT : Word48 := 0
  last : Word48 := 0
  lastV : Word48 := 0
  lastTick : Option Nat := none
  force1 : Bool := false
  gap : Bool := false
  recs : Nat := 0
  j : Option Nat := none
  fails : Nat := 0
  waiting : List MirRec := []
  nextId : Nat := 0
  lvl : Option Word48 := none
  armCyc : Nat := 0
  sampled : Option Nat := none
  commit : Option Nat := none
  results : Nat := 0
  acted : Option Nat := none
  xtl : Option (Nat × Nat × Nat) := none
  unread : Option Nat := none
  done : Option Nat := none
  lenNew : Nat := 0
  deriving DecidableEq, Repr

/-! ### Sharing (04_shared_resources.md) -/

/-- A request waiting at a shared unit's arbiter (R122 to R127): its requester index, its arrival in the unit's
wait units and in fabric ticks, its cost in pledge units, whether it is served as metered whatever its class
(R139), whether it is a posted write, the access behind it, and an earlier refusal tick (R705). -/
structure ArbReq where
  r : Nat
  arrival : Nat
  tick : Nat
  cost : Nat
  metered : Bool := false
  posted : Bool := false
  agent : Nat := 0
  addr : Nat := 0
  limit : Option Nat := none
  tag : Nat := 0
  deriving DecidableEq, Repr

/-- An arbiter: the waiting requests in order of arrival, the deficits of R128, the service granted to each
requester in the cycle (R122), and each opportunistic requester's consecutive refusals (R125). -/
structure ArbH where
  waiting : List ArbReq := []
  deficit : List (Nat × Int) := []
  granted : List (Nat × Nat) := []
  refusals : List (Nat × Nat) := []
  deriving DecidableEq, Repr

/-! ### Supervisor cores, Sluice and mailboxes (18_cores_sluice_mailboxes.md) -/

/-- A work item (R587): its task, its flow or none, its argument and its place in the post order. -/
structure WorkItem where
  task : Nat
  flow : Option Nat
  arg : Nat
  seq : Nat
  deriving DecidableEq, Repr

/-- A Sluice task: the wait of R585 (mask, ALL mode, deadline), the item it holds, whether its wait has ended and
by timeout, and the tick at which it became READY. -/
structure TaskH where
  mask : Nat := 0
  all : Bool := false
  deadline : Option Nat := none
  item : Option WorkItem := none
  blocked : Bool := false
  woken : Bool := false
  timedOut : Bool := false
  ready : Nat := 0
  deriving DecidableEq, Repr

/-- A core: its outstanding dispatch read (R583), the tick of its dispatch, its watchdog count's start (R579),
the task cancelled under it (R592), and its architectural state as far as the spec fixes it (R574 to R577). -/
structure CoreH where
  reading : Option Nat := none
  dispatchedAt : Nat := 0
  wdogFrom : Nat := 0
  cancelled : Bool := false
  pc : Nat := 0
  x : List (Nat × Nat) := []
  mstatusMie : Bool := false
  mie : Nat := 0
  timerPending : Bool := false
  exc : Nat := 0
  deriving DecidableEq, Repr

/-- Sluice: the items held in post order, the next place in the order, the flows in service (R588), the GAP mark
owed to the next Caravan record (R594), and the staged length of the ring (R595). -/
structure SluiceH where
  queue : List WorkItem := []
  seq : Nat := 0
  busyFlows : List Nat := []
  gap : Bool := false
  cvnNew : Nat := 0
  deriving DecidableEq, Repr

/-- A mailbox: the tick of the last write (R600), whether the TIMEOUT for it has been given, and the agent whose wait was in the cycle
last reported on it (R608). -/
structure BoxH where
  wrote : Nat := 0
  told : Bool := false
  xwBy : Nat := 0
  deriving DecidableEq, Repr

/-! ### Spout (17_spout.md) -/

/-- A loop level (R562): first and last word of the body, iterations, index of the present one. -/
structure SptLoop where
  first : Nat
  last : Nat
  n : Nat
  idx : Nat
  deriving DecidableEq, Repr

/-- An LDE or STE in progress (R566): the external address, whether it loads, the X or Y word, what it held at the issue, and the
pointers as they stand after the access. -/
structure SptExt where
  addr : Nat
  load : Bool
  space : Nat
  word : Nat
  data : Nat := 0
  p : List Nat
  deriving DecidableEq, Repr

/-- A Spout job (R567, R568): what it was posted with, its context, repetitions still to run (0 none), ticks used, an access in
progress, whether it stops at its next interruptible point, and whether it only finishes a REP behind a closed weir (R561). -/
structure SptJob where
  task : Nat
  entry : Nat := 0
  evf : Nat := 0
  limit : Nat := 0
  eb : Nat := 0
  arg : Nat := 0
  pc : Nat := 0
  d : List Int := List.replicate 8 0
  acc : List Int := List.replicate 4 0
  p : List Nat := List.replicate 8 0
  m : List Nat := List.replicate 8 0
  sc : Nat := 0
  bex : Nat := 23
  exp : Nat := 0
  n : Bool := false
  z : Bool := false
  sat : Bool := false
  rep : Nat := 0
  loops : List SptLoop := []
  used : Nat := 0
  ext : Option SptExt := none
  stop : Bool := false
  dead : Bool := false
  deriving DecidableEq, Repr

/-- Spout: the running job and the tick of its last instruction's end, suspended jobs (last first), queued jobs, the tick from
which a job may start, each agent's SUB_A, SUB_EXT and SUB_ARG. -/
structure SpoutH where
  run : Option SptJob := none
  at_ : Nat := 0
  susp : List SptJob := []
  queue : List SptJob := []
  freeAt : Nat := 0
  subs : List (Nat × (Word48 × Word48 × Word48)) := []
  deriving DecidableEq, Repr

/-! ### Oasis (19_oasis_safety.md) -/

/-- A zone: an STO request from a fault reaction of one of its axes that is still to be taken (R310), the safety tick of entry
into SS1 and of its FIRST cause, the start of its SLS demand, its accepted resets, the SLS windows of the last 100 ms with their per mille, and
what it is marked for at the next cycle boundary (1 STO, 2 SS1; R627, R628). -/
structure ZoneH where
  axSto : Bool := false
  ss1At : Nat := 0
  firstAt : Nat := 0
  slsFrom : Option Nat := none
  resetCnt : Nat := 0
  windows : List (Nat × Nat) := []
  mark : Nat := 0
  deriving DecidableEq, Repr

/-- A safe input: consecutive samples in the safe state by channel, whether NEAR_DISC has counted this disagreement, and
whether the guard test has seen both channels safe. -/
structure SiH where
  runA : Nat := 0
  runB : Nat := 0
  near : Bool := false
  sawSafe : Bool := false
  deriving DecidableEq, Repr

/-- A safe output: the tick of its last command change and of its last test pulses by side. -/
structure SoH where
  changed : Nat := 0
  hs : Nat := 0
  ls : Nat := 0
  deriving DecidableEq, Repr

/-- A connection: the last SEQ sent; byte 2 of the last fresh container processed and of one that waits for a safety tick;
RESET_CNT of the last fresh one; a reset order; the tick of the last fresh container and those of SCRC failures. -/
structure ConnH where
  seqOut : Nat := 0
  b2 : Nat := 0
  rx : Option Nat := none
  resetCnt : Option Nat := none
  order : Bool := false
  freshAt : Nat := 0
  crc : List Nat := []
  deriving DecidableEq, Repr

/-- Oasis as a whole: the tick of the last safety tick and their number; a rail fault and a clock fault; the SRST pair (samples
with both channels low, with both high, with one high; whether it may give an edge, the tick its first channel rose, an edge
recognised); windows of the SLS monitors (their starts); the password check value, the ticks to which PWD_OK and the
lock last; the change log, newest first, and the entries Oasis has written to its device, newest first (R647); the net counts that Oasis
itself decodes at each encoder channel in the present window (R631). -/
structure OasH where
  last : Nat := 0
  n : Nat := 0
  railOut : Bool := false
  clkBad : Bool := false
  low : Nat := 0
  high : Nat := 0
  apart : Nat := 0
  armed : Bool := false
  first : Option Nat := none
  edge : Bool := false
  slsAt : List (Nat × Nat) := []
  pwdCheck : Nat := 0
  pwdTo : Option Nat := none
  lockTo : Option Nat := none
  log : List (List Byte) := []
  kept : List (List Byte) := []
  slsCnt : List (Nat × Int) := []
  deriving DecidableEq, Repr

/-! ### Host and management ports (20_host_ports.md) -/

/-- A transfer waiting on a DMA channel (R656): a Mirage channel's upload with its bytes and the RD it leads to, or a core's
copy of len bytes from src. -/
structure DmaReq where
  mirage : Option Nat := none
  rd : Nat := 0
  src : Nat := 0
  len : Nat := 0
  bytes : List Byte := []
  deriving DecidableEq, Repr

/-- A buffer returned to the host (R655): its host address and bytes, and bytes 12 to 15 of its descriptor. -/
structure DmaOut where
  index : Nat
  addr : Nat
  data : List Byte
  word : Nat
  deriving DecidableEq, Repr

/-- A DMA channel: the transfers waiting in order, the transfer in progress with the bytes still to send, whether it is cut
off (R658), whether the channel waits for a lent buffer, and the buffer last returned. -/
structure DmaH where
  waiting : List DmaReq := []
  current : Option DmaReq := none
  left : List Byte := []
  cut : Bool := false
  starved : Bool := false
  out : Option DmaOut := none
  deriving DecidableEq, Repr

/-- A posted Ethernet frame (R666). -/
structure EthPost where
  offset : Nat
  len : Nat
  stamp : Bool
  deriving DecidableEq, Repr

/-- A posted frame's transmission (R666): its bytes with the FCS, as they last left a port. -/
structure EthPort where
  posts : List EthPost := []
  sent : List Byte := []
  ingress : Nat := 0
  egress : Nat := 0
  deriving DecidableEq, Repr

/-- The host ports: MSI-X masks, pending bits and counts of messages sent (R654); the PCIe endpoint held in reset by
PERST_N, the tick at which PERST_N rose, whether training is enabled, and the identifiers of the HOST section (vendor,
subsystem vendor, subsystem, device; none before one is in force, R650); the TAP's instruction, the boundary pattern
preloaded and what drives the pins (0 the units, 1 the pattern, 2 released), the debug register's DATA and CODE (R667 to
R669); the fused KEY_HASH and whether its read-back differed (R93, R670); the Ethernet ports by number with their
latencies in fabric ticks (R511); and what the SPI target sent in its last transaction. -/
structure HostH where
  msixMasked : List Nat := []
  msixPending : List Nat := []
  msixSent : List (Nat × Nat) := []
  perst : Bool := false
  perstUp : Option Nat := none
  linkEnabled : Bool := false
  ids : Option (Nat × Nat × Nat × Nat) := none
  tapInstr : Nat := 0x01
  boundary : Nat := 0
  pinMode : Nat := 0
  dbgData : Nat := 0
  dbgCode : Nat := 0
  keyHash : Nat := 0
  keyBad : Bool := false
  eth : List (Nat × EthPort) := []
  spiOut : List Byte := []
  deriving DecidableEq, Repr

end Sys2Proof.Machine
end

