-- ==== Sys2Proof/Syntax.lean ====
section
/-! DEFINITION. The commands of the FLN-M192: one constructor for each row of spec/opcode_table.json, in its order, with the
row's operands.

Every command begins with dt, the fabric ticks that have passed since the command before it. Operands with one meaning
throughout: ag, the agent that makes an access (R120: 1 to 8 the cores, 9 PCIe, 10 SPI, 11 Spout, 12 Sluice, 13 Oasis, 14 the
service engine, 15 the peer head, 16 JTAG); addr, an address of the M192; v, the word written; n, k, c, p, g, j, l, t, z, o, i,
d, e, f, m and u, the index of the unit or register that the row is about: an axis, timer channel or mailbox (n), a core, weir,
node, comparator or rail (k), an encoder, Mirage, DMA or connection channel (c), a port (p), a group (g), a Jet (j), a latch or
line master (l), a Sluice task or cam table (t), a zone (z), an output (o), an input, comparator or limit input (i), a clock
domain (d), a forwarding entry (e), a flow (f), a mask (m), an arbitrated unit (u). -/
namespace Sys2Proof

/-- A command. -/
inductive Instr where

  /-- REGISTER_WRITE (R702): A write to a register that has no row of its own is judged by the access codes of its
  fields and takes effect whole or not at all. -/
  | registerWrite (dt ag addr : Nat) (v : Word48)
  /-- LOW_WORD_READ (R29): A 32-bit read of a slot's low word returns it and latches the slot's high word for that
  agent. -/
  | lowWordRead (dt ag addr : Nat)
  /-- HIGH_WORD_READ (R30): A 32-bit read of a high word returns the latched value and frees the latch, or returns the
  current high word when no latch is held. -/
  | highWordRead (dt ag addr : Nat)
  /-- LOW_WORD_WRITE (R31): A 32-bit write of a low word is staged for the agent without changing the register, and
  replaces any staged word of another slot. -/
  | lowWordWrite (dt ag addr w : Nat)
  /-- HIGH_WORD_WRITE (R32): A 32-bit write of a high word combines with the staged or current low word and updates
  the slot atomically. -/
  | highWordWrite (dt ag addr w : Nat)
  /-- NARROW_ACCESS (R28): An 8-bit or 16-bit access, or one that is not naturally aligned, returns ACCESS. n is
  its bytes; ty is 0 for a read, 1 for a write of v, 2 for an instruction fetch, 3 for an LR and 4 for an SC or
  AMO (R575). -/
  | narrowAccess (dt ag addr n ty v : Nat)
  /-- BASIN_LIVE_BANK_WRITE (R37): A write to a Basin live bank from outside the control plane returns ACCESS. -/
  | basinLiveBankWrite (dt ag addr : Nat) (v : BitVec 64)
  /-- CYCLE_BOUNDARY (R15): The cycle boundary and input instant of a cycle arrive, placed under R505 in a leading
  head, and every boundary action takes place. -/
  | cycleBoundary (dt : Nat)
  /-- SYNC_OUT_PULSE_END (R700): SYNC_OUT returns low 64 fabric ticks after the boundary. -/
  | syncOutPulseEnd (dt : Nat)
  /-- FEEDBACK_RECORD_COMPLETE (R136): A 16-byte feedback record completes at the head and releases the axis's cascade
  task to Jet time. -/
  | feedbackRecordComplete (dt p : Nat) (data : BitVec 128)
  /-- SCHEDULED_TASK_RELEASE (R136): A task not tied to a frame is released at the tick that the admission schedule
  assigns. -/
  | scheduledTaskRelease (dt n : Nat)
  /-- JET_GRANT (R194): The Jet-time arbiter grants a released task to the lowest free service position and the task
  starts RUNNING. -/
  | jetGrant (dt : Nat)
  /-- JET_TASK_END (R197): A Jet task ends after its cost in jet-ticks and becomes COMMITTED, HELD or REPEATED. -/
  | jetTaskEnd (dt j : Nat) (ecc : Bool)
  /-- JET_TIME_REFUSAL (R705): A metered Jet-time request is refused with DEFERRED_LIMIT at its earliest deadline and
  its task is REPEATED. -/
  | jetTimeRefusal (dt n : Nat)
  /-- COMMAND_FRAME_LAUNCH (R199): Packing of a node's command frame ends and the frame launches at the next symbol
  tick. -/
  | commandFrameLaunch (dt k : Nat)
  /-- DELAYED_COMMAND_LAUNCH (R452): A command frame that found its downlink busy starts 16 ns after the transmission
  in progress ends, counting DL_WAIT. -/
  | delayedCommandLaunch (dt k : Nat)
  /-- JET_CHECK_FAILURE (R210): A residue or parity check fails in a Jet, which leaves dispatch, REPEATs its axis
  and begins its self-test. chk is the check that failed. -/
  | jetCheckFailure (dt j chk : Nat)
  /-- JET_SELF_TEST_END (R211): A Jet's 960-tick self-test ends and the Jet is judged eligible or retired. -/
  | jetSelfTestEnd (dt j : Nat) (pass : Bool)
  /-- JET_SWAP (R215): A write of JET.CTL.SWAP = 1 schedules a standby swap into SWAP_POS. -/
  | jetSwap (dt ag : Nat)
  /-- JET_ROTATION (R216): After each ROT_PERIOD, a standby is swapped into position (ROT_POS + 1) mod 16 at the first
  boundary. -/
  | jetRotation (dt : Nat)
  /-- JET_CNT_CLR (R193): JET.CNT_CLR clears the Jet execution, arithmetic, turnaround and fault statistics and
  BUSY_MAX. -/
  | jetCntClr (dt ag : Nat)
  /-- FRAME_START (R444): The first symbol of a frame reaches a head port and the guardian admits it or counts it
  EARLY or LATE. -/
  | frameStart (dt p : Nat)
  /-- FRAME_HEADER (R416): The 8 header code groups are checked for format, CYC8 and owner, and a failing frame
  releases no record. good: each was a data code group. -/
  | frameHeader (dt p : Nat) (hdr : BitVec 64) (good : Bool)
  /-- FRAME_CHECK (R198): The FCS of a frame is matched in the tick of its last byte, and the frame commits or
  fails its check. rest follows the records received, fcs is the sequence received; ending is 0 with ED, 1 with ED
  missing or replaced, 2 where its first failure was an EE, 3 where it ended before its length. -/
  | frameCheck (dt p : Nat) (rest : List Byte) (fcs ending : Nat)
  /-- GUARDIAN_WINDOW_CLOSE (R200): A guardian window closes, and recomputes are released for a node whose frame
  did not start. kind is 0 for the slot of node k, 1 for its allocation in the dynamic segment, 2 for the ranging
  window of port p. -/
  | guardianWindowClose (dt p kind k : Nat)
  /-- FORWARD_COPY_START (R454): At WIN_START a forwarding entry sends its copy of the source frame, or counts MISS.
  -/
  | forwardCopyStart (dt e : Nat)
  /-- OUTPUT_INSTANT (R47): At OI a node applies latched commands or repeats the previous command and increments its
  command age. -/
  | outputInstant (dt : Nat)
  /-- COMMAND_FRAME_RECEIVED (R49): A drive receives a command frame and selects the channel whose commands it
  applies. -/
  | commandFrameReceived (dt : Nat)
  /-- CASCADE_PASS (R244): At CAS_START Cascade begins the pass that computes every axis's setpoints for the next
  cycle. -/
  | cascadePass (dt : Nat)
  /-- CASCADE_PASS_END (R245): The last stage of the Cascade pass ends. -/
  | cascadePassEnd (dt : Nat)
  /-- PLL_LOCK (R55): The root PLL locks and units other than the always-on domain and Oasis leave reset. -/
  | pllLock (dt : Nat)
  /-- PLL_LOSS_OF_LOCK (R57): A loss of lock forces the HB pins off, idles the transmitters and leads to a clock-
  fault chip reset. ref: the reference clock is still there. -/
  | pllLossOfLock (dt : Nat) (ref : Bool)
  /-- CLOCK_WINDOW_END (R56): An Oasis RC window of 1,024 periods ends and the fabric tick count is checked. -/
  | clockWindowEnd (dt count : Nat)
  /-- POWER_ON_RESET (R59): VDD_AON or VDDIO_AON falls below its fault threshold and the whole M192 is held in reset.
  -/
  | powerOnReset (dt : Nat)
  /-- SEQUENCER_START (R59): The sequencer starts once both always-on rails have been in their windows for 1 ms.
  inside is the ticks they have been there. -/
  | sequencerStart (dt inside : Nat)
  /-- SEQUENCER_STEP (R60): The next PWR_EN is asserted 500 µs after the previous step's PG and monitor are good.
  good is the ticks the previous step has been good. -/
  | sequencerStep (dt good : Nat)
  /-- PG_TIMEOUT (R61): A PG input that does not rise within 10 ms of its enable starts the reverse power-down towards
  FAULT_STOP. -/
  | pgTimeout (dt : Nat)
  /-- POWER_DOWN_STEP (R61): The next enable is deasserted 1 ms after the previous one during a power-down. -/
  | powerDownStep (dt : Nat)
  /-- RAIL_MEASUREMENT (R62): Every 10 µs each indexed rail is measured, and WARN is set beyond ±4 %. mv is the
  measurement in millivolts, pg the levels of PG0 to PG4. -/
  | railMeasurement (dt k mv pg : Nat)
  /-- RAIL_FAULT (R63): A ±8 % excursion reported for 2 µs forces HB pins off and starts a rail-fault chip reset with
  the rails cycled. -/
  | railFault (dt k : Nat)
  /-- FAULT_WAIT_END (R63): After the 100 ms pause of a rail fault, the stepped rails are sequenced up again. -/
  | faultWaitEnd (dt : Nat)
  /-- PMBUS_POLL (R65): Once per configured period the PMBus master polls each regulator. -/
  | pmbusPoll (dt : Nat)
  /-- PMBUS_REPLY (R66): A poll reply is stored unchanged in SYS.PMB_VAL, or ERR is set. data and pec are what
  device n answered to command c; ack: it acknowledged. -/
  | pmbusReply (dt n c data pec : Nat) (ack : Bool)
  /-- PMB_ALERT (R66): PMB_ALERT_N going low raises a Sluice event flag. -/
  | pmbAlert (dt : Nat)
  /-- RESET_N_LOW (R69): A low pulse on RESET_N of 1 µs or more causes a pin chip reset. low is the ticks it has
  been low so far; still: it is still low. -/
  | resetNLow (dt low : Nat) (still : Bool)
  /-- RESET_RELEASE (R86): Reset is released and the boot begins with the flash resets and the header reads. -/
  | resetRelease (dt : Nat)
  /-- SOFTWARE_RESET_REQUEST (R70): A write of SYS.RST_CTL with CHIP = 1 and KEY = 0xC1EA schedules a software chip
  reset. -/
  | softwareResetRequest (dt ag : Nat)
  /-- SOFTWARE_CHIP_RESET (R70): 1 µs after the request, the software chip reset begins. -/
  | softwareChipReset (dt : Nat)
  /-- WEIR_CLOSE (R76): CMD = CLOSE starts a unit's drain or changes the intent of a transition in progress. -/
  | weirClose (dt ag k owed : Nat)
  /-- WEIR_OPEN (R76): CMD = OPEN resets and reopens a closed unit, or latches RESTART_PENDING during a transition. -/
  | weirOpen (dt ag k : Nat)
  /-- WEIR_CYCLE (R76): CMD = CYCLE acts as CLOSE followed at once by OPEN. -/
  | weirCycle (dt ag k owed : Nat)
  /-- WEIR_POWER_OFF (R76): CMD = POWER_OFF drains a power-gatable unit and removes its power. -/
  | weirPowerOff (dt ag k owed : Nat)
  /-- WEIR_POWER_ON (R76): CMD = POWER_ON powers up a closed, unpowered unit without opening it. -/
  | weirPowerOn (dt ag k : Nat)
  /-- WEIR_CNT_CLR (R77): CNT_CLR = 1 clears DISCARD_CNT and ABORT_CNT of the weir. -/
  | weirCntClr (dt ag k : Nat)
  /-- DRAIN_COMPLETE (R78): A drain ends when all owed responses are issued and the pipelines have stopped. -/
  | drainComplete (dt k : Nat)
  /-- DRAIN_TIMEOUT (R78): At 10 µs the weir aborts the responses still owed, sets DRAIN_FORCED and closes. -/
  | drainTimeout (dt k : Nat)
  /-- UNIT_POWER_UP_COMPLETE (R64): A power-gated unit finishes its power-up time. -/
  | unitPowerUpComplete (dt k : Nat)
  /-- UNIT_RESET_COMPLETE (R83): The unit reset in RESTARTING ends and the unit reopens or waits for a boundary. -/
  | unitResetComplete (dt k : Nat) (pass : Bool)
  /-- LATE_REPLY_DISCARD (R79): A reply to a request issued before the weir left OPEN is discarded and counted in
  DISCARD_CNT. age is the ticks since the unit issued its request. -/
  | lateReplyDiscard (dt k age : Nat)
  /-- BOOT_HEADERS (R86): The header reads of both slots complete and the candidates are ordered. -/
  | bootHeaders (dt : Nat)
  /-- IMAGE_READ_COMPLETE (R97): The chosen image has been read and its layout, CRCs, digest and signature are
  checked. reread is the header's 64 bytes as the device gave them again in 8D-8D-8D mode (R87). -/
  | imageReadComplete (dt : Nat) (reread : List Byte)
  /-- UNIT_CONFIGURATION_COMPLETE (R704): Unit configuration has loaded the RWL fields, memories, Basin banks and
  tags. loads is what the sections hold, entry by entry; bad: a section holds what no unit can take; logOk: the
  safety log verifies. -/
  | unitConfigurationComplete (dt : Nat) (loads : List Machine.Load) (bad logOk : Bool)
  /-- STARTUP_ADMISSION_COMPLETE (R99): The start-up admission check completes with J taken from SYS.JET_RETIRED. -/
  | startupAdmissionComplete (dt : Nat)
  /-- SELF_TESTS_COMPLETE (R103): The comparator, Oasis and memory self-tests complete, acting on each outcome,
  possibly to HALTED. sram is 0 sound, 1 spare rows used, 2 none left; jets and cmps fail; zones is a mask of the
  zones an Oasis test fails. -/
  | selfTestsComplete (dt sram : Nat) (jets cmps : List Nat) (zones : Nat)
  /-- IMAGE_SWITCH_GO (R109): A write of IMG_CTL.GO = 1 accepts a switch order and starts verification of the target
  slot. -/
  | imageSwitchGo (dt ag : Nat) (v : Word48)
  /-- IMAGE_SWITCH_CANCEL (R113): CANCEL before the deadline discards the staged contents and refuses the order with
  CANCELLED. -/
  | imageSwitchCancel (dt ag : Nat)
  /-- IMAGE_VERIFY_COMPLETE (R109): Verification of the target ends and the restart-type sections are compared.
  loads is what its sections hold; logOk: the safety log verifies. -/
  | imageVerifyComplete (dt : Nat) (loads : List Machine.Load) (logOk : Bool)
  /-- IMAGE_STAGING_COMPLETE (R113): Staging of the live sections completes and the order becomes ARMED. -/
  | imageStagingComplete (dt : Nat)
  /-- IMAGE_SWITCH_DEADLINE (R113): 64 fabric ticks before cycle N an incomplete order is refused with LATE. -/
  | imageSwitchDeadline (dt : Nat)
  /-- PARTNER_ARMED (R115): The twin partner's arming of the same DIGEST for the same N arrives over the head link. -/
  | partnerArmed (dt n digest : Nat)
  /-- FLASH_READ (R117): OP = READ reads 256 bytes of a slot into the flash buffer. -/
  | flashRead (dt ag slot addr : Nat)
  /-- FLASH_PROGRAM (R117): OP = PROGRAM writes the buffer to a 256-byte page of a slot. -/
  | flashProgram (dt ag slot addr : Nat)
  /-- FLASH_ERASE (R117): OP = ERASE erases a 64 KiB sector of a slot. -/
  | flashErase (dt ag slot addr : Nat)
  /-- FLASH_OP_COMPLETE (R117): Status polling finds the device no longer busy and BUSY clears, ERR reporting a
  failure. -/
  | flashOpComplete (dt : Nat) (err : Bool)
  /-- FLASH_BUF_WRITE (R118): A write to SYS.FLASH_BUF stores image bytes, or returns BUSY during an operation. -/
  | flashBufWrite (dt ag i : Nat) (v : Word48)
  /-- ARBITRATION_REQUEST (R122): A request reaches a shared-unit arbiter and is classed pledged or metered.
  serverFree: a server is free at its tick; posted: a posted write; ag is the agent, 0 an internal unit. -/
  | arbitrationRequest (dt u r cost : Nat) (serverFree posted : Bool) (ag addr : Nat)
  /-- ARBITRATION_GRANT (R127): An arbiter grants a waiting request by class, deadline, deficit and pointer. -/
  | arbitrationGrant (dt u : Nat)
  /-- AGE_LIMIT_REFUSAL (R123): A metered request still waiting at its age limit is refused with DEFERRED_LIMIT. -/
  | ageLimitRefusal (dt u : Nat)
  /-- ADMISSION_CHECK_CMD (R141): A write of SHR.ADM_CTL.CHECK = 1 runs the admission check on the running
  configuration. -/
  | admissionCheckCmd (dt ag : Nat) (v : Word48)
  /-- ADMISSION_CHECK_COMPLETE (R137): An admission check ends, passing or refusing with the first failing test, and
  reports in ADM_STAT. -/
  | admissionCheckComplete (dt : Nat)
  /-- REQ_WAIT_CLR (R134): REQ_WAIT.CLR clears a requester's DEFER_CNT, REFUSE_CNT, LAST_CODE, STARVED and MAX_WAIT.
  -/
  | reqWaitClr (dt ag u r : Nat)
  /-- BOUND_MISS_CLR (R126): UNIT_ARB.CLR clears BOUND_MISS. -/
  | boundMissClr (dt ag u : Nat)
  /-- VLOG_CLR (R153): VLOG_CTL.CLR clears VALID in every entry, TOTAL and OVERWRITTEN and sets NEXT to 0. -/
  | vlogClr (dt ag : Nat)
  /-- STAGE_REQUEST (R161): A write of AXS[n].STAGE.REQ = 1 requests a staged-bank swap, refused with STRUCT, LATE or
  NEED_CYCLE or set PENDING. -/
  | stageRequest (dt ag n : Nat) (v : Word48)
  /-- STAGE_CANCEL (R167): CANCEL at least 64 fabric ticks before the selected boundary clears PENDING with CANCELLED.
  -/
  | stageCancel (dt ag n : Nat)
  /-- ENABLE (R172): An ENABLE command, pending until the boundary, enables the axis when its four conditions hold. -/
  | enable (dt ag n : Nat)
  /-- DISABLE (R171): A DISABLE command takes the axis to READY, through a stop when MOVING. -/
  | disable (dt ag n : Nat)
  /-- STOP (R299): A STOP command starts the STOP ramp of the axis. -/
  | stop (dt ag n : Nat)
  /-- QUICK_STOP (R297): A QUICK_STOP command starts the quick-stop ramp of the axis. -/
  | quickStop (dt ag n : Nat)
  /-- FAULT_RESET (R306): A FAULT_RESET command clears the inactive latched causes and returns the axis to READY when
  none remain active. -/
  | faultReset (dt ag n : Nat)
  /-- AGE_STAT_CLR (R177): AGE_STAT.CLR clears MAX_FB_AGE and STALE_CNT. -/
  | ageStatClr (dt ag n : Nat)
  /-- VLIM_CNT_CLR (R237): CS_FOC_STAT.CLR clears VLIM_CNT. -/
  | vlimCntClr (dt ag n : Nat)
  /-- MOVE_PUSH (R265): MV_CTL.PUSH = 1 copies the push values into a new move entry, or refuses with BUSY or
  PUSH_RES. -/
  | movePush (dt ag n : Nat)
  /-- MOVE_FLUSH (R269): MV_CTL.FLUSH = 1 removes the queued entries in its pass and leaves the active move running.
  -/
  | moveFlush (dt ag n : Nat)
  /-- CHANGE_APPLY (R270): CHG_CTL.APPLY = 1 orders new limits for the active move. -/
  | changeApply (dt ag n : Nat)
  /-- ENGAGE (R279): FOL_CTL.OP = ENGAGE engages gearing or a cam, at once or on crossing FOL_POS. -/
  | engage (dt ag n : Nat)
  /-- DISENGAGE (R279): FOL_CTL.OP = DISENGAGE ends the following and starts a VEL move to 0. -/
  | disengage (dt ag n : Nat)
  /-- CAM_SWITCH (R289): FOL_CTL.OP = SWITCH arms a cam-table switch at X, or refuses with SW_MISMATCH. -/
  | camSwitch (dt ag n : Nat)
  /-- FOLLOW_CANCEL (R289): FOL_CTL.CANCEL = 1 disarms an armed engagement or switch. -/
  | followCancel (dt ag n : Nat)
  /-- GROUP_GO (R275): CAS.GRP_CTL.GO = 1 starts the GSTART head entries of group g together. -/
  | groupGo (dt ag g : Nat)
  /-- CAM_DESCRIPTOR_WRITE (R284): A write to CAS.CAM[t] starts the table check, or returns LOCKED for a table in use.
  -/
  | camDescriptorWrite (dt ag t : Nat) (v : Word48)
  /-- CAM_CHECK_COMPLETE (R284): The cam table check ends, setting VALID or ERR. -/
  | camCheckComplete (dt t : Nat)
  /-- CAM_STORE_WRITE (R285): A write to the cam store is refused with LOCKED when it touches a table in use. -/
  | camStoreWrite (dt ag addr : Nat) (v : BitVec 64)
  /-- LINE_MASTER_PUSH (R294): O_CTL PUSH places a line-master order, or refuses it with LATE, ORDER, FULL, RANGE or
  DISCONT. -/
  | lineMasterPush (dt ag l : Nat)
  /-- LINE_MASTER_REANCHOR (R295): PUSH with REANCHOR accepts an order whose anchor differs, stepping the value at
  t_s. -/
  | lineMasterReanchor (dt ag l : Nat)
  /-- LINE_MASTER_CLEAR (R294): O_CTL CLEAR removes the pending line-master orders. -/
  | lineMasterClear (dt ag l : Nat)
  /-- LINE_MASTER_PREDICT (R295): A write of PR_NS starts the evaluation of M and V at the given line time. -/
  | lineMasterPredict (dt ag l : Nat) (v : Word48)
  /-- PREDICTION_DONE (R295): The prediction results appear in PR_P, PR_PF and PR_V with DONE set. -/
  | predictionDone (dt l : Nat)
  /-- STOP_TIMEOUT (R301): AT_REST not set within STOP_TMAX cycles of STOPPING raises STOP_TIMEOUT with reaction 3. -/
  | stopTimeout (dt n : Nat)
  /-- AT_REST_SET (R311): AT_REST sets after VSET = 0 and |VACT| ≤ SS_VTOL have held for SS_TIME cycles. -/
  | atRestSet (dt n : Nat)
  /-- CURRENT_REDUCTION (R312): After CR_DELAY at rest, the bounds of the LIMIT that writes S15 are narrowed to
  CR_LEVEL. -/
  | currentReduction (dt n : Nat)
  /-- DEBOUNCE_CHANGE (R313): A limit or home input's debounced level takes the raw level after DEBOUNCE, raising
  LIMIT causes and blocks. -/
  | debounceChange (dt n i : Nat)
  /-- LIMIT_BLOCK_RELEASE (R314): BLK_POS or BLK_NEG clears after the limit has been inactive for 50 ms. -/
  | limitBlockRelease (dt n i : Nat)
  /-- LIMIT_STAT_CLR (R315): LIM_STAT.CLR clears LAST_REFUSE and REFUSE_CNT. -/
  | limitStatClr (dt ag n : Nat)
  /-- HOMING_START (R317): HM_CTL.START = 1 starts homing by the configured method, or is refused with REFUSED_STATE.
  -/
  | homingStart (dt ag n : Nat)
  /-- HOMING_ABORT (R317): HM_CTL.ABORT = 1 ends homing with a deceleration at HM_DEC and RES = ABORTED. -/
  | homingAbort (dt ag n : Nat)
  /-- REFERENCE_EDGE (R320): A raw edge of the homing reference during the leave phase is counted in TOGGLES. -/
  | referenceEdge (dt n i : Nat) (level : Bool)
  /-- CAPTURE_WINDOW_END (R321): A capture window that ends unconfirmed rejects the latch and re-arms it. -/
  | captureWindowEnd (dt n : Nat)
  /-- HARD_STOP_DWELL_END (R323): Torque saturation at rest held for HM_TIME sets the HARD_STOP reference P_h := PACT.
  -/
  | hardStopDwellEnd (dt n : Nat)
  /-- ENCODER_EDGE (R329): An accepted A or B transition counts and is stamped, or records ILLEGAL. -/
  | encoderEdge (dt c : Nat) (a b : Bool)
  /-- HALL_CODE_CHANGE (R331): A Hall code change counts ±1 or records ILLEGAL. -/
  | hallCodeChange (dt c code : Nat)
  /-- INDEX_EVENT (R330): A rising edge of Z records IDX_REF or checks IDX_DEV. -/
  | indexEvent (dt c : Nat)
  /-- SERIAL_FRAME_START (R332): An SSI or BISS channel drives its first clock edge SER_LEAD before II. -/
  | serialFrameStart (dt c : Nat) (datLow : Bool)
  /-- SERIAL_FRAME_COMPLETE (R335): A serial frame completes, is checked and advances POS. -/
  | serialFrameComplete (dt c d : Nat)
  /-- SERIAL_TIMEOUT (R334): No start bit or idle within SER_TMO records TIMEOUT. -/
  | serialTimeout (dt c : Nat)
  /-- STANDSTILL_TIMEOUT (R343): No edge for T_SS makes the estimator report STANDSTILL and forget its edges. -/
  | standstillTimeout (dt c : Nat)
  /-- CHK_CLR (R338): FB_STAT.CHK_CLR = 1 ends the event-class feedback failures, or returns ACTIVE. -/
  | chkClr (dt ag n : Nat)
  /-- LATCH_ARM (R351): ARM of a position latch arms it from the next tick, or returns LOCKED while homing holds it.
  -/
  | latchArm (dt ag c l : Nat)
  /-- LATCH_DISARM (R353): DISARM of a position latch disarms it. -/
  | latchDisarm (dt ag c l : Nat)
  /-- LATCH_CAPTURE (R352): A source edge of an armed latch captures LAT_POS and LAT_TIME. src is the source,
  rising its edge. -/
  | latchCapture (dt c l src : Nat) (rising : Bool)
  /-- ENC_ERR_CLR (R334): ENC[c].ERR.CLR clears the channel's four error counters. -/
  | encErrClr (dt ag c : Nat)
  /-- PWM_PERIOD_BOUNDARY (R364): A timer channel reaches its period boundary and committed shadows transfer to live.
  -/
  | pwmPeriodBoundary (dt n : Nat)
  /-- SHADOW_WRITE (R367): A write of PER_SH, CMP_SH or CMP2_SH stages a shadow, or returns ACCESS for an owned group.
  -/
  | shadowWrite (dt ag n which : Nat) (v : Word48)
  /-- CHANNEL_COMMIT (R365): TC[n].CTL.COMMIT = 1 transfers the channel's shadows at the next eligible period
  boundary. -/
  | channelCommit (dt ag n : Nat)
  /-- GROUP_COMMIT (R365): SG[g].CTL.COMMIT = 1 commits the shadows of every channel of the group. -/
  | groupCommit (dt ag g : Nat)
  /-- COMPARE_EDGE (R360): A channel's command changes level at a compare position and passes through the gate guard.
  -/
  | compareEdge (dt n : Nat)
  /-- SHOOT_THROUGH_TRIP (R381): A shoot-through request lasting 500 fabric ticks trips the group with source SHOOT.
  -/
  | shootThroughTrip (dt n : Nat)
  /-- GROUP_ENABLE (R377): EN = 1 starts PRECHARGE, enters TRIPPED, or sets RESTART_PENDING in SHUTDOWN. -/
  | groupEnable (dt ag g : Nat)
  /-- GROUP_DISABLE (R376): EN = 0 drives the pins low and enters SHUTDOWN, or returns LOCKED while the owner drives.
  -/
  | groupDisable (dt ag g : Nat)
  /-- SHUTDOWN_END (R376): After 2 µs of SHUTDOWN the group enters OFF, or PRECHARGE when RESTART_PENDING. -/
  | shutdownEnd (dt g : Nat)
  /-- PRECHARGE_CMD (R373): SG[g].CTL.PRECHARGE = 1 reruns the precharge sequence, or returns LOCKED while driving. -/
  | prechargeCmd (dt ag g : Nat)
  /-- PRECHARGE_ON_END (R372): The PRE_ON interval ends and every pin is driven low for PRE_GAP. -/
  | prechargeOnEnd (dt g : Nat)
  /-- PRECHARGE_COMPLETE (R372): The PRE_GAP ends, PRECHARGED sets and the group enters RUN. -/
  | prechargeComplete (dt g : Nat)
  /-- PRECHARGE_EXPIRY (R373): PRE_VALID ms after the last low-side conduction, PRECHARGED clears. -/
  | prechargeExpiry (dt g : Nat)
  /-- HARD_TRIP (R385): A HARD crossing forces the group's pins low by the analog path and latches the trip. on:
  the output turns on; else it turns off. -/
  | hardTrip (dt k : Nat) (on : Bool)
  /-- FAST_QUALIFIED (R386): A FAST condition present for QF + 1 ticks becomes qualified. on: the condition is
  qualified; else it ends. -/
  | fastQualified (dt k : Nat) (on : Bool)
  /-- FAST_TRIP (R386): A qualified FAST condition trips the group in the first tick its blanking window is closed. -/
  | fastTrip (dt k : Nat)
  /-- TRIP_SNAPSHOT_CLOSE (R389): 64 fabric ticks after the trip the snapshot closes with FIRST and MULTI. -/
  | tripSnapshotClose (dt g : Nat)
  /-- TRIP_CLR (R390): SG[g].CTL.TRIP_CLR = 1 clears the trip when every source has been inactive long enough, else
  ACTIVE. -/
  | tripClr (dt ag g : Nat)
  /-- SINC3_RESULT (R392): A sinc3 window ends and the input's result is produced. -/
  | sinc3Result (dt i : Nat) (sum : Int)
  /-- SINC2_RESULT (R394): A sinc2 window ends and its sum is tested against OC_THR. -/
  | sinc2Result (dt i : Nat) (sum : Int)
  /-- SD_STUCK (R395): Data unchanged for 256 modulator clocks sets STUCK. -/
  | sdStuck (dt i : Nat)
  /-- COMPARATOR_SELF_TEST (R396): CMP[h].STAT.ST_CMD = 1 runs the comparator self-test, or returns LOCKED while
  driving. -/
  | comparatorSelfTest (dt ag k : Nat)
  /-- COMPARATOR_SELF_TEST_END (R396): The comparator self-test ends, a failure setting ST_FAIL and tripping the group
  with SELFTEST. -/
  | comparatorSelfTestEnd (dt k : Nat) (pass : Bool)
  /-- TC_CNT_CLR (R371): TC[n].STAT.CLR clears ST_CNT and BOOT_CNT. -/
  | tcCntClr (dt ag n : Nat)
  /-- SIGNAL_DETECTED (R401): Signal detected for 10 µs takes the port to ACQUIRE. -/
  | signalDetected (dt p : Nat)
  /-- LINK_ACQUIRED (R401): Clock recovery and 8 aligned idle ordered sets take the port to ADAPT. eq is the
  equaliser code the adaptation gives. -/
  | linkAcquired (dt p eq : Nat)
  /-- ACQUIRE_TIMEOUT (R401): 200 µs in ACQUIRE returns the port to DETECT. -/
  | acquireTimeout (dt p : Nat)
  /-- LINK_UP (R401): Adaptation and 4,096 error-free code groups take the port to UP. eq is the equaliser code
  the adaptation gives. -/
  | linkUp (dt p eq : Nat)
  /-- ADAPT_TIMEOUT (R401): 5 ms in ADAPT returns the port to DETECT and counts TRAIN_FAIL. -/
  | adaptTimeout (dt p : Nat)
  /-- SIGNAL_LOST (R402): Signal detect lost for 1 µs takes the link out of UP. -/
  | signalLost (dt p : Nat)
  /-- CODE_ERROR_LIMIT (R402): 16 invalid code groups or disparity errors within 256 take the link out of UP. -/
  | codeErrorLimit (dt p : Nat)
  /-- RETRAIN (R402): PORT[p].CTL.RETRAIN = 1 returns the port to DETECT. -/
  | retrain (dt ag p : Nat)
  /-- PORT_TEST (R403): Writing TEST = 1 or 2 while the weir is CLOSED starts PRBS7 or loopback. -/
  | portTest (dt ag p mode : Nat)
  /-- PORT_TEST_EXIT (R401): Writing TEST = 0 returns the port from TEST to DETECT. -/
  | portTestExit (dt ag p : Nat)
  /-- INVALID_CODE_GROUP (R406): An invalid code group or disparity error is received and counted. -/
  | invalidCodeGroup (dt p kind : Nat)
  /-- SYNC_RECEIVED (R410): A sync sequence is received, checked and used to place the node's cycle boundary. d is
  its code groups, good: each was valid; sub is its arrival within the tick in 1/16 ns. -/
  | syncReceived (dt p : Nat) (d : List Byte) (good : Bool) (sub : Nat)
  /-- SYNC_MISSING (R438): An expected sync does not arrive, and SYNC_LOSS consecutive misses end integration. -/
  | syncMissing (dt : Nat) (b : Bool)
  /-- REPEAT_START (R426): A drive begins repeating a frame or sync between an uplink and a downstream port. sync:
  it is a sync; res is its delay in 1/16 ns; d is what is repeated, len its code groups. -/
  | repeatStart (dt p : Nat) (sync : Bool) (res : Nat) (d : List Byte) (len : Nat)
  /-- REPEAT_CUT (R430): An upstream repeat still running 20 ns before the drive's own frame is ended with EE. -/
  | repeatCut (dt o : Nat)
  /-- PORT_CNT_CLR (R417): PORT[p].CNT_CLR clears the port's error and frame counters. -/
  | portCntClr (dt ag p : Nat)
  /-- FEEDBACK_FRAME_SEND (R436): An integrated drive starts its feedback frame on both uplinks at its nominal
  instant. -/
  | feedbackFrameSend (dt : Nat)
  /-- OWN_FRAME_END (R450): A drive ends its own frame with EE when it would still run at the window close. -/
  | ownFrameEnd (dt p : Nat)
  /-- RANGE_REQUEST_SEND (R441): A node in RANGING sends a RANGE_REQ in cycles matching its chain position. -/
  | rangeRequestSend (dt : Nat) (b : Bool)
  /-- RANGE_REQUEST_ADMIT (R441): The head admits a RANGE_REQ in the ranging window. -/
  | rangeRequestAdmit (dt p : Nat)
  /-- RANGE_RESPONSE_SEND (R441): The head sends the RANGE_RSP with RES at its fixed offset. -/
  | rangeResponseSend (dt p : Nat)
  /-- RANGE_RESPONSE_RECEIVED (R442): A node computes D from a RANGE_RSP and completes ranging on two agreeing
  results. -/
  | rangeResponseReceived (dt sub : Nat)
  /-- RANGING_TIMEOUT (R442): No RANGE_RSP within 32 cycles counts RANGE_FAIL and returns to LISTEN. -/
  | rangingTimeout (dt : Nat) (b : Bool)
  /-- COMMAND_LOSS (R448): 8 consecutive cycles without a command frame end a drive's integration. -/
  | commandLoss (dt : Nat)
  /-- FLOW_POST (R460): FLOW[f].TX.POST = 1 queues a dynamic frame, or returns BUSY, OFFLINE or ACCESS. -/
  | flowPost (dt ag f : Nat) (v : Word48)
  /-- DYNAMIC_FRAME_SEND (R457): A granted dynamic frame starts at allocation start + APO. -/
  | dynamicFrameSend (dt f : Nat)
  /-- UPLINK_FRAME_SEND (R458): A node sends one frame in its uplink allocation. -/
  | uplinkFrameSend (dt : Nat)
  /-- DYNAMIC_FRAME_STORE (R461): An admitted dynamic frame of type 4 or 5 is stored in the receive ring, or dropped.
  -/
  | dynamicFrameStore (dt : Nat)
  /-- SERVICE_REQUEST (R464): A SERVICE_REQ reaches the service engine, which holds it or answers BUSY. -/
  | serviceRequest (dt : Nat)
  /-- SERVICE_RESPONSE (R464): The service engine completes a request and answers with CODE and data. -/
  | serviceResponse (dt : Nat)
  /-- NET_CNT_CLR (R447): NET.CNT_CLR clears the node, forwarding and RX_DROP counters. -/
  | netCntClr (dt ag : Nat)
  /-- LISTEN_END (R465): A head that hears no other head for 2 × (1 + HEAD_ID) cycles enters COLD. -/
  | listenEnd (dt : Nat)
  /-- COLD_START_COMPLETE (R466): After 8 cycles of COLD without collision the head enters RUN. -/
  | coldStartComplete (dt : Nat)
  /-- COLLISION (R467): A head in COLD hears another head's cold start and backs off. -/
  | collision (dt id : Nat)
  /-- BACKOFF_END (R467): After HEAD_ID + 1 silent cycles the head returns to LISTEN, or stays STOPPED after attempt
  8. -/
  | backoffEnd (dt : Nat)
  /-- COLD_START_RETRY (R467): NET.CS_CTL.RETRY = 1 leaves STOPPED, FOREIGN or BLOCKED for LISTEN. -/
  | coldStartRetry (dt ag : Nat)
  /-- COLD_START_ECHO (R469): A drive copies a valid COLD_START frame onto its other uplink. -/
  | coldStartEcho (dt : Nat)
  /-- COLD_START_BLOCK (R470): A head in RUN hearing a COLD_START answers with ATTEMPT = 0xFF for 16 cycles. -/
  | coldStartBlock (dt id : Nat)
  /-- FOREIGN_HEAD (R471): A non-twin head hearing another head stays in LISTEN with FOREIGN set. -/
  | foreignHead (dt id : Nat)
  /-- STATUS_SEND (R479): Each twin head sends its STATUS frame 56 ns after the boundary. -/
  | statusSend (dt : Nat)
  /-- STATUS_RECEIVED (R477): A head-link STATUS frame from the partner is received. -/
  | statusReceived (dt : Nat)
  /-- DIGEST_SEND (R479): At STATIC_START each head sends the DIGEST of the previous cycle. -/
  | digestSend (dt : Nat)
  /-- DIGEST_RECEIVED (R485): The partner's DIGEST is compared axis by axis with the head's own. -/
  | digestReceived (dt : Nat)
  /-- DIGEST_MISS (R485): A DIGEST missing by the end of cycle N + 1 counts DIG_MISS. -/
  | digestMiss (dt : Nat)
  /-- STANDBY_ENTRY (R501): VERIFY_CYCLES consecutive matching cycles take a joining head to STANDBY. -/
  | standbyEntry (dt : Nat)
  /-- COPY_SEND (R487): The leader sends the snapshot of a flagged axis in two COPY frames. -/
  | copySend (dt : Nat)
  /-- COPY_LOAD (R488): 64 fabric ticks before STATIC_START the follower writes a complete copy into the axis, or
  discards it. -/
  | copyLoad (dt : Nat)
  /-- MIRROR_RECEIVED (R478): A MIRROR frame's ORDER records are performed in SEQ order and its ACKs taken. -/
  | mirrorReceived (dt : Nat)
  /-- MIRROR_RETRANSMIT (R478): An order without an ACK after 2 cycles is sent again. -/
  | mirrorRetransmit (dt : Nat)
  /-- ABDICATION (R495): A leader detecting an abdication cause sets ABDICATE, sends an abdication STATUS and leaves
  LEADER. -/
  | abdication (dt c : Nat)
  /-- HANDOVER_ARM (R497): TWN.CTL.HANDOVER = 1 arms a handover at HO_CYCLE.N. -/
  | handoverArm (dt ag : Nat)
  /-- DEAFNESS_EVALUATION (R496): At the end of the static segment each head counts the branches deaf to each channel.
  -/
  | deafnessEvaluation (dt : Nat)
  /-- HEAD_LINK_LOSS (R499): No valid STATUS for 4 cycles, or both links down, puts the follower in UNCHECKED. -/
  | headLinkLoss (dt : Nat)
  /-- RESYNC (R501): TWN.CTL.RESYNC = 1 returns a follower to PULLING. -/
  | resync (dt ag : Nat)
  /-- PULL_SEND (R501): The leader sends a PULL frame in free head-link time. -/
  | pullSend (dt p : Nat)
  /-- PULL_RECEIVED (R501): A joining head stores a PULL frame's data. -/
  | pullReceived (dt : Nat)
  /-- TWIN_CNT_CLR (R486): TWN.CTL.CNT_CLR clears CNT0 to CNT2. -/
  | twinCntClr (dt ag : Nat)
  /-- PTP_POST (R513): DOM[d].M_CTL.POST = 1 posts a measurement that the servo accepts, steps or ignores as STALE. -/
  | ptpPost (dt ag d : Nat)
  /-- DOMAIN_TIMEOUT (R514): A domain without an accepted post for 3 s becomes LOST. -/
  | domainTimeout (dt d : Nat)
  /-- DOMAIN_REVERT (R515): PREF LOCKED for REVERT_S seconds is selected again. -/
  | domainRevert (dt : Nat)
  /-- HOLDOVER_LIMIT (R520): HOLDOVER lasting HOLD_MAX seconds sets LOST_SYNC. -/
  | holdoverLimit (dt : Nat)
  /-- TIMESTAMP_READ (R522): A read of TIM.TSQ_ID removes the head entry and places its stamp in TSQ_TIME. -/
  | timestampRead (dt ag : Nat)
  /-- TSQ_CLR (R523): TSQ_STAT.CLR clears LOST. -/
  | tsqClr (dt ag : Nat)
  /-- COMPARATOR_ARM (R528): CTL.ARM = 1 arms a time comparator, firing next tick with LATE if already met. -/
  | comparatorArm (dt ag i : Nat)
  /-- COMPARATOR_DISARM (R529): CTL.DISARM = 1 disarms a time comparator. -/
  | comparatorDisarm (dt ag i : Nat)
  /-- COMPARATOR_FIRE (R526): An armed comparator's condition holds and it fires its kind's action. -/
  | comparatorFire (dt : Nat)
  /-- PULSE_END (R530): A comparator's GPIO pulse ends PULSE_W ticks after its firing. -/
  | pulseEnd (dt i : Nat)
  /-- MIRAGE_SAMPLE (R533): A Mirage channel samples its source at its rate and decides whether to store a record.
  pins holds the levels of the pins it may sample. -/
  | mirageSample (dt c pins : Nat)
  /-- ABS_RECORD (R537): When DT would exceed 2^32 − 1 an ABS record is stored. -/
  | absRecord (dt c : Nat)
  /-- RING_STAGE (R540): RING_CTL.STAGE = 1 stages LEN_NEW and sets STAGED. -/
  | ringStage (dt ag c len : Nat)
  /-- MIRAGE_ARM (R543): CTL.ARM = 1 enters REARM or ROLL. -/
  | mirageArm (dt ag c : Nat)
  /-- MIRAGE_DISARM (R543): CTL.DISARM = 1 enters IDLE. -/
  | mirageDisarm (dt ag c : Nat)
  /-- FORCE_TRIG (R546): CTL.FORCE_TRIG = 1 triggers the channel in the next tick. -/
  | forceTrig (dt ag c : Nat)
  /-- REARM_HOLD_END (R543): REARM_HOLD µs after an acquisition end, the channel may enter PRE. -/
  | rearmHoldEnd (dt c : Nat)
  /-- PRE_ENTRY (R543): Free space of at least ACQ_LEN takes a channel in REARM to PRE. -/
  | preEntry (dt c : Nat)
  /-- TRIGGER_ACT (R547): A trigger reaches its act tick and acts by the channel's state. -/
  | triggerAct (dt c : Nat) (rise : Bool)
  /-- POST_TIMEOUT (R542): POST_TMAX µs after the trigger the acquisition ends. -/
  | postTimeout (dt c : Nat)
  /-- XTL_RELEASE (R548): After XTL_W µs Mirage releases the cross-instrument line. -/
  | xtlRelease (dt c : Nat)
  /-- STREAM_UPLOAD (R553): In ROLL with UPL = 2 a block of records is uploaded when 512 are unread or 1 ms passes. -/
  | streamUpload (dt c : Nat)
  /-- UPLOAD_COMPLETE (R553): An upload transfer completes and RD advances. -/
  | uploadComplete (dt c : Nat)
  /-- MIRAGE_CNT_CLR (R538): CTL.CNT_CLR clears CNT0, CNT1 and DEAD. -/
  | mirageCntClr (dt ag c : Nat)
  /-- MASK_CFG_WRITE (R551): A write to MASK[m].CFG or its table returns LOCKED while a selecting channel is active.
  -/
  | maskCfgWrite (dt ag m : Nat) (v : Word48)
  /-- SPOUT_POST (R567): SUB_GO = 1 posts a Spout job for the core's dispatched task, or returns ACCESS or BUSY. -/
  | spoutPost (dt ag : Nat)
  /-- SPOUT_JOB_START (R568): A granted job starts with PC := ENTRY and D0 := ARG. -/
  | spoutJobStart (dt : Nat)
  /-- SPOUT_PREEMPTION (R570): A pledged release suspends the running job at its next interruptible point. -/
  | spoutPreemption (dt : Nat)
  /-- SPOUT_JOB_TIMEOUT (R572): A job exceeding LIMIT ticks stops with TIMEOUT. -/
  | spoutJobTimeout (dt : Nat)
  /-- EXT_RESPONSE (R566): The response to an LDE or STE arrives, stopping the job with EXT on a refusal. -/
  | extResponse (dt t : Nat) (deny : Bool)
  /-- SPOUT_CNT_CLR (R572): SPT.CNT_CLR clears CNT. -/
  | spoutCntClr (dt ag : Nat)
  /-- PROGRAM_WORD_WRITE (R557): An external write to program words of P memory returns LOCKED unless Spout is CLOSED.
  -/
  | programWordWrite (dt ag addr : Nat) (v : BitVec 64)
  /-- NOP (R560): Spout instruction that does nothing. -/
  | nop (dt : Nat) (ecc : Bool)
  /-- LD (R560): Spout instruction that loads a data register from memory. -/
  | ld (dt : Nat) (ecc : Bool)
  /-- ST (R560): Spout instruction that stores a data register to X or Y memory. -/
  | st (dt : Nat) (ecc : Bool)
  /-- LDI (R560): Spout instruction that loads an immediate into a data register. -/
  | ldi (dt : Nat) (ecc : Bool)
  /-- LPI (R560): Spout instruction that loads a pointer with an address. -/
  | lpi (dt : Nat) (ecc : Bool)
  /-- LDC (R560): Spout instruction that loads a pointer or modifier from P memory. -/
  | ldc (dt : Nat) (ecc : Bool)
  /-- ADDP (R558): Spout instruction that updates a pointer by a modifier. -/
  | addp (dt : Nat) (ecc : Bool)
  /-- MPY (R560): Spout instruction that sets an accumulator to a product. -/
  | mpy (dt : Nat) (ecc : Bool)
  /-- MAC (R560): Spout instruction that adds a product to an accumulator. -/
  | mac (dt : Nat) (ecc : Bool)
  /-- MSU (R560): Spout instruction that subtracts a product from an accumulator. -/
  | msu (dt : Nat) (ecc : Bool)
  /-- MXY (R560): Spout instruction that accumulates an X × Y product. -/
  | mxy (dt : Nat) (ecc : Bool)
  /-- MXP (R560): Spout instruction that accumulates X × c and Y × c into two accumulators. -/
  | mxp (dt : Nat) (ecc : Bool)
  /-- CLR (R560): Spout instruction that clears an accumulator. -/
  | clr (dt : Nat) (ecc : Bool)
  /-- SETA (R560): Spout instruction that sets an accumulator from a data register. -/
  | seta (dt : Nat) (ecc : Bool)
  /-- ADDA (R560): Spout instruction that adds one accumulator to another. -/
  | adda (dt : Nat) (ecc : Bool)
  /-- SUBA (R560): Spout instruction that subtracts one accumulator from another. -/
  | suba (dt : Nat) (ecc : Bool)
  /-- ASH (R560): Spout instruction that shifts an accumulator. -/
  | ash (dt : Nat) (ecc : Bool)
  /-- ABSA (R560): Spout instruction that takes an accumulator's magnitude. -/
  | absa (dt : Nat) (ecc : Bool)
  /-- RND (R560): Spout instruction that reduces an accumulator to a data register with shift K. -/
  | rnd (dt : Nat) (ecc : Bool)
  /-- RNDS (R560): Spout instruction that reduces an accumulator with shift SC. -/
  | rnds (dt : Nat) (ecc : Bool)
  /-- PKD (R562): Spout instruction that keeps a peak and the iteration index of the innermost DO. -/
  | pkd (dt : Nat) (ecc : Bool)
  /-- BFLY (R564): Spout instruction that computes a radix-2 butterfly and updates BEX. -/
  | bfly (dt : Nat) (ecc : Bool)
  /-- BSCL (R565): Spout instruction that sets SC from BEX and accumulates EXP. -/
  | bscl (dt : Nat) (ecc : Bool)
  /-- BCLR (R560): Spout instruction that resets BEX, SC and EXP. -/
  | bclr (dt : Nat) (ecc : Bool)
  /-- REP (R561): Spout instruction that repeats the next instruction N times, or stops with REP_LIMIT. -/
  | repeatNext (dt : Nat) (ecc : Bool)
  /-- DO (R562): Spout instruction that runs a body of instructions N times, nesting four deep. -/
  | doLoop (dt : Nat) (ecc : Bool)
  /-- B (R560): Spout instruction that branches on a condition. -/
  | branch (dt : Nat) (ecc : Bool)
  /-- HALT (R572): Spout instruction that ends the job with DONE. -/
  | halt (dt : Nat) (ecc : Bool)
  /-- LDE (R566): Spout instruction that loads an external word through the interconnect. -/
  | lde (dt : Nat) (ecc : Bool)
  /-- STE (R566): Spout instruction that stores an external word through the interconnect. -/
  | ste (dt : Nat) (ecc : Bool)
  /-- ILLEGAL (R560): An undefined or malformed Spout instruction word stops the job with ILLEGAL. -/
  | illegal (dt : Nat) (ecc : Bool)
  /-- DISPATCH_READ (R582): A core's read of CORE[k].DISPATCH presents its eligible READY tasks to the unit-8 arbiter.
  -/
  | dispatchRead (dt ag k : Nat)
  /-- DISPATCH_GRANT (R583): A task is granted to the reading core, which receives the dispatch word. -/
  | dispatchGrant (dt k : Nat)
  /-- DISPATCH_DEADLINE (R583): An outstanding dispatch read returns 0 after DISP_DL ticks or on a pending interrupt.
  -/
  | dispatchDeadline (dt k : Nat)
  /-- COMPLETE (R584): DONE.OP = COMPLETE finishes the item and frees its flow. -/
  | complete (dt ag k : Nat)
  /-- BLOCK (R584): DONE.OP = BLOCK makes the task BLOCKED on its wait mask. -/
  | block (dt ag k mask : Nat) (all : Bool)
  /-- YIELD (R584): DONE.OP = YIELD returns the item to its place and makes the task READY. -/
  | yield (dt ag k : Nat)
  /-- WAIT_TIMEOUT (R585): A BLOCKED wait ends WAIT_TMO ticks after the BLOCK write with TIMEOUT. -/
  | waitTimeout (dt t : Nat)
  /-- FLAG_SET (R586): A write of SLU.TASK[t].FLAG_SET sets task flags, or returns OFFLINE. -/
  | flagSet (dt ag t bits : Nat)
  /-- FLAG_CLR (R586): A write of FLAG_CLR clears task flags. -/
  | flagClr (dt ag t bits : Nat)
  /-- WORK_POST (R587): A write of SLU.POST posts a work item, or returns OFFLINE, ACCESS or BUSY. -/
  | workPost (dt ag : Nat) (v : Word48)
  /-- CARAVAN_STAGE (R595): CVN_CTL.STAGE = 1 stages a new Caravan ring length. -/
  | caravanStage (dt ag : Nat) (v : Word48)
  /-- MACHINE_TIMER_INTERRUPT (R576): T48 reaching CORE[k].MTIMECMP makes the core's timer interrupt pending. -/
  | machineTimerInterrupt (dt k : Nat)
  /-- WATCHDOG_EXPIRY (R579): A core not kicked for PERIOD µs has its weir cycled. -/
  | watchdogExpiry (dt k : Nat)
  /-- WATCHDOG_KICK (R579): WDOG.KICK = 1 restarts the watchdog count. -/
  | watchdogKick (dt ag k : Nat) (v : Word48)
  /-- MAILBOX_WRITE (R596): The sender's write of a point-to-point box fills it or overwrites with COLLISION. -/
  | mailboxWrite (dt ag n : Nat) (v : Word48)
  /-- SHARED_MAILBOX_WRITE (R597): A lock owner's write of a shared box fills it, or returns LOCKED or BUSY. -/
  | sharedMailboxWrite (dt ag n : Nat) (v : Word48)
  /-- MAILBOX_READ (R598): The receiver's read of DATA returns the word and empties a full box. -/
  | mailboxRead (dt ag n : Nat)
  /-- MAILBOX_TIMEOUT (R600): A box still full TMO_US after the last write sets TIMEOUT. -/
  | mailboxTimeout (dt n : Nat)
  /-- MAILBOX_WAIT (R607): A write of MB[n].WAIT declares or ends a wait for the box to empty. -/
  | mailboxWait (dt ag n : Nat) (wait : Bool)
  /-- CROSSWAIT_DETECTION (R608): Every 256 ns the detector looks for cycles of waits and reports them. -/
  | crosswaitDetection (dt : Nat)
  /-- LOCK_READ (R603): A read of LK[n] acquires a free lock or returns the owner's number. -/
  | lockRead (dt ag n : Nat)
  /-- LOCK_WRITE (R604): A write of LK[n] by its owner frees the lock. -/
  | lockWrite (dt ag n : Nat) (v : Word48)
  /-- LOCK_FORCE (R604): LK_STAT.FORCE = 1 with the key frees the lock. -/
  | lockForce (dt ag n : Nat) (v : Word48)
  /-- DOORBELL_SET (R606): A write of DB[a].SET rings doorbell bits of agent a. -/
  | doorbellSet (dt ag a bits : Nat)
  /-- DOORBELL_CLEAR (R606): Agent a clears its doorbell bits by writing 1s to PEND. -/
  | doorbellClear (dt ag a bits : Nat)
  /-- SAFETY_TICK (R609): Every 100 µs Oasis evaluates its inputs, outputs, connections and zones in both
  channels. si holds the levels of SI0_A to SI15_A and, from bit 16, of SI0_B to SI15_B; rb the high-side and,
  from bit 8, the low-side readbacks; edm the EDM inputs; srst SRST_A and SRST_B; mis: the two channels differ. -/
  | safetyTick (dt si rb edm srst : Nat) (mis : Bool)
  /-- DISCREPANCY_FAULT (R616): The discrepancy counter reaching N raises DISCREPANCY in the zone. -/
  | discrepancyFault (dt i : Nat)
  /-- SS1_TIMEOUT (R626): SS1_T ms after entry into SS1 the zone enters STO. -/
  | ss1Timeout (dt z : Nat)
  /-- TEST_PULSE (R621): An on output's switch is pulsed off and read back, failing with SO_TEST. high: the high-
  side switch; pass: the readback followed. -/
  | testPulse (dt o : Nat) (high pass : Bool)
  /-- EDM_TIMEOUT (R623): An EDM input not at its expected level within EDM_T raises EDM. -/
  | edmTimeout (dt o : Nat)
  /-- SLS_DELAY_END (R630): An SLS demand persisting SLS_DLY makes the zone's SLS active. -/
  | slsDelayEnd (dt z : Nat)
  /-- SLS_WINDOW_END (R631): An SLS window ends and its count above LIM raises SLS. -/
  | slsWindowEnd (dt c : Nat)
  /-- SRST_EDGE (R634): A valid rising edge of the SRST pair is recognised. -/
  | srstEdge (dt : Nat)
  /-- SRST_STUCK (R634): SRST channels held at 1 for 5 s or disagreeing for 1 s become STUCK. -/
  | srstStuck (dt : Nat)
  /-- OASIS_RAIL_FAULT (R612): An Oasis rail outside ±8 % for 2 µs forces outputs off and raises RAIL. out:
  outside; else inside again. -/
  | oasisRailFault (dt : Nat) (out : Bool)
  /-- CONTAINER_RECEIVED (R638): A safety container is judged fresh or counted as an error. -/
  | containerReceived (dt : Nat)
  /-- CONNECTION_WATCHDOG (R639): WD_T without a fresh container makes the connection FAILED. -/
  | connectionWatchdog (dt c : Nat)
  /-- ZONE_REQUEST (R635): A write of OAS.ZONE[z].CTL sets or withdraws the software STO, SS1 or SLS demand. -/
  | zoneRequest (dt ag z : Nat) (v : Word48)
  /-- PASSWORD_PRESENT (R645): PWD_CTL.PRESENT = 1 checks the password, setting PWD_OK or counting FAILS. -/
  | passwordPresent (dt ag : Nat) (v : Word48)
  /-- PASSWORD_CLEAR (R645): PWD_CTL.CLEAR = 1 ends PWD_OK. -/
  | passwordClear (dt ag : Nat)
  /-- PASSWORD_EXPIRY (R645): PWD_OK ends 600 s after a match. -/
  | passwordExpiry (dt : Nat)
  /-- PRESENT_LOCK_END (R645): 60 s after the third mismatch, PRESENT is accepted again. -/
  | presentLockEnd (dt : Nat)
  /-- SLS_PEAK_CLR (R631): SLS[c].STAT.CLR clears PEAK_PM. -/
  | slsPeakClr (dt ag c : Nat)
  /-- PCIE_REQUEST (R651): A PCIe request through BAR0 or BAR2 is an access by agent 9, refused with Completer
  Abort. op is 0 for a read and 1 for a posted write through BAR0, 5 and 6 through BAR2, 2 and 3 to mask and
  unmask MSI-X vector addr, 4 to enable bus mastering. -/
  | pcieRequest (dt op addr len : Nat) (data : List Byte)
  /-- PCIE_LINK_RESET (R653): A hot reset, link-down or loss of bus mastering resets the endpoint and the DMA
  channels. -/
  | pcieLinkReset (dt kind : Nat)
  /-- PERST (R701): PERST_N low holds the endpoint and DMA in reset until 1 ms after it rises. -/
  | perst (dt : Nat) (level : Bool)
  /-- DMA_POST (R657): A core's write of HST.DMA[c].POST queues a copy, or returns ACCESS, BUSY or OFFLINE. -/
  | dmaPost (dt ag c : Nat) (v : Word48)
  /-- DMA_ENABLE (R655): A write of CTL.EN starts or stops the channel, resetting NEXT on 0 to 1. -/
  | dmaEnable (dt ag c : Nat) (v : Word48)
  /-- DMA_TRANSFER_START (R656): A channel takes the next transfer and fills lent buffers in turn. -/
  | dmaTransferStart (dt c : Nat) (own : Bool)
  /-- DMA_BUFFER_RETURN (R655): A filled buffer is returned with OWN = 0, USED and END. addr, len and irq are
  those of its descriptor, own is OWN of the one that follows. -/
  | dmaBufferReturn (dt c addr len : Nat) (irq own : Bool)
  /-- SPI_READ (R659): SPI command 0x0B reads COUNT register slots as agent 10. -/
  | spiRead (dt count addr : Nat)
  /-- SPI_QREAD (R659): SPI command 0x6B reads slots on four lines. -/
  | spiQread (dt count addr : Nat)
  /-- SPI_WRITE (R659): SPI command 0x02 writes COUNT register slots as agent 10. -/
  | spiWrite (dt addr : Nat) (data : List Nat)
  /-- SPI_QWRITE (R659): SPI command 0x32 writes slots on four lines. -/
  | spiQwrite (dt addr : Nat) (data : List Nat)
  /-- SPI_UNKNOWN_COMMAND (R659): Any other SPI command byte is ignored until SPI_CS_N rises. -/
  | spiUnknownCommand (dt : Nat)
  /-- SPI_CS_ABORT (R661): SPI_CS_N rising early performs the complete write slots and counts CS_ABORT. write: a
  write; count slots from addr; data is the slots received whole. -/
  | spiCsAbort (dt : Nat) (write : Bool) (count addr : Nat) (data : List Nat)
  /-- SPI_VLOG_CLR (R662): SPI_IRQ.VLOG_CLR = 1 clears PEND.VLOG. -/
  | spiVlogClr (dt ag : Nat)
  /-- ETH_FRAME_RECEIVED (R664): An Ethernet frame is filtered, stamped and stored in the receive ring, or
  dropped. ago is the ticks since its timestamp point. -/
  | ethFrameReceived (dt p ago : Nat) (data : List Byte)
  /-- ETH_TX_POST (R666): A core's write of TX_POST queues a frame for transmission. -/
  | ethTxPost (dt ag p : Nat) (v : Word48)
  /-- ETH_FRAME_SENT (R666): A posted frame is transmitted with its FCS. ago is the ticks since its timestamp
  point. -/
  | ethFrameSent (dt p ago : Nat)
  /-- ETH_LINK_CHANGE (R663): An Ethernet link comes up or goes down. -/
  | ethLinkChange (dt p : Nat) (up : Bool)
  /-- ETH_CNT_CLR (R664): HST.ETH[p].STAT.CLR clears the port's counters. -/
  | ethCntClr (dt ag p : Nat)
  /-- IDCODE (R667): JTAG instruction that selects the IDCODE register. -/
  | idcode (dt : Nat)
  /-- SAMPLE_PRELOAD (R667): JTAG instruction that samples and preloads the boundary scan. -/
  | samplePreload (dt pattern : Nat)
  /-- EXTEST (R668): JTAG instruction that drives the boundary, only in RECOVERY or HALTED. -/
  | extest (dt : Nat)
  /-- EXTEST_PULSE (R668): JTAG 1149.6 pulse test of the AC-coupled lanes, only in RECOVERY or HALTED. -/
  | extestPulse (dt : Nat)
  /-- EXTEST_TRAIN (R668): JTAG 1149.6 train test of the AC-coupled lanes, only in RECOVERY or HALTED. -/
  | extestTrain (dt : Nat)
  /-- CLAMP (R668): JTAG instruction that clamps the outputs, only in RECOVERY or HALTED. -/
  | clamp (dt : Nat)
  /-- HIGHZ (R668): JTAG instruction that releases the outputs, only in RECOVERY or HALTED. -/
  | highz (dt : Nat)
  /-- DBG_ACCESS (R669): JTAG instruction that selects the 88-bit debug access register. -/
  | dbgAccess (dt : Nat)
  /-- DEBUG_SLOT_ACCESS (R669): Update-DR with OP not 0 performs a slot access by agent 16. op is 1 for a read and
  2 for a write. -/
  | debugSlotAccess (dt op addr : Nat) (v : Word48)
  /-- FUSE_PROG (R670): JTAG instruction that programs KEY_HASH into the fuses in RECOVERY. hash is what is
  programmed, back what reads back. -/
  | fuseProg (dt hash back : Nat)
  /-- BYPASS (R667): JTAG instruction that selects the bypass register. -/
  | bypass (dt : Nat)
  /-- TAP_RESET (R695): TRST_N resets the TAP asynchronously. -/
  | tapReset (dt : Nat)
  /-- TEMPERATURE_READING (R683): Every 1 ms the on-die sensor updates TJ and TJ_MAX. -/
  | temperatureReading (dt : Nat) (tj : Int)
  /-- TJ_MAX_CLR (R683): SYS.TEMP.CLR = 1 sets TJ_MAX to TJ. -/
  | tjMaxClr (dt ag : Nat)
  /-- STAGED_BANK_WRITE (R162): A management write to an axis's staged bank stores the value, or returns LOCKED while
  PENDING or while a live switch stages the axis, or ACCESS at offsets 0x500 to 0x7FF, and is mirrored in a twin head.
  -/
  | stagedBankWrite (dt ag addr : Nat) (v : BitVec 64)
  /-- LINE_TIME_LOCKED (R518): As C decays toward 0 at SLEW, |C| reaches 20 ns and the line-time state leaves
  ACQUIRING for LOCKED, clearing LOST_SYNC. -/
  | lineTimeLocked (dt : Nat)
  /-- IDLE_RECEIVED (R417): A receiver that is ignoring code groups after a failed header or frame receives idle and
  looks for SD or SYN again. -/
  | idleReceived (dt p : Nat)
  /-- GUARDIAN_WINDOW_OPEN (R446): A guardian window opens at start + APO − G_EARLY and the head port receiver, after
  a cut or an unadmitted start, looks for SD whether or not idle has come. -/
  | guardianWindowOpen (dt p : Nat)
  /-- HEAD_BLOCKED (R470): A head in LISTEN that hears a COLD_START frame with ATTEMPT = 0xFF without hearing its
  sender on the head link stays in LISTEN with BLOCKED set. -/
  | headBlocked (dt : Nat)
  /-- PERST_RELEASE (R701): 1 ms after PERST_N rises, the PCIe endpoint and the DMA channels leave reset. -/
  | perstRelease (dt : Nat)
  /-- PCIE_LINK_UP (R650): The PCIe link finishes training with the host and PCIE_STAT reports its speed and width. -/
  | pcieLinkUp (dt speed width : Nat)
  /-- BUFFER_LENT (R656): The host lends a DMA buffer by writing OWN = 1, and a channel waiting on that descriptor
  resumes its transfer. -/
  | bufferLent (dt c : Nat)
  deriving DecidableEq, Repr

end Sys2Proof
end

