-- ==== Sys2Proof/Decode.lean ====
section
/-! DEFINITION. Commands of the block have no encoding: no row of spec/opcode_table.json gives bits (its "fields" are empty
throughout), so no word spells a command. -/
namespace Sys2Proof

/-- The command a word spells by the table's bits: none, since the table gives no row any. -/
def decodeTableWord (_nbits _w : Nat) : Option Instr := none

end Sys2Proof
end

