-- ==== Sys2Proof/Config.lean ====
section
/-! DEFINITION. What an implementation fixes and what the spec leaves open: constants with no body, so that
no proof can see their value. -/
namespace Sys2Proof.Config

/-- The 64-bit unique ID fused into the device (SYS.UID_LO, SYS.UID_HI: reset value Fused)
(DESIGN CHOICE, log entry 5). -/
opaque uid : BitVec 64

/-- The default vendor ID fused into the device (R650, HST.PCIE_STAT.VENDOR) (DESIGN CHOICE, log entry 5). -/
opaque vendorId : BitVec 16

/-- A value the spec leaves open after a command that goes on: the n-th such value taken
(DESIGN CHOICE, log entry 93). -/
opaque freeValue : Nat → BitVec 64

/-- The 256 bytes of Cascade state at bank offsets 0x700 to 0x7FF: their layout is not defined (R264)
(DESIGN CHOICE, log entry 46). -/
opaque cascadeBytes : Machine.CasH → Nat → BitVec 8

/-- What Cascade holds of an axis after 256 bytes of Cascade state are loaded into it (R264, R488)
(DESIGN CHOICE, log entry 46). -/
opaque cascadeState : List (BitVec 8) → Machine.CasH

end Sys2Proof.Config
end

