-- ==== Sys2Proof/Machine/Regs.lean ====
section
/-! DEFINITION. The register space of R25 (01_architecture.md): one name of `RegName` per register
class the spec's register tables give, its slot address, its fields with bits, access code (R8) and
reset value, and the table by which an address is decoded. -/
namespace Sys2Proof.Machine

/-- The access codes of R8. -/
inductive Acc where
  | rw | ro | w1c | w1s | wo | rc | rwl
  deriving DecidableEq, Repr

/-- The bits of one register field: its lowest bit and its width. -/
structure Fld where
  lo : Nat
  w : Nat
  deriving DecidableEq, Repr

/-- One row of a register table: the field's bits, its access code and its reset value. -/
structure FieldRow where
  fld : Fld
  acc : Acc
  rst : Nat
  deriving DecidableEq, Repr

/-- The register classes of the register map, in address order of their tables. -/
inductive RegName where
  | sysDevid
  | sysUidLo
  | sysUidHi
  | sysRole
  | sysClkStat
  | sysPwrStat
  | sysRstCause
  | sysRstCtl
  | sysJetRetired
  | sysBootStat
  | sysBootGen
  | sysImgCtl
  | sysImgCycle
  | sysImgStat
  | sysFlashCtl
  | sysVlogCtl
  | sysTemp
  | sysRailV
  | sysPmbVal
  | sysWeir
  | sysRspEpoch
  | sysFlashBuf
  | sysVlogA
  | sysVlogT
  | shrUnitCap
  | shrUnitPledge
  | shrUnitArb
  | shrAdmCtl
  | shrAdmStat
  | shrReqCfg
  | shrReqDefer
  | shrReqRefuse
  | shrReqWait
  | axsCtl
  | axsCfg
  | axsCmd
  | axsStat
  | axsAgeStat
  | axsCsFlags
  | axsCsCost
  | axsCsFocI
  | axsCsFocV
  | axsCsFocStat
  | axsMvCtl
  | axsCasCycle
  | axsMvStat
  | axsFolCtl
  | axsFolPos
  | axsFolStat
  | axsFltCause
  | axsFltTime
  | axsLimStat
  | axsSsStat
  | axsHmCtl
  | axsHmStat
  | axsHmPos
  | axsHmShift
  | axsFbStat
  | axsStage
  | axsStageCycle
  | axsTag
  | axsCsSig
  | axsMvTarget
  | axsMvVmax
  | axsMvAmax
  | axsMvDmax
  | axsMvJmax
  | axsChgVmax
  | axsChgAmax
  | axsChgDmax
  | axsChgCtl
  | axsSetP
  | axsSetV
  | axsSetA
  | axsSupP
  | axsFbPos
  | axsFbVel
  | axsFbHshift
  | jetCtl
  | jetStat
  | jetMapLo
  | jetMapHi
  | jetExecStat
  | jetArithStat
  | jetTurnStat
  | jetFaultStat
  | jetCntClr
  | jetjStat
  | jetjFailTime
  | jetjLoad
  | jetjTag
  | casCtl
  | casStat
  | casGrpCtl
  | casGrpCycle
  | casGrpStat
  | casCam
  | lmOSec
  | lmONs
  | lmOP
  | lmOPf
  | lmOV
  | lmOVt
  | lmOA
  | lmOCtl
  | lmStat
  | lmPos
  | lmVel
  | lmPrSec
  | lmPrNs
  | lmPrP
  | lmPrPf
  | lmPrV
  | encCfg
  | encSer
  | encMod
  | encPos
  | encFrameLo
  | encFrameHi
  | encStat
  | encErr
  | encLatCtl
  | encLatPos
  | encLatTime
  | tcCfg
  | tcPerSh
  | tcCmpSh
  | tcCmp2Sh
  | tcCtl
  | tcStat
  | tcLive
  | sgCfg
  | sgCfg2
  | sgCtl
  | sgStat
  | sgTripSnap
  | sgTripTime
  | cmpCfg
  | cmpStat
  | sdCfg
  | sdVal
  | sdStat
  | sdclk
  | portCfg
  | portCtl
  | portStat
  | portErr0
  | portErr1
  | portErr2
  | portErr3
  | portErr4
  | portRxFrames
  | portTxFrames
  | portPrbs
  | portCntClr
  | portTag
  | netCycCfg
  | netSegCfg
  | netGrdCfg
  | netDynCfg
  | netCsCtl
  | netCsStat
  | netSyncStat
  | netLinkDelay
  | netSelf
  | netRxRing
  | netRxPtr
  | netCntClr
  | nodeCfg
  | nodeStat
  | nodeGrd
  | nodeRng
  | fwdCfg
  | fwdStat
  | flowCfg
  | flowTx
  | flowStat
  | twnCfg
  | twnCtl
  | twnHoCycle
  | twnStat
  | twnPull
  | twnLastHo
  | twnCnt0
  | twnCnt1
  | twnCnt2
  | twnMis
  | timT48
  | timCycle
  | timCycT48
  | timNltSec
  | timNltNs
  | timLtSec
  | timLtNs
  | timCfg
  | timGrid
  | timCtl
  | timStat
  | timCorr
  | domCfg
  | domMT48
  | domMSec
  | domMNs
  | domMCtl
  | domStat
  | domOffs
  | domRate
  | timTsqId
  | timTsqTime
  | timTsqStat
  | ttCfg
  | ttCtl
  | ttTarget
  | ttAux
  | ttStat
  | ttLast
  | mirSrc
  | mirPinmask
  | mirRate
  | mirDb
  | mirAcq
  | mirTrig
  | mirLvl
  | mirHys
  | mirRing
  | mirRingCtl
  | mirPtr
  | mirCtl
  | mirStat
  | mirCnt0
  | mirCnt1
  | mirDead
  | mirAcqA
  | mirAcqB
  | mirAcqTrig
  | mirAcqRec
  | mirAcqDead
  | mirAcqMissT
  | mirMaskViol
  | mirMaskT
  | mirTag
  | mirMaskCfg
  | mirXtl
  | sptCfg
  | sptSubA
  | sptSubExt
  | sptSubArg
  | sptSubGo
  | sptStat
  | sptCnt
  | sptFault
  | sptCntClr
  | sptDone
  | taskCfg
  | taskFlags
  | taskFlagSet
  | taskFlagClr
  | taskStat
  | taskTag
  | sluPost
  | sluStat
  | sluRoute
  | sluCvnRing
  | sluCvnCtl
  | sluCvnPtr
  | sluCvnStat
  | coreDispatch
  | coreDispDl
  | coreArg
  | coreWflags
  | coreDone
  | coreWaitTmo
  | coreStat
  | coreIrq
  | coreMtimecmp
  | coreWdog
  | coreTag
  | mbData
  | mbStat
  | mbCfg
  | mbWait
  | mbTag
  | lk
  | lkStat
  | dbSet
  | dbPend
  | agEvtLo
  | agEvtHi
  | mbxXwStat
  | oasStat
  | oasCfg
  | oasPwdIn
  | oasPwdCtl
  | oasSrst
  | oasAxzone
  | zoneStat
  | zoneCtl
  | zoneCfg
  | zoneFault
  | zoneFtime
  | siCfg
  | siStat
  | soCfg
  | soStat
  | slsCfg
  | slsStat
  | connCfg
  | connSeed
  | connStat
  | connCnt
  | oasLogIdx
  | oasLogD
  | hstPcieStat
  | hstMsixMap
  | dmaRingLo
  | dmaRingHi
  | dmaCtl
  | dmaPost
  | dmaStat
  | hstSpiStat
  | hstSpiIrq
  | hstJtagStat
  | ethMac
  | ethRxRing
  | ethRxPtr
  | ethTxPost
  | ethStat
  deriving DecidableEq, Repr

/-- A register of the register space: its class and its indices (0 where the class has none). -/
structure Reg where
  name : RegName
  i : Nat
  j : Nat
  deriving DecidableEq, Repr

/-- SYS.DEVID. -/
abbrev Reg.sysDevid : Reg := ⟨.sysDevid, 0, 0⟩
/-- SYS.UID_LO. -/
abbrev Reg.sysUidLo : Reg := ⟨.sysUidLo, 0, 0⟩
/-- SYS.UID_HI. -/
abbrev Reg.sysUidHi : Reg := ⟨.sysUidHi, 0, 0⟩
/-- SYS.ROLE. -/
abbrev Reg.sysRole : Reg := ⟨.sysRole, 0, 0⟩
/-- SYS.CLK_STAT. -/
abbrev Reg.sysClkStat : Reg := ⟨.sysClkStat, 0, 0⟩
/-- SYS.PWR_STAT. -/
abbrev Reg.sysPwrStat : Reg := ⟨.sysPwrStat, 0, 0⟩
/-- SYS.RST_CAUSE. -/
abbrev Reg.sysRstCause : Reg := ⟨.sysRstCause, 0, 0⟩
/-- SYS.RST_CTL. -/
abbrev Reg.sysRstCtl : Reg := ⟨.sysRstCtl, 0, 0⟩
/-- SYS.JET_RETIRED. -/
abbrev Reg.sysJetRetired : Reg := ⟨.sysJetRetired, 0, 0⟩
/-- SYS.BOOT_STAT. -/
abbrev Reg.sysBootStat : Reg := ⟨.sysBootStat, 0, 0⟩
/-- SYS.BOOT_GEN. -/
abbrev Reg.sysBootGen : Reg := ⟨.sysBootGen, 0, 0⟩
/-- SYS.IMG_CTL. -/
abbrev Reg.sysImgCtl : Reg := ⟨.sysImgCtl, 0, 0⟩
/-- SYS.IMG_CYCLE. -/
abbrev Reg.sysImgCycle : Reg := ⟨.sysImgCycle, 0, 0⟩
/-- SYS.IMG_STAT. -/
abbrev Reg.sysImgStat : Reg := ⟨.sysImgStat, 0, 0⟩
/-- SYS.FLASH_CTL. -/
abbrev Reg.sysFlashCtl : Reg := ⟨.sysFlashCtl, 0, 0⟩
/-- SYS.VLOG_CTL. -/
abbrev Reg.sysVlogCtl : Reg := ⟨.sysVlogCtl, 0, 0⟩
/-- SYS.TEMP. -/
abbrev Reg.sysTemp : Reg := ⟨.sysTemp, 0, 0⟩
/-- SYS.RAIL_V[k]. -/
abbrev Reg.sysRailV (i : Nat) : Reg := ⟨.sysRailV, i, 0⟩
/-- SYS.PMB_VAL[n][c]. -/
abbrev Reg.sysPmbVal (i j : Nat) : Reg := ⟨.sysPmbVal, i, j⟩
/-- SYS.WEIR[k]. -/
abbrev Reg.sysWeir (i : Nat) : Reg := ⟨.sysWeir, i, 0⟩
/-- SYS.RSP_EPOCH[a]. -/
abbrev Reg.sysRspEpoch (i : Nat) : Reg := ⟨.sysRspEpoch, i, 0⟩
/-- SYS.FLASH_BUF[i] (R117). -/
abbrev Reg.sysFlashBuf (i : Nat) : Reg := ⟨.sysFlashBuf, i, 0⟩
/-- SYS.VLOG_A[i]. -/
abbrev Reg.sysVlogA (i : Nat) : Reg := ⟨.sysVlogA, i, 0⟩
/-- SYS.VLOG_T[i]. -/
abbrev Reg.sysVlogT (i : Nat) : Reg := ⟨.sysVlogT, i, 0⟩
/-- SHR.UNIT_CAP[u]. -/
abbrev Reg.shrUnitCap (i : Nat) : Reg := ⟨.shrUnitCap, i, 0⟩
/-- SHR.UNIT_PLEDGE[u]. -/
abbrev Reg.shrUnitPledge (i : Nat) : Reg := ⟨.shrUnitPledge, i, 0⟩
/-- SHR.UNIT_ARB[u]. -/
abbrev Reg.shrUnitArb (i : Nat) : Reg := ⟨.shrUnitArb, i, 0⟩
/-- SHR.ADM_CTL. -/
abbrev Reg.shrAdmCtl : Reg := ⟨.shrAdmCtl, 0, 0⟩
/-- SHR.ADM_STAT. -/
abbrev Reg.shrAdmStat : Reg := ⟨.shrAdmStat, 0, 0⟩
/-- SHR.REQ_CFG[u][r]. -/
abbrev Reg.shrReqCfg (i j : Nat) : Reg := ⟨.shrReqCfg, i, j⟩
/-- SHR.REQ_DEFER[u][r]. -/
abbrev Reg.shrReqDefer (i j : Nat) : Reg := ⟨.shrReqDefer, i, j⟩
/-- SHR.REQ_REFUSE[u][r]. -/
abbrev Reg.shrReqRefuse (i j : Nat) : Reg := ⟨.shrReqRefuse, i, j⟩
/-- SHR.REQ_WAIT[u][r]. -/
abbrev Reg.shrReqWait (i j : Nat) : Reg := ⟨.shrReqWait, i, j⟩
/-- AXS[n].CTL. -/
abbrev Reg.axsCtl (i : Nat) : Reg := ⟨.axsCtl, i, 0⟩
/-- AXS[n].CFG. -/
abbrev Reg.axsCfg (i : Nat) : Reg := ⟨.axsCfg, i, 0⟩
/-- AXS[n].CMD. -/
abbrev Reg.axsCmd (i : Nat) : Reg := ⟨.axsCmd, i, 0⟩
/-- AXS[n].STAT. -/
abbrev Reg.axsStat (i : Nat) : Reg := ⟨.axsStat, i, 0⟩
/-- AXS[n].AGE_STAT. -/
abbrev Reg.axsAgeStat (i : Nat) : Reg := ⟨.axsAgeStat, i, 0⟩
/-- AXS[n].CS_FLAGS. -/
abbrev Reg.axsCsFlags (i : Nat) : Reg := ⟨.axsCsFlags, i, 0⟩
/-- AXS[n].CS_COST. -/
abbrev Reg.axsCsCost (i : Nat) : Reg := ⟨.axsCsCost, i, 0⟩
/-- AXS[n].CS_FOC_I. -/
abbrev Reg.axsCsFocI (i : Nat) : Reg := ⟨.axsCsFocI, i, 0⟩
/-- AXS[n].CS_FOC_V. -/
abbrev Reg.axsCsFocV (i : Nat) : Reg := ⟨.axsCsFocV, i, 0⟩
/-- AXS[n].CS_FOC_STAT. -/
abbrev Reg.axsCsFocStat (i : Nat) : Reg := ⟨.axsCsFocStat, i, 0⟩
/-- AXS[n].MV_CTL. -/
abbrev Reg.axsMvCtl (i : Nat) : Reg := ⟨.axsMvCtl, i, 0⟩
/-- AXS[n].CAS_CYCLE. -/
abbrev Reg.axsCasCycle (i : Nat) : Reg := ⟨.axsCasCycle, i, 0⟩
/-- AXS[n].MV_STAT. -/
abbrev Reg.axsMvStat (i : Nat) : Reg := ⟨.axsMvStat, i, 0⟩
/-- AXS[n].FOL_CTL. -/
abbrev Reg.axsFolCtl (i : Nat) : Reg := ⟨.axsFolCtl, i, 0⟩
/-- AXS[n].FOL_POS. -/
abbrev Reg.axsFolPos (i : Nat) : Reg := ⟨.axsFolPos, i, 0⟩
/-- AXS[n].FOL_STAT. -/
abbrev Reg.axsFolStat (i : Nat) : Reg := ⟨.axsFolStat, i, 0⟩
/-- AXS[n].FLT_CAUSE. -/
abbrev Reg.axsFltCause (i : Nat) : Reg := ⟨.axsFltCause, i, 0⟩
/-- AXS[n].FLT_TIME. -/
abbrev Reg.axsFltTime (i : Nat) : Reg := ⟨.axsFltTime, i, 0⟩
/-- AXS[n].LIM_STAT. -/
abbrev Reg.axsLimStat (i : Nat) : Reg := ⟨.axsLimStat, i, 0⟩
/-- AXS[n].SS_STAT. -/
abbrev Reg.axsSsStat (i : Nat) : Reg := ⟨.axsSsStat, i, 0⟩
/-- AXS[n].HM_CTL. -/
abbrev Reg.axsHmCtl (i : Nat) : Reg := ⟨.axsHmCtl, i, 0⟩
/-- AXS[n].HM_STAT. -/
abbrev Reg.axsHmStat (i : Nat) : Reg := ⟨.axsHmStat, i, 0⟩
/-- AXS[n].HM_POS. -/
abbrev Reg.axsHmPos (i : Nat) : Reg := ⟨.axsHmPos, i, 0⟩
/-- AXS[n].HM_SHIFT. -/
abbrev Reg.axsHmShift (i : Nat) : Reg := ⟨.axsHmShift, i, 0⟩
/-- AXS[n].FB_STAT. -/
abbrev Reg.axsFbStat (i : Nat) : Reg := ⟨.axsFbStat, i, 0⟩
/-- AXS[n].STAGE. -/
abbrev Reg.axsStage (i : Nat) : Reg := ⟨.axsStage, i, 0⟩
/-- AXS[n].STAGE_CYCLE. -/
abbrev Reg.axsStageCycle (i : Nat) : Reg := ⟨.axsStageCycle, i, 0⟩
/-- AXS[n].TAG[i]. -/
abbrev Reg.axsTag (i j : Nat) : Reg := ⟨.axsTag, i, j⟩
/-- AXS[n].CS_SIG[i]. -/
abbrev Reg.axsCsSig (i j : Nat) : Reg := ⟨.axsCsSig, i, j⟩
/-- AXS[n].MV_TARGET. -/
abbrev Reg.axsMvTarget (i : Nat) : Reg := ⟨.axsMvTarget, i, 0⟩
/-- AXS[n].MV_VMAX. -/
abbrev Reg.axsMvVmax (i : Nat) : Reg := ⟨.axsMvVmax, i, 0⟩
/-- AXS[n].MV_AMAX. -/
abbrev Reg.axsMvAmax (i : Nat) : Reg := ⟨.axsMvAmax, i, 0⟩
/-- AXS[n].MV_DMAX. -/
abbrev Reg.axsMvDmax (i : Nat) : Reg := ⟨.axsMvDmax, i, 0⟩
/-- AXS[n].MV_JMAX. -/
abbrev Reg.axsMvJmax (i : Nat) : Reg := ⟨.axsMvJmax, i, 0⟩
/-- AXS[n].CHG_VMAX. -/
abbrev Reg.axsChgVmax (i : Nat) : Reg := ⟨.axsChgVmax, i, 0⟩
/-- AXS[n].CHG_AMAX. -/
abbrev Reg.axsChgAmax (i : Nat) : Reg := ⟨.axsChgAmax, i, 0⟩
/-- AXS[n].CHG_DMAX. -/
abbrev Reg.axsChgDmax (i : Nat) : Reg := ⟨.axsChgDmax, i, 0⟩
/-- AXS[n].CHG_CTL. -/
abbrev Reg.axsChgCtl (i : Nat) : Reg := ⟨.axsChgCtl, i, 0⟩
/-- AXS[n].SET_P. -/
abbrev Reg.axsSetP (i : Nat) : Reg := ⟨.axsSetP, i, 0⟩
/-- AXS[n].SET_V. -/
abbrev Reg.axsSetV (i : Nat) : Reg := ⟨.axsSetV, i, 0⟩
/-- AXS[n].SET_A. -/
abbrev Reg.axsSetA (i : Nat) : Reg := ⟨.axsSetA, i, 0⟩
/-- AXS[n].SUP_P. -/
abbrev Reg.axsSupP (i : Nat) : Reg := ⟨.axsSupP, i, 0⟩
/-- AXS[n].FB_POS. -/
abbrev Reg.axsFbPos (i : Nat) : Reg := ⟨.axsFbPos, i, 0⟩
/-- AXS[n].FB_VEL. -/
abbrev Reg.axsFbVel (i : Nat) : Reg := ⟨.axsFbVel, i, 0⟩
/-- AXS[n].FB_HSHIFT. -/
abbrev Reg.axsFbHshift (i : Nat) : Reg := ⟨.axsFbHshift, i, 0⟩
/-- JET.CTL. -/
abbrev Reg.jetCtl : Reg := ⟨.jetCtl, 0, 0⟩
/-- JET.STAT. -/
abbrev Reg.jetStat : Reg := ⟨.jetStat, 0, 0⟩
/-- JET.MAP_LO. -/
abbrev Reg.jetMapLo : Reg := ⟨.jetMapLo, 0, 0⟩
/-- JET.MAP_HI. -/
abbrev Reg.jetMapHi : Reg := ⟨.jetMapHi, 0, 0⟩
/-- JET.EXEC_STAT. -/
abbrev Reg.jetExecStat : Reg := ⟨.jetExecStat, 0, 0⟩
/-- JET.ARITH_STAT. -/
abbrev Reg.jetArithStat : Reg := ⟨.jetArithStat, 0, 0⟩
/-- JET.TURN_STAT. -/
abbrev Reg.jetTurnStat : Reg := ⟨.jetTurnStat, 0, 0⟩
/-- JET.FAULT_STAT. -/
abbrev Reg.jetFaultStat : Reg := ⟨.jetFaultStat, 0, 0⟩
/-- JET.CNT_CLR. -/
abbrev Reg.jetCntClr : Reg := ⟨.jetCntClr, 0, 0⟩
/-- JET[j].STAT. -/
abbrev Reg.jetjStat (i : Nat) : Reg := ⟨.jetjStat, i, 0⟩
/-- JET[j].FAIL_TIME. -/
abbrev Reg.jetjFailTime (i : Nat) : Reg := ⟨.jetjFailTime, i, 0⟩
/-- JET[j].LOAD. -/
abbrev Reg.jetjLoad (i : Nat) : Reg := ⟨.jetjLoad, i, 0⟩
/-- JET[j].TAG[i]. -/
abbrev Reg.jetjTag (i j : Nat) : Reg := ⟨.jetjTag, i, j⟩
/-- CAS.CTL. -/
abbrev Reg.casCtl : Reg := ⟨.casCtl, 0, 0⟩
/-- CAS.STAT. -/
abbrev Reg.casStat : Reg := ⟨.casStat, 0, 0⟩
/-- CAS.GRP_CTL. -/
abbrev Reg.casGrpCtl : Reg := ⟨.casGrpCtl, 0, 0⟩
/-- CAS.GRP_CYCLE. -/
abbrev Reg.casGrpCycle : Reg := ⟨.casGrpCycle, 0, 0⟩
/-- CAS.GRP_STAT[g]. -/
abbrev Reg.casGrpStat (i : Nat) : Reg := ⟨.casGrpStat, i, 0⟩
/-- CAS.CAM[t]. -/
abbrev Reg.casCam (i : Nat) : Reg := ⟨.casCam, i, 0⟩
/-- CAS.LM[l].O_SEC. -/
abbrev Reg.lmOSec (i : Nat) : Reg := ⟨.lmOSec, i, 0⟩
/-- CAS.LM[l].O_NS. -/
abbrev Reg.lmONs (i : Nat) : Reg := ⟨.lmONs, i, 0⟩
/-- CAS.LM[l].O_P. -/
abbrev Reg.lmOP (i : Nat) : Reg := ⟨.lmOP, i, 0⟩
/-- CAS.LM[l].O_PF. -/
abbrev Reg.lmOPf (i : Nat) : Reg := ⟨.lmOPf, i, 0⟩
/-- CAS.LM[l].O_V. -/
abbrev Reg.lmOV (i : Nat) : Reg := ⟨.lmOV, i, 0⟩
/-- CAS.LM[l].O_VT. -/
abbrev Reg.lmOVt (i : Nat) : Reg := ⟨.lmOVt, i, 0⟩
/-- CAS.LM[l].O_A. -/
abbrev Reg.lmOA (i : Nat) : Reg := ⟨.lmOA, i, 0⟩
/-- CAS.LM[l].O_CTL. -/
abbrev Reg.lmOCtl (i : Nat) : Reg := ⟨.lmOCtl, i, 0⟩
/-- CAS.LM[l].STAT. -/
abbrev Reg.lmStat (i : Nat) : Reg := ⟨.lmStat, i, 0⟩
/-- CAS.LM[l].POS. -/
abbrev Reg.lmPos (i : Nat) : Reg := ⟨.lmPos, i, 0⟩
/-- CAS.LM[l].VEL. -/
abbrev Reg.lmVel (i : Nat) : Reg := ⟨.lmVel, i, 0⟩
/-- CAS.LM[l].PR_SEC. -/
abbrev Reg.lmPrSec (i : Nat) : Reg := ⟨.lmPrSec, i, 0⟩
/-- CAS.LM[l].PR_NS. -/
abbrev Reg.lmPrNs (i : Nat) : Reg := ⟨.lmPrNs, i, 0⟩
/-- CAS.LM[l].PR_P. -/
abbrev Reg.lmPrP (i : Nat) : Reg := ⟨.lmPrP, i, 0⟩
/-- CAS.LM[l].PR_PF. -/
abbrev Reg.lmPrPf (i : Nat) : Reg := ⟨.lmPrPf, i, 0⟩
/-- CAS.LM[l].PR_V. -/
abbrev Reg.lmPrV (i : Nat) : Reg := ⟨.lmPrV, i, 0⟩
/-- ENC[c].CFG. -/
abbrev Reg.encCfg (i : Nat) : Reg := ⟨.encCfg, i, 0⟩
/-- ENC[c].SER. -/
abbrev Reg.encSer (i : Nat) : Reg := ⟨.encSer, i, 0⟩
/-- ENC[c].MOD. -/
abbrev Reg.encMod (i : Nat) : Reg := ⟨.encMod, i, 0⟩
/-- ENC[c].POS. -/
abbrev Reg.encPos (i : Nat) : Reg := ⟨.encPos, i, 0⟩
/-- ENC[c].FRAME_LO. -/
abbrev Reg.encFrameLo (i : Nat) : Reg := ⟨.encFrameLo, i, 0⟩
/-- ENC[c].FRAME_HI. -/
abbrev Reg.encFrameHi (i : Nat) : Reg := ⟨.encFrameHi, i, 0⟩
/-- ENC[c].STAT. -/
abbrev Reg.encStat (i : Nat) : Reg := ⟨.encStat, i, 0⟩
/-- ENC[c].ERR. -/
abbrev Reg.encErr (i : Nat) : Reg := ⟨.encErr, i, 0⟩
/-- ENC[c].LAT_CTL. -/
abbrev Reg.encLatCtl (i : Nat) : Reg := ⟨.encLatCtl, i, 0⟩
/-- ENC[c].LAT_POS. -/
abbrev Reg.encLatPos (i j : Nat) : Reg := ⟨.encLatPos, i, j⟩
/-- ENC[c].LAT_TIME. -/
abbrev Reg.encLatTime (i j : Nat) : Reg := ⟨.encLatTime, i, j⟩
/-- TC[n].CFG. -/
abbrev Reg.tcCfg (i : Nat) : Reg := ⟨.tcCfg, i, 0⟩
/-- TC[n].PER_SH. -/
abbrev Reg.tcPerSh (i : Nat) : Reg := ⟨.tcPerSh, i, 0⟩
/-- TC[n].CMP_SH. -/
abbrev Reg.tcCmpSh (i : Nat) : Reg := ⟨.tcCmpSh, i, 0⟩
/-- TC[n].CMP2_SH. -/
abbrev Reg.tcCmp2Sh (i : Nat) : Reg := ⟨.tcCmp2Sh, i, 0⟩
/-- TC[n].CTL. -/
abbrev Reg.tcCtl (i : Nat) : Reg := ⟨.tcCtl, i, 0⟩
/-- TC[n].STAT. -/
abbrev Reg.tcStat (i : Nat) : Reg := ⟨.tcStat, i, 0⟩
/-- TC[n].LIVE. -/
abbrev Reg.tcLive (i : Nat) : Reg := ⟨.tcLive, i, 0⟩
/-- SG[g].CFG. -/
abbrev Reg.sgCfg (i : Nat) : Reg := ⟨.sgCfg, i, 0⟩
/-- SG[g].CFG2. -/
abbrev Reg.sgCfg2 (i : Nat) : Reg := ⟨.sgCfg2, i, 0⟩
/-- SG[g].CTL. -/
abbrev Reg.sgCtl (i : Nat) : Reg := ⟨.sgCtl, i, 0⟩
/-- SG[g].STAT. -/
abbrev Reg.sgStat (i : Nat) : Reg := ⟨.sgStat, i, 0⟩
/-- SG[g].TRIP_SNAP. -/
abbrev Reg.sgTripSnap (i : Nat) : Reg := ⟨.sgTripSnap, i, 0⟩
/-- SG[g].TRIP_TIME. -/
abbrev Reg.sgTripTime (i : Nat) : Reg := ⟨.sgTripTime, i, 0⟩
/-- CMP[h].CFG. -/
abbrev Reg.cmpCfg (i : Nat) : Reg := ⟨.cmpCfg, i, 0⟩
/-- CMP[h].STAT. -/
abbrev Reg.cmpStat (i : Nat) : Reg := ⟨.cmpStat, i, 0⟩
/-- SD[i].CFG. -/
abbrev Reg.sdCfg (i : Nat) : Reg := ⟨.sdCfg, i, 0⟩
/-- SD[i].VAL. -/
abbrev Reg.sdVal (i : Nat) : Reg := ⟨.sdVal, i, 0⟩
/-- SD[i].STAT. -/
abbrev Reg.sdStat (i : Nat) : Reg := ⟨.sdStat, i, 0⟩
/-- SDCLK[m]. -/
abbrev Reg.sdclk (i : Nat) : Reg := ⟨.sdclk, i, 0⟩
/-- PORT[p].CFG. -/
abbrev Reg.portCfg (i : Nat) : Reg := ⟨.portCfg, i, 0⟩
/-- PORT[p].CTL. -/
abbrev Reg.portCtl (i : Nat) : Reg := ⟨.portCtl, i, 0⟩
/-- PORT[p].STAT. -/
abbrev Reg.portStat (i : Nat) : Reg := ⟨.portStat, i, 0⟩
/-- PORT[p].ERR0. -/
abbrev Reg.portErr0 (i : Nat) : Reg := ⟨.portErr0, i, 0⟩
/-- PORT[p].ERR1. -/
abbrev Reg.portErr1 (i : Nat) : Reg := ⟨.portErr1, i, 0⟩
/-- PORT[p].ERR2. -/
abbrev Reg.portErr2 (i : Nat) : Reg := ⟨.portErr2, i, 0⟩
/-- PORT[p].ERR3. -/
abbrev Reg.portErr3 (i : Nat) : Reg := ⟨.portErr3, i, 0⟩
/-- PORT[p].ERR4. -/
abbrev Reg.portErr4 (i : Nat) : Reg := ⟨.portErr4, i, 0⟩
/-- PORT[p].RX_FRAMES. -/
abbrev Reg.portRxFrames (i : Nat) : Reg := ⟨.portRxFrames, i, 0⟩
/-- PORT[p].TX_FRAMES. -/
abbrev Reg.portTxFrames (i : Nat) : Reg := ⟨.portTxFrames, i, 0⟩
/-- PORT[p].PRBS. -/
abbrev Reg.portPrbs (i : Nat) : Reg := ⟨.portPrbs, i, 0⟩
/-- PORT[p].CNT_CLR. -/
abbrev Reg.portCntClr (i : Nat) : Reg := ⟨.portCntClr, i, 0⟩
/-- PORT[p].TAG[i]. -/
abbrev Reg.portTag (i j : Nat) : Reg := ⟨.portTag, i, j⟩
/-- NET.CYC_CFG. -/
abbrev Reg.netCycCfg : Reg := ⟨.netCycCfg, 0, 0⟩
/-- NET.SEG_CFG. -/
abbrev Reg.netSegCfg : Reg := ⟨.netSegCfg, 0, 0⟩
/-- NET.GRD_CFG. -/
abbrev Reg.netGrdCfg : Reg := ⟨.netGrdCfg, 0, 0⟩
/-- NET.DYN_CFG. -/
abbrev Reg.netDynCfg : Reg := ⟨.netDynCfg, 0, 0⟩
/-- NET.CS_CTL. -/
abbrev Reg.netCsCtl : Reg := ⟨.netCsCtl, 0, 0⟩
/-- NET.CS_STAT. -/
abbrev Reg.netCsStat : Reg := ⟨.netCsStat, 0, 0⟩
/-- NET.SYNC_STAT. -/
abbrev Reg.netSyncStat : Reg := ⟨.netSyncStat, 0, 0⟩
/-- NET.LINK_DELAY. -/
abbrev Reg.netLinkDelay : Reg := ⟨.netLinkDelay, 0, 0⟩
/-- NET.SELF. -/
abbrev Reg.netSelf : Reg := ⟨.netSelf, 0, 0⟩
/-- NET.RX_RING. -/
abbrev Reg.netRxRing : Reg := ⟨.netRxRing, 0, 0⟩
/-- NET.RX_PTR. -/
abbrev Reg.netRxPtr : Reg := ⟨.netRxPtr, 0, 0⟩
/-- NET.CNT_CLR. -/
abbrev Reg.netCntClr : Reg := ⟨.netCntClr, 0, 0⟩
/-- NET.NODE[k].CFG. -/
abbrev Reg.nodeCfg (i : Nat) : Reg := ⟨.nodeCfg, i, 0⟩
/-- NET.NODE[k].STAT. -/
abbrev Reg.nodeStat (i : Nat) : Reg := ⟨.nodeStat, i, 0⟩
/-- NET.NODE[k].GRD. -/
abbrev Reg.nodeGrd (i : Nat) : Reg := ⟨.nodeGrd, i, 0⟩
/-- NET.NODE[k].RNG. -/
abbrev Reg.nodeRng (i : Nat) : Reg := ⟨.nodeRng, i, 0⟩
/-- NET.FWD[e].CFG. -/
abbrev Reg.fwdCfg (i : Nat) : Reg := ⟨.fwdCfg, i, 0⟩
/-- NET.FWD[e].STAT. -/
abbrev Reg.fwdStat (i : Nat) : Reg := ⟨.fwdStat, i, 0⟩
/-- NET.FLOW[f].CFG. -/
abbrev Reg.flowCfg (i : Nat) : Reg := ⟨.flowCfg, i, 0⟩
/-- NET.FLOW[f].TX. -/
abbrev Reg.flowTx (i : Nat) : Reg := ⟨.flowTx, i, 0⟩
/-- NET.FLOW[f].STAT. -/
abbrev Reg.flowStat (i : Nat) : Reg := ⟨.flowStat, i, 0⟩
/-- TWN.CFG. -/
abbrev Reg.twnCfg : Reg := ⟨.twnCfg, 0, 0⟩
/-- TWN.CTL. -/
abbrev Reg.twnCtl : Reg := ⟨.twnCtl, 0, 0⟩
/-- TWN.HO_CYCLE. -/
abbrev Reg.twnHoCycle : Reg := ⟨.twnHoCycle, 0, 0⟩
/-- TWN.STAT. -/
abbrev Reg.twnStat : Reg := ⟨.twnStat, 0, 0⟩
/-- TWN.PULL. -/
abbrev Reg.twnPull : Reg := ⟨.twnPull, 0, 0⟩
/-- TWN.LAST_HO. -/
abbrev Reg.twnLastHo : Reg := ⟨.twnLastHo, 0, 0⟩
/-- TWN.CNT0. -/
abbrev Reg.twnCnt0 : Reg := ⟨.twnCnt0, 0, 0⟩
/-- TWN.CNT1. -/
abbrev Reg.twnCnt1 : Reg := ⟨.twnCnt1, 0, 0⟩
/-- TWN.CNT2. -/
abbrev Reg.twnCnt2 : Reg := ⟨.twnCnt2, 0, 0⟩
/-- TWN.MIS[i]. -/
abbrev Reg.twnMis (i : Nat) : Reg := ⟨.twnMis, i, 0⟩
/-- TIM.T48. -/
abbrev Reg.timT48 : Reg := ⟨.timT48, 0, 0⟩
/-- TIM.CYCLE. -/
abbrev Reg.timCycle : Reg := ⟨.timCycle, 0, 0⟩
/-- TIM.CYC_T48. -/
abbrev Reg.timCycT48 : Reg := ⟨.timCycT48, 0, 0⟩
/-- TIM.NLT_SEC. -/
abbrev Reg.timNltSec : Reg := ⟨.timNltSec, 0, 0⟩
/-- TIM.NLT_NS. -/
abbrev Reg.timNltNs : Reg := ⟨.timNltNs, 0, 0⟩
/-- TIM.LT_SEC. -/
abbrev Reg.timLtSec : Reg := ⟨.timLtSec, 0, 0⟩
/-- TIM.LT_NS. -/
abbrev Reg.timLtNs : Reg := ⟨.timLtNs, 0, 0⟩
/-- TIM.CFG. -/
abbrev Reg.timCfg : Reg := ⟨.timCfg, 0, 0⟩
/-- TIM.GRID. -/
abbrev Reg.timGrid : Reg := ⟨.timGrid, 0, 0⟩
/-- TIM.CTL. -/
abbrev Reg.timCtl : Reg := ⟨.timCtl, 0, 0⟩
/-- TIM.STAT. -/
abbrev Reg.timStat : Reg := ⟨.timStat, 0, 0⟩
/-- TIM.CORR. -/
abbrev Reg.timCorr : Reg := ⟨.timCorr, 0, 0⟩
/-- TIM.DOM[d].CFG. -/
abbrev Reg.domCfg (i : Nat) : Reg := ⟨.domCfg, i, 0⟩
/-- TIM.DOM[d].M_T48. -/
abbrev Reg.domMT48 (i : Nat) : Reg := ⟨.domMT48, i, 0⟩
/-- TIM.DOM[d].M_SEC. -/
abbrev Reg.domMSec (i : Nat) : Reg := ⟨.domMSec, i, 0⟩
/-- TIM.DOM[d].M_NS. -/
abbrev Reg.domMNs (i : Nat) : Reg := ⟨.domMNs, i, 0⟩
/-- TIM.DOM[d].M_CTL. -/
abbrev Reg.domMCtl (i : Nat) : Reg := ⟨.domMCtl, i, 0⟩
/-- TIM.DOM[d].STAT. -/
abbrev Reg.domStat (i : Nat) : Reg := ⟨.domStat, i, 0⟩
/-- TIM.DOM[d].OFFS. -/
abbrev Reg.domOffs (i : Nat) : Reg := ⟨.domOffs, i, 0⟩
/-- TIM.DOM[d].RATE. -/
abbrev Reg.domRate (i : Nat) : Reg := ⟨.domRate, i, 0⟩
/-- TIM.TSQ_ID. -/
abbrev Reg.timTsqId : Reg := ⟨.timTsqId, 0, 0⟩
/-- TIM.TSQ_TIME. -/
abbrev Reg.timTsqTime : Reg := ⟨.timTsqTime, 0, 0⟩
/-- TIM.TSQ_STAT. -/
abbrev Reg.timTsqStat : Reg := ⟨.timTsqStat, 0, 0⟩
/-- TIM.TT[i].CFG. -/
abbrev Reg.ttCfg (i : Nat) : Reg := ⟨.ttCfg, i, 0⟩
/-- TIM.TT[i].CTL. -/
abbrev Reg.ttCtl (i : Nat) : Reg := ⟨.ttCtl, i, 0⟩
/-- TIM.TT[i].TARGET. -/
abbrev Reg.ttTarget (i : Nat) : Reg := ⟨.ttTarget, i, 0⟩
/-- TIM.TT[i].AUX. -/
abbrev Reg.ttAux (i : Nat) : Reg := ⟨.ttAux, i, 0⟩
/-- TIM.TT[i].STAT. -/
abbrev Reg.ttStat (i : Nat) : Reg := ⟨.ttStat, i, 0⟩
/-- TIM.TT[i].LAST. -/
abbrev Reg.ttLast (i : Nat) : Reg := ⟨.ttLast, i, 0⟩
/-- MIR[c].SRC. -/
abbrev Reg.mirSrc (i : Nat) : Reg := ⟨.mirSrc, i, 0⟩
/-- MIR[c].PINMASK. -/
abbrev Reg.mirPinmask (i : Nat) : Reg := ⟨.mirPinmask, i, 0⟩
/-- MIR[c].RATE. -/
abbrev Reg.mirRate (i : Nat) : Reg := ⟨.mirRate, i, 0⟩
/-- MIR[c].DB. -/
abbrev Reg.mirDb (i : Nat) : Reg := ⟨.mirDb, i, 0⟩
/-- MIR[c].ACQ. -/
abbrev Reg.mirAcq (i : Nat) : Reg := ⟨.mirAcq, i, 0⟩
/-- MIR[c].TRIG. -/
abbrev Reg.mirTrig (i : Nat) : Reg := ⟨.mirTrig, i, 0⟩
/-- MIR[c].LVL. -/
abbrev Reg.mirLvl (i : Nat) : Reg := ⟨.mirLvl, i, 0⟩
/-- MIR[c].HYS. -/
abbrev Reg.mirHys (i : Nat) : Reg := ⟨.mirHys, i, 0⟩
/-- MIR[c].RING. -/
abbrev Reg.mirRing (i : Nat) : Reg := ⟨.mirRing, i, 0⟩
/-- MIR[c].RING_CTL. -/
abbrev Reg.mirRingCtl (i : Nat) : Reg := ⟨.mirRingCtl, i, 0⟩
/-- MIR[c].PTR. -/
abbrev Reg.mirPtr (i : Nat) : Reg := ⟨.mirPtr, i, 0⟩
/-- MIR[c].CTL. -/
abbrev Reg.mirCtl (i : Nat) : Reg := ⟨.mirCtl, i, 0⟩
/-- MIR[c].STAT. -/
abbrev Reg.mirStat (i : Nat) : Reg := ⟨.mirStat, i, 0⟩
/-- MIR[c].CNT0. -/
abbrev Reg.mirCnt0 (i : Nat) : Reg := ⟨.mirCnt0, i, 0⟩
/-- MIR[c].CNT1. -/
abbrev Reg.mirCnt1 (i : Nat) : Reg := ⟨.mirCnt1, i, 0⟩
/-- MIR[c].DEAD. -/
abbrev Reg.mirDead (i : Nat) : Reg := ⟨.mirDead, i, 0⟩
/-- MIR[c].ACQ_A. -/
abbrev Reg.mirAcqA (i : Nat) : Reg := ⟨.mirAcqA, i, 0⟩
/-- MIR[c].ACQ_B. -/
abbrev Reg.mirAcqB (i : Nat) : Reg := ⟨.mirAcqB, i, 0⟩
/-- MIR[c].ACQ_TRIG. -/
abbrev Reg.mirAcqTrig (i : Nat) : Reg := ⟨.mirAcqTrig, i, 0⟩
/-- MIR[c].ACQ_REC. -/
abbrev Reg.mirAcqRec (i : Nat) : Reg := ⟨.mirAcqRec, i, 0⟩
/-- MIR[c].ACQ_DEAD. -/
abbrev Reg.mirAcqDead (i : Nat) : Reg := ⟨.mirAcqDead, i, 0⟩
/-- MIR[c].ACQ_MISS_T. -/
abbrev Reg.mirAcqMissT (i : Nat) : Reg := ⟨.mirAcqMissT, i, 0⟩
/-- MIR[c].MASK_VIOL. -/
abbrev Reg.mirMaskViol (i : Nat) : Reg := ⟨.mirMaskViol, i, 0⟩
/-- MIR[c].MASK_T. -/
abbrev Reg.mirMaskT (i : Nat) : Reg := ⟨.mirMaskT, i, 0⟩
/-- MIR[c].TAG[i]. -/
abbrev Reg.mirTag (i j : Nat) : Reg := ⟨.mirTag, i, j⟩
/-- MIR.MASK[m].CFG. -/
abbrev Reg.mirMaskCfg (i : Nat) : Reg := ⟨.mirMaskCfg, i, 0⟩
/-- MIR.XTL. -/
abbrev Reg.mirXtl : Reg := ⟨.mirXtl, 0, 0⟩
/-- SPT.CFG. -/
abbrev Reg.sptCfg : Reg := ⟨.sptCfg, 0, 0⟩
/-- SPT.SUB_A. -/
abbrev Reg.sptSubA : Reg := ⟨.sptSubA, 0, 0⟩
/-- SPT.SUB_EXT. -/
abbrev Reg.sptSubExt : Reg := ⟨.sptSubExt, 0, 0⟩
/-- SPT.SUB_ARG. -/
abbrev Reg.sptSubArg : Reg := ⟨.sptSubArg, 0, 0⟩
/-- SPT.SUB_GO. -/
abbrev Reg.sptSubGo : Reg := ⟨.sptSubGo, 0, 0⟩
/-- SPT.STAT. -/
abbrev Reg.sptStat : Reg := ⟨.sptStat, 0, 0⟩
/-- SPT.CNT. -/
abbrev Reg.sptCnt : Reg := ⟨.sptCnt, 0, 0⟩
/-- SPT.FAULT. -/
abbrev Reg.sptFault : Reg := ⟨.sptFault, 0, 0⟩
/-- SPT.CNT_CLR. -/
abbrev Reg.sptCntClr : Reg := ⟨.sptCntClr, 0, 0⟩
/-- SPT.DONE[t]. -/
abbrev Reg.sptDone (i : Nat) : Reg := ⟨.sptDone, i, 0⟩
/-- SLU.TASK[t].CFG. -/
abbrev Reg.taskCfg (i : Nat) : Reg := ⟨.taskCfg, i, 0⟩
/-- SLU.TASK[t].FLAGS. -/
abbrev Reg.taskFlags (i : Nat) : Reg := ⟨.taskFlags, i, 0⟩
/-- SLU.TASK[t].FLAG_SET. -/
abbrev Reg.taskFlagSet (i : Nat) : Reg := ⟨.taskFlagSet, i, 0⟩
/-- SLU.TASK[t].FLAG_CLR. -/
abbrev Reg.taskFlagClr (i : Nat) : Reg := ⟨.taskFlagClr, i, 0⟩
/-- SLU.TASK[t].STAT. -/
abbrev Reg.taskStat (i : Nat) : Reg := ⟨.taskStat, i, 0⟩
/-- SLU.TASK[t].TAG[i]. -/
abbrev Reg.taskTag (i j : Nat) : Reg := ⟨.taskTag, i, j⟩
/-- SLU.POST. -/
abbrev Reg.sluPost : Reg := ⟨.sluPost, 0, 0⟩
/-- SLU.STAT. -/
abbrev Reg.sluStat : Reg := ⟨.sluStat, 0, 0⟩
/-- SLU.ROUTE[s]. -/
abbrev Reg.sluRoute (i : Nat) : Reg := ⟨.sluRoute, i, 0⟩
/-- SLU.CVN_RING. -/
abbrev Reg.sluCvnRing : Reg := ⟨.sluCvnRing, 0, 0⟩
/-- SLU.CVN_CTL. -/
abbrev Reg.sluCvnCtl : Reg := ⟨.sluCvnCtl, 0, 0⟩
/-- SLU.CVN_PTR. -/
abbrev Reg.sluCvnPtr : Reg := ⟨.sluCvnPtr, 0, 0⟩
/-- SLU.CVN_STAT. -/
abbrev Reg.sluCvnStat : Reg := ⟨.sluCvnStat, 0, 0⟩
/-- CORE[k].DISPATCH. -/
abbrev Reg.coreDispatch (i : Nat) : Reg := ⟨.coreDispatch, i, 0⟩
/-- CORE[k].DISP_DL. -/
abbrev Reg.coreDispDl (i : Nat) : Reg := ⟨.coreDispDl, i, 0⟩
/-- CORE[k].ARG. -/
abbrev Reg.coreArg (i : Nat) : Reg := ⟨.coreArg, i, 0⟩
/-- CORE[k].WFLAGS. -/
abbrev Reg.coreWflags (i : Nat) : Reg := ⟨.coreWflags, i, 0⟩
/-- CORE[k].DONE. -/
abbrev Reg.coreDone (i : Nat) : Reg := ⟨.coreDone, i, 0⟩
/-- CORE[k].WAIT_TMO. -/
abbrev Reg.coreWaitTmo (i : Nat) : Reg := ⟨.coreWaitTmo, i, 0⟩
/-- CORE[k].STAT. -/
abbrev Reg.coreStat (i : Nat) : Reg := ⟨.coreStat, i, 0⟩
/-- CORE[k].IRQ. -/
abbrev Reg.coreIrq (i : Nat) : Reg := ⟨.coreIrq, i, 0⟩
/-- CORE[k].MTIMECMP. -/
abbrev Reg.coreMtimecmp (i : Nat) : Reg := ⟨.coreMtimecmp, i, 0⟩
/-- CORE[k].WDOG. -/
abbrev Reg.coreWdog (i : Nat) : Reg := ⟨.coreWdog, i, 0⟩
/-- CORE[k].TAG[i]. -/
abbrev Reg.coreTag (i j : Nat) : Reg := ⟨.coreTag, i, j⟩
/-- MB[n].DATA. -/
abbrev Reg.mbData (i : Nat) : Reg := ⟨.mbData, i, 0⟩
/-- MB[n].STAT. -/
abbrev Reg.mbStat (i : Nat) : Reg := ⟨.mbStat, i, 0⟩
/-- MB[n].CFG. -/
abbrev Reg.mbCfg (i : Nat) : Reg := ⟨.mbCfg, i, 0⟩
/-- MB[n].WAIT. -/
abbrev Reg.mbWait (i : Nat) : Reg := ⟨.mbWait, i, 0⟩
/-- MB[n].TAG[i]. -/
abbrev Reg.mbTag (i j : Nat) : Reg := ⟨.mbTag, i, j⟩
/-- LK. -/
abbrev Reg.lk (i : Nat) : Reg := ⟨.lk, i, 0⟩
/-- LK_STAT. -/
abbrev Reg.lkStat (i : Nat) : Reg := ⟨.lkStat, i, 0⟩
/-- DB[a].SET. -/
abbrev Reg.dbSet (i : Nat) : Reg := ⟨.dbSet, i, 0⟩
/-- DB[a].PEND. -/
abbrev Reg.dbPend (i : Nat) : Reg := ⟨.dbPend, i, 0⟩
/-- MBX.AG[a].EVT_LO. -/
abbrev Reg.agEvtLo (i : Nat) : Reg := ⟨.agEvtLo, i, 0⟩
/-- MBX.AG[a].EVT_HI. -/
abbrev Reg.agEvtHi (i : Nat) : Reg := ⟨.agEvtHi, i, 0⟩
/-- MBX.XW_STAT. -/
abbrev Reg.mbxXwStat : Reg := ⟨.mbxXwStat, 0, 0⟩
/-- OAS.STAT. -/
abbrev Reg.oasStat : Reg := ⟨.oasStat, 0, 0⟩
/-- OAS.CFG. -/
abbrev Reg.oasCfg : Reg := ⟨.oasCfg, 0, 0⟩
/-- OAS.PWD_IN. -/
abbrev Reg.oasPwdIn (i : Nat) : Reg := ⟨.oasPwdIn, i, 0⟩
/-- OAS.PWD_CTL. -/
abbrev Reg.oasPwdCtl : Reg := ⟨.oasPwdCtl, 0, 0⟩
/-- OAS.SRST. -/
abbrev Reg.oasSrst : Reg := ⟨.oasSrst, 0, 0⟩
/-- OAS.AXZONE[i]. -/
abbrev Reg.oasAxzone (i : Nat) : Reg := ⟨.oasAxzone, i, 0⟩
/-- OAS.ZONE[z].STAT. -/
abbrev Reg.zoneStat (i : Nat) : Reg := ⟨.zoneStat, i, 0⟩
/-- OAS.ZONE[z].CTL. -/
abbrev Reg.zoneCtl (i : Nat) : Reg := ⟨.zoneCtl, i, 0⟩
/-- OAS.ZONE[z].CFG. -/
abbrev Reg.zoneCfg (i : Nat) : Reg := ⟨.zoneCfg, i, 0⟩
/-- OAS.ZONE[z].FAULT. -/
abbrev Reg.zoneFault (i : Nat) : Reg := ⟨.zoneFault, i, 0⟩
/-- OAS.ZONE[z].FTIME. -/
abbrev Reg.zoneFtime (i : Nat) : Reg := ⟨.zoneFtime, i, 0⟩
/-- OAS.SI[i].CFG. -/
abbrev Reg.siCfg (i : Nat) : Reg := ⟨.siCfg, i, 0⟩
/-- OAS.SI[i].STAT. -/
abbrev Reg.siStat (i : Nat) : Reg := ⟨.siStat, i, 0⟩
/-- OAS.SO[o].CFG. -/
abbrev Reg.soCfg (i : Nat) : Reg := ⟨.soCfg, i, 0⟩
/-- OAS.SO[o].STAT. -/
abbrev Reg.soStat (i : Nat) : Reg := ⟨.soStat, i, 0⟩
/-- OAS.SLS[c].CFG. -/
abbrev Reg.slsCfg (i : Nat) : Reg := ⟨.slsCfg, i, 0⟩
/-- OAS.SLS[c].STAT. -/
abbrev Reg.slsStat (i : Nat) : Reg := ⟨.slsStat, i, 0⟩
/-- OAS.CONN[c].CFG. -/
abbrev Reg.connCfg (i : Nat) : Reg := ⟨.connCfg, i, 0⟩
/-- OAS.CONN[c].SEED. -/
abbrev Reg.connSeed (i : Nat) : Reg := ⟨.connSeed, i, 0⟩
/-- OAS.CONN[c].STAT. -/
abbrev Reg.connStat (i : Nat) : Reg := ⟨.connStat, i, 0⟩
/-- OAS.CONN[c].CNT. -/
abbrev Reg.connCnt (i : Nat) : Reg := ⟨.connCnt, i, 0⟩
/-- OAS.LOG_IDX. -/
abbrev Reg.oasLogIdx : Reg := ⟨.oasLogIdx, 0, 0⟩
/-- OAS.LOG_D. -/
abbrev Reg.oasLogD (i : Nat) : Reg := ⟨.oasLogD, i, 0⟩
/-- HST.PCIE_STAT. -/
abbrev Reg.hstPcieStat : Reg := ⟨.hstPcieStat, 0, 0⟩
/-- HST.MSIX_MAP. -/
abbrev Reg.hstMsixMap (i : Nat) : Reg := ⟨.hstMsixMap, i, 0⟩
/-- HST.DMA[c].RING_LO. -/
abbrev Reg.dmaRingLo (i : Nat) : Reg := ⟨.dmaRingLo, i, 0⟩
/-- HST.DMA[c].RING_HI. -/
abbrev Reg.dmaRingHi (i : Nat) : Reg := ⟨.dmaRingHi, i, 0⟩
/-- HST.DMA[c].CTL. -/
abbrev Reg.dmaCtl (i : Nat) : Reg := ⟨.dmaCtl, i, 0⟩
/-- HST.DMA[c].POST. -/
abbrev Reg.dmaPost (i : Nat) : Reg := ⟨.dmaPost, i, 0⟩
/-- HST.DMA[c].STAT. -/
abbrev Reg.dmaStat (i : Nat) : Reg := ⟨.dmaStat, i, 0⟩
/-- HST.SPI_STAT. -/
abbrev Reg.hstSpiStat : Reg := ⟨.hstSpiStat, 0, 0⟩
/-- HST.SPI_IRQ. -/
abbrev Reg.hstSpiIrq : Reg := ⟨.hstSpiIrq, 0, 0⟩
/-- HST.JTAG_STAT. -/
abbrev Reg.hstJtagStat : Reg := ⟨.hstJtagStat, 0, 0⟩
/-- HST.ETH[p].MAC. -/
abbrev Reg.ethMac (i : Nat) : Reg := ⟨.ethMac, i, 0⟩
/-- HST.ETH[p].RX_RING. -/
abbrev Reg.ethRxRing (i : Nat) : Reg := ⟨.ethRxRing, i, 0⟩
/-- HST.ETH[p].RX_PTR. -/
abbrev Reg.ethRxPtr (i : Nat) : Reg := ⟨.ethRxPtr, i, 0⟩
/-- HST.ETH[p].TX_POST. -/
abbrev Reg.ethTxPost (i : Nat) : Reg := ⟨.ethTxPost, i, 0⟩
/-- HST.ETH[p].STAT. -/
abbrev Reg.ethStat (i : Nat) : Reg := ⟨.ethStat, i, 0⟩
/-- The slot address of a register, from the offset its register table gives. -/
def Reg.addr (r : Reg) : Nat :=
  let i := r.i
  let j := r.j
  match r.name with
  | .sysDevid => 0x0
  | .sysUidLo => 0x8
  | .sysUidHi => 0x10
  | .sysRole => 0x18
  | .sysClkStat => 0x100
  | .sysPwrStat => 0x200
  | .sysRstCause => 0x300
  | .sysRstCtl => 0x308
  | .sysJetRetired => 0x310
  | .sysBootStat => 0x500
  | .sysBootGen => 0x508
  | .sysImgCtl => 0x510
  | .sysImgCycle => 0x518
  | .sysImgStat => 0x520
  | .sysFlashCtl => 0x540
  | .sysVlogCtl => 0x2200
  | .sysTemp => 0x280
  | .sysRailV => 0x240 + i * 0x8
  | .sysPmbVal => 0x400 + i * 0x20 + j * 0x8
  | .sysWeir => 0x1000 + i * 0x8
  | .sysRspEpoch => 0x808 + (i - 1) * 0x8
  | .sysFlashBuf => 0x600 + i * 0x8
  | .sysVlogA => 0x2000 + i * 0x10
  | .sysVlogT => 0x2008 + i * 0x10
  | .shrUnitCap => 0x10000 + i * 0x40
  | .shrUnitPledge => 0x10008 + i * 0x40
  | .shrUnitArb => 0x10010 + i * 0x40
  | .shrAdmCtl => 0x10400
  | .shrAdmStat => 0x10408
  | .shrReqCfg => 0x11000 + i * 0x1800 + j * 0x20
  | .shrReqDefer => 0x11008 + i * 0x1800 + j * 0x20
  | .shrReqRefuse => 0x11010 + i * 0x1800 + j * 0x20
  | .shrReqWait => 0x11018 + i * 0x1800 + j * 0x20
  | .axsCtl => 0x80000 + i * 0x400
  | .axsCfg => 0x80008 + i * 0x400
  | .axsCmd => 0x80010 + i * 0x400
  | .axsStat => 0x80018 + i * 0x400
  | .axsAgeStat => 0x80020 + i * 0x400
  | .axsCsFlags => 0x80100 + i * 0x400
  | .axsCsCost => 0x80108 + i * 0x400
  | .axsCsFocI => 0x80110 + i * 0x400
  | .axsCsFocV => 0x80118 + i * 0x400
  | .axsCsFocStat => 0x80120 + i * 0x400
  | .axsMvCtl => 0x80228 + i * 0x400
  | .axsCasCycle => 0x80230 + i * 0x400
  | .axsMvStat => 0x80238 + i * 0x400
  | .axsFolCtl => 0x80280 + i * 0x400
  | .axsFolPos => 0x80288 + i * 0x400
  | .axsFolStat => 0x80290 + i * 0x400
  | .axsFltCause => 0x80300 + i * 0x400
  | .axsFltTime => 0x80308 + i * 0x400
  | .axsLimStat => 0x80310 + i * 0x400
  | .axsSsStat => 0x80318 + i * 0x400
  | .axsHmCtl => 0x80320 + i * 0x400
  | .axsHmStat => 0x80328 + i * 0x400
  | .axsHmPos => 0x80330 + i * 0x400
  | .axsHmShift => 0x80338 + i * 0x400
  | .axsFbStat => 0x80358 + i * 0x400
  | .axsStage => 0x80028 + i * 0x400
  | .axsStageCycle => 0x80030 + i * 0x400
  | .axsTag => 0x80380 + i * 0x400 + j * 0x8
  | .axsCsSig => 0x80140 + i * 0x400 + j * 0x8
  | .axsMvTarget => 0x80200 + i * 0x400
  | .axsMvVmax => 0x80208 + i * 0x400
  | .axsMvAmax => 0x80210 + i * 0x400
  | .axsMvDmax => 0x80218 + i * 0x400
  | .axsMvJmax => 0x80220 + i * 0x400
  | .axsChgVmax => 0x80240 + i * 0x400
  | .axsChgAmax => 0x80248 + i * 0x400
  | .axsChgDmax => 0x80250 + i * 0x400
  | .axsChgCtl => 0x80258 + i * 0x400
  | .axsSetP => 0x80260 + i * 0x400
  | .axsSetV => 0x80268 + i * 0x400
  | .axsSetA => 0x80270 + i * 0x400
  | .axsSupP => 0x80278 + i * 0x400
  | .axsFbPos => 0x80340 + i * 0x400
  | .axsFbVel => 0x80348 + i * 0x400
  | .axsFbHshift => 0x80350 + i * 0x400
  | .jetCtl => 0x60000
  | .jetStat => 0x60008
  | .jetMapLo => 0x60010
  | .jetMapHi => 0x60018
  | .jetExecStat => 0x60020
  | .jetArithStat => 0x60028
  | .jetTurnStat => 0x60030
  | .jetFaultStat => 0x60038
  | .jetCntClr => 0x60040
  | .jetjStat => 0x61000 + i * 0x80
  | .jetjFailTime => 0x61008 + i * 0x80
  | .jetjLoad => 0x61010 + i * 0x80
  | .jetjTag => 0x61040 + i * 0x80 + j * 0x8
  | .casCtl => 0xc0000
  | .casStat => 0xc0008
  | .casGrpCtl => 0xc0010
  | .casGrpCycle => 0xc0018
  | .casGrpStat => 0xc0100 + i * 0x8
  | .casCam => 0xc1000 + i * 0x8
  | .lmOSec => 0xc2000 + i * 0x100
  | .lmONs => 0xc2008 + i * 0x100
  | .lmOP => 0xc2010 + i * 0x100
  | .lmOPf => 0xc2018 + i * 0x100
  | .lmOV => 0xc2020 + i * 0x100
  | .lmOVt => 0xc2028 + i * 0x100
  | .lmOA => 0xc2030 + i * 0x100
  | .lmOCtl => 0xc2038 + i * 0x100
  | .lmStat => 0xc2040 + i * 0x100
  | .lmPos => 0xc2048 + i * 0x100
  | .lmVel => 0xc2050 + i * 0x100
  | .lmPrSec => 0xc2058 + i * 0x100
  | .lmPrNs => 0xc2060 + i * 0x100
  | .lmPrP => 0xc2068 + i * 0x100
  | .lmPrPf => 0xc2070 + i * 0x100
  | .lmPrV => 0xc2078 + i * 0x100
  | .encCfg => 0xd0000 + i * 0x100
  | .encSer => 0xd0008 + i * 0x100
  | .encMod => 0xd0010 + i * 0x100
  | .encPos => 0xd0018 + i * 0x100
  | .encFrameLo => 0xd0058 + i * 0x100
  | .encFrameHi => 0xd0060 + i * 0x100
  | .encStat => 0xd0020 + i * 0x100
  | .encErr => 0xd0028 + i * 0x100
  | .encLatCtl => 0xd0030 + i * 0x100
  | .encLatPos => 0xd0038 + i * 0x100 + j * 0x10
  | .encLatTime => 0xd0040 + i * 0x100 + j * 0x10
  | .tcCfg => 0xe0000 + i * 0x40
  | .tcPerSh => 0xe0008 + i * 0x40
  | .tcCmpSh => 0xe0010 + i * 0x40
  | .tcCmp2Sh => 0xe0018 + i * 0x40
  | .tcCtl => 0xe0020 + i * 0x40
  | .tcStat => 0xe0028 + i * 0x40
  | .tcLive => 0xe0030 + i * 0x40
  | .sgCfg => 0xe1000 + i * 0x80
  | .sgCfg2 => 0xe1008 + i * 0x80
  | .sgCtl => 0xe1010 + i * 0x80
  | .sgStat => 0xe1018 + i * 0x80
  | .sgTripSnap => 0xe1020 + i * 0x80
  | .sgTripTime => 0xe1028 + i * 0x80
  | .cmpCfg => 0xe2000 + i * 0x10
  | .cmpStat => 0xe2008 + i * 0x10
  | .sdCfg => 0xe3000 + i * 0x20
  | .sdVal => 0xe3008 + i * 0x20
  | .sdStat => 0xe3010 + i * 0x20
  | .sdclk => 0xe4000 + i * 0x8
  | .portCfg => 0x20000 + i * 0x100
  | .portCtl => 0x20008 + i * 0x100
  | .portStat => 0x20010 + i * 0x100
  | .portErr0 => 0x20018 + i * 0x100
  | .portErr1 => 0x20020 + i * 0x100
  | .portErr2 => 0x20028 + i * 0x100
  | .portErr3 => 0x20030 + i * 0x100
  | .portErr4 => 0x20038 + i * 0x100
  | .portRxFrames => 0x20040 + i * 0x100
  | .portTxFrames => 0x20048 + i * 0x100
  | .portPrbs => 0x20050 + i * 0x100
  | .portCntClr => 0x20058 + i * 0x100
  | .portTag => 0x20080 + i * 0x100 + j * 0x8
  | .netCycCfg => 0x24200
  | .netSegCfg => 0x24208
  | .netGrdCfg => 0x24210
  | .netDynCfg => 0x24218
  | .netCsCtl => 0x24220
  | .netCsStat => 0x24228
  | .netSyncStat => 0x24230
  | .netLinkDelay => 0x24238
  | .netSelf => 0x24240
  | .netRxRing => 0x24248
  | .netRxPtr => 0x24250
  | .netCntClr => 0x24258
  | .nodeCfg => 0x25000 + i * 0x20
  | .nodeStat => 0x25008 + i * 0x20
  | .nodeGrd => 0x25010 + i * 0x20
  | .nodeRng => 0x25018 + i * 0x20
  | .fwdCfg => 0x26000 + i * 0x10
  | .fwdStat => 0x26008 + i * 0x10
  | .flowCfg => 0x28000 + i * 0x20
  | .flowTx => 0x28008 + i * 0x20
  | .flowStat => 0x28010 + i * 0x20
  | .twnCfg => 0x40000
  | .twnCtl => 0x40008
  | .twnHoCycle => 0x40010
  | .twnStat => 0x40018
  | .twnPull => 0x40038
  | .twnLastHo => 0x40040
  | .twnCnt0 => 0x40020
  | .twnCnt1 => 0x40028
  | .twnCnt2 => 0x40030
  | .twnMis => 0x40100 + i * 0x8
  | .timT48 => 0x50000
  | .timCycle => 0x50008
  | .timCycT48 => 0x50010
  | .timNltSec => 0x50018
  | .timNltNs => 0x50020
  | .timLtSec => 0x50028
  | .timLtNs => 0x50030
  | .timCfg => 0x50038
  | .timGrid => 0x50040
  | .timCtl => 0x50048
  | .timStat => 0x50050
  | .timCorr => 0x50058
  | .domCfg => 0x50100 + i * 0x40
  | .domMT48 => 0x50108 + i * 0x40
  | .domMSec => 0x50110 + i * 0x40
  | .domMNs => 0x50118 + i * 0x40
  | .domMCtl => 0x50120 + i * 0x40
  | .domStat => 0x50128 + i * 0x40
  | .domOffs => 0x50130 + i * 0x40
  | .domRate => 0x50138 + i * 0x40
  | .timTsqId => 0x50200
  | .timTsqTime => 0x50208
  | .timTsqStat => 0x50210
  | .ttCfg => 0x51000 + i * 0x40
  | .ttCtl => 0x51008 + i * 0x40
  | .ttTarget => 0x51010 + i * 0x40
  | .ttAux => 0x51018 + i * 0x40
  | .ttStat => 0x51020 + i * 0x40
  | .ttLast => 0x51028 + i * 0x40
  | .mirSrc => 0xf0000 + i * 0x100
  | .mirPinmask => 0xf0008 + i * 0x100
  | .mirRate => 0xf0010 + i * 0x100
  | .mirDb => 0xf0018 + i * 0x100
  | .mirAcq => 0xf0020 + i * 0x100
  | .mirTrig => 0xf0028 + i * 0x100
  | .mirLvl => 0xf0030 + i * 0x100
  | .mirHys => 0xf0038 + i * 0x100
  | .mirRing => 0xf0040 + i * 0x100
  | .mirRingCtl => 0xf0048 + i * 0x100
  | .mirPtr => 0xf0050 + i * 0x100
  | .mirCtl => 0xf0058 + i * 0x100
  | .mirStat => 0xf0060 + i * 0x100
  | .mirCnt0 => 0xf0068 + i * 0x100
  | .mirCnt1 => 0xf0070 + i * 0x100
  | .mirDead => 0xf0078 + i * 0x100
  | .mirAcqA => 0xf0080 + i * 0x100
  | .mirAcqB => 0xf0088 + i * 0x100
  | .mirAcqTrig => 0xf0090 + i * 0x100
  | .mirAcqRec => 0xf0098 + i * 0x100
  | .mirAcqDead => 0xf00a0 + i * 0x100
  | .mirAcqMissT => 0xf00a8 + i * 0x100
  | .mirMaskViol => 0xf00b0 + i * 0x100
  | .mirMaskT => 0xf00b8 + i * 0x100
  | .mirTag => 0xf00c0 + i * 0x100 + j * 0x8
  | .mirMaskCfg => 0xf4000 + i * 0x8
  | .mirXtl => 0xf6000
  | .sptCfg => 0x100000
  | .sptSubA => 0x100008
  | .sptSubExt => 0x100010
  | .sptSubArg => 0x100018
  | .sptSubGo => 0x100020
  | .sptStat => 0x100028
  | .sptCnt => 0x100030
  | .sptFault => 0x100038
  | .sptCntClr => 0x100040
  | .sptDone => 0x101000 + i * 0x8
  | .taskCfg => 0x110000 + i * 0x80
  | .taskFlags => 0x110008 + i * 0x80
  | .taskFlagSet => 0x110010 + i * 0x80
  | .taskFlagClr => 0x110018 + i * 0x80
  | .taskStat => 0x110020 + i * 0x80
  | .taskTag => 0x110040 + i * 0x80 + j * 0x8
  | .sluPost => 0x114000
  | .sluStat => 0x114008
  | .sluRoute => 0x115000 + i * 0x8
  | .sluCvnRing => 0x116000
  | .sluCvnCtl => 0x116008
  | .sluCvnPtr => 0x116010
  | .sluCvnStat => 0x116018
  | .coreDispatch => 0x118000 + i * 0x100
  | .coreDispDl => 0x118008 + i * 0x100
  | .coreArg => 0x118010 + i * 0x100
  | .coreWflags => 0x118018 + i * 0x100
  | .coreDone => 0x118020 + i * 0x100
  | .coreWaitTmo => 0x118028 + i * 0x100
  | .coreStat => 0x118030 + i * 0x100
  | .coreIrq => 0x118038 + i * 0x100
  | .coreMtimecmp => 0x118040 + i * 0x100
  | .coreWdog => 0x118048 + i * 0x100
  | .coreTag => 0x118080 + i * 0x100 + j * 0x8
  | .mbData => 0x120000 + i * 0x40
  | .mbStat => 0x120008 + i * 0x40
  | .mbCfg => 0x120010 + i * 0x40
  | .mbWait => 0x120018 + i * 0x40
  | .mbTag => 0x126000 + i * 0x40 + j * 0x8
  | .lk => 0x122000 + i * 0x10
  | .lkStat => 0x122008 + i * 0x10
  | .dbSet => 0x123010 + (i - 1) * 0x10
  | .dbPend => 0x123018 + (i - 1) * 0x10
  | .agEvtLo => 0x124010 + (i - 1) * 0x10
  | .agEvtHi => 0x124018 + (i - 1) * 0x10
  | .mbxXwStat => 0x125000
  | .oasStat => 0x130000
  | .oasCfg => 0x130008
  | .oasPwdIn => 0x130010 + i * 0x8
  | .oasPwdCtl => 0x130030
  | .oasSrst => 0x130038
  | .oasAxzone => 0x130040 + i * 0x8
  | .zoneStat => 0x130100 + i * 0x40
  | .zoneCtl => 0x130108 + i * 0x40
  | .zoneCfg => 0x130110 + i * 0x40
  | .zoneFault => 0x130118 + i * 0x40
  | .zoneFtime => 0x130120 + i * 0x40
  | .siCfg => 0x130300 + i * 0x10
  | .siStat => 0x130308 + i * 0x10
  | .soCfg => 0x130400 + i * 0x10
  | .soStat => 0x130408 + i * 0x10
  | .slsCfg => 0x130480 + i * 0x10
  | .slsStat => 0x130488 + i * 0x10
  | .connCfg => 0x131000 + i * 0x20
  | .connSeed => 0x131008 + i * 0x20
  | .connStat => 0x131010 + i * 0x20
  | .connCnt => 0x131018 + i * 0x20
  | .oasLogIdx => 0x133000
  | .oasLogD => 0x133008 + i * 0x8
  | .hstPcieStat => 0x140000
  | .hstMsixMap => 0x140100 + (i - 8) * 0x8
  | .dmaRingLo => 0x141000 + i * 0x40
  | .dmaRingHi => 0x141008 + i * 0x40
  | .dmaCtl => 0x141010 + i * 0x40
  | .dmaPost => 0x141018 + i * 0x40
  | .dmaStat => 0x141020 + i * 0x40
  | .hstSpiStat => 0x142000
  | .hstSpiIrq => 0x142008
  | .hstJtagStat => 0x142010
  | .ethMac => 0x143000 + i * 0x40
  | .ethRxRing => 0x143008 + i * 0x40
  | .ethRxPtr => 0x143010 + i * 0x40
  | .ethTxPost => 0x143018 + i * 0x40
  | .ethStat => 0x143020 + i * 0x40

def fSysDevid_PART : Fld := ⟨0, 16⟩
def fSysDevid_REV : Fld := ⟨16, 8⟩
def fSysDevid_FAMILY : Fld := ⟨24, 8⟩
def fSysUidLo_UID : Fld := ⟨0, 32⟩
def fSysUidHi_UID : Fld := ⟨0, 32⟩
def fSysRole_ROLE : Fld := ⟨0, 2⟩
def fSysRole_TWIN : Fld := ⟨2, 1⟩
def fSysRole_HEAD_ID : Fld := ⟨4, 4⟩
def fSysRole_LOCAL_AXES : Fld := ⟨8, 4⟩
def fSysClkStat_LOCK : Fld := ⟨0, 1⟩
def fSysClkStat_REF_OK : Fld := ⟨1, 1⟩
def fSysClkStat_RC_OK : Fld := ⟨2, 1⟩
def fSysClkStat_RC_COUNT : Fld := ⟨16, 16⟩
def fSysClkStat_LOCK_US : Fld := ⟨32, 16⟩
def fSysPwrStat_SEQ_STATE : Fld := ⟨0, 3⟩
def fSysPwrStat_PG : Fld := ⟨3, 5⟩
def fSysPwrStat_EN : Fld := ⟨8, 5⟩
def fSysPwrStat_FAULT_STEP : Fld := ⟨13, 3⟩
def fSysPwrStat_WARN : Fld := ⟨16, 7⟩
def fSysPwrStat_FAULT : Fld := ⟨24, 7⟩
def fSysRstCause_POR : Fld := ⟨0, 1⟩
def fSysRstCause_PIN : Fld := ⟨1, 1⟩
def fSysRstCause_SOFT : Fld := ⟨2, 1⟩
def fSysRstCause_CLOCK : Fld := ⟨3, 1⟩
def fSysRstCause_RAIL : Fld := ⟨4, 1⟩
def fSysRstCause_SEQ : Fld := ⟨5, 1⟩
def fSysRstCause_COUNT : Fld := ⟨8, 8⟩
def fSysRstCtl_KEY : Fld := ⟨0, 16⟩
def fSysRstCtl_CHIP : Fld := ⟨16, 1⟩
def fSysJetRetired_RETIRED : Fld := ⟨0, 17⟩
def fSysBootStat_STAGE : Fld := ⟨0, 4⟩
def fSysBootStat_SLOT : Fld := ⟨4, 1⟩
def fSysBootStat_SIGNED_RUN : Fld := ⟨5, 1⟩
def fSysBootStat_KEY_FUSED : Fld := ⟨6, 1⟩
def fSysBootStat_SLOW : Fld := ⟨7, 1⟩
def fSysBootStat_FAIL_A : Fld := ⟨8, 4⟩
def fSysBootStat_FAIL_B : Fld := ⟨12, 4⟩
def fSysBootStat_FALLBACK : Fld := ⟨16, 1⟩
def fSysBootStat_DEGRADED : Fld := ⟨17, 1⟩
def fSysBootGen_GEN : Fld := ⟨0, 32⟩
def fSysBootGen_BOOT_MS : Fld := ⟨32, 16⟩
def fSysImgCtl_TARGET : Fld := ⟨0, 1⟩
def fSysImgCtl_MODE : Fld := ⟨1, 1⟩
def fSysImgCtl_GO : Fld := ⟨2, 1⟩
def fSysImgCtl_CANCEL : Fld := ⟨3, 1⟩
def fSysImgCycle_N : Fld := ⟨0, 48⟩
def fSysImgStat_STATE : Fld := ⟨0, 3⟩
def fSysImgStat_REASON : Fld := ⟨3, 4⟩
def fSysImgStat_VERIFY_FAIL : Fld := ⟨7, 4⟩
def fSysFlashCtl_OP : Fld := ⟨0, 2⟩
def fSysFlashCtl_SLOT : Fld := ⟨2, 1⟩
def fSysFlashCtl_ADDR : Fld := ⟨4, 24⟩
def fSysFlashCtl_BUSY : Fld := ⟨28, 1⟩
def fSysFlashCtl_ERR : Fld := ⟨29, 1⟩
def fSysVlogCtl_NEXT : Fld := ⟨0, 5⟩
def fSysVlogCtl_TOTAL : Fld := ⟨8, 16⟩
def fSysVlogCtl_OVERWRITTEN : Fld := ⟨24, 16⟩
def fSysVlogCtl_CLR : Fld := ⟨40, 1⟩
def fSysTemp_TJ : Fld := ⟨0, 12⟩
def fSysTemp_TJ_MAX : Fld := ⟨12, 12⟩
def fSysTemp_VALID : Fld := ⟨24, 1⟩
def fSysTemp_CLR : Fld := ⟨25, 1⟩
def fSysRailV_MV : Fld := ⟨0, 16⟩
def fSysPmbVal_DATA : Fld := ⟨0, 16⟩
def fSysPmbVal_VALID : Fld := ⟨16, 1⟩
def fSysPmbVal_ERR : Fld := ⟨17, 1⟩
def fSysWeir_STATE : Fld := ⟨0, 2⟩
def fSysWeir_RESTART_PENDING : Fld := ⟨2, 1⟩
def fSysWeir_PWR : Fld := ⟨3, 1⟩
def fSysWeir_CMD : Fld := ⟨4, 3⟩
def fSysWeir_DRAIN_FORCED : Fld := ⟨7, 1⟩
def fSysWeir_EPOCH : Fld := ⟨8, 16⟩
def fSysWeir_DISCARD_CNT : Fld := ⟨24, 8⟩
def fSysWeir_ABORT_CNT : Fld := ⟨32, 8⟩
def fSysWeir_CNT_CLR : Fld := ⟨40, 1⟩
def fSysRspEpoch_EPOCH : Fld := ⟨0, 16⟩
def fSysRspEpoch_UNIT : Fld := ⟨16, 9⟩
def fSysRspEpoch_NONE : Fld := ⟨25, 1⟩
def fSysFlashBuf_BYTES : Fld := ⟨0, 32⟩
def fSysVlogA_ADDR : Fld := ⟨0, 32⟩
def fSysVlogA_AGENT : Fld := ⟨32, 5⟩
def fSysVlogA_TYPE : Fld := ⟨37, 2⟩
def fSysVlogA_CODE : Fld := ⟨39, 4⟩
def fSysVlogA_REPEAT : Fld := ⟨43, 4⟩
def fSysVlogA_VALID : Fld := ⟨47, 1⟩
def fSysVlogT_TIME : Fld := ⟨0, 48⟩
def fShrUnitCap_CAP : Fld := ⟨0, 32⟩
def fShrUnitCap_IN_SERVICE : Fld := ⟨32, 5⟩
def fShrUnitPledge_PLEDGED : Fld := ⟨0, 32⟩
def fShrUnitPledge_LOAD_PM : Fld := ⟨32, 10⟩
def fShrUnitArb_PTR : Fld := ⟨0, 8⟩
def fShrUnitArb_BOUND_MISS : Fld := ⟨8, 16⟩
def fShrUnitArb_STARVED : Fld := ⟨24, 8⟩
def fShrUnitArb_CLR : Fld := ⟨32, 1⟩
def fShrAdmCtl_CHECK : Fld := ⟨0, 1⟩
def fShrAdmCtl_ALLOW_SHED : Fld := ⟨1, 1⟩
def fShrAdmCtl_HYP_JETS : Fld := ⟨8, 5⟩
def fShrAdmStat_BUSY : Fld := ⟨0, 1⟩
def fShrAdmStat_RESULT : Fld := ⟨1, 1⟩
def fShrAdmStat_REASON : Fld := ⟨2, 4⟩
def fShrAdmStat_UNIT : Fld := ⟨6, 4⟩
def fShrAdmStat_SLOT : Fld := ⟨10, 4⟩
def fShrAdmStat_INDEX : Fld := ⟨14, 8⟩
def fShrAdmStat_SHED : Fld := ⟨22, 8⟩
def fShrAdmStat_FALLBACK_N : Fld := ⟨30, 8⟩
def fShrReqCfg_CLASS : Fld := ⟨0, 2⟩
def fShrReqCfg_WEIGHT : Fld := ⟨8, 8⟩
def fShrReqCfg_AGE_LIMIT : Fld := ⟨16, 16⟩
def fShrReqCfg_PLEDGE : Fld := ⟨32, 16⟩
def fShrReqDefer_DEFER_CNT : Fld := ⟨0, 32⟩
def fShrReqRefuse_REFUSE_CNT : Fld := ⟨0, 32⟩
def fShrReqRefuse_LAST_CODE : Fld := ⟨32, 4⟩
def fShrReqRefuse_STARVED : Fld := ⟨36, 1⟩
def fShrReqWait_MAX_WAIT : Fld := ⟨0, 24⟩
def fShrReqWait_CLR : Fld := ⟨47, 1⟩
def fAxsCtl_EV_STATE : Fld := ⟨0, 1⟩
def fAxsCtl_EV_AGE : Fld := ⟨1, 1⟩
def fAxsCtl_EV_STAGE : Fld := ⟨2, 1⟩
def fAxsCfg_DESC : Fld := ⟨0, 31⟩
def fAxsCfg_AGE_LIMIT : Fld := ⟨31, 4⟩
def fAxsCfg_AGE_REACT : Fld := ⟨35, 4⟩
def fAxsCmd_CMD : Fld := ⟨0, 3⟩
def fAxsStat_STATE : Fld := ⟨0, 3⟩
def fAxsStat_JET_SHED : Fld := ⟨3, 1⟩
def fAxsStat_AGE_FAULT : Fld := ⟨4, 1⟩
def fAxsStat_FRESH : Fld := ⟨5, 1⟩
def fAxsStat_STO : Fld := ⟨6, 1⟩
def fAxsStat_FAULT : Fld := ⟨7, 1⟩
def fAxsStat_LAST_CMD : Fld := ⟨8, 3⟩
def fAxsStat_CMD_RESULT : Fld := ⟨11, 3⟩
def fAxsStat_CMD_PENDING : Fld := ⟨14, 1⟩
def fAxsStat_FB_AGE : Fld := ⟨16, 8⟩
def fAxsStat_CMD_AGE : Fld := ⟨24, 8⟩
def fAxsAgeStat_MAX_FB_AGE : Fld := ⟨0, 8⟩
def fAxsAgeStat_STALE_CNT : Fld := ⟨8, 32⟩
def fAxsAgeStat_CLR : Fld := ⟨40, 1⟩
def fAxsCsFlags_SAT : Fld := ⟨0, 1⟩
def fAxsCsFlags_ACC_SAT : Fld := ⟨1, 1⟩
def fAxsCsFlags_DIV0 : Fld := ⟨2, 1⟩
def fAxsCsFlags_COEF_RANGE : Fld := ⟨3, 1⟩
def fAxsCsFlags_INT_HOLD : Fld := ⟨4, 1⟩
def fAxsCsFlags_OUT_LIM : Fld := ⟨5, 1⟩
def fAxsCsFlags_VLIM : Fld := ⟨6, 1⟩
def fAxsCsFlags_SWAPPED : Fld := ⟨7, 1⟩
def fAxsCsFlags_EV_SAT : Fld := ⟨8, 1⟩
def fAxsCsCost_CYC_COST : Fld := ⟨0, 16⟩
def fAxsCsCost_CL_COST : Fld := ⟨16, 16⟩
def fAxsCsCost_CL_EXEC : Fld := ⟨32, 8⟩
def fAxsCsFocI_ID : Fld := ⟨0, 24⟩
def fAxsCsFocI_IQ : Fld := ⟨24, 24⟩
def fAxsCsFocV_VD : Fld := ⟨0, 24⟩
def fAxsCsFocV_VQ : Fld := ⟨24, 24⟩
def fAxsCsFocStat_THETA_E : Fld := ⟨0, 24⟩
def fAxsCsFocStat_VLIM_CNT : Fld := ⟨24, 23⟩
def fAxsCsFocStat_CLR : Fld := ⟨47, 1⟩
def fAxsMvCtl_TYPE : Fld := ⟨0, 2⟩
def fAxsMvCtl_TRANS : Fld := ⟨2, 2⟩
def fAxsMvCtl_GSTART : Fld := ⟨4, 1⟩
def fAxsMvCtl_SUPER : Fld := ⟨5, 1⟩
def fAxsMvCtl_AT : Fld := ⟨6, 1⟩
def fAxsMvCtl_PUSH : Fld := ⟨7, 1⟩
def fAxsMvCtl_FLUSH : Fld := ⟨8, 1⟩
def fAxsMvCtl_ID : Fld := ⟨16, 8⟩
def fAxsCasCycle_N : Fld := ⟨0, 48⟩
def fAxsMvStat_QCOUNT : Fld := ⟨0, 4⟩
def fAxsMvStat_PUSH_RES : Fld := ⟨4, 3⟩
def fAxsMvStat_ACTIVE_ID : Fld := ⟨7, 8⟩
def fAxsMvStat_PLANNED : Fld := ⟨15, 1⟩
def fAxsMvStat_PARAM_DEFERRED : Fld := ⟨16, 1⟩
def fAxsMvStat_DONE : Fld := ⟨17, 1⟩
def fAxsMvStat_REVERSING : Fld := ⟨18, 1⟩
def fAxsMvStat_FLUSH_CNT : Fld := ⟨19, 8⟩
def fAxsMvStat_CHG_RES : Fld := ⟨27, 3⟩
def fAxsMvStat_SEG : Fld := ⟨30, 4⟩
def fAxsFolCtl_OP : Fld := ⟨0, 2⟩
def fAxsFolCtl_AT_POS : Fld := ⟨2, 1⟩
def fAxsFolCtl_CANCEL : Fld := ⟨3, 1⟩
def fAxsFolCtl_SW_TABLE : Fld := ⟨4, 6⟩
def fAxsFolCtl_FORCE : Fld := ⟨10, 1⟩
def fAxsFolCtl_REL : Fld := ⟨11, 1⟩
def fAxsFolCtl_AT : Fld := ⟨12, 1⟩
def fAxsFolPos_X : Fld := ⟨0, 48⟩
def fAxsFolStat_FSTATE : Fld := ⟨0, 2⟩
def fAxsFolStat_SW_ARMED : Fld := ⟨2, 1⟩
def fAxsFolStat_RES : Fld := ⟨3, 3⟩
def fAxsFolStat_TABLE : Fld := ⟨6, 6⟩
def fAxsFolStat_WRAPS : Fld := ⟨12, 16⟩
def fAxsFolStat_CAM_OUT : Fld := ⟨28, 1⟩
def fAxsFltCause_CAUSE : Fld := ⟨0, 12⟩
def fAxsFltCause_ACTIVE : Fld := ⟨12, 12⟩
def fAxsFltCause_FIRST : Fld := ⟨24, 4⟩
def fAxsFltCause_REACT : Fld := ⟨28, 3⟩
def fAxsFltCause_EV_FLT : Fld := ⟨31, 1⟩
def fAxsFltCause_CFG_RANGE : Fld := ⟨32, 1⟩
def fAxsFltTime_TIME : Fld := ⟨0, 48⟩
def fAxsLimStat_LP_RAW : Fld := ⟨0, 1⟩
def fAxsLimStat_LP_DEB : Fld := ⟨1, 1⟩
def fAxsLimStat_LN_RAW : Fld := ⟨2, 1⟩
def fAxsLimStat_LN_DEB : Fld := ⟨3, 1⟩
def fAxsLimStat_HM_RAW : Fld := ⟨4, 1⟩
def fAxsLimStat_HM_DEB : Fld := ⟨5, 1⟩
def fAxsLimStat_BLK_POS : Fld := ⟨6, 1⟩
def fAxsLimStat_BLK_NEG : Fld := ⟨7, 1⟩
def fAxsLimStat_LAST_REFUSE : Fld := ⟨8, 2⟩
def fAxsLimStat_REFUSE_CNT : Fld := ⟨10, 16⟩
def fAxsLimStat_CLR : Fld := ⟨26, 1⟩
def fAxsSsStat_AT_REST : Fld := ⟨0, 1⟩
def fAxsSsStat_CR_ACTIVE : Fld := ⟨1, 1⟩
def fAxsSsStat_SAFE_STOP : Fld := ⟨2, 1⟩
def fAxsSsStat_STOP_CYCLES : Fld := ⟨3, 16⟩
def fAxsHmCtl_START : Fld := ⟨0, 1⟩
def fAxsHmCtl_ABORT : Fld := ⟨1, 1⟩
def fAxsHmCtl_AT : Fld := ⟨2, 1⟩
def fAxsHmStat_PHASE : Fld := ⟨0, 3⟩
def fAxsHmStat_RES : Fld := ⟨3, 4⟩
def fAxsHmStat_HOMED : Fld := ⟨7, 1⟩
def fAxsHmStat_BUSY : Fld := ⟨8, 1⟩
def fAxsHmStat_LIMIT_HITS : Fld := ⟨9, 2⟩
def fAxsHmStat_TOGGLES : Fld := ⟨11, 4⟩
def fAxsHmStat_LATCH_REJ : Fld := ⟨15, 8⟩
def fAxsHmStat_EDGE_DIR : Fld := ⟨23, 1⟩
def fAxsHmPos_P_H : Fld := ⟨0, 48⟩
def fAxsHmShift_D : Fld := ⟨0, 48⟩
def fAxsFbStat_SPD_STATE : Fld := ⟨0, 3⟩
def fAxsFbStat_VALID : Fld := ⟨3, 1⟩
def fAxsFbStat_FAILING : Fld := ⟨4, 8⟩
def fAxsFbStat_INV_RUN : Fld := ⟨12, 4⟩
def fAxsFbStat_EV_CHK : Fld := ⟨16, 1⟩
def fAxsFbStat_CHK_CLR : Fld := ⟨17, 1⟩
def fAxsStage_REQ : Fld := ⟨0, 1⟩
def fAxsStage_CANCEL : Fld := ⟨1, 1⟩
def fAxsStage_STATE_LOAD : Fld := ⟨2, 1⟩
def fAxsStage_AT : Fld := ⟨3, 1⟩
def fAxsStage_PENDING : Fld := ⟨4, 1⟩
def fAxsStage_RESULT : Fld := ⟨5, 3⟩
def fAxsStage_SWAP_CNT : Fld := ⟨8, 16⟩
def fAxsStageCycle_N : Fld := ⟨0, 48⟩
def fAxsTag_BYTES : Fld := ⟨0, 32⟩
def fAxsCsSig_VALUE : Fld := ⟨0, 24⟩
def fAxsMvTarget_VALUE : Fld := ⟨0, 48⟩
def fAxsMvVmax_VALUE : Fld := ⟨0, 48⟩
def fAxsMvAmax_VALUE : Fld := ⟨0, 48⟩
def fAxsMvDmax_VALUE : Fld := ⟨0, 48⟩
def fAxsMvJmax_VALUE : Fld := ⟨0, 48⟩
def fAxsChgVmax_VALUE : Fld := ⟨0, 48⟩
def fAxsChgAmax_VALUE : Fld := ⟨0, 48⟩
def fAxsChgDmax_VALUE : Fld := ⟨0, 48⟩
def fAxsChgCtl_EN : Fld := ⟨0, 3⟩
def fAxsChgCtl_APPLY : Fld := ⟨3, 1⟩
def fAxsChgCtl_AT : Fld := ⟨4, 1⟩
def fAxsSetP_PSET : Fld := ⟨0, 48⟩
def fAxsSetV_VSET : Fld := ⟨0, 48⟩
def fAxsSetA_ASET : Fld := ⟨0, 48⟩
def fAxsSupP_OFFSET : Fld := ⟨0, 48⟩
def fAxsFbPos_PACT : Fld := ⟨0, 48⟩
def fAxsFbVel_VACT : Fld := ⟨0, 48⟩
def fAxsFbHshift_HSHIFT : Fld := ⟨0, 48⟩
def fJetCtl_ROT_PERIOD : Fld := ⟨0, 16⟩
def fJetCtl_RETIRE_LIMIT : Fld := ⟨16, 4⟩
def fJetCtl_SWAP_POS : Fld := ⟨20, 4⟩
def fJetCtl_SWAP : Fld := ⟨24, 1⟩
def fJetCtl_EV_FAIL : Fld := ⟨25, 1⟩
def fJetStat_J : Fld := ⟨0, 5⟩
def fJetStat_STANDBY : Fld := ⟨5, 5⟩
def fJetStat_RETIRED : Fld := ⟨10, 17⟩
def fJetStat_SWAP_PENDING : Fld := ⟨27, 1⟩
def fJetStat_ROT_POS : Fld := ⟨28, 4⟩
def fJetMapLo_POS0_7 : Fld := ⟨0, 40⟩
def fJetMapHi_POS8_15 : Fld := ⟨0, 40⟩
def fJetExecStat_SPEC_DISCARD : Fld := ⟨0, 16⟩
def fJetExecStat_RECOMPUTE : Fld := ⟨16, 16⟩
def fJetExecStat_LATE_REC : Fld := ⟨32, 16⟩
def fJetArithStat_SAT_CNT : Fld := ⟨0, 16⟩
def fJetArithStat_ACC_SAT_CNT : Fld := ⟨16, 16⟩
def fJetArithStat_DIV0_CNT : Fld := ⟨32, 16⟩
def fJetTurnStat_LAST_NS : Fld := ⟨0, 10⟩
def fJetTurnStat_MAX_NS : Fld := ⟨10, 10⟩
def fJetTurnStat_MAX_PORT : Fld := ⟨20, 6⟩
def fJetTurnStat_OVER : Fld := ⟨26, 1⟩
def fJetFaultStat_ECC_CNT : Fld := ⟨0, 16⟩
def fJetFaultStat_REPEAT_CNT : Fld := ⟨16, 16⟩
def fJetCntClr_CLR : Fld := ⟨0, 1⟩
def fJetjStat_ROLE : Fld := ⟨0, 3⟩
def fJetjStat_POS : Fld := ⟨3, 5⟩
def fJetjStat_FAIL_CNT : Fld := ⟨8, 4⟩
def fJetjStat_LAST_CHECK : Fld := ⟨12, 3⟩
def fJetjStat_TEST_PASS : Fld := ⟨15, 1⟩
def fJetjStat_TEST_CNT : Fld := ⟨16, 16⟩
def fJetjStat_LAST_AXIS : Fld := ⟨32, 8⟩
def fJetjFailTime_TIME : Fld := ⟨0, 48⟩
def fJetjLoad_BUSY_LAST : Fld := ⟨0, 20⟩
def fJetjLoad_BUSY_MAX : Fld := ⟨20, 20⟩
def fJetjTag_BYTES : Fld := ⟨0, 32⟩
def fCasCtl_PLAN_MAX : Fld := ⟨0, 7⟩
def fCasCtl_EV_DEFER : Fld := ⟨7, 1⟩
def fCasStat_PASS_NS : Fld := ⟨0, 16⟩
def fCasStat_PASS_MAX : Fld := ⟨16, 16⟩
def fCasStat_PLAN_DEFER : Fld := ⟨32, 16⟩
def fCasGrpCtl_GROUP : Fld := ⟨0, 5⟩
def fCasGrpCtl_GO : Fld := ⟨5, 1⟩
def fCasGrpCtl_AT : Fld := ⟨6, 1⟩
def fCasGrpCycle_N : Fld := ⟨0, 48⟩
def fCasGrpStat_ARMED : Fld := ⟨0, 8⟩
def fCasGrpStat_RES : Fld := ⟨8, 3⟩
def fCasGrpStat_STARTED : Fld := ⟨11, 8⟩
def fCasGrpStat_START_CNT : Fld := ⟨19, 16⟩
def fCasCam_FIRST : Fld := ⟨0, 14⟩
def fCasCam_COUNT : Fld := ⟨14, 15⟩
def fCasCam_MODE : Fld := ⟨29, 1⟩
def fCasCam_VALID : Fld := ⟨30, 1⟩
def fCasCam_BUSY : Fld := ⟨31, 1⟩
def fCasCam_ERR : Fld := ⟨32, 3⟩
def fCasCam_IN_USE : Fld := ⟨35, 8⟩
def fLmOSec_SEC : Fld := ⟨0, 48⟩
def fLmONs_NS : Fld := ⟨0, 46⟩
def fLmOP_POS : Fld := ⟨0, 48⟩
def fLmOPf_FRAC : Fld := ⟨0, 24⟩
def fLmOV_VEL : Fld := ⟨0, 48⟩
def fLmOVt_VEL : Fld := ⟨0, 48⟩
def fLmOA_ACC : Fld := ⟨0, 48⟩
def fLmOCtl_CMD : Fld := ⟨0, 3⟩
def fLmStat_PENDING : Fld := ⟨0, 3⟩
def fLmStat_RES : Fld := ⟨3, 3⟩
def fLmStat_STEP : Fld := ⟨6, 1⟩
def fLmStat_RAMP : Fld := ⟨7, 1⟩
def fLmStat_APPLIED : Fld := ⟨8, 16⟩
def fLmPos_PSET : Fld := ⟨0, 48⟩
def fLmVel_VSET : Fld := ⟨0, 48⟩
def fLmPrSec_SEC : Fld := ⟨0, 48⟩
def fLmPrNs_NS : Fld := ⟨0, 46⟩
def fLmPrP_POS : Fld := ⟨0, 48⟩
def fLmPrPf_FRAC : Fld := ⟨0, 24⟩
def fLmPrPf_DONE : Fld := ⟨47, 1⟩
def fLmPrV_VEL : Fld := ⟨0, 48⟩
def fEncCfg_TYPE : Fld := ⟨0, 3⟩
def fEncCfg_FILT : Fld := ⟨3, 4⟩
def fEncCfg_Z_GATE : Fld := ⟨7, 1⟩
def fEncCfg_MT_BITS : Fld := ⟨8, 6⟩
def fEncCfg_POS_BITS : Fld := ⟨14, 6⟩
def fEncCfg_CRC_W : Fld := ⟨20, 5⟩
def fEncCfg_NE_EN : Fld := ⟨25, 1⟩
def fEncCfg_NW_EN : Fld := ⟨26, 1⟩
def fEncCfg_CRC_INV : Fld := ⟨27, 1⟩
def fEncCfg_IDX_TOL : Fld := ⟨28, 20⟩
def fEncSer_SER_LEAD : Fld := ⟨0, 13⟩
def fEncSer_CLK_DIV : Fld := ⟨13, 9⟩
def fEncSer_SER_DLY : Fld := ⟨22, 9⟩
def fEncSer_SER_TMO : Fld := ⟨31, 7⟩
def fEncMod_MOD : Fld := ⟨0, 32⟩
def fEncMod_CRC_POLY : Fld := ⟨32, 16⟩
def fEncPos_POS : Fld := ⟨0, 48⟩
def fEncFrameLo_BITS : Fld := ⟨0, 32⟩
def fEncFrameHi_BITS : Fld := ⟨0, 32⟩
def fEncStat_ST : Fld := ⟨0, 32⟩
def fEncStat_IDX_SEEN : Fld := ⟨32, 1⟩
def fEncStat_WARN : Fld := ⟨33, 1⟩
def fEncErr_CRC_CNT : Fld := ⟨0, 12⟩
def fEncErr_TMO_CNT : Fld := ⟨12, 12⟩
def fEncErr_EVT_CNT : Fld := ⟨24, 12⟩
def fEncErr_NW_CNT : Fld := ⟨36, 11⟩
def fEncErr_CLR : Fld := ⟨47, 1⟩
def fEncLatCtl_SRC (k : Nat) : Fld := ⟨16 * k + 0, 6⟩
def fEncLatCtl_EDGE (k : Nat) : Fld := ⟨16 * k + 6, 2⟩
def fEncLatCtl_MODE (k : Nat) : Fld := ⟨16 * k + 8, 1⟩
def fEncLatCtl_ARM (k : Nat) : Fld := ⟨16 * k + 9, 1⟩
def fEncLatCtl_DISARM (k : Nat) : Fld := ⟨16 * k + 10, 1⟩
def fEncLatCtl_ARMED (k : Nat) : Fld := ⟨16 * k + 11, 1⟩
def fEncLatCtl_VALID (k : Nat) : Fld := ⟨16 * k + 12, 1⟩
def fEncLatCtl_SUSPECT (k : Nat) : Fld := ⟨16 * k + 13, 1⟩
def fEncLatCtl_INTERP (k : Nat) : Fld := ⟨16 * k + 14, 1⟩
def fEncLatCtl_OVR (k : Nat) : Fld := ⟨16 * k + 15, 1⟩
def fEncLatPos_POS : Fld := ⟨0, 48⟩
def fEncLatTime_TIME : Fld := ⟨0, 48⟩
def fTcCfg_MODE : Fld := ⟨0, 2⟩
def fTcCfg_FMT : Fld := ⟨2, 1⟩
def fTcCfg_HR : Fld := ⟨3, 1⟩
def fTcCfg_LOAD : Fld := ⟨4, 1⟩
def fTcCfg_GROUP : Fld := ⟨5, 4⟩
def fTcCfg_DT : Fld := ⟨9, 12⟩
def fTcCfg_OWNED : Fld := ⟨21, 1⟩
def fTcCfg_GPIO_OUT : Fld := ⟨22, 6⟩
def fTcPerSh_PER : Fld := ⟨0, 21⟩
def fTcCmpSh_A1 : Fld := ⟨0, 24⟩
def fTcCmpSh_A2 : Fld := ⟨24, 24⟩
def fTcCmp2Sh_B1 : Fld := ⟨0, 24⟩
def fTcCmp2Sh_B2 : Fld := ⟨24, 24⟩
def fTcCtl_COMMIT : Fld := ⟨0, 1⟩
def fTcStat_STALE_SHADOW : Fld := ⟨0, 1⟩
def fTcStat_DUTY_CLAMP : Fld := ⟨1, 1⟩
def fTcStat_SPLIT_UPDATE : Fld := ⟨2, 1⟩
def fTcStat_SHOOT_THROUGH_REQ : Fld := ⟨3, 1⟩
def fTcStat_DT_EXTEND : Fld := ⟨4, 1⟩
def fTcStat_ST_CNT : Fld := ⟨8, 16⟩
def fTcStat_BOOT_CNT : Fld := ⟨24, 16⟩
def fTcStat_CLR : Fld := ⟨40, 1⟩
def fTcLive_PER : Fld := ⟨0, 21⟩
def fTcLive_A1 : Fld := ⟨21, 24⟩
def fSgCfg_OWNER : Fld := ⟨0, 8⟩
def fSgCfg_ZONE : Fld := ⟨8, 3⟩
def fSgCfg_BOOT_EN : Fld := ⟨11, 1⟩
def fSgCfg_BOOT_N : Fld := ⟨12, 8⟩
def fSgCfg_T_BOOT : Fld := ⟨20, 12⟩
def fSgCfg_PRE_ON : Fld := ⟨32, 16⟩
def fSgCfg2_PRE_GAP : Fld := ⟨0, 8⟩
def fSgCfg2_PRE_VALID : Fld := ⟨8, 16⟩
def fSgCfg2_SPHASE : Fld := ⟨24, 21⟩
def fSgCfg2_AUTO_EN : Fld := ⟨45, 1⟩
def fSgCtl_EN : Fld := ⟨0, 1⟩
def fSgCtl_COMMIT : Fld := ⟨1, 1⟩
def fSgCtl_PRECHARGE : Fld := ⟨2, 1⟩
def fSgCtl_TRIP_CLR : Fld := ⟨3, 1⟩
def fSgCtl_EV_TRIP : Fld := ⟨4, 1⟩
def fSgStat_STATE : Fld := ⟨0, 3⟩
def fSgStat_RESTART_PENDING : Fld := ⟨3, 1⟩
def fSgStat_PRECHARGED : Fld := ⟨4, 1⟩
def fSgStat_TRIP : Fld := ⟨5, 1⟩
def fSgStat_STO : Fld := ⟨6, 1⟩
def fSgStat_MULTI : Fld := ⟨7, 1⟩
def fSgStat_TRIP_IN_DT : Fld := ⟨8, 1⟩
def fSgStat_DRIVING : Fld := ⟨9, 1⟩
def fSgStat_TRIP_CNT : Fld := ⟨16, 16⟩
def fSgTripSnap_SNAP : Fld := ⟨0, 20⟩
def fSgTripSnap_FIRST : Fld := ⟨20, 5⟩
def fSgTripTime_TIME : Fld := ⟨0, 48⟩
def fCmpCfg_FAST : Fld := ⟨0, 8⟩
def fCmpCfg_HARD : Fld := ⟨8, 8⟩
def fCmpCfg_QF : Fld := ⟨16, 6⟩
def fCmpCfg_CF : Fld := ⟨22, 10⟩
def fCmpCfg_FAST_EN : Fld := ⟨32, 1⟩
def fCmpCfg_HARD_EN : Fld := ⟨33, 1⟩
def fCmpStat_RAW_FAST : Fld := ⟨0, 1⟩
def fCmpStat_RAW_HARD : Fld := ⟨1, 1⟩
def fCmpStat_QUAL_FAST : Fld := ⟨2, 1⟩
def fCmpStat_ST_CMD : Fld := ⟨3, 1⟩
def fCmpStat_ST_BUSY : Fld := ⟨4, 1⟩
def fCmpStat_ST_PASS : Fld := ⟨5, 1⟩
def fCmpStat_ST_FAIL : Fld := ⟨6, 1⟩
def fCmpStat_ST_CNT : Fld := ⟨16, 16⟩
def fCmpStat_INACT : Fld := ⟨32, 10⟩
def fSdCfg_CLK : Fld := ⟨0, 3⟩
def fSdCfg_OSR3 : Fld := ⟨3, 9⟩
def fSdCfg_OSR2 : Fld := ⟨12, 6⟩
def fSdCfg_OC_EN : Fld := ⟨18, 1⟩
def fSdCfg_OC_CNT : Fld := ⟨19, 3⟩
def fSdCfg_OC_THR : Fld := ⟨22, 11⟩
def fSdCfg_CF : Fld := ⟨33, 10⟩
def fSdCfg_GROUP : Fld := ⟨43, 4⟩
def fSdVal_SINC3 : Fld := ⟨0, 24⟩
def fSdVal_SINC2 : Fld := ⟨24, 12⟩
def fSdStat_OC : Fld := ⟨0, 1⟩
def fSdStat_STUCK : Fld := ⟨1, 1⟩
def fSdStat_EV_STUCK : Fld := ⟨2, 1⟩
def fSdclk_DIV : Fld := ⟨0, 6⟩
def fSdclk_RUN : Fld := ⟨6, 1⟩
def fPortCfg_USE : Fld := ⟨0, 3⟩
def fPortCfg_RX_INV : Fld := ⟨3, 1⟩
def fPortCfg_TX_INV : Fld := ⟨4, 1⟩
def fPortCfg_EQ_MODE : Fld := ⟨5, 1⟩
def fPortCfg_EQ_FIXED : Fld := ⟨6, 6⟩
def fPortCfg_TX_LEVEL : Fld := ⟨12, 2⟩
def fPortCfg_TX_DEEMPH : Fld := ⟨14, 2⟩
def fPortCtl_RETRAIN : Fld := ⟨0, 1⟩
def fPortCtl_TEST : Fld := ⟨1, 2⟩
def fPortCtl_EV_DOWN : Fld := ⟨3, 1⟩
def fPortCtl_EV_ERR : Fld := ⟨4, 1⟩
def fPortStat_LSTATE : Fld := ⟨0, 3⟩
def fPortStat_SIG_DET : Fld := ⟨3, 1⟩
def fPortStat_ALIGNED : Fld := ⟨4, 1⟩
def fPortStat_EQ_CODE : Fld := ⟨5, 6⟩
def fPortStat_DOWN_CAUSE : Fld := ⟨11, 2⟩
def fPortStat_RPT_NS : Fld := ⟨13, 7⟩
def fPortStat_TRAIN_FAIL : Fld := ⟨20, 8⟩
def fPortErr0_CODE_ERR : Fld := ⟨0, 16⟩
def fPortErr0_DISP_ERR : Fld := ⟨16, 16⟩
def fPortErr0_LINK_DOWN : Fld := ⟨32, 16⟩
def fPortErr1_FCS_ERR : Fld := ⟨0, 16⟩
def fPortErr1_HDR_ERR : Fld := ⟨16, 16⟩
def fPortErr1_LEN_ERR : Fld := ⟨32, 16⟩
def fPortErr2_ED_ERR : Fld := ⟨0, 16⟩
def fPortErr2_EE_RX : Fld := ⟨16, 16⟩
def fPortErr2_STALE : Fld := ⟨32, 16⟩
def fPortErr3_SYNC_ERR : Fld := ⟨0, 16⟩
def fPortErr3_RPT_CUT : Fld := ⟨16, 16⟩
def fPortErr3_RPT_DROP : Fld := ⟨32, 16⟩
def fPortErr4_ID_ERR : Fld := ⟨0, 16⟩
def fPortErr4_TX_ABORT : Fld := ⟨16, 16⟩
def fPortErr4_SYNC_DS : Fld := ⟨32, 16⟩
def fPortRxFrames_COUNT : Fld := ⟨0, 48⟩
def fPortTxFrames_COUNT : Fld := ⟨0, 48⟩
def fPortPrbs_LOCK : Fld := ⟨0, 1⟩
def fPortPrbs_ERR_CNT : Fld := ⟨1, 32⟩
def fPortCntClr_CLR : Fld := ⟨0, 1⟩
def fPortTag_BYTES : Fld := ⟨0, 32⟩
def fNetCycCfg_CYC_LEN : Fld := ⟨0, 21⟩
def fNetCycCfg_OI : Fld := ⟨21, 17⟩
def fNetCycCfg_CH : Fld := ⟨38, 1⟩
def fNetSegCfg_STATIC_START : Fld := ⟨0, 13⟩
def fNetSegCfg_SLOT_COUNT : Fld := ⟨13, 5⟩
def fNetSegCfg_SLOT_LEN : Fld := ⟨18, 13⟩
def fNetSegCfg_DYN_START : Fld := ⟨31, 17⟩
def fNetGrdCfg_APO : Fld := ⟨0, 6⟩
def fNetGrdCfg_G_EARLY : Fld := ⟨6, 6⟩
def fNetGrdCfg_G_CLOSE : Fld := ⟨12, 6⟩
def fNetGrdCfg_SYNC_LOSS : Fld := ⟨18, 4⟩
def fNetGrdCfg_SYNC_TOL : Fld := ⟨22, 10⟩
def fNetDynCfg_MS_COUNT : Fld := ⟨0, 8⟩
def fNetDynCfg_RNG_MS : Fld := ⟨8, 6⟩
def fNetCsCtl_RETRY : Fld := ⟨0, 1⟩
def fNetCsCtl_EV_CS : Fld := ⟨1, 1⟩
def fNetCsStat_STATE : Fld := ⟨0, 3⟩
def fNetCsStat_ATTEMPT : Fld := ⟨3, 4⟩
def fNetCsStat_FOREIGN : Fld := ⟨7, 1⟩
def fNetCsStat_SCHED_MISMATCH : Fld := ⟨8, 1⟩
def fNetCsStat_BLOCKED : Fld := ⟨9, 1⟩
def fNetCsStat_COLLISIONS : Fld := ⟨10, 16⟩
def fNetSyncStat_ISTATE : Fld := ⟨0, 3⟩
def fNetSyncStat_SEL : Fld := ⟨3, 1⟩
def fNetSyncStat_A_OK : Fld := ⟨4, 1⟩
def fNetSyncStat_B_OK : Fld := ⟨5, 1⟩
def fNetSyncStat_PHASE_ERR : Fld := ⟨6, 16⟩
def fNetSyncStat_SLIP : Fld := ⟨22, 16⟩
def fNetSyncStat_RANGE_FAIL : Fld := ⟨38, 10⟩
def fNetLinkDelay_D_A : Fld := ⟨0, 24⟩
def fNetLinkDelay_D_B : Fld := ⟨24, 24⟩
def fNetSelf_NODE : Fld := ⟨0, 7⟩
def fNetSelf_POS : Fld := ⟨7, 2⟩
def fNetRxRing_BASE : Fld := ⟨0, 19⟩
def fNetRxRing_LEN : Fld := ⟨19, 4⟩
def fNetRxPtr_WR : Fld := ⟨0, 18⟩
def fNetRxPtr_RD : Fld := ⟨18, 18⟩
def fNetRxPtr_RX_DROP : Fld := ⟨36, 12⟩
def fNetCntClr_CLR : Fld := ⟨0, 1⟩
def fNodeCfg_PORT : Fld := ⟨0, 6⟩
def fNodeCfg_POS : Fld := ⟨6, 2⟩
def fNodeCfg_SLOT : Fld := ⟨8, 4⟩
def fNodeCfg_NREC : Fld := ⟨12, 4⟩
def fNodeCfg_NSC : Fld := ⟨16, 3⟩
def fNodeCfg_UP_FIRST : Fld := ⟨19, 8⟩
def fNodeCfg_UP_MS : Fld := ⟨27, 8⟩
def fNodeCfg_SVC_FLOW : Fld := ⟨35, 8⟩
def fNodeCfg_USED : Fld := ⟨43, 1⟩
def fNodeStat_HSTATE : Fld := ⟨0, 3⟩
def fNodeStat_VIOL : Fld := ⟨3, 2⟩
def fNodeStat_EV_MUTE : Fld := ⟨5, 1⟩
def fNodeStat_MUTE_CNT : Fld := ⟨6, 16⟩
def fNodeStat_DL_WAIT : Fld := ⟨22, 16⟩
def fNodeGrd_EARLY : Fld := ⟨0, 16⟩
def fNodeGrd_LATE : Fld := ⟨16, 16⟩
def fNodeGrd_OVERRUN : Fld := ⟨32, 16⟩
def fNodeRng_RES : Fld := ⟨0, 32⟩
def fNodeRng_COUNT : Fld := ⟨32, 16⟩
def fFwdCfg_USED : Fld := ⟨0, 1⟩
def fFwdCfg_SRC_NODE : Fld := ⟨1, 7⟩
def fFwdCfg_DST_PORT : Fld := ⟨8, 6⟩
def fFwdCfg_WIN_START : Fld := ⟨14, 18⟩
def fFwdStat_SENT : Fld := ⟨0, 24⟩
def fFwdStat_MISS : Fld := ⟨24, 16⟩
def fFwdStat_CUT : Fld := ⟨40, 8⟩
def fFlowCfg_USED : Fld := ⟨0, 1⟩
def fFlowCfg_PORT : Fld := ⟨1, 6⟩
def fFlowTx_BUF : Fld := ⟨0, 19⟩
def fFlowTx_LEN : Fld := ⟨19, 11⟩
def fFlowTx_POST : Fld := ⟨30, 1⟩
def fFlowStat_STATE : Fld := ⟨0, 3⟩
def fFlowStat_EV_DONE : Fld := ⟨3, 1⟩
def fFlowStat_SENT_CNT : Fld := ⟨4, 24⟩
def fTwnCfg_CMD_LEAD : Fld := ⟨0, 4⟩
def fTwnCfg_CLAIM_CYCLES : Fld := ⟨4, 4⟩
def fTwnCfg_VERIFY_CYCLES : Fld := ⟨8, 16⟩
def fTwnCfg_MIS_MAX : Fld := ⟨24, 8⟩
def fTwnCfg_CRIT_PORTS : Fld := ⟨32, 6⟩
def fTwnCtl_HANDOVER : Fld := ⟨0, 1⟩
def fTwnCtl_RESYNC : Fld := ⟨1, 1⟩
def fTwnCtl_EV_ROLE : Fld := ⟨2, 1⟩
def fTwnCtl_EV_MIS : Fld := ⟨3, 1⟩
def fTwnCtl_CNT_CLR : Fld := ⟨4, 1⟩
def fTwnHoCycle_N : Fld := ⟨0, 48⟩
def fTwnStat_TSTATE : Fld := ⟨0, 3⟩
def fTwnStat_P_TSTATE : Fld := ⟨3, 3⟩
def fTwnStat_HL0_OK : Fld := ⟨6, 1⟩
def fTwnStat_HL1_OK : Fld := ⟨7, 1⟩
def fTwnStat_HO_RES : Fld := ⟨8, 3⟩
def fTwnStat_CAUSE : Fld := ⟨11, 3⟩
def fTwnStat_GEN_MISMATCH : Fld := ⟨14, 1⟩
def fTwnStat_BR_USED : Fld := ⟨15, 7⟩
def fTwnStat_BR_DEAF : Fld := ⟨22, 7⟩
def fTwnStat_CLAIM_RUN : Fld := ⟨29, 4⟩
def fTwnStat_COPY_AXIS : Fld := ⟨33, 8⟩
def fTwnStat_UNCHECKED : Fld := ⟨41, 1⟩
def fTwnPull_DONE_KB : Fld := ⟨0, 16⟩
def fTwnPull_TOTAL_KB : Fld := ⟨16, 16⟩
def fTwnPull_PULL_MS : Fld := ⟨32, 16⟩
def fTwnLastHo_TIME : Fld := ⟨0, 48⟩
def fTwnCnt0_MISMATCH : Fld := ⟨0, 16⟩
def fTwnCnt0_COPY : Fld := ⟨16, 16⟩
def fTwnCnt0_DIG_MISS : Fld := ⟨32, 16⟩
def fTwnCnt1_MIRROR_TX : Fld := ⟨0, 16⟩
def fTwnCnt1_MIRROR_LATE : Fld := ⟨16, 16⟩
def fTwnCnt1_COPY_DEFER : Fld := ⟨32, 16⟩
def fTwnCnt2_HANDOVERS : Fld := ⟨0, 16⟩
def fTwnCnt2_ABD_SUPPRESSED : Fld := ⟨16, 16⟩
def fTwnCnt2_CLAIMS : Fld := ⟨32, 16⟩
def fTwnMis_FLAGS : Fld := ⟨0, 48⟩
def fTimT48_TIME : Fld := ⟨0, 48⟩
def fTimCycle_N : Fld := ⟨0, 48⟩
def fTimCycT48_TIME : Fld := ⟨0, 48⟩
def fTimNltSec_SEC : Fld := ⟨0, 48⟩
def fTimNltNs_NS : Fld := ⟨0, 46⟩
def fTimLtSec_SEC : Fld := ⟨0, 48⟩
def fTimLtNs_NS : Fld := ⟨0, 46⟩
def fTimCfg_SLEW : Fld := ⟨0, 7⟩
def fTimCfg_HOLD_MAX : Fld := ⟨7, 8⟩
def fTimCfg_PH_LOST : Fld := ⟨15, 16⟩
def fTimCfg_PREF : Fld := ⟨31, 1⟩
def fTimCfg_REVERT_S : Fld := ⟨32, 8⟩
def fTimCfg_LS_EN : Fld := ⟨40, 1⟩
def fTimGrid_G : Fld := ⟨0, 48⟩
def fTimCtl_SEL_FORCE : Fld := ⟨0, 2⟩
def fTimCtl_EV_LT : Fld := ⟨2, 1⟩
def fTimCtl_EV_TSQ : Fld := ⟨3, 1⟩
def fTimStat_LSTATE : Fld := ⟨0, 2⟩
def fTimStat_SEL : Fld := ⟨2, 1⟩
def fTimStat_LOST_SYNC : Fld := ⟨3, 1⟩
def fTimStat_LT_STEP : Fld := ⟨4, 1⟩
def fTimStat_SWITCHES : Fld := ⟨5, 16⟩
def fTimCorr_C : Fld := ⟨0, 48⟩
def fDomCfg_PORTS : Fld := ⟨0, 2⟩
def fDomCfg_DOMAIN_NUM : Fld := ⟨2, 8⟩
def fDomCfg_PROFILE : Fld := ⟨10, 2⟩
def fDomCfg_TRANSPORT : Fld := ⟨12, 1⟩
def fDomCfg_KP_SH : Fld := ⟨13, 4⟩
def fDomCfg_KI_SH : Fld := ⟨17, 5⟩
def fDomCfg_LOCK_N : Fld := ⟨22, 4⟩
def fDomCfg_LOCK_THR : Fld := ⟨26, 10⟩
def fDomCfg_STEP_THR : Fld := ⟨36, 12⟩
def fDomMT48_TIME : Fld := ⟨0, 48⟩
def fDomMSec_SEC : Fld := ⟨0, 48⟩
def fDomMNs_NS : Fld := ⟨0, 46⟩
def fDomMCtl_POST : Fld := ⟨0, 1⟩
def fDomStat_DSTATE : Fld := ⟨0, 3⟩
def fDomStat_RES : Fld := ⟨3, 2⟩
def fDomStat_STEPS : Fld := ⟨5, 16⟩
def fDomStat_POSTS : Fld := ⟨21, 16⟩
def fDomOffs_O : Fld := ⟨0, 48⟩
def fDomRate_RATE : Fld := ⟨0, 48⟩
def fTimTsqId_SEQ_ID : Fld := ⟨0, 16⟩
def fTimTsqId_MSG_TYPE : Fld := ⟨16, 4⟩
def fTimTsqId_PORT : Fld := ⟨20, 1⟩
def fTimTsqId_DOMAIN_NUM : Fld := ⟨21, 8⟩
def fTimTsqId_VALID : Fld := ⟨29, 1⟩
def fTimTsqTime_TIME : Fld := ⟨0, 48⟩
def fTimTsqStat_COUNT : Fld := ⟨0, 5⟩
def fTimTsqStat_OVF : Fld := ⟨5, 1⟩
def fTimTsqStat_LOST : Fld := ⟨6, 16⟩
def fTimTsqStat_CLR : Fld := ⟨22, 1⟩
def fTtCfg_KIND : Fld := ⟨0, 3⟩
def fTtCfg_IDX : Fld := ⟨3, 5⟩
def fTtCfg_GPIO_ACT : Fld := ⟨8, 2⟩
def fTtCfg_PULSE_W : Fld := ⟨10, 12⟩
def fTtCtl_MODE : Fld := ⟨0, 2⟩
def fTtCtl_ARM : Fld := ⟨2, 1⟩
def fTtCtl_DISARM : Fld := ⟨3, 1⟩
def fTtCtl_ONE_CYCLE : Fld := ⟨4, 1⟩
def fTtCtl_ARMED : Fld := ⟨5, 1⟩
def fTtCtl_EV_LATE : Fld := ⟨6, 1⟩
def fTtTarget_VALUE : Fld := ⟨0, 48⟩
def fTtAux_VALUE : Fld := ⟨0, 48⟩
def fTtStat_FIRES : Fld := ⟨0, 16⟩
def fTtStat_LATE : Fld := ⟨16, 1⟩
def fTtStat_MISSED : Fld := ⟨17, 16⟩
def fTtStat_IGNORED : Fld := ⟨33, 15⟩
def fTtLast_TIME : Fld := ⟨0, 48⟩
def fMirSrc_KIND : Fld := ⟨0, 2⟩
def fMirSrc_IDX : Fld := ⟨2, 8⟩
def fMirSrc_VAR : Fld := ⟨10, 5⟩
def fMirSrc_REC : Fld := ⟨15, 3⟩
def fMirSrc_BYTE : Fld := ⟨18, 4⟩
def fMirSrc_WIDTH : Fld := ⟨22, 3⟩
def fMirSrc_SIGNED : Fld := ⟨25, 1⟩
def fMirSrc_CMD : Fld := ⟨26, 1⟩
def fMirSrc_SD_RES : Fld := ⟨27, 1⟩
def fMirPinmask_MASK : Fld := ⟨0, 41⟩
def fMirRate_RATE : Fld := ⟨0, 2⟩
def fMirRate_DIV : Fld := ⟨2, 8⟩
def fMirRate_OFFSET : Fld := ⟨10, 22⟩
def fMirRate_MODE : Fld := ⟨32, 2⟩
def fMirRate_OVW : Fld := ⟨34, 1⟩
def fMirRate_STORE_ALL : Fld := ⟨35, 1⟩
def fMirDb_DB : Fld := ⟨0, 47⟩
def fMirAcq_ACQ_LEN : Fld := ⟨0, 18⟩
def fMirAcq_PRE_PCT : Fld := ⟨18, 7⟩
def fMirAcq_PRE_FULL_REQ : Fld := ⟨25, 1⟩
def fMirAcq_POST_TMAX : Fld := ⟨26, 16⟩
def fMirAcq_MASK_SEL : Fld := ⟨42, 4⟩
def fMirAcq_MASK_ACT : Fld := ⟨46, 1⟩
def fMirTrig_T_KIND : Fld := ⟨0, 4⟩
def fMirTrig_T_IDX : Fld := ⟨4, 8⟩
def fMirTrig_EDGE : Fld := ⟨12, 2⟩
def fMirTrig_TFILT : Fld := ⟨14, 4⟩
def fMirTrig_REARM_HOLD : Fld := ⟨18, 16⟩
def fMirTrig_XTL_OUT : Fld := ⟨34, 3⟩
def fMirTrig_XTL_W : Fld := ⟨37, 8⟩
def fMirLvl_LEVEL : Fld := ⟨0, 48⟩
def fMirHys_HYS : Fld := ⟨0, 47⟩
def fMirRing_BASE : Fld := ⟨0, 17⟩
def fMirRing_LEN : Fld := ⟨17, 18⟩
def fMirRingCtl_LEN_NEW : Fld := ⟨0, 18⟩
def fMirRingCtl_STAGE : Fld := ⟨18, 1⟩
def fMirRingCtl_STAGED : Fld := ⟨19, 1⟩
def fMirPtr_WR : Fld := ⟨0, 18⟩
def fMirPtr_RD : Fld := ⟨18, 18⟩
def fMirCtl_ARM : Fld := ⟨0, 1⟩
def fMirCtl_DISARM : Fld := ⟨1, 1⟩
def fMirCtl_FORCE_TRIG : Fld := ⟨2, 1⟩
def fMirCtl_EV_DONE : Fld := ⟨3, 1⟩
def fMirCtl_EV_MASK : Fld := ⟨4, 1⟩
def fMirCtl_EV_LOSS : Fld := ⟨5, 1⟩
def fMirCtl_EV_TRUNC : Fld := ⟨6, 1⟩
def fMirCtl_UPL : Fld := ⟨7, 2⟩
def fMirCtl_UPL_DMA : Fld := ⟨9, 2⟩
def fMirCtl_CNT_CLR : Fld := ⟨11, 1⟩
def fMirStat_STATE : Fld := ⟨0, 3⟩
def fMirStat_TRUNCATED : Fld := ⟨3, 1⟩
def fMirStat_MASK_STOP : Fld := ⟨4, 1⟩
def fMirStat_UPL_BUSY : Fld := ⟨5, 1⟩
def fMirStat_ACQ_SEQ : Fld := ⟨6, 16⟩
def fMirStat_TRUNC_CNT : Fld := ⟨22, 18⟩
def fMirCnt0_LOST : Fld := ⟨0, 16⟩
def fMirCnt0_IGNORED_EARLY : Fld := ⟨16, 16⟩
def fMirCnt0_MISSED : Fld := ⟨32, 16⟩
def fMirCnt1_RETRIG : Fld := ⟨0, 16⟩
def fMirCnt1_OVERWRITTEN : Fld := ⟨16, 16⟩
def fMirDead_DEAD_MIN : Fld := ⟨0, 24⟩
def fMirDead_DEAD_MAX : Fld := ⟨24, 24⟩
def fMirAcqA_A : Fld := ⟨0, 18⟩
def fMirAcqA_PRE_ACT : Fld := ⟨18, 18⟩
def fMirAcqA_PRE_SHORT : Fld := ⟨36, 1⟩
def fMirAcqA_POST_TIMEOUT : Fld := ⟨37, 1⟩
def fMirAcqA_MASK_END : Fld := ⟨38, 1⟩
def fMirAcqB_POST_ACT : Fld := ⟨0, 18⟩
def fMirAcqB_PRE_OLDEST : Fld := ⟨18, 18⟩
def fMirAcqB_MISSED_IN : Fld := ⟨36, 12⟩
def fMirAcqTrig_TIME : Fld := ⟨0, 48⟩
def fMirAcqRec_TIME : Fld := ⟨0, 48⟩
def fMirAcqDead_TICKS : Fld := ⟨0, 32⟩
def fMirAcqMissT_TIME : Fld := ⟨0, 48⟩
def fMirMaskViol_J : Fld := ⟨0, 12⟩
def fMirMaskViol_VALID : Fld := ⟨12, 1⟩
def fMirMaskT_TIME : Fld := ⟨0, 48⟩
def fMirTag_BYTES : Fld := ⟨0, 32⟩
def fMirMaskCfg_BASE : Fld := ⟨0, 18⟩
def fMirMaskCfg_COUNT : Fld := ⟨18, 13⟩
def fMirMaskCfg_START : Fld := ⟨31, 1⟩
def fMirMaskCfg_SHIFT : Fld := ⟨32, 6⟩
def fMirMaskCfg_VCNT : Fld := ⟨38, 4⟩
def fMirXtl_LEVEL : Fld := ⟨0, 4⟩
def fMirXtl_DRIVEN : Fld := ⟨4, 4⟩
def fSptCfg_REP_LIM : Fld := ⟨0, 15⟩
def fSptCfg_PCODE_END : Fld := ⟨15, 10⟩
def fSptSubA_ENTRY : Fld := ⟨0, 15⟩
def fSptSubA_EVF : Fld := ⟨15, 5⟩
def fSptSubA_LIMIT : Fld := ⟨20, 24⟩
def fSptSubExt_EB : Fld := ⟨0, 32⟩
def fSptSubArg_ARG : Fld := ⟨0, 24⟩
def fSptSubGo_GO : Fld := ⟨0, 1⟩
def fSptStat_RUN_TASK : Fld := ⟨0, 7⟩
def fSptStat_RUNNING : Fld := ⟨7, 1⟩
def fSptStat_QUEUED : Fld := ⟨8, 5⟩
def fSptStat_SUSPENDED : Fld := ⟨13, 3⟩
def fSptCnt_JOBS : Fld := ⟨0, 16⟩
def fSptCnt_PREEMPTS : Fld := ⟨16, 16⟩
def fSptCnt_FAULTS : Fld := ⟨32, 16⟩
def fSptFault_PC : Fld := ⟨0, 15⟩
def fSptFault_ADDR : Fld := ⟨15, 32⟩
def fSptCntClr_CLR : Fld := ⟨0, 1⟩
def fSptDone_OUTCOME : Fld := ⟨0, 4⟩
def fSptDone_ERR : Fld := ⟨4, 4⟩
def fSptDone_RES : Fld := ⟨8, 8⟩
def fSptDone_EXP : Fld := ⟨16, 5⟩
def fSptDone_SAT : Fld := ⟨21, 1⟩
def fSptDone_TICKS : Fld := ⟨22, 24⟩
def fSptDone_VALID : Fld := ⟨46, 1⟩
def fTaskCfg_PRIO : Fld := ⟨0, 4⟩
def fTaskCfg_CORE_MASK : Fld := ⟨4, 8⟩
def fTaskCfg_QMAX : Fld := ⟨12, 11⟩
def fTaskCfg_USED : Fld := ⟨23, 1⟩
def fTaskFlags_FLAGS : Fld := ⟨0, 32⟩
def fTaskFlagSet_BITS : Fld := ⟨0, 32⟩
def fTaskFlagClr_BITS : Fld := ⟨0, 32⟩
def fTaskStat_TSK_STATE : Fld := ⟨0, 3⟩
def fTaskStat_CORE : Fld := ⟨3, 3⟩
def fTaskStat_ITEMS : Fld := ⟨6, 11⟩
def fTaskStat_DROPPED : Fld := ⟨17, 16⟩
def fTaskStat_PURGED : Fld := ⟨33, 15⟩
def fTaskTag_BYTES : Fld := ⟨0, 32⟩
def fSluPost_TASK : Fld := ⟨0, 7⟩
def fSluPost_FLOW : Fld := ⟨7, 8⟩
def fSluPost_FLOW_EN : Fld := ⟨15, 1⟩
def fSluPost_ARG : Fld := ⟨16, 32⟩
def fSluStat_QUEUED : Fld := ⟨0, 11⟩
def fSluStat_QUEUED_MAX : Fld := ⟨11, 11⟩
def fSluStat_BUSY_CNT : Fld := ⟨22, 16⟩
def fSluRoute_TASK : Fld := ⟨0, 7⟩
def fSluRoute_BIT : Fld := ⟨7, 5⟩
def fSluRoute_EN : Fld := ⟨12, 1⟩
def fSluRoute_COALESCED : Fld := ⟨13, 16⟩
def fSluCvnRing_BASE : Fld := ⟨0, 15⟩
def fSluCvnRing_LEN : Fld := ⟨15, 16⟩
def fSluCvnRing_MODE : Fld := ⟨31, 1⟩
def fSluCvnCtl_LEN_NEW : Fld := ⟨0, 16⟩
def fSluCvnCtl_STAGE : Fld := ⟨16, 1⟩
def fSluCvnCtl_STAGED : Fld := ⟨17, 1⟩
def fSluCvnCtl_EN : Fld := ⟨18, 1⟩
def fSluCvnPtr_WR : Fld := ⟨0, 15⟩
def fSluCvnPtr_RD : Fld := ⟨15, 15⟩
def fSluCvnStat_LOST : Fld := ⟨0, 16⟩
def fSluCvnStat_OVERWRITTEN : Fld := ⟨16, 16⟩
def fSluCvnStat_TRUNC_CNT : Fld := ⟨32, 15⟩
def fSluCvnStat_TRUNCATED : Fld := ⟨47, 1⟩
def fCoreDispatch_TASK : Fld := ⟨0, 7⟩
def fCoreDispatch_KIND : Fld := ⟨7, 1⟩
def fCoreDispatch_FLOW : Fld := ⟨8, 9⟩
def fCoreDispatch_VALID : Fld := ⟨47, 1⟩
def fCoreDispDl_TICKS : Fld := ⟨0, 32⟩
def fCoreArg_ARG : Fld := ⟨0, 32⟩
def fCoreWflags_FLAGS : Fld := ⟨0, 32⟩
def fCoreWflags_TIMEOUT : Fld := ⟨32, 1⟩
def fCoreDone_OP : Fld := ⟨0, 2⟩
def fCoreDone_WAIT_MODE : Fld := ⟨2, 1⟩
def fCoreDone_WAIT_MASK : Fld := ⟨16, 32⟩
def fCoreWaitTmo_TICKS : Fld := ⟨0, 32⟩
def fCoreStat_TASK : Fld := ⟨0, 7⟩
def fCoreStat_HOLD : Fld := ⟨7, 1⟩
def fCoreStat_CANCELLED : Fld := ⟨8, 1⟩
def fCoreStat_WDOG_CNT : Fld := ⟨9, 16⟩
def fCoreIrq_PEND : Fld := ⟨0, 4⟩
def fCoreIrq_EN : Fld := ⟨4, 4⟩
def fCoreMtimecmp_TIME : Fld := ⟨0, 48⟩
def fCoreWdog_PERIOD : Fld := ⟨0, 16⟩
def fCoreWdog_KICK : Fld := ⟨16, 1⟩
def fCoreTag_BYTES : Fld := ⟨0, 32⟩
def fMbData_WORD : Fld := ⟨0, 48⟩
def fMbStat_FULL : Fld := ⟨0, 1⟩
def fMbStat_COLLISION : Fld := ⟨1, 1⟩
def fMbStat_EMPTY : Fld := ⟨2, 1⟩
def fMbStat_TIMEOUT : Fld := ⟨3, 1⟩
def fMbStat_XW : Fld := ⟨4, 1⟩
def fMbStat_LAST_WR : Fld := ⟨5, 5⟩
def fMbStat_WAITER : Fld := ⟨10, 5⟩
def fMbStat_COLL_CNT : Fld := ⟨15, 16⟩
def fMbStat_TMO_CNT : Fld := ⟨31, 16⟩
def fMbCfg_RECEIVER : Fld := ⟨0, 5⟩
def fMbCfg_SENDER : Fld := ⟨5, 5⟩
def fMbCfg_LOCK : Fld := ⟨10, 6⟩
def fMbCfg_TMO_US : Fld := ⟨16, 16⟩
def fMbWait_WAIT : Fld := ⟨0, 1⟩
def fMbTag_BYTES : Fld := ⟨0, 32⟩
def fLk_OWNER : Fld := ⟨0, 5⟩
def fLkStat_OWNER : Fld := ⟨0, 5⟩
def fLkStat_CONTEND : Fld := ⟨5, 16⟩
def fLkStat_FORCED : Fld := ⟨21, 8⟩
def fLkStat_FORCE : Fld := ⟨29, 1⟩
def fLkStat_KEY : Fld := ⟨30, 16⟩
def fDbSet_BITS : Fld := ⟨0, 16⟩
def fDbPend_BITS : Fld := ⟨0, 16⟩
def fAgEvtLo_BOXES : Fld := ⟨0, 32⟩
def fAgEvtHi_BOXES : Fld := ⟨0, 32⟩
def fMbxXwStat_XW_CNT : Fld := ⟨0, 16⟩
def fMbxXwStat_LAST_AGENTS : Fld := ⟨16, 16⟩
def fOasStat_LOCKOUT : Fld := ⟨0, 8⟩
def fOasStat_STO : Fld := ⟨8, 8⟩
def fOasStat_SAFE_STOP_ALL : Fld := ⟨16, 1⟩
def fOasStat_PWD_OK : Fld := ⟨17, 1⟩
def fOasStat_CLK_OK : Fld := ⟨18, 1⟩
def fOasStat_RAIL_OK : Fld := ⟨19, 1⟩
def fOasStat_SELFTEST_OK : Fld := ⟨20, 1⟩
def fOasStat_INTERNAL : Fld := ⟨21, 1⟩
def fOasCfg_SAFETY_CRC : Fld := ⟨0, 32⟩
def fOasCfg_CONNS : Fld := ⟨32, 8⟩
def fOasPwdIn_CHARS : Fld := ⟨0, 32⟩
def fOasPwdCtl_LEN : Fld := ⟨0, 5⟩
def fOasPwdCtl_PRESENT : Fld := ⟨5, 1⟩
def fOasPwdCtl_CLEAR : Fld := ⟨6, 1⟩
def fOasPwdCtl_OK : Fld := ⟨7, 1⟩
def fOasPwdCtl_FAILS : Fld := ⟨8, 4⟩
def fOasPwdCtl_HOLD_S : Fld := ⟨12, 10⟩
def fOasSrst_A : Fld := ⟨0, 1⟩
def fOasSrst_B : Fld := ⟨1, 1⟩
def fOasSrst_STUCK : Fld := ⟨2, 1⟩
def fOasSrst_RESETS : Fld := ⟨3, 16⟩
def fOasSrst_REFUSED : Fld := ⟨19, 16⟩
def fOasAxzone_ZONE (k : Nat) : Fld := ⟨4 * k + 0, 4⟩
def fZoneStat_ZSTATE : Fld := ⟨0, 3⟩
def fZoneStat_SLS_ACT : Fld := ⟨3, 1⟩
def fZoneStat_GUARD_PEND : Fld := ⟨4, 1⟩
def fZoneStat_SAFE_STOP : Fld := ⟨5, 1⟩
def fZoneStat_DEMAND : Fld := ⟨6, 3⟩
def fZoneStat_RESET_OK : Fld := ⟨9, 1⟩
def fZoneStat_SS1_LEFT : Fld := ⟨10, 16⟩
def fZoneCtl_STO_REQ : Fld := ⟨0, 1⟩
def fZoneCtl_SS1_REQ : Fld := ⟨1, 1⟩
def fZoneCtl_SLS_REQ : Fld := ⟨2, 1⟩
def fZoneCtl_EV_ZONE : Fld := ⟨3, 1⟩
def fZoneCfg_SS1_T : Fld := ⟨0, 16⟩
def fZoneCfg_SLS_DLY : Fld := ⟨16, 14⟩
def fZoneCfg_SRST_EN : Fld := ⟨30, 1⟩
def fZoneCfg_RESET_IN : Fld := ⟨31, 1⟩
def fZoneFault_FIRST : Fld := ⟨0, 4⟩
def fZoneFault_CAUSES : Fld := ⟨4, 11⟩
def fZoneFault_LAST_REFUSE : Fld := ⟨15, 4⟩
def fZoneFault_LOCKOUT_CNT : Fld := ⟨19, 16⟩
def fZoneFtime_TIME : Fld := ⟨0, 48⟩
def fSiCfg_ZONE : Fld := ⟨0, 3⟩
def fSiCfg_EN : Fld := ⟨3, 1⟩
def fSiCfg_FUNC : Fld := ⟨4, 2⟩
def fSiCfg_TYPE : Fld := ⟨6, 1⟩
def fSiCfg_GUARD : Fld := ⟨7, 1⟩
def fSiCfg_TD : Fld := ⟨8, 14⟩
def fSiCfg_FILT : Fld := ⟨22, 5⟩
def fSiStat_RAW_A : Fld := ⟨0, 1⟩
def fSiStat_RAW_B : Fld := ⟨1, 1⟩
def fSiStat_SAFE_A : Fld := ⟨2, 1⟩
def fSiStat_SAFE_B : Fld := ⟨3, 1⟩
def fSiStat_DEMAND : Fld := ⟨4, 1⟩
def fSiStat_DISC_FAULT : Fld := ⟨5, 1⟩
def fSiStat_DCOUNT : Fld := ⟨6, 14⟩
def fSiStat_NEAR_DISC : Fld := ⟨20, 16⟩
def fSiStat_STARTUP_DONE : Fld := ⟨36, 1⟩
def fSoCfg_ZONE : Fld := ⟨0, 3⟩
def fSoCfg_FUNC : Fld := ⟨3, 2⟩
def fSoCfg_EDM : Fld := ⟨5, 4⟩
def fSoCfg_EDM_T : Fld := ⟨9, 10⟩
def fSoCfg_TP_W : Fld := ⟨19, 9⟩
def fSoCfg_TP_PERIOD : Fld := ⟨28, 6⟩
def fSoStat_CMD : Fld := ⟨0, 1⟩
def fSoStat_RB_HS : Fld := ⟨1, 1⟩
def fSoStat_RB_LS : Fld := ⟨2, 1⟩
def fSoStat_EDM_LEVEL : Fld := ⟨3, 1⟩
def fSoStat_EDM_OK : Fld := ⟨4, 1⟩
def fSoStat_TP_CNT : Fld := ⟨5, 16⟩
def fSlsCfg_EN : Fld := ⟨0, 1⟩
def fSlsCfg_ZONE : Fld := ⟨1, 3⟩
def fSlsCfg_SLS_WIN : Fld := ⟨4, 7⟩
def fSlsCfg_LIM : Fld := ⟨11, 24⟩
def fSlsStat_LAST : Fld := ⟨0, 24⟩
def fSlsStat_PEAK_PM : Fld := ⟨24, 16⟩
def fSlsStat_CLR : Fld := ⟨40, 1⟩
def fConnCfg_CID : Fld := ⟨0, 8⟩
def fConnCfg_USED : Fld := ⟨8, 1⟩
def fConnCfg_DIR : Fld := ⟨9, 1⟩
def fConnCfg_KIND : Fld := ⟨10, 1⟩
def fConnCfg_ZONE : Fld := ⟨11, 3⟩
def fConnCfg_NODE : Fld := ⟨14, 7⟩
def fConnCfg_IDX : Fld := ⟨21, 2⟩
def fConnCfg_PAIR : Fld := ⟨23, 8⟩
def fConnCfg_PEER_STOP : Fld := ⟨31, 1⟩
def fConnCfg_PEER_FUNC : Fld := ⟨32, 1⟩
def fConnCfg_WD_T : Fld := ⟨33, 10⟩
def fConnSeed_SEED : Fld := ⟨0, 32⟩
def fConnStat_CSTATE : Fld := ⟨0, 2⟩
def fConnStat_LAST_SEQ : Fld := ⟨2, 8⟩
def fConnStat_CRC_ERR : Fld := ⟨10, 16⟩
def fConnStat_SEQ_ERR : Fld := ⟨26, 16⟩
def fConnCnt_CONTENT_ERR : Fld := ⟨0, 16⟩
def fConnCnt_WD_EXP : Fld := ⟨16, 16⟩
def fConnCnt_FRESH : Fld := ⟨32, 16⟩
def fOasLogIdx_IDX : Fld := ⟨0, 8⟩
def fOasLogIdx_COUNT : Fld := ⟨8, 9⟩
def fOasLogIdx_LOG_ERR : Fld := ⟨17, 1⟩
def fOasLogD_BYTES : Fld := ⟨0, 32⟩
def fHstPcieStat_SPEED : Fld := ⟨0, 2⟩
def fHstPcieStat_WIDTH : Fld := ⟨2, 2⟩
def fHstPcieStat_BME : Fld := ⟨4, 1⟩
def fHstPcieStat_RESETS : Fld := ⟨5, 16⟩
def fHstPcieStat_VENDOR : Fld := ⟨21, 16⟩
def fHstMsixMap_SRC : Fld := ⟨0, 9⟩
def fHstMsixMap_EN : Fld := ⟨9, 1⟩
def fDmaRingLo_ADDR : Fld := ⟨0, 32⟩
def fDmaRingHi_ADDR : Fld := ⟨0, 32⟩
def fDmaCtl_EN : Fld := ⟨0, 1⟩
def fDmaCtl_LEN : Fld := ⟨1, 13⟩
def fDmaPost_SRC : Fld := ⟨0, 26⟩
def fDmaPost_LEN : Fld := ⟨26, 20⟩
def fDmaStat_NEXT : Fld := ⟨0, 12⟩
def fDmaStat_POSTS : Fld := ⟨12, 4⟩
def fDmaStat_STARVE : Fld := ⟨16, 16⟩
def fDmaStat_XFERS : Fld := ⟨32, 16⟩
def fHstSpiStat_CS_ABORT : Fld := ⟨0, 16⟩
def fHstSpiStat_XACTS : Fld := ⟨16, 16⟩
def fHstSpiIrq_PEND : Fld := ⟨0, 3⟩
def fHstSpiIrq_EN : Fld := ⟨3, 3⟩
def fHstSpiIrq_VLOG_CLR : Fld := ⟨6, 1⟩
def fHstJtagStat_REFUSED : Fld := ⟨0, 1⟩
def fHstJtagStat_FUSE_RES : Fld := ⟨1, 2⟩
def fEthMac_ADDR : Fld := ⟨0, 48⟩
def fEthRxRing_BASE : Fld := ⟨0, 7⟩
def fEthRxRing_LEN : Fld := ⟨7, 3⟩
def fEthRxRing_EV_RX : Fld := ⟨10, 1⟩
def fEthRxPtr_WR : Fld := ⟨0, 19⟩
def fEthRxPtr_RD : Fld := ⟨19, 19⟩
def fEthTxPost_OFFSET : Fld := ⟨0, 19⟩
def fEthTxPost_LEN : Fld := ⟨19, 11⟩
def fEthTxPost_TS_REQ : Fld := ⟨30, 1⟩
def fEthStat_LINK : Fld := ⟨0, 1⟩
def fEthStat_FCS_ERR : Fld := ⟨1, 9⟩
def fEthStat_LEN_ERR : Fld := ⟨10, 9⟩
def fEthStat_FILTERED : Fld := ⟨19, 9⟩
def fEthStat_RX_DROP : Fld := ⟨28, 9⟩
def fEthStat_TX_DROP : Fld := ⟨37, 9⟩
def fEthStat_CLR : Fld := ⟨46, 1⟩

/-- The fields of a register, reserved bits left out (R702: a write leaves them unchanged)
(DESIGN CHOICE, log entry 4). -/
def Reg.fields (r : Reg) : List FieldRow :=
  match r.name with
  | .sysDevid =>
    [⟨fSysDevid_PART, .ro, 402⟩, ⟨fSysDevid_REV, .ro, 176⟩, ⟨fSysDevid_FAMILY, .ro, 15⟩]
  | .sysUidLo =>
    [⟨fSysUidLo_UID, .ro, 0⟩]
  | .sysUidHi =>
    [⟨fSysUidHi_UID, .ro, 0⟩]
  | .sysRole =>
    [⟨fSysRole_ROLE, .ro, 0⟩, ⟨fSysRole_TWIN, .ro, 0⟩, ⟨fSysRole_HEAD_ID, .ro, 0⟩, ⟨fSysRole_LOCAL_AXES, .ro, 0⟩]
  | .sysClkStat =>
    [⟨fSysClkStat_LOCK, .ro, 0⟩, ⟨fSysClkStat_REF_OK, .ro, 0⟩, ⟨fSysClkStat_RC_OK, .ro, 0⟩, ⟨fSysClkStat_RC_COUNT, .ro, 0⟩,
     ⟨fSysClkStat_LOCK_US, .ro, 0⟩]
  | .sysPwrStat =>
    [⟨fSysPwrStat_SEQ_STATE, .ro, 0⟩, ⟨fSysPwrStat_PG, .ro, 0⟩, ⟨fSysPwrStat_EN, .ro, 0⟩, ⟨fSysPwrStat_FAULT_STEP, .ro, 0⟩,
     ⟨fSysPwrStat_WARN, .w1c, 0⟩, ⟨fSysPwrStat_FAULT, .w1c, 0⟩]
  | .sysRstCause =>
    [⟨fSysRstCause_POR, .ro, 1⟩, ⟨fSysRstCause_PIN, .ro, 0⟩, ⟨fSysRstCause_SOFT, .ro, 0⟩, ⟨fSysRstCause_CLOCK, .ro, 0⟩,
     ⟨fSysRstCause_RAIL, .ro, 0⟩, ⟨fSysRstCause_SEQ, .ro, 0⟩, ⟨fSysRstCause_COUNT, .ro, 0⟩]
  | .sysRstCtl =>
    [⟨fSysRstCtl_KEY, .wo, 0⟩, ⟨fSysRstCtl_CHIP, .wo, 0⟩]
  | .sysJetRetired =>
    [⟨fSysJetRetired_RETIRED, .ro, 0⟩]
  | .sysBootStat =>
    [⟨fSysBootStat_STAGE, .ro, 0⟩, ⟨fSysBootStat_SLOT, .ro, 0⟩, ⟨fSysBootStat_SIGNED_RUN, .ro, 0⟩, ⟨fSysBootStat_KEY_FUSED, .ro, 0⟩,
     ⟨fSysBootStat_SLOW, .ro, 0⟩, ⟨fSysBootStat_FAIL_A, .ro, 0⟩, ⟨fSysBootStat_FAIL_B, .ro, 0⟩, ⟨fSysBootStat_FALLBACK, .ro, 0⟩,
     ⟨fSysBootStat_DEGRADED, .ro, 0⟩]
  | .sysBootGen =>
    [⟨fSysBootGen_GEN, .ro, 0⟩, ⟨fSysBootGen_BOOT_MS, .ro, 0⟩]
  | .sysImgCtl =>
    [⟨fSysImgCtl_TARGET, .rw, 0⟩, ⟨fSysImgCtl_MODE, .rw, 0⟩, ⟨fSysImgCtl_GO, .wo, 0⟩, ⟨fSysImgCtl_CANCEL, .wo, 0⟩]
  | .sysImgCycle =>
    [⟨fSysImgCycle_N, .rw, 0⟩]
  | .sysImgStat =>
    [⟨fSysImgStat_STATE, .ro, 0⟩, ⟨fSysImgStat_REASON, .ro, 0⟩, ⟨fSysImgStat_VERIFY_FAIL, .ro, 0⟩]
  | .sysFlashCtl =>
    [⟨fSysFlashCtl_OP, .wo, 0⟩, ⟨fSysFlashCtl_SLOT, .rw, 0⟩, ⟨fSysFlashCtl_ADDR, .rw, 0⟩, ⟨fSysFlashCtl_BUSY, .ro, 0⟩,
     ⟨fSysFlashCtl_ERR, .w1c, 0⟩]
  | .sysVlogCtl =>
    [⟨fSysVlogCtl_NEXT, .ro, 0⟩, ⟨fSysVlogCtl_TOTAL, .ro, 0⟩, ⟨fSysVlogCtl_OVERWRITTEN, .ro, 0⟩, ⟨fSysVlogCtl_CLR, .wo, 0⟩]
  | .sysTemp =>
    [⟨fSysTemp_TJ, .ro, 0⟩, ⟨fSysTemp_TJ_MAX, .ro, 2048⟩, ⟨fSysTemp_VALID, .ro, 0⟩, ⟨fSysTemp_CLR, .wo, 0⟩]
  | .sysRailV =>
    [⟨fSysRailV_MV, .ro, 0⟩]
  | .sysPmbVal =>
    [⟨fSysPmbVal_DATA, .ro, 0⟩, ⟨fSysPmbVal_VALID, .ro, 0⟩, ⟨fSysPmbVal_ERR, .ro, 0⟩]
  | .sysWeir =>
    [⟨fSysWeir_STATE, .ro, 2⟩, ⟨fSysWeir_RESTART_PENDING, .ro, 0⟩, ⟨fSysWeir_PWR, .ro, 1⟩, ⟨fSysWeir_CMD, .wo, 0⟩,
     ⟨fSysWeir_DRAIN_FORCED, .w1c, 0⟩, ⟨fSysWeir_EPOCH, .ro, 0⟩, ⟨fSysWeir_DISCARD_CNT, .ro, 0⟩, ⟨fSysWeir_ABORT_CNT, .ro, 0⟩,
     ⟨fSysWeir_CNT_CLR, .wo, 0⟩]
  | .sysRspEpoch =>
    [⟨fSysRspEpoch_EPOCH, .ro, 0⟩, ⟨fSysRspEpoch_UNIT, .ro, 0⟩, ⟨fSysRspEpoch_NONE, .ro, 0⟩]
  | .sysFlashBuf =>
    [⟨fSysFlashBuf_BYTES, .rw, 0⟩]
  | .sysVlogA =>
    [⟨fSysVlogA_ADDR, .ro, 0⟩, ⟨fSysVlogA_AGENT, .ro, 0⟩, ⟨fSysVlogA_TYPE, .ro, 0⟩, ⟨fSysVlogA_CODE, .ro, 0⟩,
     ⟨fSysVlogA_REPEAT, .ro, 0⟩, ⟨fSysVlogA_VALID, .ro, 0⟩]
  | .sysVlogT =>
    [⟨fSysVlogT_TIME, .ro, 0⟩]
  | .shrUnitCap =>
    [⟨fShrUnitCap_CAP, .ro, 0⟩, ⟨fShrUnitCap_IN_SERVICE, .ro, 0⟩]
  | .shrUnitPledge =>
    [⟨fShrUnitPledge_PLEDGED, .ro, 0⟩, ⟨fShrUnitPledge_LOAD_PM, .ro, 0⟩]
  | .shrUnitArb =>
    [⟨fShrUnitArb_PTR, .ro, 0⟩, ⟨fShrUnitArb_BOUND_MISS, .ro, 0⟩, ⟨fShrUnitArb_STARVED, .ro, 0⟩, ⟨fShrUnitArb_CLR, .wo, 0⟩]
  | .shrAdmCtl =>
    [⟨fShrAdmCtl_CHECK, .wo, 0⟩, ⟨fShrAdmCtl_ALLOW_SHED, .rw, 0⟩, ⟨fShrAdmCtl_HYP_JETS, .rw, 0⟩]
  | .shrAdmStat =>
    [⟨fShrAdmStat_BUSY, .ro, 0⟩, ⟨fShrAdmStat_RESULT, .ro, 0⟩, ⟨fShrAdmStat_REASON, .ro, 0⟩, ⟨fShrAdmStat_UNIT, .ro, 0⟩,
     ⟨fShrAdmStat_SLOT, .ro, 0⟩, ⟨fShrAdmStat_INDEX, .ro, 0⟩, ⟨fShrAdmStat_SHED, .ro, 0⟩, ⟨fShrAdmStat_FALLBACK_N, .ro, 0⟩]
  | .shrReqCfg =>
    [⟨fShrReqCfg_CLASS, .ro, 0⟩, ⟨fShrReqCfg_WEIGHT, .rw, 1⟩, ⟨fShrReqCfg_AGE_LIMIT, .rw, (if r.i = 4 ∨ r.i = 5 then 4 else 5000)⟩, ⟨fShrReqCfg_PLEDGE, .ro, 0⟩]
  | .shrReqDefer =>
    [⟨fShrReqDefer_DEFER_CNT, .ro, 0⟩]
  | .shrReqRefuse =>
    [⟨fShrReqRefuse_REFUSE_CNT, .ro, 0⟩, ⟨fShrReqRefuse_LAST_CODE, .ro, 0⟩, ⟨fShrReqRefuse_STARVED, .ro, 0⟩]
  | .shrReqWait =>
    [⟨fShrReqWait_MAX_WAIT, .ro, 0⟩, ⟨fShrReqWait_CLR, .wo, 0⟩]
  | .axsCtl =>
    [⟨fAxsCtl_EV_STATE, .rw, 0⟩, ⟨fAxsCtl_EV_AGE, .rw, 0⟩, ⟨fAxsCtl_EV_STAGE, .rw, 0⟩]
  | .axsCfg =>
    [⟨fAxsCfg_DESC, .ro, 0⟩, ⟨fAxsCfg_AGE_LIMIT, .ro, 0⟩, ⟨fAxsCfg_AGE_REACT, .ro, 0⟩]
  | .axsCmd =>
    [⟨fAxsCmd_CMD, .wo, 0⟩]
  | .axsStat =>
    [⟨fAxsStat_STATE, .ro, 7⟩, ⟨fAxsStat_JET_SHED, .w1c, 0⟩, ⟨fAxsStat_AGE_FAULT, .ro, 0⟩, ⟨fAxsStat_FRESH, .ro, 0⟩,
     ⟨fAxsStat_STO, .ro, 0⟩, ⟨fAxsStat_FAULT, .ro, 0⟩, ⟨fAxsStat_LAST_CMD, .ro, 0⟩, ⟨fAxsStat_CMD_RESULT, .ro, 0⟩,
     ⟨fAxsStat_CMD_PENDING, .ro, 0⟩, ⟨fAxsStat_FB_AGE, .ro, 0⟩, ⟨fAxsStat_CMD_AGE, .ro, 0⟩]
  | .axsAgeStat =>
    [⟨fAxsAgeStat_MAX_FB_AGE, .ro, 0⟩, ⟨fAxsAgeStat_STALE_CNT, .ro, 0⟩, ⟨fAxsAgeStat_CLR, .wo, 0⟩]
  | .axsCsFlags =>
    [⟨fAxsCsFlags_SAT, .w1c, 0⟩, ⟨fAxsCsFlags_ACC_SAT, .w1c, 0⟩, ⟨fAxsCsFlags_DIV0, .w1c, 0⟩, ⟨fAxsCsFlags_COEF_RANGE, .w1c, 0⟩,
     ⟨fAxsCsFlags_INT_HOLD, .ro, 0⟩, ⟨fAxsCsFlags_OUT_LIM, .ro, 0⟩, ⟨fAxsCsFlags_VLIM, .ro, 0⟩, ⟨fAxsCsFlags_SWAPPED, .ro, 0⟩,
     ⟨fAxsCsFlags_EV_SAT, .rw, 0⟩]
  | .axsCsCost =>
    [⟨fAxsCsCost_CYC_COST, .ro, 0⟩, ⟨fAxsCsCost_CL_COST, .ro, 0⟩, ⟨fAxsCsCost_CL_EXEC, .ro, 0⟩]
  | .axsCsFocI =>
    [⟨fAxsCsFocI_ID, .ro, 0⟩, ⟨fAxsCsFocI_IQ, .ro, 0⟩]
  | .axsCsFocV =>
    [⟨fAxsCsFocV_VD, .ro, 0⟩, ⟨fAxsCsFocV_VQ, .ro, 0⟩]
  | .axsCsFocStat =>
    [⟨fAxsCsFocStat_THETA_E, .ro, 0⟩, ⟨fAxsCsFocStat_VLIM_CNT, .ro, 0⟩, ⟨fAxsCsFocStat_CLR, .wo, 0⟩]
  | .axsMvCtl =>
    [⟨fAxsMvCtl_TYPE, .rw, 0⟩, ⟨fAxsMvCtl_TRANS, .rw, 0⟩, ⟨fAxsMvCtl_GSTART, .rw, 0⟩, ⟨fAxsMvCtl_SUPER, .rw, 0⟩,
     ⟨fAxsMvCtl_AT, .rw, 0⟩, ⟨fAxsMvCtl_PUSH, .wo, 0⟩, ⟨fAxsMvCtl_FLUSH, .wo, 0⟩, ⟨fAxsMvCtl_ID, .rw, 0⟩]
  | .axsCasCycle =>
    [⟨fAxsCasCycle_N, .rw, 0⟩]
  | .axsMvStat =>
    [⟨fAxsMvStat_QCOUNT, .ro, 0⟩, ⟨fAxsMvStat_PUSH_RES, .ro, 0⟩, ⟨fAxsMvStat_ACTIVE_ID, .ro, 0⟩, ⟨fAxsMvStat_PLANNED, .ro, 0⟩,
     ⟨fAxsMvStat_PARAM_DEFERRED, .w1c, 0⟩, ⟨fAxsMvStat_DONE, .w1c, 0⟩, ⟨fAxsMvStat_REVERSING, .ro, 0⟩, ⟨fAxsMvStat_FLUSH_CNT, .ro, 0⟩,
     ⟨fAxsMvStat_CHG_RES, .ro, 0⟩, ⟨fAxsMvStat_SEG, .ro, 0⟩]
  | .axsFolCtl =>
    [⟨fAxsFolCtl_OP, .wo, 0⟩, ⟨fAxsFolCtl_AT_POS, .rw, 0⟩, ⟨fAxsFolCtl_CANCEL, .wo, 0⟩, ⟨fAxsFolCtl_SW_TABLE, .rw, 0⟩,
     ⟨fAxsFolCtl_FORCE, .rw, 0⟩, ⟨fAxsFolCtl_REL, .rw, 0⟩, ⟨fAxsFolCtl_AT, .rw, 0⟩]
  | .axsFolPos =>
    [⟨fAxsFolPos_X, .rw, 0⟩]
  | .axsFolStat =>
    [⟨fAxsFolStat_FSTATE, .ro, 0⟩, ⟨fAxsFolStat_SW_ARMED, .ro, 0⟩, ⟨fAxsFolStat_RES, .ro, 0⟩, ⟨fAxsFolStat_TABLE, .ro, 0⟩,
     ⟨fAxsFolStat_WRAPS, .ro, 0⟩, ⟨fAxsFolStat_CAM_OUT, .ro, 0⟩]
  | .axsFltCause =>
    [⟨fAxsFltCause_CAUSE, .ro, 0⟩, ⟨fAxsFltCause_ACTIVE, .ro, 0⟩, ⟨fAxsFltCause_FIRST, .ro, 15⟩, ⟨fAxsFltCause_REACT, .ro, 7⟩,
     ⟨fAxsFltCause_EV_FLT, .rw, 0⟩, ⟨fAxsFltCause_CFG_RANGE, .w1c, 0⟩]
  | .axsFltTime =>
    [⟨fAxsFltTime_TIME, .ro, 0⟩]
  | .axsLimStat =>
    [⟨fAxsLimStat_LP_RAW, .ro, 0⟩, ⟨fAxsLimStat_LP_DEB, .ro, 0⟩, ⟨fAxsLimStat_LN_RAW, .ro, 0⟩, ⟨fAxsLimStat_LN_DEB, .ro, 0⟩,
     ⟨fAxsLimStat_HM_RAW, .ro, 0⟩, ⟨fAxsLimStat_HM_DEB, .ro, 0⟩, ⟨fAxsLimStat_BLK_POS, .ro, 0⟩, ⟨fAxsLimStat_BLK_NEG, .ro, 0⟩,
     ⟨fAxsLimStat_LAST_REFUSE, .ro, 0⟩, ⟨fAxsLimStat_REFUSE_CNT, .ro, 0⟩, ⟨fAxsLimStat_CLR, .wo, 0⟩]
  | .axsSsStat =>
    [⟨fAxsSsStat_AT_REST, .ro, 0⟩, ⟨fAxsSsStat_CR_ACTIVE, .ro, 0⟩, ⟨fAxsSsStat_SAFE_STOP, .ro, 0⟩, ⟨fAxsSsStat_STOP_CYCLES, .ro, 0⟩]
  | .axsHmCtl =>
    [⟨fAxsHmCtl_START, .wo, 0⟩, ⟨fAxsHmCtl_ABORT, .wo, 0⟩, ⟨fAxsHmCtl_AT, .rw, 0⟩]
  | .axsHmStat =>
    [⟨fAxsHmStat_PHASE, .ro, 0⟩, ⟨fAxsHmStat_RES, .ro, 0⟩, ⟨fAxsHmStat_HOMED, .ro, 0⟩, ⟨fAxsHmStat_BUSY, .ro, 0⟩,
     ⟨fAxsHmStat_LIMIT_HITS, .ro, 0⟩, ⟨fAxsHmStat_TOGGLES, .ro, 0⟩, ⟨fAxsHmStat_LATCH_REJ, .ro, 0⟩, ⟨fAxsHmStat_EDGE_DIR, .ro, 0⟩]
  | .axsHmPos =>
    [⟨fAxsHmPos_P_H, .ro, 0⟩]
  | .axsHmShift =>
    [⟨fAxsHmShift_D, .ro, 0⟩]
  | .axsFbStat =>
    [⟨fAxsFbStat_SPD_STATE, .ro, 1⟩, ⟨fAxsFbStat_VALID, .ro, 0⟩, ⟨fAxsFbStat_FAILING, .ro, 0⟩, ⟨fAxsFbStat_INV_RUN, .ro, 0⟩,
     ⟨fAxsFbStat_EV_CHK, .rw, 0⟩, ⟨fAxsFbStat_CHK_CLR, .wo, 0⟩]
  | .axsStage =>
    [⟨fAxsStage_REQ, .wo, 0⟩, ⟨fAxsStage_CANCEL, .wo, 0⟩, ⟨fAxsStage_STATE_LOAD, .rw, 0⟩, ⟨fAxsStage_AT, .rw, 0⟩,
     ⟨fAxsStage_PENDING, .ro, 0⟩, ⟨fAxsStage_RESULT, .ro, 0⟩, ⟨fAxsStage_SWAP_CNT, .ro, 0⟩]
  | .axsStageCycle =>
    [⟨fAxsStageCycle_N, .rw, 0⟩]
  | .axsTag =>
    [⟨fAxsTag_BYTES, .rw, 0⟩]
  | .axsCsSig =>
    [⟨fAxsCsSig_VALUE, .ro, 0⟩]
  | .axsMvTarget =>
    [⟨fAxsMvTarget_VALUE, .rw, 0⟩]
  | .axsMvVmax =>
    [⟨fAxsMvVmax_VALUE, .rw, 0⟩]
  | .axsMvAmax =>
    [⟨fAxsMvAmax_VALUE, .rw, 0⟩]
  | .axsMvDmax =>
    [⟨fAxsMvDmax_VALUE, .rw, 0⟩]
  | .axsMvJmax =>
    [⟨fAxsMvJmax_VALUE, .rw, 0⟩]
  | .axsChgVmax =>
    [⟨fAxsChgVmax_VALUE, .rw, 0⟩]
  | .axsChgAmax =>
    [⟨fAxsChgAmax_VALUE, .rw, 0⟩]
  | .axsChgDmax =>
    [⟨fAxsChgDmax_VALUE, .rw, 0⟩]
  | .axsChgCtl =>
    [⟨fAxsChgCtl_EN, .rw, 0⟩, ⟨fAxsChgCtl_APPLY, .wo, 0⟩, ⟨fAxsChgCtl_AT, .rw, 0⟩]
  | .axsSetP =>
    [⟨fAxsSetP_PSET, .ro, 0⟩]
  | .axsSetV =>
    [⟨fAxsSetV_VSET, .ro, 0⟩]
  | .axsSetA =>
    [⟨fAxsSetA_ASET, .ro, 0⟩]
  | .axsSupP =>
    [⟨fAxsSupP_OFFSET, .ro, 0⟩]
  | .axsFbPos =>
    [⟨fAxsFbPos_PACT, .ro, 0⟩]
  | .axsFbVel =>
    [⟨fAxsFbVel_VACT, .ro, 0⟩]
  | .axsFbHshift =>
    [⟨fAxsFbHshift_HSHIFT, .ro, 0⟩]
  | .jetCtl =>
    [⟨fJetCtl_ROT_PERIOD, .rw, 1000⟩, ⟨fJetCtl_RETIRE_LIMIT, .rw, 2⟩, ⟨fJetCtl_SWAP_POS, .rw, 0⟩, ⟨fJetCtl_SWAP, .wo, 0⟩,
     ⟨fJetCtl_EV_FAIL, .rw, 1⟩]
  | .jetStat =>
    [⟨fJetStat_J, .ro, 0⟩, ⟨fJetStat_STANDBY, .ro, 31⟩, ⟨fJetStat_RETIRED, .ro, 0⟩, ⟨fJetStat_SWAP_PENDING, .ro, 0⟩,
     ⟨fJetStat_ROT_POS, .ro, 15⟩]
  | .jetMapLo =>
    [⟨fJetMapLo_POS0_7, .ro, (2 ^ 40 - 1)⟩]
  | .jetMapHi =>
    [⟨fJetMapHi_POS8_15, .ro, (2 ^ 40 - 1)⟩]
  | .jetExecStat =>
    [⟨fJetExecStat_SPEC_DISCARD, .ro, 0⟩, ⟨fJetExecStat_RECOMPUTE, .ro, 0⟩, ⟨fJetExecStat_LATE_REC, .ro, 0⟩]
  | .jetArithStat =>
    [⟨fJetArithStat_SAT_CNT, .ro, 0⟩, ⟨fJetArithStat_ACC_SAT_CNT, .ro, 0⟩, ⟨fJetArithStat_DIV0_CNT, .ro, 0⟩]
  | .jetTurnStat =>
    [⟨fJetTurnStat_LAST_NS, .ro, 0⟩, ⟨fJetTurnStat_MAX_NS, .ro, 0⟩, ⟨fJetTurnStat_MAX_PORT, .ro, 0⟩, ⟨fJetTurnStat_OVER, .ro, 0⟩]
  | .jetFaultStat =>
    [⟨fJetFaultStat_ECC_CNT, .ro, 0⟩, ⟨fJetFaultStat_REPEAT_CNT, .ro, 0⟩]
  | .jetCntClr =>
    [⟨fJetCntClr_CLR, .wo, 0⟩]
  | .jetjStat =>
    [⟨fJetjStat_ROLE, .ro, 4⟩, ⟨fJetjStat_POS, .ro, 31⟩, ⟨fJetjStat_FAIL_CNT, .ro, 0⟩, ⟨fJetjStat_LAST_CHECK, .ro, 0⟩,
     ⟨fJetjStat_TEST_PASS, .ro, 0⟩, ⟨fJetjStat_TEST_CNT, .ro, 0⟩, ⟨fJetjStat_LAST_AXIS, .ro, 255⟩]
  | .jetjFailTime =>
    [⟨fJetjFailTime_TIME, .ro, 0⟩]
  | .jetjLoad =>
    [⟨fJetjLoad_BUSY_LAST, .ro, 0⟩, ⟨fJetjLoad_BUSY_MAX, .ro, 0⟩]
  | .jetjTag =>
    [⟨fJetjTag_BYTES, .rw, 0⟩]
  | .casCtl =>
    [⟨fCasCtl_PLAN_MAX, .ro, 24⟩, ⟨fCasCtl_EV_DEFER, .rw, 0⟩]
  | .casStat =>
    [⟨fCasStat_PASS_NS, .ro, 0⟩, ⟨fCasStat_PASS_MAX, .ro, 0⟩, ⟨fCasStat_PLAN_DEFER, .ro, 0⟩]
  | .casGrpCtl =>
    [⟨fCasGrpCtl_GROUP, .rw, 0⟩, ⟨fCasGrpCtl_GO, .wo, 0⟩, ⟨fCasGrpCtl_AT, .rw, 0⟩]
  | .casGrpCycle =>
    [⟨fCasGrpCycle_N, .rw, 0⟩]
  | .casGrpStat =>
    [⟨fCasGrpStat_ARMED, .ro, 0⟩, ⟨fCasGrpStat_RES, .ro, 0⟩, ⟨fCasGrpStat_STARTED, .ro, 0⟩, ⟨fCasGrpStat_START_CNT, .ro, 0⟩]
  | .casCam =>
    [⟨fCasCam_FIRST, .rw, 0⟩, ⟨fCasCam_COUNT, .rw, 0⟩, ⟨fCasCam_MODE, .rw, 0⟩, ⟨fCasCam_VALID, .ro, 0⟩,
     ⟨fCasCam_BUSY, .ro, 0⟩, ⟨fCasCam_ERR, .ro, 0⟩, ⟨fCasCam_IN_USE, .ro, 0⟩]
  | .lmOSec =>
    [⟨fLmOSec_SEC, .rw, 0⟩]
  | .lmONs =>
    [⟨fLmONs_NS, .rw, 0⟩]
  | .lmOP =>
    [⟨fLmOP_POS, .rw, 0⟩]
  | .lmOPf =>
    [⟨fLmOPf_FRAC, .rw, 0⟩]
  | .lmOV =>
    [⟨fLmOV_VEL, .rw, 0⟩]
  | .lmOVt =>
    [⟨fLmOVt_VEL, .rw, 0⟩]
  | .lmOA =>
    [⟨fLmOA_ACC, .rw, 0⟩]
  | .lmOCtl =>
    [⟨fLmOCtl_CMD, .wo, 0⟩]
  | .lmStat =>
    [⟨fLmStat_PENDING, .ro, 0⟩, ⟨fLmStat_RES, .ro, 0⟩, ⟨fLmStat_STEP, .w1c, 0⟩, ⟨fLmStat_RAMP, .ro, 0⟩,
     ⟨fLmStat_APPLIED, .ro, 0⟩]
  | .lmPos =>
    [⟨fLmPos_PSET, .ro, 0⟩]
  | .lmVel =>
    [⟨fLmVel_VSET, .ro, 0⟩]
  | .lmPrSec =>
    [⟨fLmPrSec_SEC, .rw, 0⟩]
  | .lmPrNs =>
    [⟨fLmPrNs_NS, .rw, 0⟩]
  | .lmPrP =>
    [⟨fLmPrP_POS, .ro, 0⟩]
  | .lmPrPf =>
    [⟨fLmPrPf_FRAC, .ro, 0⟩, ⟨fLmPrPf_DONE, .ro, 0⟩]
  | .lmPrV =>
    [⟨fLmPrV_VEL, .ro, 0⟩]
  | .encCfg =>
    [⟨fEncCfg_TYPE, .ro, 0⟩, ⟨fEncCfg_FILT, .ro, 0⟩, ⟨fEncCfg_Z_GATE, .ro, 0⟩, ⟨fEncCfg_MT_BITS, .ro, 0⟩,
     ⟨fEncCfg_POS_BITS, .ro, 0⟩, ⟨fEncCfg_CRC_W, .ro, 0⟩, ⟨fEncCfg_NE_EN, .ro, 0⟩, ⟨fEncCfg_NW_EN, .ro, 0⟩,
     ⟨fEncCfg_CRC_INV, .ro, 0⟩, ⟨fEncCfg_IDX_TOL, .ro, 0⟩]
  | .encSer =>
    [⟨fEncSer_SER_LEAD, .ro, 0⟩, ⟨fEncSer_CLK_DIV, .ro, 0⟩, ⟨fEncSer_SER_DLY, .ro, 0⟩, ⟨fEncSer_SER_TMO, .ro, 0⟩]
  | .encMod =>
    [⟨fEncMod_MOD, .ro, 0⟩, ⟨fEncMod_CRC_POLY, .ro, 0⟩]
  | .encPos =>
    [⟨fEncPos_POS, .ro, 0⟩]
  | .encFrameLo =>
    [⟨fEncFrameLo_BITS, .ro, 0⟩]
  | .encFrameHi =>
    [⟨fEncFrameHi_BITS, .ro, 0⟩]
  | .encStat =>
    [⟨fEncStat_ST, .ro, 0⟩, ⟨fEncStat_IDX_SEEN, .ro, 0⟩, ⟨fEncStat_WARN, .w1c, 0⟩]
  | .encErr =>
    [⟨fEncErr_CRC_CNT, .ro, 0⟩, ⟨fEncErr_TMO_CNT, .ro, 0⟩, ⟨fEncErr_EVT_CNT, .ro, 0⟩, ⟨fEncErr_NW_CNT, .ro, 0⟩,
     ⟨fEncErr_CLR, .wo, 0⟩]
  | .encLatCtl =>
    [⟨fEncLatCtl_SRC 0, .rw, 0⟩, ⟨fEncLatCtl_SRC 1, .rw, 0⟩, ⟨fEncLatCtl_EDGE 0, .rw, 0⟩, ⟨fEncLatCtl_EDGE 1, .rw, 0⟩,
     ⟨fEncLatCtl_MODE 0, .rw, 0⟩, ⟨fEncLatCtl_MODE 1, .rw, 0⟩, ⟨fEncLatCtl_ARM 0, .wo, 0⟩, ⟨fEncLatCtl_ARM 1, .wo, 0⟩,
     ⟨fEncLatCtl_DISARM 0, .wo, 0⟩, ⟨fEncLatCtl_DISARM 1, .wo, 0⟩, ⟨fEncLatCtl_ARMED 0, .ro, 0⟩, ⟨fEncLatCtl_ARMED 1, .ro, 0⟩,
     ⟨fEncLatCtl_VALID 0, .w1c, 0⟩, ⟨fEncLatCtl_VALID 1, .w1c, 0⟩, ⟨fEncLatCtl_SUSPECT 0, .ro, 0⟩, ⟨fEncLatCtl_SUSPECT 1, .ro, 0⟩,
     ⟨fEncLatCtl_INTERP 0, .ro, 0⟩, ⟨fEncLatCtl_INTERP 1, .ro, 0⟩, ⟨fEncLatCtl_OVR 0, .w1c, 0⟩, ⟨fEncLatCtl_OVR 1, .w1c, 0⟩]
  | .encLatPos =>
    [⟨fEncLatPos_POS, .ro, 0⟩]
  | .encLatTime =>
    [⟨fEncLatTime_TIME, .ro, 0⟩]
  | .tcCfg =>
    [⟨fTcCfg_MODE, .ro, 0⟩, ⟨fTcCfg_FMT, .ro, 0⟩, ⟨fTcCfg_HR, .ro, 0⟩, ⟨fTcCfg_LOAD, .ro, 0⟩,
     ⟨fTcCfg_GROUP, .ro, 15⟩, ⟨fTcCfg_DT, .ro, 0⟩, ⟨fTcCfg_OWNED, .ro, 0⟩, ⟨fTcCfg_GPIO_OUT, .ro, 0⟩]
  | .tcPerSh =>
    [⟨fTcPerSh_PER, .rw, 0⟩]
  | .tcCmpSh =>
    [⟨fTcCmpSh_A1, .rw, 0⟩, ⟨fTcCmpSh_A2, .rw, 0⟩]
  | .tcCmp2Sh =>
    [⟨fTcCmp2Sh_B1, .rw, 0⟩, ⟨fTcCmp2Sh_B2, .rw, 0⟩]
  | .tcCtl =>
    [⟨fTcCtl_COMMIT, .wo, 0⟩]
  | .tcStat =>
    [⟨fTcStat_STALE_SHADOW, .w1c, 0⟩, ⟨fTcStat_DUTY_CLAMP, .w1c, 0⟩, ⟨fTcStat_SPLIT_UPDATE, .w1c, 0⟩, ⟨fTcStat_SHOOT_THROUGH_REQ, .w1c, 0⟩,
     ⟨fTcStat_DT_EXTEND, .w1c, 0⟩, ⟨fTcStat_ST_CNT, .ro, 0⟩, ⟨fTcStat_BOOT_CNT, .ro, 0⟩, ⟨fTcStat_CLR, .wo, 0⟩]
  | .tcLive =>
    [⟨fTcLive_PER, .ro, 0⟩, ⟨fTcLive_A1, .ro, 0⟩]
  | .sgCfg =>
    [⟨fSgCfg_OWNER, .ro, 255⟩, ⟨fSgCfg_ZONE, .ro, 0⟩, ⟨fSgCfg_BOOT_EN, .ro, 0⟩, ⟨fSgCfg_BOOT_N, .ro, 0⟩,
     ⟨fSgCfg_T_BOOT, .ro, 0⟩, ⟨fSgCfg_PRE_ON, .ro, 0⟩]
  | .sgCfg2 =>
    [⟨fSgCfg2_PRE_GAP, .ro, 0⟩, ⟨fSgCfg2_PRE_VALID, .ro, 0⟩, ⟨fSgCfg2_SPHASE, .ro, 0⟩, ⟨fSgCfg2_AUTO_EN, .ro, 0⟩]
  | .sgCtl =>
    [⟨fSgCtl_EN, .rw, 0⟩, ⟨fSgCtl_COMMIT, .wo, 0⟩, ⟨fSgCtl_PRECHARGE, .wo, 0⟩, ⟨fSgCtl_TRIP_CLR, .wo, 0⟩,
     ⟨fSgCtl_EV_TRIP, .rw, 0⟩]
  | .sgStat =>
    [⟨fSgStat_STATE, .ro, 0⟩, ⟨fSgStat_RESTART_PENDING, .ro, 0⟩, ⟨fSgStat_PRECHARGED, .ro, 0⟩, ⟨fSgStat_TRIP, .ro, 0⟩,
     ⟨fSgStat_STO, .ro, 0⟩, ⟨fSgStat_MULTI, .ro, 0⟩, ⟨fSgStat_TRIP_IN_DT, .w1c, 0⟩, ⟨fSgStat_DRIVING, .ro, 0⟩,
     ⟨fSgStat_TRIP_CNT, .ro, 0⟩]
  | .sgTripSnap =>
    [⟨fSgTripSnap_SNAP, .ro, 0⟩, ⟨fSgTripSnap_FIRST, .ro, 31⟩]
  | .sgTripTime =>
    [⟨fSgTripTime_TIME, .ro, 0⟩]
  | .cmpCfg =>
    [⟨fCmpCfg_FAST, .ro, 0⟩, ⟨fCmpCfg_HARD, .ro, 0⟩, ⟨fCmpCfg_QF, .ro, 0⟩, ⟨fCmpCfg_CF, .ro, 0⟩,
     ⟨fCmpCfg_FAST_EN, .ro, 0⟩, ⟨fCmpCfg_HARD_EN, .ro, 0⟩]
  | .cmpStat =>
    [⟨fCmpStat_RAW_FAST, .ro, 0⟩, ⟨fCmpStat_RAW_HARD, .ro, 0⟩, ⟨fCmpStat_QUAL_FAST, .ro, 0⟩, ⟨fCmpStat_ST_CMD, .wo, 0⟩,
     ⟨fCmpStat_ST_BUSY, .ro, 0⟩, ⟨fCmpStat_ST_PASS, .ro, 0⟩, ⟨fCmpStat_ST_FAIL, .ro, 0⟩, ⟨fCmpStat_ST_CNT, .ro, 0⟩,
     ⟨fCmpStat_INACT, .ro, 0⟩]
  | .sdCfg =>
    [⟨fSdCfg_CLK, .ro, 0⟩, ⟨fSdCfg_OSR3, .ro, 0⟩, ⟨fSdCfg_OSR2, .ro, 0⟩, ⟨fSdCfg_OC_EN, .ro, 0⟩,
     ⟨fSdCfg_OC_CNT, .ro, 0⟩, ⟨fSdCfg_OC_THR, .ro, 0⟩, ⟨fSdCfg_CF, .ro, 0⟩, ⟨fSdCfg_GROUP, .ro, 15⟩]
  | .sdVal =>
    [⟨fSdVal_SINC3, .ro, 0⟩, ⟨fSdVal_SINC2, .ro, 0⟩]
  | .sdStat =>
    [⟨fSdStat_OC, .ro, 0⟩, ⟨fSdStat_STUCK, .w1c, 0⟩, ⟨fSdStat_EV_STUCK, .rw, 0⟩]
  | .sdclk =>
    [⟨fSdclk_DIV, .ro, 0⟩, ⟨fSdclk_RUN, .ro, 0⟩]
  | .portCfg =>
    [⟨fPortCfg_USE, .ro, 0⟩, ⟨fPortCfg_RX_INV, .ro, 0⟩, ⟨fPortCfg_TX_INV, .ro, 0⟩, ⟨fPortCfg_EQ_MODE, .ro, 0⟩,
     ⟨fPortCfg_EQ_FIXED, .ro, 0⟩, ⟨fPortCfg_TX_LEVEL, .ro, 0⟩, ⟨fPortCfg_TX_DEEMPH, .ro, 0⟩]
  | .portCtl =>
    [⟨fPortCtl_RETRAIN, .rwl, 0⟩, ⟨fPortCtl_TEST, .rwl, 0⟩, ⟨fPortCtl_EV_DOWN, .rw, 0⟩, ⟨fPortCtl_EV_ERR, .rw, 0⟩]
  | .portStat =>
    [⟨fPortStat_LSTATE, .ro, 0⟩, ⟨fPortStat_SIG_DET, .ro, 0⟩, ⟨fPortStat_ALIGNED, .ro, 0⟩, ⟨fPortStat_EQ_CODE, .ro, 0⟩,
     ⟨fPortStat_DOWN_CAUSE, .ro, 0⟩, ⟨fPortStat_RPT_NS, .ro, 0⟩, ⟨fPortStat_TRAIN_FAIL, .ro, 0⟩]
  | .portErr0 =>
    [⟨fPortErr0_CODE_ERR, .ro, 0⟩, ⟨fPortErr0_DISP_ERR, .ro, 0⟩, ⟨fPortErr0_LINK_DOWN, .ro, 0⟩]
  | .portErr1 =>
    [⟨fPortErr1_FCS_ERR, .ro, 0⟩, ⟨fPortErr1_HDR_ERR, .ro, 0⟩, ⟨fPortErr1_LEN_ERR, .ro, 0⟩]
  | .portErr2 =>
    [⟨fPortErr2_ED_ERR, .ro, 0⟩, ⟨fPortErr2_EE_RX, .ro, 0⟩, ⟨fPortErr2_STALE, .ro, 0⟩]
  | .portErr3 =>
    [⟨fPortErr3_SYNC_ERR, .ro, 0⟩, ⟨fPortErr3_RPT_CUT, .ro, 0⟩, ⟨fPortErr3_RPT_DROP, .ro, 0⟩]
  | .portErr4 =>
    [⟨fPortErr4_ID_ERR, .ro, 0⟩, ⟨fPortErr4_TX_ABORT, .ro, 0⟩, ⟨fPortErr4_SYNC_DS, .ro, 0⟩]
  | .portRxFrames =>
    [⟨fPortRxFrames_COUNT, .ro, 0⟩]
  | .portTxFrames =>
    [⟨fPortTxFrames_COUNT, .ro, 0⟩]
  | .portPrbs =>
    [⟨fPortPrbs_LOCK, .ro, 0⟩, ⟨fPortPrbs_ERR_CNT, .ro, 0⟩]
  | .portCntClr =>
    [⟨fPortCntClr_CLR, .wo, 0⟩]
  | .portTag =>
    [⟨fPortTag_BYTES, .rw, 0⟩]
  | .netCycCfg =>
    [⟨fNetCycCfg_CYC_LEN, .ro, 0⟩, ⟨fNetCycCfg_OI, .ro, 0⟩, ⟨fNetCycCfg_CH, .ro, 0⟩]
  | .netSegCfg =>
    [⟨fNetSegCfg_STATIC_START, .ro, 0⟩, ⟨fNetSegCfg_SLOT_COUNT, .ro, 0⟩, ⟨fNetSegCfg_SLOT_LEN, .ro, 0⟩, ⟨fNetSegCfg_DYN_START, .ro, 0⟩]
  | .netGrdCfg =>
    [⟨fNetGrdCfg_APO, .ro, 0⟩, ⟨fNetGrdCfg_G_EARLY, .ro, 0⟩, ⟨fNetGrdCfg_G_CLOSE, .ro, 0⟩, ⟨fNetGrdCfg_SYNC_LOSS, .ro, 0⟩,
     ⟨fNetGrdCfg_SYNC_TOL, .ro, 0⟩]
  | .netDynCfg =>
    [⟨fNetDynCfg_MS_COUNT, .ro, 0⟩, ⟨fNetDynCfg_RNG_MS, .ro, 0⟩]
  | .netCsCtl =>
    [⟨fNetCsCtl_RETRY, .wo, 0⟩, ⟨fNetCsCtl_EV_CS, .rw, 0⟩]
  | .netCsStat =>
    [⟨fNetCsStat_STATE, .ro, 0⟩, ⟨fNetCsStat_ATTEMPT, .ro, 0⟩, ⟨fNetCsStat_FOREIGN, .ro, 0⟩, ⟨fNetCsStat_SCHED_MISMATCH, .ro, 0⟩,
     ⟨fNetCsStat_BLOCKED, .ro, 0⟩, ⟨fNetCsStat_COLLISIONS, .ro, 0⟩]
  | .netSyncStat =>
    [⟨fNetSyncStat_ISTATE, .ro, 0⟩, ⟨fNetSyncStat_SEL, .ro, 0⟩, ⟨fNetSyncStat_A_OK, .ro, 0⟩, ⟨fNetSyncStat_B_OK, .ro, 0⟩,
     ⟨fNetSyncStat_PHASE_ERR, .ro, 0⟩, ⟨fNetSyncStat_SLIP, .ro, 0⟩, ⟨fNetSyncStat_RANGE_FAIL, .ro, 0⟩]
  | .netLinkDelay =>
    [⟨fNetLinkDelay_D_A, .ro, 0⟩, ⟨fNetLinkDelay_D_B, .ro, 0⟩]
  | .netSelf =>
    [⟨fNetSelf_NODE, .ro, 0⟩, ⟨fNetSelf_POS, .ro, 0⟩]
  | .netRxRing =>
    [⟨fNetRxRing_BASE, .ro, 0⟩, ⟨fNetRxRing_LEN, .ro, 0⟩]
  | .netRxPtr =>
    [⟨fNetRxPtr_WR, .ro, 0⟩, ⟨fNetRxPtr_RD, .rw, 0⟩, ⟨fNetRxPtr_RX_DROP, .ro, 0⟩]
  | .netCntClr =>
    [⟨fNetCntClr_CLR, .wo, 0⟩]
  | .nodeCfg =>
    [⟨fNodeCfg_PORT, .ro, 0⟩, ⟨fNodeCfg_POS, .ro, 0⟩, ⟨fNodeCfg_SLOT, .ro, 0⟩, ⟨fNodeCfg_NREC, .ro, 0⟩,
     ⟨fNodeCfg_NSC, .ro, 0⟩, ⟨fNodeCfg_UP_FIRST, .ro, 0⟩, ⟨fNodeCfg_UP_MS, .ro, 0⟩, ⟨fNodeCfg_SVC_FLOW, .ro, 0⟩,
     ⟨fNodeCfg_USED, .ro, 0⟩]
  | .nodeStat =>
    [⟨fNodeStat_HSTATE, .ro, 0⟩, ⟨fNodeStat_VIOL, .ro, 0⟩, ⟨fNodeStat_EV_MUTE, .rw, 0⟩, ⟨fNodeStat_MUTE_CNT, .ro, 0⟩,
     ⟨fNodeStat_DL_WAIT, .ro, 0⟩]
  | .nodeGrd =>
    [⟨fNodeGrd_EARLY, .ro, 0⟩, ⟨fNodeGrd_LATE, .ro, 0⟩, ⟨fNodeGrd_OVERRUN, .ro, 0⟩]
  | .nodeRng =>
    [⟨fNodeRng_RES, .ro, 0⟩, ⟨fNodeRng_COUNT, .ro, 0⟩]
  | .fwdCfg =>
    [⟨fFwdCfg_USED, .ro, 0⟩, ⟨fFwdCfg_SRC_NODE, .ro, 0⟩, ⟨fFwdCfg_DST_PORT, .ro, 0⟩, ⟨fFwdCfg_WIN_START, .ro, 0⟩]
  | .fwdStat =>
    [⟨fFwdStat_SENT, .ro, 0⟩, ⟨fFwdStat_MISS, .ro, 0⟩, ⟨fFwdStat_CUT, .ro, 0⟩]
  | .flowCfg =>
    [⟨fFlowCfg_USED, .ro, 0⟩, ⟨fFlowCfg_PORT, .ro, 0⟩]
  | .flowTx =>
    [⟨fFlowTx_BUF, .rw, 0⟩, ⟨fFlowTx_LEN, .rw, 0⟩, ⟨fFlowTx_POST, .wo, 0⟩]
  | .flowStat =>
    [⟨fFlowStat_STATE, .ro, 0⟩, ⟨fFlowStat_EV_DONE, .rw, 0⟩, ⟨fFlowStat_SENT_CNT, .ro, 0⟩]
  | .twnCfg =>
    [⟨fTwnCfg_CMD_LEAD, .ro, 0⟩, ⟨fTwnCfg_CLAIM_CYCLES, .ro, 0⟩, ⟨fTwnCfg_VERIFY_CYCLES, .ro, 0⟩, ⟨fTwnCfg_MIS_MAX, .ro, 0⟩,
     ⟨fTwnCfg_CRIT_PORTS, .ro, 0⟩]
  | .twnCtl =>
    [⟨fTwnCtl_HANDOVER, .wo, 0⟩, ⟨fTwnCtl_RESYNC, .wo, 0⟩, ⟨fTwnCtl_EV_ROLE, .rw, 0⟩, ⟨fTwnCtl_EV_MIS, .rw, 0⟩,
     ⟨fTwnCtl_CNT_CLR, .wo, 0⟩]
  | .twnHoCycle =>
    [⟨fTwnHoCycle_N, .rw, 0⟩]
  | .twnStat =>
    [⟨fTwnStat_TSTATE, .ro, 0⟩, ⟨fTwnStat_P_TSTATE, .ro, 0⟩, ⟨fTwnStat_HL0_OK, .ro, 0⟩, ⟨fTwnStat_HL1_OK, .ro, 0⟩,
     ⟨fTwnStat_HO_RES, .ro, 0⟩, ⟨fTwnStat_CAUSE, .ro, 0⟩, ⟨fTwnStat_GEN_MISMATCH, .ro, 0⟩, ⟨fTwnStat_BR_USED, .ro, 0⟩,
     ⟨fTwnStat_BR_DEAF, .ro, 0⟩, ⟨fTwnStat_CLAIM_RUN, .ro, 0⟩, ⟨fTwnStat_COPY_AXIS, .ro, 255⟩, ⟨fTwnStat_UNCHECKED, .ro, 0⟩]
  | .twnPull =>
    [⟨fTwnPull_DONE_KB, .ro, 0⟩, ⟨fTwnPull_TOTAL_KB, .ro, 0⟩, ⟨fTwnPull_PULL_MS, .ro, 0⟩]
  | .twnLastHo =>
    [⟨fTwnLastHo_TIME, .ro, 0⟩]
  | .twnCnt0 =>
    [⟨fTwnCnt0_MISMATCH, .ro, 0⟩, ⟨fTwnCnt0_COPY, .ro, 0⟩, ⟨fTwnCnt0_DIG_MISS, .ro, 0⟩]
  | .twnCnt1 =>
    [⟨fTwnCnt1_MIRROR_TX, .ro, 0⟩, ⟨fTwnCnt1_MIRROR_LATE, .ro, 0⟩, ⟨fTwnCnt1_COPY_DEFER, .ro, 0⟩]
  | .twnCnt2 =>
    [⟨fTwnCnt2_HANDOVERS, .ro, 0⟩, ⟨fTwnCnt2_ABD_SUPPRESSED, .ro, 0⟩, ⟨fTwnCnt2_CLAIMS, .ro, 0⟩]
  | .twnMis =>
    [⟨fTwnMis_FLAGS, .ro, 0⟩]
  | .timT48 =>
    [⟨fTimT48_TIME, .ro, 0⟩]
  | .timCycle =>
    [⟨fTimCycle_N, .ro, 0⟩]
  | .timCycT48 =>
    [⟨fTimCycT48_TIME, .ro, 0⟩]
  | .timNltSec =>
    [⟨fTimNltSec_SEC, .ro, 0⟩]
  | .timNltNs =>
    [⟨fTimNltNs_NS, .ro, 0⟩]
  | .timLtSec =>
    [⟨fTimLtSec_SEC, .ro, 0⟩]
  | .timLtNs =>
    [⟨fTimLtNs_NS, .ro, 0⟩]
  | .timCfg =>
    [⟨fTimCfg_SLEW, .ro, 0⟩, ⟨fTimCfg_HOLD_MAX, .ro, 0⟩, ⟨fTimCfg_PH_LOST, .ro, 0⟩, ⟨fTimCfg_PREF, .ro, 0⟩,
     ⟨fTimCfg_REVERT_S, .ro, 0⟩, ⟨fTimCfg_LS_EN, .ro, 0⟩]
  | .timGrid =>
    [⟨fTimGrid_G, .ro, 0⟩]
  | .timCtl =>
    [⟨fTimCtl_SEL_FORCE, .rw, 0⟩, ⟨fTimCtl_EV_LT, .rw, 0⟩, ⟨fTimCtl_EV_TSQ, .rw, 0⟩]
  | .timStat =>
    [⟨fTimStat_LSTATE, .ro, 0⟩, ⟨fTimStat_SEL, .ro, 0⟩, ⟨fTimStat_LOST_SYNC, .ro, 0⟩, ⟨fTimStat_LT_STEP, .w1c, 0⟩,
     ⟨fTimStat_SWITCHES, .ro, 0⟩]
  | .timCorr =>
    [⟨fTimCorr_C, .ro, 0⟩]
  | .domCfg =>
    [⟨fDomCfg_PORTS, .ro, 0⟩, ⟨fDomCfg_DOMAIN_NUM, .ro, 0⟩, ⟨fDomCfg_PROFILE, .ro, 0⟩, ⟨fDomCfg_TRANSPORT, .ro, 0⟩,
     ⟨fDomCfg_KP_SH, .ro, 0⟩, ⟨fDomCfg_KI_SH, .ro, 0⟩, ⟨fDomCfg_LOCK_N, .ro, 0⟩, ⟨fDomCfg_LOCK_THR, .ro, 0⟩,
     ⟨fDomCfg_STEP_THR, .ro, 0⟩]
  | .domMT48 =>
    [⟨fDomMT48_TIME, .rw, 0⟩]
  | .domMSec =>
    [⟨fDomMSec_SEC, .rw, 0⟩]
  | .domMNs =>
    [⟨fDomMNs_NS, .rw, 0⟩]
  | .domMCtl =>
    [⟨fDomMCtl_POST, .wo, 0⟩]
  | .domStat =>
    [⟨fDomStat_DSTATE, .ro, 0⟩, ⟨fDomStat_RES, .ro, 0⟩, ⟨fDomStat_STEPS, .ro, 0⟩, ⟨fDomStat_POSTS, .ro, 0⟩]
  | .domOffs =>
    [⟨fDomOffs_O, .ro, 0⟩]
  | .domRate =>
    [⟨fDomRate_RATE, .ro, 0⟩]
  | .timTsqId =>
    [⟨fTimTsqId_SEQ_ID, .rc, 0⟩, ⟨fTimTsqId_MSG_TYPE, .rc, 0⟩, ⟨fTimTsqId_PORT, .rc, 0⟩, ⟨fTimTsqId_DOMAIN_NUM, .rc, 0⟩,
     ⟨fTimTsqId_VALID, .rc, 0⟩]
  | .timTsqTime =>
    [⟨fTimTsqTime_TIME, .ro, 0⟩]
  | .timTsqStat =>
    [⟨fTimTsqStat_COUNT, .ro, 0⟩, ⟨fTimTsqStat_OVF, .w1c, 0⟩, ⟨fTimTsqStat_LOST, .ro, 0⟩, ⟨fTimTsqStat_CLR, .wo, 0⟩]
  | .ttCfg =>
    [⟨fTtCfg_KIND, .ro, 0⟩, ⟨fTtCfg_IDX, .ro, 0⟩, ⟨fTtCfg_GPIO_ACT, .ro, 0⟩, ⟨fTtCfg_PULSE_W, .ro, 0⟩]
  | .ttCtl =>
    [⟨fTtCtl_MODE, .rw, 0⟩, ⟨fTtCtl_ARM, .wo, 0⟩, ⟨fTtCtl_DISARM, .wo, 0⟩, ⟨fTtCtl_ONE_CYCLE, .rw, 0⟩,
     ⟨fTtCtl_ARMED, .ro, 0⟩, ⟨fTtCtl_EV_LATE, .rw, 0⟩]
  | .ttTarget =>
    [⟨fTtTarget_VALUE, .rw, 0⟩]
  | .ttAux =>
    [⟨fTtAux_VALUE, .rw, 0⟩]
  | .ttStat =>
    [⟨fTtStat_FIRES, .ro, 0⟩, ⟨fTtStat_LATE, .w1c, 0⟩, ⟨fTtStat_MISSED, .ro, 0⟩, ⟨fTtStat_IGNORED, .ro, 0⟩]
  | .ttLast =>
    [⟨fTtLast_TIME, .ro, 0⟩]
  | .mirSrc =>
    [⟨fMirSrc_KIND, .rwl, 0⟩, ⟨fMirSrc_IDX, .rwl, 0⟩, ⟨fMirSrc_VAR, .rwl, 0⟩, ⟨fMirSrc_REC, .rwl, 0⟩,
     ⟨fMirSrc_BYTE, .rwl, 0⟩, ⟨fMirSrc_WIDTH, .rwl, 0⟩, ⟨fMirSrc_SIGNED, .rwl, 0⟩, ⟨fMirSrc_CMD, .rwl, 0⟩,
     ⟨fMirSrc_SD_RES, .rwl, 0⟩]
  | .mirPinmask =>
    [⟨fMirPinmask_MASK, .rwl, 0⟩]
  | .mirRate =>
    [⟨fMirRate_RATE, .rwl, 0⟩, ⟨fMirRate_DIV, .rwl, 0⟩, ⟨fMirRate_OFFSET, .rwl, 0⟩, ⟨fMirRate_MODE, .rwl, 0⟩,
     ⟨fMirRate_OVW, .rwl, 0⟩, ⟨fMirRate_STORE_ALL, .rwl, 0⟩]
  | .mirDb =>
    [⟨fMirDb_DB, .rwl, 0⟩]
  | .mirAcq =>
    [⟨fMirAcq_ACQ_LEN, .rwl, 0⟩, ⟨fMirAcq_PRE_PCT, .rwl, 0⟩, ⟨fMirAcq_PRE_FULL_REQ, .rwl, 0⟩, ⟨fMirAcq_POST_TMAX, .rwl, 0⟩,
     ⟨fMirAcq_MASK_SEL, .rwl, 0⟩, ⟨fMirAcq_MASK_ACT, .rwl, 0⟩]
  | .mirTrig =>
    [⟨fMirTrig_T_KIND, .rwl, 0⟩, ⟨fMirTrig_T_IDX, .rwl, 0⟩, ⟨fMirTrig_EDGE, .rwl, 0⟩, ⟨fMirTrig_TFILT, .rwl, 0⟩,
     ⟨fMirTrig_REARM_HOLD, .rwl, 0⟩, ⟨fMirTrig_XTL_OUT, .rwl, 0⟩, ⟨fMirTrig_XTL_W, .rwl, 0⟩]
  | .mirLvl =>
    [⟨fMirLvl_LEVEL, .rwl, 0⟩]
  | .mirHys =>
    [⟨fMirHys_HYS, .rwl, 0⟩]
  | .mirRing =>
    [⟨fMirRing_BASE, .rwl, 0⟩, ⟨fMirRing_LEN, .ro, 0⟩]
  | .mirRingCtl =>
    [⟨fMirRingCtl_LEN_NEW, .rw, 0⟩, ⟨fMirRingCtl_STAGE, .wo, 0⟩, ⟨fMirRingCtl_STAGED, .ro, 0⟩]
  | .mirPtr =>
    [⟨fMirPtr_WR, .ro, 0⟩, ⟨fMirPtr_RD, .rw, 0⟩]
  | .mirCtl =>
    [⟨fMirCtl_ARM, .wo, 0⟩, ⟨fMirCtl_DISARM, .wo, 0⟩, ⟨fMirCtl_FORCE_TRIG, .wo, 0⟩, ⟨fMirCtl_EV_DONE, .rw, 0⟩,
     ⟨fMirCtl_EV_MASK, .rw, 0⟩, ⟨fMirCtl_EV_LOSS, .rw, 0⟩, ⟨fMirCtl_EV_TRUNC, .rw, 0⟩, ⟨fMirCtl_UPL, .rw, 0⟩,
     ⟨fMirCtl_UPL_DMA, .rw, 0⟩, ⟨fMirCtl_CNT_CLR, .wo, 0⟩]
  | .mirStat =>
    [⟨fMirStat_STATE, .ro, 0⟩, ⟨fMirStat_TRUNCATED, .w1c, 0⟩, ⟨fMirStat_MASK_STOP, .w1c, 0⟩, ⟨fMirStat_UPL_BUSY, .ro, 0⟩,
     ⟨fMirStat_ACQ_SEQ, .ro, 0⟩, ⟨fMirStat_TRUNC_CNT, .ro, 0⟩]
  | .mirCnt0 =>
    [⟨fMirCnt0_LOST, .ro, 0⟩, ⟨fMirCnt0_IGNORED_EARLY, .ro, 0⟩, ⟨fMirCnt0_MISSED, .ro, 0⟩]
  | .mirCnt1 =>
    [⟨fMirCnt1_RETRIG, .ro, 0⟩, ⟨fMirCnt1_OVERWRITTEN, .ro, 0⟩]
  | .mirDead =>
    [⟨fMirDead_DEAD_MIN, .ro, 0⟩, ⟨fMirDead_DEAD_MAX, .ro, 0⟩]
  | .mirAcqA =>
    [⟨fMirAcqA_A, .ro, 0⟩, ⟨fMirAcqA_PRE_ACT, .ro, 0⟩, ⟨fMirAcqA_PRE_SHORT, .ro, 0⟩, ⟨fMirAcqA_POST_TIMEOUT, .ro, 0⟩,
     ⟨fMirAcqA_MASK_END, .ro, 0⟩]
  | .mirAcqB =>
    [⟨fMirAcqB_POST_ACT, .ro, 0⟩, ⟨fMirAcqB_PRE_OLDEST, .ro, 0⟩, ⟨fMirAcqB_MISSED_IN, .ro, 0⟩]
  | .mirAcqTrig =>
    [⟨fMirAcqTrig_TIME, .ro, 0⟩]
  | .mirAcqRec =>
    [⟨fMirAcqRec_TIME, .ro, 0⟩]
  | .mirAcqDead =>
    [⟨fMirAcqDead_TICKS, .ro, 0⟩]
  | .mirAcqMissT =>
    [⟨fMirAcqMissT_TIME, .ro, 0⟩]
  | .mirMaskViol =>
    [⟨fMirMaskViol_J, .ro, 0⟩, ⟨fMirMaskViol_VALID, .w1c, 0⟩]
  | .mirMaskT =>
    [⟨fMirMaskT_TIME, .ro, 0⟩]
  | .mirTag =>
    [⟨fMirTag_BYTES, .rw, 0⟩]
  | .mirMaskCfg =>
    [⟨fMirMaskCfg_BASE, .rw, 0⟩, ⟨fMirMaskCfg_COUNT, .rw, 0⟩, ⟨fMirMaskCfg_START, .rw, 0⟩, ⟨fMirMaskCfg_SHIFT, .rw, 0⟩,
     ⟨fMirMaskCfg_VCNT, .rw, 0⟩]
  | .mirXtl =>
    [⟨fMirXtl_LEVEL, .ro, 0⟩, ⟨fMirXtl_DRIVEN, .ro, 0⟩]
  | .sptCfg =>
    [⟨fSptCfg_REP_LIM, .ro, 0⟩, ⟨fSptCfg_PCODE_END, .ro, 0⟩]
  | .sptSubA =>
    [⟨fSptSubA_ENTRY, .rw, 0⟩, ⟨fSptSubA_EVF, .rw, 0⟩, ⟨fSptSubA_LIMIT, .rw, 0⟩]
  | .sptSubExt =>
    [⟨fSptSubExt_EB, .rw, 0⟩]
  | .sptSubArg =>
    [⟨fSptSubArg_ARG, .rw, 0⟩]
  | .sptSubGo =>
    [⟨fSptSubGo_GO, .wo, 0⟩]
  | .sptStat =>
    [⟨fSptStat_RUN_TASK, .ro, 0⟩, ⟨fSptStat_RUNNING, .ro, 0⟩, ⟨fSptStat_QUEUED, .ro, 0⟩, ⟨fSptStat_SUSPENDED, .ro, 0⟩]
  | .sptCnt =>
    [⟨fSptCnt_JOBS, .ro, 0⟩, ⟨fSptCnt_PREEMPTS, .ro, 0⟩, ⟨fSptCnt_FAULTS, .ro, 0⟩]
  | .sptFault =>
    [⟨fSptFault_PC, .ro, 0⟩, ⟨fSptFault_ADDR, .ro, 0⟩]
  | .sptCntClr =>
    [⟨fSptCntClr_CLR, .wo, 0⟩]
  | .sptDone =>
    [⟨fSptDone_OUTCOME, .ro, 0⟩, ⟨fSptDone_ERR, .ro, 0⟩, ⟨fSptDone_RES, .ro, 0⟩, ⟨fSptDone_EXP, .ro, 0⟩,
     ⟨fSptDone_SAT, .ro, 0⟩, ⟨fSptDone_TICKS, .ro, 0⟩, ⟨fSptDone_VALID, .ro, 0⟩]
  | .taskCfg =>
    [⟨fTaskCfg_PRIO, .rw, 0⟩, ⟨fTaskCfg_CORE_MASK, .rw, 0⟩, ⟨fTaskCfg_QMAX, .ro, 0⟩, ⟨fTaskCfg_USED, .ro, 0⟩]
  | .taskFlags =>
    [⟨fTaskFlags_FLAGS, .ro, 0⟩]
  | .taskFlagSet =>
    [⟨fTaskFlagSet_BITS, .wo, 0⟩]
  | .taskFlagClr =>
    [⟨fTaskFlagClr_BITS, .wo, 0⟩]
  | .taskStat =>
    [⟨fTaskStat_TSK_STATE, .ro, 4⟩, ⟨fTaskStat_CORE, .ro, 0⟩, ⟨fTaskStat_ITEMS, .ro, 0⟩, ⟨fTaskStat_DROPPED, .ro, 0⟩,
     ⟨fTaskStat_PURGED, .ro, 0⟩]
  | .taskTag =>
    [⟨fTaskTag_BYTES, .rw, 0⟩]
  | .sluPost =>
    [⟨fSluPost_TASK, .wo, 0⟩, ⟨fSluPost_FLOW, .wo, 0⟩, ⟨fSluPost_FLOW_EN, .wo, 0⟩, ⟨fSluPost_ARG, .wo, 0⟩]
  | .sluStat =>
    [⟨fSluStat_QUEUED, .ro, 0⟩, ⟨fSluStat_QUEUED_MAX, .ro, 0⟩, ⟨fSluStat_BUSY_CNT, .ro, 0⟩]
  | .sluRoute =>
    [⟨fSluRoute_TASK, .ro, 0⟩, ⟨fSluRoute_BIT, .ro, 0⟩, ⟨fSluRoute_EN, .ro, 0⟩, ⟨fSluRoute_COALESCED, .ro, 0⟩]
  | .sluCvnRing =>
    [⟨fSluCvnRing_BASE, .ro, 0⟩, ⟨fSluCvnRing_LEN, .ro, 0⟩, ⟨fSluCvnRing_MODE, .ro, 0⟩]
  | .sluCvnCtl =>
    [⟨fSluCvnCtl_LEN_NEW, .rw, 0⟩, ⟨fSluCvnCtl_STAGE, .wo, 0⟩, ⟨fSluCvnCtl_STAGED, .ro, 0⟩, ⟨fSluCvnCtl_EN, .rw, 0⟩]
  | .sluCvnPtr =>
    [⟨fSluCvnPtr_WR, .ro, 0⟩, ⟨fSluCvnPtr_RD, .rw, 0⟩]
  | .sluCvnStat =>
    [⟨fSluCvnStat_LOST, .ro, 0⟩, ⟨fSluCvnStat_OVERWRITTEN, .ro, 0⟩, ⟨fSluCvnStat_TRUNC_CNT, .ro, 0⟩, ⟨fSluCvnStat_TRUNCATED, .w1c, 0⟩]
  | .coreDispatch =>
    [⟨fCoreDispatch_TASK, .ro, 0⟩, ⟨fCoreDispatch_KIND, .ro, 0⟩, ⟨fCoreDispatch_FLOW, .ro, 0⟩, ⟨fCoreDispatch_VALID, .ro, 0⟩]
  | .coreDispDl =>
    [⟨fCoreDispDl_TICKS, .rw, 0⟩]
  | .coreArg =>
    [⟨fCoreArg_ARG, .ro, 0⟩]
  | .coreWflags =>
    [⟨fCoreWflags_FLAGS, .ro, 0⟩, ⟨fCoreWflags_TIMEOUT, .ro, 0⟩]
  | .coreDone =>
    [⟨fCoreDone_OP, .wo, 0⟩, ⟨fCoreDone_WAIT_MODE, .wo, 0⟩, ⟨fCoreDone_WAIT_MASK, .wo, 0⟩]
  | .coreWaitTmo =>
    [⟨fCoreWaitTmo_TICKS, .rw, 0⟩]
  | .coreStat =>
    [⟨fCoreStat_TASK, .ro, 0⟩, ⟨fCoreStat_HOLD, .ro, 0⟩, ⟨fCoreStat_CANCELLED, .w1c, 0⟩, ⟨fCoreStat_WDOG_CNT, .ro, 0⟩]
  | .coreIrq =>
    [⟨fCoreIrq_PEND, .ro, 0⟩, ⟨fCoreIrq_EN, .rw, 0⟩]
  | .coreMtimecmp =>
    [⟨fCoreMtimecmp_TIME, .rw, 0⟩]
  | .coreWdog =>
    [⟨fCoreWdog_PERIOD, .rw, 0⟩, ⟨fCoreWdog_KICK, .wo, 0⟩]
  | .coreTag =>
    [⟨fCoreTag_BYTES, .rw, 0⟩]
  | .mbData =>
    [⟨fMbData_WORD, .rw, 0⟩]
  | .mbStat =>
    [⟨fMbStat_FULL, .ro, 0⟩, ⟨fMbStat_COLLISION, .w1c, 0⟩, ⟨fMbStat_EMPTY, .w1c, 0⟩, ⟨fMbStat_TIMEOUT, .w1c, 0⟩,
     ⟨fMbStat_XW, .w1c, 0⟩, ⟨fMbStat_LAST_WR, .ro, 0⟩, ⟨fMbStat_WAITER, .ro, 0⟩, ⟨fMbStat_COLL_CNT, .ro, 0⟩,
     ⟨fMbStat_TMO_CNT, .ro, 0⟩]
  | .mbCfg =>
    [⟨fMbCfg_RECEIVER, .ro, 0⟩, ⟨fMbCfg_SENDER, .ro, 0⟩, ⟨fMbCfg_LOCK, .ro, 0⟩, ⟨fMbCfg_TMO_US, .ro, 0⟩]
  | .mbWait =>
    [⟨fMbWait_WAIT, .rw, 0⟩]
  | .mbTag =>
    [⟨fMbTag_BYTES, .rw, 0⟩]
  | .lk =>
    [⟨fLk_OWNER, .rw, 0⟩]
  | .lkStat =>
    [⟨fLkStat_OWNER, .ro, 0⟩, ⟨fLkStat_CONTEND, .ro, 0⟩, ⟨fLkStat_FORCED, .ro, 0⟩, ⟨fLkStat_FORCE, .wo, 0⟩,
     ⟨fLkStat_KEY, .wo, 0⟩]
  | .dbSet =>
    [⟨fDbSet_BITS, .wo, 0⟩]
  | .dbPend =>
    [⟨fDbPend_BITS, .w1c, 0⟩]
  | .agEvtLo =>
    [⟨fAgEvtLo_BOXES, .ro, 0⟩]
  | .agEvtHi =>
    [⟨fAgEvtHi_BOXES, .ro, 0⟩]
  | .mbxXwStat =>
    [⟨fMbxXwStat_XW_CNT, .ro, 0⟩, ⟨fMbxXwStat_LAST_AGENTS, .ro, 0⟩]
  | .oasStat =>
    [⟨fOasStat_LOCKOUT, .ro, 255⟩, ⟨fOasStat_STO, .ro, 0⟩, ⟨fOasStat_SAFE_STOP_ALL, .ro, 0⟩, ⟨fOasStat_PWD_OK, .ro, 0⟩,
     ⟨fOasStat_CLK_OK, .ro, 0⟩, ⟨fOasStat_RAIL_OK, .ro, 0⟩, ⟨fOasStat_SELFTEST_OK, .ro, 0⟩, ⟨fOasStat_INTERNAL, .ro, 0⟩]
  | .oasCfg =>
    [⟨fOasCfg_SAFETY_CRC, .ro, 0⟩, ⟨fOasCfg_CONNS, .ro, 0⟩]
  | .oasPwdIn =>
    [⟨fOasPwdIn_CHARS, .wo, 0⟩]
  | .oasPwdCtl =>
    [⟨fOasPwdCtl_LEN, .wo, 0⟩, ⟨fOasPwdCtl_PRESENT, .wo, 0⟩, ⟨fOasPwdCtl_CLEAR, .wo, 0⟩, ⟨fOasPwdCtl_OK, .ro, 0⟩,
     ⟨fOasPwdCtl_FAILS, .ro, 0⟩, ⟨fOasPwdCtl_HOLD_S, .ro, 0⟩]
  | .oasSrst =>
    [⟨fOasSrst_A, .ro, 0⟩, ⟨fOasSrst_B, .ro, 0⟩, ⟨fOasSrst_STUCK, .ro, 0⟩, ⟨fOasSrst_RESETS, .ro, 0⟩,
     ⟨fOasSrst_REFUSED, .ro, 0⟩]
  | .oasAxzone =>
    [⟨fOasAxzone_ZONE 0, .ro, 0⟩, ⟨fOasAxzone_ZONE 1, .ro, 0⟩, ⟨fOasAxzone_ZONE 2, .ro, 0⟩, ⟨fOasAxzone_ZONE 3, .ro, 0⟩,
     ⟨fOasAxzone_ZONE 4, .ro, 0⟩, ⟨fOasAxzone_ZONE 5, .ro, 0⟩, ⟨fOasAxzone_ZONE 6, .ro, 0⟩, ⟨fOasAxzone_ZONE 7, .ro, 0⟩,
     ⟨fOasAxzone_ZONE 8, .ro, 0⟩, ⟨fOasAxzone_ZONE 9, .ro, 0⟩, ⟨fOasAxzone_ZONE 10, .ro, 0⟩, ⟨fOasAxzone_ZONE 11, .ro, 0⟩]
  | .zoneStat =>
    [⟨fZoneStat_ZSTATE, .ro, 0⟩, ⟨fZoneStat_SLS_ACT, .ro, 0⟩, ⟨fZoneStat_GUARD_PEND, .ro, 0⟩, ⟨fZoneStat_SAFE_STOP, .ro, 0⟩,
     ⟨fZoneStat_DEMAND, .ro, 0⟩, ⟨fZoneStat_RESET_OK, .ro, 0⟩, ⟨fZoneStat_SS1_LEFT, .ro, 0⟩]
  | .zoneCtl =>
    [⟨fZoneCtl_STO_REQ, .rw, 0⟩, ⟨fZoneCtl_SS1_REQ, .rw, 0⟩, ⟨fZoneCtl_SLS_REQ, .rw, 0⟩, ⟨fZoneCtl_EV_ZONE, .rw, 0⟩]
  | .zoneCfg =>
    [⟨fZoneCfg_SS1_T, .ro, 0⟩, ⟨fZoneCfg_SLS_DLY, .ro, 0⟩, ⟨fZoneCfg_SRST_EN, .ro, 0⟩, ⟨fZoneCfg_RESET_IN, .ro, 0⟩]
  | .zoneFault =>
    [⟨fZoneFault_FIRST, .ro, 10⟩, ⟨fZoneFault_CAUSES, .ro, 1024⟩, ⟨fZoneFault_LAST_REFUSE, .ro, 0⟩, ⟨fZoneFault_LOCKOUT_CNT, .ro, 0⟩]
  | .zoneFtime =>
    [⟨fZoneFtime_TIME, .ro, 0⟩]
  | .siCfg =>
    [⟨fSiCfg_ZONE, .ro, 0⟩, ⟨fSiCfg_EN, .ro, 0⟩, ⟨fSiCfg_FUNC, .ro, 0⟩, ⟨fSiCfg_TYPE, .ro, 0⟩,
     ⟨fSiCfg_GUARD, .ro, 0⟩, ⟨fSiCfg_TD, .ro, 0⟩, ⟨fSiCfg_FILT, .ro, 0⟩]
  | .siStat =>
    [⟨fSiStat_RAW_A, .ro, 0⟩, ⟨fSiStat_RAW_B, .ro, 0⟩, ⟨fSiStat_SAFE_A, .ro, 1⟩, ⟨fSiStat_SAFE_B, .ro, 1⟩,
     ⟨fSiStat_DEMAND, .ro, 1⟩, ⟨fSiStat_DISC_FAULT, .ro, 0⟩, ⟨fSiStat_DCOUNT, .ro, 0⟩, ⟨fSiStat_NEAR_DISC, .ro, 0⟩,
     ⟨fSiStat_STARTUP_DONE, .ro, 0⟩]
  | .soCfg =>
    [⟨fSoCfg_ZONE, .ro, 0⟩, ⟨fSoCfg_FUNC, .ro, 0⟩, ⟨fSoCfg_EDM, .ro, 0⟩, ⟨fSoCfg_EDM_T, .ro, 0⟩,
     ⟨fSoCfg_TP_W, .ro, 0⟩, ⟨fSoCfg_TP_PERIOD, .ro, 0⟩]
  | .soStat =>
    [⟨fSoStat_CMD, .ro, 0⟩, ⟨fSoStat_RB_HS, .ro, 0⟩, ⟨fSoStat_RB_LS, .ro, 0⟩, ⟨fSoStat_EDM_LEVEL, .ro, 0⟩,
     ⟨fSoStat_EDM_OK, .ro, 0⟩, ⟨fSoStat_TP_CNT, .ro, 0⟩]
  | .slsCfg =>
    [⟨fSlsCfg_EN, .ro, 0⟩, ⟨fSlsCfg_ZONE, .ro, 0⟩, ⟨fSlsCfg_SLS_WIN, .ro, 0⟩, ⟨fSlsCfg_LIM, .ro, 0⟩]
  | .slsStat =>
    [⟨fSlsStat_LAST, .ro, 0⟩, ⟨fSlsStat_PEAK_PM, .ro, 0⟩, ⟨fSlsStat_CLR, .wo, 0⟩]
  | .connCfg =>
    [⟨fConnCfg_CID, .ro, 0⟩, ⟨fConnCfg_USED, .ro, 0⟩, ⟨fConnCfg_DIR, .ro, 0⟩, ⟨fConnCfg_KIND, .ro, 0⟩,
     ⟨fConnCfg_ZONE, .ro, 0⟩, ⟨fConnCfg_NODE, .ro, 0⟩, ⟨fConnCfg_IDX, .ro, 0⟩, ⟨fConnCfg_PAIR, .ro, 0⟩,
     ⟨fConnCfg_PEER_STOP, .ro, 0⟩, ⟨fConnCfg_PEER_FUNC, .ro, 0⟩, ⟨fConnCfg_WD_T, .ro, 0⟩]
  | .connSeed =>
    [⟨fConnSeed_SEED, .ro, 0⟩]
  | .connStat =>
    [⟨fConnStat_CSTATE, .ro, 0⟩, ⟨fConnStat_LAST_SEQ, .ro, 0⟩, ⟨fConnStat_CRC_ERR, .ro, 0⟩, ⟨fConnStat_SEQ_ERR, .ro, 0⟩]
  | .connCnt =>
    [⟨fConnCnt_CONTENT_ERR, .ro, 0⟩, ⟨fConnCnt_WD_EXP, .ro, 0⟩, ⟨fConnCnt_FRESH, .ro, 0⟩]
  | .oasLogIdx =>
    [⟨fOasLogIdx_IDX, .rw, 0⟩, ⟨fOasLogIdx_COUNT, .ro, 0⟩, ⟨fOasLogIdx_LOG_ERR, .ro, 0⟩]
  | .oasLogD =>
    [⟨fOasLogD_BYTES, .ro, 0⟩]
  | .hstPcieStat =>
    [⟨fHstPcieStat_SPEED, .ro, 0⟩, ⟨fHstPcieStat_WIDTH, .ro, 0⟩, ⟨fHstPcieStat_BME, .ro, 0⟩, ⟨fHstPcieStat_RESETS, .ro, 0⟩,
     ⟨fHstPcieStat_VENDOR, .ro, 0⟩]
  | .hstMsixMap =>
    [⟨fHstMsixMap_SRC, .ro, 0⟩, ⟨fHstMsixMap_EN, .ro, 0⟩]
  | .dmaRingLo =>
    [⟨fDmaRingLo_ADDR, .rw, 0⟩]
  | .dmaRingHi =>
    [⟨fDmaRingHi_ADDR, .rw, 0⟩]
  | .dmaCtl =>
    [⟨fDmaCtl_EN, .rw, 0⟩, ⟨fDmaCtl_LEN, .rw, 16⟩]
  | .dmaPost =>
    [⟨fDmaPost_SRC, .wo, 0⟩, ⟨fDmaPost_LEN, .wo, 0⟩]
  | .dmaStat =>
    [⟨fDmaStat_NEXT, .ro, 0⟩, ⟨fDmaStat_POSTS, .ro, 0⟩, ⟨fDmaStat_STARVE, .ro, 0⟩, ⟨fDmaStat_XFERS, .ro, 0⟩]
  | .hstSpiStat =>
    [⟨fHstSpiStat_CS_ABORT, .ro, 0⟩, ⟨fHstSpiStat_XACTS, .ro, 0⟩]
  | .hstSpiIrq =>
    [⟨fHstSpiIrq_PEND, .ro, 0⟩, ⟨fHstSpiIrq_EN, .rw, 0⟩, ⟨fHstSpiIrq_VLOG_CLR, .wo, 0⟩]
  | .hstJtagStat =>
    [⟨fHstJtagStat_REFUSED, .w1c, 0⟩, ⟨fHstJtagStat_FUSE_RES, .ro, 0⟩]
  | .ethMac =>
    [⟨fEthMac_ADDR, .ro, 0⟩]
  | .ethRxRing =>
    [⟨fEthRxRing_BASE, .ro, 0⟩, ⟨fEthRxRing_LEN, .ro, 0⟩, ⟨fEthRxRing_EV_RX, .rw, 0⟩]
  | .ethRxPtr =>
    [⟨fEthRxPtr_WR, .ro, 0⟩, ⟨fEthRxPtr_RD, .rw, 0⟩]
  | .ethTxPost =>
    [⟨fEthTxPost_OFFSET, .wo, 0⟩, ⟨fEthTxPost_LEN, .wo, 0⟩, ⟨fEthTxPost_TS_REQ, .wo, 0⟩]
  | .ethStat =>
    [⟨fEthStat_LINK, .ro, 0⟩, ⟨fEthStat_FCS_ERR, .ro, 0⟩, ⟨fEthStat_LEN_ERR, .ro, 0⟩, ⟨fEthStat_FILTERED, .ro, 0⟩,
     ⟨fEthStat_RX_DROP, .ro, 0⟩, ⟨fEthStat_TX_DROP, .ro, 0⟩, ⟨fEthStat_CLR, .wo, 0⟩]

/-- True for a register whose bit 47 is the sign of its top field, so that bits 63:48 of its slot read as
the sign extension (R26). -/
def Reg.signed (r : Reg) : Bool :=
  match r.name with
  | .axsCsFocI => true
  | .axsCsFocV => true
  | .axsFolPos => true
  | .axsHmPos => true
  | .axsHmShift => true
  | .axsMvTarget => true
  | .axsMvVmax => true
  | .axsMvAmax => true
  | .axsMvDmax => true
  | .axsMvJmax => true
  | .axsChgVmax => true
  | .axsChgAmax => true
  | .axsChgDmax => true
  | .axsSetP => true
  | .axsSetV => true
  | .axsSetA => true
  | .axsSupP => true
  | .axsFbPos => true
  | .axsFbVel => true
  | .axsFbHshift => true
  | .lmOP => true
  | .lmOV => true
  | .lmOVt => true
  | .lmOA => true
  | .lmPos => true
  | .lmVel => true
  | .lmPrP => true
  | .lmPrV => true
  | .encPos => true
  | .encLatPos => true
  | .timCorr => true
  | .domOffs => true
  | .domRate => true
  | .mirLvl => true
  | _ => false

/-- The weir the register stands behind: its number of R74, or none. -/
def Reg.weir (r : Reg) : Option Nat :=
  match r.name with
  | .axsCtl => some r.i
  | .axsCfg => some r.i
  | .axsCmd => some r.i
  | .axsStat => some r.i
  | .axsAgeStat => some r.i
  | .axsCsFlags => some r.i
  | .axsCsCost => some r.i
  | .axsCsFocI => some r.i
  | .axsCsFocV => some r.i
  | .axsCsFocStat => some r.i
  | .axsMvCtl => some r.i
  | .axsCasCycle => some r.i
  | .axsMvStat => some r.i
  | .axsFolCtl => some r.i
  | .axsFolPos => some r.i
  | .axsFolStat => some r.i
  | .axsFltCause => some r.i
  | .axsFltTime => some r.i
  | .axsLimStat => some r.i
  | .axsSsStat => some r.i
  | .axsHmCtl => some r.i
  | .axsHmStat => some r.i
  | .axsHmPos => some r.i
  | .axsHmShift => some r.i
  | .axsFbStat => some r.i
  | .axsCsSig => some r.i
  | .axsMvTarget => some r.i
  | .axsMvVmax => some r.i
  | .axsMvAmax => some r.i
  | .axsMvDmax => some r.i
  | .axsMvJmax => some r.i
  | .axsChgVmax => some r.i
  | .axsChgAmax => some r.i
  | .axsChgDmax => some r.i
  | .axsChgCtl => some r.i
  | .axsSetP => some r.i
  | .axsSetV => some r.i
  | .axsSetA => some r.i
  | .axsSupP => some r.i
  | .axsFbPos => some r.i
  | .axsFbVel => some r.i
  | .axsFbHshift => some r.i
  | .portCfg => some (192 + r.i)
  | .portCtl => some (192 + r.i)
  | .portStat => some (192 + r.i)
  | .portErr0 => some (192 + r.i)
  | .portErr1 => some (192 + r.i)
  | .portErr2 => some (192 + r.i)
  | .portErr3 => some (192 + r.i)
  | .portErr4 => some (192 + r.i)
  | .portRxFrames => some (192 + r.i)
  | .portTxFrames => some (192 + r.i)
  | .portPrbs => some (192 + r.i)
  | .portCntClr => some (192 + r.i)
  | .mirSrc => some (283 + r.i)
  | .mirPinmask => some (283 + r.i)
  | .mirRate => some (283 + r.i)
  | .mirDb => some (283 + r.i)
  | .mirAcq => some (283 + r.i)
  | .mirTrig => some (283 + r.i)
  | .mirLvl => some (283 + r.i)
  | .mirHys => some (283 + r.i)
  | .mirRing => some (283 + r.i)
  | .mirRingCtl => some (283 + r.i)
  | .mirPtr => some (283 + r.i)
  | .mirCtl => some (283 + r.i)
  | .mirStat => some (283 + r.i)
  | .mirCnt0 => some (283 + r.i)
  | .mirCnt1 => some (283 + r.i)
  | .mirDead => some (283 + r.i)
  | .mirAcqA => some (283 + r.i)
  | .mirAcqB => some (283 + r.i)
  | .mirAcqTrig => some (283 + r.i)
  | .mirAcqRec => some (283 + r.i)
  | .mirAcqDead => some (283 + r.i)
  | .mirAcqMissT => some (283 + r.i)
  | .mirMaskViol => some (283 + r.i)
  | .mirMaskT => some (283 + r.i)
  | .sptCfg => some 507
  | .sptSubA => some 507
  | .sptSubExt => some 507
  | .sptSubArg => some 507
  | .sptSubGo => some 507
  | .sptStat => some 507
  | .sptCnt => some 507
  | .sptFault => some 507
  | .sptCntClr => some 507
  | .taskCfg => some (315 + r.i)
  | .taskFlags => some (315 + r.i)
  | .taskFlagSet => some (315 + r.i)
  | .taskFlagClr => some (315 + r.i)
  | .taskStat => some (315 + r.i)
  | .coreDispatch => some (275 + r.i)
  | .coreDispDl => some (275 + r.i)
  | .coreArg => some (275 + r.i)
  | .coreWflags => some (275 + r.i)
  | .coreDone => some (275 + r.i)
  | .coreWaitTmo => some (275 + r.i)
  | .coreStat => some (275 + r.i)
  | .coreIrq => some (275 + r.i)
  | .coreMtimecmp => some (275 + r.i)
  | .coreWdog => some (275 + r.i)
  | .mbData => some (443 + r.i)
  | .mbStat => some (443 + r.i)
  | .mbCfg => some (443 + r.i)
  | .mbWait => some (443 + r.i)
  | _ => none

/-- One row of the decoding table: registers at `base + i * s1 + j * s2`, i below n1 and j below n2. -/
structure RegRow where
  base : Nat
  n1 : Nat
  s1 : Nat
  n2 : Nat
  s2 : Nat
  make : Nat → Nat → Reg

/-- The register of a row at an address, or none (R25). -/
def RegRow.at (t : RegRow) (a : Nat) : Option Reg :=
  if a < t.base then none else
  let d := a - t.base
  let i := d / t.s1
  let r := d % t.s1
  if i < t.n1 ∧ r % t.s2 = 0 ∧ r / t.s2 < t.n2 then some (t.make i (r / t.s2)) else none

/-- The decoding rows of block SYS. -/
def rowsSys : List RegRow :=
  [⟨0x0, 1, 0x8, 1, 0x1000000, fun _ _ => .sysDevid⟩,
   ⟨0x8, 1, 0x8, 1, 0x1000000, fun _ _ => .sysUidLo⟩,
   ⟨0x10, 1, 0x8, 1, 0x1000000, fun _ _ => .sysUidHi⟩,
   ⟨0x18, 1, 0x8, 1, 0x1000000, fun _ _ => .sysRole⟩,
   ⟨0x100, 1, 0x8, 1, 0x1000000, fun _ _ => .sysClkStat⟩,
   ⟨0x200, 1, 0x8, 1, 0x1000000, fun _ _ => .sysPwrStat⟩,
   ⟨0x300, 1, 0x8, 1, 0x1000000, fun _ _ => .sysRstCause⟩,
   ⟨0x308, 1, 0x8, 1, 0x1000000, fun _ _ => .sysRstCtl⟩,
   ⟨0x310, 1, 0x8, 1, 0x1000000, fun _ _ => .sysJetRetired⟩,
   ⟨0x500, 1, 0x8, 1, 0x1000000, fun _ _ => .sysBootStat⟩,
   ⟨0x508, 1, 0x8, 1, 0x1000000, fun _ _ => .sysBootGen⟩,
   ⟨0x510, 1, 0x8, 1, 0x1000000, fun _ _ => .sysImgCtl⟩,
   ⟨0x518, 1, 0x8, 1, 0x1000000, fun _ _ => .sysImgCycle⟩,
   ⟨0x520, 1, 0x8, 1, 0x1000000, fun _ _ => .sysImgStat⟩,
   ⟨0x540, 1, 0x8, 1, 0x1000000, fun _ _ => .sysFlashCtl⟩,
   ⟨0x2200, 1, 0x8, 1, 0x1000000, fun _ _ => .sysVlogCtl⟩,
   ⟨0x280, 1, 0x8, 1, 0x1000000, fun _ _ => .sysTemp⟩,
   ⟨0x240, 7, 0x8, 1, 0x1000000, fun i _ => .sysRailV i⟩,
   ⟨0x400, 8, 0x20, 4, 0x8, fun i j => .sysPmbVal i j⟩,
   ⟨0x1000, 508, 0x8, 1, 0x1000000, fun i _ => .sysWeir i⟩,
   ⟨0x808, 16, 0x8, 1, 0x1000000, fun i _ => .sysRspEpoch (i + 1)⟩,
   ⟨0x600, 64, 0x8, 1, 0x1000000, fun i _ => .sysFlashBuf i⟩,
   ⟨0x2000, 32, 0x10, 1, 0x1000000, fun i _ => .sysVlogA i⟩,
   ⟨0x2008, 32, 0x10, 1, 0x1000000, fun i _ => .sysVlogT i⟩]

/-- The decoding rows of block SHR. -/
def rowsShr : List RegRow :=
  [⟨0x10000, 9, 0x40, 1, 0x1000000, fun i _ => .shrUnitCap i⟩,
   ⟨0x10008, 9, 0x40, 1, 0x1000000, fun i _ => .shrUnitPledge i⟩,
   ⟨0x10010, 9, 0x40, 1, 0x1000000, fun i _ => .shrUnitArb i⟩,
   ⟨0x10400, 1, 0x8, 1, 0x1000000, fun _ _ => .shrAdmCtl⟩,
   ⟨0x10408, 1, 0x8, 1, 0x1000000, fun _ _ => .shrAdmStat⟩,
   ⟨0x11000, 9, 0x1800, 192, 0x20, fun i j => .shrReqCfg i j⟩,
   ⟨0x11008, 9, 0x1800, 192, 0x20, fun i j => .shrReqDefer i j⟩,
   ⟨0x11010, 9, 0x1800, 192, 0x20, fun i j => .shrReqRefuse i j⟩,
   ⟨0x11018, 9, 0x1800, 192, 0x20, fun i j => .shrReqWait i j⟩]

/-- The decoding rows of block NET. -/
def rowsNet : List RegRow :=
  [⟨0x20000, 66, 0x100, 1, 0x1000000, fun i _ => .portCfg i⟩,
   ⟨0x20008, 66, 0x100, 1, 0x1000000, fun i _ => .portCtl i⟩,
   ⟨0x20010, 66, 0x100, 1, 0x1000000, fun i _ => .portStat i⟩,
   ⟨0x20018, 66, 0x100, 1, 0x1000000, fun i _ => .portErr0 i⟩,
   ⟨0x20020, 66, 0x100, 1, 0x1000000, fun i _ => .portErr1 i⟩,
   ⟨0x20028, 66, 0x100, 1, 0x1000000, fun i _ => .portErr2 i⟩,
   ⟨0x20030, 66, 0x100, 1, 0x1000000, fun i _ => .portErr3 i⟩,
   ⟨0x20038, 66, 0x100, 1, 0x1000000, fun i _ => .portErr4 i⟩,
   ⟨0x20040, 66, 0x100, 1, 0x1000000, fun i _ => .portRxFrames i⟩,
   ⟨0x20048, 66, 0x100, 1, 0x1000000, fun i _ => .portTxFrames i⟩,
   ⟨0x20050, 66, 0x100, 1, 0x1000000, fun i _ => .portPrbs i⟩,
   ⟨0x20058, 66, 0x100, 1, 0x1000000, fun i _ => .portCntClr i⟩,
   ⟨0x20080, 66, 0x100, 8, 0x8, fun i j => .portTag i j⟩,
   ⟨0x24200, 1, 0x8, 1, 0x1000000, fun _ _ => .netCycCfg⟩,
   ⟨0x24208, 1, 0x8, 1, 0x1000000, fun _ _ => .netSegCfg⟩,
   ⟨0x24210, 1, 0x8, 1, 0x1000000, fun _ _ => .netGrdCfg⟩,
   ⟨0x24218, 1, 0x8, 1, 0x1000000, fun _ _ => .netDynCfg⟩,
   ⟨0x24220, 1, 0x8, 1, 0x1000000, fun _ _ => .netCsCtl⟩,
   ⟨0x24228, 1, 0x8, 1, 0x1000000, fun _ _ => .netCsStat⟩,
   ⟨0x24230, 1, 0x8, 1, 0x1000000, fun _ _ => .netSyncStat⟩,
   ⟨0x24238, 1, 0x8, 1, 0x1000000, fun _ _ => .netLinkDelay⟩,
   ⟨0x24240, 1, 0x8, 1, 0x1000000, fun _ _ => .netSelf⟩,
   ⟨0x24248, 1, 0x8, 1, 0x1000000, fun _ _ => .netRxRing⟩,
   ⟨0x24250, 1, 0x8, 1, 0x1000000, fun _ _ => .netRxPtr⟩,
   ⟨0x24258, 1, 0x8, 1, 0x1000000, fun _ _ => .netCntClr⟩,
   ⟨0x25000, 128, 0x20, 1, 0x1000000, fun i _ => .nodeCfg i⟩,
   ⟨0x25008, 128, 0x20, 1, 0x1000000, fun i _ => .nodeStat i⟩,
   ⟨0x25010, 128, 0x20, 1, 0x1000000, fun i _ => .nodeGrd i⟩,
   ⟨0x25018, 128, 0x20, 1, 0x1000000, fun i _ => .nodeRng i⟩,
   ⟨0x26000, 192, 0x10, 1, 0x1000000, fun i _ => .fwdCfg i⟩,
   ⟨0x26008, 192, 0x10, 1, 0x1000000, fun i _ => .fwdStat i⟩,
   ⟨0x28000, 192, 0x20, 1, 0x1000000, fun i _ => .flowCfg i⟩,
   ⟨0x28008, 192, 0x20, 1, 0x1000000, fun i _ => .flowTx i⟩,
   ⟨0x28010, 192, 0x20, 1, 0x1000000, fun i _ => .flowStat i⟩]

/-- The decoding rows of block TWN. -/
def rowsTwn : List RegRow :=
  [⟨0x40000, 1, 0x8, 1, 0x1000000, fun _ _ => .twnCfg⟩,
   ⟨0x40008, 1, 0x8, 1, 0x1000000, fun _ _ => .twnCtl⟩,
   ⟨0x40010, 1, 0x8, 1, 0x1000000, fun _ _ => .twnHoCycle⟩,
   ⟨0x40018, 1, 0x8, 1, 0x1000000, fun _ _ => .twnStat⟩,
   ⟨0x40038, 1, 0x8, 1, 0x1000000, fun _ _ => .twnPull⟩,
   ⟨0x40040, 1, 0x8, 1, 0x1000000, fun _ _ => .twnLastHo⟩,
   ⟨0x40020, 1, 0x8, 1, 0x1000000, fun _ _ => .twnCnt0⟩,
   ⟨0x40028, 1, 0x8, 1, 0x1000000, fun _ _ => .twnCnt1⟩,
   ⟨0x40030, 1, 0x8, 1, 0x1000000, fun _ _ => .twnCnt2⟩,
   ⟨0x40100, 4, 0x8, 1, 0x1000000, fun i _ => .twnMis i⟩]

/-- The decoding rows of block TIM. -/
def rowsTim : List RegRow :=
  [⟨0x50000, 1, 0x8, 1, 0x1000000, fun _ _ => .timT48⟩,
   ⟨0x50008, 1, 0x8, 1, 0x1000000, fun _ _ => .timCycle⟩,
   ⟨0x50010, 1, 0x8, 1, 0x1000000, fun _ _ => .timCycT48⟩,
   ⟨0x50018, 1, 0x8, 1, 0x1000000, fun _ _ => .timNltSec⟩,
   ⟨0x50020, 1, 0x8, 1, 0x1000000, fun _ _ => .timNltNs⟩,
   ⟨0x50028, 1, 0x8, 1, 0x1000000, fun _ _ => .timLtSec⟩,
   ⟨0x50030, 1, 0x8, 1, 0x1000000, fun _ _ => .timLtNs⟩,
   ⟨0x50038, 1, 0x8, 1, 0x1000000, fun _ _ => .timCfg⟩,
   ⟨0x50040, 1, 0x8, 1, 0x1000000, fun _ _ => .timGrid⟩,
   ⟨0x50048, 1, 0x8, 1, 0x1000000, fun _ _ => .timCtl⟩,
   ⟨0x50050, 1, 0x8, 1, 0x1000000, fun _ _ => .timStat⟩,
   ⟨0x50058, 1, 0x8, 1, 0x1000000, fun _ _ => .timCorr⟩,
   ⟨0x50100, 2, 0x40, 1, 0x1000000, fun i _ => .domCfg i⟩,
   ⟨0x50108, 2, 0x40, 1, 0x1000000, fun i _ => .domMT48 i⟩,
   ⟨0x50110, 2, 0x40, 1, 0x1000000, fun i _ => .domMSec i⟩,
   ⟨0x50118, 2, 0x40, 1, 0x1000000, fun i _ => .domMNs i⟩,
   ⟨0x50120, 2, 0x40, 1, 0x1000000, fun i _ => .domMCtl i⟩,
   ⟨0x50128, 2, 0x40, 1, 0x1000000, fun i _ => .domStat i⟩,
   ⟨0x50130, 2, 0x40, 1, 0x1000000, fun i _ => .domOffs i⟩,
   ⟨0x50138, 2, 0x40, 1, 0x1000000, fun i _ => .domRate i⟩,
   ⟨0x50200, 1, 0x8, 1, 0x1000000, fun _ _ => .timTsqId⟩,
   ⟨0x50208, 1, 0x8, 1, 0x1000000, fun _ _ => .timTsqTime⟩,
   ⟨0x50210, 1, 0x8, 1, 0x1000000, fun _ _ => .timTsqStat⟩,
   ⟨0x51000, 32, 0x40, 1, 0x1000000, fun i _ => .ttCfg i⟩,
   ⟨0x51008, 32, 0x40, 1, 0x1000000, fun i _ => .ttCtl i⟩,
   ⟨0x51010, 32, 0x40, 1, 0x1000000, fun i _ => .ttTarget i⟩,
   ⟨0x51018, 32, 0x40, 1, 0x1000000, fun i _ => .ttAux i⟩,
   ⟨0x51020, 32, 0x40, 1, 0x1000000, fun i _ => .ttStat i⟩,
   ⟨0x51028, 32, 0x40, 1, 0x1000000, fun i _ => .ttLast i⟩]

/-- The decoding rows of block JET. -/
def rowsJet : List RegRow :=
  [⟨0x60000, 1, 0x8, 1, 0x1000000, fun _ _ => .jetCtl⟩,
   ⟨0x60008, 1, 0x8, 1, 0x1000000, fun _ _ => .jetStat⟩,
   ⟨0x60010, 1, 0x8, 1, 0x1000000, fun _ _ => .jetMapLo⟩,
   ⟨0x60018, 1, 0x8, 1, 0x1000000, fun _ _ => .jetMapHi⟩,
   ⟨0x60020, 1, 0x8, 1, 0x1000000, fun _ _ => .jetExecStat⟩,
   ⟨0x60028, 1, 0x8, 1, 0x1000000, fun _ _ => .jetArithStat⟩,
   ⟨0x60030, 1, 0x8, 1, 0x1000000, fun _ _ => .jetTurnStat⟩,
   ⟨0x60038, 1, 0x8, 1, 0x1000000, fun _ _ => .jetFaultStat⟩,
   ⟨0x60040, 1, 0x8, 1, 0x1000000, fun _ _ => .jetCntClr⟩,
   ⟨0x61000, 17, 0x80, 1, 0x1000000, fun i _ => .jetjStat i⟩,
   ⟨0x61008, 17, 0x80, 1, 0x1000000, fun i _ => .jetjFailTime i⟩,
   ⟨0x61010, 17, 0x80, 1, 0x1000000, fun i _ => .jetjLoad i⟩,
   ⟨0x61040, 17, 0x80, 8, 0x8, fun i j => .jetjTag i j⟩]

/-- The decoding rows of block AXS. -/
def rowsAxs : List RegRow :=
  [⟨0x80000, 192, 0x400, 1, 0x1000000, fun i _ => .axsCtl i⟩,
   ⟨0x80008, 192, 0x400, 1, 0x1000000, fun i _ => .axsCfg i⟩,
   ⟨0x80010, 192, 0x400, 1, 0x1000000, fun i _ => .axsCmd i⟩,
   ⟨0x80018, 192, 0x400, 1, 0x1000000, fun i _ => .axsStat i⟩,
   ⟨0x80020, 192, 0x400, 1, 0x1000000, fun i _ => .axsAgeStat i⟩,
   ⟨0x80100, 192, 0x400, 1, 0x1000000, fun i _ => .axsCsFlags i⟩,
   ⟨0x80108, 192, 0x400, 1, 0x1000000, fun i _ => .axsCsCost i⟩,
   ⟨0x80110, 192, 0x400, 1, 0x1000000, fun i _ => .axsCsFocI i⟩,
   ⟨0x80118, 192, 0x400, 1, 0x1000000, fun i _ => .axsCsFocV i⟩,
   ⟨0x80120, 192, 0x400, 1, 0x1000000, fun i _ => .axsCsFocStat i⟩,
   ⟨0x80228, 192, 0x400, 1, 0x1000000, fun i _ => .axsMvCtl i⟩,
   ⟨0x80230, 192, 0x400, 1, 0x1000000, fun i _ => .axsCasCycle i⟩,
   ⟨0x80238, 192, 0x400, 1, 0x1000000, fun i _ => .axsMvStat i⟩,
   ⟨0x80280, 192, 0x400, 1, 0x1000000, fun i _ => .axsFolCtl i⟩,
   ⟨0x80288, 192, 0x400, 1, 0x1000000, fun i _ => .axsFolPos i⟩,
   ⟨0x80290, 192, 0x400, 1, 0x1000000, fun i _ => .axsFolStat i⟩,
   ⟨0x80300, 192, 0x400, 1, 0x1000000, fun i _ => .axsFltCause i⟩,
   ⟨0x80308, 192, 0x400, 1, 0x1000000, fun i _ => .axsFltTime i⟩,
   ⟨0x80310, 192, 0x400, 1, 0x1000000, fun i _ => .axsLimStat i⟩,
   ⟨0x80318, 192, 0x400, 1, 0x1000000, fun i _ => .axsSsStat i⟩,
   ⟨0x80320, 192, 0x400, 1, 0x1000000, fun i _ => .axsHmCtl i⟩,
   ⟨0x80328, 192, 0x400, 1, 0x1000000, fun i _ => .axsHmStat i⟩,
   ⟨0x80330, 192, 0x400, 1, 0x1000000, fun i _ => .axsHmPos i⟩,
   ⟨0x80338, 192, 0x400, 1, 0x1000000, fun i _ => .axsHmShift i⟩,
   ⟨0x80358, 192, 0x400, 1, 0x1000000, fun i _ => .axsFbStat i⟩,
   ⟨0x80028, 192, 0x400, 1, 0x1000000, fun i _ => .axsStage i⟩,
   ⟨0x80030, 192, 0x400, 1, 0x1000000, fun i _ => .axsStageCycle i⟩,
   ⟨0x80380, 192, 0x400, 16, 0x8, fun i j => .axsTag i j⟩,
   ⟨0x80140, 192, 0x400, 16, 0x8, fun i j => .axsCsSig i j⟩,
   ⟨0x80200, 192, 0x400, 1, 0x1000000, fun i _ => .axsMvTarget i⟩,
   ⟨0x80208, 192, 0x400, 1, 0x1000000, fun i _ => .axsMvVmax i⟩,
   ⟨0x80210, 192, 0x400, 1, 0x1000000, fun i _ => .axsMvAmax i⟩,
   ⟨0x80218, 192, 0x400, 1, 0x1000000, fun i _ => .axsMvDmax i⟩,
   ⟨0x80220, 192, 0x400, 1, 0x1000000, fun i _ => .axsMvJmax i⟩,
   ⟨0x80240, 192, 0x400, 1, 0x1000000, fun i _ => .axsChgVmax i⟩,
   ⟨0x80248, 192, 0x400, 1, 0x1000000, fun i _ => .axsChgAmax i⟩,
   ⟨0x80250, 192, 0x400, 1, 0x1000000, fun i _ => .axsChgDmax i⟩,
   ⟨0x80258, 192, 0x400, 1, 0x1000000, fun i _ => .axsChgCtl i⟩,
   ⟨0x80260, 192, 0x400, 1, 0x1000000, fun i _ => .axsSetP i⟩,
   ⟨0x80268, 192, 0x400, 1, 0x1000000, fun i _ => .axsSetV i⟩,
   ⟨0x80270, 192, 0x400, 1, 0x1000000, fun i _ => .axsSetA i⟩,
   ⟨0x80278, 192, 0x400, 1, 0x1000000, fun i _ => .axsSupP i⟩,
   ⟨0x80340, 192, 0x400, 1, 0x1000000, fun i _ => .axsFbPos i⟩,
   ⟨0x80348, 192, 0x400, 1, 0x1000000, fun i _ => .axsFbVel i⟩,
   ⟨0x80350, 192, 0x400, 1, 0x1000000, fun i _ => .axsFbHshift i⟩]

/-- The decoding rows of block CAS. -/
def rowsCas : List RegRow :=
  [⟨0xc0000, 1, 0x8, 1, 0x1000000, fun _ _ => .casCtl⟩,
   ⟨0xc0008, 1, 0x8, 1, 0x1000000, fun _ _ => .casStat⟩,
   ⟨0xc0010, 1, 0x8, 1, 0x1000000, fun _ _ => .casGrpCtl⟩,
   ⟨0xc0018, 1, 0x8, 1, 0x1000000, fun _ _ => .casGrpCycle⟩,
   ⟨0xc0100, 32, 0x8, 1, 0x1000000, fun i _ => .casGrpStat i⟩,
   ⟨0xc1000, 64, 0x8, 1, 0x1000000, fun i _ => .casCam i⟩,
   ⟨0xc2000, 4, 0x100, 1, 0x1000000, fun i _ => .lmOSec i⟩,
   ⟨0xc2008, 4, 0x100, 1, 0x1000000, fun i _ => .lmONs i⟩,
   ⟨0xc2010, 4, 0x100, 1, 0x1000000, fun i _ => .lmOP i⟩,
   ⟨0xc2018, 4, 0x100, 1, 0x1000000, fun i _ => .lmOPf i⟩,
   ⟨0xc2020, 4, 0x100, 1, 0x1000000, fun i _ => .lmOV i⟩,
   ⟨0xc2028, 4, 0x100, 1, 0x1000000, fun i _ => .lmOVt i⟩,
   ⟨0xc2030, 4, 0x100, 1, 0x1000000, fun i _ => .lmOA i⟩,
   ⟨0xc2038, 4, 0x100, 1, 0x1000000, fun i _ => .lmOCtl i⟩,
   ⟨0xc2040, 4, 0x100, 1, 0x1000000, fun i _ => .lmStat i⟩,
   ⟨0xc2048, 4, 0x100, 1, 0x1000000, fun i _ => .lmPos i⟩,
   ⟨0xc2050, 4, 0x100, 1, 0x1000000, fun i _ => .lmVel i⟩,
   ⟨0xc2058, 4, 0x100, 1, 0x1000000, fun i _ => .lmPrSec i⟩,
   ⟨0xc2060, 4, 0x100, 1, 0x1000000, fun i _ => .lmPrNs i⟩,
   ⟨0xc2068, 4, 0x100, 1, 0x1000000, fun i _ => .lmPrP i⟩,
   ⟨0xc2070, 4, 0x100, 1, 0x1000000, fun i _ => .lmPrPf i⟩,
   ⟨0xc2078, 4, 0x100, 1, 0x1000000, fun i _ => .lmPrV i⟩]

/-- The decoding rows of block FBK. -/
def rowsFbk : List RegRow :=
  [⟨0xd0000, 12, 0x100, 1, 0x1000000, fun i _ => .encCfg i⟩,
   ⟨0xd0008, 12, 0x100, 1, 0x1000000, fun i _ => .encSer i⟩,
   ⟨0xd0010, 12, 0x100, 1, 0x1000000, fun i _ => .encMod i⟩,
   ⟨0xd0018, 12, 0x100, 1, 0x1000000, fun i _ => .encPos i⟩,
   ⟨0xd0058, 12, 0x100, 1, 0x1000000, fun i _ => .encFrameLo i⟩,
   ⟨0xd0060, 12, 0x100, 1, 0x1000000, fun i _ => .encFrameHi i⟩,
   ⟨0xd0020, 12, 0x100, 1, 0x1000000, fun i _ => .encStat i⟩,
   ⟨0xd0028, 12, 0x100, 1, 0x1000000, fun i _ => .encErr i⟩,
   ⟨0xd0030, 12, 0x100, 1, 0x1000000, fun i _ => .encLatCtl i⟩,
   ⟨0xd0038, 12, 0x100, 2, 0x10, fun i j => .encLatPos i j⟩,
   ⟨0xd0040, 12, 0x100, 2, 0x10, fun i j => .encLatTime i j⟩]

/-- The decoding rows of block PWM. -/
def rowsPwm : List RegRow :=
  [⟨0xe0000, 48, 0x40, 1, 0x1000000, fun i _ => .tcCfg i⟩,
   ⟨0xe0008, 48, 0x40, 1, 0x1000000, fun i _ => .tcPerSh i⟩,
   ⟨0xe0010, 48, 0x40, 1, 0x1000000, fun i _ => .tcCmpSh i⟩,
   ⟨0xe0018, 48, 0x40, 1, 0x1000000, fun i _ => .tcCmp2Sh i⟩,
   ⟨0xe0020, 48, 0x40, 1, 0x1000000, fun i _ => .tcCtl i⟩,
   ⟨0xe0028, 48, 0x40, 1, 0x1000000, fun i _ => .tcStat i⟩,
   ⟨0xe0030, 48, 0x40, 1, 0x1000000, fun i _ => .tcLive i⟩,
   ⟨0xe1000, 12, 0x80, 1, 0x1000000, fun i _ => .sgCfg i⟩,
   ⟨0xe1008, 12, 0x80, 1, 0x1000000, fun i _ => .sgCfg2 i⟩,
   ⟨0xe1010, 12, 0x80, 1, 0x1000000, fun i _ => .sgCtl i⟩,
   ⟨0xe1018, 12, 0x80, 1, 0x1000000, fun i _ => .sgStat i⟩,
   ⟨0xe1020, 12, 0x80, 1, 0x1000000, fun i _ => .sgTripSnap i⟩,
   ⟨0xe1028, 12, 0x80, 1, 0x1000000, fun i _ => .sgTripTime i⟩,
   ⟨0xe2000, 36, 0x10, 1, 0x1000000, fun i _ => .cmpCfg i⟩,
   ⟨0xe2008, 36, 0x10, 1, 0x1000000, fun i _ => .cmpStat i⟩,
   ⟨0xe3000, 48, 0x20, 1, 0x1000000, fun i _ => .sdCfg i⟩,
   ⟨0xe3008, 48, 0x20, 1, 0x1000000, fun i _ => .sdVal i⟩,
   ⟨0xe3010, 48, 0x20, 1, 0x1000000, fun i _ => .sdStat i⟩,
   ⟨0xe4000, 6, 0x8, 1, 0x1000000, fun i _ => .sdclk i⟩]

/-- The decoding rows of block MIR. -/
def rowsMir : List RegRow :=
  [⟨0xf0000, 32, 0x100, 1, 0x1000000, fun i _ => .mirSrc i⟩,
   ⟨0xf0008, 32, 0x100, 1, 0x1000000, fun i _ => .mirPinmask i⟩,
   ⟨0xf0010, 32, 0x100, 1, 0x1000000, fun i _ => .mirRate i⟩,
   ⟨0xf0018, 32, 0x100, 1, 0x1000000, fun i _ => .mirDb i⟩,
   ⟨0xf0020, 32, 0x100, 1, 0x1000000, fun i _ => .mirAcq i⟩,
   ⟨0xf0028, 32, 0x100, 1, 0x1000000, fun i _ => .mirTrig i⟩,
   ⟨0xf0030, 32, 0x100, 1, 0x1000000, fun i _ => .mirLvl i⟩,
   ⟨0xf0038, 32, 0x100, 1, 0x1000000, fun i _ => .mirHys i⟩,
   ⟨0xf0040, 32, 0x100, 1, 0x1000000, fun i _ => .mirRing i⟩,
   ⟨0xf0048, 32, 0x100, 1, 0x1000000, fun i _ => .mirRingCtl i⟩,
   ⟨0xf0050, 32, 0x100, 1, 0x1000000, fun i _ => .mirPtr i⟩,
   ⟨0xf0058, 32, 0x100, 1, 0x1000000, fun i _ => .mirCtl i⟩,
   ⟨0xf0060, 32, 0x100, 1, 0x1000000, fun i _ => .mirStat i⟩,
   ⟨0xf0068, 32, 0x100, 1, 0x1000000, fun i _ => .mirCnt0 i⟩,
   ⟨0xf0070, 32, 0x100, 1, 0x1000000, fun i _ => .mirCnt1 i⟩,
   ⟨0xf0078, 32, 0x100, 1, 0x1000000, fun i _ => .mirDead i⟩,
   ⟨0xf0080, 32, 0x100, 1, 0x1000000, fun i _ => .mirAcqA i⟩,
   ⟨0xf0088, 32, 0x100, 1, 0x1000000, fun i _ => .mirAcqB i⟩,
   ⟨0xf0090, 32, 0x100, 1, 0x1000000, fun i _ => .mirAcqTrig i⟩,
   ⟨0xf0098, 32, 0x100, 1, 0x1000000, fun i _ => .mirAcqRec i⟩,
   ⟨0xf00a0, 32, 0x100, 1, 0x1000000, fun i _ => .mirAcqDead i⟩,
   ⟨0xf00a8, 32, 0x100, 1, 0x1000000, fun i _ => .mirAcqMissT i⟩,
   ⟨0xf00b0, 32, 0x100, 1, 0x1000000, fun i _ => .mirMaskViol i⟩,
   ⟨0xf00b8, 32, 0x100, 1, 0x1000000, fun i _ => .mirMaskT i⟩,
   ⟨0xf00c0, 32, 0x100, 8, 0x8, fun i j => .mirTag i j⟩,
   ⟨0xf4000, 8, 0x8, 1, 0x1000000, fun i _ => .mirMaskCfg i⟩,
   ⟨0xf6000, 1, 0x8, 1, 0x1000000, fun _ _ => .mirXtl⟩]

/-- The decoding rows of block SPT. -/
def rowsSpt : List RegRow :=
  [⟨0x100000, 1, 0x8, 1, 0x1000000, fun _ _ => .sptCfg⟩,
   ⟨0x100008, 1, 0x8, 1, 0x1000000, fun _ _ => .sptSubA⟩,
   ⟨0x100010, 1, 0x8, 1, 0x1000000, fun _ _ => .sptSubExt⟩,
   ⟨0x100018, 1, 0x8, 1, 0x1000000, fun _ _ => .sptSubArg⟩,
   ⟨0x100020, 1, 0x8, 1, 0x1000000, fun _ _ => .sptSubGo⟩,
   ⟨0x100028, 1, 0x8, 1, 0x1000000, fun _ _ => .sptStat⟩,
   ⟨0x100030, 1, 0x8, 1, 0x1000000, fun _ _ => .sptCnt⟩,
   ⟨0x100038, 1, 0x8, 1, 0x1000000, fun _ _ => .sptFault⟩,
   ⟨0x100040, 1, 0x8, 1, 0x1000000, fun _ _ => .sptCntClr⟩,
   ⟨0x101000, 128, 0x8, 1, 0x1000000, fun i _ => .sptDone i⟩]

/-- The decoding rows of block SLU. -/
def rowsSlu : List RegRow :=
  [⟨0x110000, 128, 0x80, 1, 0x1000000, fun i _ => .taskCfg i⟩,
   ⟨0x110008, 128, 0x80, 1, 0x1000000, fun i _ => .taskFlags i⟩,
   ⟨0x110010, 128, 0x80, 1, 0x1000000, fun i _ => .taskFlagSet i⟩,
   ⟨0x110018, 128, 0x80, 1, 0x1000000, fun i _ => .taskFlagClr i⟩,
   ⟨0x110020, 128, 0x80, 1, 0x1000000, fun i _ => .taskStat i⟩,
   ⟨0x110040, 128, 0x80, 8, 0x8, fun i j => .taskTag i j⟩,
   ⟨0x114000, 1, 0x8, 1, 0x1000000, fun _ _ => .sluPost⟩,
   ⟨0x114008, 1, 0x8, 1, 0x1000000, fun _ _ => .sluStat⟩,
   ⟨0x115000, 349, 0x8, 1, 0x1000000, fun i _ => .sluRoute i⟩,
   ⟨0x116000, 1, 0x8, 1, 0x1000000, fun _ _ => .sluCvnRing⟩,
   ⟨0x116008, 1, 0x8, 1, 0x1000000, fun _ _ => .sluCvnCtl⟩,
   ⟨0x116010, 1, 0x8, 1, 0x1000000, fun _ _ => .sluCvnPtr⟩,
   ⟨0x116018, 1, 0x8, 1, 0x1000000, fun _ _ => .sluCvnStat⟩,
   ⟨0x118000, 8, 0x100, 1, 0x1000000, fun i _ => .coreDispatch i⟩,
   ⟨0x118008, 8, 0x100, 1, 0x1000000, fun i _ => .coreDispDl i⟩,
   ⟨0x118010, 8, 0x100, 1, 0x1000000, fun i _ => .coreArg i⟩,
   ⟨0x118018, 8, 0x100, 1, 0x1000000, fun i _ => .coreWflags i⟩,
   ⟨0x118020, 8, 0x100, 1, 0x1000000, fun i _ => .coreDone i⟩,
   ⟨0x118028, 8, 0x100, 1, 0x1000000, fun i _ => .coreWaitTmo i⟩,
   ⟨0x118030, 8, 0x100, 1, 0x1000000, fun i _ => .coreStat i⟩,
   ⟨0x118038, 8, 0x100, 1, 0x1000000, fun i _ => .coreIrq i⟩,
   ⟨0x118040, 8, 0x100, 1, 0x1000000, fun i _ => .coreMtimecmp i⟩,
   ⟨0x118048, 8, 0x100, 1, 0x1000000, fun i _ => .coreWdog i⟩,
   ⟨0x118080, 8, 0x100, 8, 0x8, fun i j => .coreTag i j⟩]

/-- The decoding rows of block MBX. -/
def rowsMbx : List RegRow :=
  [⟨0x120000, 64, 0x40, 1, 0x1000000, fun i _ => .mbData i⟩,
   ⟨0x120008, 64, 0x40, 1, 0x1000000, fun i _ => .mbStat i⟩,
   ⟨0x120010, 64, 0x40, 1, 0x1000000, fun i _ => .mbCfg i⟩,
   ⟨0x120018, 64, 0x40, 1, 0x1000000, fun i _ => .mbWait i⟩,
   ⟨0x126000, 64, 0x40, 8, 0x8, fun i j => .mbTag i j⟩,
   ⟨0x122000, 64, 0x10, 1, 0x1000000, fun i _ => .lk i⟩,
   ⟨0x122008, 64, 0x10, 1, 0x1000000, fun i _ => .lkStat i⟩,
   ⟨0x123010, 16, 0x10, 1, 0x1000000, fun i _ => .dbSet (i + 1)⟩,
   ⟨0x123018, 16, 0x10, 1, 0x1000000, fun i _ => .dbPend (i + 1)⟩,
   ⟨0x124010, 16, 0x10, 1, 0x1000000, fun i _ => .agEvtLo (i + 1)⟩,
   ⟨0x124018, 16, 0x10, 1, 0x1000000, fun i _ => .agEvtHi (i + 1)⟩,
   ⟨0x125000, 1, 0x8, 1, 0x1000000, fun _ _ => .mbxXwStat⟩]

/-- The decoding rows of block OAS. -/
def rowsOas : List RegRow :=
  [⟨0x130000, 1, 0x8, 1, 0x1000000, fun _ _ => .oasStat⟩,
   ⟨0x130008, 1, 0x8, 1, 0x1000000, fun _ _ => .oasCfg⟩,
   ⟨0x130010, 4, 0x8, 1, 0x1000000, fun i _ => .oasPwdIn i⟩,
   ⟨0x130030, 1, 0x8, 1, 0x1000000, fun _ _ => .oasPwdCtl⟩,
   ⟨0x130038, 1, 0x8, 1, 0x1000000, fun _ _ => .oasSrst⟩,
   ⟨0x130040, 16, 0x8, 1, 0x1000000, fun i _ => .oasAxzone i⟩,
   ⟨0x130100, 8, 0x40, 1, 0x1000000, fun i _ => .zoneStat i⟩,
   ⟨0x130108, 8, 0x40, 1, 0x1000000, fun i _ => .zoneCtl i⟩,
   ⟨0x130110, 8, 0x40, 1, 0x1000000, fun i _ => .zoneCfg i⟩,
   ⟨0x130118, 8, 0x40, 1, 0x1000000, fun i _ => .zoneFault i⟩,
   ⟨0x130120, 8, 0x40, 1, 0x1000000, fun i _ => .zoneFtime i⟩,
   ⟨0x130300, 16, 0x10, 1, 0x1000000, fun i _ => .siCfg i⟩,
   ⟨0x130308, 16, 0x10, 1, 0x1000000, fun i _ => .siStat i⟩,
   ⟨0x130400, 8, 0x10, 1, 0x1000000, fun i _ => .soCfg i⟩,
   ⟨0x130408, 8, 0x10, 1, 0x1000000, fun i _ => .soStat i⟩,
   ⟨0x130480, 12, 0x10, 1, 0x1000000, fun i _ => .slsCfg i⟩,
   ⟨0x130488, 12, 0x10, 1, 0x1000000, fun i _ => .slsStat i⟩,
   ⟨0x131000, 192, 0x20, 1, 0x1000000, fun i _ => .connCfg i⟩,
   ⟨0x131008, 192, 0x20, 1, 0x1000000, fun i _ => .connSeed i⟩,
   ⟨0x131010, 192, 0x20, 1, 0x1000000, fun i _ => .connStat i⟩,
   ⟨0x131018, 192, 0x20, 1, 0x1000000, fun i _ => .connCnt i⟩,
   ⟨0x133000, 1, 0x8, 1, 0x1000000, fun _ _ => .oasLogIdx⟩,
   ⟨0x133008, 8, 0x8, 1, 0x1000000, fun i _ => .oasLogD i⟩]

/-- The decoding rows of block HST. -/
def rowsHst : List RegRow :=
  [⟨0x140000, 1, 0x8, 1, 0x1000000, fun _ _ => .hstPcieStat⟩,
   ⟨0x140100, 56, 0x8, 1, 0x1000000, fun i _ => .hstMsixMap (i + 8)⟩,
   ⟨0x141000, 4, 0x40, 1, 0x1000000, fun i _ => .dmaRingLo i⟩,
   ⟨0x141008, 4, 0x40, 1, 0x1000000, fun i _ => .dmaRingHi i⟩,
   ⟨0x141010, 4, 0x40, 1, 0x1000000, fun i _ => .dmaCtl i⟩,
   ⟨0x141018, 4, 0x40, 1, 0x1000000, fun i _ => .dmaPost i⟩,
   ⟨0x141020, 4, 0x40, 1, 0x1000000, fun i _ => .dmaStat i⟩,
   ⟨0x142000, 1, 0x8, 1, 0x1000000, fun _ _ => .hstSpiStat⟩,
   ⟨0x142008, 1, 0x8, 1, 0x1000000, fun _ _ => .hstSpiIrq⟩,
   ⟨0x142010, 1, 0x8, 1, 0x1000000, fun _ _ => .hstJtagStat⟩,
   ⟨0x143000, 2, 0x40, 1, 0x1000000, fun i _ => .ethMac i⟩,
   ⟨0x143008, 2, 0x40, 1, 0x1000000, fun i _ => .ethRxRing i⟩,
   ⟨0x143010, 2, 0x40, 1, 0x1000000, fun i _ => .ethRxPtr i⟩,
   ⟨0x143018, 2, 0x40, 1, 0x1000000, fun i _ => .ethTxPost i⟩,
   ⟨0x143020, 2, 0x40, 1, 0x1000000, fun i _ => .ethStat i⟩]

/-- The rows of the block an address lies in (the register map of R25). -/
def regRowsOf (a : Nat) : List RegRow :=
  if a < 0x10000 then rowsSys else
  if a < 0x20000 then rowsShr else
  if a < 0x40000 then rowsNet else
  if a < 0x50000 then rowsTwn else
  if a < 0x60000 then rowsTim else
  if a < 0x80000 then rowsJet else
  if a < 0xc0000 then rowsAxs else
  if a < 0xd0000 then rowsCas else
  if a < 0xe0000 then rowsFbk else
  if a < 0xf0000 then rowsPwm else
  if a < 0x100000 then rowsMir else
  if a < 0x110000 then rowsSpt else
  if a < 0x120000 then rowsSlu else
  if a < 0x130000 then rowsMbx else
  if a < 0x140000 then rowsOas else
  if a < 0x150000 then rowsHst else []

/-- The register at a slot address, or none where no register of the manual occupies it (R25). -/
def Reg.ofAddr (a : Nat) : Option Reg := (regRowsOf a).findSome? (fun t => t.at a)

/-- The reset value of a register slot (DESIGN CHOICE, log entry 4). -/
def Reg.resetVal (r : Reg) : Word48 :=
  BitVec.ofNat 48 (r.fields.foldl (fun acc f => acc + (f.rst % 2 ^ f.fld.w) * 2 ^ f.fld.lo) 0)

end Sys2Proof.Machine
end

