-- ==== Sys2Proof/Machine/State.lean ====
section
/-! DEFINITION. The state of the FLN-M192 as plain data, the ways a step can stop, and the state after reset. -/
namespace Sys2Proof.Machine

/-- The machine stops with a fault: no command of the opcode table does, since every refused access is answered
with a code of R11 and the machine goes on. The one constructor keeps the type inhabited; nothing raises it. -/
inductive Fault where
  /-- Raised by nothing; safe. -/
  | stuck
  deriving DecidableEq, Repr

/-- The model refuses a command. -/
inductive Refusal where
  /-- Raised by `exec` for a row that has no meaning yet; safe. -/
  | notModelled (mnemonic : String)
  deriving DecidableEq, Repr

/-- The state of the block. `regs` holds the register slots that differ from their reset value, `mem` the bytes of
the memory windows that differ from what an unlisted byte reads as, and the other fields the internal state of the
units. `pending` is the queue of waiting commands; `now` counts fabric ticks since the model's reset and `free`
numbers the free values taken so far (both the model's own). `ecc` lists the words of Spout's memories (by address / 4) that
hold an uncorrectable error (R557, log entry 103), `outst` the requests of agents that a shared unit has granted and no
response has answered, as agent and address (R77, R150). -/
structure State where
  pending : List Instr := []
  now : Nat := 0
  free : Nat := 0
  t48 : Word48 := 0
  t48Runs : Bool := false
  regs : List (Nat × Word48) := []
  mem : List Host.Cell := []
  ecc : List Nat := []
  agents : List (Nat × AgentH) := []
  outst : List (Nat × Nat) := []
  vlogLast : Nat := 0
  power : PowerH := {}
  boot : BootH := {}
  flash : List (Nat × FlashH) := []
  adm : AdmH := {}
  weirs : List (Nat × WeirH) := []
  cycles : Nat := 0
  bndAt : Nat := 0
  bndNext : Nat := 0
  axes : List (Nat × AxisH) := []
  arbs : List (Nat × ArbH) := []
  tasks : List (Nat × TaskH) := []
  cores : List (Nat × CoreH) := []
  jets : List (Nat × JetH) := []
  jetSys : JetSysH := {}
  jobs : List (Nat × JobH) := []
  encs : List (Nat × EncH) := []
  fbs : List (Nat × FbH) := []
  tcs : List (Nat × TcH) := []
  sgs : List (Nat × SgH) := []
  cmps : List (Nat × CmpH) := []
  sds : List (Nat × SdH) := []
  ports : List (Nat × PortH) := []
  nodes : List (Nat × NodeH) := []
  net : NetH := {}
  drv : DriveH := {}
  cas : List (Nat × CasH) := []
  grps : List (Nat × GrpH) := []
  lms : List (Nat × LmH) := []
  casSys : CasSysH := {}
  stops : List (Nat × StopH) := []
  homes : List (Nat × HomeH) := []
  zones : List (Nat × ZoneH) := []
  twn : TwinH := {}
  time : TimeH := {}
  mirs : List (Nat × MirH) := []
  pins : Nat := 0xF000000000
  sis : List (Nat × SiH) := []
  sos : List (Nat × SoH) := []
  conns : List (Nat × ConnH) := []
  oas : OasH := {}
  spout : SpoutH := {}
  sluice : SluiceH := {}
  boxes : List (Nat × BoxH) := []
  xwReported : List Nat := []
  host : HostH := {}
  dma : List (Nat × DmaH) := []
  deriving DecidableEq, Repr

/-- The machine right after a power-on reset: every register at the reset value its table gives, memory with
nothing listed, every unit idle (DESIGN CHOICE, log entries 4, 101 and 102). -/
def State.reset : State := {}

end Sys2Proof.Machine
end

