-- ==== Sys2Proof/Machine/Ops.lean ====
section
/-! DEFINITION. The named operations over the state that every unit shares: register slots and fields, memory,
time, free values, responses. -/
namespace Sys2Proof.Machine

/-! ### Registers -/

/-- The present value of a register slot. -/
def State.reg (s : State) (r : Reg) : Word48 := tabGet r.resetVal s.regs r.addr

/-- The state with a register slot replaced. -/
def State.setReg (s : State) (r : Reg) (v : Word48) : State :=
  { s with regs := tabSet r.resetVal r.addr v s.regs }

/-- A register's value as a number. -/
def State.regN (s : State) (r : Reg) : Nat := (s.reg r).toNat

/-- The state with a register slot set to a number's low 48 bits. -/
def State.setRegN (s : State) (r : Reg) (n : Nat) : State := s.setReg r (BitVec.ofNat 48 n)

/-- A register's value read as a signed 48-bit number (R5). -/
def State.regI (s : State) (r : Reg) : Int := (s.reg r).toInt

/-- The state with a register set to an integer modulo 2^48. -/
def State.setRegI (s : State) (r : Reg) (i : Int) : State := s.setReg r (BitVec.ofInt 48 i)

/-- A field of a register value. -/
def wordFld (v : Word48) (f : Fld) : Nat := bitsOf v.toNat f.lo f.w

/-- A register value with one field replaced. -/
def wordPut (v : Word48) (f : Fld) (n : Nat) : Word48 := BitVec.ofNat 48 (putBits v.toNat f.lo f.w n)

/-- A register field. -/
def State.fld (s : State) (r : Reg) (f : Fld) : Nat := wordFld (s.reg r) f

/-- The state with one register field replaced. -/
def State.setFld (s : State) (r : Reg) (f : Fld) (n : Nat) : State := s.setReg r (wordPut (s.reg r) f n)

/-- A register field read as a signed number of the field's width. -/
def State.fldI (s : State) (r : Reg) (f : Fld) : Int := sgn f.w (s.fld r f)

/-- True when a field is not 0. -/
def State.flag (s : State) (r : Reg) (f : Fld) : Bool := s.fld r f != 0

/-- The state with a one-bit field set or cleared. -/
def State.setFlag (s : State) (r : Reg) (f : Fld) (b : Bool) : State := s.setFld r f (b2n b)

/-- Count n more in a field, saturating at its width. -/
def State.addSat (s : State) (r : Reg) (f : Fld) (n : Nat) : State := s.setFld r f (satU f.w (s.fld r f + n))

/-- Count one in a field, saturating. -/
def State.incSat (s : State) (r : Reg) (f : Fld) : State := s.addSat r f 1

/-- Count one in a field, wrapping. -/
def State.incWrap (s : State) (r : Reg) (f : Fld) : State := s.setFld r f ((s.fld r f + 1) % 2 ^ f.w)

/-! ### Internal state by index -/

/-- What the M192 holds for agent a. -/
def State.agent (s : State) (a : Nat) : AgentH := tabGet {} s.agents a
/-- Replace what is held for agent a. -/
def State.setAgent (s : State) (a : Nat) (h : AgentH) : State := { s with agents := tabSet {} a h s.agents }
/-- The transition of weir k. -/
def State.weirH (s : State) (k : Nat) : WeirH := tabGet {} s.weirs k
/-- Replace the transition of weir k. -/
def State.setWeirH (s : State) (k : Nat) (h : WeirH) : State := { s with weirs := tabSet {} k h s.weirs }
/-- The arbiter of unit u. -/
def State.arb (s : State) (u : Nat) : ArbH := tabGet {} s.arbs u
/-- Replace the arbiter of unit u. -/
def State.setArb (s : State) (u : Nat) (h : ArbH) : State := { s with arbs := tabSet {} u h s.arbs }
/-- The internal state of axis n (05_axes.md). -/
def State.axis (s : State) (n : Nat) : AxisH := tabGet {} s.axes n
/-- Replace the internal state of axis n. -/
def State.setAxis (s : State) (n : Nat) (h : AxisH) : State := { s with axes := tabSet {} n h s.axes }
/-- The internal state of Sluice task t. -/
def State.task (s : State) (t : Nat) : TaskH := tabGet {} s.tasks t
/-- Replace the internal state of Sluice task t. -/
def State.setTask (s : State) (t : Nat) (h : TaskH) : State := { s with tasks := tabSet {} t h s.tasks }
/-- The internal state of core k. -/
def State.core (s : State) (k : Nat) : CoreH := tabGet {} s.cores k
/-- Replace the internal state of core k. -/
def State.setCore (s : State) (k : Nat) (h : CoreH) : State := { s with cores := tabSet {} k h s.cores }
/-- The internal state of mailbox n. -/
def State.box (s : State) (n : Nat) : BoxH := tabGet {} s.boxes n
/-- Replace the internal state of mailbox n. -/
def State.setBox (s : State) (n : Nat) (h : BoxH) : State := { s with boxes := tabSet {} n h s.boxes }
/-- The internal state of DMA channel c. -/
def State.dmaH (s : State) (c : Nat) : DmaH := tabGet {} s.dma c
/-- Replace the internal state of DMA channel c. -/
def State.setDmaH (s : State) (c : Nat) (h : DmaH) : State := { s with dma := tabSet {} c h s.dma }

/-- The internal state of Jet j. -/
def State.jet (s : State) (j : Nat) : JetH := tabGet {} s.jets j
/-- Replace: the internal state of Jet j. -/
def State.setJet (s : State) (j : Nat) (h : JetH) : State := { s with jets := tabSet {} j h s.jets }
/-- The tasks of axis n. -/
def State.job (s : State) (n : Nat) : JobH := tabGet {} s.jobs n
/-- Replace: the tasks of axis n. -/
def State.setJob (s : State) (n : Nat) (h : JobH) : State := { s with jobs := tabSet {} n h s.jobs }
/-- The internal state of encoder channel c. -/
def State.enc (s : State) (c : Nat) : EncH := tabGet {} s.encs c
/-- Replace: the internal state of encoder channel c. -/
def State.setEnc (s : State) (c : Nat) (h : EncH) : State := { s with encs := tabSet {} c h s.encs }
/-- The feedback state of axis n. -/
def State.fb (s : State) (n : Nat) : FbH := tabGet {} s.fbs n
/-- Replace: the feedback state of axis n. -/
def State.setFb (s : State) (n : Nat) (h : FbH) : State := { s with fbs := tabSet {} n h s.fbs }
/-- The internal state of port p. -/
def State.port (s : State) (p : Nat) : PortH := tabGet {} s.ports p
/-- Replace: the internal state of port p. -/
def State.setPort (s : State) (p : Nat) (h : PortH) : State := { s with ports := tabSet {} p h s.ports }
/-- The head's state for node k. -/
def State.node (s : State) (k : Nat) : NodeH := tabGet {} s.nodes k
/-- Replace: the head's state for node k. -/
def State.setNode (s : State) (k : Nat) (h : NodeH) : State := { s with nodes := tabSet {} k h s.nodes }

/-- The internal state of timer channel n. -/
def State.tc (s : State) (n : Nat) : TcH := tabGet {} s.tcs n
/-- Replace: the internal state of timer channel n. -/
def State.setTc (s : State) (n : Nat) (h : TcH) : State := { s with tcs := tabSet {} n h s.tcs }
/-- The internal state of stage group g. -/
def State.sg (s : State) (g : Nat) : SgH := tabGet {} s.sgs g
/-- Replace: the internal state of stage group g. -/
def State.setSg (s : State) (g : Nat) (h : SgH) : State := { s with sgs := tabSet {} g h s.sgs }
/-- The internal state of comparator h. -/
def State.cmp (s : State) (k : Nat) : CmpH := tabGet {} s.cmps k
/-- Replace: the internal state of comparator h. -/
def State.setCmp (s : State) (k : Nat) (h : CmpH) : State := { s with cmps := tabSet {} k h s.cmps }
/-- The internal state of sigma-delta input i. -/
def State.sd (s : State) (i : Nat) : SdH := tabGet {} s.sds i
/-- Replace: the internal state of sigma-delta input i. -/
def State.setSd (s : State) (i : Nat) (h : SdH) : State := { s with sds := tabSet {} i h s.sds }

/-- What Cascade holds for axis n. -/
def State.casH (s : State) (n : Nat) : CasH := tabGet {} s.cas n
/-- Replace: what Cascade holds for axis n. -/
def State.setCasH (s : State) (n : Nat) (h : CasH) : State := { s with cas := tabSet {} n h s.cas }
/-- The start of group n. -/
def State.grp (s : State) (n : Nat) : GrpH := tabGet {} s.grps n
/-- Replace: the start of group n. -/
def State.setGrp (s : State) (n : Nat) (h : GrpH) : State := { s with grps := tabSet {} n h s.grps }
/-- Line master n. -/
def State.lm (s : State) (n : Nat) : LmH := tabGet {} s.lms n
/-- Replace: line master n. -/
def State.setLm (s : State) (n : Nat) (h : LmH) : State := { s with lms := tabSet {} n h s.lms }
/-- The stop state of axis n. -/
def State.stop (s : State) (n : Nat) : StopH := tabGet {} s.stops n
/-- Replace: the stop state of axis n. -/
def State.setStop (s : State) (n : Nat) (h : StopH) : State := { s with stops := tabSet {} n h s.stops }
/-- The homing of axis n. -/
def State.home (s : State) (n : Nat) : HomeH := tabGet {} s.homes n
/-- Replace: the homing of axis n. -/
def State.setHome (s : State) (n : Nat) (h : HomeH) : State := { s with homes := tabSet {} n h s.homes }
/-- The internal state of zone z. -/
def State.zone (s : State) (z : Nat) : ZoneH := tabGet {} s.zones z
/-- Replace: the internal state of zone z. -/
def State.setZone (s : State) (z : Nat) (h : ZoneH) : State := { s with zones := tabSet {} z h s.zones }

/-- The capture channel c. -/
def State.mir (s : State) (c : Nat) : MirH := tabGet {} s.mirs c
/-- Replace: the capture channel c. -/
def State.setMir (s : State) (c : Nat) (h : MirH) : State := { s with mirs := tabSet {} c h s.mirs }

/-- Safe input i. -/
def State.si (s : State) (i : Nat) : SiH := tabGet {} s.sis i
/-- Replace: safe input i. -/
def State.setSi (s : State) (i : Nat) (h : SiH) : State := { s with sis := tabSet {} i h s.sis }
/-- Safe output o. -/
def State.so (s : State) (o : Nat) : SoH := tabGet {} s.sos o
/-- Replace: safe output o. -/
def State.setSo (s : State) (o : Nat) (h : SoH) : State := { s with sos := tabSet {} o h s.sos }
/-- Connection c. -/
def State.conn (s : State) (c : Nat) : ConnH := tabGet {} s.conns c
/-- Replace: connection c. -/
def State.setConn (s : State) (c : Nat) (h : ConnH) : State := { s with conns := tabSet {} c h s.conns }

/-! ### Memory -/

/-- What a byte of memory that nothing has written reads as (log entry 6). -/
def memEmpty : Byte := 0#8

/-- One byte of memory (DESIGN CHOICE, log entry 6). -/
def State.byte (s : State) (a : Nat) : Byte := tabGet memEmpty s.mem a

/-- Write one byte of memory. -/
def State.setByte (s : State) (a : Nat) (v : Byte) : State := { s with mem := tabSet memEmpty a v s.mem }

/-- The canonical form of memory: addresses strictly rising, no byte listed that reads as an unlisted one does. -/
def Memory.wf (m : List Host.Cell) : Bool := tabRising m && tabNoDefault memEmpty m

/-- n bytes of memory from an address. -/
def State.bytes (s : State) (a n : Nat) : List Byte := (List.range n).map (fun i => s.byte (a + i))

/-- n bytes of memory read as a little-endian number (R26: slots and words are little-endian). -/
def State.load (s : State) (a n : Nat) : Nat := leNat (s.bytes a n)

/-- Write a list of bytes from an address. -/
def State.setBytes (s : State) (a : Nat) : List Byte → State
  | [] => s
  | b :: t => (s.setByte a b).setBytes (a + 1) t

/-- Write n bytes of a number, least significant first. -/
def State.store (s : State) (a n v : Nat) : State := s.setBytes a (leBytes n v)

/-- The listed cells of a range, with addresses moved from a to b. -/
def cellsMoved (m : List Host.Cell) (a b n : Nat) : List Host.Cell :=
  (m.filter (fun c => decide (a ≤ c.1 ∧ c.1 < a + n))).map (fun c => (c.1 - a + b, c.2))

/-- The cells outside a range. -/
def cellsOut (m : List Host.Cell) (a n : Nat) : List Host.Cell :=
  m.filter (fun c => !decide (a ≤ c.1 ∧ c.1 < a + n))

/-- Cells placed into a memory. -/
def cellsPut (m l : List Host.Cell) : List Host.Cell := l.foldl (fun m c => tabPut c.1 c.2 m) m

/-- n bytes from a on read as unwritten (DESIGN CHOICE, log entry 6). -/
def State.clearMem (s : State) (a n : Nat) : State := { s with mem := cellsOut s.mem a n }

/-- n bytes from a on are copied to b on. -/
def State.copyMem (s : State) (a b n : Nat) : State :=
  { s with mem := cellsPut (cellsOut s.mem b n) (cellsMoved s.mem a b n) }

/-- n bytes from a on and from b on change places. -/
def State.exchangeMem (s : State) (a b n : Nat) : State :=
  { s with mem := cellsPut (cellsOut (cellsOut s.mem a n) b n) (cellsMoved s.mem a b n ++ cellsMoved s.mem b a n) }

/-! ### Time and free values -/

/-- Fabric ticks in a microsecond (R4: a fabric tick is 2 ns). -/
def usTicks : Nat := 500

/-- Fabric ticks in a millisecond. -/
def msTicks : Nat := 500000

/-- dt fabric ticks pass: T48 advances while it runs (R503) (DESIGN CHOICE, log entries 1 and 2). -/
def State.elapse (s : State) (dt : Nat) : State :=
  { s with now := s.now + dt, t48 := if s.t48Runs then s.t48 + BitVec.ofNat 48 dt else s.t48 }

/-- The next free value, as a number below 2^w, and the state with it taken (DESIGN CHOICE, log entry 93). -/
def State.takeFree (s : State) (w : Nat) : Nat × State :=
  ((Config.freeValue s.free).toNat % 2 ^ w, { s with free := s.free + 1 })

/-! ### Codes of R11 -/

def cOK : Nat := 0
def cDECODE : Nat := 1
def cACCESS : Nat := 2
def cOFFLINE : Nat := 3
def cABORTED : Nat := 4
def cDEFERRED : Nat := 5
def cREFUSED : Nat := 6
def cLOCKED : Nat := 7
def cECC : Nat := 8
def cBUSY : Nat := 9
def cACTIVE : Nat := 10

/-- The lowest-numbered code of a list of refusals, OK for none (R12). -/
def lowestCode : List Nat → Nat
  | [] => cOK
  | c :: t => let m := lowestCode t; if m = cOK then c else if c = cOK then m else min c m

/-- A refusal under a condition. -/
def refuseIf (b : Bool) (c : Nat) : List Nat := if b then [c] else []

/-! ### Weirs -/

/-- STATE of weir k: 0 OPEN, 1 DRAINING, 2 CLOSED, 3 RESTARTING (R72). -/
def State.weirState (s : State) (k : Nat) : Nat := s.fld (.sysWeir k) fSysWeir_STATE

/-- True when weir k is OPEN. -/
def State.weirOpen (s : State) (k : Nat) : Bool := s.weirState k == 0

/-- The fold of an operation over a list of indices. -/
def State.each (s : State) (l : List Nat) (f : Nat → State → State) : State := l.foldl (fun s i => f i s) s

/-- An operation under a condition. -/
def State.doIf (s : State) (b : Bool) (f : State → State) : State := if b then f s else s

end Sys2Proof.Machine
end

