-- ==== Sys2Proof/Machine/Events.lean ====
section
/-! DEFINITION. Events: Sluice event flags (R586), MSI-X vectors (R654), the violation log (R152 to R154), and
the delivery of a response. -/
namespace Sys2Proof.Machine

/-- An MSI-X vector is sent, or its pending bit set while it is masked (R654). -/
def State.sendVector (s : State) (v : Nat) : State :=
  if s.host.msixMasked.contains v then
    { s with host := { s.host with
        msixPending := if s.host.msixPending.contains v then s.host.msixPending else v :: s.host.msixPending } }
  else
    { s with host := { s.host with
        msixSent := tabSet 0 v (tabGet 0 s.host.msixSent v + 1) s.host.msixSent } }

/-- The wait condition of R585 on a task's present flags. -/
def waitMet (h : TaskH) (flags : Nat) : Bool :=
  let m := Nat.land flags h.mask
  if h.all then m == h.mask else m != 0

/-- TSK_STATE of a task. -/
def State.taskState (s : State) (t : Nat) : Nat := s.fld (.taskStat t) fTaskStat_TSK_STATE

/-- A request joins the queue of unit u. -/
def State.arbAdd (s : State) (u : Nat) (q : ArbReq) : State :=
  let h := s.arb u
  s.setArb u { h with waiting := h.waiting ++ [q] }

/-- A task becomes READY: it presents a request of unit 8 from this tick (R582). -/
def State.makeReady (s : State) (t : Nat) : State :=
  let s := s.setTask t { s.task t with ready := s.now }
  let s := s.setFld (.taskStat t) fTaskStat_TSK_STATE 1
  s.arbAdd 8 { r := t, arrival := s.now, tick := s.now, cost := 1 }

/-- A waiting task's wait ends: it becomes READY with its request at unit 8 (R585). -/
def State.wake (s : State) (t : Nat) (timeout : Bool) : State :=
  let s := s.setTask t { s.task t with woken := true, timedOut := timeout }
  s.makeReady t

/-- A BLOCKED task whose wait condition holds becomes READY (R585). -/
def State.checkWait (s : State) (t : Nat) : State :=
  let h := s.task t
  if h.blocked && !h.woken && s.taskState t == 3 && waitMet h (s.fld (.taskFlags t) fTaskFlags_FLAGS) then
    s.wake t false
  else s

/-- Flags of a task are set by something other than an event source (R586). -/
def State.setTaskFlags (s : State) (t bits : Nat) : State :=
  (s.setFld (.taskFlags t) fTaskFlags_FLAGS (Nat.lor (s.fld (.taskFlags t) fTaskFlags_FLAGS) bits)).checkWait t

/-- Event source e raises its routed flag (R586, EVENT_FLAG_RAISE): DROPPED counts a flag raised while the task's
weir is not OPEN, COALESCED one that is already set. -/
def State.raiseRouted (s : State) (e : Nat) : State :=
  if s.flag (.sluRoute e) fSluRoute_EN then
    let t := s.fld (.sluRoute e) fSluRoute_TASK
    let b := s.fld (.sluRoute e) fSluRoute_BIT
    if !s.weirOpen (315 + t) then s.incSat (.taskStat t) fTaskStat_DROPPED
    else
      let s := if bitOf (s.fld (.taskFlags t) fTaskFlags_FLAGS) b then s.incSat (.sluRoute e) fSluRoute_COALESCED else s
      s.setTaskFlags t (2 ^ b)
  else s

/-- Event source e is raised: its Sluice flag, the MSI-X vectors mapped to it, and vector 7 for source 347. -/
def State.raise (s : State) (e : Nat) : State :=
  let s := s.raiseRouted e
  let s := s.each (upFrom 8 56) (fun v s =>
    if s.flag (.hstMsixMap v) fHstMsixMap_EN && s.fld (.hstMsixMap v) fHstMsixMap_SRC == e then s.sendVector v else s)
  if e = 347 then s.sendVector 7 else s

/-- Event source e is raised under a condition. -/
def State.raiseIf (s : State) (b : Bool) (e : Nat) : State := if b then s.raise e else s

/-- Types of access in the violation log. -/
def tyRead : Nat := 0
def tyWrite : Nat := 1
def tyPosted : Nat := 2
def tyFetch : Nat := 3

/-- A new entry of the violation log (R152, R153). -/
def State.vlogPut (s : State) (next addr ag ty code : Nat) : State :=
  let s := if s.flag (.sysVlogA next) fSysVlogA_VALID then s.incSat .sysVlogCtl fSysVlogCtl_OVERWRITTEN else s
  let v := putBits (putBits (putBits (putBits (addr % 2 ^ 32) 32 5 ag) 37 2 ty) 39 4 code) 47 1 1
  let s := (s.setRegN (.sysVlogA next) v).setReg (.sysVlogT next) s.t48
  let s := (s.incSat .sysVlogCtl fSysVlogCtl_TOTAL).setFld .sysVlogCtl fSysVlogCtl_NEXT ((next + 1) % 32)
  let s := { s with vlogLast := s.now }
  let s := if ag = 10 then
    s.setFld .hstSpiIrq fHstSpiIrq_PEND (Nat.lor (s.fld .hstSpiIrq fHstSpiIrq_PEND) 4) else s
  s.raise 339

/-- The last entry repeats (R153). -/
def State.vlogAgain (s : State) (last : Nat) : State :=
  let s := s.incSat (.sysVlogA last) fSysVlogA_REPEAT
  { s with vlogLast := s.now }

/-- A refused access enters the violation log (R153, R154). -/
def State.logViolation (s : State) (addr ag ty code : Nat) : State :=
  let next := s.fld .sysVlogCtl fSysVlogCtl_NEXT
  let last := (next + 31) % 32
  let a := s.reg (.sysVlogA last)
  if wordFld a fSysVlogA_VALID == 1 && wordFld a fSysVlogA_ADDR == addr % 2 ^ 32 && wordFld a fSysVlogA_AGENT == ag
      && wordFld a fSysVlogA_TYPE == ty && wordFld a fSysVlogA_CODE == code
      && wordFld a fSysVlogA_REPEAT < 15 && s.now ≤ s.vlogLast + usTicks then
    s.vlogAgain last
  else s.vlogPut next addr ag ty code

/-- The codes that enter the violation log (R152). -/
def loggedCode (c : Nat) : Bool := [1, 2, 3, 7, 8, 9, 10].contains c

/-- An access ends with a code and, for a read, data: the log entry where R152 asks for one, the vector of a
refused posted write (R652), a core's access-fault exception (R154), and the response to the agent, which frees its response
buffer (R150) (DESIGN CHOICE, log entry 16). -/
def State.answer (s : State) (ag addr ty code data : Nat) : State :=
  let s := if loggedCode code || (ty == tyPosted && (code == cDEFERRED || code == cREFUSED)) then
      s.logViolation addr ag ty code else s
  let s := if ag = 9 && ty == tyPosted && code != cOK then s.sendVector 0 else s
  let s := if 1 ≤ ag && ag ≤ 8 && code != cOK then
      s.setCore (ag - 1) { s.core (ag - 1) with exc := if ty == tyFetch then 1 else if ty == tyRead then 5 else 7 }
    else s
  let s := s.setAgent ag { s.agent ag with code := code, data := data }
  { s with outst := s.outst.erase (ag, addr) }

/-- SYS.RSP_EPOCH of an agent after a read that a unit answered (R80) (DEDUCED, log entry 85). -/
def State.noteEpoch (s : State) (ag : Nat) (r : Reg) : State :=
  if 1 ≤ ag ∧ ag ≤ 16 then
    s.setRegN (.sysRspEpoch ag) (match r.weir with
      | some k => s.fld (.sysWeir k) fSysWeir_EPOCH + 2 ^ 16 * k
      | none => 2 ^ 25)
  else s

/-- The chip is out of reset and the root PLL has locked: until then every unit but the always-on domain and Oasis is held in
reset (R55, R59, R69). -/
def State.alive (s : State) : Bool := !s.power.inReset && s.flag .sysClkStat fSysClkStat_LOCK

/-- Agent ag issues accesses: the chip is not in reset (R55), and the weir of a core or of Spout is OPEN (R72, R73). -/
def State.issues (s : State) (ag : Nat) : Bool :=
  s.alive && (if 1 ≤ ag ∧ ag ≤ 8 then s.weirOpen (274 + ag) else ag != 11 || s.weirOpen 507)

/-- True for an agent that is a supervisor core (R9). -/
def isCore (ag : Nat) : Bool := decide (1 ≤ ag ∧ ag ≤ 8)

/-- A core's misaligned access raises the misaligned exception of the RISC-V privileged architecture, 4 for a load and 6 for
a store, and is not logged (R575). -/
def State.misaligned (s : State) (ag ty : Nat) : State :=
  s.setCore (ag - 1) { s.core (ag - 1) with exc := if ty = tyRead then 4 else 6 }

end Sys2Proof.Machine
end

