-- ==== Sys2Proof/Machine/Arb.lean ====
section
/-! DEFINITION. The arbiters of the shared units (04_shared_resources.md, R119 to R134): one policy for all nine. -/
namespace Sys2Proof.Machine

/-- The present wait unit of unit u: the cycle for units 4 and 5, the fabric tick otherwise (R119). -/
def State.waitNow (s : State) (u : Nat) : Nat := if u = 4 ∨ u = 5 then s.cycles else s.now

/-- The pledged bound of unit u in wait units (R119); unit 8 has no bound in time. -/
def pledgedBound (u : Nat) : Option Nat :=
  match u with
  | 0 => some 12 | 1 => some 64 | 2 => some 4 | 3 => some 16 | 4 => some 0 | 5 => some 0
  | 6 => some 32 | 7 => some 2 | _ => none

/-- The class in which a request is served at this decision: 1 pledged, 2 metered, 3 opportunistic (R121, R122); a Spout job, whose
cost is not known, by its task's consumption alone. A requester the image has not named is metered (DEDUCED, log entry 17). -/
def State.arbClass (s : State) (u : Nat) (q : ArbReq) : Nat :=
  let c := s.fld (.shrReqCfg u q.r) fShrReqCfg_CLASS
  if c = 1 then
    let n := tabGet 0 (s.arb u).granted q.r
    let p := s.fld (.shrReqCfg u q.r) fShrReqCfg_PLEDGE
    if !q.metered && (if u = 1 then decide (n < p) else decide (n + q.cost ≤ p)) then 1 else 2
  else if c = 3 then 3 else 2

/-- Distance of a requester index from the tie-break pointer, counting upward and wrapping (R127). -/
def ptrDist (ptr r : Nat) : Nat := (r + 192 - ptr % 192) % 192

/-- True when request a is chosen before request b (R127). -/
def State.arbBefore (s : State) (u : Nat) (a b : ArbReq) : Bool :=
  let ca := s.arbClass u a
  let cb := s.arbClass u b
  let ptr := s.fld (.shrUnitArb u) fShrUnitArb_PTR
  let near := decide (ptrDist ptr a.r < ptrDist ptr b.r)
  if ca != cb then decide (ca < cb)
  else if ca = 1 then if a.arrival != b.arrival then decide (a.arrival < b.arrival) else near
  else if ca = 2 then
    let da := tabGet 0 (s.arb u).deficit a.r
    let db := tabGet 0 (s.arb u).deficit b.r
    if da != db then decide (db < da) else near
  else near

/-- The request chosen among candidates (R127). -/
def State.arbBest (s : State) (u : Nat) : List ArbReq → Option ArbReq
  | [] => none
  | q :: t =>
    match s.arbBest u t with
    | none => some q
    | some b => if s.arbBefore u b q then some b else some q

/-- A deficit brought into ±(2^31 − 1) (R128). -/
def satDeficit (d : Int) : Int := if d > 2 ^ 31 - 1 then 2 ^ 31 - 1 else if d < -(2 ^ 31 - 1) then -(2 ^ 31 - 1) else d

/-- Add to the deficit of requester r. -/
def State.addDeficit (s : State) (u r : Nat) (d : Int) : State :=
  let h := s.arb u
  s.setArb u { h with deficit := tabSet 0 r (satDeficit (tabGet 0 h.deficit r + d)) h.deficit }

/-- The credit of a contested decision: weight × Q_u, Q_u = 1, to every waiting metered requester (R128). -/
def State.arbCredit (s : State) (u : Nat) (cands : List ArbReq) : State :=
  s.each ((cands.filter (fun q => s.arbClass u q == 2)).map (fun q => q.r)).eraseDups
    (fun r s => s.addDeficit u r (s.fld (.shrReqCfg u r) fShrReqCfg_WEIGHT))

/-- Deficits of requesters with no waiting request are 0 (R128). -/
def State.arbTidy (s : State) (u : Nat) : State :=
  let h := s.arb u
  s.setArb u { h with deficit := h.deficit.filter (fun p => h.waiting.any (fun q => q.r == p.1)) }

/-- A pledge of the Jets was missed or cannot be met: a cause to abdicate (R494). -/
def State.abdMark (s : State) : State := { s with twn := { s.twn with abdDue := Nat.lor s.twn.abdDue 1 } }

/-- A weir has left OPEN in a way that R494 names as cause 3. -/
def State.abdCritical (s : State) : State := { s with twn := { s.twn with abdDue := Nat.lor s.twn.abdDue 2 } }

/-- The counters at a grant: DEFER_CNT, MAX_WAIT, BOUND_MISS, STARVED (R125, R126, R134) (DEDUCED, log entry 7). -/
def State.arbCount (s : State) (u : Nat) (q : ArbReq) (pledged : Bool) : State :=
  let w := s.waitNow u - q.arrival
  let s := if 0 < w then s.incSat (.shrReqDefer u q.r) fShrReqDefer_DEFER_CNT else s
  let s := if s.fld (.shrReqWait u q.r) fShrReqWait_MAX_WAIT < w then
    s.setFld (.shrReqWait u q.r) fShrReqWait_MAX_WAIT (satU 24 w) else s
  let s := if s.flag (.shrReqRefuse u q.r) fShrReqRefuse_STARVED then
      (s.setFlag (.shrReqRefuse u q.r) fShrReqRefuse_STARVED false).setFld (.shrUnitArb u) fShrUnitArb_STARVED
        (s.fld (.shrUnitArb u) fShrUnitArb_STARVED - 1)
    else s
  let h := s.arb u
  let s := s.setArb u { h with refusals := tabSet 0 q.r 0 h.refusals }
  match pledgedBound u with
  | some b =>
    if pledged && b < w then
      let s := if u = 0 then s.abdMark else s
      (s.incSat (.shrUnitArb u) fShrUnitArb_BOUND_MISS).raise 340
    else s
  | none => s

/-- One decision of the arbiter of unit u among candidates that wait: the request granted and the state after
the grant (R127 to R130, R134), or none when nothing waits (DEDUCED, log entries 7 and 15). -/
def State.arbGrant (s : State) (u : Nat) (cands : List ArbReq) : Option (ArbReq × State) :=
  let contested := decide (2 ≤ cands.length)
  let metered := !cands.any (fun q => s.arbClass u q == 1)
  let s1 := if contested && metered then s.arbCredit u cands else s
  match s1.arbBest u cands with
  | none => none
  | some q =>
    let c := s1.arbClass u q
    let s2 := if contested && c == 2 then s1.addDeficit u q.r (-(q.cost : Int)) else s1
    let s3 := if contested then s2.setFld (.shrUnitArb u) fShrUnitArb_PTR ((q.r + 1) % 192) else s2
    let s4 := s3.arbCount u q (c == 1)
    let h := s4.arb u
    some (q, (s4.setArb u { h with
      waiting := h.waiting.erase q
      granted := tabSet 0 q.r (tabGet 0 h.granted q.r + q.cost) h.granted }).arbTidy u)

/-- A request is refused with DEFERRED_LIMIT or REFUSED: REFUSE_CNT, LAST_CODE, the starvation count of an
opportunistic requester, and the log entry of a posted write (R124, R125, R134, R151) (DEDUCED, log entry 7). -/
def State.arbRefuse (s : State) (u : Nat) (q : ArbReq) (code : Nat) : State :=
  let h := s.arb u
  let s := s.setArb u { h with waiting := h.waiting.erase q }
  let s := s.arbTidy u
  let s := if code = cDEFERRED && q.arrival < s.waitNow u then
    s.incSat (.shrReqDefer u q.r) fShrReqDefer_DEFER_CNT else s
  let s := (s.incSat (.shrReqRefuse u q.r) fShrReqRefuse_REFUSE_CNT).setFld (.shrReqRefuse u q.r)
    fShrReqRefuse_LAST_CODE code
  let s := if code = cREFUSED then
      let h := s.arb u
      let n := tabGet 0 h.refusals q.r + 1
      let s := s.setArb u { h with refusals := tabSet 0 q.r n h.refusals }
      if 1024 ≤ n && !s.flag (.shrReqRefuse u q.r) fShrReqRefuse_STARVED then
        ((s.setFlag (.shrReqRefuse u q.r) fShrReqRefuse_STARVED true).incSat (.shrUnitArb u)
          fShrUnitArb_STARVED).raise 340
      else s
    else s
  if 1 ≤ q.agent && q.agent ≤ 16 then
    s.answer q.agent q.addr (if q.posted then tyPosted else tyRead) code 0
  else s

/-- The requests of unit u that a grant of the present tick may take: an opportunistic one only in its arrival tick (R124). -/
def State.arbFresh (s : State) (u : Nat) : List ArbReq :=
  (s.arb u).waiting.filter (fun q => s.arbClass u q != 3 || q.tick == s.now)

/-- The opportunistic requests of unit u whose arrival tick has passed without a grant (R124). -/
def State.arbStale (s : State) (u : Nat) : List ArbReq :=
  (s.arb u).waiting.filter (fun q => s.arbClass u q == 3 && q.tick != s.now)

/-- True when an opportunistic request finds no server free at its arrival (R124). -/
def State.arbIdleNot (s : State) (u : Nat) (q : ArbReq) (serverFree : Bool) : Bool := s.arbClass u q == 3 && !serverFree

/-- A requester's waiting requests are withdrawn: counted nowhere (R133) (DEDUCED, log entry 7). -/
def State.arbWithdraw (s : State) (u : Nat) (p : ArbReq → Bool) : State :=
  let h := s.arb u
  (s.setArb u { h with waiting := h.waiting.filter (fun q => !p q) }).arbTidy u

/-- The metered requests of unit u that the present wait unit's grants have left at their age limit (R123)
(DESIGN CHOICE, log entry 8). -/
def State.arbAged (s : State) (u : Nat) : List ArbReq :=
  (s.arb u).waiting.filter (fun q =>
    s.arbClass u q == 2 && q.arrival + s.fld (.shrReqCfg u q.r) fShrReqCfg_AGE_LIMIT ≤ s.waitNow u)

end Sys2Proof.Machine
end

