-- ==== Sys2Proof/Machine/AxisOps.lean ====
section
/-! DEFINITION. Axes and the Basin (05_axes.md, R155 to R185): descriptors, staging and the swap, commands,
states, ages. -/
namespace Sys2Proof.Machine

/-! ### The Basin -/

/-- The base of axis n's live bank; its staged bank follows at + 0x1000 (R36). -/
def liveBank (n : Nat) : Nat := 0x01000000 + n * 0x2000
/-- The base of axis n's staged bank. -/
def stagedBank (n : Nat) : Nat := liveBank n + 0x1000

/-- A field of the live bank: w bits from bit lo of the 64-bit word at an offset (R160). -/
def State.bank (s : State) (n off lo w : Nat) : Nat := bitsOf (s.load (liveBank n + off) 8) lo w

/-- A field of the live bank read as a signed number. -/
def State.bankI (s : State) (n off lo w : Nat) : Int := sgn w (s.bank n off lo w)

/-- Write a field of the live bank. -/
def State.setBank (s : State) (n off lo w v : Nat) : State :=
  s.store (liveBank n + off) 8 (putBits (s.load (liveBank n + off) 8) lo w v)

/-- KIND of axis n (R155). -/
def State.kind (s : State) (n : Nat) : Nat := s.bank n 0 0 3
/-- SRC of an OBSERVER. -/
def State.srcEnc (s : State) (n : Nat) : Bool := s.bank n 0 3 1 == 1
/-- CLOSURE (R156). -/
def State.closure (s : State) (n : Nat) : Nat := s.bank n 0 4 1
/-- OUT_MODE: true for immediate (R44). -/
def State.immediate (s : State) (n : Nat) : Bool := s.bank n 0 5 1 == 1
/-- PRIO (R145). -/
def State.prio (s : State) (n : Nat) : Nat := s.bank n 0 6 4
/-- The axis's group, if it is a member of one (R180). -/
def State.group (s : State) (n : Nat) : Option Nat := if s.bank n 0 10 1 = 1 then some (s.bank n 0 11 5) else none
/-- GROUP_STOP (R181). -/
def State.groupStopEn (s : State) (n : Nat) : Bool := s.bank n 0 16 1 == 1
/-- NODE of the axis's record. -/
def State.nodeOf (s : State) (n : Nat) : Nat := s.bank n 0 17 7
/-- REC, the record index in the node's frame. -/
def State.recOf (s : State) (n : Nat) : Nat := s.bank n 0 24 3
/-- LOCAL_CH. -/
def State.localCh (s : State) (n : Nat) : Nat := s.bank n 0 27 4
/-- COST, the Jet pledge in jet-ticks per cycle (R135). -/
def State.costOf (s : State) (n : Nat) : Nat := s.bank n 8 0 16
/-- AGE_LIMIT of the run header. -/
def State.ageLimit (s : State) (n : Nat) : Nat := s.bank n 0x40 0 4
/-- AGE_REACT of the run header. -/
def State.ageReact (s : State) (n : Nat) : Nat := s.bank n 0x40 4 4

def kindNONE : Nat := 0
def kindNETWORK : Nat := 1
def kindLOCAL : Nat := 2
def kindVIRTUAL : Nat := 3
def kindOBSERVER : Nat := 4

/-- True for an axis whose feedback is an encoder channel of this M192. -/
def State.encoderFed (s : State) (n : Nat) : Bool :=
  s.kind n == kindLOCAL || (s.kind n == kindOBSERVER && s.srcEnc n)

/-- The 192 axes. -/
def allAxes : List Nat := List.range 192

/-- The axes of a node's frame: NETWORK axes, and OBSERVER axes fed by a record (R158). -/
def State.axesOfRec (s : State) (k r : Nat) : List Nat :=
  allAxes.filter (fun n => (s.kind n == kindNETWORK || (s.kind n == kindOBSERVER && !s.srcEnc n)) &&
    s.nodeOf n == k && s.recOf n == r)

/-- The NETWORK axes of a node. -/
def State.netAxesOf (s : State) (k : Nat) : List Nat :=
  allAxes.filter (fun n => s.kind n == kindNETWORK && s.nodeOf n == k)

/-! ### States (R170, R171) -/

def axOFF : Nat := 0
def axREADY : Nat := 1
def axENABLED : Nat := 2
def axMOVING : Nat := 3
def axSTOPPING : Nat := 4
def axHOLD : Nat := 5
def axFAULTED : Nat := 6
def axRELOADING : Nat := 7

/-- STATE of axis n. -/
def State.ax (s : State) (n : Nat) : Nat := s.fld (.axsStat n) fAxsStat_STATE

/-- The axis takes a state; EV_STATE raises its flag on every change. -/
def State.setAx (s : State) (n st : Nat) : State :=
  if s.ax n = st then s
  else (s.setFld (.axsStat n) fAxsStat_STATE st).raiseIf (s.flag (.axsCtl n) fAxsCtl_EV_STATE) n

/-- True in ENABLED, MOVING and STOPPING. -/
def State.driven (s : State) (n : Nat) : Bool := [axENABLED, axMOVING, axSTOPPING].contains (s.ax n)

/-! ### Cycle numbers -/

/-- The present cycle number (TIM.CYCLE). -/
def State.cycleN (s : State) : Nat := s.fld .timCycle fTimCycle_N

/-- Signed difference of two 48-bit cycle numbers. -/
def cycleDiff (a b : Nat) : Int := sgn 48 ((a + 2 ^ 48 - b % 2 ^ 48) % 2 ^ 48)

/-- Fabric ticks from now to the next cycle boundary. -/
def State.toBoundary (s : State) : Nat := s.bndNext - s.now

/-- The cycle of the boundary that R16 selects now: the next one when at least 64 fabric ticks away, else the one
after it. -/
def State.boundaryFor (s : State) : Nat := (s.cycleN + (if 64 ≤ s.toBoundary then 1 else 2)) % 2 ^ 48

/-- True when the boundary of cycle N has passed or is less than 64 fabric ticks away (R163). -/
def State.cycleLate (s : State) (n : Nat) : Bool :=
  let d := cycleDiff n s.cycleN
  decide (d ≤ 0) || (decide (d = 1) && decide (s.toBoundary < 64))

/-- True in a head of a twin pair. -/
def State.twin (s : State) : Bool := s.flag .sysRole fSysRole_TWIN
/-- True in head role. -/
def State.isHead (s : State) : Bool := s.fld .sysRole fSysRole_ROLE == 1
/-- True in drive role. -/
def State.isDrive (s : State) : Bool := s.fld .sysRole fSysRole_ROLE == 2

/-! ### Staging (R161 to R169) -/

/-- RESULT of a staging request, with its event flag (R168). -/
def State.stageResult (s : State) (n r : Nat) : State :=
  (s.setFld (.axsStage n) fAxsStage_RESULT r).raiseIf (r != 0 && s.flag (.axsCtl n) fAxsCtl_EV_STAGE) n

/-- The staged descriptor equals the live one (R161). -/
def State.descriptorSame (s : State) (n : Nat) : Bool := s.bytes (liveBank n) 64 == s.bytes (stagedBank n) 64

/-- A write of REQ = 1 that is accepted as a write (R161 to R164). The former RESULT stays until the request ends
(DESIGN CHOICE, log entry 75). -/
def State.stageRequest (s : State) (n : Nat) : State :=
  let at_ := s.flag (.axsStage n) fAxsStage_AT
  let cyc := s.fld (.axsStageCycle n) fAxsStageCycle_N
  if !s.descriptorSame n then s.stageResult n 2
  else if !at_ && s.twin then s.stageResult n 6
  else if at_ && s.cycleLate cyc then s.stageResult n 3
  else
    let q : SwapReq := ⟨s.flag (.axsStage n) fAxsStage_STATE_LOAD, at_, if at_ then cyc else s.boundaryFor⟩
    let s := s.setAxis n { s.axis n with swap := some q }
    s.setFlag (.axsStage n) fAxsStage_PENDING true

/-- The request ends without a swap (DEDUCED, log entry 75). -/
def State.stageDrop (s : State) (n r : Nat) : State :=
  ((s.setAxis n { s.axis n with swap := none }).setFlag (.axsStage n) fAxsStage_PENDING false).stageResult n r

/-- True while CANCEL still acts: at least 64 fabric ticks before the selected boundary, which for an axis whose
weir is not OPEN is the reopening boundary (R167): the next one, or the one after it where the reset ended less than 64
ticks before the next. -/
def State.cancelActs (s : State) (n : Nat) (q : SwapReq) : Bool :=
  if s.weirOpen n then !s.cycleLate q.cycle
  else if (s.weirH n).phase = 4 then decide (s.bndNext < (s.weirH n).since + 64) || decide (64 ≤ s.toBoundary)
  else true

/-- A write of CANCEL = 1 (R167). -/
def State.stageCancel (s : State) (n : Nat) : State :=
  match (s.axis n).swap with
  | none => s
  | some q => if s.flag (.axsStage n) fAxsStage_PENDING && s.cancelActs n q then s.stageDrop n 4 else s

/-- A byte of axis n's Cascade state, at offset i from 0x700 of both banks: zero as unit configuration leaves it (R704), of a
layout that is not defined once Cascade has worked on it (R264). -/
def State.cascadeByte (s : State) (n i : Nat) : Byte := if s.casH n = {} then 0#8 else Config.cascadeBytes (s.casH n) i

/-- A byte of a memory window as it is read: both banks hold the Cascade state at offsets 0x700 to 0x7FF (R264). -/
def State.memByte (s : State) (a : Nat) : Byte :=
  if 0x1000000 ≤ a ∧ a < 0x1180000 ∧ 0x700 ≤ a % 0x1000 ∧ a % 0x1000 < 0x800 then
    s.cascadeByte ((a - 0x1000000) / 0x2000) (a % 0x1000 - 0x700)
  else s.byte a

/-- n bytes as they are read. -/
def State.memBytes (s : State) (a n : Nat) : List Byte := (List.range n).map (fun i => s.memByte (a + i))

/-- 256 bytes of Cascade state are loaded into axis n (R488, R501): zeros are the state that configuration leaves
(DESIGN CHOICE, log entry 46). -/
def State.loadCascade (s : State) (n : Nat) (b : List Byte) : State :=
  s.setCasH n (if b.all (fun x => x == 0#8) then {} else Config.cascadeState b)

/-- AXS[n].CFG follows the live bank. -/
def State.mirrorCfg (s : State) (n : Nat) : State :=
  s.setRegN (.axsCfg n) (s.bank n 0 0 31 + 2 ^ 31 * s.ageLimit n + 2 ^ 35 * s.ageReact n)

/-- The exchange of banks at a swap (R165, R166): offsets 0x000 to 0xBFF change places, the staged state region
reads zero, and with STATE_LOAD it becomes the axis state first. -/
def State.exchangeBanks (s : State) (n : Nat) (stateLoad : Bool) : State :=
  let s := s.exchangeMem (liveBank n) (stagedBank n) 0xC00
  let s := if stateLoad then s.copyMem (stagedBank n + 0xC00) (liveBank n + 0xC00) 0x400 else s
  (s.clearMem (stagedBank n + 0xC00) 0x400).mirrorCfg n

/-- True when a request's boundary is the present one, in an axis whose weir is OPEN. -/
def State.swapDue (s : State) (n : Nat) : Bool :=
  match (s.axis n).swap with
  | none => false
  | some q => s.weirOpen n && decide (cycleDiff q.cycle s.cycleN ≤ 0)

/-- True when the staged feedback parameters would change DIR or OFFSET (R340). -/
def State.fbTurns (s : State) (n : Nat) : Bool :=
  s.bank n 0xA00 0 1 != bitsOf (s.load (stagedBank n + 0xA00) 8) 0 1 ||
    s.bank n 0xA08 0 48 != bitsOf (s.load (stagedBank n + 0xA08) 8) 0 48

/-- The swap at a boundary (R165 to R168, R340), before what other chapters do with the new parameters. True when the
banks changed places. -/
def State.performSwap (s : State) (n : Nat) : Bool × State :=
  match (s.axis n).swap with
  | none => (false, s)
  | some q =>
    if (q.stateLoad || s.fbTurns n) && ! [axOFF, axREADY, axHOLD, axFAULTED, axRELOADING].contains (s.ax n) then
      (false, s.stageDrop n 7)
    else
      let s := s.exchangeBanks n q.stateLoad
      (true, (s.stageDrop n 1).incWrap (.axsStage n) fAxsStage_SWAP_CNT)

/-! ### Commands (R172 to R176) -/

def cmdENABLE : Nat := 1
def cmdDISABLE : Nat := 2
def cmdSTOP : Nat := 3
def cmdQUICK : Nat := 4
def cmdRESET : Nat := 5

/-- Precedence of commands, highest greatest: QUICK_STOP, STOP, DISABLE, FAULT_RESET, ENABLE (R174). -/
def cmdRank (c : Nat) : Nat :=
  if c = cmdQUICK then 5 else if c = cmdSTOP then 4 else if c = cmdDISABLE then 3 else if c = cmdRESET then 2
  else if c = cmdENABLE then 1 else 0

/-- What a write of AXS[n].CMD is refused with (R173 to R175). -/
def State.cmdRefuse (s : State) (n c : Nat) : List Nat :=
  refuseIf (c == 6 || c == 7) cACCESS ++
  refuseIf (s.kind n == kindOBSERVER && decide (1 ≤ c ∧ c ≤ 4)) cACCESS ++
  refuseIf (s.ax n == axHOLD) cLOCKED ++
  refuseIf (c != 0 && decide (cmdRank c < cmdRank (s.axis n).cmd)) cBUSY

/-- An accepted command is pending until the next boundary (R174). -/
def State.cmdPlace (s : State) (ag n c : Nat) : State :=
  if c = 0 then s
  else (s.setAxis n { s.axis n with cmd := c, cmdAgent := ag }).setFlag (.axsStat n) fAxsStat_CMD_PENDING true

/-- LAST_CMD and CMD_RESULT after an evaluation; the command is no longer pending (R176). -/
def State.cmdDone (s : State) (n c result : Nat) : State :=
  let s := (s.setFld (.axsStat n) fAxsStat_LAST_CMD c).setFld (.axsStat n) fAxsStat_CMD_RESULT result
  (s.setAxis n { s.axis n with cmd := 0, cmdAgent := 0 }).setFlag (.axsStat n) fAxsStat_CMD_PENDING false

/-- A pending command is dropped (R175). -/
def State.cmdDrop (s : State) (n : Nat) : State :=
  let l := (s.axis n).cmdLater
  let s := s.setAxis n { s.axis n with cmdLater := [] }
  match l.getLast? with
  | some c => s.cmdDone n c.2.2.1 5
  | none => if (s.axis n).cmd = 0 then s else s.cmdDone n (s.axis n).cmd 5

/-- A command of a twin head waits for the boundary at which both heads take it (R481). -/
def State.cmdDefer (s : State) (ag n c cycle : Nat) (chB : Bool) : State :=
  if c = 0 then s
  else (s.setAxis n { s.axis n with cmdLater := (s.axis n).cmdLater ++ [(cycle, chB, c, ag)] }).setFlag (.axsStat n)
    fAxsStat_CMD_PENDING true

/-- The commands deferred to this boundary: first those from the channel A head, then those from channel B, and R174
decides among them (R482) (DEDUCED, log entry 86). -/
def State.cmdsDue (s : State) (n : Nat) : State :=
  let h := s.axis n
  let due := h.cmdLater.filter (fun c => decide (cycleDiff c.1 s.cycleN ≤ 0))
  let s := s.setAxis n { h with cmdLater := h.cmdLater.filter (fun c => !decide (cycleDiff c.1 s.cycleN ≤ 0)) }
  (due.filter (fun c => !c.2.1) ++ due.filter (fun c => c.2.1)).foldl (fun s c =>
    if cmdRank (s.axis n).cmd ≤ cmdRank c.2.2.1 then s.cmdPlace c.2.2.2 n c.2.2.1 else s) s

/-- CMD_PENDING stands while a command waits. -/
def State.showPending (s : State) (n : Nat) : State :=
  if (s.axis n).cmdLater.isEmpty then s else s.setFlag (.axsStat n) fAxsStat_CMD_PENDING true

/-! ### Homing: its end (R322, R324) -/

/-- A homing ends with a result (R324); from now on an active limit blocks (R314). -/
def State.homeFinish (s : State) (n res : Nat) : State :=
  let s := s.setHome n {}
  let s := (s.setFld (.axsHmStat n) fAxsHmStat_PHASE 0).setFld (.axsHmStat n) fAxsHmStat_RES res
  let s := (s.setFlag (.axsHmStat n) fAxsHmStat_BUSY false).setFlag (.axsHmStat n) fAxsHmStat_HOMED (res == 1)
  let s := s.doIf (s.flag (.axsLimStat n) fAxsLimStat_LP_DEB) (fun s => s.setFlag (.axsLimStat n) fAxsLimStat_BLK_POS true)
  let s := s.doIf (s.flag (.axsLimStat n) fAxsLimStat_LN_DEB) (fun s => s.setFlag (.axsLimStat n) fAxsLimStat_BLK_NEG true)
  s.raise n

/-- A homing under way is aborted. -/
def State.homeAbort (s : State) (n : Nat) : State := if (s.home n).on then s.homeFinish n 6 else s

/-! ### Age (R177 to R179) -/

/-- The age that R178 compares: the command age in a drive (R179), FB_AGE otherwise. -/
def State.ageOf (s : State) (n : Nat) : Nat :=
  if s.isDrive then (s.axis n).cmdAge else s.fld (.axsStat n) fAxsStat_FB_AGE

/-- FB_AGE at the boundary (R177), MAX_FB_AGE, STALE_CNT and FRESH; EV_AGE when FB_AGE leaves 0. -/
def State.ageUpdate (s : State) (n : Nat) : State :=
  let fresh := s.kind n == kindVIRTUAL || (s.axis n).fresh
  let old := s.fld (.axsStat n) fAxsStat_FB_AGE
  let age := if fresh then 0 else satU 8 (old + 1)
  let s := (s.setFld (.axsStat n) fAxsStat_FB_AGE age).setFlag (.axsStat n) fAxsStat_FRESH fresh
  let s := s.setAxis n { s.axis n with fresh := false }
  let s := if age = 0 then s else s.incSat (.axsAgeStat n) fAxsAgeStat_STALE_CNT
  let s := if s.fld (.axsAgeStat n) fAxsAgeStat_MAX_FB_AGE < age then
    s.setFld (.axsAgeStat n) fAxsAgeStat_MAX_FB_AGE age else s
  let s := if s.ageOf n = 0 then s.setFlag (.axsStat n) fAxsStat_AGE_FAULT false else s
  s.raiseIf (old == 0 && age != 0 && s.flag (.axsCtl n) fAxsCtl_EV_AGE) n

/-- AGE_FAULT sets, with its event flag. -/
def State.setAgeFault (s : State) (n : Nat) : State :=
  if s.flag (.axsStat n) fAxsStat_AGE_FAULT then s
  else (s.setFlag (.axsStat n) fAxsStat_AGE_FAULT true).raiseIf (s.flag (.axsCtl n) fAxsCtl_EV_AGE) n

end Sys2Proof.Machine
end

