-- ==== Sys2Proof/Machine/JetMath.lean ====
section
/-! DEFINITION. The arithmetic of a Jet (06_jets.md, R187 to R192) on integers, with the flags of one task. -/
namespace Sys2Proof.Machine

/-- What one execution of a Jet task accumulates: the flags of R193, INT_HOLD and OUT_LIM, the signals S0 to S15,
and the state words written. -/
structure JT where
  sat : Bool := false
  accSat : Bool := false
  div0 : Bool := false
  intHold : Bool := false
  outLim : Bool := false
  sig : List Int := List.replicate 16 0
  writes : List (Nat × Nat) := []
  deriving DecidableEq, Repr

/-- A computation of a Jet task. -/
abbrev JM := StateM JT

/-- Note a saturation. -/
def noteSat (b : Bool) : JM Unit := modify (fun t => if b then { t with sat := true } else t)

/-- The rounded shift of R189, before saturation. -/
def reduceRound (x s : Int) : Int := if s ≤ 0 then x * 2 ^ (-s).toNat else shrEven x s.toNat

/-- The reduce operation of R189. -/
def reduce (x s : Int) (w : Nat) : JM Int := do
  let q := reduceRound x s
  noteSat (satS w q != q)
  return satS w q

/-- Saturate to Q1.23. -/
def sat24 (x : Int) : JM Int := reduce x 0 24

/-- An accumulator after an addition: saturated to 56 bits (R188). -/
def accumulate (x : Int) : JM Int := do
  modify (fun t => if satS 56 x != x then { t with accSat := true } else t)
  return satS 56 x

/-- A sum of products formed term by term in an accumulator (R187, R188): 2 × a × b each. -/
def macSum : Int → List (Int × Int) → JM Int
  | acc, [] => return acc
  | acc, (a, b) :: t => do
    let acc ← accumulate (acc + 2 * a * b)
    macSum acc t

/-- PADD: addition modulo 2^48 (R190). -/
def padd (a b : Int) : Int := sgn 48 (uns 48 (a + b))

/-- SADD: saturating 48-bit addition (R190). -/
def sadd (a b : Int) : JM Int := do
  noteSat (satS 48 (a + b) != a + b)
  return satS 48 (a + b)

/-- clamp: lo > hi yields hi (R226). -/
def clampI (x lo hi : Int) : Int := min (max x lo) hi

/-- atan(2^−i) × 2^27 / π, rounded to nearest with ties to even (R191). -/
def atanTab : List Int :=
  [33554432, 19808338, 10466182, 5312797, 2666708, 1334654, 667490, 333765, 166885, 83443, 41722, 20861,
   10430, 5215, 2608, 1304, 652, 326, 163, 81, 41, 20, 10, 5]

/-- One iteration of the CORDIC: d is the direction. -/
def cordicIter (x y z d : Int) (i : Nat) (a : Int) : Int × Int × Int :=
  (x - d * (y / 2 ^ i), y + d * (x / 2 ^ i), z - d * a)

/-- The 24 iterations of the CORDIC. -/
def cordicLoop (rotate : Bool) : List Int → Nat → Int → Int → Int → Int × Int × Int
  | [], _, x, y, z => (x, y, z)
  | a :: t, i, x, y, z =>
    let d : Int := if rotate then (if 0 ≤ z then 1 else -1) else (if y < 0 then 1 else -1)
    let r := cordicIter x y z d i a
    cordicLoop rotate t (i + 1) r.1 r.2.1 r.2.2

/-- The starting point of the CORDIC: a quarter turn brings it into range. -/
def cordicStart (rotate : Bool) (x0 y0 z0 : Int) : Int × Int × Int :=
  let x := x0 * 4
  let y := y0 * 4
  let z := if rotate then z0 * 16 else 0
  if rotate then
    if 2 ^ 26 ≤ z then (-y, x, z - 2 ^ 26) else if z < -(2 ^ 26) then (y, -x, z + 2 ^ 26) else (x, y, z)
  else
    if x < 0 ∧ 0 ≤ y then (y, -x, 2 ^ 26) else if x < 0 then (-y, x, -(2 ^ 26)) else (x, y, z)

/-- The CORDIC of R191: (x_out, y_out, z_out). -/
def cordic (rotate : Bool) (x0 y0 z0 : Int) : JM (Int × Int × Int) := do
  let p := cordicStart rotate x0 y0 z0
  let r := cordicLoop rotate atanTab 0 p.1 p.2.1 p.2.2
  let xo ← reduce (r.1 * 0x4DBA77) 25 24
  let yo ← reduce (r.2.1 * 0x4DBA77) 25 24
  let zo ← reduce r.2.2 4 24
  return (xo, yo, zo)

/-- An exact quotient rounded to nearest, ties to even; d ≠ 0. -/
def divEven (n d : Int) : Int :=
  let n' := if d < 0 then -n else n
  let d' := if d < 0 then -d else d
  let f := n' / d'
  let r := n' % d'
  if 2 * r < d' then f else if 2 * r > d' then f + 1 else if f % 2 = 0 then f else f + 1

/-- The divider of R192. -/
def jetDiv (n d : Int) : JM Int := do
  if d = 0 then
    modify (fun t => { t with div0 := true })
    return (if 0 ≤ n then 2 ^ 23 - 1 else -(2 ^ 23))
  else
    let q := divEven n d
    noteSat (satS 24 q != q)
    return satS 24 q

/-- A signal of the present execution (R220, R221). -/
def sigGet (i : Nat) : JM Int := do return (← get).sig.getD i 0

/-- Write a signal; S0 and S14 are never written (R222). -/
def sigSet (i : Nat) (v : Int) : JM Unit := modify (fun t => { t with sig := t.sig.set i v })

/-- Write a state word: it becomes the axis's at commit (R195, R196). -/
def stPut (w v : Nat) : JM Unit := modify (fun t => { t with writes := t.writes ++ [(w, v)] })

end Sys2Proof.Machine
end

