-- ==== Sys2Proof/Machine/FeedbackOps.lean ====
section
/-! DEFINITION. Position and speed feedback (10_feedback.md, R327 to R355): encoder channels, checks, speed, scaling,
latches. -/
namespace Sys2Proof.Machine

/-! ### Parameters -/

/-- DIR (R339). -/
def State.fbDir (s : State) (n : Nat) : Bool := s.bank n 0xA00 0 1 == 1
/-- SPD_SRC: true for speed from positions (R349). -/
def State.spdSrc (s : State) (n : Nat) : Bool := s.bank n 0xA00 1 1 == 1
/-- T_SS in fabric ticks (R343, R355): the field counts units of 10 µs. -/
def State.tSs (s : State) (n : Nat) : Nat := s.bank n 0xA00 2 16 * 10 * usTicks
/-- ERR_LIMIT (R337). -/
def State.errLimit (s : State) (n : Nat) : Nat := s.bank n 0xA00 18 4
/-- OFFSET (R339) (DEDUCED, log entry 61). -/
def State.fbOffset (s : State) (n : Nat) : Int := s.bankI n 0xA08 0 48
/-- JUMP_MAX (R337). -/
def State.jumpMax (s : State) (n : Nat) : Nat := s.bank n 0xA10 0 47

/-- L in units of half a nanosecond (R433, R434). -/
def State.cycLen (s : State) : Nat := s.fld .netCycCfg fNetCycCfg_CYC_LEN

/-- L in fabric ticks. -/
def State.cycTicksOf (s : State) : Nat := s.cycLen / 4

/-- A fault cause is detected (R302): it latches at the next boundary. -/
def State.detect (s : State) (n c : Nat) : State :=
  let h := s.axis n
  s.setAxis n { h with det := Nat.lor h.det (2 ^ c) }

/-- Cause FB_FAULT. -/
def causeFB : Nat := 8

/-- PACT of a raw position (R339): s × POS plus OFFSET plus HSHIFT, modulo 2^48. -/
def State.pactOf (s : State) (n : Nat) (raw : Int) : Word48 :=
  BitVec.ofInt 48 ((if s.fbDir n then -raw else raw) + s.fbOffset n + s.regI (.axsFbHshift n))

/-- VACT of a speed (R339). -/
def State.vactOf (s : State) (n : Nat) (v : Int) : Word48 := BitVec.ofInt 48 (if s.fbDir n then -v else v)

/-! ### Encoder channels (R327 to R335) -/

/-- TYPE of channel c (R327). -/
def State.encType (s : State) (c : Nat) : Nat := s.fld (.encCfg c) fEncCfg_TYPE
/-- MOD of channel c: a field of 0 means 2^32 (R328). -/
def State.encMod (s : State) (c : Nat) : Nat :=
  let m := s.fld (.encMod c) fEncMod_MOD
  if m = 0 then 2 ^ 32 else m
/-- True for SSI and BISS. -/
def State.encSerial (s : State) (c : Nat) : Bool := s.encType c == 3 || s.encType c == 4

/-- The axes fed by channel c: a LOCAL axis and any OBSERVERs beside it (R155). -/
def State.axesOfCh (s : State) (c : Nat) : List Nat := allAxes.filter (fun n => s.encoderFed n && s.localCh n == c)

/-- The axis whose position the latches of channel c take: the LOCAL one, else the first (DEDUCED, log entry 27). -/
def State.axisOfCh (s : State) (c : Nat) : Option Nat :=
  match (s.axesOfCh c).find? (fun n => s.kind n == kindLOCAL) with
  | some n => some n
  | none => (s.axesOfCh c).head?

/-- Raw position of channel c (R328, R335). -/
def State.encPosN (s : State) (c : Nat) : Word48 :=
  let h := s.enc c
  if s.encSerial c then BitVec.ofInt 48 h.mt else BitVec.ofInt 48 (h.mt * (s.encMod c : Int) + (h.st : Int))

/-- An encoder check failure is recorded for the next sample, and counted (R334, R337). -/
def State.encFail (s : State) (c bit : Nat) : State :=
  let h := s.enc c
  let s := s.setEnc c { h with fails := Nat.lor h.fails (2 ^ bit) }
  if bit = 0 then s.incSat (.encErr c) fEncErr_CRC_CNT
  else if bit = 1 || bit = 2 then s.incSat (.encErr c) fEncErr_TMO_CNT
  else s.incSat (.encErr c) fEncErr_EVT_CNT

/-- Bits of FB_STAT.FAILING. -/
def chkCRC : Nat := 0
def chkTIMEOUT : Nat := 1
def chkLATE : Nat := 2
def chkILLEGAL : Nat := 3
def chkIDX : Nat := 4
def chkNE : Nat := 5
def chkRANGE : Nat := 6
def chkJUMP : Nat := 7

/-- The estimator takes an edge of direction d (R342, R344, R345). -/
def edgeIn (h : EdgeH) (now : Nat) (d : Int) : EdgeH :=
  match h.tLast with
  | none => { h with tLast := some now, tRef := some now, dc := 0, dir := d, mode := 1 }
  | some _ =>
    if d = h.dir then { h with tLast := some now, dc := h.dc + 1, mode := 0 }
    else { h with tLast := some now, tRef := some now, dc := 0, dir := d, mode := 2 }

/-- A count of direction d (R328, R329) (DESIGN CHOICE, log entry 32). -/
def State.encCount (s : State) (c : Nat) (d : Int) : State :=
  let h := s.enc c
  let m := s.encMod c
  let h := if d > 0 then
      if h.st + 1 = m then { h with st := 0, mt := h.mt + 1 } else { h with st := h.st + 1 }
    else if h.st = 0 then { h with st := m - 1, mt := h.mt - 1 } else { h with st := h.st - 1 }
  let h := { h with tEdge := some s.now, recent := (s.now, d) :: h.recent.filter (fun e => decide (s.now ≤ e.1 + 19200)) }
  let s := (s.setEnc c h).setFld (.encStat c) fEncStat_ST (h.st % 2 ^ 32)
  s.each (s.axesOfCh c) (fun n s => s.setFb n { s.fb n with est := edgeIn (s.fb n).est s.now d })

/-- The direction of a quadrature transition, A leading B counting up (log entry 22). -/
def quadDir (a b a' b' : Bool) : Int :=
  if a != a' then (if a' == b then -1 else 1) else if b != b' then (if a == b' then 1 else -1) else 0

/-- Oasis counts a transition at a channel's pins itself, whatever the feedback interface makes of it (R631). -/
def State.oasisEdge (s : State) (c : Nat) (d : Int) : State :=
  { s with oas := { s.oas with slsCnt := tabSet 0 c (tabGet 0 s.oas.slsCnt c + d) s.oas.slsCnt } }

/-- An accepted A or B transition of an INCREMENTAL channel (R329). -/
def State.encoderEdge (s : State) (c : Nat) (a b : Bool) : State :=
  let h := s.enc c
  let s := (s.setEnc c { h with a := a, b := b }).oasisEdge c (if h.a != a && h.b != b then 0 else quadDir h.a h.b a b)
  if s.encType c ≠ 1 then s
  else if h.a != a && h.b != b then s.encFail c chkILLEGAL
  else
    let d := quadDir h.a h.b a b
    if d = 0 then s else s.encCount c d

/-- The place of a Hall code in the positive sequence 1, 3, 2, 6, 4, 5 (R331). -/
def hallPlace (code : Nat) : Option Nat := [1, 3, 2, 6, 4, 5].findIdx? (fun x => x == code)

/-- A change of the Hall code (R331). The first code read fixes the place without a count (DEDUCED, log entry 23). -/
def State.hallChange (s : State) (c code : Nat) : State :=
  if s.encType c ≠ 2 then s else
  let h := s.enc c
  let s := s.setEnc c { h with hall := some code }
  match h.hall, hallPlace code with
  | _, none => s.encFail c chkILLEGAL
  | none, some _ => s
  | some old, some i =>
    match hallPlace old with
    | none => s.encFail c chkILLEGAL
    | some j =>
      if i = (j + 1) % 6 then s.encCount c 1
      else if j = (i + 1) % 6 then s.encCount c (-1)
      else if i = j then s else s.encFail c chkILLEGAL

/-- The distance of two counts modulo m. -/
def modDist (m x y : Nat) : Nat := let d := (x + m - y % m) % m; min d (m - d)

/-- A rising edge of Z (R330): qualified by A and B when Z_GATE is 1. -/
def State.indexEvent (s : State) (c : Nat) : State :=
  let h := s.enc c
  if s.encType c ≠ 1 || (s.flag (.encCfg c) fEncCfg_Z_GATE && !(h.a && h.b)) then s else
  match h.idxRef with
  | none => (s.setEnc c { h with idxRef := some h.st }).setFlag (.encStat c) fEncStat_IDX_SEEN true
  | some r =>
    let tol := s.fld (.encCfg c) fEncCfg_IDX_TOL
    if tol ≠ 0 && decide (tol < modDist (s.encMod c) h.st r) then s.encFail c chkIDX else s

/-- The bits of a number, most significant first. -/
def bitsMsb (w x : Nat) : List Bool := ((List.range w).map (fun i => bitOf x i)).reverse

/-- A serial data field split by its configuration (R332): multiturn, single-turn, nE, nW, CRC, and the CRC of R333. -/
structure SerialField where
  mt : Nat
  st : Nat
  ne : Bool
  nw : Bool
  crc : Nat
  want : Nat
  deriving DecidableEq, Repr

/-- The fields of a data field of channel c. -/
def State.serialFields (s : State) (c d : Nat) : SerialField :=
  let cw := s.fld (.encCfg c) fEncCfg_CRC_W
  let neW := s.fld (.encCfg c) fEncCfg_NE_EN
  let nwW := s.fld (.encCfg c) fEncCfg_NW_EN
  let pw := s.fld (.encCfg c) fEncCfg_POS_BITS
  let mw := s.fld (.encCfg c) fEncCfg_MT_BITS
  let raw := crcMsb cw (s.fld (.encMod c) fEncMod_CRC_POLY % 2 ^ cw) 0 (bitsMsb (mw + pw + neW + nwW) (d / 2 ^ cw))
  { mt := bitsOf d (cw + nwW + neW + pw) mw
    st := bitsOf d (cw + nwW + neW) pw
    ne := neW == 0 || bitOf d (cw + nwW)
    nw := nwW == 0 || bitOf d cw
    crc := d % 2 ^ cw
    want := if s.flag (.encCfg c) fEncCfg_CRC_INV then 2 ^ cw - 1 - raw else raw }

/-- POS advances by a valid frame's absolute value (R335). -/
def State.serialAdvance (s : State) (c : Nat) (f : SerialField) : State :=
  let h := s.enc c
  let r : Int := 2 ^ s.fld (.encCfg c) fEncCfg_MT_BITS * (s.encMod c : Int)
  let a : Int := f.mt * (s.encMod c : Int) + f.st
  let pos : Int := match h.absPrev with
    | none => a
    | some p =>
      let d := (a - p) % r
      h.mt + (if 2 * d < r then d else d - r)
  (s.setEnc c { h with mt := pos, st := f.st, absPrev := some a.toNat, frameV := true
                       ii := if h.due then s.bndAt else s.bndNext }).setFld (.encStat c) fEncStat_ST
    (f.st % 2 ^ 32)

/-! ### Speed (R342 to R347) -/

def spdVALID : Nat := 0
def spdSTANDSTILL : Nat := 1
def spdSTARTING : Nat := 2
def spdREVERSAL : Nat := 3
def spdDECAYING : Nat := 4
def spdINVALID : Nat := 5

/-- The estimator forgets its edges (R343). -/
def edgeForget (h : EdgeH) : EdgeH := { h with tLast := none, tRef := none, dc := 0, mode := 0, perN := 0, perD := 0 }

/-- The edge estimator at a sample instant (R342 to R346): the speed, its state and the estimator after. L is in half
nanoseconds, times in fabric ticks, so dc × 2^24 × L / Δt is dc × 2^24 × cyc / (4 × ticks). -/
def edgeEstimate (h : EdgeH) (now tss cyc : Nat) : Int × Nat × EdgeH :=
  match h.tLast, h.tRef with
  | some tl, some tr =>
    if tss ≤ now - tl then (0, spdSTANDSTILL, edgeForget h)
    else if 0 < h.dc && decide (tr < tl) then
      let v := satS 48 (divEven (h.dir * (h.dc : Int) * 2 ^ 24 * (cyc : Int)) (4 * ((tl - tr : Nat) : Int)))
      (v, spdVALID, { h with tRef := some tl, dc := 0, vk := v, perN := tl - tr, perD := h.dc })
    else if h.mode = 1 then (0, spdSTARTING, h)
    else if h.mode = 2 then (0, spdREVERSAL, h)
    else if h.perN < (now - tl) * h.perD then
      let b := satS 48 (divEven (2 ^ 24 * (cyc : Int)) (4 * ((now - tl : Nat) : Int)))
      let m := min (if h.vk < 0 then -h.vk else h.vk) b
      ((if h.vk < 0 then -m else m), spdDECAYING, h)
    else (h.vk, spdVALID, h)
  | _, _ => (0, spdSTANDSTILL, h)

/-- Speed from the valid positions of the last four cycles (R347); p is the present position, of cycle k. -/
def posEstimate (hist : List (Nat × Word48)) (k : Nat) (p : Word48) : Int × Nat :=
  let l := hist.filter (fun e => decide (1 ≤ cycleDiff k e.1 ∧ cycleDiff k e.1 ≤ 4))
  match l.getLast? with
  | none => (0, spdSTARTING)
  | some (j, pj) => (satS 48 (divEven ((p - pj).toInt * 2 ^ 24) (cycleDiff k j)), spdVALID)

/-- No edge of channel c for T_SS (R343): the estimator of an axis forgets its edges, and reports STANDSTILL at its next sample
(DEDUCED, log entry 23). -/
def State.standstillTimeout (s : State) (c : Nat) : State :=
  s.each (s.axesOfCh c) (fun n s =>
    match (s.fb n).est.tLast with
    | some tl => if s.tSs n ≤ s.now - tl then s.setFb n { s.fb n with est := edgeForget (s.fb n).est } else s
    | none => s)

/-! ### Samples (R336 to R341, R348) -/

/-- FAILING of an axis changes; EV_CHK raises its flag when a bit sets. -/
def State.setFailing (s : State) (n f : Nat) : State :=
  let old := s.fld (.axsFbStat n) fAxsFbStat_FAILING
  (s.setFld (.axsFbStat n) fAxsFbStat_FAILING f).raiseIf
    (Nat.lor old f != old && s.flag (.axsFbStat n) fAxsFbStat_EV_CHK) n

/-- A sample of an axis (R336 to R339, R348; EVT_CNT counts a JUMP of an encoder too, DEDUCED, log entry 25): its raw position, its transmission failures (bits 0 to 2 of FAILING) and
event failures (bits 3 to 6), whether it could be valid otherwise, and the speed and state its source gives. Answers
whether the sample is valid. -/
def State.fbSample (s : State) (n : Nat) (raw : Word48) (trans evs : Nat) (ok : Bool) (v : Int) (st : Nat)
    (fromPos : Bool) : Bool × State :=
  let h := s.fb n
  let old := s.fld (.axsFbStat n) fAxsFbStat_FAILING
  let ev := Nat.lor (Nat.land old 0x78) evs
  let pass := ok && trans == 0 && ev == 0 && !h.remote
  let jm := s.jumpMax n
  let far := match h.ref with
    | none => false
    | some r => decide (jm < ((raw - r).toInt).natAbs)
  let jumpNow := pass && jm != 0 && far
  let jump := h.jump || jumpNow
  let valid := pass && !jump
  let p := if fromPos then posEstimate h.hist s.cycleN raw else (v, st)
  let moved := h.last != some raw
  let changed := if moved then s.now else h.changed
  let p := if fromPos && !moved && decide (s.tSs n ≤ s.now - changed) then (0, spdSTANDSTILL) else p
  let h' : FbH := { h with
    ref := if pass then some raw else h.ref
    jump := jump
    last := if valid then some raw else h.last
    changed := if valid then changed else h.changed
    hist := if valid then (s.cycleN, raw) :: h.hist.take 3 else h.hist }
  let run := if valid then 0 else satU 4 (s.fld (.axsFbStat n) fAxsFbStat_INV_RUN + 1)
  let s := s.setFb n h'
  let s := s.setFailing n ((if valid then 0 else Nat.lor (Nat.land old 7) trans) + ev + 0x80 * b2n (jump || h.remote))
  let s := s.setFld (.axsFbStat n) fAxsFbStat_INV_RUN run
  let s := (s.setFlag (.axsFbStat n) fAxsFbStat_VALID valid).setFld (.axsFbStat n) fAxsFbStat_SPD_STATE
    (if valid then p.2 else spdINVALID)
  let s := if jumpNow && s.encoderFed n && s.axisOfCh (s.localCh n) == some n then s.incSat (.encErr (s.localCh n)) fEncErr_EVT_CNT else s
  let s := if evs != 0 || jumpNow || (run != 0 && decide (s.errLimit n ≤ run)) then s.detect n causeFB else s
  if valid then
    let s := s.setFb n { s.fb n with pact := s.pactOf n raw.toInt }
    (true, (s.setReg (.axsFbPos n) (s.pactOf n raw.toInt)).setReg (.axsFbVel n) (s.vactOf n p.1))
  else (false, s)

/-- The sample of axis n from its channel c (R336 to R348). -/
def State.sampleAxis (s : State) (c n : Nat) : State :=
  let h := s.enc c
  let pos := s.encPosN c
  let trans := Nat.land h.fails 7
  let evs := Nat.land h.fails 0x78
  if s.encSerial c then
    let r := s.fbSample n pos trans evs h.frameV 0 0 true
    r.2.setAxis n { r.2.axis n with fresh := r.1 }
  else
    let e := edgeEstimate (s.fb n).est s.now (s.tSs n) s.cycLen
    let s := s.setFb n { s.fb n with est := e.2.2 }
    let r := s.fbSample n pos trans evs true e.1 e.2.1 false
    r.2.setAxis n { r.2.axis n with fresh := r.1 }

/-- The sample of channel c, and of every axis it feeds (R155, R336). -/
def State.sampleChannel (s : State) (c : Nat) : State :=
  let s := (s.setReg (.encPos c) (s.encPosN c)).each (s.axesOfCh c) (fun n s => s.sampleAxis c n)
  s.setEnc c { s.enc c with fails := 0, frameV := false, ended := false, due := false }

/-- Channel c at II (R336): a counting channel samples; the sample of a serial channel is its frame, which may end before II or after
it (DEDUCED, log entry 24). -/
def State.sampleInstant (s : State) (c : Nat) : State :=
  if s.encType c = 0 then s
  else if s.encSerial c && !(s.enc c).ended then s.setEnc c { s.enc c with due := true }
  else s.sampleChannel c

/-- Every channel at II. -/
def State.sampleAll (s : State) : State := s.each (List.range 12) (fun c s => s.sampleInstant c)

/-! ### Serial frames (R332 to R335) -/

/-- True when the first clock edge of channel c's frame falls in this tick (R332). -/
def State.serialStartDue (s : State) (c : Nat) : Bool :=
  let lead := s.fld (.encSer c) fEncSer_SER_LEAD
  s.encSerial c && s.bndNext != 0 && (s.bndNext == s.now + lead || (lead == 0 && s.bndAt == s.now))

/-- A serial channel drives its first clock edge (R332, R334): DAT low before it is a TIMEOUT. -/
def State.serialStart (s : State) (c : Nat) (datLow : Bool) : State :=
  let h := s.enc c
  let s := s.setEnc c { h with running := some s.now, edgeAt := none, ended := false, due := h.due && s.bndAt == s.now }
  if datLow then s.encFail c chkTIMEOUT else s

/-- The frame of channel c has ended: its sample is taken now when II has passed, at II otherwise. -/
def State.serialEnd (s : State) (c : Nat) : State :=
  let s := s.setEnc c { s.enc c with running := none, ended := true }
  if (s.enc c).due then s.sampleChannel c else s

/-- A serial frame completes (R332 to R335): a failed CRC leaves nE and nW of the frame untrusted
(DEDUCED, log entry 25). -/
def State.serialComplete (s : State) (c d : Nat) : State :=
  if !s.encSerial c || (s.enc c).running.isNone then s else
  let s := s.setEnc c { s.enc c with edgeAt := some s.now }
  let s := (s.setFld (.encFrameLo c) fEncFrameLo_BITS (d % 2 ^ 32)).setFld (.encFrameHi c) fEncFrameHi_BITS (d / 2 ^ 32 % 2 ^ 32)
  let f := s.serialFields c d
  let s :=
    if f.crc ≠ f.want then s.encFail c chkCRC
    else
      let s := s.setEnc c { s.enc c with neLow := !f.ne }
      let s := if f.ne then s else s.encFail c chkNE
      let s := if f.st < s.encMod c then s else s.encFail c chkRANGE
      let s := if f.nw then s else (s.incSat (.encErr c) fEncErr_NW_CNT).setFlag (.encStat c) fEncStat_WARN true
      if f.ne && decide (f.st < s.encMod c) then s.serialAdvance c f else s
  s.serialEnd c

/-- No start bit within SER_TMO of the first clock edge of a BISS frame, or DAT not back at idle high within SER_TMO of the last one
(R334). -/
def State.serialTimeout (s : State) (c : Nat) : State :=
  let h := s.enc c
  let past := fun (t : Nat) => decide (t + s.fld (.encSer c) fEncSer_SER_TMO * usTicks ≤ s.now)
  match h.running, h.edgeAt with
  | some t, _ => if s.encType c = 4 && past t then (s.encFail c chkTIMEOUT).serialEnd c else s
  | none, some t => if past t then (s.setEnc c { h with edgeAt := none }).encFail c chkTIMEOUT else s
  | none, none => s

/-- The frame of channel c is not complete at the release of its axis's cycle task (R334): its sample is taken as it stands. -/
def State.serialLate (s : State) (c : Nat) : State :=
  if s.encSerial c && (s.enc c).due then ((s.setEnc c { s.enc c with running := none }).encFail c chkLATE).sampleChannel c else s

/-- What CHK_CLR is refused with (R338): nE still 0 in the latest frame, or the node's fault still reported. -/
def State.chkClrRefuse (s : State) (n : Nat) : List Nat :=
  refuseIf ((s.encoderFed n && (s.enc (s.localCh n)).neLow) || (s.fb n).nodeFb) cACTIVE

/-- CHK_CLR ends the event-class failures of the axis (R338). -/
def State.chkClr (s : State) (n : Nat) : State :=
  let s := s.setFb n { s.fb n with jump := false, remote := false }
  s.setFld (.axsFbStat n) fAxsFbStat_FAILING (Nat.land (s.fld (.axsFbStat n) fAxsFbStat_FAILING) 7)

/-- True while cause FB_FAULT's condition holds (R302, R337): an event check fails, or transmission failures have gone
on for ERR_LIMIT samples. -/
def State.fbFailing (s : State) (n : Nat) : Bool :=
  let f := s.fld (.axsFbStat n) fAxsFbStat_FAILING
  decide (8 ≤ f) || (f != 0 && decide (s.errLimit n ≤ s.fld (.axsFbStat n) fAxsFbStat_INV_RUN))

/-! ### Angle for the current loop (R350) -/

/-- theta_m of channel c at tick t: a 24-bit fraction of a revolution, from the speed and state of axis n. Counts
after t are taken back (DESIGN CHOICE, log entry 32). -/
def State.thetaOf (s : State) (n c t : Nat) : Nat :=
  let h := s.enc c
  let m : Int := s.encMod c
  let v : Int := (if s.fbDir n then -s.regI (.axsFbVel n) else s.regI (.axsFbVel n))
  let st := s.fld (.axsFbStat n) fAxsFbStat_SPD_STATE
  let ty := s.encType c
  let stT : Int := (h.st : Int) - ((h.recent.filter (fun e => decide (t < e.1))).map (fun e => e.2)).foldl (· + ·) 0
  let den := 2 ^ 24 * (s.cycLen : Int)
  -- numerator and denominator of pos_m in counts
  let q : Int × Int :=
    if ty = 1 then (stT, 1)
    else if ty = 2 then
      if st = spdVALID || st = spdDECAYING then
        let tl := ((h.recent.filter (fun e => decide (e.1 ≤ t))).map (fun e => e.1)).headD (h.tEdge.getD t)
        let num := (v.natAbs : Int) * 4 * ((t - tl : Nat) : Int)
        let num := if den * 255 < num * 256 then den * 255 / 256 else num
        if v < 0 then (stT * den + den - num, den) else (stT * den + num, den)
      else (2 * stT + 1, 2)
    else ((h.st : Int) * den + v * 4 * ((t : Int) - (h.ii : Int)), den)
  if q.2 = 0 then 0 else (divEven (q.1 * 2 ^ 24) (q.2 * m) % 2 ^ 24).toNat

/-! ### Latches (R351 to R353) -/

/-- The tick from which latch l of a channel captures. -/
def latArm (h : EncH) (l : Nat) : Option Nat := if l = 0 then h.arm0 else h.arm1

/-- Set the tick from which latch l captures. -/
def setLatArm (h : EncH) (l : Nat) (t : Option Nat) : EncH := if l = 0 then { h with arm0 := t } else { h with arm1 := t }

/-- A latch is armed from the tick after now (R351). -/
def State.latchArm (s : State) (c l : Nat) : State :=
  (s.setEnc c (setLatArm (s.enc c) l (some (s.now + 1)))).setFlag (.encLatCtl c) (fEncLatCtl_ARMED l) true

/-- A latch is disarmed (R353). -/
def State.latchDisarm (s : State) (c l : Nat) : State :=
  (s.setEnc c (setLatArm (s.enc c) l none)).setFlag (.encLatCtl c) (fEncLatCtl_ARMED l) false

/-- True when the edge of a source captures in latch l: armed since an earlier tick, the source and the edge chosen. -/
def State.latchMatches (s : State) (c l src : Nat) (rising : Bool) : Bool :=
  let e := s.fld (.encLatCtl c) (fEncLatCtl_EDGE l)
  (match latArm (s.enc c) l with
   | none => false
   | some t => decide (t ≤ s.now)) &&
  s.fld (.encLatCtl c) (fEncLatCtl_SRC l) == src && (src == 0 || e == 2 || (e == 0) == rising)

/-- The position at an edge now (R352). -/
def State.latchPos (s : State) (c : Nat) : Int × Bool :=
  match s.axisOfCh c with
  | none => ((s.encPosN c).toInt, s.encSerial c)
  | some n =>
    if s.encSerial c then
      let v := if s.fbDir n then -s.regI (.axsFbVel n) else s.regI (.axsFbVel n)
      let den := 2 ^ 24 * (s.cycLen : Int)
      ((s.enc c).mt + (if den = 0 then 0 else divEven (v * 4 * ((s.now : Int) - ((s.enc c).ii : Int))) den), true)
    else ((s.encPosN c).toInt, false)

/-- A capture of latch l (R352, R353) (DEDUCED, log entry 27). -/
def State.latchCapture (s : State) (c l src : Nat) (rising : Bool) : State :=
  if !s.latchMatches c l src rising then s else
  let p := s.latchPos c
  let word := match s.axisOfCh c with
    | none => BitVec.ofInt 48 p.1
    | some n => s.pactOf n p.1
  let suspect := match s.axisOfCh c with
    | none => decide (8 ≤ (s.enc c).fails)
    | some n => decide (8 ≤ (s.enc c).fails) || decide (8 ≤ s.fld (.axsFbStat n) fAxsFbStat_FAILING)
  let s := if s.flag (.encLatCtl c) (fEncLatCtl_VALID l) then s.setFlag (.encLatCtl c) (fEncLatCtl_OVR l) true else s
  let s := (s.setReg (.encLatPos c l) word).setReg (.encLatTime c l) s.t48
  let s := if l = 0 then s.setEnc c { s.enc c with tog := !(s.enc c).tog } else s
  let s := ((s.setFlag (.encLatCtl c) (fEncLatCtl_VALID l) true).setFlag (.encLatCtl c) (fEncLatCtl_SUSPECT l)
    suspect).setFlag (.encLatCtl c) (fEncLatCtl_INTERP l) p.2
  if s.flag (.encLatCtl c) (fEncLatCtl_MODE l) then s else s.latchDisarm c l

/-- ENC[c].ERR.CLR. -/
def State.encErrClr (s : State) (c : Nat) : State := s.setReg (.encErr c) 0

/-! ### Remote feedback (R349, R419 to R421) -/

/-- POS of a feedback record. -/
def recPos (r : List Byte) : Word48 := BitVec.ofNat 48 (leAt r 0 6)
/-- VEL of a feedback record as V48 (R420). -/
def recVel (r : List Byte) : Int := sgn 32 (leAt r 6 4) * 2 ^ 12
/-- Bits of byte 13 to 15 of a feedback record. -/
def recBits (r : List Byte) (byte lo w : Nat) : Nat := bitsOf (byteAt r byte) lo w

/-- A record of an axis that passed its frame check (R349, R177, R179, R201, R420, R421): age and feedback follow. The
limits and homing of the axis, and its latch, read the record too (StopOps) (DEDUCED, log entry 24). -/
def State.applyRecord (s : State) (n : Nat) (r : List Byte) : State :=
  let age0 := recBits r 13 4 4 == 0
  let fault := recBits r 13 3 1 == 1
  let sst := recBits r 13 0 3
  let h := s.fb n
  let newFault := fault && !h.remote
  let s := s.setFb n { h with nodeFb := fault, remote := h.remote || fault, nodeFault := recBits r 15 0 1 == 1 }
  let s := if newFault then s.detect n causeFB else s
  let s := if recBits r 15 0 1 = 1 then s.detect n 10 else s
  let s := s.setFld (.axsStat n) fAxsStat_CMD_AGE (recBits r 14 0 4)
  let ok := age0 && !fault && decide (sst < 6)
  let x := s.fbSample n (recPos r) 0 0 ok (recVel r) sst (s.spdSrc n)
  let s := x.2.setAxis n { x.2.axis n with fresh := age0 }
  if age0 then s
  else (s.setReg (.axsFbPos n) (s.pactOf n (recPos r).toInt)).setReg (.axsFbVel n) (s.vactOf n (recVel r))

/-- The feedback a cycle task takes from a record (R195, R201, R349): the record's when it is usable, the held values
otherwise. -/
def State.recFeed (s : State) (n : Nat) (r : List Byte) : Feed :=
  let usable := recBits r 13 3 1 == 0 && decide (recBits r 13 0 3 < 6) &&
    decide (s.fld (.axsFbStat n) fAxsFbStat_FAILING < 8)
  if usable then
    let v := if s.spdSrc n then (posEstimate (s.fb n).hist s.cycleN (recPos r)).1 else recVel r
    ⟨s.pactOf n (recPos r).toInt, s.vactOf n v⟩
  else ⟨s.reg (.axsFbPos n), s.reg (.axsFbVel n)⟩

end Sys2Proof.Machine
end

