-- ==== Sys2Proof/Machine/JetBlocks.lean ====
section
/-! DEFINITION. Control structures (07_control_structures.md, R219 to R243): block lists, the block library, costs
and the two tasks of an axis. -/
namespace Sys2Proof.Machine

/-! ### Block lists and costs (R219, R223) -/

/-- One entry of a block list (R219). -/
structure BlockE where
  type : Nat
  cl : Bool
  inS : Nat
  auxS : Nat
  outS : Nat
  coef : Nat
  st : Nat
  deriving DecidableEq, Repr

/-- A block list entry read from its 32 bits. -/
def blockEOf (w : Nat) : BlockE :=
  ⟨bitsOf w 0 5, bitOf w 5, bitsOf w 6 4, bitsOf w 10 4, bitsOf w 14 4, bitsOf w 18 7, bitsOf w 25 7⟩

/-- Entry i of axis n's block list. -/
def State.blockEntry (s : State) (n i : Nat) : BlockE := blockEOf (s.bank n (0x10 + 8 * (i / 2)) (32 * (i % 2)) 32)

/-- The block list of axis n, up to its end (R219). -/
def State.blockList (s : State) (n : Nat) : List BlockE :=
  ((List.range 12).map (fun i => s.blockEntry n i)).takeWhile (fun e => e.type != 0)

/-- Coefficient words, state words and cost of a block type (block library). -/
def blockLib (type : Nat) : Nat × Nat × Nat :=
  match type with
  | 1 => (1, 0, 2) | 2 => (1, 0, 2) | 3 => (1, 0, 1) | 4 => (1, 0, 2) | 5 => (1, 0, 1) | 6 => (0, 0, 1)
  | 7 => (0, 0, 1) | 8 => (3, 2, 4) | 9 => (5, 3, 6) | 10 => (3, 3, 4) | 11 => (2, 1, 1) | 12 => (49, 4, 14)
  | 13 => (10, 3, 66) | _ => (0, 0, 0)

/-- The blocks of one task: false the cycle task, true the current-loop task. -/
def taskBlocks (l : List BlockE) (cl : Bool) : List BlockE := l.filter (fun e => e.cl == cl)

/-- The cost of a task (R223, R224): overhead plus blocks; an empty cycle-task list costs 0. -/
def taskCost (l : List BlockE) (cl : Bool) : Nat :=
  let b := taskBlocks l cl
  if b.isEmpty then 0
  else (if cl then 6 else 12) + b.foldl (fun acc e => acc + (blockLib e.type).2.2) 0

/-- CYC_COST of axis n. -/
def State.cycCost (s : State) (n : Nat) : Nat := taskCost (s.blockList n) false

/-- CL_COST of axis n. -/
def State.clCost (s : State) (n : Nat) : Nat := taskCost (s.blockList n) true

/-- The ten entries of the standard cascade by TYPE, IN, AUX and OUT (R236). A block without an input or output
leaves the field unused. -/
def standardShape : List (Nat × Option Nat × Option Nat × Nat) :=
  [(1, none, none, 1), (2, some 1, none, 1), (3, none, none, 2), (8, some 1, some 2, 3), (4, some 3, none, 3),
   (10, some 3, none, 3), (10, some 3, none, 3), (10, some 3, none, 3), (10, some 3, none, 3), (11, some 3, none, 15)]

/-- True when an entry matches a row of the standard cascade. -/
def matchesShape (e : BlockE) (r : Nat × Option Nat × Option Nat × Nat) : Bool :=
  e.type == r.1 && (match r.2.1 with | none => true | some i => e.inS == i) &&
    (match r.2.2.1 with | none => true | some i => e.auxS == i) && e.outS == r.2.2.2

/-! ### Bank words -/

/-- Coefficient word c of axis n (R219). -/
def State.coefWord (s : State) (n c : Nat) : Nat := s.load (liveBank n + 8 * c) 8

/-- State word w of axis n, as committed (R219, R225). -/
def State.stWord (s : State) (n w : Nat) : Nat := s.load (liveBank n + 0xC00 + 8 * w) 8 % 2 ^ 48

/-- Replace state word w of axis n. -/
def State.setStWord (s : State) (n w v : Nat) : State := s.store (liveBank n + 0xC00 + 8 * w) 8 (v % 2 ^ 48)

/-- State word 13 follows FB_AGE, CMD_AGE and AGE_FAULT (R225). -/
def State.showAge (s : State) (n : Nat) : State :=
  s.setStWord n 13 (s.fld (.axsStat n) fAxsStat_FB_AGE + 2 ^ 8 * s.fld (.axsStat n) fAxsStat_CMD_AGE +
    2 ^ 16 * s.fld (.axsStat n) fAxsStat_AGE_FAULT)

/-- A signed 24-bit half of a word: false the low half, true the high half. -/
def half (w : Nat) (hi : Bool) : Int := sgn 24 (bitsOf w (if hi then 24 else 0) 24)

/-- A word made of two signed 24-bit halves. -/
def halves (lo hi : Int) : Nat := uns 24 lo + 2 ^ 24 * uns 24 hi

/-- True when axis n runs the standard cascade (R236). -/
def State.isStandard (s : State) (n : Nat) : Bool :=
  let l := taskBlocks (s.blockList n) false
  l.length == 10 && (l.zip standardShape).all (fun p => matchesShape p.1 p.2) &&
    (match l[3]?, l[9]? with
     | some pi, some lim => bitsOf (s.coefWord n (pi.coef + 1)) 32 7 == lim.st
     | _, _ => false)

/-! ### The blocks (R226 to R233) -/

/-- The gain operation on a gain word (R226). -/
def gainOp (k : Nat) (x : Int) : JM Int := reduce (2 * half k false * x) (24 - sgn 6 (bitsOf k 24 6)) 24

/-- The wide inputs of a cycle task and what it finds in the axis (R220, R195). -/
structure WideIn where
  pset : Int
  vset : Int
  aset : Int
  pact : Int
  vact : Int
  swapped : Bool
  deriving DecidableEq, Repr

/-- A SATDIR code: 0b00 none, 0b01 high, 0b11 low. -/
def satdirCode (d : Int) : Nat := if d > 0 then 1 else if d < 0 then 3 else 0

/-- The direction of a SATDIR code. -/
def satdirOf (c : Nat) : Int := if c = 1 then 1 else if c = 3 then -1 else 0

/-- The PI rule of R229 from a formed p: the integrator word, LO and HI, KI's word, the direction that holds when its
own does not, and the bumpless adjustment. Answers the output and the new integrator. -/
def piCore (e p i : Int) (ki : Nat) (lo hi dirLink : Int) (adjust : Option Int) : JM (Int × Int) := do
  let di ← reduce (2 * half ki false * e) (-(sgn 6 (bitsOf ki 24 6))) 48
  let sum ← sadd i di
  let iTry := clampI sum (lo * 2 ^ 24) (hi * 2 ^ 24)
  let uTry ← reduce (p * 2 ^ 24 + iTry) 24 24
  let own : Int := if uTry > hi then 1 else if uTry < lo then -1 else 0
  let dir := if own ≠ 0 then own else dirLink
  let hold := decide ((dir > 0 ∧ e > 0) ∨ (dir < 0 ∧ e < 0))
  modify (fun t => if hold then { t with intHold := true } else t)
  let iNew := if hold then i else iTry
  let iNew := match adjust with
    | none => iNew
    | some pLast => clampI (iNew + (pLast - p) * 2 ^ 24) (lo * 2 ^ 24) (hi * 2 ^ 24)
  let u ← reduce (p * 2 ^ 24 + iNew) 24 24
  return (clampI u lo hi, iNew)

/-- The linked LIMIT's last committed direction, 0 without a link (R229, R234). -/
def State.linkDir (s : State) (n ki : Nat) : Int :=
  let link := bitsOf ki 32 7
  if link = 0 then 0 else satdirOf (bitsOf (s.stWord n link) 24 2)

/-- PI (R229). -/
def State.blkPi (s : State) (n : Nat) (wi : WideIn) (b : BlockE) : JM Unit := do
  let inp ← sigGet b.inS
  let aux ← sigGet b.auxS
  let ki := s.coefWord n (b.coef + 1)
  let lim := s.coefWord n (b.coef + 2)
  let e ← sat24 (inp - aux)
  let p ← gainOp (s.coefWord n b.coef) e
  let pLast := half (s.stWord n (b.st + 1)) false
  let r ← piCore e p (sgn 48 (s.stWord n b.st)) ki (half lim false) (half lim true) (s.linkDir n ki)
    (if wi.swapped && bitOf ki 39 then some pLast else none)
  stPut b.st (uns 48 r.2)
  stPut (b.st + 1) (uns 24 p)
  sigSet b.outS r.1

/-- PID (R230). -/
def State.blkPid (s : State) (n : Nat) (wi : WideIn) (b : BlockE) : JM Unit := do
  let inp ← sigGet b.inS
  let aux ← sigGet b.auxS
  let ki := s.coefWord n (b.coef + 1)
  let lim := s.coefWord n (b.coef + 2)
  let d := s.stWord n (b.st + 2)
  let e ← sat24 (inp - aux)
  let dRaw ← sat24 (half d false - aux)
  let diff ← sat24 (dRaw - half d true)
  let step ← reduce (2 * half (s.coefWord n (b.coef + 4)) false * diff) 24 24
  let df ← sat24 (half d true + step)
  let pp ← gainOp (s.coefWord n b.coef) e
  let pd ← gainOp (s.coefWord n (b.coef + 3)) df
  let p ← sat24 (pp + pd)
  let pLast := half (s.stWord n (b.st + 1)) false
  let r ← piCore e p (sgn 48 (s.stWord n b.st)) ki (half lim false) (half lim true) (s.linkDir n ki)
    (if wi.swapped && bitOf ki 39 then some pLast else none)
  stPut b.st (uns 48 r.2)
  stPut (b.st + 1) (uns 24 p)
  stPut (b.st + 2) (halves aux df)
  sigSet b.outS r.1

/-- BIQUAD (R231). -/
def State.blkBiquad (s : State) (n : Nat) (b : BlockE) : JM Unit := do
  let x ← sigGet b.inS
  let c0 := s.coefWord n b.coef
  let c1 := s.coefWord n (b.coef + 1)
  let c2 := s.coefWord n (b.coef + 2)
  let xs := s.stWord n b.st
  let ys := s.stWord n (b.st + 1)
  let eb : Int := (bitsOf c2 24 2 : Nat)
  let acc ← macSum 0 [(half c0 false, x), (half c0 true, half xs false), (half c1 false, half xs true),
    (-(half c1 true), half ys false), (-(half c2 false), half ys true)]
  let acc ← if bitOf c2 26 then accumulate (acc + sgn 48 (s.stWord n (b.st + 2))) else pure acc
  let q := reduceRound acc (24 - eb)
  let y ← reduce acc (24 - eb) 24
  let r := if satS 24 q != q then 0 else acc - y * 2 ^ (24 - eb).toNat
  stPut b.st (halves x (half xs false))
  stPut (b.st + 1) (halves y (half ys false))
  stPut (b.st + 2) (uns 48 r)
  sigSet b.outS y

/-- The bounds of the LIMIT that writes S15 (R312, R323): within ±CR_LEVEL under current reduction, ±HM_TORQ during a
hard-stop homing. -/
def State.s15Bounds (s : State) (n : Nat) (lo hi : Int) : Int × Int :=
  if (s.home n).narrowed then (-((s.home n).torq : Int), ((s.home n).torq : Int))
  else if s.flag (.axsSsStat n) fAxsSsStat_CR_ACTIVE then
    let c : Int := s.bank n 0x850 0 24
    (max lo (-c), min hi c)
  else (lo, hi)

/-- LIMIT (R232). -/
def State.blkLimit (s : State) (n : Nat) (b : BlockE) : JM Unit := do
  let x ← sigGet b.inS
  let c0 := s.coefWord n b.coef
  let rmax := half (s.coefWord n (b.coef + 1)) false
  let last := half (s.stWord n b.st) false
  let b0 := if b.outS = 15 then s.s15Bounds n (half c0 false) (half c0 true) else (half c0 false, half c0 true)
  let lo := b0.1
  let hi := b0.2
  let lo2 := if rmax = 0 then lo else max lo (last - rmax)
  let hi2 := if rmax = 0 then hi else min hi (last + rmax)
  let out := clampI x lo2 hi2
  let dir : Int := if x > hi2 then 1 else if x < lo2 then -1 else 0
  modify (fun t => if dir ≠ 0 then { t with outLim := true } else t)
  stPut b.st (uns 24 out + 2 ^ 24 * satdirCode dir)
  sigSet b.outS out

/-- Coefficient k of an OBS block, words from c (R233). -/
def State.obsCoef (s : State) (n c k : Nat) : Int := half (s.coefWord n (c + 1 + k / 2)) (k % 2 == 1)

/-- The new estimates of an OBS block, one by one. -/
def State.obsNext (s : State) (n c ord : Nat) (ea : Int) (xh : List Int) (u r : Int) : List Nat → JM (List Int)
  | [] => return []
  | i :: t => do
    let acc ← macSum 0 (((List.range ord).map (fun j => (s.obsCoef n c (8 * i + j), xh.getD j 0))) ++
      [(s.obsCoef n c (64 + i), u), (s.obsCoef n c (72 + i), r)])
    let v ← reduce acc (24 - ea) 24
    return v :: (← s.obsNext n c ord ea xh u r t)

/-- OBS (R233). -/
def State.blkObs (s : State) (n : Nat) (b : BlockE) : JM Unit := do
  let u ← sigGet b.inS
  let y ← sigGet b.auxS
  let c0 := s.coefWord n b.coef
  let ord := bitsOf c0 0 4
  let ea : Int := (bitsOf c0 4 2 : Nat)
  let xh := (List.range 8).map (fun j => half (s.stWord n (b.st + j / 2)) (j % 2 == 1))
  let acc ← macSum 0 ((List.range ord).map (fun j => (s.obsCoef n b.coef (80 + j), xh.getD j 0)))
  let yh ← reduce acc (24 - ea) 24
  let r ← sat24 (y - yh)
  let xn ← s.obsNext n b.coef ord ea xh u r (List.range ord)
  let acc ← macSum 0 ((List.range ord).map (fun j => (s.obsCoef n b.coef (88 + j), xn.getD j 0)))
  let out ← reduce acc (24 - ea) 24
  stPut b.st (halves (xn.getD 0 0) (xn.getD 1 0))
  stPut (b.st + 1) (halves (xn.getD 2 0) (xn.getD 3 0))
  stPut (b.st + 2) (halves (xn.getD 4 0) (xn.getD 5 0))
  stPut (b.st + 3) (halves (xn.getD 6 0) (xn.getD 7 0))
  sigSet b.outS out

/-- The blocks that write 0 and hold their state at zero in READY and FAULTED (R235). -/
def zeroedBlock (type : Nat) : Bool := [1, 2, 4, 8, 9, 10, 11].contains type

/-- A zeroed block's state words. -/
def zeroWords : List Nat → JM Unit
  | [] => return ()
  | w :: t => do stPut w 0; zeroWords t

/-- One block of the cycle task, or of the current-loop task ahead of FOC (R220, R228). -/
def State.runBlock (s : State) (n : Nat) (wi : WideIn) (zero : Bool) (b : BlockE) : JM Unit := do
  let k := s.coefWord n b.coef
  if zero && zeroedBlock b.type then
    sigSet b.outS 0
    zeroWords ((List.range (blockLib b.type).2.1).map (fun i => b.st + i))
  else match b.type with
    | 1 => do
      let e ← reduce (padd wi.pset (-wi.pact)) (bitsOf k 32 5 : Nat) 24
      sigSet b.outS (← gainOp k e)
    | 2 => do
      let x ← sigGet b.inS
      let g ← gainOp k (← reduce wi.vset (bitsOf k 32 6 : Nat) 24)
      sigSet b.outS (← sat24 (x + g))
    | 3 => do sigSet b.outS (← reduce wi.vact (bitsOf k 32 6 : Nat) 24)
    | 4 => do
      let x ← sigGet b.inS
      let g ← gainOp k (← reduce wi.aset (bitsOf k 32 6 : Nat) 24)
      sigSet b.outS (← sat24 (x + g))
    | 5 => do
      let x ← sigGet b.inS
      sigSet b.outS (← gainOp k x)
    | 6 => do
      let x ← sigGet b.inS
      let y ← sigGet b.auxS
      sigSet b.outS (← sat24 (x + y))
    | 7 => do
      let x ← sigGet b.inS
      let y ← sigGet b.auxS
      sigSet b.outS (← sat24 (x - y))
    | 8 => s.blkPi n wi b
    | 9 => s.blkPid n wi b
    | 10 => s.blkBiquad n b
    | 11 => s.blkLimit n b
    | 12 => s.blkObs n b
    | _ => return ()

/-- The blocks of a task, in list order. -/
def State.runBlocks (s : State) (n : Nat) (wi : WideIn) (zero : Bool) : List BlockE → JM Unit
  | [] => return ()
  | b :: t => do s.runBlock n wi zero b; s.runBlocks n wi zero t

/-- The signals at the start of a task (R220): S14 is S15 as last committed, S1 is the current reference of the
current-loop task. -/
def State.sigStart (s : State) (n : Nat) (s1 : Int) : List Int :=
  ((List.replicate 16 (0 : Int)).set 14 (half (s.stWord n 7) true)).set 1 s1

/-- The fixed state words 0 to 7 that record a list of signals (R225). -/
def sigWords (l : List Int) : List (Nat × Nat) :=
  (List.range 8).map (fun w => (w, halves (l.getD (2 * w) 0) (l.getD (2 * w + 1) 0)))

/-- The cycle task of axis n: its final JT, with the signals among the words to write. -/
def State.cycleTask (s : State) (n : Nat) (wi : WideIn) (zero : Bool) : JT :=
  let r := (s.runBlocks n wi zero (taskBlocks (s.blockList n) false)).run { sig := s.sigStart n 0 }
  { r.2 with writes := r.2.writes ++ sigWords r.2.sig }

/-! ### The current loop (R237) -/

/-- What a current-loop execution produces. -/
structure FocOut where
  id : Int
  iq : Int
  vd : Int
  vq : Int
  theta : Nat
  vlim : Bool
  dutyA : Int
  dutyB : Int
  dutyC : Int
  deriving DecidableEq, Repr

/-- One current PI of FOC (R237, R234): its output and new integrator (DEDUCED, log entry 19). -/
def focPi (kp ki lim : Nat) (i ref meas dirV : Int) : JM (Int × Int) := do
  let e ← sat24 (ref - meas)
  let p ← gainOp kp e
  piCore e p i ki (half lim false) (half lim true) dirV none

/-- The duty of one phase (R237) (DEDUCED, log entry 28). -/
def dutyOf (v vo : Int) : JM Int := do
  let q ← reduce (2 ^ 46 + 2 * 0x49E69D * v + 2 * 0x49E69D * vo) 24 24
  return clampI q 0 0x7FFFFF

/-- The sign of an integer (DEDUCED, log entry 20). -/
def sgnDir (x : Int) : Int := if x > 0 then 1 else if x < 0 then -1 else 0

/-- FOC (R237): words from c, state words from w. SATDIR records the sign of each PI's output, the previous-output
sign that the voltage limit's hold asks for (log entry 20). -/
def State.blkFoc (s : State) (n : Nat) (b : BlockE) (rawA rawB : Int) (thetaM : Nat) : JM FocOut := do
  let w0 := s.coefWord n b.coef
  let ks := s.coefWord n (b.coef + 1)
  let offs := s.coefWord n (b.coef + 2)
  let w9 := s.coefWord n (b.coef + 9)
  let prev := s.stWord n (b.st + 2)
  let ref ← sigGet b.inS
  let theta : Nat := (bitsOf w0 0 6 * thetaM + bitsOf w0 24 24) % 2 ^ 24
  let ia ← gainOp ks (← sat24 (rawA - half offs false))
  let ib ← gainOp ks (← sat24 (rawB - half offs true))
  let c3 : Int := 0x49E69D
  let ibeta ← reduce (2 * c3 * ia + 2 * c3 * ib + 2 * c3 * ib) 24 24
  let dq ← cordic true ia ibeta (sgn 24 (uns 24 (-(theta : Int))))
  let pv := bitOf prev 4
  let d ← focPi (s.coefWord n (b.coef + 3)) (s.coefWord n (b.coef + 4)) (s.coefWord n (b.coef + 5))
    (sgn 48 (s.stWord n b.st)) (half w9 true) dq.1 (if pv then satdirOf (bitsOf prev 0 2) else 0)
  let q ← focPi (s.coefWord n (b.coef + 6)) (s.coefWord n (b.coef + 7)) (s.coefWord n (b.coef + 8))
    (sgn 48 (s.stWord n (b.st + 1))) ref dq.2.1 (if pv then satdirOf (bitsOf prev 2 2) else 0)
  let vmax := half w9 false
  let m ← cordic false d.1 q.1 0
  let vlim := decide (m.1 > vmax)
  let v : Int × Int ← if vlim then do
      let k ← jetDiv (vmax * 2 ^ 23) m.1
      let vd ← reduce (2 * k * d.1) 24 24
      let vq ← reduce (2 * k * q.1) 24 24
      pure (vd, vq)
    else pure (d.1, q.1)
  let ab ← cordic true v.1 v.2 (sgn 24 theta)
  let s3 : Int := 0x6ED9EC
  let vb ← reduce (-(2 * 0x400000 * ab.1) + 2 * s3 * ab.2.1) 24 24
  let vc ← reduce (-(2 * 0x400000 * ab.1) - 2 * s3 * ab.2.1) 24 24
  let vo ← reduce (-(max (max ab.1 vb) vc + min (min ab.1 vb) vc)) 1 24
  let da ← dutyOf ab.1 vo
  let db ← dutyOf vb vo
  let dc ← dutyOf vc vo
  stPut b.st (uns 48 d.2)
  stPut (b.st + 1) (uns 48 q.2)
  stPut (b.st + 2) (satdirCode (sgnDir d.1) + 4 * satdirCode (sgnDir q.1) + 16 * b2n vlim)
  return ⟨dq.1, dq.2.1, v.1, v.2, theta, vlim, da, db, dc⟩

/-- The current-loop task of axis n: the blocks ahead of FOC, then FOC (R239); a PI or PID among them adjusts at the first execution
after a swap (R243). -/
def State.currentLoop (s : State) (n : Nat) (s1 rawA rawB : Int) (thetaM : Nat) (swapped : Bool) : Option (FocOut × JT) :=
  let l := taskBlocks (s.blockList n) true
  match l.find? (fun e => e.type == 13) with
  | none => none
  | some f =>
    let wi : WideIn := ⟨0, 0, 0, 0, 0, swapped⟩
    some (((do s.runBlocks n wi false (l.filter (fun e => e.type != 13)); s.blkFoc n f rawA rawB thetaM) : JM FocOut).run
      { sig := s.sigStart n s1 })

/-! ### Coefficient ranges (R226, R227) -/

/-- A number brought into a range. -/
def nearest (lo hi x : Nat) : Nat := if x < lo then lo else if hi < x then hi else x

/-- A signed exponent of 6 bits brought into a range. -/
def nearestE (lo hi : Int) (w : Nat) : Nat :=
  putBits w 24 6 (uns 6 (clampI (sgn 6 (bitsOf w 24 6)) lo hi))

/-- A 24-bit field that is 0 to 0x7F_FFFF brought into range: a negative value becomes 0. -/
def nearestPos (lo w : Nat) : Nat := if bitOf w (lo + 23) then putBits w lo 24 0 else w

/-- The coefficient words of a block brought into range, by word index within the block. The list is the same axis's
list, for LINK (DEDUCED, log entry 18). -/
def fixCoef (l : List BlockE) (b : BlockE) (i w : Nat) : Nat :=
  let linkFix := fun w => let k := bitsOf w 32 7
    if k = 0 || l.any (fun e => e.type == 11 && e.cl == b.cl && e.st == k) then w else putBits w 32 7 0
  let esh := fun w => putBits w 32 5 (nearest 0 24 (bitsOf w 32 5))
  let vsh := fun w => putBits w 32 6 (nearest 0 47 (bitsOf w 32 6))
  match b.type, i with
  | 1, _ => esh (nearestE (-23) 23 w)
  | 2, _ => vsh (nearestE (-23) 23 w)
  | 3, _ => vsh w
  | 4, _ => vsh (nearestE (-23) 23 w)
  | 5, _ => nearestE (-23) 23 w
  | 8, 0 => nearestE (-23) 23 w
  | 8, 1 => linkFix (nearestE (-32) 8 w)
  | 9, 0 => nearestE (-23) 23 w
  | 9, 1 => linkFix (nearestE (-32) 8 w)
  | 9, 3 => nearestE (-23) 23 w
  | 9, 4 => nearestPos 0 w
  | 11, 1 => nearestPos 0 w
  | 12, 0 => putBits w 0 4 (nearest 1 8 (bitsOf w 0 4))
  | 13, 0 => putBits w 0 6 (nearest 1 63 (bitsOf w 0 6))
  | 13, 1 => nearestE (-23) 23 w
  | 13, 3 => nearestE (-23) 23 w
  | 13, 4 => nearestE (-32) 8 w
  | 13, 6 => nearestE (-23) 23 w
  | 13, 7 => nearestE (-32) 8 w
  | 13, 9 => nearestPos 0 w
  | _, _ => w

/-- Sticky flags [3:0] of CS_FLAGS are set; EV_SAT raises the axis's flag when one goes from 0 to 1. -/
def State.setCsFlags (s : State) (n bits : Nat) : State :=
  let old := (s.reg (.axsCsFlags n)).toNat % 16
  let new := Nat.lor old bits
  (s.setReg (.axsCsFlags n) (BitVec.ofNat 48 (putBits (s.reg (.axsCsFlags n)).toNat 0 4 new))).raiseIf
    (new != old && s.flag (.axsCsFlags n) fAxsCsFlags_EV_SAT) n

/-- Every coefficient word of axis n brought into range; CS_FLAGS.COEF_RANGE tells of a change (R227)
(DEDUCED, log entry 18). -/
def State.fixCoefs (s : State) (n : Nat) : State :=
  let l := s.blockList n
  let words := (l.map (fun b => (List.range (blockLib b.type).1).map (fun i => (b, i)))).flatten
  words.foldl (fun s p =>
    let w := s.coefWord n (p.1.coef + p.2)
    let v := fixCoef l p.1 p.2 w
    if v = w then s else (s.store (liveBank n + 8 * (p.1.coef + p.2)) 8 v).setCsFlags n 8) s

end Sys2Proof.Machine
end

