-- ==== Sys2Proof/Machine/PwmOps.lean ====
section
/-! DEFINITION. PWM generation and the gate guard (11_pwm_guard.md, R356 to R396): channels, groups, trips, current
inputs. -/
namespace Sys2Proof.Machine

/-! ### Groups -/

def sgOFF : Nat := 0
def sgPRECHARGE : Nat := 1
def sgRUN : Nat := 2
def sgSHUTDOWN : Nat := 3
def sgRESTARTING : Nat := 4
def sgTRIPPED : Nat := 5

/-- STATE of stage group g (R375). -/
def State.sgState (s : State) (g : Nat) : Nat := s.fld (.sgStat g) fSgStat_STATE

/-- The group of channel n, 15 for none (DEDUCED, log entry 30). -/
def State.tcGroup (s : State) (n : Nat) : Nat := s.fld (.tcCfg n) fTcCfg_GROUP

/-- The half-bridges of group g, lowest number first (R357). -/
def State.sgHalf (s : State) (g : Nat) : List Nat := (List.range 36).filter (fun h => s.tcGroup h == g)

/-- All channels of group g, auxiliary ones included. -/
def State.sgChannels (s : State) (g : Nat) : List Nat := (List.range 48).filter (fun n => s.tcGroup n == g)

/-- The owner axis of group g (R358). -/
def State.sgOwner (s : State) (g : Nat) : Option Nat :=
  let o := s.fld (.sgCfg g) fSgCfg_OWNER
  if o < 192 then some o else none

/-- The owner is ENABLED, MOVING or STOPPING, or there is none; in a drive the command last applied also enables it
(R419, R422). -/
def State.sgOwnerOn (s : State) (g : Nat) : Bool :=
  match s.sgOwner g with
  | none => true
  | some n => s.driven n && (!s.isDrive || (s.axis n).cmdEn)

/-- The Oasis gate of group g is forced: its zone is in STO or lockout (R384). -/
def State.sgSto (s : State) (g : Nat) : Bool :=
  let z := s.fld (.sgCfg g) fSgCfg_ZONE
  decide (s.fld (.zoneStat z) fZoneStat_ZSTATE ≤ 1)

/-- A comparator of group g is in its self-test, which holds the pins low (R396). -/
def State.sgTests (s : State) (g : Nat) : Bool := (s.sgHalf g).any (fun h => (s.cmp h).test.isSome)

/-- The group drives its half-bridges from the generator (R375, SG[g].STAT.DRIVING). -/
def State.sgDriving (s : State) (g : Nat) : Bool :=
  s.sgState g == sgRUN && s.sgOwnerOn g && !s.sgSto g && !s.power.hbForcedOff && !s.sgTests g

/-! ### Channel commands (R360 to R363) -/

/-- A compare in units of 1/16 tick against 16 × P: 0xFF_FFFF stands for 16 × P, and more is limited to it (R360,
R368). -/
def cmpVal (per a : Nat) : Nat := if a = 0xFFFFFF then 16 * per else min a (16 * per)

/-- A1 of the present period, limited in a refresh period (R371). -/
def State.a1Now (s : State) (n : Nat) : Nat :=
  let h := s.tc n
  let a := cmpVal h.per h.a1
  let g := s.tcGroup n
  if h.refresh then min a (16 * (h.per - s.fld (.sgCfg g) fSgCfg_T_BOOT - s.fld (.tcCfg n) fTcCfg_DT)) else a

/-- An edge position in units of 2^-k tick, rounded to whole ticks when HR is 0, ties to even (R362); auxiliary channels use whole
ticks only (DESIGN CHOICE, log entry 29). -/
def State.edgeAt (s : State) (n a k : Nat) : Int :=
  if s.flag (.tcCfg n) fTcCfg_HR && n < 36 then (a : Int) else 2 ^ k * shrEven a k

/-- A compare, in units of 1/16 tick. -/
def State.edge16 (s : State) (n a : Nat) : Int := s.edgeAt n a 4

/-- The command of channel n in the tick now: high side and low side (R360). -/
def State.tcCommand (s : State) (n : Nat) : Bool × Bool :=
  let h := s.tc n
  let m := s.fld (.tcCfg n) fTcCfg_MODE
  let t : Int := 16 * ((s.now - h.start : Nat) : Int)
  let a1 := s.a1Now n
  let a2 := cmpVal h.per h.a2
  if m = 0 then
    let x := if n < 36 then decide (t < s.edge16 n a1) else decide (s.edge16 n a1 ≤ t ∧ t < s.edge16 n a2)
    (x, !x)
  else if m = 1 then
    let x := decide (s.edgeAt n (16 * h.per - a1) 5 ≤ 2 * t ∧ 2 * t < s.edgeAt n (16 * h.per + a1) 5)
    (x, !x)
  else if m = 2 then
    let tb := s.fld (.sgCfg (s.tcGroup n)) fSgCfg_T_BOOT
    let a2 := if h.refresh then min a2 (16 * (h.per - tb - s.fld (.tcCfg n) fTcCfg_DT)) else a2
    let low := decide (s.edge16 n (cmpVal h.per h.b1) ≤ t ∧ t < s.edge16 n (cmpVal h.per h.b2)) ||
      (h.refresh && decide (16 * ((h.per - tb : Nat) : Int) ≤ t))
    (decide (s.edge16 n a1 ≤ t ∧ t < s.edge16 n a2), low)
  else (false, false)

/-- The pins of channel n take their levels; a falling edge is stamped, a rising edge opens the blanking window of its
half-bridge (R387), and the low side's conduction is added up (R371). -/
def State.setPins (s : State) (n : Nat) (a b : Bool) : State :=
  let h := s.tc n
  let rise := (a && !h.pinA) || (b && !h.pinB)
  let fmt := s.flag (.tcCfg n) fTcCfg_FMT
  let low := if fmt then b else !a && b
  let g := s.tcGroup n
  let blank := (List.range 12).map (fun i => 36 + i) |>.find? (fun m => s.tcGroup m == g && s.fld (.tcCfg m) fTcCfg_MODE == 3)
  let h' : TcH := { h with
    pinA := a
    pinB := b
    fallA := if h.pinA && !a then s.now else h.fallA
    fallB := if h.pinB && !b then s.now else h.fallB
    lowOn := match h.lowFrom with
      | some t0 => if low then h.lowOn else h.lowOn + (s.now - t0)
      | none => h.lowOn
    lowFrom := if low then (if h.lowFrom.isSome then h.lowFrom else some s.now) else none
    blankTo := if rise then (match blank with
      | some m => s.now + (shrEven (cmpVal (s.tc m).per (s.tc m).a1) 4).toNat
      | none => h.blankTo) else h.blankTo }
  let s := s.setTc n h'
  if low || h.lowFrom.isSome then s.setSg g { s.sg g with lastLow := s.now } else s

/-- Channel n is not driven: its pins are low, and no shoot-through request stands (R375, R381). -/
def State.channelOff (s : State) (n : Nat) : State :=
  if 36 ≤ n then s.setTc n { s.tc n with x := false, pinA := false }
  else
    let g := s.tcGroup n
    let s := if (s.tc n).shoot.isSome then s.setSg g { s.sg g with shootAt := some s.now } else s
    (s.setTc n { s.tc n with shoot := none, hold := false }).setPins n false false

/-- Both pins low in every half-bridge of group g, and its auxiliary channel off. -/
def State.pinsLow (s : State) (g : Nat) : State := s.each (s.sgChannels g) (fun n s => s.channelOff n)

/-- Every HB pin low. -/
def State.allPinsLow (s : State) : State := s.each (List.range 36) (fun n s => s.setPins n false false)

/-- True when a side may rise in this tick (R379, R380): it is high already, or DT has passed since the other side fell, in this tick
where it was still high, and since the guard stopped holding both off. 0 stands for never. -/
def sideMay (up otherUp : Bool) (otherFell shootEnd dt now : Nat) : Bool :=
  let past := fun (t : Nat) => decide (t = 0 ∨ t + dt ≤ now)
  up || ((if otherUp then dt == 0 else past otherFell) && past shootEnd)

/-- The gate guard in HS/LS format (R361, R379, R380, R382): what each side may be, from what is commanded with the
generator's dead time and what the guard keeps. -/
def State.guardHs (s : State) (n : Nat) (cA cB : Bool) : State :=
  let h := s.tc n
  let dt := s.fld (.tcCfg n) fTcCfg_DT
  if cA && cB then
    let s := if h.shoot.isNone then
        (s.setFlag (.tcStat n) fTcStat_SHOOT_THROUGH_REQ true).incSat (.tcStat n) fTcStat_ST_CNT
      else s
    let s := s.setTc n { h with shoot := some (h.shoot.getD s.now), hold := true }
    let s := s.setSg (s.tcGroup n) { s.sg (s.tcGroup n) with shootAt := some s.now }
    s.setPins n false false
  else
    let s := if h.shoot.isSome then s.setSg (s.tcGroup n) { s.sg (s.tcGroup n) with shootAt := some s.now } else s
    let h := if h.hold && (cA || cB) then { h with shoot := none, hold := false, shootEnd := s.now } else { h with shoot := none }
    let s := s.setTc n h
    if h.hold then s.setPins n false false
    else
      let okA := sideMay h.pinA h.pinB h.fallB h.shootEnd dt s.now
      let okB := sideMay h.pinB h.pinA h.fallA h.shootEnd dt s.now
      let ext := (cA && !sideMay h.pinA h.pinB h.fallB 0 dt s.now) || (cB && !sideMay h.pinB h.pinA h.fallA 0 dt s.now)
      let s := if ext then s.setFlag (.tcStat n) fTcStat_DT_EXTEND true else s
      s.setPins n (cA && okA) (cB && okB)

/-- A channel's pins are evaluated in the present tick (R360 to R363, R375, R379): COMPARE_EDGE
(DESIGN CHOICE, log entry 29). -/
def State.compareEdge (s : State) (n : Nat) : State :=
  let g := s.tcGroup n
  if 36 ≤ n && g < 12 && s.sgState g == sgRUN then
    let x := (s.tcCommand n).1
    s.setTc n { s.tc n with x := x, pinA := x }
  else if n < 36 && g < 12 && s.sgDriving g then
    let c := s.tcCommand n
    let h := s.tc n
    let s := if h.x != c.1 then s.setTc n { h with x := c.1, xSince := s.now } else s
    let h := s.tc n
    let m := s.fld (.tcCfg n) fTcCfg_MODE
    let dt := s.fld (.tcCfg n) fTcCfg_DT
    if !s.flag (.tcCfg n) fTcCfg_FMT then s.setPins n c.1 true
    else if m = 2 then s.guardHs n c.1 c.2
    else
      let settled := decide (h.xSince + dt ≤ s.now)
      s.guardHs n (c.1 && settled) (c.2 && settled)
  else if n < 36 && g < 12 && s.sgState g == sgPRECHARGE && !(s.sg g).gap && !s.sgSto g && !s.power.hbForcedOff then
    -- precharge pulse: every low side on (R372)
    s.setPins n false true
  else s.channelOff n

/-- The pins of a whole group are evaluated. -/
def State.groupPins (s : State) (g : Nat) : State := s.each (s.sgChannels g) (fun n s => s.compareEdge n)

/-! ### Shadows (R364 to R369) -/

/-- What a write of PER_SH, CMP_SH, CMP2_SH or TC CTL is refused with (R359): a channel of an owned group. -/
def State.tcRefuse (s : State) (n : Nat) : List Nat := refuseIf (s.flag (.tcCfg n) fTcCfg_OWNED) cACCESS

/-- A period shadow outside 64 to 2^20 is refused. -/
def perRefuse (v : Word48) : List Nat :=
  let p := wordFld v fTcPerSh_PER
  refuseIf (!decide (64 ≤ p ∧ p ≤ 2 ^ 20)) cACCESS

/-- Which shadow a write staged: 0 PER_SH, 1 CMP_SH, 2 CMP2_SH. -/
def State.shadowWritten (s : State) (n which : Nat) : State :=
  let h := s.tc n
  s.setTc n (if which = 0 then { h with perW := some s.now } else if which = 1 then { h with cmpW := some s.now }
    else { h with cmp2W := some s.now })

/-- A commit of channel n (R365): it acts at the first boundary at least 4 ticks later, whatever commits came before it. -/
def State.tcCommit (s : State) (n : Nat) : State :=
  if s.flag (.tcCfg n) fTcCfg_LOAD then s else s.setTc n { s.tc n with commit := (s.tc n).commit ++ [s.now] }

/-- A commit of every channel of group g (R365). -/
def State.sgCommit (s : State) (g : Nat) : State := s.each (s.sgChannels g) (fun n s => s.tcCommit n)

/-- A tick at least 4 fabric ticks ago. -/
def due4 (now : Nat) (t : Option Nat) : Bool :=
  match t with
  | none => false
  | some t => decide (t + 4 ≤ now)

/-- Chosen shadows reach the live registers (R364, R368, R369). -/
def State.transfer (s : State) (n : Nat) (per cmp cmp2 : Bool) : State :=
  let h := s.tc n
  let sp := s.fld (.tcPerSh n) fTcPerSh_PER
  let h' : TcH := { h with
    per := if per then sp else h.per
    a1 := if cmp then s.fld (.tcCmpSh n) fTcCmpSh_A1 else h.a1
    a2 := if cmp then s.fld (.tcCmpSh n) fTcCmpSh_A2 else h.a2
    b1 := if cmp2 then s.fld (.tcCmp2Sh n) fTcCmp2Sh_B1 else h.b1
    b2 := if cmp2 then s.fld (.tcCmp2Sh n) fTcCmp2Sh_B2 else h.b2
    perW := if per then none else h.perW
    cmpW := if cmp then none else h.cmpW
    cmp2W := if cmp2 then none else h.cmp2W
    sincePer := if per then 0 else min 2 (h.sincePer + 1)
    sinceCmp := if cmp || cmp2 then 0 else min 2 (h.sinceCmp + 1) }
  let split := (per && !(cmp || cmp2) && decide (h'.sinceCmp = 1)) || ((cmp || cmp2) && !per && decide (h'.sincePer = 1))
  let s := s.setTc n h'
  let s := if split then s.setFlag (.tcStat n) fTcStat_SPLIT_UPDATE true else s
  let beyond := fun a => decide (a ≠ 0xFFFFFF ∧ 16 * h'.per < a)
  let s := if beyond h'.a1 || beyond h'.a2 || beyond h'.b1 || beyond h'.b2 then s.setFlag (.tcStat n) fTcStat_DUTY_CLAMP true else s
  (s.setFld (.tcLive n) fTcLive_PER h'.per).setFld (.tcLive n) fTcLive_A1 (if h'.a1 = 0xFFFFFF then h'.a1 else cmpVal h'.per h'.a1)

/-- The transfers of a period boundary (R365 to R367). -/
def State.boundaryTransfer (s : State) (n : Nat) : State :=
  let h := s.tc n
  if s.flag (.tcCfg n) fTcCfg_LOAD then
    s.transfer n (due4 s.now h.perW) (due4 s.now h.cmpW) (due4 s.now h.cmp2W)
  else if h.commit.any (fun t => due4 s.now (some t)) then
    (s.setTc n { h with commit := h.commit.filter (fun t => !due4 s.now (some t)) }).transfer n true true true
  else
    let s := if h.commit.isEmpty && (h.perW.isSome || h.cmpW.isSome || h.cmp2W.isSome) then
      s.setFlag (.tcStat n) fTcStat_STALE_SHADOW true else s
    s.transfer n false false false

/-- The bootstrap count at the end of a period (R371). -/
def State.bootCount (s : State) (n : Nat) : State :=
  let g := s.tcGroup n
  let h := s.tc n
  let on := h.lowOn + (match h.lowFrom with
    | some t0 => s.now - t0
    | none => 0)
  let h := { h with lowOn := 0, lowFrom := h.lowFrom.map (fun _ => s.now) }
  if !s.flag (.sgCfg g) fSgCfg_BOOT_EN || 36 ≤ n then s.setTc n { h with refresh := false }
  else
    let short := if on < s.fld (.sgCfg g) fSgCfg_T_BOOT then h.short + 1 else 0
    if s.fld (.sgCfg g) fSgCfg_BOOT_N ≤ short + 1 then
      (s.setTc n { h with short := 0, refresh := true }).incWrap (.tcStat n) fTcStat_BOOT_CNT
    else s.setTc n { h with short := short, refresh := false }

/-- τ becomes 0 for channel n now: a period boundary (R364 to R371, R524). -/
def State.periodStart (s : State) (n : Nat) : State :=
  let s := s.bootCount n
  let s := s.setTc n { s.tc n with start := s.now }
  (s.boundaryTransfer n).compareEdge n

/-- True when channel n's period has run out in a group in RUN (DEDUCED, log entry 30). -/
def State.periodEnds (s : State) (n : Nat) : Bool :=
  decide (s.tcGroup n < 12) && s.sgState (s.tcGroup n) == sgRUN && decide ((s.tc n).start + (s.tc n).per ≤ s.now)

/-- The ticks of a window of osr samples of input i. -/
def State.sdTicks (s : State) (i osr : Nat) : Nat := osr * s.fld (.sdclk (s.fld (.sdCfg i) fSdCfg_CLK)) fSdclk_DIV

/-- True when the instant 4 ticks before now lies a multiple of m ticks from τ = SPHASE of group g's present period (R393). -/
def State.atSphase (s : State) (g m : Nat) : Bool :=
  let n := (s.sgHalf g).headD 0
  ((s.now : Int) - 4 - ((s.tc n).start : Int) - (s.fld (.sgCfg2 g) fSgCfg2_SPHASE : Int)) % (m : Int) == 0

/-- The owned group in RUN whose periods the windows of input i are locked to (R393). -/
def State.sdGroup (s : State) (i : Nat) : Option Nat :=
  (List.range 12).find? (fun g => (s.sgOwner g).isSome && s.sgState g == sgRUN && ((s.sg g).sdA == i || (s.sg g).sdB == i))

/-- True when a window of sigma-delta input i, of osr samples, may end now: since a window restart of its clock (R525)
a free-running input must have taken the samples. -/
def State.sdWindowEnds (s : State) (i osr : Nat) : Bool :=
  let r := (s.sd i).restart
  r == 0 || decide (r + s.sdTicks i osr ≤ s.now)

/-- True when a sinc3 window of input i ends 4 ticks before now: one of an owned group's inputs ends its windows so that one of them
ends at τ = SPHASE of every period (R393). -/
def State.sinc3Ends (s : State) (i : Nat) : Bool :=
  let osr := s.fld (.sdCfg i) fSdCfg_OSR3
  match s.sdGroup i with
  | some g => s.atSphase g (s.sdTicks i osr)
  | none => s.sdWindowEnds i osr

/-- True when input i is locked to the periods of an owned group (R393). -/
def State.sdLocked (s : State) (i : Nat) : Bool :=
  (List.range 12).any (fun g => (s.sgOwner g).isSome && ((s.sg g).sdA == i || (s.sg g).sdB == i))

/-- The free-running inputs of clock m discard their windows in progress and start new ones (R525). -/
def State.sdRestart (s : State) (m : Nat) : State :=
  s.each (List.range 48) (fun i s =>
    if s.fld (.sdCfg i) fSdCfg_CLK == m && !s.sdLocked i then s.setSd i { s.sd i with restart := s.now } else s)

/-! ### Group sequence (R372 to R378) -/

/-- PRE_ON of group g in ticks: units of 10 µs. -/
def State.preOn (s : State) (g : Nat) : Nat := s.fld (.sgCfg g) fSgCfg_PRE_ON * 10 * usTicks
/-- PRE_GAP of group g in ticks. -/
def State.preGap (s : State) (g : Nat) : Nat := s.fld (.sgCfg2 g) fSgCfg2_PRE_GAP * usTicks

/-- The group takes a state. -/
def State.setSgState (s : State) (g st : Nat) : State :=
  (s.setFld (.sgStat g) fSgStat_STATE st).setSg g { s.sg g with since := s.now, gap := false }

/-- PRECHARGED clears. -/
def State.unprecharge (s : State) (g : Nat) : State := s.setFlag (.sgStat g) fSgStat_PRECHARGED false

/-- The group enters RUN: every channel starts its period in this tick, and committed shadows transfer (R363). -/
def State.sgEnterRun (s : State) (g : Nat) : State :=
  let s := (s.setSgState g sgRUN).setFlag (.sgStat g) fSgStat_PRECHARGED true
  let s := s.setSg g { s.sg g with lastLow := s.now }
  let s := s.each (s.sgChannels g) (fun n s =>
    (s.setTc n { s.tc n with start := s.now, x := false, xSince := s.now }).boundaryTransfer n)
  s.groupPins g

/-- The group enters PRECHARGE; with PRE_ON = 0 the sequence takes no time (R372). -/
def State.sgEnterPrecharge (s : State) (g : Nat) : State :=
  if s.fld (.sgCfg g) fSgCfg_PRE_ON = 0 then s.sgEnterRun g
  else (s.setSgState g sgPRECHARGE).groupPins g

/-- What a write of EN is refused with (R377). -/
def State.enRefuse (s : State) (ag g : Nat) (en : Bool) : List Nat :=
  refuseIf (!(decide (1 ≤ ag ∧ ag ≤ 10) || ag == 16)) cACCESS ++
  refuseIf (!en && (match s.sgOwner g with
    | none => false
    | some n => s.driven n)) cLOCKED

/-- A write of EN = 1 (R376, R377). -/
def State.sgEnable (s : State) (g : Nat) : State :=
  let s := s.setFlag (.sgCtl g) fSgCtl_EN true
  let st := s.sgState g
  if st = sgOFF then
    if s.flag (.sgStat g) fSgStat_TRIP then s.setSgState g sgTRIPPED else s.sgEnterPrecharge g
  else if st = sgSHUTDOWN then
    (s.setFld (.sgStat g) fSgStat_STATE sgRESTARTING).setFlag (.sgStat g) fSgStat_RESTART_PENDING true
  else s

/-- A write of EN = 0 (R376, R377). -/
def State.sgDisable (s : State) (g : Nat) : State :=
  let s := s.setFlag (.sgCtl g) fSgCtl_EN false
  let st := s.sgState g
  if st = sgPRECHARGE || st = sgRUN then ((s.setSgState g sgSHUTDOWN).unprecharge g).pinsLow g
  else if st = sgRESTARTING then
    (s.setFld (.sgStat g) fSgStat_STATE sgSHUTDOWN).setFlag (.sgStat g) fSgStat_RESTART_PENDING false
  else if st = sgTRIPPED then s.setSgState g sgOFF
  else s

/-- SHUTDOWN or RESTARTING has lasted 2 µs (R376). -/
def State.sgShutdownEnds (s : State) (g : Nat) : Bool :=
  (s.sgState g == sgSHUTDOWN || s.sgState g == sgRESTARTING) && decide ((s.sg g).since + 2 * usTicks ≤ s.now)

/-- The end of SHUTDOWN (R376): period counters and the flags of the shadows clear; the shadows and their commits wait on for the
first boundary in RUN (R370) (DEDUCED, log entry 30). -/
def State.sgShutdownEnd (s : State) (g : Nat) : State :=
  let s := s.each (s.sgChannels g) (fun n s =>
    let s := s.setTc n { s.tc n with start := s.now, short := 0, refresh := false, sincePer := 2, sinceCmp := 2 }
    (s.setFlag (.tcStat n) fTcStat_STALE_SHADOW false).setFlag (.tcStat n) fTcStat_SPLIT_UPDATE false)
  if s.sgState g = sgRESTARTING then
    (s.setFlag (.sgStat g) fSgStat_RESTART_PENDING false).sgEnterPrecharge g
  else s.setSgState g sgOFF

/-- What SG[g].CTL.PRECHARGE = 1 is refused with (R373). -/
def State.prechargeRefuse (s : State) (g : Nat) : List Nat := refuseIf (s.sgDriving g) cLOCKED

/-- SG[g].CTL.PRECHARGE = 1 in RUN (R373): PRECHARGED clears as the group leaves RUN. -/
def State.sgPrecharge (s : State) (g : Nat) : State :=
  if s.sgState g = sgRUN then (s.unprecharge g).sgEnterPrecharge g else s

/-- True when the PRE_ON interval has ended. -/
def State.preOnEnds (s : State) (g : Nat) : Bool :=
  s.sgState g == sgPRECHARGE && !(s.sg g).gap && decide ((s.sg g).since + s.preOn g ≤ s.now)

/-- The PRE_ON interval ends: every pin low for PRE_GAP (R372). -/
def State.preOnEnd (s : State) (g : Nat) : State := (s.setSg g { s.sg g with gap := true }).pinsLow g

/-- True when PRE_GAP has ended. -/
def State.preDone (s : State) (g : Nat) : Bool :=
  s.sgState g == sgPRECHARGE && (s.sg g).gap && decide ((s.sg g).since + s.preOn g + s.preGap g ≤ s.now)

/-- True when PRECHARGED expires (R373). -/
def State.preExpires (s : State) (g : Nat) : Bool :=
  let v := s.fld (.sgCfg2 g) fSgCfg2_PRE_VALID
  v != 0 && s.flag (.sgStat g) fSgStat_PRECHARGED && (s.sgHalf g).all (fun h => (s.tc h).lowFrom.isNone) && decide ((s.sg g).lastLow + v * 1000 * usTicks ≤ s.now)

/-! ### Trips (R385 to R390) -/

/-- The index of half-bridge h within its group. -/
def State.hbIndex (s : State) (h : Nat) : Nat := (s.sgHalf (s.tcGroup h)).findIdx (fun x => x == h)

/-- The sigma-delta inputs of group g with overcurrent detection, lowest number first. -/
def State.ocInputs (s : State) (g : Nat) : List Nat :=
  (List.range 48).filter (fun i => s.fld (.sdCfg i) fSdCfg_GROUP == g && s.flag (.sdCfg i) fSdCfg_OC_EN)

/-- The trip sources of group g whose condition is present now, as a bit set (trip-source table). -/
def State.tripSources (s : State) (g : Nat) : Nat :=
  let hb := (s.sgHalf g).foldl (fun m h =>
    let k := s.hbIndex h
    let m := if s.flag (.cmpStat h) fCmpStat_QUAL_FAST && s.flag (.cmpCfg h) fCmpCfg_FAST_EN then Nat.lor m (2 ^ k) else m
    if s.flag (.cmpStat h) fCmpStat_RAW_HARD && s.flag (.cmpCfg h) fCmpCfg_HARD_EN then Nat.lor m (2 ^ (6 + k)) else m) 0
  let oc := ((s.ocInputs g).take 6).zipIdx.foldl (fun m p =>
    if s.flag (.sdStat p.1) fSdStat_OC then Nat.lor m (2 ^ (12 + p.2)) else m) 0
  let sh := if (s.sgHalf g).any (fun n => match (s.tc n).shoot with
      | some t => decide (t + 500 ≤ s.now)
      | none => false) then 2 ^ 18 else 0
  let st := if (s.sg g).selfFail then 2 ^ 19 else 0
  hb + oc + sh + st

/-- MULTI is set when the snapshot holds more than one source (R389). -/
def State.showMulti (s : State) (g : Nat) : State :=
  let snap := s.fld (.sgTripSnap g) fSgTripSnap_SNAP
  s.setFlag (.sgStat g) fSgStat_MULTI (decide (2 ≤ ((List.range 20).filter (fun i => bitOf snap i)).length))

/-- The snapshot takes the sources present while it is open: to 64 ticks after the trip (R389). -/
def State.snapshot (s : State) (g : Nat) : State :=
  match (s.sg g).tripAt with
  | none => s
  | some t =>
    if s.now ≤ t + 64 then
      (s.setFld (.sgTripSnap g) fSgTripSnap_SNAP
        (Nat.lor (s.fld (.sgTripSnap g) fSgTripSnap_SNAP) (s.tripSources g))).showMulti g
    else s

/-- True when a half-bridge of the group is inside a dead-time interval. -/
def State.inDeadTime (s : State) (g : Nat) : Bool :=
  (s.sgHalf g).any (fun n =>
    let h := s.tc n
    let dt := s.fld (.tcCfg n) fTcCfg_DT
    dt != 0 && s.flag (.tcCfg n) fTcCfg_FMT && !h.pinA && !h.pinB && s.sgDriving g && decide (s.now < max h.fallA h.fallB + dt))

/-- Source src of group g trips (R388, R389): a second source in the trip tick makes FIRST SIMULTANEOUS. -/
def State.trip (s : State) (g src : Nat) : State :=
  if s.flag (.sgStat g) fSgStat_TRIP then
    let s := if (s.sg g).tripAt = some s.now && s.fld (.sgTripSnap g) fSgTripSnap_FIRST != src then
      s.setFld (.sgTripSnap g) fSgTripSnap_FIRST 30 else s
    s.snapshot g
  else
    let s := if s.inDeadTime g then s.setFlag (.sgStat g) fSgStat_TRIP_IN_DT true else s
    let present := Nat.lor (s.tripSources g) (2 ^ src)
    let s := s.pinsLow g
    let s := (s.setFlag (.sgStat g) fSgStat_TRIP true).unprecharge g
    let s := (s.setSgState g sgTRIPPED).setFlag (.sgStat g) fSgStat_RESTART_PENDING false
    let s := s.incSat (.sgStat g) fSgStat_TRIP_CNT
    let s := s.setSg g { s.sg g with tripAt := some s.now }
    let s := (s.setRegN (.sgTripSnap g) (present + 2 ^ 20 * src)).setReg (.sgTripTime g) s.t48
    let s := s.showMulti g
    let s := match s.sgOwner g with
      | none => s
      | some n => s.detect n 9
    s.raiseIf (s.flag (.sgCtl g) fSgCtl_EV_TRIP) 345

/-- The snapshot closes 64 ticks after the trip (R389). -/
def State.snapCloses (s : State) (g : Nat) : Bool :=
  match (s.sg g).tripAt with
  | none => false
  | some t => decide (t + 64 ≤ s.now)

/-- The snapshot is closed. -/
def State.snapClose (s : State) (g : Nat) : State := (s.showMulti g).setSg g { s.sg g with tripAt := none }

/-- A HARD comparator output changes (R385) (DESIGN CHOICE, log entry 31). -/
def State.hardChange (s : State) (h : Nat) (on : Bool) : State :=
  let g := s.tcGroup h
  let s := s.setFlag (.cmpStat h) fCmpStat_RAW_HARD on
  let s := if on || s.flag (.cmpStat h) fCmpStat_RAW_FAST then s else s.setCmp h { s.cmp h with inact := s.now }
  let s := if g < 12 then s.snapshot g else s
  if on && g < 12 && s.flag (.cmpCfg h) fCmpCfg_HARD_EN then s.trip g (6 + s.hbIndex h) else s

/-- A FAST condition becomes qualified, or ends (R386) (DESIGN CHOICE, log entry 31). -/
def State.fastChange (s : State) (h : Nat) (on : Bool) : State :=
  let g := s.tcGroup h
  let s := (s.setFlag (.cmpStat h) fCmpStat_RAW_FAST on).setFlag (.cmpStat h) fCmpStat_QUAL_FAST on
  let s := if on || s.flag (.cmpStat h) fCmpStat_RAW_HARD then s else s.setCmp h { s.cmp h with inact := s.now }
  if g < 12 then s.snapshot g else s

/-- True when half-bridge h trips on FAST now: qualified and its blanking window closed (R386, R387). -/
def State.fastTrips (s : State) (h : Nat) : Bool :=
  decide (s.tcGroup h < 12) && s.flag (.cmpCfg h) fCmpCfg_FAST_EN && s.flag (.cmpStat h) fCmpStat_QUAL_FAST &&
    decide ((s.tc h).blankTo ≤ s.now)

/-- A FAST trip (R386). -/
def State.fastTrip (s : State) (h : Nat) : State := s.trip (s.tcGroup h) (s.hbIndex h)

/-- True when a shoot-through request of channel n has persisted for 500 ticks (R381). -/
def State.shootTrips (s : State) (n : Nat) : Bool :=
  decide (s.tcGroup n < 12) && (match (s.tc n).shoot with
    | some t => decide (t + 500 ≤ s.now)
    | none => false)

/-- True when every trip source of group g has been inactive for its filter time (R390). -/
def State.tripClearable (s : State) (g : Nat) : Bool :=
  (s.sgHalf g).all (fun h =>
    let used := s.flag (.cmpCfg h) fCmpCfg_FAST_EN || s.flag (.cmpCfg h) fCmpCfg_HARD_EN
    !used || (!s.flag (.cmpStat h) fCmpStat_RAW_FAST && !s.flag (.cmpStat h) fCmpStat_RAW_HARD &&
      decide ((s.cmp h).inact + s.fld (.cmpCfg h) fCmpCfg_CF * usTicks ≤ s.now))) &&
  (s.ocInputs g).all (fun i => !s.flag (.sdStat i) fSdStat_OC &&
    decide ((s.sd i).inact + s.fld (.sdCfg i) fSdCfg_CF * usTicks ≤ s.now)) &&
  (s.sgHalf g).all (fun h => (s.tc h).shoot.isNone) &&
  (match (s.sg g).shootAt with
   | none => true
   | some t => decide (t + usTicks ≤ s.now)) &&
  !(s.sg g).selfFail

/-- What TRIP_CLR = 1 is refused with (R390). -/
def State.tripClrRefuse (s : State) (g : Nat) : List Nat := refuseIf (!s.tripClearable g) cACTIVE

/-- An accepted TRIP_CLR (R390). -/
def State.tripClr (s : State) (g : Nat) : State :=
  if s.flag (.sgStat g) fSgStat_TRIP then
    let s := s.setFlag (.sgStat g) fSgStat_TRIP false
    if s.sgState g = sgTRIPPED then
      if s.flag (.sgCtl g) fSgCtl_EN then s.sgEnterPrecharge g else s.setSgState g sgOFF
    else s
  else s

/-! ### Comparator self-test (R396) -/

/-- What ST_CMD = 1 is refused with. -/
def State.stRefuse (s : State) (h : Nat) : List Nat :=
  refuseIf (decide (s.tcGroup h < 12) && s.sgDriving (s.tcGroup h)) cLOCKED

/-- ST_CMD = 1. -/
def State.stStart (s : State) (h : Nat) : State :=
  (s.setCmp h { s.cmp h with test := some s.now }).setFlag (.cmpStat h) fCmpStat_ST_BUSY true

/-- A self-test of group g's comparator h has ended (R390, R396): a failure trips the group, and its source lasts until every
comparator of the group has passed a later one. -/
def State.stJudged (s : State) (g h : Nat) (pass : Bool) : State :=
  if pass then
    let l := h :: (s.sg g).stOk
    if (s.sgHalf g).all (fun x => l.contains x) then s.setSg g { s.sg g with selfFail := false, stOk := [] }
    else s.setSg g { s.sg g with stOk := if (s.sg g).selfFail then l.eraseDups else [] }
  else (s.setSg g { s.sg g with selfFail := true, stOk := [] }).trip g 19

/-- A comparator self-test ends. -/
def State.stEnd (s : State) (h : Nat) (pass : Bool) : State :=
  let g := s.tcGroup h
  let s := s.setCmp h { s.cmp h with test := none }
  let s := (((s.setFlag (.cmpStat h) fCmpStat_ST_BUSY false).setFlag (.cmpStat h) fCmpStat_ST_PASS pass).setFlag
    (.cmpStat h) fCmpStat_ST_FAIL (!pass)).incWrap (.cmpStat h) fCmpStat_ST_CNT
  if g < 12 then s.stJudged g h pass else s

/-! ### Sigma-delta inputs (R391 to R395) -/

/-- ceil(3 × log2(n)) for n from 1 to 256: the least k with n^3 ≤ 2^k. -/
def ceilLog3 (n : Nat) : Nat := ((List.range 25).find? (fun k => decide (n ^ 3 ≤ 2 ^ k))).getD 24

/-- A sinc3 result from the sum S of its window (R392): reduce(S, ceil(3 log2 OSR3) − 23, 24). -/
def State.sincResult (s : State) (i : Nat) (sum : Int) : Int :=
  satS 24 (reduceRound sum ((ceilLog3 (s.fld (.sdCfg i) fSdCfg_OSR3) : Int) - 23))

/-- The current-loop task of axis n is released when both results of the period have come (R238, R240). -/
def State.clRelease (s : State) (g n : Nat) : State :=
  match (s.sg g).gotA, (s.sg g).gotB with
  | some a, some b =>
    let s := s.setSg g { s.sg g with gotA := none, gotB := none }
    if s.driven n && (s.job n).cl == 0 && s.clCost n != 0 then
      let i := (s.sg g).sdA
      let back := 3 * s.fld (.sdCfg i) fSdCfg_OSR3 * s.fld (.sdclk (s.fld (.sdCfg i) fSdCfg_CLK)) fSdclk_DIV / 2 + 4
      let th := s.thetaOf n (s.localCh n) (s.now - back)
      let s := s.setJob n { s.job n with cl := 1, rawA := a, rawB := b, thetaM := th, clRef := (s.job n).refNow }
      s.arbAdd 0 { r := n, arrival := s.now + 1, tick := s.now + 1, cost := s.clCost n, tag := 1 }
    else s
  | _, _ => s

/-- A sinc3 window of input i ends with sum S (R392, R393); the result is available 4 ticks after the window's end, the
tick of this event (DESIGN CHOICE, log entry 31). Only the window that ends at SPHASE feeds the current loop. -/
def State.sinc3 (s : State) (i : Nat) (sum : Int) : State :=
  let r := s.sincResult i sum
  let s := s.setFld (.sdVal i) fSdVal_SINC3 (uns 24 r)
  s.each (List.range 12) (fun g s =>
    match s.sgOwner g with
    | none => s
    | some n =>
      if !s.atSphase g (s.tc ((s.sgHalf g).headD 0)).per then s else
      let s := if (s.sg g).sdA = i then s.setSg g { s.sg g with gotA := some r } else s
      let s := if (s.sg g).sdB = i then s.setSg g { s.sg g with gotB := some r } else s
      if (s.sg g).sdA = i || (s.sg g).sdB = i then s.clRelease g n else s)

/-- A sinc2 window of input i ends with sum S2 (R394) (DESIGN CHOICE, log entry 31). -/
def State.sinc2 (s : State) (i : Nat) (sum : Int) : State :=
  let s := s.setFld (.sdVal i) fSdVal_SINC2 (uns 12 sum)
  let g := s.fld (.sdCfg i) fSdCfg_GROUP
  let beyond := decide (s.fld (.sdCfg i) fSdCfg_OC_THR < sum.natAbs)
  let run := if beyond then (s.sd i).run + 1 else 0
  let oc := s.flag (.sdCfg i) fSdCfg_OC_EN && decide (s.fld (.sdCfg i) fSdCfg_OC_CNT + 1 ≤ run)
  let was := s.flag (.sdStat i) fSdStat_OC
  let s := s.setSd i { s.sd i with run := run, inact := if was && !oc then s.now else (s.sd i).inact }
  let s := s.setFlag (.sdStat i) fSdStat_OC oc
  if g < 12 then
    let s := s.snapshot g
    if oc && !was then s.trip g (12 + (s.ocInputs g).findIdx (fun x => x == i)) else s
  else s

/-- Data unchanged for 256 modulator clocks (R395). -/
def State.sdStuck (s : State) (i : Nat) : State :=
  let s := s.setFlag (.sdStat i) fSdStat_STUCK true
  s.raiseIf (s.flag (.sdStat i) fSdStat_EV_STUCK) 345

/-- TC[n].STAT.CLR. -/
def State.tcCntClr (s : State) (n : Nat) : State :=
  (s.setFld (.tcStat n) fTcStat_ST_CNT 0).setFld (.tcStat n) fTcStat_BOOT_CNT 0

/-- The FOC block writes its three duties to CMP_SH of the group and commits it (R358, R370): a duty d in Q1.23 is the
compare d × 16 × P / 2^23, rounded to nearest with ties to even (log entry 28). -/
def State.writeDuties (s : State) (g : Nat) (d : List Int) : State :=
  let s := ((s.sgHalf g).zip d).foldl (fun s p =>
    let per := s.fld (.tcPerSh p.1) fTcPerSh_PER
    let a := min 0xFFFFFF (shrEven (p.2 * (16 * per : Nat)) 23).toNat
    (s.setFld (.tcCmpSh p.1) fTcCmpSh_A1 a).shadowWritten p.1 1) s
  s.sgCommit g

end Sys2Proof.Machine
end

