-- ==== Sys2Proof/Machine/JetOps.lean ====
section
/-! DEFINITION. Jets: dispatch and commit, checks, the standby, swaps and rotation (06_jets.md, R193 to R218; R705). -/
namespace Sys2Proof.Machine

/-- The 17 Jets. -/
def allJets : List Nat := List.range 17
/-- The 16 service positions. -/
def allPos : List Nat := List.range 16

/-! ### Positions and roles -/

def roleSERVICE : Nat := 0
def roleSTANDBY : Nat := 1
def roleTESTING : Nat := 2
def roleRETIRED : Nat := 3
def roleOFFLINE : Nat := 4

/-- ROLE of Jet j. -/
def State.jetRole (s : State) (j : Nat) : Nat := s.fld (.jetjStat j) fJetjStat_ROLE
/-- The Jet takes a role. -/
def State.setJetRole (s : State) (j r : Nat) : State := s.setFld (.jetjStat j) fJetjStat_ROLE r

/-- The Jet in position p, 31 for none (JET.MAP_LO, JET.MAP_HI). -/
def State.posJet (s : State) (p : Nat) : Nat :=
  if p < 8 then bitsOf (s.regN .jetMapLo) (5 * p) 5 else bitsOf (s.regN .jetMapHi) (5 * (p - 8)) 5

/-- Put a Jet, or 31 for none, into position p. -/
def State.setPosJet (s : State) (p j : Nat) : State :=
  if p < 8 then s.setRegN .jetMapLo (putBits (s.regN .jetMapLo) (5 * p) 5 j)
  else s.setRegN .jetMapHi (putBits (s.regN .jetMapHi) (5 * (p - 8)) 5 j)

/-- The free standbys, lowest number first. -/
def State.standbys (s : State) : List Nat := allJets.filter (fun j => s.jetRole j == roleSTANDBY)

/-- JET.STAT.STANDBY follows the standbys: 31 for none. -/
def State.showStandby (s : State) : State := s.setFld .jetStat fJetStat_STANDBY (s.standbys.headD 31)

/-- Positions that hold a Jet. -/
def State.jetCount (s : State) : Nat := (allPos.filter (fun p => s.posJet p != 31)).length

/-- Jet-time capacity for J Jets: floor(J × L / 2) jet-ticks (R119, R135). -/
def State.jetCap (s : State) (j : Nat) : Nat := j * s.cycLen / 4

/-- J follows the positions at a boundary, with the capacity of unit 0. -/
def State.showJ (s : State) (j : Nat) : State :=
  let s := (s.setFld .jetStat fJetStat_J j).setFld (.shrUnitCap 0) fShrUnitCap_IN_SERVICE j
  s.setFld (.shrUnitCap 0) fShrUnitCap_CAP (s.jetCap j)

/-- Jet j takes position p (R194). -/
def State.jetEnter (s : State) (j p : Nat) : State :=
  let s := (s.setPosJet p j).setJetRole j roleSERVICE
  let s := s.setFld (.jetjStat j) fJetjStat_POS p
  s.setJet j { s.jet j with testFrom := none, eligible := false, vacated := none, held := false }

/-- Jet j becomes a standby and repeats its self-test (R214). -/
def State.jetStandby (s : State) (j : Nat) : State :=
  let s := (s.setJetRole j roleSTANDBY).setFld (.jetjStat j) fJetjStat_POS 31
  (s.setJet j { s.jet j with testFrom := some s.now, eligible := false, vacated := none, held := false }).showStandby

/-- The positions that Jets have left since the last boundary: each takes a standby at the next (R212, R217). -/
def State.owedPos (s : State) : List Nat := allJets.filter (fun j => (s.jet j).vacated.isSome && !(s.jet j).held)

/-- True when no standby is free: none there, or each already due to a vacated position (R212, R215). -/
def State.noStandby (s : State) : Bool := decide (s.standbys.length ≤ s.owedPos.length)

/-- A scheduled swap is dropped when a check failure or a failed self-test has taken its standby (R215). -/
def State.swapDrop (s : State) : State :=
  if s.jetSys.swapAt.isSome && s.noStandby then
    ({ s with jetSys := { s.jetSys with swapAt := none } }).setFlag .jetStat fJetStat_SWAP_PENDING false
  else s

/-- Jet j leaves its position. -/
def State.jetLeave (s : State) (j : Nat) : State :=
  let p := s.fld (.jetjStat j) fJetjStat_POS
  (if p < 16 then s.setPosJet p 31 else s).setFld (.jetjStat j) fJetjStat_POS 31

/-- The weir of Jet j is about to leave OPEN: noted where no other standby is free (R494). -/
def State.jetMark (s : State) (j : Nat) : State :=
  s.doIf (decide ((s.standbys.filter (fun i => i != j)).length ≤ s.owedPos.length)) State.abdCritical

/-- Jet j is retired: ROLE, SYS.JET_RETIRED, its weir closed with no drain (R211). -/
def State.jetRetire (s : State) (j : Nat) : State :=
  let s := ((s.jetMark j).jetLeave j).setJetRole j roleRETIRED
  let s := s.setRegN .sysJetRetired (Nat.lor (s.regN .sysJetRetired) (2 ^ j))
  let s := s.setFld .jetStat fJetStat_RETIRED (Nat.lor (s.fld .jetStat fJetStat_RETIRED) (2 ^ j))
  let s := s.setJet j { s.jet j with testFrom := none, eligible := false }
  let s := (s.setFld (.sysWeir (258 + j)) fSysWeir_STATE 2).setWeirH (258 + j) {}
  s.showStandby.raiseIf (s.flag .jetCtl fJetCtl_EV_FAIL) (258 + j)

/-- The Jets take their places when their weirs open (R194). -/
def State.placeJets (s : State) : State :=
  let good := allJets.filter (fun j => !bitOf (s.regN .sysJetRetired) j)
  let s := (good.take 16).zipIdx.foldl (fun s p => s.jetEnter p.1 p.2) s
  let s := match good.drop 16 with
    | j :: _ => s.jetStandby j
    | [] => s
  let s := s.setJet 0 (s.jet 0)
  let s := { s with jetSys := { s.jetSys with rotFrom := s.now } }
  (s.showJ (min 16 good.length)).showStandby

/-! ### Tasks: release -/

def tkIDLE : Nat := 0
def tkQUEUED : Nat := 1
def tkRUNNING : Nat := 2
def tkHELD : Nat := 3
def tkCOMMITTED : Nat := 4
def tkREPEATED : Nat := 5

/-- State of the cycle task of axis n (R197). -/
def State.tk (s : State) (n : Nat) : Nat := (s.job n).st

/-- The cycle task takes a state. -/
def State.setTk (s : State) (n st : Nat) : State := s.setJob n { s.job n with st := st }

/-- A node's command frame may be packed once every NETWORK axis of the node is COMMITTED or REPEATED (R199)
(DEDUCED, log entry 26). -/
def State.nodeCheck (s : State) (k : Nat) : State :=
  let h := s.node k
  if h.ready.isNone && !h.launched && (s.netAxesOf k).all (fun n => decide (4 ≤ s.tk n)) then
    s.setNode k { h with ready := some s.now }
  else s

/-- The node of axis n is checked for readiness. -/
def State.axisReady (s : State) (n : Nat) : State := if s.kind n = kindNETWORK then s.nodeCheck (s.nodeOf n) else s

/-- The cycle task of axis n becomes REPEATED (R197): previous command with its age + 1 (DEDUCED, log entry 21). -/
def State.repeatTask (s : State) (n : Nat) : State :=
  (s.setJob n { s.job n with st := tkREPEATED, entry := none, reps := (s.job n).reps + 1 }).axisReady n

/-! ### Tasks: result -/

/-- The ENABLE bit of a command record: ENABLED, MOVING or STOPPING (R422). -/
def State.cmdEnable (s : State) (n : Nat) : Nat := b2n (s.driven n)

/-- Bytes 14 and 15 of a command record (R422). -/
def State.cmdCtl (s : State) (n age : Nat) : Nat :=
  s.cmdEnable n + 2 * s.closure n + 4 * b2n (s.flag (.axsSsStat n) fAxsSsStat_CR_ACTIVE) + 8 * (s.fb n).latCmd + 32 * age

/-- A command record of axis n (R422): torque for FORM 0, the setpoints of the cycle for FORM 1 (R224). -/
def State.cmdRecord (s : State) (n : Nat) (torque : Int) : List Byte :=
  let x := (s.job n).set
  let body := if s.closure n = 0 then leBytes 3 (uns 24 torque) ++ leBytes 11 0
    else leBytes 6 (uns 48 x.1) ++ leBytes 4 (uns 32 (satS 32 (shrEven x.2.1 12))) ++
      leBytes 4 (uns 32 (satS 32 (shrEven x.2.2 8)))
  body ++ leBytes 2 (s.cmdCtl n 0)

/-- The last command record of axis n, from fixed state words 11 and 12 (R225). -/
def State.lastCmd (s : State) (n : Nat) : List Byte := s.bytes (liveBank n + 0xC00 + 88) 16

/-- A command record with its AGE replaced (DEDUCED, log entry 21). -/
def withAge (r : List Byte) (age : Nat) : List Byte := r.take 14 ++ leBytes 2 (putBits (leAt r 14 2) 5 4 (min 15 age))

/-- The command of axis n for its node's frame: the committed one, or the previous one with its age advanced (R199,
R422). -/
def State.cmdToSend (s : State) (n : Nat) : List Byte := withAge (s.lastCmd n) (s.job n).reps

/-- PSET, VSET and ASET of axis n as its registers show them. -/
def State.setpoints (s : State) (n : Nat) : Int × Int × Int := (s.regI (.axsSetP n), s.regI (.axsSetV n), s.regI (.axsSetA n))

/-- The setpoints of axis n that a task released now uses (R195, R205): Cascade's for the cycle, kept once the pass for the next one
has begun; in a drive those in effect, which its own Cascade replaces only in a stop. -/
def State.cycleSet (s : State) (n : Nat) : Int × Int × Int :=
  if s.casSys.done && (!s.isDrive || s.ax n == axSTOPPING) then (s.job n).cyc else s.setpoints n

/-- The commit-store entry of axis n's cycle task (R195, R196, R224): the blocks' state words and signals, the last
fresh feedback, SWAPPED cleared, the command record. -/
def State.cycleEntry (s : State) (n : Nat) : Entry :=
  let j := s.job n
  let f : Feed := j.feed.getD ⟨s.reg (.axsFbPos n), s.reg (.axsFbVel n)⟩
  let wi : WideIn := ⟨j.set.1, j.set.2.1, j.set.2.2, f.pact.toInt, f.vact.toInt, bitOf (s.stWord n 10) 0⟩
  let zero := s.ax n == axREADY || s.ax n == axFAULTED
  let t := s.cycleTask n wi zero
  { writes := t.writes ++ (if j.recompute then [] else [(8, f.pact.toNat), (9, f.vact.toNat)]) ++ [(10, 0)]
    cmd := if s.kind n = kindNETWORK then s.cmdRecord n (t.sig.getD 15 0) else []
    sat := t.sat, accSat := t.accSat, div0 := t.div0, intHold := t.intHold, outLim := t.outLim }

/-- Signals S0 to S15 as committed appear in CS_SIG. -/
def State.showSig (s : State) (n : Nat) : State :=
  s.each (List.range 16) (fun i s =>
    s.setFld (.axsCsSig n i) fAxsCsSig_VALUE (uns 24 (half (s.stWord n (i / 2)) (i % 2 == 1))))

/-- A state region was loaded or restarted (R166, R184, R225, R242): words 10, 14 and 15 are zero, and the registers that show the
fixed words follow them. -/
def State.stateLoaded (s : State) (n : Nat) : State :=
  let s := (((s.setStWord n 10 0).setStWord n 14 0).setStWord n 15 0).showSig n
  let w := s.stWord n 13
  let s := (s.setFld (.axsStat n) fAxsStat_FB_AGE (bitsOf w 0 8)).setFld (.axsStat n) fAxsStat_CMD_AGE (bitsOf w 8 8)
  (s.setFlag (.axsStat n) fAxsStat_AGE_FAULT (bitOf w 16)).setFlag (.axsCsFlags n) fAxsCsFlags_SWAPPED (bitOf (s.stWord n 10) 0)

/-- The flags of a committed task are ORed into the axis's sticky flags and counted (R193). -/
def State.commitFlags (s : State) (n : Nat) (sat accSat div0 : Bool) : State :=
  let s := s.setCsFlags n (b2n sat + 2 * b2n accSat + 4 * b2n div0)
  let s := s.doIf sat (fun s => s.incSat .jetArithStat fJetArithStat_SAT_CNT)
  let s := s.doIf accSat (fun s => s.incSat .jetArithStat fJetArithStat_ACC_SAT_CNT)
  s.doIf div0 (fun s => s.incSat .jetArithStat fJetArithStat_DIV0_CNT)

/-- A commit (R196), with AGE + 1 for a recompute (R45, R422) (DEDUCED, log entry 21): the entry is copied into the state region, where words 8 and 9 keep the last valid feedback (R225,
R349), and the command into the frame; the current setpoint
of a LOCAL axis takes effect now or waits for OI (R204). -/
def State.commitTask (s : State) (n : Nat) : State :=
  match (s.job n).entry with
  | none => s
  | some e =>
    let keep := fun (p : Nat × Nat) => s.flag (.axsFbStat n) fAxsFbStat_VALID || (p.1 != 8 && p.1 != 9)
    let s := (e.writes.filter keep).foldl (fun s p => s.setStWord n p.1 p.2) s
    let s := if e.cmd.isEmpty then s else s.setBytes (liveBank n + 0xC00 + 88) e.cmd
    let s := s.commitFlags n e.sat e.accSat e.div0
    let s := (s.setFlag (.axsCsFlags n) fAxsCsFlags_INT_HOLD e.intHold).setFlag (.axsCsFlags n) fAxsCsFlags_OUT_LIM e.outLim
    let s := (s.setFlag (.axsCsFlags n) fAxsCsFlags_SWAPPED false).showSig n
    let s := s.setFb n { s.fb n with latCmd := 0 }
    let torque := half (s.stWord n 7) true
    let j := s.job n
    let j := { j with st := tkCOMMITTED, entry := none, reps := if j.recompute then j.reps + 1 else 0 }
    let s := if s.kind n = kindLOCAL then
        s.setJob n (if s.immediate n then { j with refNow := torque } else { j with refAt := some torque })
      else s.setJob n j
    s.axisReady n

/-- A cycle task ends with its result: COMMITTED when the frame check has passed, the task is a recompute or belongs
to no frame, HELD otherwise (R197, R202). -/
def State.finishTask (s : State) (n : Nat) : State :=
  let s := s.setJob n { s.job n with entry := some (s.cycleEntry n), st := tkHELD }
  if s.kind n ≠ kindNETWORK || (s.job n).recompute || (s.node (s.nodeOf n)).passed then s.commitTask n else s

/-- The last tick in which a grant still lets the task of a NETWORK axis commit before the latest launch of R46 (R705): the first
symbol of the command at the pins 400 ns after the last of the feedback frame, or after the window's close where no frame came, less
the receive path of 38 ns, the commit of 2 ns, 76 ns of packing, alignment and transmit path (R206), and the task itself. -/
def State.jetLimit (s : State) (n c : Nat) (recompute : Bool) : Option Nat :=
  if s.kind n ≠ kindNETWORK then none
  else
    let k := s.nodeOf n
    let ends := (s.node k).start + 2 * (14 + 16 * (s.fld (.nodeCfg k) fNodeCfg_NREC + s.fld (.nodeCfg k) fNodeCfg_NSC))
    let last := if recompute && !(decide (s.now ≤ ends) && decide (ends ≤ s.now + 2)) then s.now else ends
    some (last + 142 - c)

/-- Axis n's cycle task is released (R136, R140, R224) with the setpoints of its cycle (R195, R205): it queues for a Jet, or ends at once when it costs nothing. -/
def State.releaseTask (s : State) (n : Nat) (recompute metered : Bool) (feed : Option Feed) : State :=
  let s := s.setJob n { s.job n with st := tkQUEUED, recompute := recompute, metered := metered, feed := feed, set := s.cycleSet n }
  let c := s.cycCost n
  if c = 0 then s.finishTask n
  else s.arbAdd 0 { r := n, arrival := s.now, tick := s.now, cost := c, metered := metered,
                    limit := s.jetLimit n c recompute, tag := 0 }

/-- An axis in RELOADING or HOLD has no Jet work: its task is REPEATED (R146, R183). -/
def State.noJetWork (s : State) (n : Nat) : Bool := s.ax n == axRELOADING || s.ax n == axHOLD

/-- A feedback record of axis n completes (R136, R139) (DEDUCED, log entry 26). -/
def State.recordRelease (s : State) (n : Nat) (r : List Byte) (late : Bool) : State :=
  if s.tk n ≠ tkIDLE then s
  else if s.noJetWork n then s.repeatTask n
  else
    let s := if late then s.incSat .jetExecStat fJetExecStat_LATE_REC else s
    s.releaseTask n false late (some (s.recFeed n r))

/-- Held feedback: the last fresh PACT and VACT in the state region (R195, R225). -/
def State.heldFeed (s : State) (n : Nat) : Feed := ⟨BitVec.ofNat 48 (s.stWord n 8), BitVec.ofNat 48 (s.stWord n 9)⟩

/-- The cycle task of axis n is taken off the queue or its Jet, its entry dropped. -/
def State.cancelTask (s : State) (n : Nat) : State :=
  let s := s.arbWithdraw 0 (fun q => q.r == n && q.tag == 0)
  let s := s.each allJets (fun j s =>
    match (s.jet j).task with
    | some t => if t.axis = n && !t.cl then
        s.setJet j { s.jet j with task := none, busy := (s.jet j).busy + (s.now - t.start) } else s
    | none => s)
  s.setJob n { s.job n with entry := none }

/-- The recompute of axis n (R140, R200): a task already COMMITTED or REPEATED in the cycle stays
(DEDUCED, log entry 21). -/
def State.recompute (s : State) (n : Nat) (failed : Bool) : State :=
  let st := s.tk n
  if 4 ≤ st then s
  else if s.noJetWork n then (s.cancelTask n).repeatTask n
  else
    let s := if failed && st != tkIDLE then (s.cancelTask n).incSat .jetExecStat fJetExecStat_SPEC_DISCARD else s
    let s := s.incSat .jetExecStat fJetExecStat_RECOMPUTE
    s.releaseTask n true (s.job n).metered (some (s.heldFeed n))

/-- The recomputes of a node's axes. -/
def State.recomputeNode (s : State) (k : Nat) (failed : Bool) : State :=
  let s := s.setNode k { s.node k with recomputed := true }
  (s.each (s.netAxesOf k) (fun n s => s.recompute n failed)).nodeCheck k

/-- A frame check passes: the HELD axes of the node commit (R197, R198) (DEDUCED, log entry 26). -/
def State.commitNode (s : State) (k : Nat) : State :=
  let s := s.setNode k { s.node k with passed := true }
  (s.each (s.netAxesOf k) (fun n s => if s.tk n = tkHELD then s.commitTask n else s)).nodeCheck k

/-- A task that belongs to no frame is released (R136, R202, R205, R334): a local axis's, but not one that the head closes (R239), and
an OBSERVER's. R136 has the admission schedule assign its tick and gives no way to compute it: the model takes the tick of the
command (DESIGN CHOICE, log entry 78). -/
def State.scheduledRelease (s : State) (n : Nat) : State :=
  if s.tk n ≠ tkIDLE || !((s.kind n == kindLOCAL && s.closure n == 1) || (s.kind n == kindOBSERVER && s.cycCost n != 0)) then s
  else if s.noJetWork n then s.repeatTask n
  else
    let s := s.serialLate (s.localCh n)
    s.releaseTask n false false (some ⟨s.reg (.axsFbPos n), s.reg (.axsFbVel n)⟩)

/-! ### Grants and ends -/

/-- The free service positions: a Jet in service with no task whose weir is OPEN. -/
def State.freePos (s : State) : List Nat :=
  allPos.filter (fun p =>
    let j := s.posJet p
    j != 31 && (s.jet j).task.isNone && s.jetRole j == roleSERVICE && s.weirOpen (258 + j))

/-- The requests that may be granted now: those whose release tick has come. -/
def State.jetWaiting (s : State) : List ArbReq := (s.arb 0).waiting.filter (fun q => decide (q.arrival ≤ s.now))

/-- A grant of Jet time (R194): the request chosen goes to the free position with the lowest number. -/
def State.jetGrant (s : State) : State :=
  match s.freePos with
  | [] => s
  | p :: _ =>
    match s.arbGrant 0 s.jetWaiting with
    | none => s
    | some (q, s) =>
      let j := s.posJet p
      let s := s.setJet j { s.jet j with task := some { axis := q.r, cl := q.tag == 1, start := s.now, cost := q.cost } }
      if q.tag = 1 then s.setJob q.r { s.job q.r with cl := 2 } else s.setTk q.r tkRUNNING

/-- An execution of the current loop ends without a result (R241). -/
def State.clLoss (s : State) (n : Nat) : State :=
  let m := (s.job n).clLost + 1
  let s := s.setJob n { s.job n with cl := 0, clLost := m }
  if m = 3 then s.detect n 2 else s

/-- A current-loop execution commits (R202, R237, R239): state words, duties, the FOC registers; nothing for an axis that is no longer
ENABLED, MOVING or STOPPING (R240). -/
def State.clCommit (s : State) (n : Nat) : State :=
  let j := s.job n
  let s := s.setJob n { j with cl := 0, clLost := 0 }
  if !s.driven n then s else
  let s := s.setJob n { s.job n with clSwap := false }
  match s.currentLoop n j.clRef j.rawA j.rawB j.thetaM j.clSwap with
  | none => s
  | some (f, t) =>
    let s := t.writes.foldl (fun s p => s.setStWord n p.1 p.2) s
    let s := s.commitFlags n t.sat t.accSat t.div0
    let s := s.setRegN (.axsCsFocI n) (halves f.id f.iq)
    let s := s.setRegN (.axsCsFocV n) (halves f.vd f.vq)
    let s := s.setFld (.axsCsFocStat n) fAxsCsFocStat_THETA_E f.theta
    let s := s.setFlag (.axsCsFlags n) fAxsCsFlags_VLIM f.vlim
    let s := s.doIf f.vlim (fun s => s.incSat (.axsCsFocStat n) fAxsCsFocStat_VLIM_CNT)
    s.writeDuties (s.localCh n) [f.dutyA, f.dutyB, f.dutyC]

/-- True when Jet j's task has run for its cost (R186). -/
def State.taskEnds (s : State) (j : Nat) : Bool :=
  match (s.jet j).task with
  | none => false
  | some t => decide (t.start + t.cost ≤ s.now)

/-- A Jet task ends (R197, R202, R203, R241): an uncorrectable ECC error ends it without a result, at its full cost (R203 gives no
earlier tick) (DESIGN CHOICE, log entry 105). -/
def State.taskEnd (s : State) (j : Nat) (ecc : Bool) : State :=
  match (s.jet j).task with
  | none => s
  | some t =>
    let s := s.setJet j { s.jet j with task := none, busy := (s.jet j).busy + t.cost }
    let s := if ecc then
        ((s.incSat .jetFaultStat fJetFaultStat_ECC_CNT).incSat .jetFaultStat fJetFaultStat_REPEAT_CNT).detect t.axis 1
      else s
    if t.cl then (if ecc then s.clLoss t.axis else s.clCommit t.axis)
    else if ecc || t.drop then s.repeatTask t.axis
    else s.finishTask t.axis

/-- True when the refusal of R705 is due for axis n: a metered request at the end of its age limit, at the last tick
that still meets the latest launch, or in the last tick of the cycle. -/
def State.jetRefusalDue (s : State) (n : Nat) : Option ArbReq :=
  (s.arb 0).waiting.find? (fun q => q.r == n && s.arbClass 0 q == 2 &&
    (decide (q.arrival + s.fld (.shrReqCfg 0 n) fShrReqCfg_AGE_LIMIT ≤ s.now) || decide (s.bndNext ≤ s.now + 1) ||
     (match q.limit with
      | some l => decide (l ≤ s.now)
      | none => false)))

/-- A metered Jet-time request is refused with DEFERRED_LIMIT and its task REPEATED (R705). -/
def State.jetRefuse (s : State) (q : ArbReq) : State :=
  let s := s.arbRefuse 0 q cDEFERRED
  if q.tag = 1 then s.setJob q.r { s.job q.r with cl := 0 } else s.repeatTask q.r

/-- A finished cycle task is IDLE again. -/
def jobIdle (j : JobH) : JobH :=
  if 4 ≤ j.st then { j with st := 0, recompute := false, metered := false, feed := none } else j

/-- The cycle boundary: COMMITTED and REPEATED become IDLE (R197). -/
def State.jobsBoundary (s : State) : State := s.each allAxes (fun n s => s.setJob n (jobIdle (s.job n)))

/-- A weir of an axis leaves OPEN: QUEUED or HELD becomes REPEATED at once, RUNNING at its end (R183). -/
def State.reloadTask (s : State) (n : Nat) : State :=
  let st := s.tk n
  let s := s.arbWithdraw 0 (fun q => q.r == n && q.tag == 1)
  let s := s.setJob n { s.job n with cl := if (s.job n).cl = 1 then 0 else (s.job n).cl }
  if st = tkQUEUED || st = tkHELD then (s.cancelTask n).repeatTask n
  else if st = tkRUNNING then
    s.each allJets (fun j s =>
      match (s.jet j).task with
      | some t => if t.axis = n && !t.cl then s.setJet j { s.jet j with task := some { t with drop := true } } else s
      | none => s)
  else s

/-! ### Checks and self-test -/

/-- A check failure in Jet j (R210): the Jet leaves dispatch, its axis is REPEATED, its self-test begins. A standby
that the failure takes drops a scheduled swap (R215). -/
def State.checkFailure (s : State) (j chk : Nat) : State :=
  match (s.jet j).task with
  | none => s
  | some t =>
    let p := s.fld (.jetjStat j) fJetjStat_POS
    let s := s.jetLeave j
    let s := (s.incSat (.jetjStat j) fJetjStat_FAIL_CNT).setFld (.jetjStat j) fJetjStat_LAST_CHECK chk
    let s := (s.setFld (.jetjStat j) fJetjStat_LAST_AXIS t.axis).setReg (.jetjFailTime j) s.t48
    let s := s.setJetRole j roleTESTING
    let h := s.jet j
    let s := s.setJet j { h with task := none, testFrom := some s.now, eligible := false,
                                 vacated := if p < 16 then some p else none, vacAt := s.now, held := false
                                 busy := h.busy + (s.now - t.start) }
    let s := s.incSat .jetFaultStat fJetFaultStat_REPEAT_CNT
    let s := (if t.cl then s.clLoss t.axis else s.repeatTask t.axis).swapDrop
    s.raiseIf (s.flag .jetCtl fJetCtl_EV_FAIL) (258 + j)

/-- True when Jet j's self-test has run its 960 ticks (R211). -/
def State.testEnds (s : State) (j : Nat) : Bool :=
  match (s.jet j).testFrom with
  | none => false
  | some t => decide (t + 960 ≤ s.now)

/-- A self-test ends (R211, R214): a Jet that is not eligible then is retired, a standby as one under test. -/
def State.testEnd (s : State) (j : Nat) (pass : Bool) : State :=
  let s := (s.incWrap (.jetjStat j) fJetjStat_TEST_CNT).setFlag (.jetjStat j) fJetjStat_TEST_PASS pass
  let s := if pass then s else s.setFld (.jetjStat j) fJetjStat_LAST_CHECK 6
  let good := pass && decide (s.fld (.jetjStat j) fJetjStat_FAIL_CNT ≤ s.fld .jetCtl fJetCtl_RETIRE_LIMIT)
  if s.jetRole j = roleTESTING then
    if good then s.setJet j { s.jet j with testFrom := none, eligible := true } else s.jetRetire j
  else if s.jetRole j = roleSTANDBY then
    if good then s.setJet j { s.jet j with testFrom := some s.now }
    else ((if pass then s else s.incSat (.jetjStat j) fJetjStat_FAIL_CNT).jetRetire j).swapDrop
  else s.setJet j { s.jet j with testFrom := none, eligible := pass }

/-! ### Swap and rotation -/

/-- What SWAP = 1 is refused with (R215). -/
def State.swapRefuse (s : State) : List Nat :=
  refuseIf s.noStandby cLOCKED ++ refuseIf (s.flag .jetStat fJetStat_SWAP_PENDING) cBUSY

/-- SWAP = 1 schedules a swap (R215). -/
def State.swapSchedule (s : State) : State :=
  ({ s with jetSys := { s.jetSys with swapAt := some s.boundaryFor } }).setFlag .jetStat fJetStat_SWAP_PENDING true

/-- The lowest standby takes position p; a displaced Jet becomes a standby (R215, R216). -/
def State.swapInto (s : State) (p : Nat) : State :=
  match s.standbys with
  | [] => s
  | b :: _ =>
    let old := s.posJet p
    let s := s.jetEnter b p
    (if old = 31 then s else s.jetStandby old).showStandby

/-- The scheduled swap at its boundary (R215). -/
def State.swapBoundary (s : State) : State :=
  match s.jetSys.swapAt with
  | none => s
  | some c =>
    if cycleDiff c s.cycleN ≤ 0 then
      let s := ({ s with jetSys := { s.jetSys with swapAt := none } }).setFlag .jetStat fJetStat_SWAP_PENDING false
      s.swapInto (s.fld .jetCtl fJetCtl_SWAP_POS)
    else s

/-- True at a cycle boundary after a rotation period has elapsed (R216): periods count from the placement of the Jets or the write that
changed ROT_PERIOD (DESIGN CHOICE, log entry 105). -/
def State.rotationDue (s : State) : Bool :=
  let p := s.fld .jetCtl fJetCtl_ROT_PERIOD
  p != 0 && decide (0 < s.cycles) && s.now == s.bndAt && decide (s.jetSys.rotFrom + p * 1000 * usTicks ≤ s.now)

/-- The rotation at the first boundary after its period (R216). -/
def State.rotate (s : State) : State :=
  let s := { s with jetSys := { s.jetSys with rotFrom := s.jetSys.rotFrom + s.fld .jetCtl fJetCtl_ROT_PERIOD * 1000 * usTicks } }
  if s.standbys.isEmpty || s.flag .jetStat fJetStat_SWAP_PENDING then s
  else
    let p := (s.fld .jetStat fJetStat_ROT_POS + 1) % 16
    (s.swapInto p).setFld .jetStat fJetStat_ROT_POS p

/-! ### Boundary -/

/-- The load of each Jet over the cycle. -/
def State.loadBoundary (s : State) : State :=
  s.each allJets (fun j s =>
    let b := (s.jet j).busy
    let s := s.setJet j { s.jet j with busy := 0 }
    let s := s.setFld (.jetjLoad j) fJetjLoad_BUSY_LAST (satU 20 b)
    if s.fld (.jetjLoad j) fJetjLoad_BUSY_MAX < b then s.setFld (.jetjLoad j) fJetjLoad_BUSY_MAX (satU 20 b) else s)

/-- Jets in the order in which they left their positions, the lower position first among those of one tick (R212). -/
def State.vacOrder (s : State) (l : List Nat) : List Nat :=
  l.mergeSort (fun a b => decide ((s.jet a).vacAt < (s.jet b).vacAt) ||
    ((s.jet a).vacAt == (s.jet b).vacAt && decide ((s.jet a).vacated.getD 16 ≤ (s.jet b).vacated.getD 16)))

/-- The positions left since the last boundary: the standbys fill them in their order (R212, R217). A Jet under test whose position
finds no standby holds it (R213); a closed one is lost to service (R217). -/
def State.fillVacated (s : State) : State :=
  s.each (s.vacOrder s.owedPos) (fun j s =>
    match (s.jet j).vacated, s.standbys with
    | none, _ => s
    | some p, b :: _ => ((s.setJet j { s.jet j with vacated := none }).jetEnter b p).showStandby
    | some _, [] =>
      if s.jetRole j = roleTESTING then s.setJet j { s.jet j with held := true } else s.setJet j { s.jet j with vacated := none })

/-- What becomes of the Jets that left service, once standbys have been given out (R212, R213): an eligible Jet resumes the position
it holds, or becomes a standby where it holds none; a retired Jet holds none any more. -/
def State.settleJets (s : State) : State :=
  s.each allJets (fun j s =>
    let h := s.jet j
    if s.jetRole j = roleTESTING then
      if h.eligible then
        match h.vacated with
        | some p => if s.posJet p = 31 then s.jetEnter j p else s.jetStandby j
        | none => s.jetStandby j
      else s
    else if h.vacated.isSome then s.setJet j { h with vacated := none, held := false } else s)

/-- Positions that stay empty only until the self-test of the Jet that holds them ends still count in J (R213). -/
def State.heldPositions (s : State) : Nat :=
  (allJets.filter (fun j => s.jetRole j == roleTESTING && (match (s.jet j).vacated with
    | some p => s.posJet p == 31
    | none => false))).length

/-- JET.CNT_CLR. -/
def State.jetCntClr (s : State) : State :=
  let s := (((s.setReg .jetExecStat 0).setReg .jetArithStat 0).setReg .jetTurnStat 0).setReg .jetFaultStat 0
  s.each allJets (fun j s => s.setFld (.jetjLoad j) fJetjLoad_BUSY_MAX 0)

/-- A Jet that passed its commanded opening's self-test reopens at a boundary (R218). -/
def State.jetReopen (s : State) (j : Nat) : State :=
  match allPos.find? (fun p => s.posJet p == 31) with
  | some p => s.jetEnter j p
  | none => s.jetStandby j

end Sys2Proof.Machine
end

