-- ==== Sys2Proof/Machine/TimeOps.lean ====
section
/-! DEFINITION. Time: line time, domains, placing of boundaries, comparators, transmit timestamps (15_time.md, R503 to
R531). -/
namespace Sys2Proof.Machine

/-- Nanoseconds in units of 2^-16 ns. -/
def nsUnit : Int := 65536
/-- A second in units of 2^-16 ns. -/
def secUnit : Int := 1000000000 * 65536
/-- Fabric ticks in a second. -/
def secTicks : Nat := 500000000

/-! ### Line time -/

/-- Domain d. -/
def State.dom (s : State) (d : Nat) : DomH := tabGet {} s.time.doms d
/-- Replace domain d. -/
def State.setDom (s : State) (d : Nat) (h : DomH) : State :=
  { s with time := { s.time with doms := tabSet {} d h s.time.doms } }

/-- lt_d at T48 time t from an offset and a rate (R513), in 2^-16 ns. -/
def domLt (off rate t : Int) : Int := off + t * 2 ^ 17 + shrEven (t * 2 ^ 17 * rate) 40

/-- Fabric ticks since T48 was 0: line time runs on where T48 wraps (DEDUCED, log entry 37). -/
def State.ticks (s : State) : Int := (s.now : Int) - (s.time.from_ : Int)

/-- The tick of a T48 stamp, on the same count: the one nearest the present (R7). -/
def State.ticksOf (s : State) (t : Word48) : Int := s.ticks - t48Diff s.t48 t

/-- LSTATE (R518). -/
def State.lstate (s : State) : Nat := s.fld .timStat fTimStat_LSTATE
/-- DSTATE of domain d (R514). -/
def State.dstate (s : State) (d : Nat) : Nat := s.fld (.domStat d) fDomStat_DSTATE

/-- C, d fabric ticks from now (R516): SLEW × 2 ns a tick toward 0. -/
def State.cAfter (s : State) (d : Nat) : Int :=
  let n := s.time.c0.natAbs * 1000000 - s.fld .timCfg fTimCfg_SLEW * 2 ^ 17 * (s.now + d - s.time.cAt)
  let m : Int := (n / 1000000 : Nat)
  if s.time.c0 < 0 then -m else m

/-- Line time d fabric ticks from now (R518). -/
def State.ltAfter (s : State) (d : Nat) : Int :=
  let t := s.ticks + (d : Int)
  let st := s.lstate
  if st = 0 then t * 2 ^ 17
  else if st = 3 then domLt s.time.frozen.1 s.time.frozen.2 t + s.cAfter d
  else
    let h := s.dom (s.time.sel.getD 0)
    domLt h.off h.rate t + s.cAfter d

/-- Line time now. -/
def State.lt (s : State) : Int := s.ltAfter 0

/-- L in 2^-16 ns. -/
def State.cycLenLt (s : State) : Int := (s.cycLen : Int) * 2 ^ 15

/-- The grid instant nearest a line time (R504); a tie goes to the earlier. -/
def State.gridNearest (s : State) (x : Int) : Int :=
  let g := (s.fld .timGrid fTimGrid_G : Int) * secUnit
  let l := s.cycLenLt
  if l = 0 then x else
  let q := (x - g) / l
  let r := (x - g) % l
  g + (if l < 2 * r then q + 1 else q) * l

/-- The earliest grid instant at or after a line time (R507). -/
def State.gridNext (s : State) (x : Int) : Int :=
  let g := (s.fld .timGrid fTimGrid_G : Int) * secUnit
  let l := s.cycLenLt
  if l = 0 then x else g + (-((g - x) / l)) * l

/-- Newton steps toward the tick at which line time reaches a target. -/
def State.ltSeek (s : State) (target : Int) : Nat → Nat → Nat
  | 0, d => d
  | n + 1, d => s.ltSeek target n ((d : Int) + (target - s.ltAfter d) / 2 ^ 17).toNat

/-- Fabric ticks from now to the tick that begins the symbol tick nearest the instant at which line time reaches a
target, a tie going to the earlier (R505): the first symbol tick whose second fabric tick has reached it. -/
def State.placeTick (s : State) (target : Int) : Nat :=
  let d := s.ltSeek target 8 0
  let base := d - 16
  let base := if (s.t48.toNat + base) % 2 = 0 then base else base + 1
  let cand := (List.range 24).map (fun i => base + 2 * i)
  (cand.find? (fun k => decide (target ≤ s.ltAfter (k + 1)))).getD (base + 48)

/-- True in a head that leads: it places its boundaries by its own line time (R505, R508). -/
def State.leads (s : State) : Bool :=
  let cs := s.fld .netCsStat fNetCsStat_STATE
  s.isHead && (cs == 2 || (cs == 4 && !s.twin) || (s.twin && s.fld .twnStat fTwnStat_TSTATE == 5))

/-- The next boundary is placed by the present line time in a head that leads. -/
def State.replace (s : State) : State :=
  if s.leads then { s with bndNext := s.now + s.placeTick s.time.target } else s

/-- The nominal line time of the boundary now, and the line time of the next one (R504, R505). -/
def State.setNlt (s : State) : State :=
  let n := s.gridNearest s.lt
  let s := s.setRegI .timNltSec (n / secUnit)
  let s := s.setRegI .timNltNs (n % secUnit)
  { s with time := { s.time with target := n + s.cycLenLt } }

/-! ### Choosing a domain (R515 to R520) -/

/-- LSTATE changes, with its event flag; LOST_SYNC clears on entry to LOCKED. -/
def State.setLstate (s : State) (st : Nat) : State :=
  if s.lstate = st then s
  else
    let s := s.setFld .timStat fTimStat_LSTATE st
    let s := if st = 2 then s.setFlag .timStat fTimStat_LOST_SYNC false else s
    s.raiseIf (s.flag .timCtl fTimCtl_EV_LT) 344

/-- LOST_SYNC sets, with its event flag (R520, R521). -/
def State.lostSync (s : State) : State :=
  if s.flag .timCfg fTimCfg_LS_EN && !s.isDrive && !s.flag .timStat fTimStat_LOST_SYNC then
    (s.setFlag .timStat fTimStat_LOST_SYNC true).raise 344
  else s

/-- The preferred domain. -/
def State.prefDom (s : State) : Nat := s.fld .timCfg fTimCfg_PREF

/-- The domain that SEL_FORCE forces, when it is LOCKED. -/
def State.forcedDom (s : State) : Option Nat :=
  let f := s.fld .timCtl fTimCtl_SEL_FORCE
  if (f = 1 || f = 2) && s.dstate (f - 1) == 3 then some (f - 1) else none

/-- The domain in use: one selected, in ACQUIRING or LOCKED. -/
def State.domInUse (s : State) : Option Nat := if s.lstate = 1 || s.lstate = 2 then s.time.sel else none

/-- The domain to select now (R515). -/
def State.domWanted (s : State) : Option Nat :=
  let p := s.prefDom
  let auto := if s.dstate p = 3 then some p else if s.dstate (1 - p) = 3 then some (1 - p) else none
  match s.forcedDom, s.domInUse with
  | some d, _ => some d
  | none, some d => if s.dstate d = 3 then some d else auto
  | none, none => auto

/-- Ties toward 0: the quotient of a and b > 0 rounded to nearest (R517) (DEDUCED, log entry 37). -/
def roundTowardZero (a b : Int) : Int :=
  let q := (2 * (a.natAbs : Int) + b - 1) / (2 * b)
  if a < 0 then -q else q

/-- Domain d is selected, with line time lt in the present tick (R516, R517) (DEDUCED, log entry 37). -/
def State.selectDom (s : State) (d : Nat) (lt : Int) : State :=
  let first := s.time.sel.isNone
  let h := s.dom d
  let c := lt - domLt h.off h.rate s.ticks
  let l := s.cycLenLt
  let c := if first && l != 0 then c - roundTowardZero c l * l else c
  let s := { s with time := { s.time with c0 := c, cAt := s.now, sel := some d, selAt := s.now } }
  let s := (s.setFld .timStat fTimStat_SEL d).incSat .timStat fTimStat_SWITCHES
  let s := if first then s.setFlag .timStat fTimStat_LT_STEP true else s
  let s := s.setLstate (if (c.natAbs : Int) ≤ 20 * nsUnit then 2 else 1)
  let s := if (s.fld .timCfg fTimCfg_PH_LOST : Int) * nsUnit < c.natAbs then s.lostSync else s
  if first then { s with time := { s.time with target := s.gridNearest (s.ltAfter (s.bndNext - s.now)) } } else s

/-- HOLDOVER begins with the clock last in use (R518). -/
def State.holdover (s : State) (fr : Int × Int) : State :=
  ({ s with time := { s.time with frozen := fr, holdAt := s.now } }).setLstate 3

/-- The selection follows the domains' states; lt is the line time of the tick and fr the clock last in use. -/
def State.reselect (s : State) (lt : Int) (fr : Int × Int) : State :=
  let s := match s.domWanted with
    | some d => if s.domInUse = some d then s else s.selectDom d lt
    | none => if s.domInUse.isSome then s.holdover fr else s
  s.replace

/-- off_d and rate_d of the domain selected. -/
def State.selClock (s : State) : Int × Int :=
  let h := s.dom (s.time.sel.getD 0)
  (h.off, h.rate)

/-- A domain takes a state. -/
def State.setDstate (s : State) (d st : Nat) : State :=
  let s := if st = 3 && s.dstate d != 3 then s.setDom d { s.dom d with lockedAt := s.now } else s
  s.setFld (.domStat d) fDomStat_DSTATE st

/-- A domain that the TIME section configures listens (R514). -/
def State.domConfigure (s : State) (d : Nat) : State :=
  if s.fld (.domCfg d) fDomCfg_PORTS = 0 then s else (s.setDom d { s.dom d with lastPost := s.now }).setDstate d 1

/-- The master time m of a post, in 2^-16 ns. -/
def State.ptpMaster (s : State) (d : Nat) : Int := (s.regN (.domMSec d) : Int) * secUnit + (s.fld (.domMNs d) fDomMNs_NS : Int)

/-- A post is accepted (R512). -/
def State.ptpAccepts (s : State) (d : Nat) : Bool :=
  let t2 := s.reg (.domMT48 d)
  s.dstate d != 0 &&
  (match (s.dom d).t2 with
   | none => true
   | some p => decide (0 < t48Diff t2 p)) &&
  decide (t48Diff s.t48 t2 ≤ 500000000)

/-- A post to domain d (R512 to R514): accepted, stepped, or ignored as STALE. -/
def State.ptpPost (s : State) (d : Nat) : State :=
  if !s.ptpAccepts d then s.setFld (.domStat d) fDomStat_RES 3
  else
    let h := s.dom d
    let lt0 := s.lt
    let clock0 := s.selClock
    let t2 := s.reg (.domMT48 d)
    let o := domLt h.off h.rate (s.ticksOf t2) - s.ptpMaster d
    let thr := (s.fld (.domCfg d) fDomCfg_LOCK_THR : Int) * nsUnit
    let far := decide ((s.fld (.domCfg d) fDomCfg_STEP_THR : Int) * 100 * nsUnit < o.natAbs)
    let st := s.dstate d
    let step := st == 1 || st == 4 || far
    let gap : Int := match h.t2 with
      | none => 1
      | some p => t48Diff t2 p
    let ki := s.fld (.domCfg d) fDomCfg_KI_SH
    let inThr := decide ((o.natAbs : Int) ≤ thr)
    let h' : DomH := if step then { h with off := h.off - o, good := 0, bad := 0, t2 := some t2, lastPost := s.now }
      else { h with
        off := h.off - shrEven o (s.fld (.domCfg d) fDomCfg_KP_SH)
        rate := h.rate - divEven (o * 2 ^ 40) (2 ^ ki * (gap * 2 ^ 17))
        good := if inThr then h.good + 1 else 0
        bad := if inThr then 0 else h.bad + 1
        t2 := some t2, lastPost := s.now }
    let s := (s.setDom d h').setFld (.domStat d) fDomStat_RES (if step then 2 else 1)
    let s := s.incWrap (.domStat d) fDomStat_POSTS
    let s := if step then s.incSat (.domStat d) fDomStat_STEPS else s
    let s := (s.setRegI (.domOffs d) o).setRegI (.domRate d) h'.rate
    let s := if step then s.setDstate d 2
      else if st = 2 && s.fld (.domCfg d) fDomCfg_LOCK_N ≤ h'.good then s.setDstate d 3
      else if st = 3 && 4 ≤ h'.bad then s.setDstate d 2
      else s
    if step then s.reselect lt0 clock0 else s.reselect s.lt s.selClock

/-- True when domain d has had no accepted post for 3 s (R514). -/
def State.domTimedOut (s : State) (d : Nat) : Bool :=
  [1, 2, 3].contains (s.dstate d) && decide ((s.dom d).lastPost + 3 * secTicks ≤ s.now)

/-- Domain d becomes LOST (R514). -/
def State.domTimeout (s : State) (d : Nat) : State :=
  let lt := s.lt
  let fr := s.selClock
  (s.setDstate d 4).reselect lt fr

/-- True when PREF has been LOCKED for REVERT_S seconds while the other domain is selected (R515). -/
def State.revertDue (s : State) : Bool :=
  let p := s.prefDom
  let r := s.fld .timCfg fTimCfg_REVERT_S
  r != 0 && s.forcedDom.isNone && s.domInUse == some (1 - p) && s.dstate p == 3 &&
    decide (max (s.dom p).lockedAt s.time.selAt + r * secTicks ≤ s.now)

/-- PREF is selected again. -/
def State.domRevert (s : State) : State := (s.selectDom s.prefDom s.lt).replace

/-- True when HOLDOVER has lasted HOLD_MAX seconds (R520). -/
def State.holdLimit (s : State) : Bool :=
  s.lstate == 3 && decide (s.time.holdAt + s.fld .timCfg fTimCfg_HOLD_MAX * secTicks ≤ s.now)

/-- True when |C| has come within 20 ns in ACQUIRING (R518). -/
def State.ltLocks (s : State) : Bool := s.lstate == 1 && decide (((s.cAfter 0).natAbs : Int) ≤ 20 * nsUnit)

/-! ### Transmit timestamps (R522, R523) -/

/-- A stamp is due: it joins the queue, or is discarded while 16 are held. -/
def State.tsqPush (s : State) (e : TsqE) : State :=
  if 16 ≤ s.time.tsq.length then
    let s := (s.setFlag .timTsqStat fTimTsqStat_OVF true).incSat .timTsqStat fTimTsqStat_LOST
    s.raiseIf (s.flag .timCtl fTimCtl_EV_TSQ) 344
  else
    let s := { s with time := { s.time with tsq := s.time.tsq ++ [e] } }
    s.setFld .timTsqStat fTimTsqStat_COUNT s.time.tsq.length

/-- A read of TSQ_ID (R522): the value, and the state without the head entry. -/
def State.tsqRead (s : State) : Nat × State :=
  match s.time.tsq with
  | [] => (0, s)
  | e :: t =>
    let s := { s with time := { s.time with tsq := t } }
    let s := s.setFld .timTsqStat fTimTsqStat_COUNT t.length
    (putBit e.id 29 true, s.setReg .timTsqTime e.stamp)

/-! ### Time comparators (R524 to R531) -/

/-- Comparator i. -/
def State.tt (s : State) (i : Nat) : TtH := tabGet {} s.time.tts i
/-- Replace comparator i. -/
def State.setTt (s : State) (i : Nat) (h : TtH) : State :=
  { s with time := { s.time with tts := tabSet {} i h s.time.tts } }

/-- The line time held in TARGET and AUX. -/
def State.ttLine (s : State) (i : Nat) : Int := (s.regN (.ttTarget i) : Int) * secUnit + (bitsOf (s.regN (.ttAux i)) 0 46 : Int)

/-- OFFSET of a CYCLE comparator. -/
def State.ttOffset (s : State) (i : Nat) : Nat := bitsOf (s.regN (.ttAux i)) 0 22

/-- The condition of comparator i in the present tick (R526). -/
def State.ttHolds (s : State) (i : Nat) : Bool :=
  let m := s.fld (.ttCtl i) fTtCtl_MODE
  if m = 0 then t48Reached s.t48 (s.reg (.ttTarget i))
  else if m = 1 then
    decide (s.now = s.bndAt + s.ttOffset i) &&
      (!s.flag (.ttCtl i) fTtCtl_ONE_CYCLE || s.regN (.ttTarget i) == s.cycleN)
  else decide (s.ttLine i ≤ s.lt)

/-- The condition was already met (R528): now, or for one cycle a tick that has passed. -/
def State.ttMet (s : State) (i : Nat) : Bool :=
  s.ttHolds i ||
  (s.fld (.ttCtl i) fTtCtl_MODE == 1 && s.flag (.ttCtl i) fTtCtl_ONE_CYCLE &&
    (let d := cycleDiff s.cycleN (s.regN (.ttTarget i))
     decide (0 < d) || (decide (d = 0) && decide (s.bndAt + s.ttOffset i ≤ s.now))))

/-- What a write of AUX is refused with (R529). -/
def State.ttAuxRefuse (s : State) (i : Nat) (v : Word48) : List Nat :=
  refuseIf (s.fld (.ttCtl i) fTtCtl_MODE == 1 && decide (s.cycLen / 4 ≤ bitsOf v.toNat 0 22 + 4)) cACCESS

/-- What a write of comparator i's registers changes takes effect in the tick after it (R529). -/
def State.ttHold (s : State) (i : Nat) : State := s.setTt i { s.tt i with armedAt := s.now }

/-- ARM = 1 (R528). -/
def State.ttArm (s : State) (i : Nat) : State :=
  let s := s.setTt i { s.tt i with armedAt := s.now, late := s.ttMet i, fired := none }
  s.setFlag (.ttCtl i) fTtCtl_ARMED true

/-- DISARM = 1. -/
def State.ttDisarm (s : State) (i : Nat) : State := s.setFlag (.ttCtl i) fTtCtl_ARMED false

/-- Comparator i fires in the present tick. -/
def State.ttDue (s : State) (i : Nat) : Bool :=
  let h := s.tt i
  s.flag (.ttCtl i) fTtCtl_ARMED && decide (h.armedAt < s.now) && h.fired != some s.now && (h.late || s.ttHolds i)

/-- A level on GPIO pin k (DEDUCED, log entry 27). -/
def State.setGpio (s : State) (k : Nat) (b : Bool) : State := { s with time := { s.time with gpio := putBit s.time.gpio k b } }

/-- The action of comparator i by its kind (R524, R525, R530), but for Mirage's. -/
def State.ttAct (s : State) (i : Nat) : State :=
  let k := s.fld (.ttCfg i) fTtCfg_KIND
  let x := s.fld (.ttCfg i) fTtCfg_IDX
  if k = 1 then s.raise (307 + i)
  else if k = 2 then
    let a := s.fld (.ttCfg i) fTtCfg_GPIO_ACT
    if a = 0 then s.setGpio x true
    else if a = 1 then s.setGpio x false
    else if a = 2 then s.setGpio x (!bitOf s.time.gpio x)
    else (s.setGpio x true).setTt i { s.tt i with pulseEnd := some (s.now + s.fld (.ttCfg i) fTtCfg_PULSE_W) }
  else if k = 4 then
    if x < 12 && s.sgState x == sgRUN then s.each (s.sgChannels x) (fun n s => s.periodStart n)
    else s.incSat (.ttStat i) fTtStat_IGNORED
  else if k = 5 then s.sdRestart x
  else s

/-- TARGET, ARMED and MISSED after a firing (R527). -/
def State.ttAfter (s : State) (i : Nat) : State :=
  let m := s.fld (.ttCtl i) fTtCtl_MODE
  let per := bitsOf (s.regN (.ttAux i)) 0 32
  if m = 0 && per != 0 then
    let t := s.reg (.ttTarget i) + BitVec.ofNat 48 per
    let d := t48Diff s.t48 t
    if 0 < d then
      let n := d.toNat / per + 1
      let s := s.setReg (.ttTarget i) (t + BitVec.ofNat 48 (n * per))
      (s.addSat (.ttStat i) fTtStat_MISSED n).raiseIf (s.flag (.ttCtl i) fTtCtl_EV_LATE) 344
    else s.setReg (.ttTarget i) t
  else if m = 1 && !s.flag (.ttCtl i) fTtCtl_ONE_CYCLE then s
  else s.ttDisarm i

/-- Comparator i fires (R526 to R528). -/
def State.ttFire (s : State) (i : Nat) (mirage : Nat → State → State) : State :=
  let h := s.tt i
  let s := (s.incWrap (.ttStat i) fTtStat_FIRES).setReg (.ttLast i) s.t48
  let s := if h.late then
      (s.setFlag (.ttStat i) fTtStat_LATE true).raiseIf (s.flag (.ttCtl i) fTtCtl_EV_LATE) 344
    else s
  let s := s.setTt i { h with late := false, fired := some s.now }
  let s := if s.fld (.ttCfg i) fTtCfg_KIND = 3 then mirage i s else s.ttAct i
  s.ttAfter i

/-- The comparators due in the present tick, in ascending order (R530). -/
def State.ttsDue (s : State) : List Nat := (List.range 32).filter (fun i => s.ttDue i)

/-- Every comparator due fires, in ascending order; mirage is what KIND 3 does. -/
def State.ttFireAll (s : State) (mirage : Nat → State → State) : State :=
  s.each (List.range 32) (fun i s => if s.ttDue i then s.ttFire i mirage else s)

/-- True when comparator i's pulse ends (R530). -/
def State.pulseEnds (s : State) (i : Nat) : Bool :=
  match (s.tt i).pulseEnd with
  | none => false
  | some t => decide (t ≤ s.now)

/-- A pulse ends. -/
def State.pulseEnd (s : State) (i : Nat) : State :=
  (s.setGpio (s.fld (.ttCfg i) fTtCfg_IDX) false).setTt i { s.tt i with pulseEnd := none }

end Sys2Proof.Machine
end

