-- ==== Sys2Proof/Machine/NetOps.lean ====
section
/-! DEFINITION. Psiend in a head: link training, frames, the guardian, muting, commands, forwarding, the dynamic segment
and the parameter service (12_psiend_links.md, 13_psiend_cycle.md; R397 to R464, R708, R709). -/
namespace Sys2Proof.Machine

/-! ### Check sequences and frames (R411 to R415) -/

/-- CRC-8 of a sync or a header: polynomial 0x07, initial 0. -/
def crc8 (l : List Byte) : Nat := crcMsb 8 0x07 0 (l.flatMap byteBitsMsb)
/-- The frame check sequence: CRC-32, reflected, initial and final XOR 0xFFFF_FFFF. -/
def fcs32 (l : List Byte) : Nat := Nat.xor (crcRefl 0xEDB88320 0xFFFFFFFF l) 0xFFFFFFFF
/-- CRC-32C (R91). -/
def crc32c (l : List Byte) : Nat := Nat.xor (crcRefl 0x82F63B78 0xFFFFFFFF l) 0xFFFFFFFF

/-- Bytes from numbers. -/
def toBytes (l : List Nat) : List Byte := l.map (fun n => BitVec.ofNat 8 n)

/-- The 8 header bytes (R412). -/
def frameHdr (type node nrec nsc cyc8 status plen fwd : Nat) : List Byte :=
  let h := toBytes [type + 64 * fwd, node, nrec + 16 * nsc, cyc8, status, plen % 256, plen / 256]
  h ++ toBytes [crc8 h]

/-- Header, body and frame check sequence. -/
def frameBytes (hdr body : List Byte) : List Byte := hdr ++ body ++ leBytes 4 (fcs32 (hdr ++ body))

/-- Header fields. -/
def hType (h : List Byte) : Nat := byteAt h 0 % 16
def hNode (h : List Byte) : Nat := byteAt h 1 % 128
def hNrec (h : List Byte) : Nat := byteAt h 2 % 16
def hNsc (h : List Byte) : Nat := byteAt h 2 / 16 % 8
def hCyc8 (h : List Byte) : Nat := byteAt h 3
def hStatus (h : List Byte) : Nat := byteAt h 4
def hPlen (h : List Byte) : Nat := leAt h 5 2

/-- True for the cyclic types. -/
def cyclicType (t : Nat) : Bool := t == 1 || t == 2

/-- The body length a header gives (R411). -/
def hBody (h : List Byte) : Nat := if cyclicType (hType h) then 16 * (hNrec h + hNsc h) else hPlen h

/-- NREC, NSC and PLEN as R412, R413 and R476 allow them, BULK as R462 does. -/
def hLenOk (h : List Byte) : Bool :=
  let t := hType h
  let p := hPlen h
  if cyclicType t then p == 0 && decide (hNrec h ≤ 8) && decide (hNsc h ≤ 4)
  else decide (hNrec h = 0 ∧ hNsc h = 0) && p % 4 == 0 &&
    (if t = 5 then decide (8 ≤ p ∧ p ≤ 1024) else if t = 6 then p == 16 else if t = 7 then p == 8 else if t = 8 then p == 16
     else if t = 12 then p == 32 else if t = 13 then p == 772 else if t = 14 then decide (16 ≤ p ∧ p ≤ 256)
     else if t = 15 then p == 956 || p == 528 else decide (p ≤ 1024))

/-- The types a receiver takes: by the guardian's window in a head's branch port, the network's own in a drive, those of
R476 on the head link (R416, R444, R476). -/
def typePermitted (p kind t : Nat) : Bool :=
  if 64 ≤ p then [6, 7, 8, 12, 13, 14, 15].contains t
  else if kind = 0 then t == 1 else if kind = 1 then [3, 4, 5].contains t else if kind = 2 then t == 7
  else decide (1 ≤ t ∧ t ≤ 8)

/-- Step 1 of R416 on the header bytes. -/
def hFormatOk (p kind : Nat) (h : List Byte) : Bool :=
  byteAt h 7 == crc8 (h.take 7) && byteAt h 0 / 16 % 4 == 0 && typePermitted p kind (hType h) && hLenOk h

/-! ### Link states (R401 to R404, R709) -/

def lsOFF : Nat := 0
def lsDETECT : Nat := 1
def lsACQUIRE : Nat := 2
def lsADAPT : Nat := 3
def lsUP : Nat := 4
def lsTEST : Nat := 5

/-- LSTATE of port p. -/
def State.link (s : State) (p : Nat) : Nat := s.fld (.portStat p) fPortStat_LSTATE
/-- The port's link takes a state. -/
def State.setLink (s : State) (p st : Nat) : State :=
  (s.setPort p { s.port p with since := s.now }).setFld (.portStat p) fPortStat_LSTATE st

/-- UP with its weir OPEN: the port sends and accepts frames (R404, R431). -/
def State.portOn (s : State) (p : Nat) : Bool := s.link p == lsUP && s.weirOpen (192 + p)

/-- An error counter of port p (EV_ERR raises its flag). -/
def State.portErr (s : State) (p : Nat) (r : Reg) (f : Fld) : State :=
  (s.incSat r f).raiseIf (s.flag (.portCtl p) fPortCtl_EV_ERR) (192 + p)

/-- A transmission sent complete is counted (TX_FRAMES, FWD SENT). -/
def State.txCount (s : State) (p : Nat) : State :=
  let h := s.port p
  if h.txOwed then
    let s := s.setPort p { h with txOwed := false, txCopy := none }
    let s := s.incWrap (.portTxFrames p) fPortTxFrames_COUNT
    match h.txCopy with
    | some e => s.incWrap (.fwdStat e) fFwdStat_SENT
    | none => s
  else s

/-- A transmission that has ended is counted. -/
def State.txSettle (s : State) (p : Nat) : State := if (s.port p).txUntil ≤ s.now then s.txCount p else s

/-- True while a transmission, or the 16 ns of idle after it, lasts on port p (R407). -/
def State.txBusy (s : State) (p : Nat) : Bool := decide (s.now < (s.port p).txUntil + 8)

/-- A frame starts on port p at tick t, after the transmission in progress: SD, the bytes and ED take 4 ns each. One that is still
running is counted with the placing of the next (DESIGN CHOICE, log entry 39). -/
def State.transmitAt (s : State) (p t : Nat) (b : List Byte) (copy : Option Nat) : State :=
  let s := if s.now < t then s.txCount p else s.txSettle p
  s.setPort p { s.port p with
    txFrom := t, txUntil := t + 2 * (b.length + 2), txOwed := true, txCopy := copy, sent := b, rpt := none }

/-- A frame starts on port p now. -/
def State.transmit (s : State) (p : Nat) (b : List Byte) (copy : Option Nat) : State := s.transmitAt p s.now b copy

/-- True while a transmission has begun on port p and not ended. -/
def State.txRuns (s : State) (p : Nat) : Bool := decide ((s.port p).txFrom ≤ s.now) && decide (s.now < (s.port p).txUntil)

/-- The transmission in progress on port p ends with EE (R402, R431, R455); one that has not begun is not sent. -/
def State.txEnd (s : State) (p : Nat) : State :=
  let s := s.txSettle p
  let h := s.port p
  if s.now < h.txUntil then
    s.setPort p { h with txUntil := if h.txFrom ≤ s.now then s.now + 2 else s.now, txOwed := false, txCopy := none }
  else s

/-- The port a drive repeats port p's traffic to (R425). -/
def rptPort (p : Nat) : Nat := if p = 0 then 2 else if p = 1 then 3 else if p = 2 then 0 else 1

/-- A pair of a drive's ports stops repeating while port p takes no traffic: what it repeats from p ends with EE, and RPT_NS of both
reads 0 (R425, R427, R431). -/
def State.repeatStop (s : State) (p : Nat) : State :=
  if s.isDrive && decide (p < 4) then
    let o := rptPort p
    let s := (s.setFld (.portStat p) fPortStat_RPT_NS 0).setFld (.portStat o) fPortStat_RPT_NS 0
    if (s.port o).rpt = some p then
      let s := s.txEnd o
      s.setPort o { s.port o with rpt := none }
    else s
  else s

/-- A port's weir leaves OPEN: its transmission is aborted and its receiver drops what it had (R431). -/
def State.txAbort (s : State) (p : Nat) : State :=
  let cut := s.txRuns p
  let s := (s.repeatStop p).txEnd p
  let s := if cut then s.portErr p (.portErr4 p) fPortErr4_TX_ABORT else s
  s.setPort p { s.port p with rx := {}, rngIn := none, rngReq := none, rpt := none }

/-- A link leaves UP (R402): LINK_DOWN, DOWN_CAUSE, EV_DOWN. A frame being received fails. -/
def State.leaveUp (s : State) (p cause : Nat) : State :=
  let s := (s.repeatStop p).txEnd p
  let h := s.port p
  let s := s.setPort p { h with rx := { h.rx with bad := true }, rngReq := none, rpt := none }
  let s := (s.portErr p (.portErr0 p) fPortErr0_LINK_DOWN).setFld (.portStat p) fPortStat_DOWN_CAUSE cause
  s.raiseIf (s.flag (.portCtl p) fPortCtl_EV_DOWN) (192 + p)

/-- A port returns to DETECT; from UP it leaves by a cause. EQ_CODE reads 0 (R709). -/
def State.toDetect (s : State) (p cause : Nat) : State :=
  let s := if s.link p = lsUP then s.leaveUp p cause else s
  ((s.setLink p lsDETECT).setFld (.portStat p) fPortStat_EQ_CODE 0).setFlag (.portStat p) fPortStat_ALIGNED false

/-- Signal has been present for 10 µs (R401); a port without power detects none. -/
def State.signalDetected (s : State) (p : Nat) : State :=
  let s := if s.link p = lsOFF then s else s.setFlag (.portStat p) fPortStat_SIG_DET true
  if s.link p = lsDETECT then s.setLink p lsACQUIRE else s

/-- True when a port in ADAPT uses a fixed equaliser code. -/
def State.eqFixed (s : State) (p : Nat) : Bool := s.flag (.portCfg p) fPortCfg_EQ_MODE

/-- The equaliser code in use: EQ_FIXED in fixed mode, what the adaptation gives otherwise (R709)
(DESIGN CHOICE, log entry 36). -/
def State.setEq (s : State) (p eq : Nat) : State :=
  s.setFld (.portStat p) fPortStat_EQ_CODE (if s.eqFixed p then s.fld (.portCfg p) fPortCfg_EQ_FIXED else eq)

/-- ACQUIRE to ADAPT (R401). -/
def State.linkAcquired (s : State) (p eq : Nat) : State :=
  ((s.setLink p lsADAPT).setEq p eq).setFlag (.portStat p) fPortStat_ALIGNED true

/-- True when a port has been in a link state for n fabric ticks. -/
def State.linkFor (s : State) (p st n : Nat) : Bool := s.link p == st && decide ((s.port p).since + n ≤ s.now)

/-- Ticks a port spends in ADAPT at least: 1 ms of adaptation unless fixed, and 4,096 code groups (R401). -/
def State.adaptTicks (s : State) (p : Nat) : Nat := (if s.eqFixed p then 0 else 500000) + 8192

/-- True when a port in ADAPT has adapted and received 4,096 consecutive code groups without an error (R401). -/
def State.adaptDone (s : State) (p : Nat) : Bool :=
  s.linkFor p lsADAPT (s.adaptTicks p) && (match (s.port p).errs with
    | [] => true
    | t :: _ => decide (t + 8192 ≤ s.now))

/-- RETRAIN returns a port that trains or is UP to DETECT; TEST leaves only with CTL.TEST (R401, R402). -/
def State.retrain (s : State) (p : Nat) : State := if s.link p = lsOFF || s.link p = lsTEST then s else s.toDetect p 3

/-- ADAPT to UP (R401): the receiver looks for SD or SYN, and a head in LISTEN starts its count (R465). -/
def State.linkUp (s : State) (p eq : Nat) : State :=
  let s := (s.setLink p lsUP).setEq p eq
  let s := s.setPort p { s.port p with rx := {}, errs := [] }
  if s.fld .netCsStat fNetCsStat_STATE = 1 && !s.net.csHears then
    { s with net := { s.net with csFrom := s.now, csHears := true } }
  else s

/-- ADAPT times out (R401). -/
def State.adaptTimeout (s : State) (p : Nat) : State :=
  (s.toDetect p 0).incSat (.portStat p) fPortStat_TRAIN_FAIL

/-- Signal lost for 1 µs (R402): a link that is UP leaves it. -/
def State.signalLost (s : State) (p : Nat) : State :=
  let s := s.setFlag (.portStat p) fPortStat_SIG_DET false
  if s.link p = lsUP then s.toDetect p 1 else s

/-- True when 16 invalid code groups lie within 1,024 ns (R402). -/
def State.errLimitReached (s : State) (p : Nat) : Bool :=
  s.link p == lsUP && decide (16 ≤ (s.port p).errs.length) &&
    (match (s.port p).errs.getLast? with
     | some t => decide (s.now < t + 512)
     | none => false)

/-- An invalid code group or a disparity error (R406); what it does to a frame's header (R417) or body (R418). Kinds 2 and 3 are the
checker of TEST = 1 locking and finding a bit error (R403). -/
def State.invalidGroup (s : State) (p kind : Nat) : State :=
  if s.link p = lsTEST then
    if s.fld (.portCtl p) fPortCtl_TEST ≠ 1 then s
    else if kind = 2 then s.setFlag (.portPrbs p) fPortPrbs_LOCK true
    else if kind = 3 && s.flag (.portPrbs p) fPortPrbs_LOCK then s.incSat (.portPrbs p) fPortPrbs_ERR_CNT
    else s
  else if (s.link p = lsUP || s.link p = lsADAPT) && decide (kind < 2) then
    let s := s.portErr p (.portErr0 p) (if kind = 0 then fPortErr0_CODE_ERR else fPortErr0_DISP_ERR)
    let h := s.port p
    let s := s.setPort p { h with errs := (s.now :: h.errs).take 16 }
    let h := s.port p
    if h.rx.st = 1 || h.rx.st = 2 then s.setPort p { h with rx := { h.rx with bad := true } } else s
  else s

/-- A port in TEST (R403): from UP it leaves with cause 3. -/
def State.portTest (s : State) (p mode : Nat) : State :=
  let s := if s.link p = lsUP then s.leaveUp p 3 else s
  let s := (s.setFld (.portCtl p) fPortCtl_TEST mode).setReg (.portPrbs p) 0
  if s.link p = lsOFF then s else s.setLink p lsTEST

/-- TEST = 0 (R401). -/
def State.portTestExit (s : State) (p : Nat) : State :=
  let s := s.setFld (.portCtl p) fPortCtl_TEST 0
  if s.link p = lsTEST then s.toDetect p 3 else s

/-- PORT[p].CNT_CLR. -/
def State.portCntClr (s : State) (p : Nat) : State :=
  let s := s.txSettle p
  let s := ((s.setReg (.portErr0 p) 0).setReg (.portErr1 p) 0).setReg (.portErr2 p) 0
  let s := ((s.setReg (.portErr3 p) 0).setReg (.portErr4 p) 0).setReg (.portRxFrames p) 0
  ((s.setReg (.portTxFrames p) 0).setFld (.portStat p) fPortStat_TRAIN_FAIL 0).setFld (.portPrbs p) fPortPrbs_ERR_CNT 0

/-! ### Layout of the cycle (R433), in fabric ticks -/

/-- A field of SEG_CFG in units of 8 ns. -/
def State.segTicks (s : State) (f : Fld) : Nat := s.fld .netSegCfg f * 4
/-- A field of GRD_CFG in units of 4 ns. -/
def State.grdTicks (s : State) (f : Fld) : Nat := s.fld .netGrdCfg f * 2
/-- Opening of slot i, from the boundary. -/
def State.slotStart (s : State) (i : Nat) : Nat := s.segTicks fNetSegCfg_STATIC_START + i * s.segTicks fNetSegCfg_SLOT_LEN
/-- Opening of mini-slot m, from the boundary. -/
def State.msStart (s : State) (m : Nat) : Nat := s.segTicks fNetSegCfg_DYN_START + m * 40
/-- APO in ticks. -/
def State.apo (s : State) : Nat := s.grdTicks fNetGrdCfg_APO
/-- OI in ticks from the boundary. -/
def State.oiTicks (s : State) : Nat := s.fld .netCycCfg fNetCycCfg_OI * 4
/-- RNG_MS. -/
def State.rngMs (s : State) : Nat := s.fld .netDynCfg fNetDynCfg_RNG_MS
/-- MS_COUNT. -/
def State.msCount (s : State) : Nat := s.fld .netDynCfg fNetDynCfg_MS_COUNT

/-- The 128 nodes. -/
def allNodes : List Nat := List.range 128
/-- True for a node entry in use. -/
def State.nodeUsed (s : State) (k : Nat) : Bool := s.flag (.nodeCfg k) fNodeCfg_USED
/-- Port of node k. -/
def State.nodePort (s : State) (k : Nat) : Nat := s.fld (.nodeCfg k) fNodeCfg_PORT
/-- The nodes behind port p. -/
def State.nodesOn (s : State) (p : Nat) : List Nat := allNodes.filter (fun k => s.nodeUsed k && s.nodePort k == p)
/-- HSTATE of node k (DEDUCED, log entry 33). -/
def State.hstate (s : State) (k : Nat) : Nat := s.fld (.nodeStat k) fNodeStat_HSTATE
def hsSILENT : Nat := 1
def hsRANGING : Nat := 2
def hsACTIVE : Nat := 3
def hsMUTED : Nat := 4
/-- True while the head mutes node k (R447). -/
def State.muted (s : State) (k : Nat) : Bool := s.hstate k == hsMUTED

/-- A guardian window (R444): its kind (0 slot, 1 allocation, 2 ranging), its node, its opening and its close, the last
tick of an admitted first symbol, and the region it lies in; ticks are absolute. -/
structure Win where
  kind : Nat
  node : Nat
  open_ : Nat
  close : Nat
  last : Nat
  from_ : Nat
  to_ : Nat
  deriving DecidableEq, Repr

/-- The window of a region that begins and ends at offsets from the boundary. -/
def State.mkWin (s : State) (kind node a b : Nat) : Win :=
  let lo := s.bndAt + a
  let hi := s.bndAt + b
  let close := hi - s.grdTicks fNetGrdCfg_G_CLOSE
  { kind := kind, node := node, open_ := lo + s.apo - s.grdTicks fNetGrdCfg_G_EARLY, close := close
    last := if kind = 2 then hi - 160 else close, from_ := lo, to_ := hi }

/-- The slot window of node k. -/
def State.slotWin (s : State) (k : Nat) : Win :=
  let a := s.slotStart (s.fld (.nodeCfg k) fNodeCfg_SLOT)
  s.mkWin 0 k a (a + s.segTicks fNetSegCfg_SLOT_LEN)
/-- The uplink allocation window of node k (R458). -/
def State.upWin (s : State) (k : Nat) : Win :=
  let m := s.fld (.nodeCfg k) fNodeCfg_UP_FIRST
  s.mkWin 1 k (s.msStart m) (s.msStart (m + s.fld (.nodeCfg k) fNodeCfg_UP_MS))
/-- The ranging window (R441). -/
def State.rngWin (s : State) : Win := s.mkWin 2 128 (s.msStart 0) (s.msStart s.rngMs)

/-- The windows of port p in the cycle. -/
def State.windows (s : State) (p : Nat) : List Win :=
  let ks := s.nodesOn p
  ks.map s.slotWin ++ (ks.filter (fun k => s.fld (.nodeCfg k) fNodeCfg_UP_MS != 0)).map s.upWin ++
    (if s.msCount = 0 then [] else [s.rngWin])

/-- True when the tick now lies in a slot of the static segment that no node of port p owns (DEDUCED, log entry 34). -/
def State.ownerless (s : State) (p : Nat) : Bool :=
  let off := s.now - s.bndAt
  let l := s.segTicks fNetSegCfg_SLOT_LEN
  let a := s.segTicks fNetSegCfg_STATIC_START
  decide (a ≤ off) && l != 0 && decide ((off - a) / l < s.fld .netSegCfg fNetSegCfg_SLOT_COUNT) &&
    !(s.nodesOn p).any (fun k => s.fld (.nodeCfg k) fNodeCfg_SLOT == (off - a) / l)

/-- The window with the earliest opening after now (DEDUCED, log entry 34). -/
def Win.next (now : Nat) : List Win → Option Win
  | [] => none
  | w :: t =>
    match Win.next now t with
    | none => if now < w.open_ then some w else none
    | some v => if now < w.open_ && decide (w.open_ ≤ v.open_) then some w else some v

/-- The window with the latest close (DEDUCED, log entry 34). -/
def Win.latest : List Win → Option Win
  | [] => none
  | w :: t =>
    match Win.latest t with
    | none => some w
    | some v => if v.close < w.close then some w else some v

/-! ### The guardian (R444 to R447) -/

/-- A violation of node k is counted (R445, R447) (DEDUCED, log entry 34). -/
def State.violation (s : State) (k : Nat) (f : Fld) : State :=
  if 128 ≤ k then s
  else
    let s := s.incSat (.nodeGrd k) f
    let h := s.node k
    let v := match h.viol with
      | [] => [1]
      | a :: t => (a + 1) :: t
    let s := s.setNode k { h with viol := v }
    s.setFld (.nodeStat k) fNodeStat_VIOL (min 3 (v.foldl (· + ·) 0))

/-- The receiver of port p ignores code groups until the next window (R446). -/
def State.rxIgnore (s : State) (p : Nat) : State :=
  s.setPort p { s.port p with rx := { st := 4, start := s.now } }

/-- A start outside every window (R445): EARLY or LATE for the node of the region it falls in, for the next window of the
cycle, or for the last. -/
def State.unadmitted (s : State) (p : Nat) : State :=
  let ws := s.windows p
  let s := if s.ownerless p then s.portErr p (.portErr4 p) fPortErr4_ID_ERR
    else match ws.find? (fun w => decide (w.from_ ≤ s.now ∧ s.now < w.to_)) with
      | some w => s.violation w.node (if s.now < w.open_ then fNodeGrd_EARLY else fNodeGrd_LATE)
      | none =>
        match Win.next s.now ws with
        | some w => s.violation w.node fNodeGrd_EARLY
        | none =>
          match Win.latest ws with
          | some w => s.violation w.node fNodeGrd_LATE
          | none => s
  s.rxIgnore p

/-- A frame's first symbol reaches port p (R444). A drive's ports and the head link have no guardian. -/
def State.frameStart (s : State) (p : Nat) : State :=
  if (s.port p).rx.st ≠ 0 || !s.portOn p then s
  else if 64 ≤ p || s.isDrive then
    s.setPort p { s.port p with rx := { st := 1, kind := 3, start := s.now, t48 := s.t48 } }
  else if ! [2, 4, 5].contains (s.fld .netCsStat fNetCsStat_STATE) then s
  else match (s.windows p).find? (fun w => decide (w.open_ ≤ s.now ∧ s.now ≤ w.last)) with
    | none => s.unadmitted p
    | some w =>
      if w.kind ≠ 2 && s.muted w.node then s.rxIgnore p
      else
        let s := if w.kind = 0 then s.setNode w.node { s.node w.node with start := s.now } else s
        s.setPort p { s.port p with
          rx := { st := 1, kind := w.kind, node := w.node, start := s.now, close := w.close, t48 := s.t48 } }

/-- The node a header must name: the window's owner, any node of the branch in the ranging window. -/
def State.hNodeOk (s : State) (p : Nat) (r : RxH) (h : List Byte) : Bool :=
  if r.kind = 3 then true
  else if r.kind = 2 then (s.nodesOn p).contains (hNode h)
  else hNode h == r.node

/-- A frame that a drive ignores: addressed to another node, and no COLD_START (R416). A forwarded copy is one: the spec gives a drive
no setting that subscribes to copies (DEDUCED, log entry 33). -/
def State.otherNode (s : State) (p : Nat) (h : List Byte) : Bool :=
  s.isDrive && decide (p < 64) && hType h != 6 && (hType h == 1 || hNode h != s.fld .netSelf fNetSelf_NODE)

/-- The 8 header code groups have come (R416, R417); good when each was a data code group (DEDUCED, log entry 33). -/
def State.frameHeader (s : State) (p : Nat) (h : List Byte) (good : Bool) : State :=
  let r := (s.port p).rx
  let fail (s : State) : State := s.setPort p { s.port p with rx := { r with st := 3 } }
  if !(good && !r.bad && hFormatOk p r.kind h) then fail (s.portErr p (.portErr1 p) fPortErr1_HDR_ERR)
  else if s.otherNode p h then fail s
  else if hCyc8 h ≠ s.cycleN % 256 && hType h != 6 then fail (s.portErr p (.portErr2 p) fPortErr2_STALE)
  else if !s.hNodeOk p r h then fail (s.portErr p (.portErr4 p) fPortErr4_ID_ERR)
  else
    let k := if r.kind = 2 then hNode h else r.node
    let s := if r.kind = 0 then
        (s.setNode k { s.node k with seen := true, recs := [], status := hStatus h, frame := h }).setFld (.nodeStat k) fNodeStat_HSTATE hsACTIVE
      else s
    s.setPort p { s.port p with rx := { r with st := 2, node := k, hdr := h } }

/-- True when the header of the frame on port p may be complete: SD and 8 code groups have passed. -/
def State.headerDue (s : State) (p : Nat) : Bool :=
  let r := (s.port p).rx
  r.st == 1 && decide (r.start + 18 ≤ s.now)

/-- True when record r of the frame on port p may be complete. -/
def State.recordDue (s : State) (p : Nat) : Bool :=
  let r := (s.port p).rx
  r.st == 2 && r.kind == 0 && !r.bad && decide (r.recs < hNrec r.hdr) &&
    decide (r.start + 2 * (9 + 16 * (r.recs + 1)) ≤ s.now)

/-- A feedback record completes on port p (R136, R139). -/
def State.recordComplete (s : State) (p : Nat) (b : List Byte) : State :=
  let h := s.port p
  let r := h.rx
  let i := r.recs
  let s := s.setPort p { h with rx := { r with recs := i + 1, body := r.body ++ b } }
  let s := s.setNode r.node { s.node r.node with frame := (s.node r.node).frame ++ b }
  let t := s.bndAt + s.slotStart (s.fld (.nodeCfg r.node) fNodeCfg_SLOT) + s.apo + 2 * (9 + 16 * (i + 1))
  let late := decide (4 < ((s.now : Int) - (t : Int)).natAbs)
  s.each ((s.axesOfRec r.node i).filter (fun n => s.kind n == kindNETWORK)) (fun n s => s.recordRelease n b late)

/-! ### Forwarding (R454, R455) -/

/-- The 192 forwarding entries. -/
def allFwd : List Nat := List.range 192

/-- The ports with a copy of node k's frame under way, with the entry. -/
def State.copiesOf (s : State) (k : Nat) : List (Nat × Nat) :=
  (List.range 64).filterMap (fun p =>
    match (s.port p).txCopy with
    | some e => if s.fld (.fwdCfg e) fFwdCfg_SRC_NODE = k && decide (s.now < (s.port p).txUntil) then some (p, e) else none
    | none => none)

/-- Every copy of node k's frame under way ends with EE and counts CUT (R455). -/
def State.cutCopies (s : State) (k : Nat) : State :=
  (s.copiesOf k).foldl (fun s c => (s.txEnd c.1).incSat (.fwdStat c.2) fFwdStat_CUT) s

/-- The bytes of a forwarded or echoed copy: FWD = 1 with HCRC and FCS recomputed. -/
def copyBytes (hdr body : List Byte) : List Byte :=
  let h := toBytes [Nat.lor (byteAt hdr 0) 64] ++ (hdr.drop 1).take 6
  frameBytes (h ++ toBytes [crc8 h]) body

/-- Entry e may have its window now: in use, not yet had in the cycle, WIN_START reached. -/
def State.fwdDue (s : State) (e : Nat) : Bool :=
  s.flag (.fwdCfg e) fFwdCfg_USED && !s.net.fwdDone.contains e &&
    decide (s.bndAt + 2 * s.fld (.fwdCfg e) fFwdCfg_WIN_START ≤ s.now)

/-- The bytes of the copies of node k's frame as far as it has come. -/
def State.copyOf (s : State) (k : Nat) : List Byte := copyBytes ((s.node k).frame.take 8) ((s.node k).frame.drop 8)

/-- The copies of node k's frame under way carry the bytes that have come (R455). -/
def State.copiesFill (s : State) (k : Nat) : State :=
  (s.copiesOf k).foldl (fun s c => s.setPort c.1 { s.port c.1 with sent := s.copyOf k }) s

/-- The forwarding entry's window starts (R454): a copy of the source frame, or MISS; none of a frame that has already failed, so
that no copy delivers what the head discarded (R455) (DEDUCED, log entry 45). -/
def State.fwdStart (s : State) (e : Nat) : State :=
  let s := { s with net := { s.net with fwdDone := e :: s.net.fwdDone } }
  let k := s.fld (.fwdCfg e) fFwdCfg_SRC_NODE
  let p := s.fld (.fwdCfg e) fFwdCfg_DST_PORT
  let h := s.node k
  if !s.portOn p then s
  else if !h.seen || h.recomputed || decide (s.bndAt + 2 * s.fld (.fwdCfg e) fFwdCfg_WIN_START < h.start + 32) || s.txBusy p then
    s.incSat (.fwdStat e) fFwdStat_MISS
  else
    let n := 16 * (s.fld (.nodeCfg k) fNodeCfg_NREC + s.fld (.nodeCfg k) fNodeCfg_NSC)
    let s := s.transmit p (s.copyOf k) (some e)
    s.setPort p { s.port p with txUntil := s.now + 2 * (14 + n) }

/-! ### The frame check (R198, R416, R418) -/

/-- A frame that failed: recomputes for a feedback frame, its copies cut, the receiver ignores until idle (R418). -/
def State.frameFail (s : State) (p : Nat) : State :=
  let r := (s.port p).rx
  let s := if r.kind = 0 then (s.cutCopies r.node).recomputeNode r.node true else s
  s.setPort p { s.port p with rx := { r with st := 3 } }

/-- A body's 16-byte units from unit i on, n of them. -/
def units (b : List Byte) (i n : Nat) : List (List Byte) := (List.range n).map (fun j => (b.drop (16 * (i + j))).take 16)

/-- The containers of a frame of node k are delivered to Oasis (R424). -/
def State.contDeliver (s : State) (k : Nat) (l : List (List Byte)) : State :=
  { s with net := { s.net with contIn := s.net.contIn ++ l.zipIdx.map (fun x => (k, x.2, x.1)) } }

/-- What a frame that passed its check does by its kind; onRec takes each record of an axis, whole tells whether every
check passed (R416, R424, R461, R463). -/
def State.frameAccept (s : State) (p : Nat) (body : List Byte) (whole : Bool) (onRec : Nat → List Byte → State → State) :
    State :=
  let r := (s.port p).rx
  let t := hType r.hdr
  let nrec := hNrec r.hdr
  if r.kind = 0 then
    let k := r.node
    let recs := units body 0 nrec
    let s := (s.setNode k { s.node k with
      recs := recs, whole := whole, lastSym := r.start + 2 * (14 + hBody r.hdr), frame := r.hdr ++ body }).copiesFill k
    let s := recs.zipIdx.foldl (fun s x => s.each (s.axesOfRec k x.2) (fun n s => onRec n x.1 ((s.applyRecord n x.1).showAge n))) s
    let s := if whole then s.contDeliver k (units body nrec (hNsc r.hdr)) else s
    s.commitNode k
  else if r.kind = 2 then
    s.setPort p { s.port p with rngIn := some (r.node, leAt body 0 6, r.start) }
  else if t = 4 || t = 5 then
    { s with net := { s.net with dynIn := s.net.dynIn ++ [⟨r.t48, p, r.hdr ++ body⟩] } }
  else if t = 3 then { s with net := { s.net with svcIn := s.net.svcIn ++ [{ port := p, node := hNode r.hdr, body := body }] } }
  else if t = 7 then
    if 64 ≤ p then s.setPort p { s.port p with rngIn := some (hNode r.hdr, leAt body 0 6, r.start) } else s
  else
    let s := if whole && t == 2 then
        s.contDeliver (hNode r.hdr) (units body nrec (hNsc r.hdr))
      else s
    { s with net := { s.net with inbox := s.net.inbox ++ [⟨t, p, r.start, r.hdr, body⟩] } }

/-- The oldest frame of a type in the inbox (DESIGN CHOICE, log entry 39). -/
def State.inFirst (s : State) (t : Nat) : Option InFrame := s.net.inbox.find? (fun f => f.type == t)
/-- The inbox without a frame (DESIGN CHOICE, log entry 39). -/
def State.inTake (s : State) (f : InFrame) : State := { s with net := { s.net with inbox := s.net.inbox.erase f } }

/-- A BULK body whose FLAGS has a bit of [7:4] set fails step 1 (R462). -/
def bulkBad (h body : List Byte) : Bool := hType h == 5 && decide (16 ≤ byteAt body 1)

/-- True when the last byte of the frame check sequence on port p may have come. -/
def State.checkDue (s : State) (p : Nat) : Bool :=
  let r := (s.port p).rx
  r.st == 2 && decide (r.start + 2 * (13 + hBody r.hdr) ≤ s.now)

/-- The frame check of port p (R198, R416, R418): what follows the records received, the check sequence, and how the
frame ended: 0 with ED; 1 with ED missing or replaced; 2 where its first failure was an EE; 3 where it was SD, ED, SYN or idle before
its length. A frame whose first failure was an invalid code group counts nothing more. -/
def State.frameCheck (s : State) (p : Nat) (rest : List Byte) (fcs ending : Nat) (onRec : Nat → List Byte → State → State) :
    State :=
  let r := (s.port p).rx
  let body := r.body ++ rest
  if ending = 2 then (s.portErr p (.portErr2 p) fPortErr2_EE_RX).frameFail p
  else if ending = 3 then (s.portErr p (.portErr1 p) fPortErr1_LEN_ERR).frameFail p
  else if r.bad then s.frameFail p
  else if body.length ≠ hBody r.hdr then (s.portErr p (.portErr1 p) fPortErr1_LEN_ERR).frameFail p
  else if fcs ≠ fcs32 (r.hdr ++ body) then (s.portErr p (.portErr1 p) fPortErr1_FCS_ERR).frameFail p
  else if bulkBad r.hdr body then (s.portErr p (.portErr1 p) fPortErr1_HDR_ERR).frameFail p
  else
    let whole := ending == 0
    let s := if whole then s.incWrap (.portRxFrames p) fPortRxFrames_COUNT
      else s.portErr p (.portErr2 p) fPortErr2_ED_ERR
    let s := s.frameAccept p body whole onRec
    s.setPort p { s.port p with rx := { r with st := if whole then 0 else 3, body := body } }

/-! ### Window close and open (R200, R445, R446) -/

/-- The window of a close: node k's slot (0) or allocation (1), or the ranging window of a port (2). -/
def State.winOf (s : State) (kind k : Nat) : Win :=
  if kind = 0 then s.slotWin k else if kind = 1 then s.upWin k else s.rngWin

/-- True when the window has reached its close. -/
def State.closeDue (s : State) (p kind k : Nat) : Bool :=
  [4, 5].contains (s.fld .netCsStat fNetCsStat_STATE) && decide ((s.winOf kind k).close ≤ s.now) &&
    (kind == 2 || (s.nodesOn p).contains k)

/-- A guardian window closes (R200, R445): a frame still arriving is cut and counted OVERRUN; a node whose frame did not
start has its axes recomputed. -/
def State.windowClose (s : State) (p kind k : Nat) : State :=
  let r := (s.port p).rx
  let cut := (r.st == 1 || r.st == 2) && r.kind == kind && (kind == 2 || r.node == k)
  let s := if cut then
      let s := s.violation r.node fNodeGrd_OVERRUN
      let s := if kind = 0 then (s.cutCopies k).recomputeNode k true else s
      s.rxIgnore p
    else s
  if kind = 0 && !(s.node k).seen && !(s.node k).recomputed then s.recomputeNode k false else s

/-- True when a window of port p has opened since its receiver began to ignore code groups (R446). -/
def State.openDue (s : State) (p : Nat) : Bool :=
  let r := (s.port p).rx
  r.st == 4 && (s.windows p).any (fun w => decide (r.start < w.open_ ∧ w.open_ ≤ s.now))

/-- The receiver of port p looks for SD or SYN again. -/
def State.rxLook (s : State) (p : Nat) : State := s.setPort p { s.port p with rx := { (s.port p).rx with st := 0 } }

/-! ### Command frames (R46, R199, R414, R422, R452, R492) -/

/-- STATUS of a command frame (R414, R492): ABDICATE, LEADER, UNCHECKED. -/
def State.cmdStatus (s : State) : Nat :=
  if !s.twin then 2
  else
    let lead := s.fld .twnStat fTwnStat_TSTATE == 5 && decide (s.twn.leadFrom ≤ s.now)
    b2n (!lead) + 2 * b2n lead + 4 * s.fld .twnStat fTwnStat_UNCHECKED

/-- The command records of node k's frame, zeros for a record without a NETWORK axis. -/
def State.cmdRecords (s : State) (k : Nat) : List Byte :=
  (List.range (s.fld (.nodeCfg k) fNodeCfg_NREC)).flatMap (fun r =>
    match (s.axesOfRec k r).find? (fun n => s.kind n == kindNETWORK) with
    | some n => s.cmdToSend n
    | none => leBytes 16 0)

/-- The containers of node k's command frame, as Oasis supplied them (R424). -/
def State.cmdContainers (s : State) (k : Nat) : List Byte :=
  let n := 16 * s.fld (.nodeCfg k) fNodeCfg_NSC
  let b := tabGet [] s.net.contOut k
  b.take n ++ leBytes (n - min n b.length) 0

/-- Node k's command frame. -/
def State.cmdFrame (s : State) (k : Nat) : List Byte :=
  frameBytes (frameHdr 2 k (s.fld (.nodeCfg k) fNodeCfg_NREC) (s.fld (.nodeCfg k) fNodeCfg_NSC) (s.cycleN % 256)
    s.cmdStatus 0 0) (s.cmdRecords k ++ s.cmdContainers k)

/-- The conditions of R206: at most 8 axes, each running the standard cascade in the pledged class, with the frame check passed. A
frame that waited for its downlink is recorded too (R452). -/
def State.turnCounts (s : State) (k : Nat) : Bool :=
  let ax := s.netAxesOf k
  (s.node k).passed && decide (ax.length ≤ 8) &&
    ax.all (fun n => s.isStandard n && s.fld (.shrReqCfg 0 n) fShrReqCfg_CLASS == 1 && !(s.job n).metered)

/-- JET.TURN_STAT takes a turnaround in ns (DEDUCED, log entry 40). -/
def State.turnRecord (s : State) (p ns : Nat) : State :=
  let s := s.setFld .jetTurnStat fJetTurnStat_LAST_NS (satU 10 ns)
  let s := if s.fld .jetTurnStat fJetTurnStat_MAX_NS < ns then
      (s.setFld .jetTurnStat fJetTurnStat_MAX_NS (satU 10 ns)).setFld .jetTurnStat fJetTurnStat_MAX_PORT p
    else s
  if 200 < ns then s.setFlag .jetTurnStat fJetTurnStat_OVER true else s

/-- Node k's command frame starts on its port; turnarounds under R206 are recorded, those of R452 too. -/
def State.cmdSend (s : State) (k : Nat) : State :=
  let p := s.nodePort k
  let h := s.node k
  let s := if s.turnCounts k then s.turnRecord p (2 * (s.now - h.lastSym)) else s
  let s := s.setNode k { s.node k with launched := true, delayed := false }
  s.transmit p (s.cmdFrame k) none

/-- True when node k's command frame is packed and due (R199): from its readiness, counted at the pins, the receive path of 38 ns,
16 ns of packing and the transmit path of 52 ns have passed (R206). -/
def State.cmdDue (s : State) (k : Nat) : Bool :=
  let h := s.node k
  s.isHead && s.nodeUsed k && !h.launched && !h.delayed &&
    (match h.ready with
     | some t => decide (t + 53 ≤ s.now)
     | none => false)

/-- True when the head sends command frames to node k at all: not muted (R447), and in a twin state that sends them
(R491, R495). -/
def State.sendsCmds (s : State) (k : Nat) : Bool := !s.muted k && ! [1, 2, 3].contains (s.fld .twnStat fTwnStat_TSTATE) && !s.twn.silent

/-- The launch of node k's command frame (R199, R404, R452). -/
def State.cmdLaunch (s : State) (k : Nat) : State :=
  if !s.sendsCmds k || !s.portOn (s.nodePort k) then s.setNode k { s.node k with launched := true }
  else if s.txBusy (s.nodePort k) then s.setNode k { s.node k with delayed := true }
  else s.cmdSend k

/-- True when a delayed command frame may start (R452). -/
def State.cmdDelayDue (s : State) (k : Nat) : Bool := (s.node k).delayed && !s.txBusy (s.nodePort k)

/-- A delayed command frame starts, counting DL_WAIT (R452). -/
def State.cmdDelayed (s : State) (k : Nat) : State :=
  if s.portOn (s.nodePort k) then (s.incSat (.nodeStat k) fNodeStat_DL_WAIT).cmdSend k
  else s.setNode k { s.node k with launched := true, delayed := false }

/-! ### Ranging in the head (R441, R449) -/

/-- A RANGE_REQ that passed its check is admitted (DEDUCED, log entry 33). -/
def State.rangeAdmit (s : State) (p : Nat) : State :=
  match (s.port p).rngIn with
  | none => s
  | some q =>
    let s := s.setPort p { s.port p with rngIn := none, rngReq := some q }
    if s.muted q.1 || decide (64 ≤ p) then s else s.setFld (.nodeStat q.1) fNodeStat_HSTATE hsRANGING

/-- True when the RANGE_RSP is due on port p: 160 ns before the ranging window's end. -/
def State.rangeDue (s : State) (p : Nat) : Bool :=
  (s.port p).rngReq.isSome && decide (s.bndAt + s.msStart s.rngMs ≤ s.now + 80)

/-- The RANGE_RSP is sent with RES in 1/16 ns (R413, R441); a muted node's mute lifts at the next boundary (R449). -/
def State.rangeSend (s : State) (p : Nat) : State :=
  match (s.port p).rngReq with
  | none => s
  | some q =>
    let s := s.setPort p { s.port p with rngReq := none }
    if !s.portOn p then s
    else
      let k := q.1
      let res := (s.now - q.2.2) * 32
      let s := if 64 ≤ p then s else
        let s := (s.setFld (.nodeRng k) fNodeRng_RES res).incWrap (.nodeRng k) fNodeRng_COUNT
        s.setNode k { s.node k with unmute := s.muted k }
      s.transmit p (frameBytes (frameHdr 8 k 0 0 (s.cycleN % 256) 0 16 0)
        (leBytes 6 q.2.1 ++ leBytes 4 res ++ leBytes 6 0)) none

/-! ### The dynamic segment (R457 to R462) -/

/-- Base of the Psiend buffers (R36). -/
def psiBase : Nat := 0x01580000

/-- Mini-slots a dynamic frame of PLEN bytes needs (R457). -/
def State.dynSlots (s : State) (plen : Nat) : Nat :=
  (2 * s.apo + 4 * (14 + plen) + 2 * s.grdTicks fNetGrdCfg_G_CLOSE + 79) / 80

/-- What a write of TX with POST = 1 is refused with (R460). -/
def State.flowRefuse (s : State) (f : Nat) (v : Word48) : List Nat :=
  let p := s.fld (.flowCfg f) fFlowCfg_PORT
  let t := (s.byte (psiBase + wordFld v fFlowTx_BUF)).toNat % 16
  refuseIf (s.fld (.flowStat f) fFlowStat_STATE == 1) cBUSY ++
  refuseIf (!s.weirOpen (192 + p)) cOFFLINE ++
  refuseIf (decide (s.msCount - s.rngMs < s.dynSlots (wordFld v fFlowTx_LEN)) || ! [3, 4, 5].contains t) cACCESS

/-- A flow's frame takes a state; EV_DONE on SENT, DEFERRED_LIMIT and REFUSED. -/
def State.flowState (s : State) (f st : Nat) : State :=
  (s.setFld (.flowStat f) fFlowStat_STATE st).raiseIf (decide (2 ≤ st) && s.flag (.flowStat f) fFlowStat_EV_DONE) 342

/-- POST = 1: the frame is queued (R460). -/
def State.flowPost (s : State) (f : Nat) (v : Word48) : State :=
  let s := s.setReg (.flowTx f) (wordPut v fFlowTx_POST 0)
  let s := s.flowState f 1
  s.arbAdd 5 { r := f, arrival := s.cycles, tick := s.now, cost := s.dynSlots (wordFld v fFlowTx_LEN) }

/-- A service answer is queued on a flow: TYPE 4 to a node. -/
def State.svcQueue (s : State) (node flow : Nat) (body : List Byte) : State :=
  let i := s.net.svcSeq + 1
  let s := { s with net := { s.net with svcSeq := i, svcOut := s.net.svcOut ++ [(i, node, body)] } }
  s.arbAdd 5 { r := flow, arrival := s.cycles, tick := s.now, cost := s.dynSlots body.length, tag := i }

/-- The node a queued frame concerns. -/
def State.dynNode (s : State) (q : ArbReq) : Nat :=
  if q.tag = 0 then (s.byte (psiBase + s.fld (.flowTx q.r) fFlowTx_BUF + 1)).toNat % 128
  else (tabGet (0, []) s.net.svcOut q.tag).1

/-- One branch's grants (R459): mini-slots from m up for the frames posted on port p at least 64 ticks ago; metered
grants end with the first that does not fit. The list gives the attempts left (DESIGN CHOICE, log entry 35). -/
def State.dynGrant (s : State) (p m : Nat) (metered : Bool) : List Nat → State
  | [] => s
  | _ :: more =>
    let cands := (s.arb 5).waiting.filter (fun q =>
      s.fld (.flowCfg q.r) fFlowCfg_PORT == p && decide (q.tick + 64 ≤ s.now) && !s.muted (s.dynNode q) &&
      (metered || s.arbClass 5 q != 2))
    match s.arbBest 5 cands with
    | none => s
    | some q =>
      if m + q.cost ≤ s.msCount then
        match s.arbGrant 5 cands with
        | some (g, s) =>
          let s := { s with net := { s.net with grants := s.net.grants ++ [DynGrant.mk p m g.r g.tag] } }
          s.dynGrant p (m + g.cost) metered more
        | none => s
      else if s.arbClass 5 q = 3 then
        let s := s.arbRefuse 5 q cREFUSED
        let s := if q.tag = 0 then s.flowState q.r 4 else s
        s.dynGrant p m metered more
      else s.dynGrant p m false more

/-- The downlink grants of every branch at a boundary (R459); the mini-slots of a COLD_START answer come first, in 16 cycles (R470). -/
def State.dynBoundary (s : State) : State :=
  let s := { s with net := { s.net with grants := [] } }
  let cold := decide (0 < s.net.csAnswer) || s.fld .netCsStat fNetCsStat_STATE == 2
  let m := s.rngMs + (if cold then 3 else 0)
  let s := if cold && s.msCount != 0 then
      { s with net := { s.net with grants :=
          ((List.range 66).filter (fun p => s.portOn p)).map (fun p => DynGrant.mk p s.rngMs 192 0) } }
    else s
  let n := (s.arb 5).waiting.length + 1
  let s := s.each (List.range 64) (fun p s => if s.portOn p then s.dynGrant p m true (List.range (2 * n)) else s)
  { s with net := { s.net with csAnswer := s.net.csAnswer - 1 } }

/-- True when flow f has a grant whose start has come and its downlink is free. Flow 192 stands for the head's own
COLD_START frames. -/
def State.dynDue (s : State) (f : Nat) : Option DynGrant :=
  s.net.grants.find? (fun g => g.flow == f && decide (s.bndAt + s.msStart g.ms + s.apo ≤ s.now) && !s.txBusy g.port)

/-- The bytes of a flow's posted frame (R460): the buffer holds header bytes 0 to 6 and the body; the M192 sets CYC8, FWD,
HCRC and FCS (DESIGN CHOICE, log entry 35). -/
def State.flowFrame (s : State) (f : Nat) : List Byte :=
  let a := psiBase + s.fld (.flowTx f) fFlowTx_BUF
  let h := s.bytes a 7
  let h := toBytes [byteAt h 0 % 64, byteAt h 1, byteAt h 2, s.cycleN % 256] ++ (h.drop 4).take 3
  frameBytes (h ++ toBytes [crc8 h]) (s.bytes (a + 7) (s.fld (.flowTx f) fFlowTx_LEN))

/-- A service answer's frame. -/
def State.svcFrame (s : State) (node : Nat) (body : List Byte) : List Byte :=
  frameBytes (frameHdr 4 node 0 0 (s.cycleN % 256) 0 body.length 0) body

/-- The frame of a posted flow has been sent. -/
def State.flowSent (s : State) (f : Nat) : State := (s.incWrap (.flowStat f) fFlowStat_SENT_CNT).flowState f 2

/-- A COLD_START frame (R413): HEAD_ID, ATTEMPT, which is 0xFF in an answer (R470), and SCHED_CRC. -/
def State.coldFrame (s : State) : List Byte :=
  let a := if s.fld .netCsStat fNetCsStat_STATE = 2 then s.fld .netCsStat fNetCsStat_ATTEMPT else 0xFF
  frameBytes (frameHdr 6 0 0 0 (s.cycleN % 256) 0 16 0)
    (toBytes [s.fld .sysRole fSysRole_HEAD_ID, a] ++ leBytes 4 s.twn.schedCrc ++ leBytes 10 0)

/-- A granted dynamic frame starts (R457), or the head's own COLD_START frame (R466). -/
def State.dynSend (s : State) (g : DynGrant) : State :=
  let s := { s with net := { s.net with grants := s.net.grants.erase g } }
  if g.flow = 192 then (if s.portOn g.port then s.transmit g.port s.coldFrame none else s)
  else if g.tag = 0 then
    let b := s.flowFrame g.flow
    (if s.portOn g.port then s.transmit g.port b none else s).flowSent g.flow
  else
    let a := tabGet (0, []) s.net.svcOut g.tag
    let s := { s with net := { s.net with svcOut := s.net.svcOut.filter (fun x => x.1 != g.tag) } }
    if s.portOn g.port then s.transmit g.port (s.svcFrame a.1 a.2) none else s

/-- Bytes of a ring entry: 16 of descriptor, then header and body padded to 8 (R461) (DESIGN CHOICE, log entry 35). -/
def ringEntry (d : DynIn) : List Byte :=
  let n := d.bytes.length
  leBytes 6 d.t48.toNat ++ toBytes [d.port, hType d.bytes, hNode d.bytes] ++ leBytes 2 (hPlen d.bytes) ++ leBytes 5 0 ++
    d.bytes ++ leBytes ((8 - n % 8) % 8) 0

/-- Bytes written into a ring of size n at a base, from an offset on, wrapping (DESIGN CHOICE, log entry 35). -/
def State.ringPut (s : State) (base n off : Nat) (b : List Byte) : State :=
  b.zipIdx.foldl (fun (s : State) x => s.setByte (base + (off + x.2) % n) x.1) s

/-- The oldest dynamic frame is stored in the receive ring, or dropped (R461). -/
def State.dynStore (s : State) : State :=
  match s.net.dynIn with
  | [] => s
  | d :: t =>
    let s := { s with net := { s.net with dynIn := t } }
    let n := 1024 * 2 ^ s.fld .netRxRing fNetRxRing_LEN
    let wr := s.fld .netRxPtr fNetRxPtr_WR
    let used := (wr + n - s.fld .netRxPtr fNetRxPtr_RD % n) % n
    let b := ringEntry d
    if used + b.length < n then
      ((s.ringPut (psiBase + s.fld .netRxRing fNetRxRing_BASE) n wr b).setFld .netRxPtr fNetRxPtr_WR
        ((wr + b.length) % n)).raise 342
    else s.incSat .netRxPtr fNetRxPtr_RX_DROP

/-! ### Parameter service (R463, R464) -/

/-- Fields of a SERVICE_REQ body. -/
def svcCount (b : List Byte) : Nat := leAt b 2 2
def svcAddr (b : List Byte) : Nat := leAt b 4 4
def svcWrite (b : List Byte) : Bool := byteAt b 1 == 1

/-- A SERVICE_RSP body: TAG, CODE, slots completed, ADDR, and the data of a READ. -/
def svcAnswer (b : List Byte) (code done : Nat) (data : List Byte) : List Byte :=
  toBytes [byteAt b 0, code] ++ leBytes 2 done ++ leBytes 4 (svcAddr b) ++ data

/-- The flow of a node's answers; in a drive every answer leaves in the uplink allocation. -/
def State.svcReply (s : State) (q : SvcReq) (body : List Byte) : State :=
  s.svcQueue q.node (if s.isDrive then 0 else s.fld (.nodeCfg q.node) fNodeCfg_SVC_FLOW) body

/-- A service request reaches the engine: held, or marked to be answered BUSY in its turn while 16 are held (R464). -/
def State.svcArrive (s : State) : State :=
  match s.net.svcIn with
  | [] => s
  | q :: t =>
    let s := { s with net := { s.net with svcIn := t } }
    let full := decide (16 ≤ (s.net.svcHeld.filter (fun x => !x.busy)).length)
    { s with net := { s.net with svcHeld := s.net.svcHeld ++ [{ q with busy := full }] } }

/-- The slots of a request in turn (R464): access answers a code and data for a slot; the list gives the slots left. -/
def svcRun (access : State → Nat → Option Nat → Nat × Nat × State) (b : List Byte) :
    List Nat → State → Nat → List Byte → Nat × Nat × List Byte × State
  | [], s, done, data => (cOK, done, data, s)
  | i :: t, s, done, data =>
    let a := svcAddr b + 8 * i
    let r := access s a (if svcWrite b then some (leAt b (8 + 8 * i) 8) else none)
    if r.1 = cOK then svcRun access b t r.2.2 (done + 1) (if svcWrite b then data else data ++ leBytes 8 r.2.1)
    else (r.1, done, data, r.2.2)

/-- The oldest request is performed and answered; one that found 16 held is answered BUSY with no access (R464). A body outside
R463 has no code of its own: an OP other than 1 reads, and at most 64 slots are performed (DESIGN CHOICE, log entry 106). -/
def State.svcPerform (s : State) (access : State → Nat → Option Nat → Nat × Nat × State) : State :=
  match s.net.svcHeld with
  | [] => s
  | q :: t =>
    let s := { s with net := { s.net with svcHeld := t } }
    if q.busy then s.svcReply q (svcAnswer q.body cBUSY 0 []) else
    let r := svcRun access q.body (List.range (min 64 (svcCount q.body))) s 0 []
    r.2.2.2.svcReply q (svcAnswer q.body r.1 r.2.1 r.2.2.1)

/-! ### The boundary -/

/-- Sync bytes 0 to 8 (R408). -/
def syncBytes (flags cycle corr : Nat) : List Byte :=
  let b := toBytes [flags] ++ leBytes 4 (cycle % 2 ^ 32) ++ leBytes 2 corr ++ [0#8]
  b ++ toBytes [crc8 b]

/-- FLAGS of the head's syncs. -/
def State.syncFlags (s : State) : Nat :=
  s.fld .sysRole fSysRole_HEAD_ID + 16 * s.fld .netCycCfg fNetCycCfg_CH +
    32 * b2n (s.fld .netCsStat fNetCsStat_STATE == 2) + 64 * b2n s.twin

/-- The sync of the boundary on every port that is UP and OPEN (R409): 10 code groups. -/
def State.syncSend (s : State) : State :=
  if [2, 4, 5].contains (s.fld .netCsStat fNetCsStat_STATE) then
    let b := syncBytes s.syncFlags s.cycleN 0
    s.each (List.range 66) (fun p s =>
      if s.portOn p then
        let s := s.txSettle p
        s.setPort p { s.port p with txFrom := s.now, txUntil := s.now + 20, txOwed := false, txCopy := none, sent := b }
      else s)
  else s

/-- Mutes and their lifting at a boundary (R447, R449), the violations of the last 8 cycles, and the node's cycle
(DEDUCED, log entry 33). -/
def State.nodeBoundary (s : State) (k : Nat) : State :=
  let h := s.node k
  let total := h.viol.foldl (· + ·) 0
  let lift := s.muted k && h.unmute
  let s := if lift then s.setFld (.nodeStat k) fNodeStat_HSTATE hsRANGING
    else if !s.muted k && 3 ≤ total then
      ((s.setFld (.nodeStat k) fNodeStat_HSTATE hsMUTED).incSat (.nodeStat k) fNodeStat_MUTE_CNT).raiseIf
        (s.flag (.nodeStat k) fNodeStat_EV_MUTE) 342
    else if s.hstate k = hsACTIVE && !h.seen then s.setFld (.nodeStat k) fNodeStat_HSTATE hsSILENT
    else s
  let v := if lift then [] else (h.viol.take 7)
  let s := s.setFld (.nodeStat k) fNodeStat_VIOL (min 3 (v.foldl (· + ·) 0))
  s.setNode k { viol := if v.isEmpty then [] else 0 :: v, status := h.status }

/-- The boundary of the network unit: nodes, forwarding, grants. -/
def State.netBoundary (s : State) : State :=
  let s := s.each (allNodes.filter (fun k => s.nodeUsed k)) (fun k s => s.nodeBoundary k)
  let s := { s with net := { s.net with fwdDone := [] } }
  if s.isHead then s.dynBoundary else s

/-- NET.CNT_CLR. -/
def State.netCntClr (s : State) : State :=
  let s := s.each (List.range 64) (fun p s => s.txSettle p)
  let s := s.each allNodes (fun k s =>
    (((s.setFld (.nodeStat k) fNodeStat_MUTE_CNT 0).setFld (.nodeStat k) fNodeStat_DL_WAIT 0).setReg (.nodeGrd k) 0).setFld
      (.nodeRng k) fNodeRng_COUNT 0)
  let s := s.each allFwd (fun e s => s.setReg (.fwdStat e) 0)
  s.setFld .netRxPtr fNetRxPtr_RX_DROP 0

end Sys2Proof.Machine
end

