-- ==== Sys2Proof/Machine/DriveOps.lean ====
section
/-! DEFINITION. Psiend in a drive: syncs and integration, ranging, repeating, feedback and command frames; the same
integration for a twin follower on the head link (12_psiend_links.md, 13_psiend_cycle.md; R47 to R50, R419 to R450). -/
namespace Sys2Proof.Machine

/-! ### Time at a node (R436 to R440) -/

def isLISTEN : Nat := 0
def isSYNC1 : Nat := 1
def isRANGING : Nat := 2
def isINTEGRATED : Nat := 3

/-- ISTATE (R443). -/
def State.istate (s : State) : Nat := s.fld .netSyncStat fNetSyncStat_ISTATE
/-- The drive takes an integration state. -/
def State.setIstate (s : State) (st : Nat) : State := s.setFld .netSyncStat fNetSyncStat_ISTATE st

/-- L in 1/16 ns. -/
def State.cycLen16 (s : State) : Int := (s.cycLen : Int) * 8
/-- SYNC_TOL in 1/16 ns. -/
def State.syncTol (s : State) : Int := (s.fld .netGrdCfg fNetGrdCfg_SYNC_TOL : Int) * 16

/-- D of a channel in 1/16 ns: a head uses D_A for the head link (DESIGN CHOICE, log entry 41). -/
def State.linkD (s : State) (b : Bool) : Nat :=
  s.fld .netLinkDelay (if b && s.isDrive then fNetLinkDelay_D_B else fNetLinkDelay_D_A)
/-- CORR of the last valid sync of a channel. -/
def State.corrOf (s : State) (b : Bool) : Nat := if b then s.drv.corrB else s.drv.corrA
/-- The channel selected for synchronisation (R440). -/
def State.syncSel (s : State) : Bool := s.flag .netSyncStat fNetSyncStat_SEL

/-- The port of a channel: an uplink of a drive, a head link of a follower. -/
def State.chPort (s : State) (b : Bool) : Nat := if s.isDrive then (if b then 1 else 0) else (if b then 65 else 64)

/-- Fabric ticks by which a node sends ahead of an offset, on a channel (R436) (DESIGN CHOICE, log entry 41). -/
def State.ahead (s : State) (b : Bool) : Nat := (s.linkD b + s.corrOf b) / 32

/-- The next boundary from the exact one, corrected by the rate (R437). -/
def State.driveNext (s : State) : State :=
  let x := s.drv.bndX + s.cycLen16 + s.drv.rate / 16
  { s with bndNext := ((x + 16) / 32).toNat }

/-- Integration ends: back to LISTEN (R437, R438, R442, R448, R450). -/
def State.toListen (s : State) : State :=
  let s := { s with drv := { s.drv with missRun := 0, slipRun := 0, rngA := {}, rngB := {}, frA := none, frB := none,
                                        noCmd := 0, ends := [] } }
  s.setIstate isLISTEN

/-- Ranging of a channel. -/
def State.rng (s : State) (b : Bool) : RngH := if b then s.drv.rngB else s.drv.rngA
/-- Replace the ranging of a channel. -/
def State.setRng (s : State) (b : Bool) (h : RngH) : State :=
  { s with drv := if b then { s.drv with rngB := h } else { s.drv with rngA := h } }

/-- The channel selected: A while its syncs are valid, else B (R440). -/
def State.selectSync (s : State) : State :=
  let a := s.flag .netSyncStat fNetSyncStat_A_OK
  let b := s.flag .netSyncStat fNetSyncStat_B_OK
  s.setFlag .netSyncStat fNetSyncStat_SEL (!a && b)

/-- The node's boundary is placed at an instant in 1/16 ns, with a cycle number (R410, R508). -/
def State.placeNode (s : State) (x : Int) (cycle : Nat) : State :=
  let s := { s with drv := { s.drv with bndX := x, rate := 0 }, bndAt := ((x + 16) / 32).toNat }
  (s.setRegN .timCycle (cycle % 2 ^ 32)).driveNext

/-- The correction by a sync whose boundary falls at x (R437). -/
def State.syncCorrect (s : State) (x : Int) : State :=
  let l := s.cycLen16
  let e := x - s.drv.bndX
  let e := if l < 2 * e then e - l - s.drv.rate / 16 else e
  let s := s.setFld .netSyncStat fNetSyncStat_PHASE_ERR (uns 16 (satS 16 e))
  if (e.natAbs : Int) ≤ s.syncTol then
    ({ s with drv := { s.drv with bndX := s.drv.bndX + e, rate := s.drv.rate + e, slipRun := 0 } }).driveNext
  else
    let s := s.incSat .netSyncStat fNetSyncStat_SLIP
    if 3 ≤ s.drv.slipRun + 1 then s.toListen else { s with drv := { s.drv with slipRun := s.drv.slipRun + 1 } }

/-- Fields of a sync. -/
def syFlags (d : List Byte) : Nat := byteAt d 0
def syCycle (d : List Byte) : Nat := leAt d 1 4
def syCorr (d : List Byte) : Nat := leAt d 5 2
/-- COLD of a sync. -/
def syCold (d : List Byte) : Bool := bitOf (syFlags d) 5

/-- A sync is valid (R410). -/
def syncValid (d : List Byte) (good : Bool) : Bool := good && byteAt d 8 == crc8 (d.take 8) && decide (syCorr d < 0xFFFF)

/-- A valid sync of a channel, whose first bit came at x in 1/16 ns, moves the integration (R437, R440, R443). -/
def State.syncState (s : State) (b : Bool) (d : List Byte) (x : Nat) : State :=
  let bx : Int := (x : Int) - (syCorr d : Int) - (s.linkD b : Int)
  let st := s.istate
  if st = isLISTEN then
    if syCold d then s
    else
      let s := { s with drv := { s.drv with firstCyc := syCycle d, firstAt := x } }
      (s.placeNode bx (syCycle d)).setIstate isSYNC1
  else if st = isSYNC1 then
    let dt := (x : Int) - (s.drv.firstAt : Int) - s.cycLen16
    if syCold d then s.setIstate isLISTEN
    else if syCycle d = s.drv.firstCyc then s
    else if syCycle d = (s.drv.firstCyc + 1) % 2 ^ 32 && decide ((dt.natAbs : Int) ≤ s.syncTol) then
      let s := (s.placeNode bx (syCycle d)).setIstate isRANGING
      { s with drv := { s.drv with missRun := 0, slipRun := 0, rngA := { since := s.cycles }, rngB := { since := s.cycles } } }
    else s.setIstate isLISTEN
  else if b = s.syncSel then s.syncCorrect bx
  else s

/-- A sync arrives on port p (R410, R426, R468); sub is the arrival within the tick in 1/16 ns. A sync from downstream is
discarded; a head takes syncs on the head link only, as follower of a twin pair. -/
def State.syncReceived (s : State) (p : Nat) (d : List Byte) (good : Bool) (sub : Nat) : State :=
  if !s.portOn p then s
  else if s.isDrive && (p = 2 || p = 3) then s.portErr p (.portErr4 p) fPortErr4_SYNC_DS
  else if !syncValid d good then s.portErr p (.portErr3 p) fPortErr3_SYNC_ERR
  else
    let b := p == s.chPort true
    let takes := if s.isDrive then decide (p < 2)
      else decide (64 ≤ p) && s.twin && (s.fld .netCsStat fNetCsStat_STATE == 1 || s.fld .netCsStat fNetCsStat_STATE == 5) &&
        !s.flag .netCsStat fNetCsStat_SCHED_MISMATCH && s.fld .twnStat fTwnStat_TSTATE != 5
    if !takes then s
    else
      let s := s.setFlag .netSyncStat (if b then fNetSyncStat_B_OK else fNetSyncStat_A_OK) true
      let s := { s with drv := if b then { s.drv with corrB := syCorr d, gotB := true, missB := false, missRun := 0 }
                               else { s.drv with corrA := syCorr d, gotA := true, missA := false, missRun := 0 } }
      let s := s.selectSync
      let s := if s.isHead && syCold d then { s with net := { s.net with csFrom := s.now } } else s
      s.syncState b d (s.now * 32 + sub % 32)

/-- True when the sync of a channel is overdue in the cycle: later than SYNC_TOL after its expected arrival. -/
def State.syncOverdue (s : State) (b : Bool) : Bool :=
  s.istate != isLISTEN && !(if b then s.drv.gotB || s.drv.missB else s.drv.gotA || s.drv.missA) &&
    decide (s.bndAt + s.ahead b + s.fld .netGrdCfg fNetGrdCfg_SYNC_TOL / 2 < s.now)

/-- A channel's sync is marked missing. -/
def State.markMissing (s : State) (b : Bool) : State :=
  { s with drv := if b then { s.drv with missB := true } else { s.drv with missA := true } }

/-- m cycles in a row have had no sync of either channel. -/
def State.setMissRun (s : State) (m : Nat) : State := { s with drv := { s.drv with missRun := m } }

/-- A sync of a channel is missing (R438, R440, R443). -/
def State.syncMissing (s : State) (b : Bool) : State :=
  let s := s.setFlag .netSyncStat (if b then fNetSyncStat_B_OK else fNetSyncStat_A_OK) false
  let s := (s.markMissing b).selectSync
  if s.drv.missA && s.drv.missB then
    if s.istate = isSYNC1 then s.toListen
    else
      let m := s.drv.missRun + 1
      let s := s.setMissRun m
      if s.fld .netGrdCfg fNetGrdCfg_SYNC_LOSS ≤ m then s.toListen else s
  else s

/-! ### Ranging (R441, R442) -/

/-- True when the node may send a RANGE_REQ on a channel now. -/
def State.rangeReqDue (s : State) (b : Bool) : Bool :=
  let ok := s.flag .netSyncStat (if b then fNetSyncStat_B_OK else fNetSyncStat_A_OK)
  (s.istate == isRANGING || s.istate == isINTEGRATED) && ok && !(s.rng b).ranged && !(s.rng b).sent &&
    s.cycleN % 4 == s.fld .netSelf fNetSelf_POS && s.portOn (s.chPort b) && !s.txBusy (s.chPort b) &&
    decide (s.bndAt + s.msStart 0 + s.apo ≤ s.now + s.ahead b)

/-- A RANGE_REQ is sent on a channel with T1 (R413, R441). -/
def State.rangeReqSend (s : State) (b : Bool) : State :=
  let t1 := s.now * 32 % 2 ^ 48
  let s := s.setRng b { s.rng b with t1 := some t1, sent := true }
  s.transmit (s.chPort b) (frameBytes (frameHdr 7 (s.fld .netSelf fNetSelf_NODE) 0 0 (s.cycleN % 256) 0 8 0)
    (leBytes 6 t1 ++ leBytes 2 0)) none

/-- Ranging of a channel fails (R442). -/
def State.rangeFail (s : State) (b : Bool) : State :=
  let s := s.incSat .netSyncStat fNetSyncStat_RANGE_FAIL
  if s.istate = isRANGING then s.toListen else s.setRng b { since := s.cycles }

/-- D of a channel is set: the node is INTEGRATED (R442, R443). -/
def State.rangeDone (s : State) (b : Bool) (d : Int) : State :=
  let s := s.setFld .netLinkDelay (if b && s.isDrive then fNetLinkDelay_D_B else fNetLinkDelay_D_A) (uns 24 d)
  let s := s.setRng b { s.rng b with ranged := true, t1 := none, prev := none }
  if s.istate = isRANGING then
    let s := { s with drv := { s.drv with sinceInt := s.cycles, noCmd := 0 } }
    s.setIstate isINTEGRATED
  else s

/-- D of one exchange in 1/16 ns (R442). -/
def rangeD (t1 t4 res corr : Nat) : Int :=
  divEven (sgn 48 ((t4 + 2 ^ 48 - t1 % 2 ^ 48) % 2 ^ 48) - (res : Int) - 2 * (corr : Int)) 2

/-- A RANGE_RSP has been received (R442); sub is the arrival of its SD within the tick in 1/16 ns
(DESIGN CHOICE, log entry 41). -/
def State.rangeResponse (s : State) (sub : Nat) : State :=
  match s.inFirst 8 with
  | none => s
  | some f =>
    let s := s.inTake f
    let b := f.port == s.chPort true
    let h := s.rng b
    match h.t1 with
    | none => s
    | some t1 =>
      if leAt f.body 0 6 ≠ t1 then s
      else
        let d := rangeD t1 ((f.start * 32 + sub % 32) % 2 ^ 48) (leAt f.body 6 4) (s.corrOf b)
        let agrees := match h.prev with
          | some p => decide ((d - p).natAbs ≤ 64)
          | none => false
        if agrees then s.rangeDone b (divEven (d + h.prev.getD d) 2)
        else
          let h := { h with t1 := none, tries := h.tries + 1, prev := some d, since := s.cycles }
          let s := s.setRng b h
          if 8 ≤ h.tries then s.rangeFail b else s

/-- True when a channel has waited 32 cycles for a RANGE_RSP (R442). -/
def State.rangeTimedOut (s : State) (b : Bool) : Bool :=
  let h := s.rng b
  (s.istate == isRANGING || (s.istate == isINTEGRATED && h.t1.isSome)) && !h.ranged && decide (h.since + 32 ≤ s.cycles)

/-! ### Commands (R47, R49, R205, R307, R422, R423, R493) -/

/-- The axes of a drive: those with an own power stage. -/
def State.driveAxes (s : State) : List Nat := (List.range 12).filter (fun n => s.kind n == kindLOCAL)

/-- A command record takes effect on axis n (R205, R239, R422, R423): the torque of an axis closed in the head, the
setpoints of one closed locally, ENABLE, the latch order and the reduction flag (DEDUCED, log entry 40). -/
def State.applyCmd (s : State) (n : Nat) (r : List Byte) : State :=
  let c := leAt r 14 2
  let s := s.setBytes (liveBank n + 0xC00 + 88) r
  let s := s.setAxis n { s.axis n with cmdAge := bitsOf c 5 4, cmdEn := bitOf c 0 }
  let lat := bitsOf c 3 2
  let ch := s.localCh n
  let s := if lat = 1 then s.latchArm ch 0 else if lat = 2 then s.latchDisarm ch 0 else s
  if s.closure n = 0 then
    if bitOf c 1 then s else s.setJob n { s.job n with refNow := sgn 24 (leAt r 0 3) }
  else if bitOf c 1 then
    let s := s.setFlag (.axsSsStat n) fAxsSsStat_CR_ACTIVE (bitOf c 2)
    if s.ax n = axSTOPPING then s
    else
      let s := s.setRegN (.axsSetP n) (leAt r 0 6)
      let s := s.setRegI (.axsSetV n) (sgn 32 (leAt r 6 4) * 2 ^ 12)
      s.setRegI (.axsSetA n) (sgn 32 (leAt r 10 4) * 2 ^ 8)
  else s

/-- Nothing is applied to axis n at OI: its command age increments (R47, R423). -/
def State.noCommand (s : State) (n : Nat) : State :=
  s.setAxis n { s.axis n with cmdAge := satU 8 ((s.axis n).cmdAge + 1) }

/-- The channel whose frame a drive applies, with the frame (R49, R493): A when it is valid and not marked ABDICATE, else
B, else A marked ABDICATE. -/
def State.cmdChosen (s : State) : Option (Bool × CmdIn) :=
  match s.drv.frA, s.drv.frB with
  | some a, some b => if a.abdicate then some (true, b) else some (false, a)
  | some a, none => some (false, a)
  | none, some b => some (true, b)
  | none, none => none

/-- Chosen records take effect on the axes of one output mode (R44). -/
def State.applyChosen (s : State) (immediate : Bool) : State :=
  match s.cmdChosen with
  | none => s
  | some (b, f) =>
    let s := { s with drv := { s.drv with sel := some b } }
    s.each (s.driveAxes.filter (fun n => s.immediate n == immediate)) (fun n s =>
      match f.recs[s.recOf n]? with
      | some r => s.applyCmd n r
      | none => s)

/-- A command frame for this drive (R44, R47, R49): axes in immediate mode apply it on receipt; one after OI is discarded. -/
def State.cmdReceived (s : State) : State :=
  match s.inFirst 2 with
  | none => s
  | some f =>
    let s := s.inTake f
    if !s.isDrive then s
    else
      let c : CmdIn := ⟨bitOf (hStatus f.hdr) 0, units f.body 0 s.drv.nrec⟩
      let before := s.cmdChosen
      let s := { s with drv := if f.port = 1 then { s.drv with noCmd := 0, cmdB := true } else { s.drv with noCmd := 0, cmdA := true } }
      if s.drv.oiDone then s else
      let s := { s with drv := if f.port = 1 then { s.drv with frB := some c } else { s.drv with frA := some c } }
      if s.cmdChosen = before then s else s.applyChosen true

/-- True when OI has come in the cycle and not yet passed. -/
def State.oiDue (s : State) : Bool := !s.drv.oiDone && decide (s.bndAt + s.oiTicks ≤ s.now)

/-- The output instant (R44, R47, R204, R307, R423): LOCAL axes take the current setpoint that waited; a drive applies the
command chosen to its latched axes, and an axis with none ages. -/
def State.outputInstant (s : State) : State :=
  let s := { s with drv := { s.drv with oiDone := true } }
  let s := s.each allAxes (fun n s =>
    match (s.job n).refAt with
    | some r => s.setJob n { s.job n with refNow := r, refAt := none }
    | none => s)
  if s.isDrive then
    match s.cmdChosen with
    | some _ => s.applyChosen false
    | none => s.each s.driveAxes (fun n s => s.noCommand n)
  else s

/-- True when 8 cycles have passed without a command frame (R448). -/
def State.cmdLost (s : State) : Bool := s.istate == isINTEGRATED && decide (8 ≤ s.drv.noCmd)

/-! ### Feedback (R414, R419 to R421, R436, R450) -/

/-- A feedback record of axis n (R419, R420); limits are the levels of LIM_POS, LIM_NEG and HOME sampled at II. -/
def State.fbRecord (s : State) (n limits : Nat) : List Byte :=
  let ch := s.localCh n
  let pos := s.reg (.encPos ch)
  let vel := satS 32 (shrEven (s.regI (.axsFbVel n)) 12)
  let d := t48Diff (s.reg (.encLatPos ch 0)) pos
  let fits := decide (-(2 ^ 23) ≤ d ∧ d < 2 ^ 23)
  let lv := s.flag (.encLatCtl ch) (fEncLatCtl_VALID 0) && fits
  let ls := s.flag (.encLatCtl ch) (fEncLatCtl_SUSPECT 0)
  let st := s.fld (.axsFbStat n) fAxsFbStat_SPD_STATE
  let fault := decide (8 ≤ s.fld (.axsFbStat n) fAxsFbStat_FAILING)
  let b13 := st + 8 * b2n fault + 16 * min 15 (s.fld (.axsFbStat n) fAxsFbStat_INV_RUN)
  let b14 := min 15 (s.axis n).cmdAge + 16 * limits + 128 * b2n (s.enc ch).tog
  let b15 := b2n (s.reg (.axsFltCause n) != 0) + 2 * b2n (s.sgDriving ch) + 4 * b2n (s.sgSto ch) + 8 * b2n lv + 16 * b2n ls
  leBytes 6 pos.toNat ++ leBytes 4 (uns 32 vel) ++ leBytes 3 (if lv then uns 24 d else 0) ++ toBytes [b13, b14, b15]

/-- STATUS of a feedback frame (R414) (DEDUCED, log entry 40). -/
def State.fbStatus (s : State) : Nat := b2n s.drv.hearA + 2 * b2n s.drv.hearB + 4 * b2n s.drv.selPrev

/-- The drive's feedback frame (R411, R419). -/
def State.fbFrame (s : State) (limits : Nat → Nat) : List Byte :=
  let k := s.fld .netSelf fNetSelf_NODE
  let recs := (List.range s.drv.nrec).flatMap (fun r =>
    match s.driveAxes.find? (fun n => s.recOf n == r) with
    | some n => s.fbRecord n (limits n)
    | none => leBytes 16 0)
  let n := 16 * s.drv.nsc
  let c := tabGet [] s.net.contOut k
  frameBytes (frameHdr 1 k s.drv.nrec s.drv.nsc (s.cycleN % 256) s.fbStatus 0 0)
    (recs ++ c.take n ++ leBytes (n - min n c.length) 0)

/-- The tick at which a drive sends on uplink p so that the first symbol reaches the head's pins at an offset from the boundary
(R436). -/
def State.sendAt (s : State) (p off : Nat) : Nat := s.bndAt + off - s.ahead (p == 1)

/-- The offset of the drive's feedback frame, and of a frame in its uplink allocation, at the head's pins. -/
def State.fbOff (s : State) : Nat := s.slotStart s.drv.slot + s.apo
def State.upOff (s : State) : Nat := s.msStart s.drv.upFirst + s.apo

/-- The tick of the first of the two uplinks to begin a frame of an offset. -/
def State.firstSend (s : State) (off : Nat) : Nat := min (s.sendAt 0 off) (s.sendAt 1 off)

/-- True while the drive sends frames of its own: from the cycle after its integration on (R443). -/
def State.ownFrames (s : State) : Bool := s.isDrive && s.istate == isINTEGRATED && decide (s.drv.sinceInt < s.cycles)

/-- True when an integrated drive starts its feedback frame in its slot (R436). -/
def State.fbDue (s : State) : Bool := s.ownFrames && !s.drv.fbSent && decide (s.firstSend s.fbOff ≤ s.now)

/-- A repeat that still runs on uplink o is cut with EE (R430). -/
def State.repeatYield (s : State) (o : Nat) : State :=
  if (s.port o).rpt.isSome && s.txRuns o then (s.txEnd o).portErr o (.portErr3 o) fPortErr3_RPT_CUT else s

/-- A frame of the drive starts on both uplinks, on each at its own tick (R48, R436); a repeat yields to it (R430). -/
def State.ownSend (s : State) (off : Nat) (b : List Byte) : State :=
  s.each [0, 1] (fun p s => if s.portOn p then (s.repeatYield p).transmitAt p (max s.now (s.sendAt p off)) b none else s)

/-- The feedback frame starts on both uplinks (R48). -/
def State.fbSend (s : State) (limits : Nat → Nat) : State :=
  let b := s.fbFrame limits
  ({ s with drv := { s.drv with fbSent := true } }).ownSend s.fbOff b

/-- True when the drive's own frame would still run at the window close, reckoned in its own time (R450). -/
def State.ownRuns (s : State) (p : Nat) : Bool :=
  s.isDrive && decide (p < 2) && s.drv.fbSent && (s.port p).txOwed && decide (s.now < (s.port p).txUntil) &&
    decide (s.bndAt + s.slotStart (s.drv.slot + 1) ≤ s.now + s.grdTicks fNetGrdCfg_G_CLOSE + s.ahead (p == 1))

/-- The drive ends its own frame with EE; three such ends within 8 cycles end its integration, one frame on both uplinks being one
(R450) (DEDUCED, log entry 41). -/
def State.ownEnd (s : State) (p : Nat) : State :=
  let s := s.txEnd p
  let l := (s.cycles :: s.drv.ends.filter (fun c => c != s.cycles)).filter (fun c => decide (s.cycles < c + 8))
  let s := { s with drv := { s.drv with ends := l } }
  if 3 ≤ l.length then s.toListen else s

/-! ### The uplink allocation (R458, R462) -/

/-- True when the drive may send in its uplink allocation. -/
def State.upDue (s : State) : Bool := s.ownFrames && s.drv.upMs != 0 && !s.drv.upSent && decide (s.firstSend s.upOff ≤ s.now)

/-- What leaves in the allocation: a service answer first, else the posted frame of FLOW[0], one that fits. -/
def State.upNext (s : State) : Option ArbReq :=
  let l := (s.arb 5).waiting.filter (fun q => decide (q.cost ≤ s.drv.upMs))
  match l.find? (fun q => q.tag != 0) with
  | some q => some q
  | none => l.find? (fun q => q.r == 0)

/-- The drive sends one frame in its uplink allocation. -/
def State.upSend (s : State) : State :=
  match s.upNext with
  | none => s
  | some q =>
    let s := { s with drv := { s.drv with upSent := true } }
    match s.arbGrant 5 [q] with
    | none => s
    | some (q, s) =>
      let a := tabGet (0, []) s.net.svcOut q.tag
      let b := if q.tag = 0 then s.flowFrame 0 else s.svcFrame (s.fld .netSelf fNetSelf_NODE) a.2
      let s := { s with net := { s.net with svcOut := s.net.svcOut.filter (fun x => x.1 != q.tag) } }
      let s := s.ownSend s.upOff b
      if q.tag = 0 then s.flowSent 0 else s

/-! ### Repeating (R425 to R430, R469) -/

/-- True when a frame of the drive's own is due on uplink o within 20 ns (R430): its feedback frame, or what waits for its
allocation. -/
def State.ownComes (s : State) (o : Nat) : Bool :=
  decide (o < 2) && s.ownFrames &&
  ((!s.drv.fbSent && decide (s.sendAt o s.fbOff ≤ s.now + 10)) ||
   (s.drv.upMs != 0 && !s.drv.upSent && s.upNext.isSome && decide (s.sendAt o s.upOff ≤ s.now + 10)))

/-- True when the drive's own frame is being sent on uplink o or starts within 20 ns (R430). -/
def State.ownNear (s : State) (o : Nat) : Bool :=
  (decide (o < 2) && (s.port o).rpt.isNone && decide (s.now < (s.port o).txUntil)) || s.ownComes o

/-- A repeated sync: its residence added to CORR, SCRC recomputed (R428). -/
def syncRepeated (d : List Byte) (res : Nat) : List Byte :=
  let b := d.take 5 ++ leBytes 2 (min 0xFFFF (syCorr d + res)) ++ (d.drop 7).take 1
  b ++ toBytes [crc8 b]

/-- A repeat from port p begins (R426 to R428, R430): a sync of 10 code groups, or a frame of len. res is the delay in
1/16 ns, shown for a frame. What is not repeated counts at the uplink it was for (DEDUCED, log entry 41). -/
def State.repeatStart (s : State) (p : Nat) (sync : Bool) (res : Nat) (d : List Byte) (len : Nat) : State :=
  let o := rptPort p
  if sync && decide (2 ≤ p) then s
  else
    let s := if sync then s else s.setFld (.portStat p) fPortStat_RPT_NS (res / 16)
    if s.ownNear o then s.portErr o (.portErr3 o) fPortErr3_RPT_DROP
    else
      let s := s.txSettle o
      let n := if sync then 10 else len
      s.setPort o { s.port o with txFrom := s.now, txUntil := s.now + 2 * n, txOwed := !sync, txCopy := none, rpt := some p
                                  sent := if sync then syncRepeated d res else d }

/-- True when a drive repeats from port p: both ports of the pair UP and OPEN (R425), a delay of 72 to 100 ns (R427). -/
def State.repeatsFrom (s : State) (p res : Nat) : Bool :=
  s.isDrive && decide (p < 4) && s.portOn p && s.portOn (rptPort p) && decide (72 * 16 ≤ res ∧ res ≤ 100 * 16)

/-- True when an upstream repeat still runs 20 ns before the drive's own frame (R430). -/
def State.repeatOver (s : State) (o : Nat) : Bool :=
  s.isDrive && (s.port o).rpt.isSome && s.txRuns o && s.ownComes o

/-- The repeat ends with EE (R430). -/
def State.repeatCut (s : State) (o : Nat) : State :=
  let s := s.txEnd o
  let s := s.setPort o { s.port o with rpt := none }
  s.portErr o (.portErr3 o) fPortErr3_RPT_CUT

/-- An error inside a frame being repeated from port p: EE, and nothing more of the frame (R429). -/
def State.repeatError (s : State) (p : Nat) : State :=
  let o := rptPort p
  if s.isDrive && decide (p < 4) && (s.port o).rpt == some p && decide (s.now < (s.port o).txUntil) then
    (s.txEnd o).setPort o { (s.txEnd o).port o with rpt := none }
  else s

/-- A valid COLD_START is copied onto the other uplink (R469). -/
def State.coldEcho (s : State) : State :=
  match s.inFirst 6 with
  | none => s
  | some f =>
    let s := s.inTake f
    let o := 1 - f.port
    if s.isDrive && decide (f.port < 2) && s.portOn o then
      s.transmit o (copyBytes f.hdr f.body) none
    else s

/-! ### The boundary -/

/-- The boundary of a drive or follower: exact boundary, what was heard, what a cycle holds. -/
def State.driveBoundary (s : State) : State :=
  let d := s.drv
  let heardCmd := d.cmdA || d.cmdB
  let heardSync := d.gotA || d.gotB
  let s := { s with drv := { d with
    bndX := d.bndX + s.cycLen16 + d.rate / 16
    hearA := d.gotA && d.cmdA, hearB := d.gotB && d.cmdB, cmdA := false, cmdB := false
    selPrev := d.sel.getD d.selPrev, sel := none, frA := none, frB := none
    noCmd := if heardCmd then 0 else if heardSync then d.noCmd + 1 else d.noCmd
    gotA := false, gotB := false, missA := false, missB := false
    oiDone := false, fbSent := false, upSent := false
    rngA := { d.rngA with sent := false }, rngB := { d.rngB with sent := false } } }
  s.driveNext

end Sys2Proof.Machine
end

