-- ==== Sys2Proof/Machine/Planner.lean ====
section
/-! DEFINITION. The arithmetic of motion (08_profiles_cams.md, R254 to R263, R296, R297, R707): exact rational profiles,
phases, and the planner. -/
namespace Sys2Proof.Machine

/-! ### The recurrence (R254) -/

/-- One profile tick: a := a + j, v := v + a, p := p + v. A segment that sets its acceleration outright (R297) has no jerk.
After the last tick of a plan j and a are 0 (R263). -/
def Prof.tick (q : Prof) : Prof :=
  match q.segs with
  | [] => { q with a := 0, p := q.p + q.v }
  | g :: t =>
    let a := match g.a0 with
      | some x => x
      | none => q.a + g.j
    let v := q.v + a
    { q with a := a, v := v, p := q.p + v
             segs := if g.n ≤ 1 then t else { g with n := g.n - 1 } :: t }

/-- The state after n ticks of constant jerk, by the closed forms of R254. -/
def Prof.after (q : Prof) (n : Nat) (j : Rat) : Prof :=
  let m : Rat := n
  { q with
    a := q.a + m * j
    v := q.v + m * q.a + j * (m * (m + 1) / 2)
    p := q.p + m * q.v + q.a * (m * (m + 1) / 2) + j * (m * (m + 1) * (m + 2) / 6) }

/-- The state after a list of segments. -/
def Prof.run (q : Prof) : List Seg → Prof
  | [] => q
  | g :: t =>
    match g.a0 with
    | some x =>
      let m : Rat := g.n
      Prof.run { q with a := x, v := q.v + m * x, p := q.p + m * q.v + x * (m * (m + 1) / 2) } t
    | none => Prof.run (q.after g.n g.j) t

/-- Segments of no ticks are dropped. -/
def segsTidy (l : List Seg) : List Seg := l.filter (fun g => g.n != 0)

/-! ### Phases (R256) -/

/-- The square root of n rounded down, by bits from 2^k. -/
def sqrtFloor (n : Nat) : List Nat → Nat → Nat
  | [], r => r
  | k :: t, r => if (r + 2 ^ k) * (r + 2 ^ k) ≤ n then sqrtFloor n t (r + 2 ^ k) else sqrtFloor n t r

/-- The bits of a root, highest first. -/
def rootBits : List Nat := (List.range 64).reverse

/-- The least n with n × n ≥ x. -/
def sqrtCeil (x : Rat) : Nat :=
  let c := x.ceil.toNat
  let r := sqrtFloor c rootBits 0
  if r * r = c then r else r + 1

/-- The lengths of phase(dv, am, jm): nj and nc (R256). -/
def phaseLen (dv am jm : Rat) : Nat × Nat :=
  if dv ≤ 0 then (0, 0)
  else
    let nj := max 1 (am / jm).ceil.toNat
    if am * nj ≤ dv then (nj, (dv / am).ceil.toNat - nj)
    else (max 1 (sqrtCeil (dv / jm)), 0)

/-- The three segments that change the velocity by dv, of either sign, with given lengths, numbered from k. -/
def phaseSegs (dv : Rat) (l : Nat × Nat) (k : Nat) : List Seg :=
  if l.1 = 0 then []
  else
    let ap := dv / ((l.1 + l.2 : Nat) : Rat)
    let j := ap / (l.1 : Rat)
    segsTidy [⟨l.1, j, none, k⟩, ⟨l.2, 0, none, k + 1⟩, ⟨l.1, -j, none, k + 2⟩]

/-- The magnitude of a rational. -/
def absR (x : Rat) : Rat := if x < 0 then -x else x

/-- The distance a phase from v0 to v1 with given lengths covers. -/
def phaseDist (v0 v1 : Rat) (l : Nat × Nat) : Rat :=
  ((Prof.run { v := v0 } (phaseSegs (v1 - v0) l 1)).p)

/-! ### The planner (R257 to R262, R707) -/

/-- The limit of the first phase of a move (R257). -/
def accLim (m : Lims) (v0 vc : Rat) : Rat := if absR v0 < absR vc then m.amax else m.dmax

/-- The limit of the last phase: DMAX, or AMAX where the move ends faster than it cruises (R261). -/
def endLim (m : Lims) (vc ve : Rat) : Rat := if absR vc < absR ve then m.amax else m.dmax

/-- The lengths of the two phases for a cruise velocity (R258). -/
def lensFor (m : Lims) (v0 vc ve : Rat) : (Nat × Nat) × (Nat × Nat) :=
  (phaseLen (absR (vc - v0)) (accLim m v0 vc) m.jmax, phaseLen (absR (vc - ve)) (endLim m vc ve) m.jmax)

/-- The distance of the two phases with a cruise of n4 ticks. -/
def distFor (l : (Nat × Nat) × (Nat × Nat)) (n4 : Nat) (v0 vc ve : Rat) : Rat :=
  phaseDist v0 vc l.1 + (n4 : Rat) * vc + phaseDist vc ve l.2

/-- The exact vc with which fixed lengths cover D: the distance is affine in vc (R258, step 4). A phase of no ticks leaves
its velocity out of the distance (DEDUCED, log entry 54). -/
def solveVc (l : (Nat × Nat) × (Nat × Nat)) (n4 : Nat) (v0 ve d vc : Rat) : Rat :=
  let f0 := distFor l n4 v0 0 ve
  let f1 := distFor l n4 v0 1 ve
  if f1 = f0 then vc else (d - f0) / (f1 - f0)

/-- The largest multiple of 2^-40 up to VMAX for which the phases with their own lengths cover no more than d (R258, step 3), by
bits from the larger of the two end velocities, from which on the distance rises with vc, or from 0 where not even that one fits
(DEDUCED, log entry 54). -/
def seekVc (m : Lims) (v0 ve d : Rat) : Rat :=
  let u : Rat := 1 / 2 ^ 40
  let k0 := (max v0 ve / u).ceil.toNat
  let kh := (m.vmax / u).floor.toNat
  let ok := fun (k : Nat) => decide (k ≤ kh) && decide (distFor (lensFor m v0 ((k : Rat) * u) ve) 0 v0 ((k : Rat) * u) ve ≤ d)
  let k := rootBits.foldl (fun (k : Nat) (b : Nat) => if ok (k + 2 ^ b) then k + 2 ^ b else k) (if ok k0 then k0 else 0)
  (k : Rat) * u

/-- The segments 1 to 7 of a move for fixed lengths and cruise velocity. -/
def moveSegs (l : (Nat × Nat) × (Nat × Nat)) (n4 : Nat) (v0 vc ve : Rat) : List Seg :=
  phaseSegs (vc - v0) l.1 1 ++ segsTidy [⟨n4, 0, none, 4⟩] ++ phaseSegs (ve - vc) l.2 5

/-- The ticks of a phase. -/
def phaseTicks (l : Nat × Nat) : Nat := 2 * l.1 + l.2

/-- The lengths of the two phases once vc has moved to a value: a phase of no ticks whose velocity now changes takes those of
phase(2 × |vc − v_e|, A, JMAX) (R707). -/
def givenLens (m : Lims) (l : (Nat × Nat) × (Nat × Nat)) (v0 vc ve : Rat) : (Nat × Nat) × (Nat × Nat) :=
  (if l.1.1 = 0 then phaseLen (2 * absR (vc - v0)) (accLim m v0 vc) m.jmax else l.1,
   if l.2.1 = 0 then phaseLen (2 * absR (vc - ve)) (endLim m vc ve) m.jmax else l.2)

/-- Step 4 of R258 for fixed lengths, with R707: none when the ticks that R707 gives to the phases exceed segment 4. Under step 3,
where R707 names no other plan, segment 4 is then left out (short) (DEDUCED, log entry 54). -/
def planFixed (m : Lims) (v0 ve d vc : Rat) (l : (Nat × Nat) × (Nat × Nat)) (n4 : Nat) (short : Bool) : Option (List Seg) :=
  let v1 := solveVc l n4 v0 ve d vc
  let g := givenLens m l v0 v1 ve
  let used := phaseTicks g.1 + phaseTicks g.2 - (phaseTicks l.1 + phaseTicks l.2)
  if used = 0 then some (moveSegs l n4 v0 v1 ve)
  else if used ≤ n4 || short then some (moveSegs g (n4 - used) v0 (solveVc g (n4 - used) v0 ve d v1) ve)
  else none

/-- A move forward over d ≥ 0 from v0 ≥ 0 to ve ≥ 0 under step 3 of R258. -/
def planShort (m : Lims) (v0 ve d : Rat) : List Seg :=
  let vc := seekVc m v0 ve d
  let l := lensFor m v0 vc ve
  (planFixed m v0 ve d vc l (if distFor l 0 v0 vc ve = d then 0 else 1) true).getD []

/-- A move forward over d ≥ 0 from v0 ≥ 0 to ve ≥ 0, with no acceleration at its start (R257, R258, R707). -/
def planForward (m : Lims) (v0 ve d : Rat) : List Seg :=
  let vm := m.vmax
  let l := lensFor m v0 vm ve
  let rest := d - distFor l 0 v0 vm ve
  if d = 0 && v0 = 0 && ve = 0 then []
  else if rest < 0 then planShort m v0 ve d
  else (planFixed m v0 ve d vm l (rest / vm).ceil.toNat false).getD (planShort m v0 ve d)

/-- Segment 0 of R259. -/
def segZero (a0 jm : Rat) : List Seg :=
  if a0 = 0 then []
  else
    let n := (absR a0 / jm).ceil.toNat
    [⟨n, -a0 / (n : Rat), none, 8⟩]

/-- Segments with the direction of motion turned. -/
def segsNeg (l : List Seg) : List Seg := l.map (fun g => { g with j := -g.j, a0 := g.a0.map (fun x => -x) })

/-- A move over d of either sign from velocity v0 to ve, both seen in the direction of d. -/
def planDir (m : Lims) (v0 ve d : Rat) : List Seg :=
  if d < 0 || (d = 0 && v0 < 0) then segsNeg (planForward m (-v0) (-ve) (-d)) else planForward m v0 ve d

/-- The distance of a stop, or of a deceleration to ve, from velocity v (R260, R271). -/
def slowDist (m : Lims) (v ve : Rat) : Rat := phaseDist v ve (phaseLen (absR (v - ve)) m.dmax m.jmax)

/-- The stop of a reversal (R260): its segments carry the numbers 5 to 7 of a deceleration, which the spec leaves open (DESIGN CHOICE,
log entry 54). -/
def stopSegs (m : Lims) (v : Rat) : List Seg := phaseSegs (-v) (phaseLen (absR v) m.dmax m.jmax) 5

/-- The distance, in the direction of motion, of the deceleration from velocity v to ve: none where ve is no slower (R260). -/
def brakeDist (m : Lims) (v ve : Rat) : Rat := if v ≤ ve then 0 else slowDist m v ve

/-- The plan of a position move from state q over a distance d, to end velocity ve (R257 to R260): its segments, and true
when it holds a reversal. An end velocity against the second move of a reversal is not held (DEDUCED, log entry 54). -/
def planMove (m : Lims) (q : Prof) (d ve : Rat) : List Seg × Bool :=
  let z := segZero q.a m.jmax
  let q1 := Prof.run { q with p := 0 } z
  let d1 := d - q1.p
  let s : Rat := if q1.v < 0 then -1 else 1
  if q1.v != 0 && decide (s * d1 < brakeDist m (s * q1.v) (max 0 (s * ve))) then
    let st := stopSegs m q1.v
    let d2 := d - (Prof.run q1 st).p
    (z ++ st ++ planDir m 0 (if 0 ≤ d2 * ve then ve else 0) d2, true)
  else (z ++ planDir m q1.v ve d1, false)

/-- True when a move can reach end velocity ve within its distance (R261): an axis that moves away from the target stops first and
has that much further to go. -/
def canReach (m : Lims) (q : Prof) (d ve : Rat) : Bool :=
  let q1 := Prof.run { q with p := 0 } (segZero q.a m.jmax)
  let d1 := d - q1.p
  let s : Rat := if d1 < 0 then -1 else 1
  let away := decide (s * q1.v < 0)
  let v := if away then 0 else s * q1.v
  let d2 := if away then s * d1 + slowDist m (absR q1.v) 0 else s * d1
  let e := s * ve
  decide (0 ≤ e) && decide (phaseDist v e (phaseLen (absR (e - v)) (if v < e then m.amax else m.dmax) m.jmax) ≤ d2)

/-- A velocity move from state q to velocity t (R262). It goes to its TARGET also where that is above VMAX, of which R262 says
nothing, and the first phase of a split move is numbered 5 to 7 (DESIGN CHOICE, log entry 54). -/
def planVel (m : Lims) (q : Prof) (t : Rat) : List Seg :=
  let z := segZero q.a m.jmax
  let q1 := Prof.run q z
  if q1.v * t < 0 then
    z ++ phaseSegs (-q1.v) (phaseLen (absR q1.v) m.dmax m.jmax) 5 ++ phaseSegs t (phaseLen (absR t) m.amax m.jmax) 1
  else
    let up := decide (absR q1.v < absR t)
    z ++ phaseSegs (t - q1.v) (phaseLen (absR (t - q1.v)) (if up then m.amax else m.dmax) m.jmax) (if up then 1 else 5)

/-- A stop from state q (R296): segment 0, then the velocity to zero; every segment reads as stop phase. -/
def planStop (q : Prof) (dec jm : Rat) : List Seg :=
  let z := segZero q.a jm
  let q1 := Prof.run q z
  (z ++ phaseSegs (-q1.v) (phaseLen (absR q1.v) dec jm) 1).map (fun g => { g with no := 10 })

/-- A quick stop without jerk limit (R297). -/
def planHard (q : Prof) (dec : Rat) : List Seg :=
  if q.v = 0 then []
  else
    let n := (absR q.v / dec).ceil.toNat
    [⟨n, 0, some (-q.v / (n : Rat)), 10⟩]

/-! ### Outputs (R255) -/

/-- PSET of a position. -/
def pOut (p : Rat) : Word48 := BitVec.ofInt 48 (roundEven p)
/-- VSET of a velocity. -/
def vOut (v : Rat) : Word48 := BitVec.ofInt 48 (satS 48 (roundEven (v * 2 ^ 24)))
/-- ASET of an acceleration. -/
def aOut (a : Rat) : Word48 := BitVec.ofInt 48 (satS 48 (roundEven (a * 2 ^ 32)))

end Sys2Proof.Machine
end

