-- ==== Sys2Proof/Machine/MoveOps.lean ====
section
/-! DEFINITION. Moves (08_profiles_cams.md, R248 to R276): Cascade commands and their passes, the move queue, changes, group
starts, plans. -/
namespace Sys2Proof.Machine

/-! ### Units and parameters -/

/-- A V48 value in counts per tick. -/
def vR (x : Int) : Rat := (x : Rat) / 2 ^ 24
/-- An A48 value in counts per tick squared. -/
def aR (x : Int) : Rat := (x : Rat) / 2 ^ 32
/-- A J48 value in counts per tick cubed. -/
def jR (x : Int) : Rat := (x : Rat) / 2 ^ 40

/-- MODE of axis n (R277): 0 PROFILE, 1 GEAR, 2 CAM. -/
def State.casMode (s : State) (n : Nat) : Nat := s.bank n 0x400 0 2

/-- The default limits of axis n (R266). -/
def State.defLims (s : State) (n : Nat) : Lims :=
  ⟨vR (s.bankI n 0x440 0 48), aR (s.bankI n 0x448 0 48), aR (s.bankI n 0x450 0 48), jR (s.bankI n 0x458 0 48)⟩

/-- The superimposed limits of axis n (R269): SUP_AMAX limits acceleration and deceleration. -/
def State.supLims (s : State) (n : Nat) : Lims :=
  let a := aR (s.bankI n 0x468 0 48)
  ⟨vR (s.bankI n 0x460 0 48), a, a, jR (s.bankI n 0x470 0 48)⟩

/-- Signed distance in counts from an exact position to a target (R190, R257). -/
def distTo (target : Int) (p : Rat) : Rat :=
  let r := roundEven p
  ((sgn 48 (uns 48 (target - r)) : Int) : Rat) + ((r : Rat) - p)

/-! ### When a command acts (R248, R249) -/

/-- CAS_START of the cycle in fabric ticks from the boundary: the end of the static segment plus 400 ns (R244). -/
def State.casStart (s : State) : Nat := s.slotStart (s.fld .netSegCfg fNetSegCfg_SLOT_COUNT) + 200

/-- True when the pass of the present cycle, for the tick of the next, begins at least 64 fabric ticks from now. -/
def State.passAhead (s : State) : Bool := !s.casSys.done && decide (s.now + 64 ≤ s.bndAt + s.casStart)

/-- The result of timing a command (0 accepted, 3 LATE, 4 NEED_CYCLE) and the profile tick of its pass. -/
def State.casWhen (s : State) (at_ : Bool) (n : Nat) : Nat × Nat :=
  if at_ then
    let d := cycleDiff n s.cycleN
    if d ≤ 0 || (d = 1 && !s.passAhead) then (3, 0) else (0, n)
  else if s.twin then (4, 0)
  else (0, (s.cycleN + (if s.passAhead then 1 else 2)) % 2 ^ 48)

/-- True when a command of tick t acts in the pass for tick k. -/
def actsIn (k t : Nat) : Bool := decide (cycleDiff t k ≤ 0)

/-- A Cascade command of axis n waits for its pass. -/
def State.casPut (s : State) (n tick : Nat) (c : CasCmd) : State :=
  s.setCasH n { s.casH n with cmds := (s.casH n).cmds ++ [(tick, c)] }

/-! ### The queue (R264 to R269) -/

/-- The pushes of axis n still waiting for their pass (DEDUCED, log entry 47). -/
def pushesOf (l : List (Nat × CasCmd)) : List QEnt := l.filterMap (fun x => match x.2 with | .push e => some e | _ => none)

/-- The words of an entry (R264) (DEDUCED, log entry 47). -/
def entryWords (e : QEnt) : List Byte :=
  let ctl := e.type + 4 * e.trans + 16 * b2n e.gstart + 32 * b2n e.super + 2 ^ 16 * e.id
  [e.target, e.vmax, e.amax, e.dmax, e.jmax, ctl, e.tick, 0].flatMap (leBytes 8)

/-- The queue words appear in both banks (R264, R265): an entry is held from the write of its push. -/
def State.queueWords (s : State) (n : Nat) : State :=
  let l := ((s.casH n).q ++ pushesOf (s.casH n).cmds).flatMap entryWords
  let put := fun (s : State) (b : Nat) => (s.clearMem (b + 0x500) 0x200).setBytes (b + 0x500) l
  put (put s (liveBank n)) (stagedBank n)

/-- SEG of axis n. -/
def segNo (c : CasH) (stopping : Bool) : Nat :=
  match c.prof.segs with
  | g :: _ => g.no
  | [] => match c.move with
    | some m => if m.vel then 9 else 0
    | none => if stopping && (c.prof.v != 0) then 10 else 0

/-- MV_STAT follows what Cascade holds (DEDUCED, log entry 47). -/
def State.mvShow (s : State) (n : Nat) : State :=
  let c := s.casH n
  let s := s.setFld (.axsMvStat n) fAxsMvStat_QCOUNT (c.q.length + (pushesOf c.cmds).length)
  let s := s.setFld (.axsMvStat n) fAxsMvStat_ACTIVE_ID (match c.move with | some m => m.id | none => 0)
  let s := s.setFlag (.axsMvStat n) fAxsMvStat_PLANNED (match c.q with | e :: _ => e.plan.isSome | [] => false)
  let s := s.setFlag (.axsMvStat n) fAxsMvStat_REVERSING (match c.move with | some m => m.rev | none => false)
  (s.setFld (.axsMvStat n) fAxsMvStat_SEG (segNo c (s.ax n == axSTOPPING))).queueWords n

/-- PUSH_RES (DESIGN CHOICE, log entry 50). -/
def State.pushRes (s : State) (n r : Nat) : State := s.setFld (.axsMvStat n) fAxsMvStat_PUSH_RES r

/-- What a write of PUSH = 1 is refused with (R265). -/
def State.pushRefuse (s : State) (n : Nat) : List Nat :=
  let c := s.casH n
  refuseIf (decide (8 ≤ c.q.length + (pushesOf c.cmds).length)) cBUSY

/-- The entry that the push registers describe. -/
def State.pushEntry (s : State) (n tick : Nat) : QEnt :=
  { target := s.regN (.axsMvTarget n), vmax := s.regN (.axsMvVmax n), amax := s.regN (.axsMvAmax n)
    dmax := s.regN (.axsMvDmax n), jmax := s.regN (.axsMvJmax n), type := s.fld (.axsMvCtl n) fAxsMvCtl_TYPE
    trans := s.fld (.axsMvCtl n) fAxsMvCtl_TRANS, gstart := s.flag (.axsMvCtl n) fAxsMvCtl_GSTART
    super := s.flag (.axsMvCtl n) fAxsMvCtl_SUPER, id := s.fld (.axsMvCtl n) fAxsMvCtl_ID
    tick := if s.flag (.axsMvCtl n) fAxsMvCtl_AT then tick else 0 }

/-- PUSH = 1 (R265, R248, R249): the entry waits for its pass, or PUSH_RES says LATE or NEED_CYCLE. -/
def State.movePush (s : State) (n : Nat) : State :=
  let w := s.casWhen (s.flag (.axsMvCtl n) fAxsMvCtl_AT) (s.regN (.axsCasCycle n))
  if w.1 ≠ 0 then s.pushRes n w.1
  else ((s.pushRes n 0).casPut n w.2 (.push (s.pushEntry n w.2))).mvShow n

/-- FLUSH = 1 (R269). -/
def State.moveFlush (s : State) (n : Nat) : State :=
  let w := s.casWhen (s.flag (.axsMvCtl n) fAxsMvCtl_AT) (s.regN (.axsCasCycle n))
  if w.1 ≠ 0 then s.pushRes n w.1 else (s.pushRes n 0).casPut n w.2 .flush

/-- APPLY = 1 (R270). -/
def State.changeApply (s : State) (n : Nat) : State :=
  let w := s.casWhen (s.flag (.axsChgCtl n) fAxsChgCtl_AT) (s.regN (.axsCasCycle n))
  if w.1 ≠ 0 then s.setFld (.axsMvStat n) fAxsMvStat_CHG_RES (w.1 + 3)
  else s.casPut n w.2 (.change (s.fld (.axsChgCtl n) fAxsChgCtl_EN) (s.regN (.axsChgVmax n)) (s.regN (.axsChgAmax n))
    (s.regN (.axsChgDmax n)))

/-- The queue of axis n is emptied, each entry counted (R269). -/
def State.flushQueue (s : State) (n : Nat) : State :=
  let c := s.casH n
  if c.q.isEmpty then s
  else (s.addSat (.axsMvStat n) fAxsMvStat_FLUSH_CNT c.q.length).setCasH n { c with q := [], qOld := 0 }

/-- A target reduced to a POS48. -/
def pos48 (x : Int) : Int := sgn 48 (uns 48 x)

/-- Where the moves of a list end that follow one another from a position (R267); a VEL entry counts as ending where it starts, until
it has run. -/
def endAfter (from_ : Int) (l : List QEnt) : Int := l.foldl (fun p e => e.abs.getD p) from_

/-- Where the active move ends, or the axis stands. -/
def activeEnd (c : CasH) : Int :=
  match c.move with
  | some m => if m.vel then roundEven (Prof.run c.prof c.prof.segs).p else m.target
  | none => roundEven c.prof.p

/-- Where the last move held ends (R267). -/
def endTarget (c : CasH) : Int := endAfter (activeEnd c) c.q

/-- True when the target of a REL entry behind those held counts from where a VEL move comes to rest (R267). -/
def endsByVel (c : CasH) : Bool :=
  match c.q.getLast?, c.move with
  | some e, _ => e.abs.isNone || e.rest
  | none, some m => m.vel
  | none, none => false

/-- The limits of an entry, 0 replaced by the default of the live bank (R266). -/
def State.entryLims (s : State) (n : Nat) (e : QEnt) : Lims :=
  let d := s.defLims n
  let f := fun (raw : Nat) (g : Int → Rat) (dflt : Rat) => if raw = 0 then dflt else g (sgn 48 raw)
  ⟨f e.vmax vR d.vmax, f e.amax aR d.amax, f e.dmax aR d.dmax, f e.jmax jR d.jmax⟩

/-- The AMAX that waits for the next entry that starts (R272): one that the active move has not used goes to the entry that
replaces it. -/
def amaxWaits (c : CasH) (e : QEnt) : Option Rat :=
  match c.move with
  | some m => if e.trans = 2 && m.amaxNew.isSome then m.amaxNew else c.amaxNext
  | none => c.amaxNext

/-- The limits that an entry is planned with: a DMAX and an AMAX that waited for it replace its own (R271, R272). -/
def startLims (c : CasH) (e : QEnt) : Lims :=
  { e.lims with amax := (amaxWaits c e).getD e.lims.amax, dmax := c.dmaxNext.getD e.lims.dmax }

/-- The plan of an entry is to be made again: it is requested in the pass for tick k. -/
def QEnt.again (e : QEnt) (k : Nat) : QEnt := if e.plan.isSome then { e with plan := none, req := some k } else e

/-- The plan of the head is to be made again. -/
def headAgain (k : Nat) : List QEnt → List QEnt
  | e :: t => e.again k :: t
  | [] => []

/-- True when a limit of the entry is negative (R266). -/
def limNegative (e : QEnt) : Bool := [e.vmax, e.amax, e.dmax, e.jmax].any (fun x => decide (sgn 48 x < 0))

/-- A limit refuses motion of axis n (R315, R316): LAST_REFUSE and the count. -/
def State.limRefused (s : State) (n r : Nat) : State :=
  (s.setFld (.axsLimStat n) fAxsLimStat_LAST_REFUSE r).incSat (.axsLimStat n) fAxsLimStat_REFUSE_CNT

/-- The direction in which an entry moves from an end position: of a REL move its distance's, of a VEL move its target's. -/
def entryDir (e : QEnt) (from_ : Int) : Int :=
  if e.type = 0 then sgn 48 (uns 48 ((e.target : Int) - from_)) else sgn 48 e.target

/-- The refusal of a push by hardware and software limits (R315, R316): 0 none, 1 hardware, 2 software. -/
def State.pushLimit (s : State) (n : Nat) (e : QEnt) (from_ : Int) (tgt : Int) : Nat :=
  let d := entryDir e from_
  if d > 0 && s.flag (.axsLimStat n) fAxsLimStat_BLK_POS then 1
  else if d < 0 && s.flag (.axsLimStat n) fAxsLimStat_BLK_NEG then 1
  else
    let t := sgn 48 (uns 48 tgt)
    if e.type != 2 && s.bank n 0x870 0 1 == 1 && (decide (s.bankI n 0x860 0 48 < t) || decide (t < s.bankI n 0x868 0 48)) then 2
    else 0

/-- A superimposed move is pushed (R269): it replaces the running one once stage P has planned it (R251), its REL target counted from
the superimposed profile's present position (DEDUCED, log entry 49). -/
def State.superPush (s : State) (n k : Nat) (e : QEnt) : State :=
  let c := s.casH n
  let tgt := if e.type = 1 then roundEven c.sup.p + sgn 48 e.target else sgn 48 e.target
  s.setCasH n { c with supReq := some (k, { e with abs := if e.type = 2 then none else some tgt }) }

/-- The plan of a superimposed move from the profile's present state. -/
def State.superPlan (s : State) (n : Nat) : State :=
  let c := s.casH n
  match c.supReq with
  | none => s
  | some (_, e) =>
    let m := s.supLims n
    let q := { c.sup with segs := [] }
    let segs := match e.abs with
      | none => planVel m q (vR (sgn 48 e.target))
      | some t => (planMove m q ((t : Rat) - q.p) 0).1
    s.setCasH n { c with sup := { q with segs := segs }, supReq := none }

/-- The velocity at which a move with limits a, starting at q with a distance d to its target, hands over to a BLENDED entry, none where
the entry runs in the other direction or the move cannot reach it (R261). -/
def blendVe (a b : Lims) (q : Prof) (d dir : Rat) : Option Rat :=
  let v := min a.vmax b.vmax
  let ve := if d < 0 then -v else v
  if 0 < d * dir && canReach a q d ve then some ve else none

/-- The state in which the entry behind a list of those held starts, its position left out, and the position it starts from. -/
def entryFrom (c : CasH) (before : List QEnt) (e : QEnt) : Prof × Int :=
  let v : Rat := if e.blend = 1 then
      match before.getLast?, c.move with
      | some p, _ => p.ve
      | none, some m => if m.replan.isSome then m.veNew else m.ve
      | none, none => 0
    else 0
  if e.trans = 2 then ({ c.prof with p := 0, segs := [] }, roundEven c.prof.p) else ({ v := v }, endAfter (activeEnd c) before)

/-- A BLENDED entry is pushed behind those held (R261): the move before it is planned to end at VE, or the entry is QUEUED with
BLEND_DROPPED. -/
def State.blendPush (s : State) (n k : Nat) (e : QEnt) : State :=
  let c := s.casH n
  let drop := (s.setCasH n { c with q := c.q ++ [{ e with blend := 2 }] }).pushRes n 6
  let dir : Rat := (entryDir e (endTarget c) : Int)
  match c.q.getLast?, c.move with
  | some p, _ =>
    match p.abs with
    | none => drop
    | some t =>
      let f := entryFrom c c.q.dropLast p
      match blendVe (startLims c p) e.lims f.1 ((pos48 (t - f.2) : Int) : Rat) dir with
      | some ve => s.setCasH n { c with q := c.q.dropLast ++ [{ p.again k with ve := ve }, { e with blend := 1 }] }
      | none => drop
  | none, some m =>
    if m.vel then drop
    else match blendVe m.lims e.lims { c.prof with segs := [] } (distTo m.target c.prof.p) dir with
      | some ve => s.setCasH n { c with q := [{ e with blend := 1 }], move := some { m with replan := some (m.replan.getD k), veNew := ve } }
      | none => drop
  | none, none => s.setCasH n { c with q := [{ e with blend := 2 }] }

/-- A push acts in the pass for tick k (R266, R267, R315 to R317): refused with a PUSH_RES, or held in the queue, or made the
superimposed move of a following axis. -/
def State.pushAct (s : State) (n k : Nat) (e : QEnt) : State :=
  let c := s.casH n
  let here := roundEven c.prof.p
  if (s.ax n != axENABLED && s.ax n != axMOVING) || (s.home n).on then s.pushRes n 1
  else if c.eng.isSome && !e.super then s.pushRes n 5
  else if e.type = 3 || e.trans = 3 || limNegative e then s.pushRes n 2
  else
    let prev := if e.trans = 2 then here else endTarget c
    let tgt : Int := if e.type = 1 then prev + sgn 48 e.target else sgn 48 e.target
    let lim := s.pushLimit n e prev tgt
    if lim ≠ 0 then (s.pushRes n 2).limRefused n lim
    else if e.super && c.eng.isSome then s.superPush n k e
    else
      let e := { e with abs := if e.type = 2 then none else some (pos48 tgt), lims := s.entryLims n e
                        rest := e.type == 1 && e.trans != 2 && endsByVel c, tick := if e.tick = 0 then 0 else k }
      let s := if e.trans = 2 then s.flushQueue n else s
      if e.trans = 1 then s.blendPush n k e else s.setCasH n { s.casH n with q := (s.casH n).q ++ [e] }

/-- A FLUSH acts (R269): an active move that had been replanned for a BLENDED successor is replanned to end at rest. -/
def State.flushAct (s : State) (n k : Nat) : State :=
  let s := s.flushQueue n
  let c := s.casH n
  match c.move with
  | some m => if !m.vel && (m.ve != 0 || (m.replan.isSome && m.veNew != 0)) then
      s.setCasH n { c with move := some { m with replan := some (m.replan.getD k), veNew := 0 } }
    else s
  | none => s

/-! ### Changes (R270 to R274) -/

/-- CHG_RES (DESIGN CHOICE, log entry 51). -/
def State.chgRes (s : State) (n r : Nat) : State := s.setFld (.axsMvStat n) fAxsMvStat_CHG_RES r

/-- The number of the segment running. -/
def curSeg (c : CasH) : Nat := match c.prof.segs with | g :: _ => g.no | [] => 0

/-- True when an acceleration phase is under way. -/
def accUnderWay (c : CasH) : Bool := [1, 2, 3].contains (curSeg c)

/-- True when the deceleration phase with a new DMAX still stops at or before the target (R271). -/
def softFits (c : CasH) (m : Move) (l : Lims) : Bool :=
  if m.vel then true
  else
    let q1 := Prof.run { c.prof with p := 0, segs := [] } (segZero c.prof.a l.jmax)
    let d := distTo m.target c.prof.p - q1.p
    let need := slowDist l q1.v m.ve
    if q1.v > 0 then need ≤ d else if q1.v < 0 then d ≤ need else true

/-- A change acts on the active move (R270 to R273). A higher VMAX after segment 4 has no effect, and CHG_RES then reads 0, of which
R273 says nothing (DESIGN CHOICE, log entry 51). -/
def State.changeMove (s : State) (n k : Nat) (m : Move) (en vm am dm : Nat) : State :=
  let c := s.casH n
  let sg := curSeg c
  -- DMAX
  let dOn := bitOf en 2
  let l1 := { m.lims with dmax := aR (sgn 48 dm) }
  let dOk := dOn && softFits c m l1
  let m1 := if dOk then { m with lims := l1 } else m
  -- VMAX
  let v := vR (sgn 48 vm)
  let vOk := bitOf en 0 && (decide (v < m.lims.vmax) || [0, 1, 2, 3, 4, 8, 9].contains sg)
  let m2 := if vOk then { m1 with lims := { m1.lims with vmax := v } } else m1
  -- AMAX
  let aOn := bitOf en 1
  let more := c.prof.segs.any (fun g => [1, 2, 3].contains g.no) && !accUnderWay c
  let m3 := if aOn then { m2 with amaxNew := some (aR (sgn 48 am)) } else m2
  let re := dOk || vOk || (aOn && more)
  let ve := if m.replan.isSome then m.veNew else m.ve
  let m4 := if re then { m3 with replan := some (m.replan.getD k), veNew := ve } else m3
  let s := s.setCasH n (if dOn && !dOk then { c with move := some m4, dmaxNext := some (aR (sgn 48 dm)), q := headAgain k c.q }
    else { c with move := some m4 })
  let s := if dOn && !dOk then s.setFlag (.axsMvStat n) fAxsMvStat_PARAM_DEFERRED true else s
  s.chgRes n (if dOn && !dOk then 2 else if aOn then 3 else if dOk || vOk then 1 else 0)

/-- A change acts in its pass (R270, R274, R318): on the head of the queue when it is an IMMEDIATE entry about to start, else
on the active move (DESIGN CHOICE, log entry 51). -/
def State.changeAct (s : State) (n k : Nat) (en vm am dm : Nat) : State :=
  let c := s.casH n
  if s.ax n = axSTOPPING then s.chgRes n 4
  else if (s.home n).on then s.chgRes n 5
  else
    match c.q with
    | e :: t =>
      if e.trans = 2 && !e.gstart then
        let l := { e.lims with
          vmax := if bitOf en 0 then vR (sgn 48 vm) else e.lims.vmax
          amax := if bitOf en 1 then aR (sgn 48 am) else e.lims.amax
          dmax := if bitOf en 2 then aR (sgn 48 dm) else e.lims.dmax }
        let e := { e with lims := l, plan := none
                          vmax := if bitOf en 0 then vm else e.vmax
                          amax := if bitOf en 1 then am else e.amax
                          dmax := if bitOf en 2 then dm else e.dmax }
        let s := s.setCasH n { c with
          q := e :: t, dmaxNext := if bitOf en 2 then none else c.dmaxNext, amaxNext := if bitOf en 1 then none else c.amaxNext
          move := c.move.map (fun m => if bitOf en 1 then { m with amaxNew := none } else m) }
        s.chgRes n 1
      else match c.move with
        | some m => s.changeMove n k m en vm am dm
        | none => s.chgRes n 5
    | [] => match c.move with
      | some m => s.changeMove n k m en vm am dm
      | none => s.chgRes n 5

/-! ### Plans (R251, R256 to R262) -/

/-- The state from which the head of the queue starts: the present one, or the end of the active move. None while that end
is not known (behind a VEL move that does not come to rest). -/
def headStart (c : CasH) (e : QEnt) : Option Prof :=
  let now := { c.prof with segs := [] }
  if e.trans = 2 then some now
  else match c.move with
    | none => some now
    | some m =>
      if m.vel then (if m.vt = 0 && m.replan.isNone then some { Prof.run now c.prof.segs with segs := [] } else none)
      else
        let ve := if e.blend = 1 then (if m.replan.isSome then m.veNew else m.ve) else 0
        some { p := c.prof.p + distTo m.target c.prof.p, v := ve }

/-- The plan of an entry from a state. -/
def planEntry (l : Lims) (e : QEnt) (q : Prof) : List Seg × Bool :=
  match e.abs with
  | none => (planVel l q (vR (sgn 48 e.target)), false)
  | some t => planMove l q (distTo t q.p) e.ve

/-- The head of the queue asks for its plan, once its start is known (DEDUCED, log entry 48). -/
def State.headRequest (s : State) (n k : Nat) : State :=
  let c := s.casH n
  match c.q with
  | e :: t => if e.plan.isNone && e.req.isNone && (headStart c e).isSome then
      s.setCasH n { c with q := { e with req := some k } :: t } else s
  | [] => s

/-- The targets of REL entries that count from where a VEL move comes to rest move by d, once that is known (R267). -/
def shiftRest (d : Int) : List QEnt → List QEnt
  | e :: t => if e.rest then { e with abs := e.abs.map (fun x => pos48 (x + d)) } :: shiftRest d t else e :: t
  | [] => []

/-- The head of the queue with its target counted from where it starts, where it could not be counted before (R267). -/
def headTarget (q : Prof) : List QEnt → List QEnt
  | e :: t =>
    if e.rest then
      let d := roundEven q.p + sgn 48 e.target - e.abs.getD 0
      { e with rest := false, abs := some (pos48 (e.abs.getD 0 + d)) } :: shiftRest d t
    else e :: t
  | [] => []

/-- The head of the queue no longer blends with the move before it, which does not reach VE any more (DEDUCED, log entry 48). -/
def unblend (k : Nat) : List QEnt → List QEnt
  | e :: t => (if e.blend = 1 then { e.again k with blend := 2 } else e) :: t
  | [] => []

/-- The velocity at which a move from state q over a distance d ends: VE held to VMAX, 0 where it cannot be reached any more (R261,
R263) (DEDUCED, log entry 48). -/
def veOf (l : Lims) (q : Prof) (d ve : Rat) : Rat :=
  let v := if ve < 0 then max ve (-l.vmax) else min ve l.vmax
  if v = 0 || canReach l q d v then v else 0

/-- The plan of the head is made (DEDUCED, log entry 48). -/
def State.planHead (s : State) (n : Nat) : State :=
  let c := s.casH n
  match c.q with
  | [] => s
  | e :: _ =>
    match headStart c e with
    | none => s
    | some q =>
      match headTarget q c.q with
      | [] => s
      | e :: t =>
        let l := startLims c e
        let ve : Rat := match e.abs with
          | some x => veOf l q (distTo x q.p) e.ve
          | none => 0
        let e := { e with ve := ve }
        let r := planEntry l e q
        s.setCasH n { c with q := { e with req := none, plan := some (q, r.1, r.2) } :: (if ve = 0 then unblend 0 t else t) }

/-- True when a plan holds a phase that raises the magnitude of the velocity (R272). -/
def accelerates (q : Prof) : List Seg → Bool
  | [] => false
  | g :: t => ([1, 5].contains g.no && (decide (0 < g.j * q.v) || (q.v = 0 && g.j != 0))) || accelerates (Prof.run q [g]) t

/-- The active move is planned again from the present state (R269, R271, R273). -/
def State.planActive (s : State) (n k : Nat) : State :=
  let c := s.casH n
  match c.move with
  | none => s
  | some m =>
    let q := { c.prof with segs := [] }
    let d := distTo m.target q.p
    let ve := if m.vel then 0 else veOf m.lims q d m.veNew
    let plan := fun (l : Lims) => if m.vel then (planVel l q m.vt, false) else planMove l q d ve
    let l1 := { m.lims with amax := m.amaxNew.getD m.lims.amax }
    let use := m.amaxNew.isSome && !accUnderWay c && accelerates q (plan l1).1
    let m := if use then { m with lims := l1, amaxNew := none } else m
    let r := plan m.lims
    let s := s.setCasH n { c with prof := { q with segs := r.1 }, move := some { m with replan := none, ve := ve, veNew := ve, rev := r.2 }
                                  q := if ve = 0 then unblend k c.q else c.q }
    if use && s.fld (.axsMvStat n) fAxsMvStat_CHG_RES == 3 then s.chgRes n 1 else s

/-- A DISENGAGE ends the following (R279): a VEL move to 0 with the default limits starts (DEDUCED, log entry 49). -/
def State.disengagePlan (s : State) (n : Nat) : State :=
  let s := s.flushQueue n
  let c := s.casH n
  let l := s.defLims n
  let q : Prof := { p := c.out, v := c.prof.v, a := c.prof.a }
  let m : Move := { vel := true, lims := l }
  let s := s.setCasH n { c with eng := none, sw := none, armed := none, armOff := none, off := none, sup := {}, supReq := none
                                move := some m, prof := { q with segs := planVel l q 0 } }
  (s.setReg (.axsSupP n) 0).setFld (.axsFolStat n) fAxsFolStat_RES 1

/-- A request for a plan: the pass it was made in, the axis, and what it is for: the active move (0), the head of the queue (1), a
superimposed move (2), the end of a following (3). -/
def State.planReqs (s : State) : List (Nat × Nat × Nat) :=
  allAxes.flatMap (fun n =>
    let c := s.casH n
    let f := fun (k : Nat) (t : Option Nat) => match t with | some t => [(t, n, k)] | none => []
    f 0 (match c.move with | some m => m.replan | none => none) ++ f 1 (match c.q with | e :: _ => e.req | [] => none) ++
      f 2 (c.supReq.map (fun x => x.1)) ++ f 3 c.off)

/-- The plan a request asks for. -/
def State.planOne (k : Nat) (s : State) (x : Nat × Nat × Nat) : State :=
  match x.2.2 with
  | 0 => s.planActive x.2.1 k
  | 1 => s.planHead x.2.1
  | 2 => s.superPlan x.2.1
  | _ => s.disengagePlan x.2.1

/-- A request placed in the order of service (R251). -/
def reqInsert (x : Nat × Nat × Nat) : List (Nat × Nat × Nat) → List (Nat × Nat × Nat)
  | [] => [x]
  | y :: t => if cycleDiff x.1 y.1 < 0 then x :: y :: t else y :: reqInsert x t

/-- d plans did not fit the pass (R251). -/
def State.planDefer (s : State) (d : Nat) : State :=
  (s.addSat .casStat fCasStat_PLAN_DEFER d).raiseIf (decide (0 < d) && s.flag .casCtl fCasCtl_EV_DEFER) 341

/-- Stage P of the pass for tick k serves PLAN_MAX plans and defers the rest (R251). -/
def State.stageP (s : State) (k : Nat) : State :=
  let l := s.planReqs.foldl (fun l x => reqInsert x l) []
  let most := s.fld .casCtl fCasCtl_PLAN_MAX
  let s := (l.take most).foldl (State.planOne k) s
  let s := { s with casSys := { s.casSys with plans := min most l.length } }
  s.planDefer (l.drop most).length

/-- The plan that ends a following is made in the pass for tick k, where one still fits, else requested (R251, R279)
(DEDUCED, log entry 49). -/
def State.disengageNow (s : State) (n k : Nat) : State :=
  if s.casSys.plans < s.fld .casCtl fCasCtl_PLAN_MAX then
    { s.disengagePlan n with casSys := { s.casSys with plans := s.casSys.plans + 1 } }
  else (s.setCasH n { s.casH n with off := some k }).planDefer 1

/-! ### Group starts (R275, R276) -/

/-- The members of group g whose head entry waits for the group. -/
def State.armedOf (s : State) (g : Nat) : List Nat :=
  allAxes.filter (fun n => s.group n == some g && (match (s.casH n).q with | e :: _ => e.gstart && !e.go | [] => false))

/-- GRP_STAT.ARMED of every group. -/
def State.showArmed (s : State) : State :=
  s.each (List.range 32) (fun g s => s.setFld (.casGrpStat g) fCasGrpStat_ARMED (s.armedOf g).length)

/-- What GO = 1 is refused with (R276). -/
def State.groupRefuse (s : State) (g : Nat) : List Nat := refuseIf (s.grp g).at_.isSome cBUSY

/-- GO = 1 (R275, R248, R249). -/
def State.groupGo (s : State) (g : Nat) : State :=
  let w := s.casWhen (s.flag .casGrpCtl fCasGrpCtl_AT) (s.regN .casGrpCycle)
  if w.1 ≠ 0 then s.setFld (.casGrpStat g) fCasGrpStat_RES (w.1 + 1)
  else s.setGrp g { at_ := some w.2, waited := 0 }

/-- True when the active move has ended, so that a queued entry may start. -/
def moveOver (c : CasH) : Bool :=
  match c.move with
  | none => true
  | some m => c.prof.segs.isEmpty && (!m.vel || m.vt = 0) && m.replan.isNone

/-- True when an entry's plan starts from the present state of its axis. -/
def planFits (c : CasH) (e : QEnt) : Bool :=
  match e.plan with
  | some p => decide (p.1 = { c.prof with segs := [] })
  | none => false

/-- Group g waits one more pass for a plan, or for the end of a member's move, with no member started; after 8 it gives up (R276)
(DEDUCED, log entry 49). -/
def State.groupWait (s : State) (g : Nat) : State :=
  if 8 ≤ (s.grp g).waited then (s.setGrp g {}).setFld (.casGrpStat g) fCasGrpStat_RES 3
  else (s.setGrp g { s.grp g with waited := (s.grp g).waited + 1, starting := false }).setFld (.casGrpStat g) fCasGrpStat_RES 2

/-- The head of axis n is marked as started by its group, or no longer so. -/
def State.setGo (s : State) (n k : Nat) (b : Bool) : State :=
  let c := s.casH n
  match c.q with
  | e :: r => s.setCasH n { c with q := (let e := { e with go := b }; if b && !planFits c e then e.again k else e) :: r }
  | [] => s

/-- The start of group g in the pass for tick k (R275, R276), before the pass's own pushes: every head entry of its members that waits
for the group is marked; one whose plan was made from another state asks for it again. -/
def State.groupAct (s : State) (g k : Nat) : State :=
  match (s.grp g).at_ with
  | none => s
  | some t =>
    if !actsIn k t then s
    else
      let l := s.armedOf g
      let waits := l.any (fun n => match (s.casH n).q with
        | e :: _ => e.plan.isNone || !(e.trans = 2 || moveOver (s.casH n))
        | [] => false)
      if waits then s.groupWait g
      else (l.foldl (fun s n => s.setGo n k true) s).setGrp g { s.grp g with starting := true }

/-- The members of group g that start in the pass under way. -/
def State.startingOf (s : State) (g : Nat) : List Nat :=
  allAxes.filter (fun n => s.group n == some g && (match (s.casH n).q with | e :: _ => e.gstart && e.go | [] => false))

/-- The start of group g after stage P (R275, R276): all its members, or none where a plan is still missing. -/
def State.groupStart (s : State) (g k : Nat) : State :=
  if !(s.grp g).starting then s
  else
    let l := s.startingOf g
    if l.any (fun n => match (s.casH n).q with | e :: _ => e.plan.isNone | [] => false) then
      (l.foldl (fun s n => s.setGo n k false) s).groupWait g
    else
      let s := (s.setGrp g {}).setFld (.casGrpStat g) fCasGrpStat_RES 1
      (s.setFld (.casGrpStat g) fCasGrpStat_STARTED l.length).incWrap (.casGrpStat g) fCasGrpStat_START_CNT

/-! ### The step of a moving axis (R267, R268) -/

/-- The head of the queue starts when its plan exists and nothing holds it (R267, R268); where the plan starts from another state than
the present one it is requested again in the pass for tick k (DEDUCED, log entry 48). -/
def State.startHead (s : State) (n k : Nat) : State :=
  let c := s.casH n
  match c.q with
  | [] => s
  | e :: t =>
    match e.plan with
    | none => s
    | some (_, segs, rev) =>
      if (e.gstart && !e.go) || !(e.trans = 2 || moveOver c) then s
      else if !planFits c e then s.setCasH n { c with q := e.again k :: t }
      else
        let m : Move := { vel := e.abs.isNone, target := e.abs.getD 0, vt := vR (sgn 48 e.target), lims := startLims c e, id := e.id
                          rev := rev, ve := e.ve, veNew := e.ve }
        let used := (amaxWaits c e).isSome && s.fld (.axsMvStat n) fAxsMvStat_CHG_RES == 3
        let s := s.setCasH n { c with q := t, prof := { c.prof with segs := segs }, move := some m, dmaxNext := none, amaxNext := none
                                      done := false }
        if used then s.chgRes n 1 else s

/-- The step of an axis that follows nothing in the pass for tick k: a start, one tick, the end of a move (R268). An AMAX that the move
has not used waits for the next entry (R272). -/
def State.moveStep (s : State) (n k : Nat) : State :=
  let s := s.startHead n k
  let c := s.casH n
  let p := c.prof.tick
  let beyond := match c.move with
    | some m => p.segs.isEmpty && (!m.vel || m.vt = 0) && m.replan.isNone
    | none => false
  let c := { c with prof := p, out := p.p, done := c.done || (beyond && c.q.isEmpty) }
  s.setCasH n (match beyond, c.move with
    | true, some m => match m.amaxNew with
      | some a => { c with move := none, amaxNext := some a, q := headAgain k c.q }
      | none => { c with move := none }
    | _, _ => c)

/-- The setpoints of a pass appear (R255). -/
def State.showSet (s : State) (n : Nat) (p v a : Rat) : State :=
  ((s.setReg (.axsSetP n) (pOut p)).setReg (.axsSetV n) (vOut v)).setReg (.axsSetA n) (aOut a)

/-- Moves, following and queue of an axis end (R252, R253, R269); its profile goes on from q
(DEDUCED, log entry 65). -/
def State.casClear (s : State) (n : Nat) (q : Prof) : State :=
  let s := s.flushQueue n
  let s := s.setCasH n { s.casH n with prof := q, move := none, armed := none, eng := none, sw := none, armOff := none
                                       off := none, sup := {}, supReq := none, done := false }
  let s := s.setReg (.axsSupP n) 0
  (s.setFld (.axsFolStat n) fAxsFolStat_FSTATE 0).setFlag (.axsFolStat n) fAxsFolStat_SW_ARMED false

end Sys2Proof.Machine
end

