-- ==== Sys2Proof/Machine/FollowOps.lean ====
section
/-! DEFINITION. Following a master: gears, cams, line masters (08_profiles_cams.md, R277 to R295). -/
namespace Sys2Proof.Machine

/-! ### Line masters (R290 to R295) -/

/-- The magnitude of v_t - v_s over α: the length of an order's ramp in ns (R291). -/
def rampNs (o : LmOrd) : Rat := if o.al = 0 then 0 else (((o.vt - o.v).natAbs : Nat) : Rat) * 2 ^ 24 / (o.al : Rat)

/-- σ of an order. -/
def rampSign (o : LmOrd) : Rat := if o.v < o.vt then 1 else if o.vt < o.v then -1 else 0

/-- M(t) in 2^-24 counts, exact (R291). -/
def lmPos (o : LmOrd) (t : Int) : Rat :=
  let d : Rat := ((t - o.ts : Int) : Rat) / 2 ^ 16
  let e := rampNs o
  let f := fun (x : Rat) => (o.p : Rat) + (o.v : Rat) * x / 2 ^ 8 + rampSign o * (o.al : Rat) * x * x / 2 ^ 33
  if d < e then f d else f e + (o.vt : Rat) * (d - e) / 2 ^ 8

/-- V(t) in 2^-32 counts per ns, exact (R291). -/
def lmVel (o : LmOrd) (t : Int) : Rat :=
  let d : Rat := ((t - o.ts : Int) : Rat) / 2 ^ 16
  if d < rampNs o then (o.v : Rat) + rampSign o * (o.al : Rat) * d / 2 ^ 24 else (o.vt : Rat)

/-- True while a ramp runs at t. -/
def lmRamp (o : LmOrd) (t : Int) : Bool := decide (((t - o.ts : Int) : Rat) / 2 ^ 16 < rampNs o)

/-- The order in force at t: the last of those pending whose t_s has come, else the present one. -/
def lmAt (cur : LmOrd) (pend : List LmOrd) (t : Int) : LmOrd :=
  (pend.filter (fun o => decide (o.ts ≤ t))).getLast?.getD cur

/-- M reduced to a POS48 with 24 fraction bits. -/
def lmM (o : LmOrd) (t : Int) : Int := sgn 72 (uns 72 (roundEven (lmPos o t)))

/-- Orders whose t_s has come take effect (R291, R294, R295): STEP where the anchor differs. -/
def State.lmTake (s : State) (l : Nat) (t : Int) : State :=
  let h := s.lm l
  let due := h.pend.filter (fun o => decide (o.ts ≤ t))
  let s := due.foldl (fun (s : State) o =>
    let c := (s.lm l).cur
    let step := o.re && (decide (lmM c o.ts ≠ sgn 72 (uns 72 o.p)) || decide (roundEven (lmVel c o.ts) ≠ o.v))
    let s := s.setLm l { s.lm l with cur := o }
    let s := if step then s.setFlag (.lmStat l) fLmStat_STEP true else s
    s.incWrap (.lmStat l) fLmStat_APPLIED) s
  let h := s.lm l
  let p := h.pend.filter (fun o => !decide (o.ts ≤ t))
  (s.setLm l { h with pend := p }).setFld (.lmStat l) fLmStat_PENDING p.length

/-- A line master in a pass (R292, R293): its value at the nominal line time of the next boundary. -/
def State.lmPass (s : State) (l : Nat) : State :=
  let t := s.time.target
  let s := s.lmTake l t
  let h := s.lm l
  let len : Rat := (s.cycLen : Rat) / 2
  let m := lmM h.cur t
  let vm := satS 48 (roundEven (lmVel h.cur t * len / 2 ^ 8))
  let am := if lmRamp h.cur t then satS 48 (roundEven (rampSign h.cur * (h.cur.al : Rat) * len * len / 2 ^ 24)) else 0
  let s := s.setLm l { h with m := m, vm := vm, am := am }
  let s := s.setFlag (.lmStat l) fLmStat_RAMP (lmRamp h.cur t)
  (s.setRegI (.lmPos l) (roundEven ((m : Rat) / 2 ^ 24))).setRegI (.lmVel l) vm

/-- The order in the registers of line master l. -/
def State.lmOrder (s : State) (l : Nat) (re : Bool) : LmOrd :=
  { ts := (s.regN (.lmOSec l) : Int) * secUnit + (s.fld (.lmONs l) fLmONs_NS : Int)
    p := s.regI (.lmOP l) * 2 ^ 24 + (s.fld (.lmOPf l) fLmOPf_FRAC : Int)
    v := s.regI (.lmOV l), vt := s.regI (.lmOVt l), al := s.regN (.lmOA l), re := re }

/-- RES of an order (R294, R295): the first of RANGE, FULL, LATE, ORDER and DISCONT that refuses it, else ACCEPTED
(DEDUCED, log entry 56). -/
def State.lmResult (s : State) (l : Nat) (o : LmOrd) : Nat :=
  let h := s.lm l
  let c := lmAt h.cur h.pend o.ts
  if o.al = 0 then 6
  else if 4 ≤ h.pend.length then 5
  else if o.ts < s.lt + 2 * s.cycLenLt then 2
  else if h.pend.any (fun x => decide (o.ts ≤ x.ts)) then 3
  else if !o.re && (decide (lmM c o.ts ≠ sgn 72 (uns 72 o.p)) || decide (roundEven (lmVel c o.ts) ≠ o.v)) then 4
  else 1

/-- O_CTL PUSH (R294, R295). -/
def State.lmPush (s : State) (l : Nat) (re : Bool) : State :=
  let o := s.lmOrder l re
  let r := s.lmResult l o
  let s := s.setFld (.lmStat l) fLmStat_RES r
  if r = 1 then
    let h := s.lm l
    (s.setLm l { h with pend := h.pend ++ [o] }).setFld (.lmStat l) fLmStat_PENDING (h.pend.length + 1)
  else s

/-- O_CTL CLEAR (R294). -/
def State.lmClear (s : State) (l : Nat) : State :=
  (s.setLm l { s.lm l with pend := [] }).setFld (.lmStat l) fLmStat_PENDING 0

/-- A write of PR_NS starts a prediction (R295). -/
def State.lmPredict (s : State) (l : Nat) : State :=
  (s.setLm l { s.lm l with pred := some s.now }).setFlag (.lmPrPf l) fLmPrPf_DONE false

/-- The prediction ends (R295), within 1 µs of its start: M and V at the time asked, with the orders pending. -/
def State.lmPredicted (s : State) (l : Nat) : State :=
  let h := s.lm l
  let t := (s.regN (.lmPrSec l) : Int) * secUnit + (s.fld (.lmPrNs l) fLmPrNs_NS : Int)
  let o := lmAt h.cur h.pend t
  let m := uns 72 (roundEven (lmPos o t))
  let s := s.setLm l { h with pred := none }
  let s := (s.setRegN (.lmPrP l) (m / 2 ^ 24)).setFld (.lmPrPf l) fLmPrPf_FRAC (m % 2 ^ 24)
  (s.setFlag (.lmPrPf l) fLmPrPf_DONE true).setRegI (.lmPrV l) (satS 48 (roundEven (lmVel o t)))

/-! ### Cam tables (R283 to R285) -/

/-- The base of the cam store (R283). -/
def camBase : Nat := 0x01180000

/-- A cam point: master and slave position relative to the table's first point, the slave absolute at the first, slope. -/
structure CamPt where
  m : Int
  sl : Int
  k : Rat
  deriving DecidableEq, Repr, Inhabited

/-- The raw point i of the store: master, slave, slope word. -/
def State.camRaw (s : State) (i : Nat) : Int × Int × Int :=
  let a := camBase + i * 16
  (sgn 48 (s.load a 6), sgn 48 (s.load (a + 6) 6), sgn 32 (s.load (a + 12) 4))

/-- Points unwrapped by signed differences: master from 0, slave from its own first value. -/
def camChain : Int × Int → Int × Int → List (Int × Int × Int) → List CamPt
  | _, _, [] => []
  | prev, acc, x :: t =>
    let m := acc.1 + sgn 48 (uns 48 (x.1 - prev.1))
    let v := acc.2 + sgn 48 (uns 48 (x.2.1 - prev.2))
    ⟨m, v, (x.2.2 : Rat) / 2 ^ 24⟩ :: camChain (x.1, x.2.1) (m, v) t

/-- The points of table t. -/
def State.camPts (s : State) (t : Nat) : List CamPt :=
  let f := s.fld (.casCam t) fCasCam_FIRST
  let l := (upFrom f (s.fld (.casCam t) fCasCam_COUNT)).map (fun i => s.camRaw i)
  match l with
  | [] => []
  | x :: _ => camChain (x.1, x.2.1) (0, x.2.1) l

/-- The first master position of table t. -/
def State.camFirst (s : State) (t : Nat) : Int := (s.camRaw (s.fld (.casCam t) fCasCam_FIRST)).1

/-- True for a CYCLIC table. -/
def State.camCyclic (s : State) (t : Nat) : Bool := s.flag (.casCam t) fCasCam_MODE

/-- Engaged axes and armed switches that use table t (R285, IN_USE) (DEDUCED, log entry 56). -/
def State.camUse (s : State) (t : Nat) : Nat :=
  (allAxes.filter (fun n => match (s.casH n).eng with | some e => e.cam && e.camH.table == t | none => false)).length +
  (allAxes.filter (fun n => match (s.casH n).sw with | some x => x.2 == t | none => false)).length

/-- Tables in use whose points include point i. -/
def State.camPointUsed (s : State) (i : Nat) : Bool :=
  (List.range 64).any (fun t => decide (0 < s.camUse t) && decide (s.fld (.casCam t) fCasCam_FIRST ≤ i) &&
    decide (i < s.fld (.casCam t) fCasCam_FIRST + s.fld (.casCam t) fCasCam_COUNT))

/-- What a write of n bytes to the cam store from byte offset off is refused with (R285). -/
def State.camStoreRefuse (s : State) (off n : Nat) : List Nat :=
  refuseIf ((upFrom (off / 16) ((off + n + 15) / 16 - off / 16)).any (fun i => s.camPointUsed i)) cLOCKED

/-- What a write of a descriptor is refused with (R285). -/
def State.camDescRefuse (s : State) (t : Nat) : List Nat := refuseIf (decide (0 < s.camUse t)) cLOCKED

/-- A descriptor has been written: its check starts (R284). -/
def State.camCheckStart (s : State) (t : Nat) : State :=
  let s := (s.setFlag (.casCam t) fCasCam_VALID false).setFlag (.casCam t) fCasCam_BUSY true
  { s with casSys := { s.casSys with checks := tabSet 0 t (s.now + 1) s.casSys.checks } }

/-- The result of a table's check (R284): 0, or the ERR code. -/
def State.camCheck (s : State) (t : Nat) : Nat :=
  let f := s.fld (.casCam t) fCasCam_FIRST
  let c := s.fld (.casCam t) fCasCam_COUNT
  if c < 2 || 16384 < f + c then 2
  else
    let l := s.camPts t
    let rises := (l.zip (l.drop 1)).all (fun x => decide (x.1.m < x.2.m))
    let last := l.getLast?.getD default
    let first := l.head?.getD default
    if !rises || decide (2 ^ 47 ≤ last.m) then 1
    else if (s.camCyclic t && decide (first.k ≠ last.k)) || (!s.camCyclic t && (decide (first.k ≠ 0) || decide (last.k ≠ 0))) then 3
    else 0

/-- A table's check ends (R284). -/
def State.camChecked (s : State) (t : Nat) : State :=
  let e := s.camCheck t
  let s := { s with casSys := { s.casSys with checks := tabDel t s.casSys.checks } }
  let s := (s.setFlag (.casCam t) fCasCam_BUSY false).setFld (.casCam t) fCasCam_ERR e
  s.setFlag (.casCam t) fCasCam_VALID (e == 0)

/-! ### The curve (R286, R287) -/

/-- The segment of a relative coordinate. -/
def camSeg (r : Rat) : List CamPt → Option (CamPt × CamPt)
  | a :: b :: t => if (a.m : Rat) ≤ r && r < (b.m : Rat) then some (a, b) else camSeg r (b :: t)
  | _ => none

/-- Slave position, slope and second derivative at a relative coordinate (R287). Outside a table's range the end point
holds (R286); the last component says so. -/
def camEval (l : List CamPt) (r : Rat) : Rat × Rat × Rat × Bool :=
  match camSeg r l with
  | some (a, b) =>
    let h : Rat := ((b.m - a.m : Int) : Rat)
    let dl : Rat := ((b.sl - a.sl : Int) : Rat)
    let t := (r - (a.m : Rat)) / h
    ((a.sl : Rat) + dl * (3 * t * t - 2 * t * t * t) + h * (a.k * (t - 2 * t * t + t * t * t) + b.k * (t * t * t - t * t)),
     dl * (6 * t - 6 * t * t) / h + a.k * (1 - 4 * t + 3 * t * t) + b.k * (3 * t * t - 2 * t),
     (dl * (6 - 12 * t) / h + a.k * (6 * t - 4) + b.k * (6 * t - 2)) / h, false)
  | none =>
    let first := l.head?.getD default
    let last := l.getLast?.getD default
    if r < (first.m : Rat) then ((first.sl : Rat), 0, 0, true) else ((last.sl : Rat), 0, 0, decide ((last.m : Rat) < r))

/-- The period of a table and the rise of its slave. -/
def camPeriod (l : List CamPt) : Rat × Rat :=
  match l.head?, l.getLast? with
  | some a, some b => (((b.m - a.m : Int) : Rat), ((b.sl - a.sl : Int) : Rat))
  | _, _ => (0, 0)

/-- The wraps and the relative coordinate of an unwrapped master value m (2^-24 counts) in a cam (R286). -/
def camCoord (cyclic : Bool) (l : List CamPt) (c : CamH) (m : Int) : Int × Rat :=
  let x := (m : Rat) / 2 ^ 24 - c.off
  let p := (camPeriod l).1
  if cyclic && p != 0 then ((x / p).floor, x - ((x / p).floor : Rat) * p) else (0, x)

/-- Slave position with base and wrap lifts, and the derivatives (R286, R287). -/
def camOut (cyclic : Bool) (l : List CamPt) (c : CamH) (m : Int) : Rat × Rat × Rat × Bool :=
  let x := camCoord cyclic l c m
  let e := camEval l x.2
  (c.base + ((x.1 - c.wraps0 : Int) : Rat) * (camPeriod l).2 + e.1, e.2.1, e.2.2.1, e.2.2.2 && !cyclic)

/-- True when a master that moved from m0 to m1 crosses a coordinate, in either direction; for a CYCLIC coordinate any of
its repetitions. a is the offset of the coordinate in 2^-24 counts, p its period, 0 for none. -/
def crosses (a p : Rat) (m0 m1 : Int) : Bool :=
  let x0 := (m0 : Rat) - a
  let x1 := (m1 : Rat) - a
  if p = 0 then (decide (x0 < 0) && decide (0 ≤ x1)) || (decide (0 < x0) && decide (x1 ≤ 0))
  else if m0 < m1 then decide ((x0 / p).floor < (x1 / p).floor)
  else if m1 < m0 then decide ((x1 / p).ceil < (x0 / p).ceil)
  else false

/-! ### Masters (R277, R278) -/

/-- The master source of axis n by its live bank: kind and index. -/
def State.mSrc (s : State) (n : Nat) : Nat × Nat := (s.bank n 0x400 2 2, s.bank n 0x400 4 8)

/-- m in 2^-24 counts modulo 2^72, vm and am of a source in the pass (R277); the actual values are those before the pass. -/
def State.masterVal (s : State) (kind idx : Nat) : Int × Int × Int :=
  if kind = 0 then (sgn 72 (uns 72 (roundEven ((s.casH idx).out * 2 ^ 24))), s.regI (.axsSetV idx), s.regI (.axsSetA idx))
  else if kind = 1 then
    let f := (s.casH idx).act
    (sgn 72 (uns 72 (f.1 * 2 ^ 24 + f.2)), f.2, 0)
  else
    let h := s.lm (idx % 4)
    (h.m, h.vm, h.am)

/-- True when a source is no valid master (R278). -/
def State.masterLost (s : State) (kind idx : Nat) : Bool :=
  if 2 ≤ kind then false
  else [axOFF, axREADY, axHOLD, axFAULTED, axRELOADING].contains (s.ax idx) ||
    (kind == 1 && s.flag (.axsStat idx) fAxsStat_AGE_FAULT)

/-- The length of the chain of axes that an axis follows, up to a number of links. -/
def chainLen (f : Nat → Option Nat) : Nat → Nat → Nat
  | 0, _ => 0
  | k + 1, n => match f n with
    | some i => chainLen f k i + 1
    | none => 0

/-- The rank of axis n by its configuration (R246). -/
def State.rankOf (s : State) (k n : Nat) : Nat :=
  chainLen (fun n => if s.casMode n != 0 && (s.mSrc n).1 == 0 then some (s.mSrc n).2 else none) k n

/-- The source of axis n in a pass: an engaged axis keeps the one it engaged with (R282). -/
def State.passSrc (s : State) (n : Nat) : Nat × Nat :=
  match (s.casH n).eng with
  | some e => (e.kind, e.idx)
  | none => s.mSrc n

/-- The rank in which a pass computes axis n, by the sources in use (R246, R282). -/
def State.passRank (s : State) (n : Nat) : Nat :=
  min 3 (chainLen (fun n => if (s.casMode n != 0 || (s.casH n).eng.isSome) && (s.passSrc n).1 == 0 then some (s.passSrc n).2 else none) 4 n)

/-! ### Following (R279 to R282, R286 to R289) -/

/-- FOL_STAT.RES (DEDUCED, log entry 52). -/
def State.folRes (s : State) (n r : Nat) : State := s.setFld (.axsFolStat n) fAxsFolStat_RES r

/-- CLUTCH in 2^-24 counts (DEDUCED, log entry 53). -/
def State.clutch (s : State) (n : Nat) : Int := (s.bank n 0x418 0 48 : Int) * 2 ^ 24

/-- The travel a ratio growing linearly over C has passed on at x (R281) (DEDUCED, log entry 53). -/
def clutchTravel (c x : Int) : Rat :=
  if c ≤ 0 then (x : Rat)
  else
    let a : Rat := (x.natAbs : Nat)
    let g := if x.natAbs < c.natAbs then a * a / (2 * (c : Rat)) else a - (c : Rat) / 2
    if x < 0 then -g else g

/-- The step of a master between two of its values: of a gear the signed 48-bit difference of R280, of a cam the whole one. -/
def mStep (cam : Bool) (m1 m0 : Int) : Int := if cam then sgn 72 (uns 72 (m1 - m0)) else sgn 48 (uns 48 (m1 - m0))

/-- The offset of table t's coordinate in counts (R286): a LINEAR coordinate is not counted from the first point. -/
def State.camOff (s : State) (n t : Nat) : Rat :=
  if s.camCyclic t then ((s.bankI n 0x420 0 48 : Int) : Rat) else ((s.bankI n 0x420 0 48 + s.camFirst t : Int) : Rat)

/-- A following with MASTER_OFF and SLAVE_OFF of the live bank, where its cam still uses them (R165, R286, R287). -/
def State.camLive (s : State) (n : Nat) (e : EngH) : EngH :=
  if e.cam && e.camH.live then
    { e with camH := { e.camH with off := s.camOff n e.camH.table
                                   base := if e.camH.plain then ((s.bankI n 0x428 0 48 : Int) : Rat) else e.camH.base } }
  else e

/-- What a following gives in a pass: position, velocity, acceleration in counts per tick, and the following after it. m, vm
and am are the master's. -/
def State.followOut (s : State) (n : Nat) (e : EngH) (p : Rat) (m : Int) (vm am : Int) : Rat × Rat × Rat × Bool × EngH :=
  let d := mStep e.cam m e.m
  let m1 := e.m + d
  if e.cam then
    let l := s.camPts e.camH.table
    let o := camOut (s.camCyclic e.camH.table) l e.camH m1
    let v := vR vm
    if o.2.2.2 then (o.1, 0, 0, true, { e with m := m1 })
    else (o.1, o.2.1 * v, o.2.2.1 * v * v + o.2.1 * aR am, false, { e with m := m1 })
  else
    let num := s.bankI n 0x408 0 32
    let den := s.bank n 0x410 0 32
    let c := s.clutch n
    let rOf := fun (a : Int) (b : Nat) => (a : Rat) / (b : Rat)
    let now := fun (e : EngH) => if e.clutching && decide (0 < c) then
        e.r0 + (rOf e.num e.den - e.r0) * min ((e.x.natAbs : Nat) / (c : Rat)) 1 else rOf e.num e.den
    -- a swapped ratio (R282)
    let e := if num = e.num && den = e.den then e
      else { e with r0 := now e, num := num, den := den, x := 0, clutching := decide (0 < c) }
    let r := rOf e.num e.den
    let x1 := e.x + d
    let dp := if e.clutching then
        e.r0 * (d : Rat) + (r - e.r0) * (clutchTravel c x1 - clutchTravel c e.x) else r * (d : Rat)
    let e1 := { e with m := m1, x := x1 }
    let re := now e1
    let on := e.clutching && decide (x1.natAbs < c.natAbs)
    let sx : Rat := if x1 < 0 then -1 else if x1 = 0 then 0 else 1
    let extra := if on then sx * (r - e.r0) * vR vm * vR vm / ((c : Rat) / 2 ^ 24) else 0
    (p + dp / 2 ^ 24, re * vR vm, re * aR am + extra, false, { e1 with clutching := on })

/-- FOL_STAT and SUP_P follow. -/
def State.folShow (s : State) (n : Nat) : State :=
  let c := s.casH n
  let st := match c.eng with
    | some e => if e.clutching && !e.cam then 3 else 2
    | none => if c.armed.isSome then 1 else 0
  let s := s.setFld (.axsFolStat n) fAxsFolStat_FSTATE st
  let s := s.setFlag (.axsFolStat n) fAxsFolStat_SW_ARMED c.sw.isSome
  match c.eng with
  | some e => if e.cam then s.setFld (.axsFolStat n) fAxsFolStat_TABLE e.camH.table else s
  | none => s

/-- The following that would begin at master value m, with Δ the master's last step (R279 to R281, R286, R288). -/
def State.engNew (s : State) (n : Nat) (m d : Int) (rel : Bool) : EngH :=
  let src := s.mSrc n
  let base : EngH := { kind := src.1, idx := src.2, m := m - d }
  if s.casMode n = 2 then
    let t := s.bank n 0x400 12 6
    let l := s.camPts t
    let cyc := s.camCyclic t
    -- a LINEAR coordinate is taken as a signed difference
    let a := (s.bankI n 0x420 0 48 + s.camFirst t) * 2 ^ 24
    let m1 := if cyc then m else a + sgn 72 (uns 72 (m - a))
    let c0 : CamH := { table := t, off := s.camOff n t, plain := !rel }
    let c0 := { c0 with wraps0 := (camCoord cyc l c0 m1).1 }
    let b := if rel then (s.casH n).prof.p - (camOut cyc l c0 (m1 - d)).1 else ((s.bankI n 0x428 0 48 : Int) : Rat)
    { base with cam := true, m := m1, camH := { c0 with base := b } }
  else
    { base with num := s.bankI n 0x408 0 32, den := s.bank n 0x410 0 32, clutching := decide (0 < s.clutch n) }

/-- An engagement comes before the pushes, changes and group starts of its pass (R250), which its rank has already seen: the pushes
meet a following axis, a change meets no active move, and the group has one member less; older entries are flushed (R269). -/
def State.engageUndo (s : State) (n : Nat) : State :=
  let c := s.casH n
  let old := min c.qOld c.q.length
  let s := s.addSat (.axsMvStat n) fAxsMvStat_FLUSH_CNT old
  let s := if old < c.q.length then s.pushRes n 5 else s
  let s := match c.chgOld with
    | some (d, a, p) => ((s.chgRes n 5).setFlag (.axsMvStat n) fAxsMvStat_PARAM_DEFERRED p).setCasH n { c with dmaxNext := d, amaxNext := a }
    | none => s
  match c.q, s.group n with
  | e :: _, some g => if e.go then s.setFld (.casGrpStat g) fCasGrpStat_STARTED (s.fld (.casGrpStat g) fCasGrpStat_STARTED - 1) else s
  | _, _ => s

/-- The engagement takes place in this pass (R279): refused with ENG_STEP when its first velocity differs from the present one
by more than ENG_VTOL (DEDUCED, log entry 53). -/
def State.engageNow (s : State) (n : Nat) (mv : Int × Int × Int) (rel : Bool) : State :=
  let c := s.casH n
  let src := s.mSrc n
  let d := match c.armM with
    | some (k, i, m0) => if k = src.1 && i = src.2 then mStep (s.casMode n == 2) mv.1 m0 else 0
    | none => 0
  let e := s.engNew n mv.1 d rel
  let o := s.followOut n e c.prof.p mv.1 mv.2.1 mv.2.2
  let s := s.setCasH n { c with armed := none }
  let dv := (vOut o.2.1).toInt - s.regI (.axsSetV n)
  if (s.bank n 0x430 0 48 : Int) < (dv.natAbs : Int) then s.folRes n 2
  else
    let s := s.engageUndo n
    let s := s.setCasH n { s.casH n with q := [], qOld := 0, chgOld := none, move := none, eng := some e, sw := none, sup := {}
                                         supReq := none, armOff := none, off := none, prof := { (s.casH n).prof with segs := [] }
                                         done := false }
    (s.setFld (.axsFolStat n) fAxsFolStat_WRAPS 0).folRes n 1

/-- An ENGAGE order acts (R279, R315): its refusals, an engagement at once, or one armed at X. -/
def State.engageAct (s : State) (n : Nat) (mv : Int × Int × Int) (atPos : Bool) (x : Nat) (rel : Bool) : State :=
  let c := s.casH n
  let src := s.mSrc n
  if c.eng.isSome || s.casMode n = 0 || (s.ax n != axENABLED && s.ax n != axMOVING) || (s.home n).on then s.folRes n 7
  else if s.flag (.axsLimStat n) fAxsLimStat_BLK_POS || s.flag (.axsLimStat n) fAxsLimStat_BLK_NEG then
    (s.folRes n 7).limRefused n 1
  else if s.masterLost src.1 src.2 then s.folRes n 5
  else if s.casMode n = 2 && !s.flag (.casCam (s.bank n 0x400 12 6)) fCasCam_VALID then s.folRes n 3
  else if atPos then (s.folRes n 0).setCasH n { c with armed := some (sgn 48 x, rel) }
  else s.engageNow n mv rel

/-- True when an armed engagement's X is crossed between two master values (R279). -/
def State.engCrosses (s : State) (n : Nat) (x : Int) (m0 m1 : Int) : Bool :=
  let d := mStep true m1 m0
  if s.casMode n = 2 then
    let t := s.bank n 0x400 12 6
    let off := s.bankI n 0x420 0 48
    if s.camCyclic t then
      crosses (((off + sgn 48 (uns 48 (x - s.camFirst t)) : Int) : Rat) * 2 ^ 24) ((camPeriod (s.camPts t)).1 * 2 ^ 24) m0 (m0 + d)
    else
      let a := sgn 72 (uns 72 (m0 - (off + x) * 2 ^ 24))
      crosses 0 0 a (a + d)
  else
    let a := sgn 72 (uns 72 (m0 - x * 2 ^ 24))
    crosses 0 0 a (a + d)

/-- The master crossings of a pass that engage (R250, R279). -/
def State.engageCrossing (s : State) (n : Nat) (mv : Int × Int × Int) : State :=
  let c := s.casH n
  match c.armed, c.armM with
  | some (x, rel), some (_, _, m0) => if s.engCrosses n x m0 mv.1 then s.engageNow n mv rel else s
  | _, _ => s

/-- A coordinate X relative to the first point of table t. -/
def State.camRel (s : State) (t : Nat) (x : Int) : Rat := ((sgn 48 (uns 48 (x - s.camFirst t)) : Int) : Rat)

/-- SWITCH acts (R289): a switch is armed at X, or refused (DEDUCED, log entry 52). -/
def State.switchAct (s : State) (n x tb : Nat) (force : Bool) : State :=
  let c := s.casH n
  match c.eng with
  | none => s.folRes n 7
  | some e =>
    if !e.cam then s.folRes n 3
    else if c.sw.isSome then s.folRes n 7
    else if !s.flag (.casCam tb) fCasCam_VALID then s.folRes n 3
    else
      let xi := sgn 48 x
      let a := camEval (s.camPts e.camH.table) (s.camRel e.camH.table xi)
      let b := camEval (s.camPts tb) (s.camRel tb xi)
      let far := decide ((s.bank n 0x438 0 24 : Rat) < absR (a.1 - b.1)) ||
        decide ((s.bank n 0x438 24 24 : Rat) / 2 ^ 24 < absR (a.2.1 - b.2.1))
      if far && !force then s.folRes n 4
      else (s.folRes n 0).setCasH n { c with sw := some (xi, tb) }

/-- CANCEL (R289): an armed engagement, disengagement or switch is disarmed (DEDUCED, log entry 52). -/
def State.folCancel (s : State) (n : Nat) : State :=
  let c := s.casH n
  if c.armed.isSome || c.sw.isSome || c.armOff.isSome then
    (s.setCasH n { c with armed := none, sw := none, armOff := none }).folRes n 6
  else s

/-- True when the master of an engaged cam crosses coordinate X in its step to m, in either direction (R289). -/
def State.camCrosses (s : State) (e : EngH) (x m : Int) : Bool :=
  let t := e.camH.table
  let p := if s.camCyclic t then (camPeriod (s.camPts t)).1 else 0
  crosses ((e.camH.off + s.camRel t x) * 2 ^ 24) (p * 2 ^ 24) e.m (e.m + mStep true m e.m)

/-- The crossing of an armed switch (R289): from this tick the axis uses table b, without a step. d is the master's step. -/
def State.switchCrossing (s : State) (n : Nat) (m : Int) : State :=
  let c := s.casH n
  match c.eng, c.sw with
  | some e, some (x, tb) =>
    let e := s.camLive n e
    if !e.cam || !s.camCrosses e x m then s
    else
      let ta := e.camH.table
      let la := s.camPts ta
      let cyc := s.camCyclic ta
      let d := mStep true m e.m
      let ra := s.camRel ta x
      let p := if cyc then (camPeriod la).1 else 0
      let a := (e.camH.off + ra) * 2 ^ 24
      -- the master value at the crossing, in counts
      let w : Rat := if p = 0 then 0
        else if 0 < d then ((((e.m + d : Int) : Rat) - a) / (p * 2 ^ 24)).floor else ((((e.m + d : Int) : Rat) - a) / (p * 2 ^ 24)).ceil
      let msw := e.camH.off + ra + w * p
      let lift := (w - (e.camH.wraps0 : Rat)) * (if cyc then (camPeriod la).2 else 0)
      let rb := s.camRel tb x
      let b := e.camH.base + lift + (camEval la ra).1 - (camEval (s.camPts tb) rb).1
      let h : CamH := { table := tb, off := msw - rb, base := b, wraps0 := 0, live := false }
      (s.setCasH n { c with eng := some { e with camH := h }, sw := none }).folRes n 1
  | _, _ => s

/-- DISENGAGE acts in the pass for tick k (R279): the following ends, or its end is armed at X; an engagement still armed is
disarmed (DEDUCED, log entry 52). -/
def State.disengageAct (s : State) (n k : Nat) (atPos : Bool) (x : Nat) : State :=
  let c := s.casH n
  match c.eng with
  | none => if c.armed.isSome then (s.setCasH n { c with armed := none }).folRes n 1 else s
  | some _ =>
    if c.off.isSome then s
    else if atPos then (s.folRes n 0).setCasH n { c with armOff := some (sgn 48 x) }
    else s.disengageNow n k

/-- The master crossing of a pass that disengages (R250, R279): of X as master position for a gear, as table coordinate for a cam. -/
def State.disengageCrossing (s : State) (n k : Nat) (m : Int) : State :=
  let c := s.casH n
  match c.eng, c.armOff with
  | some e, some x =>
    let e := s.camLive n e
    let hit := if e.cam then s.camCrosses e x m
      else
        let a := sgn 72 (uns 72 (e.m - x * 2 ^ 24))
        crosses 0 0 a (a + mStep true m e.m)
    if hit then (s.setCasH n { c with armOff := none }).disengageNow n k else s
  | _, _ => s

/-- The step of a following axis (R255, R280, R281, R286, R287): the following's output, with the superimposed profile. -/
def State.followStep (s : State) (n : Nat) (e : EngH) (mv : Int × Int × Int) : State :=
  let c := s.casH n
  let e := s.camLive n e
  let base := c.prof.p - c.sup.p
  let o := s.followOut n e base mv.1 mv.2.1 mv.2.2
  let sup := c.sup.tick
  let w0 := if e.cam then (camCoord (s.camCyclic e.camH.table) (s.camPts e.camH.table) e.camH e.m).1 else 0
  let w1 := if e.cam then (camCoord (s.camCyclic e.camH.table) (s.camPts e.camH.table) e.camH o.2.2.2.2.m).1 else 0
  let s := s.setFld (.axsFolStat n) fAxsFolStat_WRAPS (uns 16 ((s.fld (.axsFolStat n) fAxsFolStat_WRAPS : Int) + (w1 - w0)))
  let s := s.setFlag (.axsFolStat n) fAxsFolStat_CAM_OUT o.2.2.2.1
  let p := o.1 + sup.p
  let q : Prof := { p := p, v := o.2.1 + sup.v, a := o.2.2.1 + sup.a }
  let s := s.setCasH n { c with prof := q, out := p, sup := sup, eng := some o.2.2.2.2 }
  s.setReg (.axsSupP n) (pOut sup.p)

/-- The pull's tail (R501): the cam descriptors, then the pending line-master orders. -/
def lmBytes (l : Nat) (o : LmOrd) : List Byte :=
  [BitVec.ofNat 8 (1 + l), if o.re then 1#8 else 0#8] ++ leBytes 12 (uns 96 o.ts) ++ leBytes 12 (uns 96 o.p) ++
    leBytes 8 (uns 64 o.v) ++ leBytes 8 (uns 64 o.vt) ++ leBytes 8 o.al

/-- The bytes of the pull after the cam store. -/
def State.pullTail (s : State) : List Byte :=
  ((List.range 64).flatMap (fun t => leBytes 8 (s.regN (.casCam t)))) ++
    (List.range 4).flatMap (fun l => (s.lm l).pend.flatMap (lmBytes l))

/-- An order from its 50 bytes. -/
def lmOfBytes (b : List Byte) : LmOrd :=
  { re := byteAt b 1 == 1, ts := sgn 96 (leAt b 2 12), p := sgn 96 (leAt b 14 12), v := sgn 64 (leAt b 26 8)
    vt := sgn 64 (leAt b 34 8), al := leAt b 42 8 }

/-- Bytes of the pull's tail are stored in a joining head (R501): whole descriptors and whole orders. -/
def State.pullTailPut (s : State) (off : Nat) (l : List Byte) : State :=
  let old := s.pullTail
  let all := old.take off ++ leBytes (off - old.length) 0 ++ l ++ old.drop (off + l.length)
  let s := s.each (List.range 64) (fun t s => s.setRegN (.casCam t) (leAt all (8 * t) 6))
  let recs := (List.range 16).map (fun i => (all.drop (512 + 50 * i)).take 50)
  s.each (List.range 4) (fun l s =>
    let p := (recs.filter (fun r => byteAt r 0 == 1 + l)).map lmOfBytes
    (s.setLm l { s.lm l with pend := p }).setFld (.lmStat l) fLmStat_PENDING p.length)

end Sys2Proof.Machine
end

