-- ==== Sys2Proof/Machine/StopOps.lean ====
section
/-! DEFINITION. Stopping, fault causes and reactions, standstill, limits, homing; what an axis does at a cycle boundary
(05_axes.md R170 to R181; 09_stops_homing.md R296 to R326). -/
namespace Sys2Proof.Machine

/-! ### Parameters (R326) -/

/-- A signed 48-bit parameter. -/
def State.p48 (s : State) (n off : Nat) : Int := s.bankI n off 0 48

/-- The reaction code of cause c (R302): the run header's, REACT[c], or always 3. -/
def State.reactOf (s : State) (n c : Nat) : Nat :=
  if c = 0 then s.ageReact n else if c = 2 || c = 9 || c = 11 then 3 else s.bank n 0x828 (4 * c - 4) 4

/-- The Oasis zone of axis n; 15 for none. -/
def State.axZone (s : State) (n : Nat) : Nat := s.fld (.oasAxzone (n / 12)) (fOasAxzone_ZONE (n % 12))
/-- ZSTATE of the axis's zone as a cycle boundary sees it (R627, R628), RUN where it has none
(DEDUCED, log entry 57). -/
def State.axZstate (s : State) (n : Nat) : Nat :=
  let z := s.axZone n
  if z < 8 then
    let st := s.fld (.zoneStat z) fZoneStat_ZSTATE
    let m := (s.zone z).mark
    if m = 1 && 2 ≤ st then 1 else if m = 2 && st = 3 then 2 else st
  else 3

/-! ### Stops (R296 to R301) -/

/-- A stop request (R299): class 1 STOP, 2 quick; whether it is a fault reaction, ends in READY, ends in an STO request. -/
def State.stopRequest (s : State) (n cls : Nat) (fault ready sto : Bool) : State :=
  let h := s.stop n
  if s.ax n = axSTOPPING then
    let run := if h.want = 0 then h.cls else h.want
    s.setStop n { h with want := if cls = 2 && run = 1 then 2 else h.want
                         fault := h.fault || fault, ready := h.ready || ready, sto := h.sto || sto }
  else if s.ax n = axENABLED || s.ax n = axMOVING then
    let s := (s.homeAbort n).setAx n axSTOPPING
    let s := s.setFld (.axsSsStat n) fAxsSsStat_STOP_CYCLES 0
    s.setStop n { h with cls := 0, want := cls, fault := fault, ready := ready, sto := sto, ended := false, cycles := 0
                         watch := s.bank n 0x820 0 16 != 0 && !s.flag (.axsSsStat n) fAxsSsStat_AT_REST }
  else s

/-- The state after a stop leaves no trace of it. -/
def stopOver (h : StopH) : StopH := { h with cls := 0, want := 0, fault := false, ready := false, sto := false, ended := false }

/-- The zone of axis n is sent an STO request (R310) (DEDUCED, log entry 64). -/
def State.stoRequest (s : State) (n : Nat) : State :=
  let z := s.axZone n
  if z < 8 then s.setZone z { s.zone z with axSto := true } else s

/-- The axis enters READY or FAULTED: checks of the stop end (R301). -/
def State.axRest (s : State) (n st : Nat) : State :=
  let s := (s.homeAbort n).setAx n st
  s.setStop n { stopOver (s.stop n) with watch := false }

/-- Other members of the axis's group receive STOP at the next boundary (R181): those that are ENABLED or MOVING then
(DEDUCED, log entry 59). -/
def State.groupFault (s : State) (n : Nat) : State :=
  match s.group n with
  | none => s
  | some g => s.each (allAxes.filter (fun k => k != n && s.group k == some g && s.groupStopEn k &&
      ((s.axis k).groupStop == 0 || decide (s.cycles < (s.axis k).groupStop))))
      (fun k s => s.setAxis k { s.axis k with groupStop := s.cycles + 1 })

/-- A ramp that ended in the last pass decides the state (R300, R310, R181); its acceleration is over (R297). -/
def State.rampEnd (s : State) (n : Nat) : State :=
  let h := s.stop n
  if s.ax n != axSTOPPING || !h.ended then s
  else
  let c := s.casH n
  let s := s.setCasH n { c with prof := { c.prof with a := 0 } }
  if h.fault then
    let s := (s.axRest n axFAULTED).groupFault n
    if h.sto then s.stoRequest n else s
  else if h.ready then s.axRest n axREADY
  else
    let s := s.setAx n axENABLED
    s.setStop n (stopOver (s.stop n))

/-- The stop ramp of a pass (R296 to R298): planned from the present state with the parameters of the live bank. -/
def State.rampPlan (s : State) (n : Nat) : State :=
  let h := s.stop n
  if h.want = 0 then s
  else
    let q := { (s.casH n).prof with segs := [] }
    let segs :=
      if h.want = 1 then planStop q (aR (s.p48 n 0x800)) (jR (s.p48 n 0x808))
      else if s.p48 n 0x818 = 0 then planHard q (aR (s.p48 n 0x810))
      else planStop q (aR (s.p48 n 0x810)) (jR (s.p48 n 0x818))
    let s := s.setCasH n { s.casH n with prof := { q with segs := segs } }
    s.setStop n { h with cls := h.want, want := 0 }

/-- The pass of a STOPPING axis. -/
def State.rampStep (s : State) (n : Nat) : State :=
  let s := s.rampPlan n
  let c := s.casH n
  let p := c.prof.tick
  let s := s.setCasH n { c with prof := p, out := p.p }
  s.setStop n { s.stop n with ended := p.segs.isEmpty }

/-- True when STOP_TIMEOUT is due (R301). -/
def State.stopTimesOut (s : State) (n : Nat) : Bool :=
  let h := s.stop n
  h.watch && decide (s.bank n 0x820 0 16 ≤ h.cycles) && !s.flag (.axsSsStat n) fAxsSsStat_AT_REST

/-- STOP_TIMEOUT is raised (R301). -/
def State.stopTimeout (s : State) (n : Nat) : State := (s.setStop n { s.stop n with watch := false }).detect n 11

/-! ### Standstill and current reduction (R311, R312) -/

/-- Standstill counts of the boundary (R311, R312), in every state: AT_REST clears as soon as its condition fails. -/
def State.restBoundary (s : State) (n : Nat) : State :=
  let still := s.regI (.axsSetV n) == 0 && decide (((s.regI (.axsFbVel n)).natAbs : Int) ≤ s.p48 n 0x840)
  let h := s.stop n
  let run := if still then h.restRun + 1 else 0
  let s := if still then s else s.setFlag (.axsSsStat n) fAxsSsStat_AT_REST false
  let hold := s.ax n == axENABLED && s.flag (.axsSsStat n) fAxsSsStat_AT_REST
  let s := s.setStop n { h with restRun := min run 65536, crRun := if hold then h.crRun + 1 else 0
                                cycles := h.cycles + 1 }
  if s.ax n = axSTOPPING then s.incSat (.axsSsStat n) fAxsSsStat_STOP_CYCLES else s

/-- The reduction ends at the boundary at which AT_REST clears or the axis leaves ENABLED (R312); in a drive the head's command
decides. -/
def State.crBoundary (s : State) (n : Nat) : State :=
  if s.isDrive || (s.ax n == axENABLED && s.flag (.axsSsStat n) fAxsSsStat_AT_REST) then s
  else s.setFlag (.axsSsStat n) fAxsSsStat_CR_ACTIVE false

/-- True when AT_REST sets (R311). -/
def State.restDue (s : State) (n : Nat) : Bool :=
  !s.flag (.axsSsStat n) fAxsSsStat_AT_REST && decide (max 1 (s.bank n 0x848 0 16) ≤ (s.stop n).restRun)

/-- AT_REST sets; the check of R301 ends. -/
def State.restSet (s : State) (n : Nat) : State :=
  (s.setFlag (.axsSsStat n) fAxsSsStat_AT_REST true).setStop n { s.stop n with watch := false }

/-- True when the current reduction begins (R312): CR_DELAY ms ENABLED at rest. -/
def State.crDue (s : State) (n : Nat) : Bool :=
  let d := s.bank n 0x848 16 16
  d != 0 && !s.isDrive && s.ax n == axENABLED && s.flag (.axsSsStat n) fAxsSsStat_AT_REST &&
    !s.flag (.axsSsStat n) fAxsSsStat_CR_ACTIVE && decide (d * 2000000 ≤ (s.stop n).crRun * s.cycLen)

/-- The reduction begins. -/
def State.crSet (s : State) (n : Nat) : State := s.setFlag (.axsSsStat n) fAxsSsStat_CR_ACTIVE true

/-! ### Limit and home inputs (R313 to R316) -/

/-- The configuration of input i: 0 LIM_POS, 1 LIM_NEG, 2 HOME. SRC, GPIO number, polarity. -/
def State.inCfg (s : State) (n i : Nat) : Nat × Nat × Bool :=
  let w := s.bank n 0x858 (8 * i) 8
  (w % 4, w / 4 % 32, bitOf w 7)

/-- The raw and debounced bits of input i. -/
def fRaw (i : Nat) : Fld := if i = 0 then fAxsLimStat_LP_RAW else if i = 1 then fAxsLimStat_LN_RAW else fAxsLimStat_HM_RAW
/-- The debounced bit of input i. -/
def fDeb (i : Nat) : Fld := if i = 0 then fAxsLimStat_LP_DEB else if i = 1 then fAxsLimStat_LN_DEB else fAxsLimStat_HM_DEB
/-- BLK_POS or BLK_NEG. -/
def fBlk (i : Nat) : Fld := if i = 0 then fAxsLimStat_BLK_POS else fAxsLimStat_BLK_NEG

/-- What is held for input i. -/
def inputH (h : StopH) (i : Nat) : InH := if i = 0 then h.inP else if i = 1 then h.inN else h.inH
/-- Replace it. -/
def setInputH (h : StopH) (i : Nat) (x : InH) : StopH :=
  if i = 0 then { h with inP := x } else if i = 1 then { h with inN := x } else { h with inH := x }

/-- DEBOUNCE in fabric ticks (R313). -/
def State.debTicks (s : State) (n : Nat) : Nat := s.bank n 0x858 24 10 * 5000

/-- The reference input of a homing: the limit in HM_DIR, or HOME. -/
def refInput (h : HomeH) : Option Nat :=
  if h.method = 1 then some (if h.neg then 1 else 0) else if h.method = 2 then some 2 else none

/-- The signed velocity of a homing. -/
def hmVel (neg : Bool) (v : Rat) : Rat := if neg then -v else v

/-- True when latch 0 of channel c is held by a homing (R320, R353). -/
def State.homeHolds (s : State) (c : Nat) : Bool :=
  match s.axisOfCh c with
  | some n => (s.home n).held
  | none => false

/-- The homing of axis n arms its latch (R320). -/
def State.homeArm (s : State) (n : Nat) : State :=
  let h := s.home n
  let s := s.setHome n { h with held := true, latch := none }
  let rec_ := match refInput h with
    | some i => (s.inCfg n i).1 == 2
    | none => s.kind n == kindNETWORK
  if rec_ then s.setFb n { s.fb n with latCmd := 1 }
  else if s.kind n = kindLOCAL then s.latchArm (s.localCh n) 0 else s

/-- The latched position of an edge now (R320, R352): the channel's for a LOCAL axis
(DEDUCED, log entries 60 and 62). -/
def State.homePos (s : State) (n : Nat) : Word48 :=
  if s.kind n = kindLOCAL then s.pactOf n (s.latchPos (s.localCh n)).1 else s.reg (.axsFbPos n)

/-- The registers of latch 0 take a capture that homing makes (DEDUCED, log entry 62). -/
def State.homeCapture (s : State) (n : Nat) : State :=
  if s.kind n ≠ kindLOCAL then s
  else
    let c := s.localCh n
    let s := (s.setReg (.encLatPos c 0) (s.homePos n)).setReg (.encLatTime c 0) s.t48
    (s.setFlag (.encLatCtl c) (fEncLatCtl_VALID 0) true).latchDisarm c 0

/-- The end of the capture window that opens now (R320). -/
def State.winEnd (s : State) (n : Nat) : Nat := s.now + max (2 * s.debTicks n) ((s.cycLen + 3) / 4)

/-- TOGGLES. -/
def State.toggle (s : State) (n : Nat) : State := s.incSat (.axsHmStat n) fAxsHmStat_TOGGLES

/-- A home point is accepted (R321): applied at the next boundary. -/
def State.homeAccept (s : State) (n : Nat) (p : Word48) : State :=
  let s := s.setHome n { s.home n with accept := some p, held := false, latch := none }
  s.setFld (.axsHmStat n) fAxsHmStat_PHASE 4

/-- The homing stops, to end at rest with a result. -/
def State.homeStop (s : State) (n res : Nat) : State :=
  let s := s.setHome n { s.home n with want := 0, next := 0, endRes := res, held := false, latch := none, leaving := false }
  s.setFld (.axsHmStat n) fAxsHmStat_PHASE 4

/-- A raw edge of the reference while the latch is held (R320, R321); p is the position latched
(DEDUCED, log entry 55). -/
def State.refEdge (s : State) (n : Nat) (active : Bool) (p : Word48) : State :=
  let h := s.home n
  if !h.held then s
  else
    match h.latch with
    | none =>
      if active then s
      else
        let s := s.setHome n { h with latch := some (p, s.winEnd n) }
        (s.setFld (.axsHmStat n) fAxsHmStat_TOGGLES 1).homeCapture n
    | some (_, t) =>
      if t < s.now then s
      else
        let s := s.toggle n
        if 5 ≤ s.fld (.axsHmStat n) fAxsHmStat_TOGGLES then s.homeStop n 4 else s

/-- The raw level of input i of axis n changes: active after polarity (DEDUCED, log entry 55). -/
def State.rawChange (s : State) (n i : Nat) (active : Bool) : State :=
  if s.flag (.axsLimStat n) (fRaw i) = active then s
  else
    let s := s.setFlag (.axsLimStat n) (fRaw i) active
    let s := s.setStop n (setInputH (s.stop n) i ⟨s.now, 0⟩)
    if (s.home n).on && refInput (s.home n) = some i then s.refEdge n active (s.homePos n) else s

/-- A GPIO pin of input i of axis n takes a level (R313) (DEDUCED, log entry 27). -/
def State.gpioEdge (s : State) (n i : Nat) (level : Bool) : State :=
  let c := s.inCfg n i
  if c.1 = 1 then s.rawChange n i (level != c.2.2) else s

/-- The input levels in a feedback record (R313, R419): bits LIM_POS, LIM_NEG and HOME of byte 14. -/
def State.recordInputs (s : State) (n : Nat) (r : List Byte) : State :=
  s.each (List.range 3) (fun i s =>
    let c := s.inCfg n i
    if c.1 = 2 then
      let s := s.rawChange n i ((recBits r 14 (4 + i) 1 == 1) != c.2.2)
      let h := inputH (s.stop n) i
      s.setStop n (setInputH (s.stop n) i { h with run := min (h.run + 1) 65535 })
    else s)

/-- The node's latch in a fresh record (R421, R320): a change of LAT_TOG is a capture, at POS + LAT_DELTA. -/
def State.recordLatch (s : State) (n : Nat) (r : List Byte) : State :=
  let tog := recBits r 14 7 1 == 1
  let h := s.fb n
  let new := match h.latTog with
    | some t => t != tog
    | none => false
  let s := s.setFb n { h with latTog := some tog }
  let hm := s.home n
  if new && recBits r 15 3 1 == 1 && hm.held then
    let p := s.pactOf n ((recPos r).toInt + sgn 24 (leAt r 10 3))
    if hm.method = 3 then (s.setFld (.axsHmStat n) fAxsHmStat_TOGGLES 1).homeAccept n p
    else
      match hm.latch with
      | none => (s.setHome n { hm with latch := some (p, s.winEnd n) }).setFld (.axsHmStat n) fAxsHmStat_TOGGLES 1
      | some (_, t) => s.setHome n { hm with latch := some (p, t) }
  else s

/-- Limits, homing and latch read a record that passed its frame check. -/
def State.recordStop (s : State) (n : Nat) (r : List Byte) : State :=
  let s := s.recordInputs n r
  if recBits r 13 4 4 == 0 then s.recordLatch n r else s

/-- True when the debounced level of input i takes the raw level (R313). -/
def State.debDue (s : State) (n i : Nat) : Bool :=
  let h := inputH (s.stop n) i
  let c := s.inCfg n i
  s.flag (.axsLimStat n) (fRaw i) != s.flag (.axsLimStat n) (fDeb i) &&
    (if c.1 = 1 then decide (h.since + s.debTicks n ≤ s.now)
     else c.1 == 2 && decide (max 1 ((4 * s.debTicks n + s.cycLen - 1) / s.cycLen) ≤ h.run))

/-- A limit that is not the reference turns debounced active during homing (R319). -/
def State.limitHit (s : State) (n i : Nat) : State :=
  let h := s.home n
  let hits := s.fld (.axsHmStat n) fAxsHmStat_LIMIT_HITS
  let s := s.setFld (.axsHmStat n) fAxsHmStat_LIMIT_HITS (min 2 (hits + 1))
  if hits = 0 then
    let s := s.setHome n { h with want := 0, next := 2, leaving := false, held := false, latch := none }
    s.setFld (.axsHmStat n) fAxsHmStat_PHASE 1
  else if hits = 1 then (s.homeStop n 3).setFlag (.axsLimStat n) (fBlk i) true
  else s

/-- A debounced level changes during homing (R318 to R321). -/
def State.homeDebounce (s : State) (n i : Nat) (active : Bool) : State :=
  let h := s.home n
  if h.endRes ≠ 0 || h.accept.isSome then s
  else if refInput h = some i then
    if active then
      if h.leaving || h.next ≠ 0 then s
      else (s.setHome n { h with want := 0, next := 1 }).setFld (.axsHmStat n) fAxsHmStat_PHASE 2
    else
      match h.latch with
      | some (p, t) =>
        if decide (s.now ≤ t) && decide (s.fld (.axsHmStat n) fAxsHmStat_TOGGLES ≤ 4) then s.homeAccept n p else s
      | none => s
  else if i = 2 then
    if active && h.method = 3 && h.idxSw && !h.held then (s.homeArm n).setFld (.axsHmStat n) fAxsHmStat_PHASE 3 else s
  else if active then s.limitHit n i
  else s

/-- A debounced level changes (R313, R314, R302): outside homing a limit raises its cause and its block. -/
def State.debounce (s : State) (n i : Nat) : State :=
  let a := s.flag (.axsLimStat n) (fRaw i)
  let s := s.setFlag (.axsLimStat n) (fDeb i) a
  let h := s.stop n
  let s := if a || i = 2 then s
    else s.setStop n (if i = 0 then { h with blkP := s.now + 50 * msTicks } else { h with blkN := s.now + 50 * msTicks })
  if (s.home n).on then s.homeDebounce n i a
  else if a && i != 2 then (s.setFlag (.axsLimStat n) (fBlk i) true).detect n (5 + i)
  else s

/-- True when a block ends (R314): its limit debounced inactive for 50 ms. -/
def State.blockEnds (s : State) (n i : Nat) : Bool :=
  s.flag (.axsLimStat n) (fBlk i) && !s.flag (.axsLimStat n) (fDeb i) &&
    decide ((if i = 0 then (s.stop n).blkP else (s.stop n).blkN) ≤ s.now)

/-- The block ends. -/
def State.blockEnd (s : State) (n i : Nat) : State := s.setFlag (.axsLimStat n) (fBlk i) false

/-- LIM_STAT.CLR (R315). -/
def State.limClr (s : State) (n : Nat) : State :=
  (s.setFld (.axsLimStat n) fAxsLimStat_LAST_REFUSE 0).setFld (.axsLimStat n) fAxsLimStat_REFUSE_CNT 0

/-- The input levels of a drive's axis for its feedback record, sampled at II (R313, R419). -/
def State.limLevels (s : State) (n : Nat) : Nat :=
  b2n (s.flag (.axsLimStat n) fAxsLimStat_LP_RAW) + 2 * b2n (s.flag (.axsLimStat n) fAxsLimStat_LN_RAW) +
    4 * b2n (s.flag (.axsLimStat n) fAxsLimStat_HM_RAW)

/-! ### Homing (R317 to R325) -/

/-- What START = 1 is refused with (R317). -/
def State.homeRefuse (s : State) (n : Nat) : List Nat := refuseIf (s.flag (.axsHmStat n) fAxsHmStat_BUSY) cBUSY

/-- START = 1 (R317, R248, R249). -/
def State.homeOrder (s : State) (n : Nat) : State :=
  let w := s.casWhen (s.flag (.axsHmCtl n) fAxsHmCtl_AT) (s.regN (.axsCasCycle n))
  if w.1 ≠ 0 then s.setFld (.axsHmStat n) fAxsHmStat_RES (w.1 + 4) else s.casPut n w.2 .home

/-- A LIMIT block that writes S15 (R317). -/
def State.s15Limit (s : State) (n : Nat) : Option BlockE := (s.blockList n).find? (fun e => e.type == 11 && e.outS == 15)

/-- START acts in its pass (R317, R318, R323). -/
def State.homeStart (s : State) (n : Nat) : State :=
  let c := s.casH n
  let m := s.bank n 0x878 0 3
  let ok := s.ax n == axENABLED && c.q.isEmpty && c.move.isNone && c.eng.isNone && !(s.home n).on &&
    (s.kind n == kindNETWORK || s.kind n == kindLOCAL) && (m != 4 || (s.s15Limit n).isSome)
  if !ok then s.setFld (.axsHmStat n) fAxsHmStat_RES 2
  else
    let neg := s.bank n 0x878 3 1 == 1
    let vs := vR (s.p48 n 0x888)
    let h : HomeH := { on := true, method := m, neg := neg, idxSw := s.bank n 0x878 4 1 == 1, time := s.bank n 0x878 5 16
                       vfast := vR (s.p48 n 0x880), vslow := vs
                       lims := ⟨0, aR (s.p48 n 0x890), aR (s.p48 n 0x898), (s.defLims n).jmax⟩
                       offset := s.p48 n 0x8A0, range := s.bank n 0x8A8 0 47, torq := s.bank n 0x8B0 0 24, dirNeg := neg }
    let s := (s.setFld (.axsHmStat n) fAxsHmStat_RES 0).setFlag (.axsHmStat n) fAxsHmStat_BUSY true
    let s := (s.setFlag (.axsHmStat n) fAxsHmStat_HOMED false).setFld (.axsHmStat n) fAxsHmStat_LIMIT_HITS 0
    let s := (s.setFld (.axsHmStat n) fAxsHmStat_LATCH_REJ 0).setFld (.axsHmStat n) fAxsHmStat_PHASE 1
    let s := s.setCasH n { c with prof := { c.prof with segs := [] } }
    match refInput h with
    | some i =>
      if s.flag (.axsLimStat n) (fDeb i) then
        let s := s.setHome n { h with dirNeg := !neg, want := hmVel (!neg) vs, leaving := true }
        (s.setFlag (.axsHmStat n) fAxsHmStat_EDGE_DIR (!neg)).setFld (.axsHmStat n) fAxsHmStat_PHASE 2
      else s.setHome n { h with want := hmVel neg h.vfast }
    | none =>
      if m = 5 then
        let off := s.fbOffset n + s.regI (.axsFbHshift n)
        (s.setHome n h).homeAccept n (BitVec.ofInt 48 (s.regI (.axsFbPos n) - off))
      else
        let s := s.setHome n { h with want := hmVel neg vs, narrowed := m == 4 }
        if m = 3 && (!h.idxSw || s.flag (.axsLimStat n) fAxsLimStat_HM_DEB) then
          (s.homeArm n).setFld (.axsHmStat n) fAxsHmStat_PHASE 3
        else s

/-- ABORT = 1 waits for its pass like START (R481) (DEDUCED, log entry 60). -/
def State.homeAbortOrder (s : State) (n : Nat) : State :=
  let w := s.casWhen (s.flag (.axsHmCtl n) fAxsHmCtl_AT) (s.regN (.axsCasCycle n))
  if w.1 ≠ 0 then s.setFld (.axsHmStat n) fAxsHmStat_RES (w.1 + 4) else s.casPut n w.2 .abort

/-- ABORT acts in its pass: the homing decelerates at HM_DEC and ends ABORTED. -/
def State.homeCancel (s : State) (n : Nat) : State := if (s.home n).on then s.homeStop n 6 else s

/-- What a homing does when its axis is at rest: it ends, leaves the reference, or searches the other way. -/
def State.homeAtRest (s : State) (n : Nat) : State :=
  let h := s.home n
  if h.endRes ≠ 0 then s.homeFinish n h.endRes
  else if h.next = 1 then
    let d := !h.dirNeg
    (s.setHome n { h with dirNeg := d, want := hmVel d h.vslow, next := 0, leaving := true }).setFlag (.axsHmStat n)
      fAxsHmStat_EDGE_DIR d
  else if h.next = 2 then
    let d := !h.dirNeg
    let v := if h.method ≤ 2 then h.vfast else h.vslow
    let s := s.setHome n { h with dirNeg := d, want := hmVel d v, next := 0 }
    if h.method = 3 && (!h.idxSw || s.flag (.axsLimStat n) fAxsLimStat_HM_DEB) then
      (s.homeArm n).setFld (.axsHmStat n) fAxsHmStat_PHASE 3
    else s
  else s

/-- The pass of an axis in homing (R318, R324): every phase is planned within the axis's own cost
(DEDUCED, log entry 60). -/
def State.homeStep (s : State) (n : Nat) : State :=
  let h := s.home n
  let c := s.casH n
  let q0 := { c.prof with segs := [] }
  let c := if h.want = h.planned then c else { c with prof := { q0 with segs := planVel h.lims q0 h.want } }
  let p := c.prof.tick
  let tr := h.travel + (p.p - c.prof.p)
  let s := s.setCasH n { c with prof := p, out := p.p }
  let h := { h with planned := h.want, travel := tr }
  let s := s.setHome n h
  if h.range ≠ 0 && decide ((h.range : Rat) < absR tr) && h.endRes = 0 && h.accept.isNone then s.homeStop n 5
  else if p.segs.isEmpty && h.want = 0 && h.accept.isNone then s.homeAtRest n
  else if p.segs.isEmpty && h.leaving && !h.held && h.accept.isNone && h.endRes = 0 then
    (s.homeArm n).setFld (.axsHmStat n) fAxsHmStat_PHASE 3
  else s

/-- True when a capture window ends unconfirmed (R321). -/
def State.winEnds (s : State) (n : Nat) : Bool :=
  match (s.home n).latch with
  | some (_, t) => decide (t ≤ s.now)
  | none => false

/-- The latch is rejected and armed again (R321). -/
def State.winReject (s : State) (n : Nat) : State := (s.incSat (.axsHmStat n) fAxsHmStat_LATCH_REJ).homeArm n

/-- The index event of channel c in a homing by INDEX (R320, R321). -/
def State.homeIndex (s : State) (c : Nat) : State :=
  match s.axisOfCh c with
  | none => s
  | some n =>
    let h := s.home n
    if h.on && h.method = 3 && h.held then
      let p := s.homePos n
      ((s.homeCapture n).setFld (.axsHmStat n) fAxsHmStat_TOGGLES 1).homeAccept n p
    else s

/-- The latch of a homing by GPIO reference, where latch 0 itself captured the edge (R320). -/
def State.homeLatched (s : State) (c l : Nat) : State :=
  match s.axisOfCh c with
  | none => s
  | some n =>
    let h := s.home n
    if l = 0 && h.held && h.latch.isNone && h.method ≤ 2 then s.setHome n { h with latch := some (s.reg (.encLatPos c 0), s.winEnd n) }
    else s

/-- True when a HARD_STOP homing is held by its torque at rest (R323). -/
def State.dwells (s : State) (n : Nat) : Bool :=
  let h := s.home n
  let d := match s.s15Limit n with
    | some b => satdirOf (bitsOf (s.stWord n b.st) 24 2)
    | none => 0
  h.on && h.method == 4 && h.narrowed && (if h.dirNeg then d < 0 else 0 < d) &&
    decide (((s.regI (.axsFbVel n)).natAbs : Int) ≤ s.p48 n 0x840)

/-- The dwell of a HARD_STOP homing begins or ends at a boundary. -/
def State.dwellBoundary (s : State) (n : Nat) : State :=
  let h := s.home n
  if !(h.on && h.method == 4 && h.narrowed) then s
  else if s.dwells n then
    (s.setHome n { h with dwell := some (h.dwell.getD s.now) }).setFld (.axsHmStat n) fAxsHmStat_PHASE 5
  else (s.setHome n { h with dwell := none }).setFld (.axsHmStat n) fAxsHmStat_PHASE 1

/-- True when the dwell has lasted HM_TIME (R323). -/
def State.dwellEnds (s : State) (n : Nat) : Bool :=
  match (s.home n).dwell with
  | some t => decide (t + (s.home n).time * msTicks ≤ s.now)
  | none => false

/-- The hard stop is the reference (R323): P_h := PACT, the setpoint goes to PACT at rest, the bounds return. -/
def State.dwellEnd (s : State) (n : Nat) : State :=
  let p := s.reg (.axsFbPos n)
  let c := s.casH n
  let q : Prof := { p := (p.toInt : Rat) }
  let s := s.setCasH n { c with prof := q, out := q.p }
  let s := s.showSet n q.p 0 0
  let s := s.setHome n { s.home n with narrowed := false, dwell := none, want := 0, planned := 0 }
  s.homeAccept n p

/-- The shift at the boundary after acceptance (R322): D is added to PSET, to the held setpoint state and to HSHIFT. An
ABSOLUTE homing needs fresh feedback (R323) (DEDUCED, log entry 61). -/
def State.homeShift (s : State) (n : Nat) : State :=
  let h := s.home n
  match h.accept with
  | none => s
  | some p =>
    if h.method = 5 && s.fld (.axsStat n) fAxsStat_FB_AGE ≠ 0 then s.homeFinish n 6
    else
      let d := sgn 48 (uns 48 (h.offset - p.toInt))
      let s := s.setRegI (.axsSetP n) (s.regI (.axsSetP n) + d)
      let c := s.casH n
      let s := s.setCasH n { c with prof := { c.prof with p := c.prof.p + (d : Rat) }, out := c.out + (d : Rat) }
      let s := s.setRegI (.axsFbHshift n) (s.regI (.axsFbHshift n) + d)
      let s := (s.setReg (.axsHmPos n) p).setRegI (.axsHmShift n) d
      s.setHome n { h with accept := none, want := 0, next := 0, endRes := 1, leaving := false }

/-! ### Fault causes (R302 to R307) -/

/-- The position error of axis n: padd(PSET, -PACT). -/
def State.posErr (s : State) (n : Nat) : Nat := (padd (s.regI (.axsSetP n)) (-(s.regI (.axsFbPos n)))).natAbs

/-- The condition of each cause now (R302). Causes that last until FAULT_RESET are present while latched; those of the
limits while the axis is not at standstill. -/
def State.causeActive (s : State) (n c : Nat) : Bool :=
  let latched := bitOf (s.fld (.axsFltCause n) fAxsFltCause_CAUSE) c
  if c = 0 then decide (s.ageLimit n < s.ageOf n) && s.kind n != kindVIRTUAL
  else if c = 1 || c = 2 || c = 11 then latched
  else if c = 3 then s.casMode n != 0 && latched && s.masterLost (s.mSrc n).1 (s.mSrc n).2
  else if c = 4 then s.bank n 0x830 0 47 != 0 && decide (s.bank n 0x830 0 47 < s.posErr n)
  else if c = 5 || c = 6 || c = 7 then latched && !s.flag (.axsSsStat n) fAxsSsStat_AT_REST
  else if c = 8 then s.fbFailing n
  else if c = 9 then s.kind n == kindLOCAL && s.sgState (s.localCh n) == sgTRIPPED
  else (s.fb n).nodeFault

/-- The causes that exist. -/
def allCauses : List Nat := List.range 12

/-- ACTIVE and STAT.FAULT follow the conditions. -/
def State.showActive (s : State) (n : Nat) : State :=
  let a := (allCauses.filter (fun c => s.causeActive n c)).foldl (fun acc c => acc + 2 ^ c) 0
  let s := s.setFld (.axsFltCause n) fAxsFltCause_ACTIVE a
  s.setFlag (.axsStat n) fAxsStat_FAULT (Nat.land a (s.fld (.axsFltCause n) fAxsFltCause_CAUSE) != 0)

/-- The causes an axis may latch (R305). -/
def State.causeMask (s : State) (n : Nat) : Nat := if s.kind n = kindOBSERVER then 0x501 else 0xFFF

/-- Causes whose condition is found at the boundary itself: the age (R178), the position error, a soft limit. -/
def State.boundaryCauses (s : State) (n : Nat) : State :=
  let beyond := decide (s.ageLimit n < s.ageOf n) && s.kind n != kindVIRTUAL
  let due := (s.axis n).ageDue
  let s := if s.driven n then s.setAxis n { s.axis n with ageDue := beyond }
    else (s.setAxis n { s.axis n with ageDue := false }).doIf beyond (fun s => (s.setAgeFault n).detect n 0)
  let s := if due then s.detect n 0 else s
  let lim := s.bank n 0x830 0 47
  let h := s.stop n
  let fe := lim != 0 && decide (lim < s.posErr n)
  let run := if fe then h.feRun + 1 else 0
  let p := sgn 48 (s.regN (.axsSetP n))
  let sw := !(s.home n).on && s.bank n 0x870 0 1 == 1 &&
    ((decide (h.lastP ≤ s.p48 n 0x860) && decide (s.p48 n 0x860 < p)) || (decide (s.p48 n 0x868 ≤ h.lastP) && decide (p < s.p48 n 0x868)))
  let s := s.setStop n { h with feRun := min run 256, lastP := p }
  let s := if fe && decide (max 1 (s.bank n 0x838 0 8) ≤ run) then s.detect n 4 else s
  if sw then s.detect n 7 else s

/-- The causes detected latch (R302), with FIRST, FLT_TIME and the event flag; FB_FAULT clears HOMED (R325). Answers the
causes detected. -/
def State.latchCauses (s : State) (n : Nat) : Nat × State :=
  let det := Nat.land (s.axis n).det (s.causeMask n)
  let s := s.setAxis n { s.axis n with det := 0 }
  let old := s.fld (.axsFltCause n) fAxsFltCause_CAUSE
  let new := Nat.lor old det
  if new = old then (det, s)
  else
    let s := s.setFld (.axsFltCause n) fAxsFltCause_CAUSE new
    let s := if old = 0 then
        (s.setFld (.axsFltCause n) fAxsFltCause_FIRST ((allCauses.find? (fun c => bitOf det c)).getD 15)).setReg (.axsFltTime n) s.t48
      else s
    let s := if bitOf new 8 && !bitOf old 8 then s.setFlag (.axsHmStat n) fAxsHmStat_HOMED false else s
    (det, s.raiseIf (s.flag (.axsFltCause n) fAxsFltCause_EV_FLT) n)

/-- Severity of a reaction code (R304). -/
def severity (r : Nat) : Nat := if r = 3 then 5 else if r = 4 then 4 else if r = 2 then 3 else if r = 1 then 2 else 1

/-- The most severe reaction among the causes detected (R304); none for no cause. -/
def State.worstReact (s : State) (n det : Nat) : Option Nat :=
  (allCauses.filter (fun c => bitOf det c)).foldl (fun (w : Option Nat) c =>
    let r := s.reactOf n c
    match w with
    | none => some r
    | some x => if severity x < severity r then some r else some x) none

/-- A reaction acts (R303 to R307): REACT keeps a more severe one that runs (R304). sto is true when the axis's outputs are already off (R308)
(DEDUCED, log entry 59). -/
def State.react (s : State) (n r : Nat) (sto : Bool) : State :=
  let was := s.ax n == axSTOPPING && (s.stop n).fault
  let s := if was && decide (severity r < severity (s.fld (.axsFltCause n) fAxsFltCause_REACT)) then s
    else s.setFld (.axsFltCause n) fAxsFltCause_REACT r
  let remote := s.isDrive && s.closure n == 0
  if r = 0 then s
  else if r = 3 || sto || remote then
    let owed := (s.ax n == axSTOPPING && (s.stop n).sto) || r == 4
    let s := (s.axRest n axFAULTED).groupFault n
    if owed then s.stoRequest n else s
  else
    let enters := s.ax n != axSTOPPING
    let s := s.stopRequest n (if r = 1 then 1 else 2) true false (r == 4)
    if enters then s.groupFault n else s

/-- Fault causes and reactions of an axis at a boundary (R302 to R308) (DEDUCED, log entry 59). -/
def State.faultBoundary (s : State) (n : Nat) : State :=
  let s := s.boundaryCauses n
  let x := s.latchCauses n
  let s := x.2
  if s.driven n then
    match s.worstReact n x.1 with
    | some r => s.react n r (decide (s.axZstate n ≤ 1))
    | none => s
  else s

/-- STO and SS1 of the axis's zone (R308, R309) (DEDUCED, log entry 57). -/
def State.zoneBoundary (s : State) (n : Nat) : State :=
  let z := s.axZstate n
  let s := s.setFlag (.axsStat n) fAxsStat_STO (decide (z ≤ 1))
  let s := if decide (z ≤ 1) && s.driven n then s.axRest n axREADY else s
  let s := if z = 2 && s.driven n && !s.flag (.axsSsStat n) fAxsSsStat_SAFE_STOP then s.stopRequest n 2 false true false else s
  s.setFlag (.axsSsStat n) fAxsSsStat_SAFE_STOP (z == 2)

/-- A group STOP due (R181). -/
def State.groupBoundary (s : State) (n : Nat) : State :=
  if (s.axis n).groupStop ≠ 0 && decide ((s.axis n).groupStop ≤ s.cycles) then
    let s := s.setAxis n { s.axis n with groupStop := 0 }
    if s.ax n = axENABLED || s.ax n = axMOVING then
      let s := s.stopRequest n 1 false false false
      (s.setFld (.axsStat n) fAxsStat_LAST_CMD cmdSTOP).setFld (.axsStat n) fAxsStat_CMD_RESULT 6
    else s
  else s

/-- FAULT_RESET clears every cause whose condition is no longer present, and those that last until it (R306). -/
def State.resetCauses (s : State) (n : Nat) : State :=
  let old := s.fld (.axsFltCause n) fAxsFltCause_CAUSE
  let keep := allCauses.filter (fun c => bitOf old c && c != 1 && c != 2 && c != 11 && s.causeActive n c)
  let new := keep.foldl (fun acc c => acc + 2 ^ c) 0
  let s := s.setFld (.axsFltCause n) fAxsFltCause_CAUSE new
  if new = 0 then s.setFld (.axsFltCause n) fAxsFltCause_FIRST 15 else s

/-- The outcome of ENABLE (R172, R173, R309, R374): 0, or the CMD_RESULT that refuses it. -/
def State.enableResult (s : State) (n : Nat) : Nat :=
  if s.flag (.axsSsStat n) fAxsSsStat_SAFE_STOP then 3
  else if s.ax n ≠ axREADY then 4
  else if s.flag (.axsStat n) fAxsStat_FAULT then 1
  else if s.kind n ≠ kindVIRTUAL && s.fld (.axsStat n) fAxsStat_FB_AGE ≠ 0 then 2
  else if s.axZstate n ≤ 1 then 3
  else if s.kind n = kindLOCAL && !s.flag (.sgStat (s.localCh n)) fSgStat_PRECHARGED then 4
  else 0

/-- ENABLE: the setpoint goes to the actual position at rest (R172). -/
def State.enable (s : State) (n : Nat) : State :=
  let s := s.setAx n axENABLED
  let q : Prof := { p := (s.regI (.axsFbPos n) : Rat) }
  let s := s.setCasH n { s.casH n with prof := q, out := q.p, move := none, done := false }
  let s := s.setStop n { s.stop n with lastP := s.regI (.axsFbPos n) }
  s.showSet n q.p 0 0

/-- The pending command is evaluated (R172 to R176, R306, R309): CMD_RESULT 4 for STOP, QUICK_STOP and DISABLE in a state that they
do not act in, 0 for FAULT_RESET outside FAULTED (DESIGN CHOICE, log entry 58). -/
def State.cmdBoundary (s : State) (n : Nat) : State :=
  let c := (s.axis n).cmd
  let ag := (s.axis n).cmdAgent
  if c = 0 then s
  else if c = cmdENABLE then
    let r := s.enableResult n
    (if r = 0 then s.enable n else s).cmdDone n c r
  else if c = cmdDISABLE then
    if s.ax n = axENABLED then (s.axRest n axREADY).cmdDone n c 0
    else if s.ax n = axMOVING then (s.stopRequest n 1 false true false).cmdDone n c 0
    else s.cmdDone n c 4
  else if c = cmdSTOP || c = cmdQUICK then
    if s.flag (.axsSsStat n) fAxsSsStat_SAFE_STOP then s.cmdDone n c 3
    else if s.driven n then
      let q := c == cmdQUICK
      (s.stopRequest n (if q then 2 else 1) false (q && s.bank n 0x820 16 1 == 1) false).cmdDone n c 0
    else s.cmdDone n c 4
  else
    let s := (s.resetCauses n).showActive n
    if s.fld (.axsFltCause n) fAxsFltCause_CAUSE ≠ 0 then
      (s.cmdDone n c 1).logViolation (Reg.axsCmd n).addr ag tyWrite cACTIVE
    else if s.ax n = axFAULTED then (s.setAx n axREADY).cmdDone n c 0
    else s.cmdDone n c 0

/-- Between ENABLED and MOVING (R171, R268, R317). -/
def State.moveBoundary (s : State) (n : Nat) : State :=
  let c := s.casH n
  let busy := c.move.isSome || c.eng.isSome || (s.home n).on
  let ended := fun (s : State) => if c.done then (s.setFlag (.axsMvStat n) fAxsMvStat_DONE true).setCasH n { c with done := false } else s
  if s.ax n = axENABLED then (if busy then s.setAx n axMOVING else ended s)
  else if s.ax n = axMOVING then
    if !busy && c.q.isEmpty && c.prof.segs.isEmpty then ended (s.setAx n axENABLED) else s
  else s

/-- An axis at a cycle boundary, after its feedback, swap and age (R170 to R181, R302 to R323). -/
def State.axisBoundary (s : State) (n : Nat) : State :=
  let s := if s.ax n = axOFF && s.kind n != kindNONE then s.setAx n axREADY else s
  if s.ax n = axOFF then s
  else if s.ax n = axRELOADING || s.ax n = axHOLD then
    let s := s.setAxis n { s.axis n with det := 0, groupStop := 0, ageDue := false }
    let s := s.setStop n { s.stop n with lastP := s.regI (.axsSetP n) }
    if s.ax n = axHOLD then (s.restBoundary n).crBoundary n else s
  else
    let s := (s.rampEnd n).homeShift n
    let s := (s.restBoundary n).dwellBoundary n
    let s := s.faultBoundary n
    let s := (s.zoneBoundary n).groupBoundary n
    let s := s.showActive n
    let s := s.cmdBoundary n
    ((s.moveBoundary n).crBoundary n).showActive n

/-! ### Parameters brought into range at a swap (R227, R303) -/

/-- The ranges of the parameter fields of a bank: offset, low bit, width, signed, least and greatest value. -/
def paramRanges : List (Nat × Nat × Nat × Bool × Int × Int) :=
  [(0x40, 0, 4, false, 1, 15), (0x400, 0, 2, false, 0, 2), (0x400, 2, 2, false, 0, 2), (0x410, 0, 32, false, 1, 2 ^ 32 - 1),
   (0x418, 0, 48, false, 0, 2 ^ 40), (0x430, 0, 48, true, 0, 2 ^ 47 - 1)] ++
  [0x440, 0x448, 0x450, 0x458, 0x460, 0x468, 0x470, 0x800, 0x808, 0x810, 0x880, 0x888, 0x890, 0x898].map
    (fun o => (o, 0, 48, true, 1, 2 ^ 47 - 1)) ++
  [(0x818, 0, 48, true, 0, 2 ^ 47 - 1), (0x830, 0, 47, false, 0, 2 ^ 46), (0x838, 0, 8, false, 1, 255),
   (0x840, 0, 48, true, 0, 2 ^ 47 - 1), (0x848, 0, 16, false, 1, 65535), (0x850, 0, 24, true, 0, 2 ^ 23 - 1),
   (0x858, 24, 10, false, 0, 1000), (0x878, 0, 3, false, 1, 5), (0x878, 5, 16, false, 1, 65535),
   (0x8A8, 0, 47, false, 0, 2 ^ 46), (0x8B0, 0, 24, true, 0, 2 ^ 23 - 1), (0xA00, 2, 16, false, 1, 65535),
   (0xA00, 18, 4, false, 1, 15), (0xA10, 0, 47, false, 0, 2 ^ 46)]

/-- A field of the live bank is set to the nearest value in a range; COEF_RANGE tells of a change. -/
def State.fixField (s : State) (n off lo w : Nat) (sg : Bool) (mn mx : Int) : State :=
  let raw := s.bank n off lo w
  let x : Int := if sg then sgn w raw else raw
  let y := clampI x mn mx
  if y = x then s else (s.setBank n off lo w (uns w y)).setCsFlags n 8

/-- A reaction code is replaced (R303). -/
def State.fixReact (s : State) (n off lo : Nat) (noZero : Bool) : State :=
  let x := s.bank n off lo 4
  if 4 < x || (noZero && x = 0) then (s.setBank n off lo 4 2).setFlag (.axsFltCause n) fAxsFltCause_CFG_RANGE true else s

/-- The parameters of axis n that a swap brought in are brought into range (R227, R303): gear NUM of 0 keeps its former value,
which the staged bank now holds (DEDUCED, log entry 18). -/
def State.fixParams (s : State) (n : Nat) : State :=
  let s := paramRanges.foldl (fun s r => s.fixField n r.1 r.2.1 r.2.2.1 r.2.2.2.1 r.2.2.2.2.1 r.2.2.2.2.2) s
  let s := s.fixField n 0x400 4 8 false 0 (if s.bank n 0x400 2 2 = 2 then 3 else 191)
  let s := if s.bank n 0x408 0 32 = 0 then
      (s.setBank n 0x408 0 32 (s.load (stagedBank n + 0x408) 4)).setCsFlags n 8 else s
  let s := s.fixReact n 0x40 4 false
  let s := s.each [1, 3, 4, 5, 6, 7, 8, 10] (fun c s => s.fixReact n 0x828 (4 * c - 4) (c == 5 || c == 6))
  (s.fixCoefs n).mirrorCfg n

end Sys2Proof.Machine
end

