-- ==== Sys2Proof/Machine/CascadeOps.lean ====
section
/-! DEFINITION. The Cascade pass (08_profiles_cams.md, R244 to R253): states, groups, commands, plans, line masters, ranks. -/
namespace Sys2Proof.Machine

/-! ### States and commands of an axis (R250, R252, R253) -/

/-- Step 1 of R250: the setpoints of an axis that does not move by itself (R253), and the end of moves and following where the
state asks for it (R252, R269). -/
def State.passState (s : State) (n : Nat) : State :=
  let st := s.ax n
  let c := s.casH n
  if st = axOFF || st = axREADY || st = axFAULTED then
    if s.isDrive && s.closure n == 1 then s.casClear n { p := (s.regI (.axsSetP n) : Rat) }
    else
      let p : Rat := (if s.kind n = kindVIRTUAL then s.regI (.axsSetP n) else (s.fb n).pact.toInt : Int)
      let s := s.casClear n { p := p }
      (s.setCasH n { s.casH n with out := p }).showSet n p 0 0
  else if st = axHOLD || st = axRELOADING then s.casClear n { c.prof with segs := [] }
  else if st = axSTOPPING && (s.stop n).want ≠ 0 then
    let q : Prof := if s.isDrive && (s.stop n).cls = 0 then
        { p := (s.regI (.axsSetP n) : Rat), v := vR (s.regI (.axsSetV n)), a := aR (s.regI (.axsSetA n)) }
      else { c.prof with segs := [] }
    s.casClear n q
  else s

/-- The commands of axis n that act in the pass for tick k, in the order of their writes, and those that wait on. -/
def dueCmds (k : Nat) (l : List (Nat × CasCmd)) : List CasCmd × List (Nat × CasCmd) :=
  ((l.filter (fun x => actsIn k x.1)).map (fun x => x.2), l.filter (fun x => !actsIn k x.1))

/-- A flush, a push, a start or an abort of homing acts (R250, step 4). -/
def State.queueCmd (n k : Nat) (s : State) (c : CasCmd) : State :=
  match c with
  | .flush => s.flushAct n k
  | .push e => s.pushAct n k e
  | .home => s.homeStart n
  | .abort => s.homeCancel n
  | _ => s

/-- A change acts (R250, step 5). -/
def State.changeCmd (n k : Nat) (s : State) (c : CasCmd) : State :=
  match c with
  | .change en vm am dm => s.changeAct n k en vm am dm
  | _ => s

/-- A follower order acts (R279, R289). -/
def State.followCmd (n k : Nat) (mv : Int × Int × Int) (s : State) (c : CasCmd) : State :=
  match c with
  | .engage p x rel => s.engageAct n mv p x rel
  | .disengage p x => s.disengageAct n k p x
  | .switch x t f => s.switchAct n x t f
  | .cancel => s.folCancel n
  | _ => s

/-- Queue and changes of axis n in the pass for tick k, and its request for a plan. -/
def State.passQueue (s : State) (n k : Nat) : State :=
  let d := (dueCmds k (s.casH n).cmds).1
  let changes := d.any (fun c => match c with | .change .. => true | _ => false)
  let c := s.casH n
  let s := s.setCasH n { c with
    qOld := c.q.length
    chgOld := if changes then some (c.dmaxNext, c.amaxNext, s.flag (.axsMvStat n) fAxsMvStat_PARAM_DEFERRED) else none }
  let s := d.foldl (State.queueCmd n k) s
  let s := d.foldl (State.changeCmd n k) s
  if s.driven n && s.ax n != axSTOPPING then s.headRequest n k else s

/-! ### The step (R253, R279 to R289) -/

/-- The setpoints an axis moves to: a stop ramp, homing, a following, a move. -/
def State.passMove (s : State) (n k : Nat) (mv : Int × Int × Int) : State :=
  if s.ax n = axSTOPPING then s.rampStep n
  else if (s.home n).on then s.homeStep n
  else match (s.casH n).eng with
    | some e => s.followStep n e mv
    | none => s.moveStep n k

/-- MASTER_LOST (R278). -/
def State.passMaster (s : State) (n : Nat) : State :=
  match (s.casH n).eng with
  | some e => if s.masterLost e.kind e.idx then (s.detect n 3).folRes n 5 else s
  | none => s

/-- PACT and VACT of a VIRTUAL axis are its setpoints (R253) (DEDUCED, log entry 63). -/
def State.passVirtual (s : State) (n : Nat) : State :=
  if s.kind n = kindVIRTUAL then (s.setReg (.axsFbPos n) (s.reg (.axsSetP n))).setReg (.axsFbVel n) (s.reg (.axsSetV n)) else s

/-- Axis n in its rank (R250): crossings, follower orders, the step. The value of a master that is an axis exists only in its rank,
so the crossings are found here, and what R250 places after them is set right (engageUndo) (DEDUCED, log entry 65). -/
def State.passAxis (s : State) (n k : Nat) : State :=
  let src := s.passSrc n
  let mv := s.masterVal src.1 src.2
  let s := if s.driven n && s.ax n != axSTOPPING then
      let s := s.passMaster n
      let s := ((s.engageCrossing n mv).disengageCrossing n k mv.1).switchCrossing n mv.1
      (dueCmds k (s.casH n).cmds).1.foldl (State.followCmd n k mv) s
    else s
  let s := s.setCasH n { s.casH n with cmds := (dueCmds k (s.casH n).cmds).2
                                       armM := if s.casMode n = 0 then none else some (src.1, src.2, mv.1) }
  let s :=
    if !s.driven n then s
    else if s.isDrive && s.ax n != axSTOPPING then
      let q : Prof := { p := (s.regI (.axsSetP n) : Rat), v := vR (s.regI (.axsSetV n)), a := aR (s.regI (.axsSetA n)) }
      s.setCasH n { s.casH n with prof := q, out := q.p }
    else
      let s := s.passMove n k mv
      let q := (s.casH n).prof
      s.showSet n q.p q.v q.a
  ((s.passVirtual n).folShow n).mvShow n

/-- The axes that cost a pass time: all but OBSERVER and NONE axes (R247) (DEDUCED, log entry 65). -/
def State.passAxes (s : State) : List Nat := allAxes.filter (fun n => s.kind n != kindNONE && s.kind n != kindOBSERVER)

/-- What a pass keeps of axis n before it begins: the setpoints of the present cycle for its tasks (R195), and PACT and VACT for the
axes that follow them (R277). -/
def State.passKeep (s : State) (n : Nat) : State :=
  let s := s.setCasH n { s.casH n with act := (s.regI (.axsFbPos n), s.regI (.axsFbVel n)) }
  if s.kind n = kindNONE then s else s.setJob n { s.job n with cyc := s.setpoints n }

/-- The pass for the next cycle's profile tick (R244 to R253). -/
def State.cascadePass (s : State) : State :=
  let k := (s.cycleN + 1) % 2 ^ 48
  let s := s.each allAxes (fun n s => s.passKeep n)
  let s := { s with casSys := { s.casSys with from_ := some s.now, done := true } }
  let s := s.each allAxes (fun n s => s.passState n)
  let s := s.each (List.range 32) (fun g s => s.groupAct g k)
  let s := s.each allAxes (fun n s => s.passQueue n k)
  let s := (s.stageP k).each (List.range 32) (fun g s => s.groupStart g k)
  let s := s.each (List.range 4) (fun i s => s.lmPass i)
  let s := s.each (List.range 4) (fun r s => s.each (allAxes.filter (fun n => s.passRank n == r)) (fun n s => s.passAxis n k))
  s.showArmed

/-- True when the pass of the present cycle begins (R244). -/
def State.passDue (s : State) : Bool :=
  !s.casSys.done && decide (0 < s.cycles) && decide (s.bndAt + s.casStart ≤ s.now)

/-- The pass ends (R245): its length is recorded (DEDUCED, log entry 65). -/
def State.passEnd (s : State) : State :=
  match s.casSys.from_ with
  | none => s
  | some t =>
    let d := satU 16 ((s.now - t) * 2)
    let s := { s with casSys := { s.casSys with from_ := none }, twn := { s.twn with casEnd := some s.now } }
    let s := s.setFld .casStat fCasStat_PASS_NS d
    s.setFld .casStat fCasStat_PASS_MAX (max d (s.fld .casStat fCasStat_PASS_MAX))

end Sys2Proof.Machine
end

