-- ==== Sys2Proof/Machine/DmaOps.lean ====
section
/-! DEFINITION. The DMA channels (20_host_ports.md, R653 to R658). -/
namespace Sys2Proof.Machine

/-- True when channel c runs. -/
def State.dmaEn (s : State) (c : Nat) : Bool := s.flag (.dmaCtl c) fDmaCtl_EN

/-- The posts of cores waiting on channel c. -/
def dmaPosts (h : DmaH) : Nat := (h.waiting.filter (fun q => q.mirage.isNone)).length

/-- STAT.POSTS follows. -/
def State.dmaShow (s : State) (c : Nat) : State := s.setFld (.dmaStat c) fDmaStat_POSTS (dmaPosts (s.dmaH c))

/-- A request joins channel c in order of arrival (R656) (DEDUCED, log entry 66). -/
def State.dmaAdd (s : State) (c : Nat) (q : DmaReq) : State :=
  let h := s.dmaH c
  (s.setDmaH c { h with waiting := h.waiting ++ [q] }).dmaShow c

/-- What a write of POST is refused with (R657): the agent, the source and length, the posts held, EN. -/
def State.dmaPostRefuse (s : State) (ag c : Nat) (v : Word48) : List Nat :=
  let src := wordFld v fDmaPost_SRC
  let len := wordFld v fDmaPost_LEN
  refuseIf (!(decide (1 ≤ ag) && decide (ag ≤ 8)) || decide (src < 0x01000000) || decide (0x01600000 < src + len) ||
    decide (len < 8) || decide (1048568 < len) || len % 8 != 0) cACCESS ++
  refuseIf (!s.dmaEn c) cOFFLINE ++ refuseIf (decide (8 ≤ dmaPosts (s.dmaH c))) cBUSY

/-- A core posts a copy (R657). -/
def State.dmaPost (s : State) (c : Nat) (v : Word48) : State :=
  s.dmaAdd c { src := wordFld v fDmaPost_SRC, len := wordFld v fDmaPost_LEN }

/-- What a write of CTL is refused with (R655): LEN outside its range, LEN changed while the channel runs
(DEDUCED, log entry 66). -/
def State.dmaCtlRefuse (s : State) (c : Nat) (v : Word48) : List Nat :=
  let l := wordFld v fDmaCtl_LEN
  refuseIf (decide (l < 16) || decide (4096 < l)) cACCESS ++
  refuseIf (s.dmaEn c && l != s.fld (.dmaCtl c) fDmaCtl_LEN) cLOCKED

/-- CTL is written (R655): NEXT = 0 on each 0-to-1 write of EN. -/
def State.dmaCtlWrite (s : State) (c : Nat) (v : Word48) : State :=
  let on := wordFld v fDmaCtl_EN == 1
  let s := if on && !s.dmaEn c then s.setFld (.dmaStat c) fDmaStat_NEXT 0 else s
  (s.setFlag (.dmaCtl c) fDmaCtl_EN on).setFld (.dmaCtl c) fDmaCtl_LEN (wordFld v fDmaCtl_LEN)

/-- The next descriptor is not lent: the channel waits, once (R656). -/
def State.dmaStarve (s : State) (c : Nat) : State :=
  let h := s.dmaH c
  if h.starved then s
  else ((s.setDmaH c { h with starved := true }).incSat (.dmaStat c) fDmaStat_STARVE).raise 347

/-- True when channel c can take its next transfer. -/
def State.dmaReady (s : State) (c : Nat) : Bool :=
  s.dmaEn c && !s.host.perst && (s.dmaH c).current.isNone && !(s.dmaH c).waiting.isEmpty

/-- The channel takes its next transfer (R656); own is OWN of the next descriptor (DEDUCED, log entry 66). -/
def State.dmaStart (s : State) (c : Nat) (own : Bool) : State :=
  let h := s.dmaH c
  match h.waiting with
  | [] => s
  | q :: t =>
    let data := if q.mirage.isSome then q.bytes else s.bytes q.src q.len
    let s := (s.setDmaH c { h with waiting := t, current := some q, left := data, cut := false, starved := false }).dmaShow c
    if own then s else s.dmaStarve c

/-- A buffer is returned (R655, R656, R658): addr, len and irq are those of its descriptor, own is OWN of the one that follows.
How many bytes a transfer that was cut off had written is a free value. -/
def State.dmaReturn (s : State) (c addr len : Nat) (irq own : Bool) : State :=
  let h := s.dmaH c
  match h.current with
  | none => s
  | some q =>
    let n := min len h.left.length
    let x := if h.cut then s.takeFree 20 else (n, s)
    let n := min x.1 n
    let s := x.2
    let fin := h.cut || decide (h.left.length ≤ n)
    let next := s.fld (.dmaStat c) fDmaStat_NEXT
    let word := n + (if fin then 2 ^ 21 else 0) + (if h.cut then 4 * 2 ^ 22 else 0)
    let h := { h with left := h.left.drop n, out := some ⟨next, addr, h.left.take n, word⟩, starved := false }
    let s := s.setDmaH c (if fin then { h with current := none, left := [], cut := false } else h)
    let s := s.setFld (.dmaStat c) fDmaStat_NEXT ((next + 1) % max 1 (s.fld (.dmaCtl c) fDmaCtl_LEN))
    let s := if irq then s.sendVector (1 + c) else s
    if fin then
      if h.cut then s
      else
        let s := s.incWrap (.dmaStat c) fDmaStat_XFERS
        match q.mirage with
        | some m => s.setMir m { s.mir m with done := some q.rd }
        | none => s
    else if own then s else s.dmaStarve c

/-- The channels are reset (R653): EN = 0, every transfer dropped. -/
def State.dmaReset (s : State) : State :=
  let s := s.each (List.range 4) (fun c s => ((s.setDmaH c {}).dmaShow c).setFlag (.dmaCtl c) fDmaCtl_EN false)
  s.each (List.range 32) (fun m s => (s.setFlag (.mirStat m) fMirStat_UPL_BUSY false).setMir m { s.mir m with done := none })

/-- True while a transfer of Mirage channel m waits or runs. -/
def State.dmaHas (s : State) (m : Nat) : Bool :=
  (List.range 4).any (fun c => ((s.dmaH c).current.toList ++ (s.dmaH c).waiting).any (fun q => q.mirage == some m))

/-- Mirage channel m leaves OPEN (R554, R658): its upload in progress is cut off, one waiting is dropped
(DEDUCED, log entry 66). -/
def State.dmaCut (s : State) (m : Nat) : State :=
  let s := s.each (List.range 4) (fun c s =>
    let h := s.dmaH c
    let mine := match h.current with
      | some q => q.mirage == some m
      | none => false
    s.setDmaH c { h with waiting := h.waiting.filter (fun q => q.mirage != some m), cut := h.cut || mine })
  s.setFlag (.mirStat m) fMirStat_UPL_BUSY false

end Sys2Proof.Machine
end

