-- ==== Sys2Proof/Machine/SluiceOps.lean ====
section
/-! DEFINITION. Sluice, Caravan and the cores' side of dispatch (18_cores_sluice_mailboxes.md, R574 to R595). -/
namespace Sys2Proof.Machine

/-- The weir of Sluice task t (R580). -/
def taskWeir (t : Nat) : Nat := 315 + t
/-- The weir of core k. -/
def coreWeir (k : Nat) : Nat := 275 + k

/-! ### Caravan -/

/-- Unread records of a ring of len slots (R539). -/
def ringUnread (wr rd len : Nat) : Nat := if len = 0 then 0 else (wr + len - rd % len) % len

/-- What a wrap of WR discards when the staged length takes effect (R540): the unread records at LEN_NEW or above. -/
def ringDiscard (rd len lenNew : Nat) : Nat := if rd = 0 then 0 else len - max rd lenNew

/-- The 16 bytes of a Caravan record (R593). -/
def caravanBytes (t48 : Word48) (kind ag t info flow data : Nat) : List Byte :=
  leBytes 6 t48.toNat ++ leBytes 1 kind ++ leBytes 1 ag ++ leBytes 1 t ++ leBytes 1 info ++ leBytes 2 flow ++
    leBytes 4 (satU 32 data)

/-- The base address of shared core memory (R36). -/
def sharedBase : Nat := 0x01500000

/-- WR advances by one; at the wrap a staged length takes effect (R595). -/
def State.caravanAdvance (s : State) : State :=
  let len := s.fld .sluCvnRing fSluCvnRing_LEN
  let wr := s.fld .sluCvnPtr fSluCvnPtr_WR
  if wr + 1 < len then s.setFld .sluCvnPtr fSluCvnPtr_WR (wr + 1)
  else
    let s := s.setFld .sluCvnPtr fSluCvnPtr_WR 0
    if s.flag .sluCvnCtl fSluCvnCtl_STAGED then
      let lenNew := s.sluice.cvnNew
      let rd := s.fld .sluCvnPtr fSluCvnPtr_RD
      let d := ringDiscard rd len lenNew
      let s := (s.setFld .sluCvnRing fSluCvnRing_LEN lenNew).setFlag .sluCvnCtl fSluCvnCtl_STAGED false
      let s := if lenNew ≤ rd then s.setFld .sluCvnPtr fSluCvnPtr_RD 0 else s
      if d = 0 then s else
        ((s.setFlag .sluCvnStat fSluCvnStat_TRUNCATED true).setFld .sluCvnStat fSluCvnStat_TRUNC_CNT (satU 15 d)).raise 348
    else s

/-- Caravan writes one record (R593, R594). -/
def State.caravan (s : State) (kind ag t : Nat) (flow : Option Nat) (wake : Bool) (data : Nat) : State :=
  let len := s.fld .sluCvnRing fSluCvnRing_LEN
  if !s.flag .sluCvnCtl fSluCvnCtl_EN || len == 0 then s else
  let wr := s.fld .sluCvnPtr fSluCvnPtr_WR
  let rd := s.fld .sluCvnPtr fSluCvnPtr_RD
  let full := decide (len - 1 ≤ ringUnread wr rd len)
  let mode := s.flag .sluCvnRing fSluCvnRing_MODE
  if full && !mode then
    ({ s.incSat .sluCvnStat fSluCvnStat_LOST with sluice := { s.sluice with gap := true } }).raise 348
  else
    let s := if full then
        (s.setFld .sluCvnPtr fSluCvnPtr_RD ((rd + 1) % len)).incSat .sluCvnStat fSluCvnStat_OVERWRITTEN
      else s
    let info := s.fld (.taskCfg t) fTaskCfg_PRIO + 16 * s.fld (.shrReqCfg 8 t) fShrReqCfg_CLASS +
      64 * b2n s.sluice.gap + 128 * b2n wake
    let a := sharedBase + 16 * s.fld .sluCvnRing fSluCvnRing_BASE + 16 * wr
    let s := s.setBytes a (caravanBytes s.t48 kind ag t info (flow.getD 0xFFFF) data)
    { s with sluice := { s.sluice with gap := false } }.caravanAdvance

/-! ### Tasks and items -/

/-- A task's items in the queue. -/
def State.itemsOf (s : State) (t : Nat) : List WorkItem := s.sluice.queue.filter (fun w => w.task == t)

/-- STAT.ITEMS of a task and QUEUED, QUEUED_MAX of the queue follow the items held. -/
def State.countItems (s : State) (t : Nat) : State :=
  let s := s.setFld (.taskStat t) fTaskStat_ITEMS (s.itemsOf t).length
  let q := s.sluice.queue.length
  let s := s.setFld .sluStat fSluStat_QUEUED q
  if s.fld .sluStat fSluStat_QUEUED_MAX < q then s.setFld .sluStat fSluStat_QUEUED_MAX q else s

/-- The first eligible item of a task: none of its flow is in service (R581). -/
def State.eligible (s : State) (t : Nat) : Option WorkItem :=
  (s.itemsOf t).find? (fun w =>
    match w.flow with
    | none => true
    | some f => !s.sluice.busyFlows.contains f)

/-- A task leaves READY otherwise than by a grant. -/
def State.unready (s : State) (t : Nat) : State := s.arbWithdraw 8 (fun q => q.r == t)

/-- R581 for a task that is neither RUNNING, OFFLINE nor BLOCKED: READY with an eligible item, IDLE without. -/
def State.refreshTask (s : State) (t : Nat) : State :=
  let st := s.taskState t
  let h := s.task t
  if h.blocked then s
  else if st = 0 && (s.eligible t).isSome then s.makeReady t
  else if st = 1 && (s.eligible t).isNone then (s.unready t).setFld (.taskStat t) fTaskStat_TSK_STATE 0
  else s

/-- R581 for every task that holds items or is READY, after a flow or the queue has changed. -/
def State.refreshTasks (s : State) : State :=
  s.each ((s.sluice.queue.map (fun w => w.task)) ++ ((s.arb 8).waiting.map (fun q => q.r))).eraseDups
    (fun t s => s.refreshTask t)

/-- A flow enters service. -/
def State.takeFlow (s : State) (f : Option Nat) : State :=
  match f with
  | none => s
  | some f => { s with sluice := { s.sluice with busyFlows := f :: s.sluice.busyFlows } }

/-- A flow leaves service. -/
def State.freeFlow (s : State) (f : Option Nat) : State :=
  match f with
  | none => s
  | some f => { s with sluice := { s.sluice with busyFlows := s.sluice.busyFlows.erase f } }

/-- An item returns to its place in the post order (R584, R591). -/
def insertItem (w : WorkItem) : List WorkItem → List WorkItem
  | [] => [w]
  | x :: t => if w.seq < x.seq then w :: x :: t else x :: insertItem w t

/-- An item goes back into the queue. -/
def State.returnItem (s : State) (w : WorkItem) : State :=
  ({ s with sluice := { s.sluice with queue := insertItem w s.sluice.queue } }).countItems w.task

/-- R587: what a post is refused with. The queue holds 1,024 items for all tasks. -/
def State.postRefuse (s : State) (ag t : Nat) : List Nat :=
  refuseIf (!(decide (1 ≤ ag ∧ ag ≤ 10) || ag == 16)) cACCESS ++
  refuseIf (!s.weirOpen (taskWeir t)) cOFFLINE ++
  refuseIf (!s.flag (.taskCfg t) fTaskCfg_USED) cACCESS ++
  refuseIf (decide (1024 ≤ s.sluice.queue.length) ||
    (s.fld (.taskCfg t) fTaskCfg_QMAX != 0 && decide (s.fld (.taskCfg t) fTaskCfg_QMAX ≤ (s.itemsOf t).length))) cBUSY

/-- An accepted post adds one item (R587). -/
def State.post (s : State) (t : Nat) (flow : Option Nat) (arg : Nat) : State :=
  let w : WorkItem := { task := t, flow := flow, arg := arg, seq := s.sluice.seq }
  let s := { s with sluice := { s.sluice with queue := s.sluice.queue ++ [w], seq := s.sluice.seq + 1 } }
  (s.countItems t).refreshTask t

/-! ### Dispatch -/

/-- The machine external interrupt condition's doorbell and mailbox bits need the mailbox block, so they are
arguments here: IRQ.PEND of core k (R576, R586, R592). -/
def State.corePend (s : State) (k : Nat) (mbox : Bool) : Nat :=
  b2n (s.flag (.dbPend (k + 1)) fDbPend_BITS) + 2 * b2n mbox + 4 * b2n (s.flag (.coreStat k) fCoreStat_CANCELLED) +
    8 * b2n ((List.range 128).any (fun t => s.taskState t == 1 && bitOf (s.fld (.taskCfg t) fTaskCfg_CORE_MASK) k))

/-- The READY tasks that core k may run. -/
def State.runnable (s : State) (k : Nat) : List ArbReq :=
  (s.arb 8).waiting.filter (fun q => bitOf (s.fld (.taskCfg q.r) fTaskCfg_CORE_MASK) k)

/-- The tasks Sluice presents at core k's read: within each class those of the highest PRIO (R582). -/
def State.presented (s : State) (k : Nat) : List ArbReq :=
  let l := s.runnable k
  l.filter (fun q => l.all (fun p => s.arbClass 8 p != s.arbClass 8 q ||
    decide (s.fld (.taskCfg p.r) fTaskCfg_PRIO ≤ s.fld (.taskCfg q.r) fTaskCfg_PRIO)))

/-- The dispatch word (18_cores_sluice_mailboxes.md, CORE[k].DISPATCH) (DESIGN CHOICE, log entry 11). -/
def dispatchWord (t : Nat) (woken : Bool) (flow : Option Nat) : Nat :=
  t + 128 * b2n woken + 256 * flow.getD 0x1FF + 2 ^ 47

/-- The outstanding dispatch read of core k returns a word: a completed read (R80). -/
def State.dispatchReturn (s : State) (k word : Nat) : State :=
  ((s.setCore k { s.core k with reading := none }).noteEpoch (k + 1) (.coreDispatch k)).answer (k + 1)
    (Reg.coreDispatch k).addr tyRead cOK word

/-- A grant of task t to core k (R583, R585) (DESIGN CHOICE, log entry 11). -/
def State.dispatchTo (s : State) (k t : Nat) : State :=
  let h := s.task t
  let pick : Option WorkItem := if h.woken then h.item else s.eligible t
  let s := if h.woken then s else
    match pick with
    | none => s
    | some w => ({ s with sluice := { s.sluice with queue := s.sluice.queue.erase w } }).takeFlow w.flow
  let flags := Nat.land (s.fld (.taskFlags t) fTaskFlags_FLAGS) h.mask
  let wf := if h.woken then (if h.timedOut then 2 ^ 32 else flags) else 0
  let s := if h.woken && !h.timedOut then
    s.setFld (.taskFlags t) fTaskFlags_FLAGS (s.fld (.taskFlags t) fTaskFlags_FLAGS - flags) else s
  let flow := pick.bind (fun w => w.flow)
  let s := (s.setFld (.coreArg k) fCoreArg_ARG ((pick.map (fun w => w.arg)).getD 0)).setRegN (.coreWflags k) wf
  let s := s.setTask t { h with item := pick, blocked := false, woken := false, timedOut := false, deadline := none }
  let s := (s.setFld (.taskStat t) fTaskStat_TSK_STATE 2).setFld (.taskStat t) fTaskStat_CORE k
  let s := (s.setFld (.coreStat k) fCoreStat_TASK t).setFlag (.coreStat k) fCoreStat_HOLD true
  let s := s.countItems t
  let s := s.setCore k { s.core k with dispatchedAt := s.now, cancelled := false }
  let s := s.caravan 0 (k + 1) t flow h.woken (s.now - h.ready)
  (s.dispatchReturn k (dispatchWord t h.woken flow)).refreshTasks

/-- The unit-8 arbiter serves core k's outstanding read (R582, R583): the chosen task is dispatched, and an
opportunistic task that was presented and lost is refused (R124, R590) (DEDUCED, log entry 15). -/
def State.dispatchGrant (s : State) (k : Nat) : State :=
  if (s.core k).reading.isNone then s else
  let p := s.presented k
  match s.arbGrant 8 p with
  | none => s
  | some (q, s') =>
    let lost := (p.erase q).filter (fun o => s'.arbClass 8 o == 3)
    let s' := lost.foldl (fun s o => (s.arbRefuse 8 o cREFUSED).arbAdd 8 o) s'
    s'.dispatchTo k q.r

/-- Core k asks for work (R582): the read stays outstanding, and every READY task without a request at unit 8 (R590)
that the core may run is presented again (DESIGN CHOICE, log entry 8). -/
def State.dispatchRead (s : State) (k : Nat) : State :=
  let s := s.setCore k { s.core k with reading := some s.now }
  s.each (List.range 128) (fun t s =>
    if s.taskState t == 1 && bitOf (s.fld (.taskCfg t) fTaskCfg_CORE_MASK) k &&
        !(s.arb 8).waiting.any (fun q => q.r == t) then
      s.arbAdd 8 { r := t, arrival := s.now, tick := s.now, cost := 1 }
    else s)

/-- The core holds no task. -/
def State.coreDrop (s : State) (k : Nat) : State :=
  (s.setFlag (.coreStat k) fCoreStat_HOLD false).setFld (.coreStat k) fCoreStat_TASK 0

/-- What a write of CORE[k].DONE is refused with (R584, R592). -/
def State.doneRefuse (s : State) (ag k op : Nat) : List Nat :=
  refuseIf (ag != k + 1 || !s.flag (.coreStat k) fCoreStat_HOLD || op == 0) cACCESS ++
  refuseIf (s.core k).cancelled cOFFLINE

/-- A DONE write to a task cancelled under the core returns OFFLINE and leaves the core without a task (R592). -/
def State.doneCancelled (s : State) (k : Nat) : State :=
  (s.setCore k { s.core k with cancelled := false }).coreDrop k

/-- COMPLETE (R584). -/
def State.doneComplete (s : State) (k : Nat) : State :=
  let t := s.fld (.coreStat k) fCoreStat_TASK
  let h := s.task t
  let flow := h.item.bind (fun w => w.flow)
  let s := s.caravan 2 (k + 1) t flow false (s.now - (s.core k).dispatchedAt)
  let s := (s.freeFlow flow).setTask t { h with item := none }
  let s := (s.coreDrop k).setFld (.taskStat t) fTaskStat_TSK_STATE 0
  (s.refreshTask t).refreshTasks

/-- BLOCK (R584, R585): a wait whose condition already holds ends in the same tick. -/
def State.doneBlock (s : State) (k mask : Nat) (all : Bool) : State :=
  let t := s.fld (.coreStat k) fCoreStat_TASK
  let h := s.task t
  let tmo := s.fld (.coreWaitTmo k) fCoreWaitTmo_TICKS
  let h' := { h with mask := mask, all := all, blocked := true, woken := false, timedOut := false,
                     deadline := if tmo = 0 then none else some (s.now + tmo) }
  let s := s.caravan 1 (k + 1) t (h.item.bind (fun w => w.flow)) false mask
  let s := ((s.setTask t h').coreDrop k).setFld (.taskStat t) fTaskStat_TSK_STATE 3
  if waitMet h' (s.fld (.taskFlags t) fTaskFlags_FLAGS) then s.wake t false else s

/-- YIELD (R584): without an item it acts as COMPLETE. -/
def State.doneYield (s : State) (k : Nat) : State :=
  let t := s.fld (.coreStat k) fCoreStat_TASK
  let h := s.task t
  match h.item with
  | none => s.doneComplete k
  | some w =>
    let s := s.caravan 3 (k + 1) t w.flow false (s.now - (s.core k).dispatchedAt)
    let s := (s.freeFlow w.flow).setTask t { h with item := none }
    let s := (s.coreDrop k).setFld (.taskStat t) fTaskStat_TSK_STATE 0
    ((s.returnItem w).refreshTask t).refreshTasks

/-- A write of DONE that is accepted: 1 COMPLETE, 2 BLOCK, 3 YIELD. -/
def State.doneAct (s : State) (k : Nat) (v : Word48) : State :=
  match wordFld v fCoreDone_OP with
  | 1 => s.doneComplete k
  | 2 => s.doneBlock k (wordFld v fCoreDone_WAIT_MASK) (wordFld v fCoreDone_WAIT_MODE == 1)
  | 3 => s.doneYield k
  | _ => s

/-- A BLOCKED wait ends by its time (R585). -/
def State.waitTimeout (s : State) (t : Nat) : State :=
  let h := s.task t
  match h.deadline with
  | none => s
  | some d => if h.blocked && !h.woken && s.taskState t == 3 && d ≤ s.now then s.wake t true else s

/-! ### Closing weirs -/

/-- A core's weir leaves OPEN: its task's item returns, its outstanding read ends (R591). -/
def State.coreRequeue (s : State) (k : Nat) : State :=
  let s := s.setCore k { s.core k with reading := none }
  if s.flag (.coreStat k) fCoreStat_HOLD then
    let t := s.fld (.coreStat k) fCoreStat_TASK
    let s := s.coreDrop k
    if (s.core k).cancelled then s.setCore k { s.core k with cancelled := false }
    else
      let h := s.task t
      let flow := h.item.bind (fun w => w.flow)
      let s := s.caravan 4 (k + 1) t flow false 0
      let s := (s.freeFlow flow).setTask t { h with item := none }
      let s := match h.item with
        | none => s
        | some w => s.returnItem w
      let s := s.setFld (.taskStat t) fTaskStat_TSK_STATE (if s.weirOpen (taskWeir t) then 0 else 4)
      (s.refreshTask t).refreshTasks
  else s

/-- A task's weir leaves OPEN: its items are purged, its wait ends, and a core that runs it is told (R592). PURGED counts the
items removed from the queue. -/
def State.taskCancel (s : State) (t : Nat) : State :=
  let h := s.task t
  let n := (s.itemsOf t).length
  let run := s.taskState t == 2
  let k := s.fld (.taskStat t) fTaskStat_CORE
  let flow := h.item.bind (fun w => w.flow)
  let s := { s with sluice := { s.sluice with queue := s.sluice.queue.filter (fun w => w.task != t) } }
  let s := (s.addSat (.taskStat t) fTaskStat_PURGED n).unready t
  let s := if run then
      let s := s.caravan 5 (k + 1) t flow false 0
      let s := s.setFlag (.coreStat k) fCoreStat_CANCELLED true
      s.setCore k { s.core k with cancelled := true }
    else s
  let s := (s.freeFlow flow).setTask t {}
  ((s.setFld (.taskStat t) fTaskStat_TSK_STATE 4).countItems t).refreshTasks

/-- A task's weir reopens: IDLE with no flags (R83, R592). -/
def State.taskOpen (s : State) (t : Nat) : State :=
  ((s.setTask t {}).setFld (.taskFlags t) fTaskFlags_FLAGS 0).setFld (.taskStat t) fTaskStat_TSK_STATE 0

/-- A core's weir enters OPEN: it starts at offset 0 of its local memory with cleared registers (R577)
(DESIGN CHOICE, log entry 16). -/
def State.coreStart (s : State) (k : Nat) : State :=
  s.setCore k { pc := 0x01400000 + k * 0x20000, wdogFrom := s.now }

end Sys2Proof.Machine
end

