-- ==== Sys2Proof/Machine/HostOps.lean ====
section
/-! DEFINITION. The host and management ports (20_host_ports.md), but for the accesses that come in through them: the PCIe
endpoint, Ethernet and JTAG. -/
namespace Sys2Proof.Machine

/-! ### PCIe (R650 to R654, R701) -/

/-- PCIe identifiers as the endpoint presents them: vendor, subsystem vendor, subsystem, device (R650). -/
def State.pcieIds (s : State) : Nat × Nat × Nat × Nat :=
  match s.host.ids with
  | some i => i
  | none => (Config.vendorId.toNat, Config.vendorId.toNat, 0, 0x0192)

/-- A link comes up: the endpoint must be out of reset and training enabled (R650, R701). -/
def State.pcieMayUp (s : State) : Bool := s.host.linkEnabled && !s.host.perst && s.fld .hstPcieStat fHstPcieStat_SPEED == 0

/-- The link is up at a speed and a width. -/
def State.pcieUp (s : State) (speed width : Nat) : State :=
  (s.setFld .hstPcieStat fHstPcieStat_SPEED speed).setFld .hstPcieStat fHstPcieStat_WIDTH width

/-- True when the endpoint takes requests. -/
def State.pcieLive (s : State) : Bool := !s.host.perst && s.fld .hstPcieStat fHstPcieStat_SPEED != 0

/-- The effects of R653: requests of the host are discarded, the endpoint and the DMA channels are reset. A loss of bus
mastering leaves the link up (DESIGN CHOICE, log entries 70 and 100). -/
def State.pcieReset (s : State) (linkStays : Bool) : State :=
  let s := s.each [2, 3, 7] (fun u s => s.arbWithdraw u (fun q => q.agent == 9))
  let s := { s with outst := s.outst.filter (fun p => p.1 != 9) }
  let s := s.dmaReset
  let s := (s.incSat .hstPcieStat fHstPcieStat_RESETS).setFlag .hstPcieStat fHstPcieStat_BME false
  if linkStays then s
  else
    let s := (s.setFld .hstPcieStat fHstPcieStat_SPEED 0).setFld .hstPcieStat fHstPcieStat_WIDTH 0
    { s with host := { s.host with msixMasked := [], msixPending := [] } }

/-- PERST_N changes: low holds the endpoint in reset, and its rise starts the 1 ms of R701. -/
def State.perstPin (s : State) (level : Bool) : State :=
  if level then
    if s.host.perst && s.host.perstUp.isNone then { s with host := { s.host with perstUp := some s.now } } else s
  else
    let s := if s.host.perst then s else s.pcieReset false
    { s with host := { s.host with perst := true, perstUp := none } }

/-- 1 ms has passed since PERST_N rose (R701). -/
def State.perstEnds (s : State) : Bool :=
  match s.host.perstUp with
  | some t => s.host.perst && decide (t + 1000 * usTicks ≤ s.now)
  | none => false

/-- The endpoint and the DMA channels leave reset (R701). -/
def State.perstEnd (s : State) : State := { s with host := { s.host with perst := false, perstUp := none } }

/-- The host masks an MSI-X vector (R654) (DESIGN CHOICE, log entry 70). -/
def State.msixMask (s : State) (v : Nat) : State :=
  if s.host.msixMasked.contains v then s else { s with host := { s.host with msixMasked := v :: s.host.msixMasked } }

/-- The host unmasks an MSI-X vector: one message goes out when its pending bit is set (R654)
(DESIGN CHOICE, log entry 70). -/
def State.msixUnmask (s : State) (v : Nat) : State :=
  let p := s.host.msixPending.contains v
  let s := { s with host := { s.host with msixMasked := s.host.msixMasked.filter (fun x => x != v)
                                          msixPending := s.host.msixPending.filter (fun x => x != v) } }
  if p then s.sendVector v else s

/-! ### Ethernet (R663 to R666, R511) -/

/-- What is held for Ethernet port p. -/
def State.ethH (s : State) (p : Nat) : EthPort := tabGet {} s.host.eth p

/-- Replace what is held for Ethernet port p. -/
def State.setEthH (s : State) (p : Nat) (h : EthPort) : State :=
  { s with host := { s.host with eth := tabSet {} p h s.host.eth } }

/-- A big-endian number in a frame. -/
def frBe (f : List Byte) (i n : Nat) : Nat := beNat ((f.drop i).take n)

/-- The addresses every port keeps (R664). -/
def ethGroups : List Nat := [0xFFFFFFFFFFFF, 0x011B19000000, 0x0180C200000E, 0x01005E000181, 0x01005E00006B]

/-- A frame behind a VLAN tag. -/
def ethTagged (f : List Byte) : Bool := frBe f 12 2 == 0x8100

/-- Where the EtherType stands: past the tag when there is one. -/
def ethTypeAt (f : List Byte) : Nat := if ethTagged f then 16 else 12

/-- Where a PTP message starts in a frame: EtherType 0x88F7, or UDP port 319 or 320 over IPv4 or IPv6 (R665). -/
def ptpAt (f : List Byte) : Option Nat :=
  let t := ethTypeAt f
  let e := frBe f t 2
  let udp := fun (u : Nat) => if frBe f (u + 2) 2 == 319 || frBe f (u + 2) 2 == 320 then some (u + 8) else none
  if e = 0x88F7 then some (t + 2)
  else if e = 0x0800 && byteAt f (t + 11) == 17 then udp (t + 2 + 4 * (byteAt f (t + 2) % 16))
  else if e = 0x86DD && byteAt f (t + 8) == 17 then udp (t + 42)
  else none

/-- A stamp of R511: a T48 time on the 8 ns raster. -/
def ethStamp (t : Word48) : Word48 := BitVec.ofNat 48 (t.toNat / 4 * 4)

/-- An entry of the receive ring (R665): the descriptor, and the frame without its FCS padded to 8 bytes. -/
def ethEntry (p : Nat) (stamp : Word48) (f : List Byte) : List Byte :=
  let n := f.length
  let flags := b2n (ptpAt f).isSome + 2 * b2n (ethTagged f)
  leBytes 6 stamp.toNat ++ toBytes [p, flags] ++ leBytes 2 n ++ List.replicate 6 0#8 ++
    (f ++ List.replicate ((8 - n % 8) % 8) 0#8)

/-- A frame that R664 keeps goes into the ring of its port, or is dropped when it does not fit before RD (R665). -/
def State.ethStore (s : State) (p : Nat) (stamp : Word48) (f : List Byte) : State :=
  let n := 1024 * 2 ^ s.fld (.ethRxRing p) fEthRxRing_LEN
  let wr := s.fld (.ethRxPtr p) fEthRxPtr_WR
  let used := (wr + n - s.fld (.ethRxPtr p) fEthRxPtr_RD % n) % n
  let b := ethEntry p stamp f
  if used + b.length < n then
    let s := s.ringPut (sharedBase + 4096 * s.fld (.ethRxRing p) fEthRxRing_BASE) n wr b
    (s.setFld (.ethRxPtr p) fEthRxPtr_WR ((wr + b.length) % n)).raiseIf (s.flag (.ethRxRing p) fEthRxRing_EV_RX) 347
  else s.incSat (.ethStat p) fEthStat_RX_DROP

/-- A frame is received on Ethernet port p: its bytes with the FCS, and the ticks since its timestamp point (R664, R665,
R511) (DESIGN CHOICE, log entry 70). -/
def State.ethReceived (s : State) (p ago : Nat) (bytes : List Byte) : State :=
  let n := bytes.length
  let f := bytes.take (n - 4)
  if leNat (bytes.drop (n - 4)) != fcs32 f then s.incSat (.ethStat p) fEthStat_FCS_ERR
  else if n < 64 || 1522 < n then s.incSat (.ethStat p) fEthStat_LEN_ERR
  else
    let d := frBe f 0 6
    if d != s.regN (.ethMac p) && !ethGroups.contains d then s.incSat (.ethStat p) fEthStat_FILTERED
    else s.ethStore p (ethStamp (s.t48 - BitVec.ofNat 48 (ago + (s.ethH p).ingress))) f

/-- What a write of TX_POST is refused with (R666). -/
def State.ethPostRefuse (s : State) (ag p : Nat) (v : Word48) : List Nat :=
  let len := wordFld v fEthTxPost_LEN
  refuseIf (!(decide (1 ≤ ag) && decide (ag ≤ 8)) || decide (len < 60) || decide (1514 < len)) cACCESS ++
  refuseIf (decide (16 ≤ (s.ethH p).posts.length)) cBUSY

/-- A frame is posted; while the link is down it is dropped at once (R666). -/
def State.ethPost (s : State) (p : Nat) (v : Word48) : State :=
  if s.flag (.ethStat p) fEthStat_LINK then
    let h := s.ethH p
    s.setEthH p { h with posts := h.posts ++ [⟨wordFld v fEthTxPost_OFFSET, wordFld v fEthTxPost_LEN,
      wordFld v fEthTxPost_TS_REQ == 1⟩] }
  else s.incSat (.ethStat p) fEthStat_TX_DROP

/-- True when port p has a frame to send. -/
def State.ethMaySend (s : State) (p : Nat) : Bool := s.flag (.ethStat p) fEthStat_LINK && !(s.ethH p).posts.isEmpty

/-- The identifier of a transmit stamp (R522); of a frame without a PTP message it is a free value
(DESIGN CHOICE, log entry 70). -/
def State.ethStampId (s : State) (p : Nat) (f : List Byte) : Nat × State :=
  match ptpAt f with
  | some i =>
    (frBe f (i + 30) 2 + byteAt f i % 16 * 2 ^ 16 + p * 2 ^ 20 + byteAt f (i + 4) * 2 ^ 21, s)
  | none =>
    let r := s.takeFree 29
    (putBits r.1 20 1 p, r.2)

/-- The frame posted first leaves port p with its FCS (R666), stamped on request (R511, R523); ago is the ticks since its
timestamp point. -/
def State.ethSent (s : State) (p ago : Nat) : State :=
  let h := s.ethH p
  match h.posts with
  | [] => s
  | q :: t =>
    let f := (List.range q.len).map (fun i => s.byte (sharedBase + (q.offset + i) % 0x80000))
    let s := s.setEthH p { h with posts := t, sent := f ++ leBytes 4 (fcs32 f) }
    if q.stamp then
      let r := s.ethStampId p f
      r.2.tsqPush ⟨r.1, ethStamp (r.2.t48 - BitVec.ofNat 48 ago + BitVec.ofNat 48 (h.egress))⟩
    else s

/-- An Ethernet link comes up or goes down (R663). Posts waiting stay for the next link. -/
def State.ethLink (s : State) (p : Nat) (up : Bool) : State := s.setFlag (.ethStat p) fEthStat_LINK up

/-- STAT.CLR (R664). -/
def State.ethCntClr (s : State) (p : Nat) : State :=
  [fEthStat_FCS_ERR, fEthStat_LEN_ERR, fEthStat_FILTERED, fEthStat_RX_DROP, fEthStat_TX_DROP].foldl
    (fun s f => s.setFld (.ethStat p) f 0) s

/-! ### JTAG (R667 to R670, R695) -/

/-- True in RECOVERY or HALTED. -/
def State.bootStopped (s : State) : Bool :=
  s.fld .sysBootStat fSysBootStat_STAGE == 9 || s.fld .sysBootStat fSysBootStat_STAGE == 10

/-- The TAP takes an instruction that leaves the pins to the units (R667). -/
def State.tapTake (s : State) (op : Nat) : State := { s with host := { s.host with tapInstr := op, pinMode := 0 } }

/-- The TAP takes an instruction that acts on the pins, or selects the bypass register in its place (R668). -/
def State.tapPins (s : State) (op mode : Nat) : State :=
  if s.bootStopped then { s with host := { s.host with tapInstr := op, pinMode := mode } }
  else (s.tapTake 0x3F).setFlag .hstJtagStat fHstJtagStat_REFUSED true

/-- SAMPLE/PRELOAD with the pattern shifted in (R667). -/
def State.tapPreload (s : State) (pat : Nat) : State :=
  let s := s.tapTake 0x02
  { s with host := { s.host with boundary := pat } }

/-- The TAP is reset: IDCODE is selected (R667, R695). -/
def State.tapReset (s : State) : State := s.tapTake 0x01

/-- FUSE_PROG with a key hash and what the fuses read back (R670). -/
def State.fuseProg (s : State) (hash back : Nat) : State :=
  let s := s.tapTake 0x18
  if s.flag .sysBootStat fSysBootStat_KEY_FUSED || s.fld .sysBootStat fSysBootStat_STAGE != 9 then
    s.setFld .hstJtagStat fHstJtagStat_FUSE_RES 2
  else if back = hash then
    let s := { s with host := { s.host with keyHash := hash } }
    (s.setFlag .sysBootStat fSysBootStat_KEY_FUSED (hash != 0)).setFld .hstJtagStat fHstJtagStat_FUSE_RES 1
  else
    let s := { s with host := { s.host with keyHash := back, keyBad := true } }
    (s.setFlag .sysBootStat fSysBootStat_KEY_FUSED true).setFld .hstJtagStat fHstJtagStat_FUSE_RES 3

end Sys2Proof.Machine
end

