-- ==== Sys2Proof/Machine/Ecdsa.lean ====
section
/-! DEFINITION. ECDSA over P-256 (R92, R93), which the spec names without giving it: the curve and the verification are those of
FIPS 186-4 (PRESUMED, log entry 71). -/
namespace Sys2Proof.Machine

/-- The field prime. -/
def p256P : Nat := 0xFFFFFFFF00000001000000000000000000000000FFFFFFFFFFFFFFFFFFFFFFFF
/-- The order of the base point. -/
def p256N : Nat := 0xFFFFFFFF00000000FFFFFFFFFFFFFFFFBCE6FAADA7179E84F3B9CAC2FC632551
/-- The curve's constant term; its linear coefficient is −3. -/
def p256B : Nat := 0x5AC635D8AA3A93E7B3EBBD55769886BC651D06B0CC53B0F63BCE3C3E27D2604B
/-- The base point. -/
def p256G : Nat × Nat :=
  (0x6B17D1F2E12C4247F8BCE6E563A440F277037D812DEB33A0F4A13945D898C296,
   0x4FE342E2FE1A7F9B8EE7EB4A7C0F9E162BCE33576B315ECECBB6406837BF51F5)

/-- The 256 bits of a number, most significant first. -/
def bits256 (x : Nat) : List Bool := (List.range 256).reverse.map (bitOf x)

/-- b to the power e modulo m. -/
def powMod (m b e : Nat) : Nat :=
  (bits256 e).foldl (fun a bit => let q := a * a % m; if bit then q * b % m else q) 1

/-- The inverse modulo a prime. -/
def invMod (m x : Nat) : Nat := powMod m (x % m) (m - 2)

/-- Difference in the field. -/
def fSub (a b : Nat) : Nat := (a + p256P - b % p256P) % p256P

/-- A chord or tangent of slope l through two points. -/
def ecChord (l : Nat) (a b : Nat × Nat) : Nat × Nat :=
  let x := fSub (fSub (l * l) a.1) b.1
  (x, fSub (l * fSub a.1 x) a.2)

/-- Sum of two points; none is the neutral element. -/
def ecAdd : Option (Nat × Nat) → Option (Nat × Nat) → Option (Nat × Nat)
  | none, b => b
  | a, none => a
  | some a, some b =>
    if a.1 = b.1 then
      if (a.2 + b.2) % p256P = 0 then none
      else some (ecChord (fSub (3 * a.1 * a.1) 3 * invMod p256P (2 * a.2) % p256P) a b)
    else some (ecChord (fSub b.2 a.2 * invMod p256P (fSub b.1 a.1) % p256P) a b)

/-- k times a point. -/
def ecMul (k : Nat) (a : Nat × Nat) : Option (Nat × Nat) :=
  (bits256 k).foldl (fun r bit => let d := ecAdd r r; if bit then ecAdd d (some a) else d) none

/-- A point of the curve. -/
def ecOn (a : Nat × Nat) : Bool :=
  decide (a.1 < p256P) && decide (a.2 < p256P) && a.2 * a.2 % p256P == (fSub (a.1 * a.1 * a.1) (3 * a.1) + p256B) % p256P

/-- A signature (r, s) over a digest verifies under a public key. -/
def ecdsaOk (digest r s : Nat) (q : Nat × Nat) : Bool :=
  decide (1 ≤ r ∧ r < p256N) && decide (1 ≤ s ∧ s < p256N) && ecOn q &&
    (let w := invMod p256N s
     match ecAdd (ecMul (digest * w % p256N) p256G) (ecMul (r * w % p256N) q) with
     | none => false
     | some x => x.1 % p256N == r)

end Sys2Proof.Machine
end

