-- ==== Sys2Proof/Machine/PowerOps.lean ====
section
/-! DEFINITION. Clocks, rails, the sequencer, resets, the PMBus master and the temperature sensor
(02_clocks_power_weirs.md, R51 to R71; R683). -/
namespace Sys2Proof.Machine

/-! ### Chip reset (R67, R68) -/

/-- Bits of SYS.RST_CAUSE. -/
def rstPOR : Nat := 0
def rstPIN : Nat := 1
def rstSOFT : Nat := 2
def rstCLOCK : Nat := 3
def rstRAIL : Nat := 4
def rstSEQ : Nat := 5

/-- What a chip reset keeps of an encoder channel: the levels of its input pins. -/
def encPins (h : EncH) : EncH := { a := h.a, b := h.b }

/-- The host side after a chip reset: the TAP, the fuses and PERST_N are not reset with the chip (R71, R93, R701). -/
def hostKept (h : HostH) : HostH :=
  { perst := h.perst, perstUp := h.perstUp, tapInstr := h.tapInstr, boundary := h.boundary, pinMode := h.pinMode,
    dbgData := h.dbgData, dbgCode := h.dbgCode, keyHash := h.keyHash, keyBad := h.keyBad }

/-- The contents of pages become open: n pages from the page of a (PRESUMED, log entry 73). -/
def FlashH.lose (h : FlashH) (a n seed : Nat) : FlashH :=
  { h with open_ := (List.range n).foldl (fun o i => tabPut (a / 256 + i) (seed + 256 * i + 1) o) h.open_ }

/-- A program or an erase that a reset interrupts: the contents of its pages are open, and after a loss of power the slot fails
verification until they are written again (R118) (DESIGN CHOICE, log entry 73). -/
def State.flashCut (s : State) (power : Bool) : State :=
  match s.boot.flashOp with
  | none => s
  | some (op, k, a) =>
    if op < 2 then s
    else
      let n := if op = 3 then 256 else 1
      let h := (tabGet {} s.flash k).lose a n s.free
      let h := { h with torn := if power then (List.range n).foldl (fun o i => tabPut (a / 256 + i) s.free o) h.torn else h.torn }
      { s with free := s.free + 256 * n, flash := tabSet {} k h s.flash }

/-- A chip reset (R68): every unit at its reset state, every weir CLOSED, every zone in lockout. RST_CAUSE, PWR_STAT,
JET_RETIRED and the sequencer survive one other than power-on; memories keep their contents unless the cause is a
power-on or a rail fault (DEDUCED, log entry 72). -/
def State.chipReset (s : State) (cause : Nat) : State :=
  let por := cause == rstPOR
  let s := s.flashCut (por || cause == rstRAIL)
  let t : State :=
    { State.reset with
      pending := s.pending
      now := s.now
      free := s.free
      mem := if por || cause == rstRAIL then [] else s.mem
      ecc := if por || cause == rstRAIL then [] else s.ecc
      flash := s.flash
      pins := s.pins
      encs := s.encs.map (fun p => (p.1, encPins p.2)) |>.filter (fun p => p.2 != {})
      time := { gpio := 0 }
      oas := { kept := s.oas.kept, clkBad := cause == rstCLOCK, last := s.now }
      host := hostKept s.host
      power := { aonSince := s.power.aonSince, since := s.power.since, downTo := s.power.downTo,
                 railRestart := if por then none else s.power.railRestart, rstLow := s.power.rstLow } }
  let t := if por then t
    else ((t.setReg .sysPwrStat (BitVec.ofNat 48 (putBits (s.regN .sysPwrStat) 16 7 0))).setReg .sysJetRetired
      (s.reg .sysJetRetired))
  let n := if por then 0 else satU 8 (s.fld .sysRstCause fSysRstCause_COUNT + 1)
  t.setRegN .sysRstCause (2 ^ cause + 256 * n)

/-! ### Clocks (R55 to R57) -/

/-- The root PLL may lock: the chip is out of reset and in the first stage of R101. -/
def State.pllMayLock (s : State) : Bool :=
  !s.power.inReset && !s.flag .sysClkStat fSysClkStat_LOCK && s.fld .sysBootStat fSysBootStat_STAGE == 1

/-- Register slots of the always-on domain, of the boot and of Oasis. -/
def aonReg (a : Nat) : Bool := decide (a < 0x508) || decide (0x130000 ≤ a ∧ a < 0x140000)

/-- Every unit but the always-on domain and Oasis is at its reset state, whatever came to it until now (R55). -/
def State.unitsReset (s : State) : State :=
  { State.reset with
    pending := s.pending, now := s.now, free := s.free, mem := s.mem, ecc := s.ecc, flash := s.flash, boot := s.boot, pins := s.pins
    power := s.power, host := s.host, oas := s.oas, zones := s.zones, sis := s.sis, sos := s.sos, conns := s.conns
    regs := s.regs.filter (fun p => aonReg p.1)
    encs := s.encs.map (fun p => (p.1, encPins p.2)) |>.filter (fun p => p.2 != {}) }

/-- The root PLL locks (R55): the units leave reset, T48 starts from 0 (R503), and the header reads begin. -/
def State.pllLock (s : State) : State :=
  let s := s.unitsReset
  let s := (s.setFlag .sysClkStat fSysClkStat_LOCK true).setFlag .sysClkStat fSysClkStat_REF_OK true
  let s := s.setFld .sysClkStat fSysClkStat_LOCK_US (satU 16 ((s.now - s.power.pllFrom) / usTicks))
  { s.setFld .sysBootStat fSysBootStat_STAGE 2 with t48 := 0, t48Runs := true, time := { s.time with from_ := s.now } }

/-- A loss of lock or a clock fault (R57): the outputs are forced off, the transmitters go idle and a clock-fault chip reset
follows. -/
def State.clockFault (s : State) : State := s.chipReset rstCLOCK

/-- True for a count of an Oasis window that is no clock fault (R56). -/
def rcInWindow (n : Nat) : Bool := decide (22800 ≤ n ∧ n ≤ 28900)

/-- An Oasis RC window ends with a count (R56, R57). -/
def State.clockWindow (s : State) (n : Nat) : State :=
  let s := (s.setFld .sysClkStat fSysClkStat_RC_COUNT (satU 16 n)).setFlag .sysClkStat fSysClkStat_RC_OK (rcInWindow n)
  if rcInWindow n then { s with oas := { s.oas with clkBad := false } } else s.clockFault

/-! ### The sequencer (R59 to R63) -/

def seqOFF : Nat := 0
def seqSEQUENCING : Nat := 1
def seqUP : Nat := 2
def seqDOWN : Nat := 3
def seqWAIT : Nat := 4
def seqSTOP : Nat := 5

/-- SEQ_STATE. -/
def State.seq (s : State) : Nat := s.fld .sysPwrStat fSysPwrStat_SEQ_STATE
/-- The sequencer takes a state. -/
def State.setSeq (s : State) (st : Nat) : State :=
  { s.setFld .sysPwrStat fSysPwrStat_SEQ_STATE st with power := { s.power with since := s.now } }

/-- Number of enables asserted. -/
def State.enables (s : State) : Nat :=
  ((List.range 5).filter (fun i => bitOf (s.fld .sysPwrStat fSysPwrStat_EN) i)).length

/-- Enables 0 to n − 1 are asserted. -/
def State.setEnables (s : State) (n : Nat) : State := s.setFld .sysPwrStat fSysPwrStat_EN (2 ^ n - 1)

/-- A power-on reset (R59). -/
def State.powerOn (s : State) : State :=
  let s := s.chipReset rstPOR
  { (s.tapTake 0x01) with power := { aonSince := s.now } }

/-- Both always-on rails have been in their windows for a number of ticks, 1 ms at least, since the last power-on reset (R59). -/
def State.seqMayStart (s : State) (inside : Nat) : Bool :=
  s.seq == seqOFF && decide (msTicks ≤ inside ∧ s.power.aonSince + inside ≤ s.now)

/-- The sequencer starts: PWR_EN0 is asserted (DEDUCED, log entry 72). -/
def State.seqStart (s : State) : State :=
  (s.setFld .sysPwrStat fSysPwrStat_FAULT_STEP 0 |>.setEnables 1).setSeq seqSEQUENCING

/-- The step may follow: the last step's PG and monitor have been good for a number of ticks (R60). The last step needs no
wait, since no enable follows it. -/
def State.seqMayStep (s : State) (good : Nat) : Bool :=
  s.seq == seqSEQUENCING && (decide (500 * usTicks ≤ good) || s.enables == 5)

/-- The next enable is asserted, or the rails are up (R60); the PG inputs of the steps taken are high (DEDUCED, log entry 72). -/
def State.seqStep (s : State) : State :=
  let n := s.enables
  let s := s.setFld .sysPwrStat fSysPwrStat_PG (Nat.lor (s.fld .sysPwrStat fSysPwrStat_PG) (2 ^ n - 1))
  if n < 5 then (s.setEnables (n + 1)).setSeq seqSEQUENCING else s.setSeq seqUP

/-- A power-down begins: the last enable goes (R61, R63) (DEDUCED, log entry 72). -/
def State.powerDown (s : State) (dest : Nat) : State :=
  let n := s.enables
  let s := s.setEnables (n - 1)
  let s := { s with power := { s.power with downTo := dest } }
  s.setSeq (if n ≤ 1 then dest else seqDOWN)

/-- A PG has not risen within 10 ms of its enable (R61). -/
def State.pgTimesOut (s : State) : Bool :=
  s.seq == seqSEQUENCING && decide (s.power.since + 10 * msTicks ≤ s.now) &&
    !bitOf (s.fld .sysPwrStat fSysPwrStat_PG) (s.enables - 1)

/-- The reverse power-down towards FAULT_STOP, with the sequencing-fault chip reset (R61, R67). -/
def State.pgTimeout (s : State) : State :=
  let s := s.setFld .sysPwrStat fSysPwrStat_FAULT_STEP s.enables
  (s.chipReset rstSEQ).powerDown seqSTOP

/-- The next enable goes 1 ms after the one before (R61). -/
def State.downDue (s : State) : Bool := s.seq == seqDOWN && decide (s.power.since + msTicks ≤ s.now)

/-- One step of a power-down. -/
def State.downStep (s : State) : State := s.powerDown s.power.downTo

/-- Nominal millivolts of rail k (R58). -/
def railNom : Nat → Nat
  | 0 => 750 | 1 => 3300 | 2 => 750 | 3 => 850 | 4 => 1800 | 5 => 1800 | _ => 3300

/-- A measurement of rail k (R62), with the levels of PG0 to PG4 as it is taken: PWR_STAT.PG shows them as they were last
reported (DESIGN CHOICE, log entry 72). -/
def State.railMeasure (s : State) (k mv pg : Nat) : State :=
  let s := (s.setFld (.sysRailV k) fSysRailV_MV (satU 16 mv)).setFld .sysPwrStat fSysPwrStat_PG pg
  let nom := railNom k
  if nom * 104 < mv * 100 || mv * 100 < nom * 96 then
    (s.setFld .sysPwrStat fSysPwrStat_WARN (Nat.lor (s.fld .sysPwrStat fSysPwrStat_WARN) (2 ^ k))).raise 339
  else s

/-- A rail whose fault acts: an always-on rail, or a stepped rail whose step has been taken. From when a stepped rail's
comparator counts is open in R62 and R63: the model ignores it until the step has been taken, during a power-down and in
FAULT_WAIT and FAULT_STOP (DESIGN CHOICE, log entry 72). -/
def State.railLive (s : State) (k : Nat) : Bool :=
  decide (k < 2) || (decide (k < 7) && (s.seq == seqUP || (s.seq == seqSEQUENCING && decide (k < s.enables + 1))))

/-- A rail fault (R63): of an always-on rail it is a power-on reset (DEDUCED, log entry 72). -/
def State.railFault (s : State) (k : Nat) : State :=
  if k < 2 then s.powerOn
  else
    let again := match s.power.railRestart with
      | some t => decide (s.now < t + 10000 * msTicks)
      | none => false
    let s := s.setFld .sysPwrStat fSysPwrStat_FAULT (2 ^ k)
    (s.chipReset rstRAIL).powerDown (if again then seqSTOP else seqWAIT)

/-- The pause of a rail fault is over (R63). -/
def State.waitEnds (s : State) : Bool := s.seq == seqWAIT && decide (s.power.since + 100 * msTicks ≤ s.now)

/-- The stepped rails are sequenced up once more. -/
def State.waitEnd (s : State) : State :=
  let s := s.seqStart
  { s with power := { s.power with railRestart := some s.now } }

/-! ### RESET_N and software resets (R69, R70) -/

/-- The level of RESET_N, low while a pulse lasts. -/
def State.setRstLow (s : State) (low : Bool) : State := { s with power := { s.power with rstLow := low } }

/-- A low pulse on RESET_N, by the ticks it has been low (R69): below 100 ns ignored, from 1 µs on a reset; between, a free
value decides. It also leads out of FAULT_STOP (R61). With `still` the pin stays low, and the chip stays in reset until the
end of the pulse is reported; that report resets nothing again (DEDUCED, log entry 72). -/
def State.resetPin (s : State) (low : Nat) (still : Bool) : State :=
  let act := fun (s : State) =>
    let t := (s.chipReset rstPIN).setRstLow still
    if t.seq = seqSTOP then t.setSeq seqOFF else t
  if s.power.rstLow then s.setRstLow still
  else if low < 50 then s
  else if usTicks ≤ low then act s
  else
    let r := s.takeFree 1
    if r.1 = 1 then act r.2 else r.2

/-- Reset may be released: the rails are up and RESET_N is high (R69). -/
def State.mayRelease (s : State) : Bool := s.power.inReset && s.seq == seqUP && !s.power.rstLow

/-- Reset is released and start-up begins (R86, R101). -/
def State.release (s : State) : State :=
  let s := { s with power := { s.power with inReset := false, hbForcedOff := false, pllFrom := s.now }
                    boot := { from_ := s.now } }
  let s := s.setFlag .sysBootStat fSysBootStat_KEY_FUSED (s.host.keyHash != 0 || s.host.keyBad)
  s.setFld .sysBootStat fSysBootStat_STAGE 1

/-- What a write of SYS.RST_CTL is refused with (R70). -/
def rstRefuse (ag : Nat) (v : Word48) : List Nat :=
  refuseIf (!(decide (1 ≤ ag ∧ ag ≤ 10) || ag == 16) || wordFld v fSysRstCtl_KEY != 0xC1EA || wordFld v fSysRstCtl_CHIP != 1)
    cACCESS

/-- A software chip reset follows in 1 µs (R70). -/
def State.rstRequest (s : State) : State :=
  { s with power := { s.power with softReset := some (s.power.softReset.getD (s.now + usTicks)) } }

/-- The requested reset is due. -/
def State.softDue (s : State) : Bool :=
  match s.power.softReset with
  | some t => decide (t ≤ s.now)
  | none => false

/-! ### Pin states (R71) -/

/-- The groups of pins that R71 names. -/
inductive PinGroup where
  | transmitters | receivers | powerStage | safeOutputs | clockedOutputs | openDrain | flashSelects | powerEnables
  | flashClock | flashData | tdo | spiIrq | inputs
  deriving DecidableEq, Repr

/-- What a pin does: its unit drives it, the boundary register drives it (R668), or it is held as R71 says. -/
inductive PinForm where
  | driven | boundary | idle | disconnected | highZ | highZNoPull | released | low | level
  deriving DecidableEq, Repr

/-- The rail that serves a group of pins (R58): 1 VDDIO_AON, 3 VDD_SDS, 4 VDDA_SDS, 5 VDDIO_A, 6 VDDIO_B, 7 a rail of Oasis. -/
def PinGroup.rail : PinGroup → Nat
  | .transmitters => 4
  | .receivers => 3
  | .powerStage | .clockedOutputs => 6
  | .safeOutputs => 7
  | .openDrain | .powerEnables => 1
  | .flashSelects | .flashClock | .flashData | .tdo | .spiIrq | .inputs => 5

/-- The state of R71 of a group of pins in reset or without its rail. -/
def PinGroup.held : PinGroup → PinForm
  | .transmitters => .idle
  | .receivers => .disconnected
  | .powerStage | .safeOutputs | .clockedOutputs | .flashClock => .highZ
  | .openDrain | .spiIrq => .released
  | .flashSelects | .flashData | .tdo | .inputs => .highZNoPull
  | .powerEnables => .low

/-- The rail is up: a board rail always, a stepped one from its enable on. -/
def State.railUp (s : State) (k : Nat) : Bool := decide (k < 2) || decide (7 ≤ k) || decide (k < s.enables + 2)

/-- What the TAP makes of the pins of a group: 0 it leaves them to their units, 1 it drives the boundary pattern, 2 it releases
them. Its instructions act in RECOVERY and HALTED only, and HB, SO and PWR_EN pins are observe-only (R668). -/
def State.tapMode (s : State) (g : PinGroup) : Nat :=
  if s.bootStopped && !([.powerStage, .safeOutputs, .powerEnables, .tdo, .inputs] : List PinGroup).contains g then s.host.pinMode else 0

/-- What a group of pins does: held as R71 says in a chip reset or without its rail, except that PWR_EN0 to PWR_EN4 keep their
level in a reset and that the TAP drives TDO by itself; else as the TAP or its unit has it. -/
def State.pinForm (s : State) (g : PinGroup) : PinForm :=
  if g = .powerEnables then .level
  else if !s.railUp g.rail || (s.power.inReset && g != .tdo) then g.held
  else match s.tapMode g with
    | 1 => .boundary
    | 2 => .highZ
    | _ => .driven

/-! ### PMBus (R65, R66) -/

/-- A poll is due: once per configured period. -/
def State.pollDue (s : State) : Bool :=
  match s.power.pmb with
  | some (_, _, ms) => decide (s.power.pmbAt + ms * msTicks ≤ s.now)
  | none => false

/-- The PMBus command codes of the four polls: READ_VOUT, READ_IOUT, READ_TEMPERATURE_1, STATUS_WORD (R65). -/
def pmbCodes : List Nat := [0x8B, 0x8C, 0x8D, 0x79]

/-- The bytes of the poll of command c of the regulator at an address, with the reply's two bytes: the address with its write
bit, the code, the address with its read bit, the reply, least significant byte first (PRESUMED, log entry 104). -/
def pmbBytes (a c data : Nat) : List Byte :=
  toBytes [2 * a % 256, pmbCodes.getD c 0, (2 * a + 1) % 256, data % 256, data / 256 % 256]

/-- The packet error code of a poll: the CRC-8 of polynomial x^8 + x^2 + x + 1 over its bytes (PRESUMED, log entry 104). -/
def pmbPec (a c data : Nat) : Nat := crcMsb 8 0x07 0 ((pmbBytes a c data).flatMap byteBitsMsb)

/-- The address of regulator n from the image's clock section. -/
def State.pmbAddr (s : State) (n : Nat) : Nat :=
  match s.power.pmb with
  | some (_, l, _) => l.getD n 0
  | none => 0

/-- The master polls each regulator with the four commands. -/
def State.poll (s : State) : State :=
  match s.power.pmb with
  | some (_, l, _) =>
    { s with power := { s.power with
        pmbAt := s.now
        pmbOut := (List.range (min 8 l.length)).flatMap (fun n => (List.range 4).map (fun c => (n, c))) } }
  | none => s

/-- A reply to command c of device n comes with its packet error code, or is not acknowledged (R65, R66). -/
def State.pollReply (s : State) (n c data pec : Nat) (ack : Bool) : State :=
  let ok := ack && pec == pmbPec (s.pmbAddr n) c data
  let s := { s with power := { s.power with pmbOut := s.power.pmbOut.erase (n, c) } }
  if ok then
    ((s.setFld (.sysPmbVal n c) fSysPmbVal_DATA data).setFlag (.sysPmbVal n c) fSysPmbVal_VALID true).setFlag
      (.sysPmbVal n c) fSysPmbVal_ERR false
  else s.setFlag (.sysPmbVal n c) fSysPmbVal_ERR true

/-! ### Temperature (R683) -/

/-- A reading in units of 0.125 °C. -/
def State.temperature (s : State) (tj : Int) : State :=
  let s := (s.setFld .sysTemp fSysTemp_TJ (uns 12 (satS 12 tj))).setFlag .sysTemp fSysTemp_VALID true
  if s.fldI .sysTemp fSysTemp_TJ_MAX < s.fldI .sysTemp fSysTemp_TJ then
    s.setFld .sysTemp fSysTemp_TJ_MAX (s.fld .sysTemp fSysTemp_TJ)
  else s

/-- CLR = 1. -/
def State.tjMaxClr (s : State) : State := s.setFld .sysTemp fSysTemp_TJ_MAX (s.fld .sysTemp fSysTemp_TJ)

end Sys2Proof.Machine
end

