-- ==== Sys2Proof/Machine/Sha.lean ====
section
/-! DEFINITION. SHA-256 (FIPS 180-4), which the chip uses for image digests, keys and the safety password. -/
namespace Sys2Proof.Machine

/-- A 32-bit word. -/
abbrev W32 := BitVec 32

/-- The k-th root of n rounded down, bit by bit from bit b - 1 down, on top of r. -/
def shaRoot (k n : Nat) : Nat → Nat → Nat
  | 0, r => r
  | b + 1, r => shaRoot k n b (if (r + 2 ^ b) ^ k ≤ n then r + 2 ^ b else r)

/-- The primes below 312: the first 64. -/
def shaPrimes : List Nat :=
  (List.range 312).filter (fun p => decide (2 ≤ p) && (List.range 16).all (fun d => decide (d + 2 ≥ p) || p % (d + 2) != 0))

/-- The first 32 bits after the point of the k-th root of a prime: k = 3 gives the round constants, k = 2 the initial hash
value (PRESUMED, log entry 71). -/
def rootFraction (k p : Nat) : W32 := BitVec.ofNat 32 (shaRoot k (p * 2 ^ (32 * k)) 36 0)

/-- The round constants. -/
def shaK : List W32 := shaPrimes.map (rootFraction 3)

/-- The initial hash value. -/
def shaH : List W32 := (shaPrimes.take 8).map (rootFraction 2)

/-- Word i of a list. -/
def wAt (l : List W32) (i : Nat) : W32 := l.getD i 0

/-- The message schedule, extended word by word: the list holds the last words first. -/
def shaExtend : Nat → List W32 → List W32
  | 0, l => l
  | n + 1, l =>
    let a := wAt l 14
    let b := wAt l 1
    let s0 := a.rotateRight 7 ^^^ a.rotateRight 18 ^^^ (a >>> 3)
    let s1 := b.rotateRight 17 ^^^ b.rotateRight 19 ^^^ (b >>> 10)
    shaExtend n ((wAt l 15 + s0 + wAt l 6 + s1) :: l)

/-- One round. -/
def shaRound (h : List W32) (k : W32 × W32) : List W32 :=
  let a := wAt h 0
  let e := wAt h 4
  let s1 := e.rotateRight 6 ^^^ e.rotateRight 11 ^^^ e.rotateRight 25
  let ch := (e &&& wAt h 5) ^^^ (~~~ e &&& wAt h 6)
  let t1 := wAt h 7 + s1 + ch + k.1 + k.2
  let s0 := a.rotateRight 2 ^^^ a.rotateRight 13 ^^^ a.rotateRight 22
  let mj := (a &&& wAt h 1) ^^^ (a &&& wAt h 2) ^^^ (wAt h 1 &&& wAt h 2)
  [t1 + (s0 + mj), a, wAt h 1, wAt h 2, wAt h 3 + t1, e, wAt h 5, wAt h 6]

/-- The words of a block of 64 bytes. -/
def shaWords (b : List Byte) : List W32 := (List.range 16).map (fun i => BitVec.ofNat 32 (beNat ((b.drop (4 * i)).take 4)))

/-- One block. -/
def shaBlock (h : List W32) (b : List Byte) : List W32 :=
  let w := (shaExtend 48 (shaWords b).reverse).reverse
  List.zipWith (fun x y => x + y) h ((shaK.zip w).foldl shaRound h)

/-- The blocks of a padded message, n of them. -/
def shaBlocks : Nat → List W32 → List Byte → List W32
  | 0, h, _ => h
  | n + 1, h, b => shaBlocks n (shaBlock h (b.take 64)) (b.drop 64)

/-- The message with its padding. -/
def shaPad (b : List Byte) : List Byte :=
  let z := (119 - b.length % 64) % 64
  b ++ [0x80#8] ++ List.replicate z 0#8 ++ beBytes 8 (8 * b.length)

/-- SHA-256: 32 bytes, most significant first (PRESUMED, log entry 71). -/
def sha256 (b : List Byte) : List Byte :=
  let p := shaPad b
  (shaBlocks (p.length / 64) shaH p).flatMap (fun w => beBytes 4 w.toNat)

end Sys2Proof.Machine
end

