-- ==== Sys2Proof/Machine/ImageOps.lean ====
section
/-! DEFINITION. Flash devices and images: bytes of a slot, the layout of an image, its checks, and writing a slot
(03_boot_image.md, R85 to R97, R117, R118). -/
namespace Sys2Proof.Machine

/-! ### Flash -/

/-- The flash device of a slot. -/
def State.flashH (s : State) (k : Nat) : FlashH := tabGet {} s.flash k
/-- Replace: the flash device of a slot. -/
def State.setFlashH (s : State) (k : Nat) (h : FlashH) : State := { s with flash := tabSet {} k h s.flash }

/-- A byte of a device: in a page whose contents are open it is a free value, the same at every read
(PRESUMED, log entry 73). -/
def FlashH.byte (h : FlashH) (a : Nat) : Byte :=
  match tabGet 0 h.open_ (a / 256) with
  | 0 => tabGet 0xFF#8 h.cells a
  | n + 1 => (Config.freeValue (n + a % 256)).setWidth 8

/-- n bytes of a device from an address. -/
def FlashH.bytes (h : FlashH) (a n : Nat) : List Byte := (List.range n).map (fun i => h.byte (a + i))

/-- A little-endian field of an image. -/
def FlashH.le (h : FlashH) (a n : Nat) : Nat := leNat (h.bytes a n)

/-- A page is written whole. -/
def FlashH.putPage (h : FlashH) (a : Nat) (l : List Byte) : FlashH :=
  { h with cells := (l.zipIdx).foldl (fun c x => tabSet 0xFF#8 (a + x.2) x.1 c) h.cells
           open_ := tabDel (a / 256) h.open_
           torn := tabDel (a / 256) h.torn }

/-- n bytes read as erased (PRESUMED, log entry 73). -/
def FlashH.erase (h : FlashH) (a n : Nat) : FlashH :=
  { h with cells := cellsOut h.cells a n
           open_ := h.open_.filter (fun p => !decide (a / 256 ≤ p.1 ∧ p.1 < (a + n) / 256))
           torn := h.torn.filter (fun p => !decide (a / 256 ≤ p.1 ∧ p.1 < (a + n) / 256)) }

/-! ### The image (R88 to R95) -/

def FlashH.length (h : FlashH) : Nat := h.le 8 4
def FlashH.gen (h : FlashH) : Nat := h.le 0xC 4
def FlashH.signed (h : FlashH) : Bool := h.le 0x13 1 % 2 == 1
def FlashH.sectCount (h : FlashH) : Nat := h.le 6 2
/-- XSPI_CFG (R88). -/
def FlashH.xspi (h : FlashH) : Xspi := ⟨h.le 0x20 1, h.le 0x21 4, h.le 0x25 1, h.le 0x26 1, h.le 0x27 1, h.le 0x28 1⟩

/-- A section: TYPE, FLAGS, OFFSET, SLEN, CRC (R89). -/
structure Section where
  type : Nat
  flags : Nat
  offset : Nat
  slen : Nat
  crc : Nat
  deriving DecidableEq, Repr

/-- Entry i of the section table. -/
def FlashH.sect (h : FlashH) (i : Nat) : Section :=
  let a := 0x40 + 16 * i
  ⟨h.le a 2, h.le (a + 2) 2, h.le (a + 4) 4, h.le (a + 8) 4, h.le (a + 12) 4⟩

/-- The used sections. -/
def FlashH.sects (h : FlashH) : List Section := (List.range (min 64 h.sectCount)).map h.sect

/-- Whether a slot is a candidate: 0, or the failure code (R96, R97). -/
def FlashH.header (h : FlashH) : Nat :=
  if !h.present then 1
  else if h.bytes 0 4 != [0x46#8, 0x4C#8, 0x4E#8, 0x54#8] then 2
  else if crc32c (h.bytes 0 0x3C) != h.le 0x3C 4 then 3
  else if h.le 4 2 != 1 || h.le 0x10 2 != 0x0192 || h.le 0x12 1 != 0xB0 then 4
  else 0

/-- Section types the M192 knows (R94). -/
def knownTypes : List Nat := [1, 2, 3, 4, 5, 6, 7, 8, 9, 0x10, 0x11, 0x12, 0x13, 0x14, 0x15, 0x16]
/-- Required types. -/
def requiredTypes : List Nat := [1, 2, 3, 4, 5]
/-- Types that take effect at restart. -/
def restartTypes : List Nat := [1, 2, 3, 4, 5, 6, 7, 8, 9]

/-- Two sections share a byte. -/
def sectOverlap (a b : Section) : Bool := decide (a.offset < b.offset + b.slen) && decide (b.offset < a.offset + a.slen)

/-- No two of a list of sections overlap. -/
def sectsApart : List Section → Bool
  | [] => true
  | a :: t => t.all (fun b => !sectOverlap a b) && sectsApart t

/-- The layout holds (R88 to R90, R94, R95). R97 names no check and no code for GEN 0, a DUMMY or FREQ out of range or bytes of the
header that are not zero as R88 has them: the model accepts them (DESIGN CHOICE, log entry 71). -/
def FlashH.layoutOk (h : FlashH) : Bool :=
  let l := h.sects
  let len := h.length
  let types := l.map (fun x => x.type)
  decide (1 ≤ h.sectCount ∧ h.sectCount ≤ 64) && len % 64 == 0 && decide (0x440 + 192 < len ∧ len ≤ 0x1000000) &&
  l.all (fun x => x.offset % 64 == 0 && decide (0x440 ≤ x.offset) && decide (1 ≤ x.slen) &&
    decide (x.offset + x.slen ≤ len - 192) && decide (x.flags < 2)) &&
  sectsApart l &&
  (h.bytes (0x40 + 16 * h.sectCount) (16 * (64 - h.sectCount))).all (fun b => b == 0#8) &&
  (h.bytes (len - 32) 32).all (fun b => b == 0#8) &&
  knownTypes.all (fun t => decide ((types.filter (fun x => x == t)).length ≤ 1)) &&
  requiredTypes.all (fun t => types.contains t) &&
  l.all (fun x => knownTypes.contains x.type || x.flags == 0)

/-- Every section CRC is right. -/
def FlashH.crcsOk (h : FlashH) : Bool := h.sects.all (fun x => crc32c (h.bytes x.offset x.slen) == x.crc)

/-- DIGEST as the trailer holds it (PRESUMED, log entry 71). -/
def FlashH.digest (h : FlashH) : Nat := beNat (h.bytes (h.length - 192) 32)

/-- DIGEST is the SHA-256 of the image up to the trailer (R92). -/
def FlashH.digestOk (h : FlashH) : Bool := h.bytes (h.length - 192) 32 == sha256 (h.bytes 0 (h.length - 192))

/-- The signature rule of R93; fuses whose read-back differed accept nothing (R670) (PRESUMED, log entry 71). -/
def FlashH.signatureOk (h : FlashH) (key : Nat) (bad : Bool) : Bool :=
  let a := h.length - 192
  if bad then false
  else if key = 0 then true
  else h.signed && beNat (sha256 (h.bytes (a + 96) 64)) == key &&
    ecdsaOk h.digest (beNat (h.bytes (a + 32) 32)) (beNat (h.bytes (a + 64) 32))
      (beNat (h.bytes (a + 96) 32), beNat (h.bytes (a + 128) 32))

/-- The failure code of a slot that a loss of power left half written, if it is one: which of the items 1 to 4 fails is a free
value (R118) (DESIGN CHOICE, log entry 73). -/
def FlashH.tornCode (h : FlashH) : Nat :=
  match h.torn with
  | [] => 0
  | p :: _ => 5 + (Config.freeValue p.2).toNat % 4

/-- Items 1 to 4 of R97: 0, or the failure code of the first that fails. -/
def FlashH.verify (h : FlashH) (key : Nat) (bad : Bool) : Nat :=
  if h.header != 0 then h.header
  else if h.tornCode != 0 then h.tornCode
  else if !h.layoutOk then 5
  else if !h.crcsOk then 6
  else if !h.digestOk then 7
  else if !h.signatureOk key bad then 8
  else 0

/-- The section of a type, as SLEN and CRC, or none. -/
def FlashH.sectOf (h : FlashH) (t : Nat) : Option (Nat × Nat) := (h.sects.find? (fun x => x.type == t)).map (fun x => (x.slen, x.crc))

/-- The restart-type sections of two images that differ (R109). -/
def sectsDiffer (a b : FlashH) : List Nat := restartTypes.filter (fun t => a.sectOf t != b.sectOf t)

/-! ### Writing a slot (R117, R118) -/

/-- The running slot (PRESUMED, log entry 73). -/
def State.runSlot (s : State) : Nat := s.fld .sysBootStat fSysBootStat_SLOT

/-- A switch order is under way: its state is none of IDLE, DONE and REFUSED. -/
def State.imgActive (s : State) : Bool := [1, 2, 3, 4].contains (s.fld .sysImgStat fSysImgStat_STATE)

/-- What a write of FLASH_CTL with an OP is refused with (R118). READ is an OP too. -/
def State.flashRefuse (s : State) (op slot addr : Nat) : List Nat :=
  if op = 0 then []
  else
    refuseIf (addr % 256 != 0 || (op == 3 && addr % 65536 != 0)) cACCESS ++
    refuseIf (slot == s.runSlot && s.fld .sysBootGen fSysBootGen_GEN != 0) cLOCKED ++
    refuseIf (s.imgActive && op != 1 && (s.boot.order.map (fun o => o.target)) == some slot) cLOCKED ++
    refuseIf (s.flag .sysFlashCtl fSysFlashCtl_BUSY) cBUSY

/-- An OP starts. -/
def State.flashStart (s : State) (op slot addr : Nat) : State :=
  if op = 0 then s
  else { s.setFlag .sysFlashCtl fSysFlashCtl_BUSY true with boot := { s.boot with flashOp := some (op, slot, addr) } }

/-- The bytes of the flash buffer. -/
def State.flashBuf (s : State) : List Byte := (List.range 64).flatMap (fun i => leBytes 4 (s.regN (.sysFlashBuf i)))

/-- The flash buffer takes 256 bytes. -/
def State.setFlashBuf (s : State) (l : List Byte) : State :=
  s.each (List.range 64) (fun i s => s.setRegN (.sysFlashBuf i) (leAt l (4 * i) 4))

/-- The device is no longer busy (R117); err: it reports that a program or an erase failed, which leaves the bytes open. -/
def State.flashDone (s : State) (err : Bool) : State :=
  match s.boot.flashOp with
  | none => s
  | some (op, k, a) =>
    let s := { s.setFlag .sysFlashCtl fSysFlashCtl_BUSY false with boot := { s.boot with flashOp := none } }
    let h := s.flashH k
    if op = 1 then s.setFlashBuf (h.bytes a 256)
    else if err then
      let n := if op = 3 then 256 else 1
      let t := { s with free := s.free + 256 * n }
      (t.setFlashH k (h.lose a n s.free)).setFlag .sysFlashCtl fSysFlashCtl_ERR true
    else if op = 2 then s.setFlashH k (h.putPage a s.flashBuf)
    else s.setFlashH k (h.erase a 65536)

end Sys2Proof.Machine
end

