-- ==== Sys2Proof/Machine/TwinOps.lean ====
section
/-! DEFINITION. Cold start and twin heads (13_psiend_cycle.md R465 to R472; 14_twin_heads.md R473 to R502). -/
namespace Sys2Proof.Machine

/-! ### Cold start (R465 to R471) -/

def csLISTEN : Nat := 1
def csCOLD : Nat := 2
def csBACKOFF : Nat := 3
def csRUN : Nat := 4
def csFOLLOW : Nat := 5
def csSTOPPED : Nat := 6

/-- STATE of the cold start. -/
def State.cs (s : State) : Nat := s.fld .netCsStat fNetCsStat_STATE

/-- The cold start takes a state; EV_CS raises its flag on each change. -/
def State.setCs (s : State) (st : Nat) : State :=
  if s.cs = st then s
  else
    let s := { s with net := { s.net with csFrom := s.now } }
    (s.setFld .netCsStat fNetCsStat_STATE st).raiseIf (s.flag .netCsCtl fNetCsCtl_EV_CS) 342

/-- HEAD_ID. -/
def State.headId (s : State) : Nat := s.fld .sysRole fSysRole_HEAD_ID
/-- L in fabric ticks, rounded down. -/
def State.cycTicks (s : State) : Nat := s.cycTicksOf

/-- TSTATE (R491). -/
def State.tstate (s : State) : Nat := s.fld .twnStat fTwnStat_TSTATE
def tsJOINING : Nat := 1
def tsPULLING : Nat := 2
def tsVERIFYING : Nat := 3
def tsSTANDBY : Nat := 4
def tsLEADER : Nat := 5
def tsUNCHECKED : Nat := 6
def tsNOT_READY : Nat := 7

/-- A twin state is entered; EV_ROLE raises its flag on each change. -/
def State.setTstate (s : State) (t : Nat) : State :=
  if s.tstate = t then s
  else (s.setFld .twnStat fTwnStat_TSTATE t).raiseIf (s.flag .twnCtl fTwnCtl_EV_ROLE) 343

/-- A head leads from now on (R475, R495 to R500). -/
def State.enterLeader (s : State) : State :=
  let s := (({ s with twn := { s.twn with abdDue := 0 } }).setTstate tsLEADER).setCs csRUN
  (s.setReg .twnLastHo s.t48).replace

/-- True when nothing of another head is heard that keeps a head in LISTEN (R465, R468, R470, R471). -/
def State.listenFree (s : State) : Bool :=
  !s.flag .netCsStat fNetCsStat_FOREIGN && !s.flag .netCsStat fNetCsStat_BLOCKED &&
    !s.flag .netCsStat fNetCsStat_SCHED_MISMATCH && s.istate == isLISTEN

/-- True when a head has listened for 2 × (1 + HEAD_ID) cycles and heard nothing (R465) (DEDUCED, log entry 42). -/
def State.listenDone (s : State) : Bool :=
  s.cs == csLISTEN && s.net.csHears && s.listenFree &&
    decide (s.net.csFrom + 2 * (1 + s.headId) * s.cycLen / 4 ≤ s.now)

/-- The listening count of LISTEN starts: now where a port is UP, else with the first that comes UP (R465). -/
def State.listenFrom (s : State) : State :=
  { s with net := { s.net with csFrom := s.now, csHears := (List.range 66).any (fun p => s.link p == lsUP) } }

/-- The head enters COLD; its first boundary is the earliest grid instant at least 1 µs of line time away (R507). -/
def State.enterCold (s : State) : State :=
  let s := s.setCs csCOLD
  let s := { s with net := { s.net with csCycles := 0, csFirst := true } }
  let s := { s with time := { s.time with target := s.gridNext (s.lt + 1000 * nsUnit) } }
  s.replace

/-- True when 8 cycles of COLD have passed without a collision, up to the mini-slots of the eighth COLD_START (R466). -/
def State.coldDone (s : State) : Bool :=
  s.cs == csCOLD && decide (8 < s.net.csCycles || (s.net.csCycles = 8 && s.bndAt + s.msStart (s.rngMs + 3) ≤ s.now))

/-- RUN is entered; a twin head that cold-started leads (R466, R475). -/
def State.enterRun (s : State) : State :=
  let s := s.setCs csRUN
  if s.twin then s.enterLeader else s

/-- A collision (R467): the head completes the cycle and is then silent for HEAD_ID + 1 cycles. -/
def State.collide (s : State) : State :=
  let s := (s.incSat .netCsStat fNetCsStat_COLLISIONS).setCs csBACKOFF
  { s with net := { s.net with csFrom := max s.now s.bndNext } }

/-- True when the silence of a back-off has ended. -/
def State.backoffDone (s : State) : Bool :=
  s.cs == csBACKOFF && decide (s.net.csFrom + (s.headId + 1) * s.cycLen / 4 ≤ s.now)

/-- The end of a back-off (R467): LISTEN with ATTEMPT incremented, or STOPPED after ATTEMPT 8. -/
def State.backoffEnd (s : State) : State :=
  let a := s.fld .netCsStat fNetCsStat_ATTEMPT
  if 8 ≤ a then (s.setCs csSTOPPED).raiseIf (!s.flag .netCsCtl fNetCsCtl_EV_CS) 342
  else
    ((s.setFld .netCsStat fNetCsStat_ATTEMPT (a + 1)).setCs csLISTEN).listenFrom

/-- RETRY = 1 leaves STOPPED, FOREIGN or BLOCKED for LISTEN with ATTEMPT = 0 (R467, R470, R471). -/
def State.coldRetry (s : State) : State :=
  if s.cs = csSTOPPED || s.flag .netCsStat fNetCsStat_FOREIGN || s.flag .netCsStat fNetCsStat_BLOCKED then
    let s := (s.setFlag .netCsStat fNetCsStat_FOREIGN false).setFlag .netCsStat fNetCsStat_BLOCKED false
    ((s.setFld .netCsStat fNetCsStat_ATTEMPT 0).setCs csLISTEN).listenFrom
  else s

/-- A non-twin head hears another head (R471) (DEDUCED, log entry 94). -/
def State.foreign (s : State) : State :=
  let s := s.setCs csLISTEN
  { s.setFlag .netCsStat fNetCsStat_FOREIGN true with bndNext := 0 }

/-! ### STATUS (R477, R479, R495 to R499) -/

/-- A head's Jets in service. -/
def State.jStat (s : State) : Nat := s.fld .jetStat fJetStat_J

/-- The STATUS body of the head now; abdicate marks an abdication STATUS. -/
def State.statusBody (s : State) (abdicate : Bool) : List Byte :=
  let lead := s.tstate == tsLEADER && !abdicate
  let flags := b2n (!lead) + 2 * b2n s.twn.claim + 4 * b2n lead + 8 * s.fld .twnStat fTwnStat_UNCHECKED +
    16 * b2n s.twn.hoN.isSome
  toBytes [s.tstate, flags, s.fld .twnStat fTwnStat_CAUSE, s.jStat] ++ leBytes 4 (s.cycleN % 2 ^ 32) ++
    leBytes 4 (s.twn.hoN.getD 0 % 2 ^ 32) ++ leBytes 4 (s.fld .sysBootGen fSysBootGen_GEN) ++
    toBytes [s.fld .twnStat fTwnStat_BR_USED, s.fld .twnStat fTwnStat_BR_DEAF] ++ leBytes 4 s.twn.schedCrc ++ leBytes 10 0

/-- The earliest tick for a frame on port p: 16 ns after the transmission in progress (R407, R479). -/
def State.hlNext (s : State) (p : Nat) : Nat :=
  if s.txBusy p && (s.port p).txUntil != 0 then (s.port p).txUntil + 8 else s.now

/-- A head-link frame of a type starts on port p at a tick. -/
def State.hlAt (s : State) (p t type : Nat) (body : List Byte) : State :=
  s.transmitAt p t (frameBytes (frameHdr type 0 0 0 (s.cycleN % 256) 0 body.length 0) body) none

/-- A head-link frame of a type leaves on both links, or on one, after what is in transmission there. -/
def State.hlSend (s : State) (ports : List Nat) (type : Nat) (body : List Byte) : State :=
  s.each ports (fun p s => if s.portOn p then s.hlAt p (s.hlNext p) type body else s)

/-- The fixed transmissions of the head link still to come, first and last tick (R479): STATUS and DIGEST of this cycle, sync, STATUS
and DIGEST of the next. -/
def State.hlFixed (s : State) : List (Nat × Nat) :=
  let status := fun b => (b + 28, b + 28 + 92)
  let digest := fun b => (b + s.slotStart 0, b + s.slotStart 0 + 1572)
  [status s.bndAt, digest s.bndAt, (s.bndNext, s.bndNext + 20), status s.bndNext, digest s.bndNext]

/-- The first tick from t on at which a frame of n ticks ends at least 16 ns before the next fixed transmission and begins 16 ns after
the last. -/
def freeFrom (n : Nat) : List (Nat × Nat) → Nat → Nat
  | [], t => t
  | f :: l, t => freeFrom n l (if t < f.2 + 8 ∧ f.1 < t + n + 8 then f.2 + 8 else t)

/-- True when the STATUS of the cycle is due, 56 ns after the boundary. -/
def State.statusDue (s : State) : Bool :=
  s.twin && s.isHead && (s.cs == csRUN || s.cs == csFOLLOW) && !s.twn.statusSent && decide (s.bndAt + 28 ≤ s.now)

/-- The STATUS of the cycle leaves on both links (R479); a claim is in it up to the first that its maker sends as LEADER (R500)
(DEDUCED, log entry 43). -/
def State.statusSend (s : State) : State :=
  let b := s.statusBody false
  let s := { s with twn := { s.twn with statusSent := true, claim := s.twn.claim && s.tstate != tsLEADER } }
  s.hlSend [64, 65] 12 b

/-- The 48-bit cycle number nearest the present one with given low bits (R509). -/
def State.cycleExt (s : State) (low : Nat) : Nat :=
  let d : Nat := (low + 2 ^ 32 - s.cycleN % 2 ^ 32) % 2 ^ 32
  uns 48 ((s.cycleN : Int) + sgn 32 d)

/-- The partner's STATUS came within the last n cycles. -/
def State.partnerSince (s : State) (n : Nat) : Bool :=
  match s.twn.partner with
  | some p => decide (4 * s.now ≤ 4 * p.at_ + n * s.cycLen)
  | none => false

/-- The partner's last STATUS, of the last 2 cycles, reported STANDBY (R494). -/
def State.partnerStandby (s : State) : Bool :=
  s.partnerSince 2 && (match s.twn.partner with
    | some p => p.tstate == tsSTANDBY
    | none => false)

/-- A leader abdicates for a cause (R495): command frames carry ABDICATE from now on, for causes 1 and 3 none follows in
the cycle; an abdication STATUS leaves; NOT_READY, or STANDBY for cause 4. For causes 4 and 6 the partner leads already, and no
answer of its is waited for (DEDUCED, log entry 43). -/
def State.abdicate (s : State) (c : Nat) : State :=
  let s := s.setFld .twnStat fTwnStat_CAUSE c
  let s := { s with twn := { s.twn with silent := s.twn.silent || c == 1 || c == 3, abdWait := c != 4 && c != 6, abdDue := 0 } }
  let s := (s.setTstate (if c = 4 then tsSTANDBY else tsNOT_READY)).setReg .twnLastHo s.t48
  let s := (s.setCs csFOLLOW).setIstate (if s.drv.rngA.ranged || s.drv.rngB.ranged then isINTEGRATED else isRANGING)
  let s := { s with drv := { s.drv with bndX := (s.bndAt : Int) * 32, rate := 0 } }
  s.hlSend [64, 65] 12 (s.statusBody true)

/-- An abdication that finds no partner in STANDBY (R494). -/
def State.abdSuppress (s : State) : State :=
  ({ s with twn := { s.twn with abdDue := 0 } }).incSat .twnCnt2 fTwnCnt2_ABD_SUPPRESSED

/-- A Jet weir has left OPEN with no standby free, or an axis weir other than by an order, as noted when it did; or more than
CRIT_PORTS ports with nodes are not UP and OPEN (R494, cause 3). -/
def State.criticalWeir (s : State) : Bool :=
  let ports := (List.range 64).filter (fun p => !(s.nodesOn p).isEmpty)
  bitOf s.twn.abdDue 1 || decide (s.fld .twnCfg fTwnCfg_CRIT_PORTS < (ports.filter (fun p => !s.portOn p)).length)

/-- An abdication cause holds (R494); cause 4 comes from a handover. -/
def State.abdCause (s : State) (c : Nat) : Bool :=
  s.twin && s.tstate == tsLEADER &&
  (if c = 1 then bitOf s.twn.abdDue 0 || allAxes.any (fun n => bitOf (s.axis n).det 1)
   else if c = 2 then s.flag .timStat fTimStat_LOST_SYNC
   else if c = 3 then s.criticalWeir
   else if c = 5 then decide (s.fld .twnCfg fTwnCfg_CLAIM_CYCLES ≤ s.twn.ownDeaf)
   else if c = 6 then (match s.twn.partner with
     | some p => bitOf p.flags 1
     | none => false)
   else false)

/-- A cause of abdication acts, or is suppressed while the partner does not report STANDBY (R494, R495); a CLAIM acts whatever its
maker's state, since that leads from the same boundary (R500) (DEDUCED, log entry 43). -/
def State.abdication (s : State) (c : Nat) : State := if s.partnerStandby || c == 6 then s.abdicate c else s.abdSuppress

/-- A follower enters PULLING (R499, R501); RESYNC in a head that is JOINING or pulls already changes nothing
(DEDUCED, log entry 44). -/
def State.enterPulling (s : State) : State :=
  let s := { s with twn := { s.twn with pullGot := 0, pullFrom := s.now, verRun := 0, parts := [] } }
  let s := s.setFld .twnPull fTwnPull_DONE_KB 0
  s.setTstate tsPULLING

/-- The head link counts as good again: HLx_OK, UNCHECKED. -/
def State.hlSeen (s : State) (p : Nat) : State :=
  let s := { s with twn := if p = 64 then { s.twn with hlAt0 := some s.now } else { s.twn with hlAt1 := some s.now } }
  let s := s.setFlag .twnStat (if p = 64 then fTwnStat_HL0_OK else fTwnStat_HL1_OK) true
  s.setFlag .twnStat fTwnStat_UNCHECKED false

/-- HLx_OK: the link is UP and OPEN and a valid STATUS came on it within 4 cycles (R502). -/
def State.hlOk (s : State) (p : Nat) : Bool :=
  s.portOn p && (match (if p = 64 then s.twn.hlAt0 else s.twn.hlAt1) with
    | some t => decide (s.now < t + s.cycLen)
    | none => false)

/-- What a follower's state becomes on a STATUS (R499, R501). -/
def State.statusJoin (s : State) (p : PStat) : State :=
  let s := if s.twn.lost then
      let s := { s with twn := { s.twn with lost := false } }
      if s.tstate = tsUNCHECKED || s.tstate = tsNOT_READY then s.enterPulling else s
    else s
  if s.tstate = tsJOINING && s.istate = isINTEGRATED then
    if p.gen = s.fld .sysBootGen fSysBootGen_GEN then (s.setFlag .twnStat fTwnStat_GEN_MISMATCH false).enterPulling
    else s.setFlag .twnStat fTwnStat_GEN_MISMATCH true
  else s

/-- What leadership does on a STATUS that follows one reporting LEADER (R498). -/
def State.statusLead (s : State) (was : Bool) (p : PStat) : State :=
  if was && bitOf p.flags 0 then
    if s.tstate = tsSTANDBY then
      let s := { s with twn := { s.twn with leadFrom := s.now + 16 } }
      let s := s.enterLeader
      s.hlSend [64, 65] 12 (s.statusBody false)
    else if s.tstate = tsLEADER then s
    else s.hlSend [64, 65] 12 (s.statusBody false)
  else if s.twn.abdWait && p.tstate != tsSTANDBY then
    let s := { s with twn := { s.twn with abdWait := false } }
    if p.tstate = tsLEADER then s
    else
      let s := { s with twn := { s.twn with resume := true } }
      s.incSat .twnCnt2 fTwnCnt2_ABD_SUPPRESSED
  else s

/-- The partner's STATUS is received (R468, R477, R498, R499, R501). -/
def State.statusReceived (s : State) : State :=
  match s.inFirst 12 with
  | none => s
  | some f =>
    let s := s.inTake f
    if !s.twin then s
    else
      let b := f.body
      let p : PStat := { tstate := byteAt b 0 % 8, flags := byteAt b 1, hoN := leAt b 8 4, gen := leAt b 12 4,
                         cycle := leAt b 4 4, at_ := s.now }
      let was := match s.twn.partner with
        | some q => q.tstate == tsLEADER
        | none => false
      let s := { s with twn := { s.twn with partner := some p } }
      let s := (s.hlSeen f.port).setFld .twnStat fTwnStat_P_TSTATE p.tstate
      let s := if s.cs = csLISTEN || s.tstate = tsJOINING then
          s.setFlag .netCsStat fNetCsStat_SCHED_MISMATCH (leAt b 18 4 != s.twn.schedCrc)
        else s
      (s.statusJoin p).statusLead was p

/-- A twin head in LISTEN that has integrated on the head link follows (R468, R501). -/
def State.followerJoins (s : State) : State :=
  if s.isHead && s.twin && s.cs = csLISTEN && s.istate = isINTEGRATED then (s.setCs csFOLLOW).setTstate tsJOINING else s

/-- True when the head link is lost (R499): neither link UP, or no valid STATUS for 4 cycles. -/
def State.hlLost (s : State) : Bool :=
  let old (t : Option Nat) : Bool := match t with
    | some a => decide (a + s.cycLen ≤ s.now)
    | none => true
  s.twin && s.isHead && s.tstate != 0 && !s.twn.lost &&
    ((!s.portOn 64 && !s.portOn 65) || (old s.twn.hlAt0 && old s.twn.hlAt1))

/-- The head link is lost (R478, R499): a follower enters UNCHECKED, a leader stays LEADER; orders start afresh
(DEDUCED, log entry 44). -/
def State.hlLoss (s : State) : State :=
  let s := { s with twn := { s.twn with lost := true, sent := [], seqOut := 0, seqIn := 0, orders := [], acked := [],
                                        ackOut := [], parts := [] } }
  let s := (s.setFlag .twnStat fTwnStat_HL0_OK false).setFlag .twnStat fTwnStat_HL1_OK false
  let s := s.setFlag .twnStat fTwnStat_UNCHECKED true
  if s.tstate = tsLEADER || s.tstate = tsJOINING then s else s.setTstate tsUNCHECKED

/-! ### Digests and copies (R484 to R490) -/

/-- The register slots of axis n at offsets 0x300 to 0x33F, as bytes. -/
def State.axsSlots (s : State) (n : Nat) : List Byte :=
  (List.range 8).flatMap (fun i =>
    match Reg.ofAddr (0x80000 + n * 0x400 + 0x300 + 8 * i) with
    | some r => leBytes 8 (s.regN r)
    | none => leBytes 8 0)

/-- The snapshot of axis n (R484). -/
def State.snapshotOf (s : State) (n : Nat) : List Byte :=
  s.bytes (liveBank n + 0xC00) 1024 ++ s.memBytes (liveBank n + 0x500) 768 ++ leBytes 6 (s.regN (.axsSetP n)) ++
    leBytes 6 (s.regN (.axsSetV n)) ++ leBytes 6 (s.regN (.axsSetA n)) ++ toBytes [s.ax n] ++ leBytes 5 0 ++ s.axsSlots n

/-- The command record of axis n in the cycle: a NETWORK axis's as its frame carries it. -/
def State.cycleCmd (s : State) (n : Nat) : List Byte := if s.kind n = kindNETWORK then s.cmdToSend n else s.lastCmd n

/-- The digest of axis n for cycle c (R484). -/
def State.digestOf (s : State) (n c : Nat) : Nat :=
  crc32c (leBytes 4 (c % 2 ^ 32) ++ toBytes [n] ++ s.cycleCmd n ++ s.snapshotOf n)

/-- The digests of every axis, at the end of a Cascade pass. -/
def State.makeDigests (s : State) : State :=
  if s.twin then
    { s with twn := { s.twn with digests := allAxes.map (fun n => s.digestOf n s.cycleN), digCycle := s.cycleN } }
  else s

/-- A follower's axis takes a snapshot (R488). -/
def State.loadSnapshot (s : State) (n : Nat) (b : List Byte) : State :=
  let s := s.setBytes (liveBank n + 0xC00) (b.take 1024)
  let s := (s.setBytes (liveBank n + 0x500) ((b.drop 1024).take 512)).loadCascade n ((b.drop 1536).take 256)
  let s := ((s.setRegN (.axsSetP n) (leAt b 1792 6)).setRegN (.axsSetV n) (leAt b 1798 6)).setRegN (.axsSetA n) (leAt b 1804 6)
  let s := (s.stateLoaded n).setFld (.axsStat n) fAxsStat_STATE (byteAt b 1810)
  let s := s.setFb n { s.fb n with pact := BitVec.ofNat 48 (s.stWord n 8) }
  s.each (List.range 8) (fun i s =>
    match Reg.ofAddr (0x80000 + n * 0x400 + 0x300 + 8 * i) with
    | some r => s.setRegN r (leAt b (1816 + 8 * i) 8)
    | none => s)

/-- True when the DIGEST of the previous cycle is due at STATIC_START. -/
def State.digestDue (s : State) : Bool :=
  s.twin && s.isHead && (s.cs == csRUN || s.cs == csFOLLOW) && !s.twn.digSent && !s.twn.digests.isEmpty &&
    decide (s.bndAt + s.slotStart 0 ≤ s.now)

/-- The DIGEST leaves on both links (R479). -/
def State.digestSend (s : State) : State :=
  let s := { s with twn := { s.twn with digSent := true } }
  s.hlSend [64, 65] 13 (leBytes 4 (s.twn.digCycle % 2 ^ 32) ++ s.twn.digests.flatMap (leBytes 4))

/-- Axis n's bit in TWN.MIS (DEDUCED, log entry 44). -/
def State.mis (s : State) (n : Nat) : Bool := bitOf (s.regN (.twnMis (n / 48))) (n % 48)
/-- Set or clear it. -/
def State.setMis (s : State) (n : Nat) (b : Bool) : State :=
  s.setRegN (.twnMis (n / 48)) (putBit (s.regN (.twnMis (n / 48))) (n % 48) b)
/-- The flagged axes. -/
def State.flagged (s : State) : List Nat := allAxes.filter (fun n => s.mis n)

/-- One axis's digests are compared (R486, R489, R490): the flag of R490 is set when it mismatches again within 16 cycles. -/
def State.compareAxis (s : State) (n mine theirs : Nat) : Bool × State :=
  if mine = theirs then
    (false, if s.mis n then
        let s := s.setMis n false
        { s with twn := { s.twn with cleared := tabSet 0 n (s.cycles + 1) s.twn.cleared } }
      else s)
  else
    let again := !s.mis n && tabGet 0 s.twn.cleared n != 0 && decide (s.cycles + 1 ≤ tabGet 0 s.twn.cleared n + 16)
    (again, (s.setMis n true).incSat .twnCnt0 fTwnCnt0_MISMATCH)

/-- The partner's DIGEST, the first of the two links' to come, is compared axis by axis with the head's own (R485, R486, R490,
R501). -/
def State.digestReceived (s : State) : State :=
  match s.inFirst 13 with
  | none => s
  | some f =>
    let s := s.inTake f
    if !s.twin || s.tstate = tsUNCHECKED || s.twn.digGot || s.cycleExt (leAt f.body 0 4) ≠ s.twn.digCycle then s
    else
      let r := s.twn.digests.zipIdx.foldl (fun (r : Bool × Bool × State) (x : Nat × Nat) =>
        let theirs := leAt f.body (4 + 4 * x.2) 4
        let c := r.2.2.compareAxis x.2 x.1 theirs
        (r.1 || c.1, r.2.1 || x.1 != theirs, c.2)) (false, false, s)
      let s := { r.2.2 with twn := { r.2.2.twn with digGot := true } }
      let s := s.raiseIf (r.2.1 && s.flag .twnCtl fTwnCtl_EV_MIS) 343
      let s := if s.tstate = tsVERIFYING then
          { s with twn := { s.twn with verRun := if r.2.1 then 0 else s.twn.verRun + 1 } }
        else s
      if s.tstate = tsSTANDBY && (r.1 || decide (s.fld Reg.twnCfg fTwnCfg_MIS_MAX < (State.flagged s).length)) then
        s.setTstate tsNOT_READY
      else s

/-- True when the cycle ends without the partner's DIGEST (R485). -/
def State.digestMissed (s : State) : Bool :=
  s.twin && 3 ≤ s.tstate && s.tstate != tsUNCHECKED && !s.twn.lost && !s.twn.digGot && decide (s.bndNext ≤ s.now + 1)

/-- A DIGEST is missed. -/
def State.digestMiss (s : State) : State :=
  ({ s with twn := { s.twn with digGot := true } }).incSat .twnCnt0 fTwnCnt0_DIG_MISS

/-- The axis to copy next (R487, R501): of every axis once while the partner verifies, else the flagged ones in ascending order,
from the axis after the last copy on (DEDUCED, log entry 44). -/
def State.copyAxis (s : State) : Option Nat :=
  let verifies := s.fld .twnStat fTwnStat_P_TSTATE == tsVERIFYING
  if verifies && decide (s.twn.copyNext < 192) then some s.twn.copyNext
  else match s.flagged.find? (fun n => decide (s.twn.copyNext % 192 ≤ n)) with
    | some n => some n
    | none => s.flagged.head?

/-- True when a COPY is due (R479): a leader, one axis a cycle, 16 ns after the later of pass end and DIGEST end. -/
def State.copyDue (s : State) : Bool :=
  s.twin && s.tstate == tsLEADER && !s.twn.lost && !s.twn.copied && s.copyAxis.isSome &&
  (match s.twn.casEnd with
   | some t => decide (max t (s.bndAt + s.slotStart 0 + 1572) + 8 ≤ s.now)
   | none => false)

/-- Body of a COPY or PULL frame (R476). -/
def copyBody (kind part axis n off : Nat) (data : List Byte) : List Byte :=
  toBytes [kind, part, axis, 0] ++ leBytes 4 (n % 2 ^ 32) ++ leBytes 4 off ++ leBytes 4 0 ++ data

/-- The two COPY frames of an axis leave (R487), or the copy is deferred while only one link can carry it (R488). -/
def State.copySend (s : State) : State :=
  match s.copyAxis with
  | none => s
  | some n =>
    let s := { s with twn := { s.twn with copied := true } }
    if s.portOn 64 && s.portOn 65 then
      let b := s.snapshotOf n
      let s := { s with twn := { s.twn with copyNext := n + 1 } }
      let s := (s.incSat .twnCnt0 fTwnCnt0_COPY).setFld .twnStat fTwnStat_COPY_AXIS n
      (s.hlSend [64] 15 (copyBody 0 0 n s.cycleN 0 (b.take 940))).hlSend [65] 15 (copyBody 0 1 n s.cycleN 940 (b.drop 940))
    else s.incSat .twnCnt1 fTwnCnt1_COPY_DEFER

/-- COPY parts that have come are set aside for their instant (R488). -/
def State.takeCopies (s : State) : State :=
  let l := s.net.inbox.filter (fun f => f.type == 15 && byteAt f.body 0 == 0)
  let ps := l.map (fun f => CopyPart.mk (s.cycleExt (leAt f.body 4 4)) (byteAt f.body 2) (byteAt f.body 1) (f.body.drop 16)
    (f.start + 2 * 969))
  let s := { s with net := { s.net with inbox := s.net.inbox.filter (fun f => !(f.type == 15 && byteAt f.body 0 == 0)) } }
  { s with twn := { s.twn with parts := s.twn.parts ++ ps } }

/-- True when the instant of COPY_LOAD has come: 64 fabric ticks before STATIC_START of the cycle after the copy's. -/
def State.copyLoadDue (s : State) : Bool :=
  s.twin && s.tstate != tsLEADER && decide (s.bndAt + s.slotStart 0 ≤ s.now + 64) &&
    s.takeCopies.twn.parts.any (fun p => (p.cycle + 1) % 2 ^ 48 == s.cycleN)

/-- The follower writes a complete copy into the axis, or discards it (R488). -/
def State.copyLoad (s : State) : State :=
  let s := s.takeCopies
  let t := s.bndAt + s.slotStart 0 - 64
  let ps := s.twn.parts.filter (fun p => (p.cycle + 1) % 2 ^ 48 == s.cycleN && decide (p.at_ ≤ t))
  let s := { s with twn := { s.twn with parts := [] } }
  if s.tstate = tsUNCHECKED then s
  else match ps.find? (fun p => p.part == 0), ps.find? (fun p => p.part == 1) with
    | some a, some b =>
      if a.axis = b.axis then (s.loadSnapshot a.axis (a.data ++ b.data)).setFld .twnStat fTwnStat_COPY_AXIS a.axis else s
    | _, _ => s

/-! ### Orders (R478, R481 to R483) -/

/-- True when a head performs no order (R483): UNCHECKED or NOT_READY (DEDUCED, log entry 87). -/
def State.ordersOff (s : State) : Bool := s.twin && (s.tstate == tsUNCHECKED || s.tstate == tsNOT_READY)

/-- True when orders are mirrored: a twin head with a head link and a partner that has entered PULLING (R481, R483, R501). -/
def State.mirrors (s : State) : Bool :=
  s.twin && s.isHead && !s.twn.lost && (s.portOn 64 || s.portOn 65) && 2 ≤ s.tstate && 2 ≤ s.fld .twnStat fTwnStat_P_TSTATE

/-- The end of a COPY that is due: no MIRROR or PULL frame starts between CAS_START and then (R479); while its pass runs, the
STATUS of the next cycle stands for it. -/
def State.copyHold (s : State) (t : Nat) : Nat :=
  if s.tstate = tsLEADER && !s.twn.lost && !s.twn.copied && s.copyAxis.isSome && decide (s.bndAt + s.casStart ≤ t) then
    match s.twn.casEnd with
    | some e => max t (max e (s.bndAt + s.slotStart 0 + 1572) + 8 + 1940 + 8)
    | none => max t (s.bndNext + 28 + 92 + 8)
  else t

/-- The first tick at which a MIRROR or PULL frame with a body of n bytes may start on link p (R479). -/
def State.hlFree (s : State) (p n : Nat) : Nat :=
  freeFrom (2 * (14 + n)) s.hlFixed (s.copyHold (freeFrom (2 * (14 + n)) s.hlFixed (s.hlNext p)))

/-- One order entry (R478): address, mask, value. -/
def orderEntry (e : Nat × Nat × Nat) : List Byte := leBytes 4 e.1 ++ toBytes [e.2.1] ++ leBytes 3 0 ++ leBytes 8 e.2.2

/-- An ORDER record. -/
def State.orderRec (s : State) (seq n : Nat) (es : List (Nat × Nat × Nat)) : List Byte :=
  toBytes [0, 1 + es.length] ++ leBytes 2 seq ++ leBytes 4 (n % 2 ^ 32) ++
    toBytes [es.length, s.fld .netCycCfg fNetCycCfg_CH] ++ leBytes 6 0 ++ es.flatMap orderEntry

/-- A MIRROR frame leaves on the link that is free first (R478, R479). -/
def State.mirrorFrame (s : State) (b : List Byte) : State :=
  let a := s.hlFree 64 b.length
  let c := s.hlFree 65 b.length
  if s.portOn 64 && (!s.portOn 65 || decide (a ≤ c)) then s.hlAt 64 a 14 b
  else if s.portOn 65 then s.hlAt 65 c 14 b else s

/-- Records of one unit leave in MIRROR frames of up to 16 units (R476). -/
def State.mirrorFrames (s : State) : List Nat → List (List Byte) → State
  | [], _ => s
  | _ :: t, l => if l.isEmpty then s else (s.mirrorFrame (l.take 16).flatten).mirrorFrames t (l.drop 16)

/-- An order performed here is sent to the partner (R481); n is the cycle or tick at which it acts. -/
def State.mirrorOrder (s : State) (ag n : Nat) (es : List (Nat × Nat × Nat)) : State :=
  if !s.mirrors || ag = 15 then s
  else
    let q := s.twn.seqOut % 65535 + 1
    let b := s.orderRec q n es
    let a := (es.getLast?.getD (0, 0, 0)).1
    let s := { s with twn := { s.twn with seqOut := q, sent := s.twn.sent ++ [Sent.mk q b a s.cycles] } }
    (s.incSat .twnCnt1 fTwnCnt1_MIRROR_TX).mirrorFrame b

/-- The orders without an acknowledgement for 2 cycles (R478). -/
def State.unacked (s : State) : List Sent := s.twn.sent.filter (fun x => decide (x.at_ + 2 ≤ s.cycles))

/-- They are sent again. -/
def State.mirrorAgain (s : State) : State :=
  let l := s.unacked
  let s := { s with twn := { s.twn with sent := s.twn.sent.map (fun x => if x.at_ + 2 ≤ s.cycles then { x with at_ := s.cycles } else x) } }
  l.foldl (fun s x => s.mirrorFrame x.bytes) s

/-- The records of a MIRROR body: each has RLEN units of 16 bytes; the list bounds their number. -/
def mirrorRecs : List Nat → List Byte → List (List Byte)
  | [], _ => []
  | _ :: t, b =>
    if b.length < 16 then [] else
    let n := 16 * max 1 (byteAt b 1)
    b.take n :: mirrorRecs t (b.drop n)

/-- The result field of the order at an address, a value that it never takes (0 where it takes every other), and its LATE. -/
def orderField (a : Nat) : Option (Reg × Fld × Nat × Nat) :=
  match Reg.ofAddr a with
  | some r =>
    match r.name with
    | .axsStage => some (r, fAxsStage_RESULT, 0, 3)
    | .axsMvCtl => some (.axsMvStat r.i, fAxsMvStat_PUSH_RES, 7, 3)
    | .axsChgCtl => some (.axsMvStat r.i, fAxsMvStat_CHG_RES, 0, 6)
    | .axsHmCtl => some (.axsHmStat r.i, fAxsHmStat_RES, 15, 7)
    | .casGrpCtl => some (.casGrpStat r.i, fCasGrpStat_RES, 7, 4)
    | .lmOCtl => some (.lmStat r.i, fLmStat_RES, 7, 2)
    | .twnCtl => some (.twnStat, fTwnStat_HO_RES, 7, 3)
    | _ => none
  | none => none

/-- One order is performed (R478, R481): its entries in turn as agent 15. Answers the code of the last. -/
def State.orderPerform (s : State) (access : State → Nat → Nat → Nat → Nat × State) (b : List Byte) : Nat × State :=
  let s := { s with twn := { s.twn with ordN := s.cycleExt (leAt b 4 4) } }
  (List.range (byteAt b 8)).foldl (fun (r : Nat × State) i =>
    let e := (b.drop (16 * (i + 1))).take 16
    let x := access r.2 (leAt e 0 4) (byteAt e 4) (leAt e 8 8)
    (if x.1 = cOK then r.1 else x.1, x.2)) (cOK, s)

/-- An order is performed and RES found (R478): the value that the order's own result field takes at the write, 0 where the write
leaves the field as it was. -/
def State.orderResult (s : State) (a : Nat) (f : State → Nat × State) : Nat × Nat × State :=
  match orderField a with
  | none => let r := f s; (r.1, 0, r.2)
  | some (q, x, mark, _) =>
    let r := f (s.setFld q x mark)
    let v := r.2.fld q x
    if v = mark then (r.1, 0, r.2.setFld q x (s.fld q x)) else (r.1, v, r.2)

/-- An acknowledgement record. -/
def ackRec (seq code res : Nat) : List Byte := toBytes [1, 1] ++ leBytes 2 seq ++ toBytes [code, res] ++ leBytes 10 0

/-- The orders that are next in turn are performed, each once (R478). -/
def State.ordersRun (s : State) (access : State → Nat → Nat → Nat → Nat × State) : List Nat → State
  | [] => s
  | _ :: t =>
    let q := s.twn.seqIn % 65535 + 1
    match s.twn.orders.find? (fun o => o.1 == q) with
    | none => s
    | some o =>
      let s := { s with twn := { s.twn with seqIn := q, orders := s.twn.orders.filter (fun x => x.1 != q) } }
      let a := leAt ((o.2.drop (16 * byteAt o.2 8)).take 4) 0 4
      let r := s.orderResult a (fun s => s.orderPerform access o.2)
      let ack := ackRec q r.1 r.2.1
      let s := r.2.2
      let s := { s with twn := { s.twn with acked := tabSet [] q ack s.twn.acked, ackOut := s.twn.ackOut ++ [ack] } }
      s.ordersRun access t

/-- One record of a MIRROR frame is taken (R478, R482): an order to perform or to wait, or an acknowledgement. -/
def State.mirrorTake (s : State) (b : List Byte) : State :=
  let q := leAt b 2 2
  if byteAt b 0 = 1 then
    match s.twn.sent.find? (fun x => x.seq == q) with
    | none => s
    | some x =>
      let s := { s with twn := { s.twn with sent := s.twn.sent.filter (fun y => y.seq != q) } }
      match orderField x.addr with
      | some (_, _, _, late) => if byteAt b 5 = late then s.incSat .twnCnt1 fTwnCnt1_MIRROR_LATE else s
      | none => s
  else match s.twn.acked.find? (fun x => x.1 == q) with
    | some a => { s with twn := { s.twn with ackOut := s.twn.ackOut ++ [a.2] } }
    | none =>
      if s.twn.orders.any (fun o => o.1 == q) then s
      else { s with twn := { s.twn with orders := s.twn.orders ++ [(q, b)] } }

/-- A MIRROR frame is received (R478): its records taken, the orders in turn performed, their acknowledgements sent. -/
def State.mirrorReceived (s : State) (access : State → Nat → Nat → Nat → Nat × State) : State :=
  match s.inFirst 14 with
  | none => s
  | some f =>
    let s := s.inTake f
    let s := (mirrorRecs (List.range 16) f.body).foldl (fun s b => s.mirrorTake b) s
    let s := s.ordersRun access (List.range (s.twn.orders.length + 1))
    let l := s.twn.ackOut
    let s := { s with twn := { s.twn with ackOut := [] } }
    s.mirrorFrames (List.range l.length) l

/-! ### Handover, claim, joining (R496, R497, R500, R501) -/

/-- A write of HANDOVER = 1 (R497). -/
def State.handoverArm (s : State) : State :=
  let n := s.regN .twnHoCycle
  if cycleDiff n s.cycleN < (s.fld .twnCfg fTwnCfg_CMD_LEAD : Int) then s.setFld .twnStat fTwnStat_HO_RES 3
  else { s with twn := { s.twn with hoN := some n } }

/-- An armed handover at its boundary (R497). -/
def State.handoverBoundary (s : State) : State :=
  match s.twn.hoN with
  | none => s
  | some n =>
    if cycleDiff n s.cycleN > 0 then s
    else
      let armed := match s.twn.partner with
        | some p => bitOf p.flags 4 && p.hoN == n % 2 ^ 32 && (p.cycle + 1) % 2 ^ 32 == n % 2 ^ 32
        | none => false
      let ready := if s.tstate = tsLEADER then s.partnerStandby else s.tstate == tsSTANDBY
      let s := { s with twn := { s.twn with hoN := none } }
      if !ready then s.setFld .twnStat fTwnStat_HO_RES 2
      else if !armed then s.setFld .twnStat fTwnStat_HO_RES 4
      else
        let s := (s.setFld .twnStat fTwnStat_HO_RES 1).incSat .twnCnt2 fTwnCnt2_HANDOVERS
        if s.tstate = tsLEADER then s.abdicate 4 else s.enterLeader

/-- The branches with a node entry in use. -/
def State.branches (s : State) : List Nat := (List.range 64).filter (fun p => !(s.nodesOn p).isEmpty)

/-- A branch is deaf to a channel in the cycle (R496): b selects channel B. -/
def State.deaf (s : State) (p : Nat) (b : Bool) : Bool :=
  let l := (s.nodesOn p).filter (fun k => (s.node k).seen && !s.muted k)
  !l.isEmpty && l.all (fun k => !bitOf (s.node k).status (if b then 1 else 0))

/-- True at the end of the static segment in a twin head, once in a cycle. -/
def State.deafDue (s : State) : Bool :=
  s.twin && s.isHead && !s.twn.deafDone && (s.cs == csRUN || s.cs == csFOLLOW) &&
    decide (s.bndAt + s.slotStart (s.fld .netSegCfg fNetSegCfg_SLOT_COUNT) ≤ s.now)

/-- The branches deaf to each channel are counted (R496); what follows for a claim (R500) and for cause 5. -/
def State.deafEval (s : State) : State :=
  let ch := s.flag .netCycCfg fNetCycCfg_CH
  let br := s.branches
  let used := br.length
  let theirs := (br.filter (fun p => s.deaf p (!ch))).length
  let own := (br.filter (fun p => s.deaf p ch)).length
  let s := (s.setFld .twnStat fTwnStat_BR_USED used).setFld .twnStat fTwnStat_BR_DEAF theirs
  let s := { s with twn := { s.twn with deafDone := true, ownDeaf := if used < 2 * own then s.twn.ownDeaf + 1 else 0 } }
  let run := if used < 2 * theirs then s.fld .twnStat fTwnStat_CLAIM_RUN + 1 else 0
  let s := s.setFld .twnStat fTwnStat_CLAIM_RUN (min 15 run)
  if (s.tstate = tsSTANDBY || s.tstate = tsUNCHECKED) && s.fld .twnCfg fTwnCfg_CLAIM_CYCLES ≤ run && !s.twn.claim then
    ({ s with twn := { s.twn with claim := true } }).incSat .twnCnt2 fTwnCnt2_CLAIMS
  else s

/-- RESYNC = 1 returns a follower to PULLING (R501). -/
def State.resync (s : State) : State := if 3 ≤ s.tstate then s.enterPulling else s

/-- What RESYNC = 1 is refused with (R501). -/
def State.resyncRefuse (s : State) : List Nat := refuseIf (s.tstate == tsLEADER) cACCESS

/-- Bytes of the pull that come from memory: live and staged banks 0x000 to 0xBFF of the axes, then the cam store. -/
def pullMem : Nat := 192 * 2 * 0xC00 + 0x40000

/-- The address of byte i of the memory part of a pull (R501). -/
def pullAddr (i : Nat) : Nat :=
  if i < 192 * 2 * 0xC00 then 0x01000000 + i / 0xC00 * 0x1000 + i % 0xC00 else 0x01180000 + (i - 192 * 2 * 0xC00)

/-- Bytes of the whole pull. -/
def State.pullTotal (s : State) : Nat := pullMem + s.pullTail.length

/-- 512 bytes of the pull from an offset. -/
def State.pullData (s : State) (off : Nat) : List Byte :=
  (List.range 512).map (fun i =>
    let a := off + i
    if a < pullMem then s.memByte (pullAddr a) else s.pullTail.getD (a - pullMem) 0#8)

/-- True when the leader may send a PULL frame: its partner pulls, a link is free. -/
def State.pullDue (s : State) (p : Nat) : Bool :=
  s.twin && s.tstate == tsLEADER && s.fld .twnStat fTwnStat_P_TSTATE == tsPULLING && (p == 64 || p == 65) && s.portOn p &&
    decide (s.hlFree p 528 ≤ s.now) && decide (s.twn.pullPos < s.pullTotal)

/-- A PULL frame leaves (R501). -/
def State.pullSend (s : State) (p : Nat) : State :=
  let off := s.twn.pullPos
  let s := { s with twn := { s.twn with pullPos := off + 512, copyNext := 0 } }
  s.hlSend [p] 15 (copyBody 1 0 0 s.cycleN off (s.pullData off))

/-- A joining head stores a PULL frame's data; after the last it verifies (R501). -/
def State.pullReceived (s : State) : State :=
  match s.net.inbox.find? (fun f => f.type == 15 && byteAt f.body 0 == 1) with
  | none => s
  | some f =>
    let s := s.inTake f
    if s.tstate ≠ tsPULLING then s
    else
      let off := leAt f.body 8 4
      let s := ((f.body.drop 16).take 512).zipIdx.foldl (fun (s : State) x =>
        if off + x.2 < pullMem then s.setByte (pullAddr (off + x.2)) x.1 else s) s
      let s := if pullMem < off + 512 then s.pullTailPut (off - pullMem) ((f.body.drop 16).take 512) else s
      let got := s.twn.pullGot + 512
      let s := { s with twn := { s.twn with pullGot := got } }
      let s := (s.setFld .twnPull fTwnPull_DONE_KB (got / 1024)).setFld .twnPull fTwnPull_TOTAL_KB ((s.pullTotal + 1023) / 1024)
      if s.pullTotal ≤ got then
        let s := s.each allAxes (fun n s =>
          (s.loadCascade n (s.bytes (liveBank n + 0x700) 256)).clearMem (liveBank n + 0x700) 256)
        ({ s with twn := { s.twn with verRun := 0 } }).setTstate tsVERIFYING
      else s

/-- True when a verifying head has seen VERIFY_CYCLES cycles of matching digests (R501). -/
def State.standbyDue (s : State) : Bool :=
  s.twin && s.tstate == tsVERIFYING && decide (s.fld .twnCfg fTwnCfg_VERIFY_CYCLES ≤ s.twn.verRun)

/-- STANDBY is entered (R501). -/
def State.standbyEnter (s : State) : State :=
  let ms := (s.now - s.twn.pullFrom) / 500000
  (s.setFld .twnPull fTwnPull_PULL_MS (satU 16 ms)).setTstate tsSTANDBY

/-- TWN.CTL.CNT_CLR. -/
def State.twinCntClr (s : State) : State := ((s.setReg .twnCnt0 0).setReg .twnCnt1 0).setReg .twnCnt2 0

/-- The boundary of a twin head: a handover, a claim, a lead resumed (R497, R498, R500), and what a cycle holds. -/
def State.twinBoundary (s : State) : State :=
  if !s.twin then s
  else
    let s := s.handoverBoundary
    let s := if s.twn.claim && s.tstate != tsLEADER then
        if s.tstate = tsSTANDBY || s.tstate = tsUNCHECKED then s.enterLeader
        else { s with twn := { s.twn with claim := false } }
      else s
    let s := if s.twn.resume then
        let s := { s with twn := { s.twn with resume := false } }
        if s.tstate = tsNOT_READY then s.enterLeader else s
      else s
    let s := if s.fld .twnStat fTwnStat_P_TSTATE = tsPULLING then s
      else { s with twn := { s.twn with pullPos := 0 } }
    { s with twn := { s.twn with silent := false, statusSent := false, digSent := false, copied := false, digGot := false
                                 casEnd := none, deafDone := false } }

/-- The boundary of a cold start: its first boundary begins cycle 0 (R507), and COLD counts its cycles. -/
def State.coldBoundary (s : State) : State :=
  let c := if s.cs = csCOLD then s.net.csCycles + 1 else s.net.csCycles
  { s with net := { s.net with csCycles := c, csFirst := false } }

end Sys2Proof.Machine
end

