-- ==== Sys2Proof/Machine/LoadOps.lean ====
section
/-! DEFINITION. What an image's sections load into the units (03_boot_image.md, R94, R97, R106, R107, R114). -/
namespace Sys2Proof.Machine

/-- Word j of a unit's tag area by class of R106 (0 axis, 1 port, 2 Jet, 3 core, 4 Sluice task, 5 Mirage channel,
6 mailbox). -/
def tagReg (cls i j : Nat) : Reg :=
  if cls = 0 then .axsTag i j else if cls = 1 then .portTag i j else if cls = 2 then .jetjTag i j
  else if cls = 3 then .coreTag i j else if cls = 4 then .taskTag i j else if cls = 5 then .mirTag i j else .mbTag i j

/-- How many units a class has. -/
def tagUnits (cls : Nat) : Nat :=
  if cls = 0 then 192 else if cls = 1 then 66 else if cls = 2 then 17 else if cls = 3 then 8
  else if cls = 4 then 128 else if cls = 5 then 32 else if cls = 6 then 64 else 0

/-- Tag bytes of a class: 64 for axes, 32 for every other. -/
def tagSize (cls : Nat) : Nat := if cls = 0 then 64 else 32

/-- The records of the TAGS section, as class, index and tag bytes, each at a 4-byte boundary; none where the bytes are no
sequence of records (R106). -/
def tagRecords : Nat → List Byte → Option (List (Nat × Nat × List Byte))
  | 0, b => if b.isEmpty then some [] else none
  | n + 1, b =>
    if b.isEmpty then some []
    else
      let len := byteAt b 2
      if b.length < 4 + len || byteAt b 3 != 0 then none
      else (tagRecords n (b.drop ((4 + len + 3) / 4 * 4))).map (fun l => (byteAt b 0, byteAt b 1, (b.drop 4).take len) :: l)

/-- The records of a section by its own length. -/
def tagList (b : List Byte) : Option (List (Nat × Nat × List Byte)) := tagRecords b.length b

/-- A tag record that R106 and R107 accept. R107 names only an oversized TLEN; a TLEN of 0, which R106 does not allow either, is
refused with CONFIG too (DESIGN CHOICE, log entry 79). -/
def tagOk (cls i len : Nat) : Bool := decide (i < tagUnits cls) && decide (1 ≤ len ∧ len ≤ tagSize cls)

/-- A record loads a unit's tag area and clears the rest of it (R107). -/
def State.loadTag (s : State) (cls i : Nat) (b : List Byte) : State :=
  s.each (List.range (tagSize cls / 4)) (fun j s => s.setRegN (tagReg cls i j) (leAt b (4 * j) 4))

/-- A register slot is loaded. -/
def State.loadReg (s : State) (addr v : Nat) : State :=
  match Reg.ofAddr addr with
  | some r => s.setRegN r v
  | none => s

/-- One item of a section takes effect in its unit. -/
def State.applyLoad (s : State) : Load → State
  | .reg a v => s.loadReg a v
  | .mem a b => s.setBytes a b
  | .tags b => ((tagList b).getD []).foldl (fun (s : State) r => s.loadTag r.1 r.2.1 r.2.2) s
  | .sigmaDelta g a b => s.setSg g { s.sg g with sdA := a, sdB := b }
  | .schedule slot nrec nsc upFirst upMs =>
    { s with drv := { s.drv with slot := slot, nrec := nrec, nsc := nsc, upFirst := upFirst, upMs := upMs } }
  | .schedCrc c => { s with twn := { s.twn with schedCrc := c } }
  | .ldMax k ns => { s with net := { s.net with ldMax := tabSet 0 k ns s.net.ldMax } }
  | .lineMasters n => { s with casSys := { s.casSys with lms := n } }
  | .passwordCheck v => { s with oas := { s.oas with pwdCheck := v } }
  | .changeLog l => { s with oas := { s.oas with log := (s.oas.kept ++ l).take 256 } }
  | .pmbus speed addrs ms => { s with power := { s.power with pmb := some (speed, addrs, ms) } }
  | .pcieIds v sv ss d => { s with host := { s.host with ids := some (v, sv, ss, d) } }
  | .ethLatency p i e =>
    let h := tabGet {} s.host.eth p
    { s with host := { s.host with eth := tabSet {} p { h with ingress := i, egress := e } s.host.eth } }

/-- A list of items takes effect in order. -/
def State.applyLoads (s : State) (l : List Load) : State := l.foldl State.applyLoad s

/-- True for a register slot that a live section may set (R94): those of the shared units' requesters, the axes, Cascade, the
line masters, Mirage and Spout. -/
def liveReg (a : Nat) : Bool :=
  decide (0x10000 ≤ a ∧ a < 0x20000) || decide (0x80000 ≤ a ∧ a < 0xD0000) || decide (0xF0000 ≤ a ∧ a < 0x110000)

/-- True for what a live section loads; every other item belongs to a restart-type section, which a live switch does not change
(R2, R94, R110). -/
def liveLoad : Load → Bool
  | .reg a _ => liveReg a
  | .mem a b => decide (a + b.length ≤ 0x1500000) && !(decide (a < liveBank 192) && decide (0xC00 < a % 0x2000 + b.length))
  | .tags _ | .lineMasters _ => true
  | _ => false

/-- True for an item that goes to the Basin. -/
def basinLoad : Load → Bool
  | .mem a _ => decide (liveBank 0 ≤ a ∧ a < liveBank 192)
  | _ => false

/-- True for an item of the cam store. -/
def camLoad : Load → Bool
  | .mem a _ => decide (0x1180000 ≤ a ∧ a < 0x11C0000)
  | _ => false

/-- The weir of the Mirage channel, of Spout or of the core that an item loads (R114). -/
def loadWeir : Load → Option Nat
  | .reg a _ =>
    if 0xF0000 ≤ a && a < 0xF2000 then some (283 + (a - 0xF0000) / 0x100)
    else if 0x100000 ≤ a && a < 0x100048 then some 507 else none
  | .mem a _ =>
    if 0x011C0000 ≤ a && a < 0x01200000 then some 507
    else if 0x01400000 ≤ a && a < 0x01500000 then some (275 + (a - 0x01400000) / 0x20000) else none
  | _ => none

/-- True for an item that would change what stands in the unit. -/
def State.loadChanges (s : State) : Load → Bool
  | .reg a v => match Reg.ofAddr a with
    | some r => s.reg r != BitVec.ofNat 48 v
    | none => false
  | .mem a b => s.bytes a b.length != b
  | _ => true

/-- CLOSURE of a drive's axes stays as it was, whatever an image says while the chip runs (R22). -/
def State.keepClosure (s was : State) (bank : Nat → Nat) : State :=
  if !s.isDrive then s
  else s.each allAxes (fun n s =>
    if was.kind n = kindLOCAL then s.store (bank n) 8 (putBits (s.load (bank n) 8) 4 1 (was.closure n)) else s)

/-- The axes whose live bank a list of items writes. -/
def axesLoaded (l : List Load) : List Nat :=
  (l.filterMap (fun x => match x with
    | .mem a _ => if liveBank 0 ≤ a && a < liveBank 192 then some ((a - liveBank 0) / 0x2000) else none
    | _ => none)).eraseDups

end Sys2Proof.Machine
end

