-- ==== Sys2Proof/Machine/AdmOps.lean ====
section
/-! DEFINITION. The admission check, its shed sets, shedding and readmission (04_shared_resources.md, R135 to R148, R706),
and the default classes and pledges (R121). -/
namespace Sys2Proof.Machine

/-- A failed test: REASON, UNIT, SLOT, INDEX of SHR.ADM_STAT. -/
structure AdmFail where
  reason : Nat
  unit : Nat := 0
  slot : Nat := 0
  index : Nat := 0
  deriving DecidableEq, Repr

/-- The first failure of a list of tests. -/
def firstFail : List (Option AdmFail) → Option AdmFail
  | [] => none
  | none :: t => firstFail t
  | some f :: _ => some f

/-- A test that gives one failure. -/
def failIf (b : Bool) (f : AdmFail) : Option AdmFail := if b then some f else none

/-! ### Units, capacities and pledges (R119 to R121) -/

/-- Ticks of the static segment. -/
def State.staticTicks (s : State) : Nat := s.fld .netSegCfg fNetSegCfg_SLOT_COUNT * s.segTicks fNetSegCfg_SLOT_LEN

/-- C of unit u with J Jets in service (R119). -/
def State.unitCap (s : State) (u j : Nat) : Nat :=
  if u = 0 then s.jetCap j
  else if u = 4 then s.staticTicks / 2
  else if u = 5 then s.msCount - s.rngMs
  else if u = 7 then 0
  else if u = 8 then s.cycLen / 16
  else s.cycLen / 4

/-- 85 per cent of a capacity, rounded down (R137). -/
def admLimit (c : Nat) : Nat := c * 85 / 100

/-- The pledge of a requester: PLEDGE of a requester in the pledged class. -/
def State.pledgeOf (s : State) (u r : Nat) : Nat :=
  if s.fld (.shrReqCfg u r) fShrReqCfg_CLASS = 1 then s.fld (.shrReqCfg u r) fShrReqCfg_PLEDGE else 0

/-- Requester indexes of a unit (R119, R120). -/
def unitReqs (u : Nat) : List Nat :=
  if u = 0 ∨ u = 4 ∨ u = 5 then List.range 192
  else if u = 1 ∨ u = 8 then List.range 128
  else if u = 2 ∨ u = 3 then upFrom 1 16 ++ upFrom 32 8
  else if u = 6 then List.range 32
  else upFrom 1 16

/-- The sum of a list. -/
def sumOf (l : List Nat) : Nat := l.foldl (fun a b => a + b) 0

/-- The axes that hold a Jet pledge, without those removed. -/
def State.pledgedAxes (s : State) (rm : List Nat) : List Nat :=
  allAxes.filter (fun n => s.kind n != kindNONE && decide (0 < s.costOf n) && !rm.contains n)

/-- The length of the frames of node k in code groups. -/
def State.frameGroups (s : State) (k : Nat) : Nat := 14 + 16 * (s.fld (.nodeCfg k) fNodeCfg_NREC + s.fld (.nodeCfg k) fNodeCfg_NSC)

/-- The sums of pledges of unit u: one, or one for each downlink or branch (R137). -/
def State.pledgeSums (s : State) (u : Nat) (rm : List Nat) : List Nat :=
  if u = 0 then [sumOf ((s.pledgedAxes rm).map (fun n => s.costOf n))]
  else if u = 4 then (List.range 64).map (fun p => sumOf ((allFwd.filter (fun e =>
    s.flag (.fwdCfg e) fFwdCfg_USED && s.fld (.fwdCfg e) fFwdCfg_DST_PORT == p)).map (fun e => s.pledgeOf 4 e)))
  else if u = 5 then (List.range 64).map (fun p => sumOf (((List.range 192).filter (fun f =>
    s.flag (.flowCfg f) fFlowCfg_USED && s.fld (.flowCfg f) fFlowCfg_PORT == p)).map (fun f => s.pledgeOf 5 f)))
  else if u = 7 then [0]
  else [sumOf ((unitReqs u).map (fun r => s.pledgeOf u r))]

/-- The greatest of a list. -/
def maxOf (l : List Nat) : Nat := l.foldl max 0

/-- UNIT_CAP and UNIT_PLEDGE of unit u show C and the pledges in force. -/
def State.showUnit (s : State) (j : Nat) (rm : List Nat) (u : Nat) : State :=
  let c := s.unitCap u j
  let p := maxOf (s.pledgeSums u rm)
  let s := s.setFld (.shrUnitCap u) fShrUnitCap_CAP c
  let s := s.setFld (.shrUnitPledge u) fShrUnitPledge_PLEDGED p
  s.setFld (.shrUnitPledge u) fShrUnitPledge_LOAD_PM (if c = 0 then 0 else satU 10 (p * 1000 / c))

/-- UNIT_CAP and UNIT_PLEDGE of every unit. -/
def State.showUnits (s : State) (j : Nat) (rm : List Nat) : State := s.each (List.range 9) (fun u s => s.showUnit j rm u)

/-- Default pledges on units 2 and 3 in per mille of C (R121). -/
def defaultPledges : List (Nat × Nat) :=
  [(32, 250), (33, 100), (34, 80), (35, 10), (36, 10), (39, 40), (37, 100), (38, 40), (12, 20), (13, 10)]

/-- CLASS and PLEDGE of a requester. -/
def State.setPledge (s : State) (u r cls p : Nat) : State :=
  (s.setFld (.shrReqCfg u r) fShrReqCfg_CLASS cls).setFld (.shrReqCfg u r) fShrReqCfg_PLEDGE p

/-- The control-plane requesters of units 2 and 3, whose class no image changes (R19, R121). -/
def fixedPledged (u r : Nat) : Bool := (u == 2 || u == 3) && [32, 33, 34, 35, 36, 39].contains r

/-- A requester that the image does not name takes its default class; a control-plane requester of units 2 and 3 is pledged whatever
the image says (R19, R121). -/
def State.defaultClass (s : State) (u r : Nat) : State :=
  let c := s.fld (.shrReqCfg u r) fShrReqCfg_CLASS
  if c = 1 || (c ≠ 0 && !fixedPledged u r) then s
  else if u = 2 ∨ u = 3 then
    match tabGet 0 defaultPledges r with
    | 0 => s.setPledge u r 2 0
    | m => s.setPledge u r 1 (s.unitCap u 0 * m / 1000)
  else s.setPledge u r 2 0

/-- The pledges of forwarding entries, then the defaults of R121 where the image names none (R119). -/
def State.otherPledges (s : State) : State :=
  let s := s.each allFwd (fun e s =>
    if s.flag (.fwdCfg e) fFwdCfg_USED then s.setPledge 4 e 1 (s.frameGroups (s.fld (.fwdCfg e) fFwdCfg_SRC_NODE))
    else s.setPledge 4 e 0 0)
  s.each [1, 2, 3, 5, 6, 7, 8] (fun u s => s.each (unitReqs u) (fun r s => s.defaultClass u r))

/-- The Jet pledge of axis n is the one its descriptor gives (R135). -/
def State.axisPledge (s : State) (n : Nat) : State :=
  if s.kind n = kindNONE then s.setPledge 0 n 0 0 else s.setPledge 0 n 1 (s.costOf n)

/-- The Jet pledge of an axis that is not shed follows its descriptor after a swap, and unit 0 shows the sum (R142). -/
def State.repledge (s : State) (n : Nat) : State :=
  if s.adm.shed.contains n || s.pledgeOf 0 n == (if s.kind n = kindNONE then 0 else s.costOf n) then s
  else (s.axisPledge n).showUnit (s.fld .jetStat fJetStat_J) s.adm.shed 0

/-- Classes and pledges at configuration: the image's, then what descriptors and forwarding entries pledge (R119, R135), then
the defaults of R121. -/
def State.pledgeDefaults (s : State) : State := (s.each allAxes (fun n s => s.axisPledge n)).otherPledges

/-! ### COUNTS and PLEDGE_SUM (R137, R157 to R159, R571) -/

/-- No value of a list occurs twice. -/
def noRepeat (l : List (Nat × Nat)) : Bool := l.length == l.eraseDups.length

/-- COUNTS, over every axis, shed or not; `was` is the running configuration when a live switch is checked (R159). -/
def State.testCounts (s : State) (was : Option State) : Option AdmFail :=
  let axes := allAxes
  let fed := axes.filter (fun n => s.kind n == kindNETWORK || (s.kind n == kindOBSERVER && !s.srcEnc n))
  let net := (axes.filter (fun n => s.kind n == kindNETWORK)).map (fun n => (s.nodeOf n, s.recOf n))
  let drive := s.isDrive && axes.any (fun n => if n < 12 then s.kind n != kindNONE && s.kind n != kindLOCAL else s.kind n != kindNONE)
  let driveNet := s.isDrive && (allNodes.any (fun k => s.nodeUsed k) || allFwd.any (fun e => s.flag (.fwdCfg e) fFwdCfg_USED) ||
    (List.range 192).any (fun f => f != 0 && s.flag (.flowCfg f) fFlowCfg_USED))
  let perNode := allNodes.any (fun k => decide (8 < (net.filter (fun p => p.1 == k)).length))
  let perPort := (List.range 64).any (fun p => decide (4 < (s.nodesOn p).length))
  let local12 := decide (12 < (axes.filter (fun n => s.encoderFed n)).length)
  let records := fed.any (fun n => !s.nodeUsed (s.nodeOf n) || decide (s.fld (.nodeCfg (s.nodeOf n)) fNodeCfg_NREC ≤ s.recOf n))
  let moved := match was with
    | none => false
    | some w => allAxes.any (fun n => (s.kind n == kindLOCAL) != (w.kind n == kindLOCAL) ||
        s.localCh n != w.localCh n)
  failIf (drive || driveNet || perNode || perPort || local12 || records || !noRepeat net || moved) { reason := 1 }

/-- R571. -/
def State.spoutPledgesBad (s : State) : Bool :=
  let n := ((List.range 128).filter (fun t => s.fld (.shrReqCfg 1 t) fShrReqCfg_CLASS == 1)).length
  decide (7 < n) || (decide (0 < n) && decide (48 < s.fld .sptCfg fSptCfg_REP_LIM))

/-- PLEDGE_SUM of unit u: the first sum beyond 85 per cent of C. -/
def State.testPledge (s : State) (u j : Nat) (rm : List Nat) : Option AdmFail :=
  match (s.pledgeSums u rm).zipIdx.find? (fun x => decide (admLimit (s.unitCap u j) < x.1)) with
  | some x => some { reason := 2, unit := u, index := x.2 }
  | none => failIf (u == 1 && s.spoutPledgesBad) { reason := 2, unit := 1 }

/-! ### SLOT_LOAD and RECOMPUTE (R138, R140) -/

/-- A release of the slot-load model: its tick, axis, cost, and whether it is a recompute. -/
structure Rel where
  tick : Nat
  axis : Nat
  cost : Nat
  re : Bool := false
  deriving DecidableEq, Repr

/-- A grant of the model: the axis, its wait, the tick of its end, whether it was a recompute. -/
structure Grant where
  axis : Nat
  wait : Nat
  ends : Nat
  re : Bool
  deriving DecidableEq, Repr

/-- The model's Jets: for each the axis it works for and the tick from which it is free. -/
abbrev ModelJets := List (Nat × Nat)

/-- The waiting release that R127 chooses. -/
def relBest (ptr : Nat) : List Rel → Option Rel
  | [] => none
  | q :: t =>
    match relBest ptr t with
    | none => some q
    | some b => if b.tick < q.tick || (b.tick == q.tick && decide (ptrDist ptr b.axis < ptrDist ptr q.axis)) then some b else some q

/-- Replace the first Jet free at a tick. -/
def takeJet (t axis ends : Nat) : ModelJets → ModelJets
  | [] => []
  | j :: l => if j.2 ≤ t then (axis, ends) :: l else j :: takeJet t axis ends l

/-- The releases of a tick join those waiting; a recompute cancels what its axis has running or waiting (R140). -/
def arrive (t : Nat) (rel : List Rel) (jets : ModelJets) (wait : List Rel) : ModelJets × List Rel :=
  let re := (rel.filter (fun r => r.re)).map (fun r => r.axis)
  (jets.map (fun j => if re.contains j.1 && decide (t < j.2) then (j.1, t) else j),
   wait.filter (fun w => !re.contains w.axis) ++ rel)

/-- The least of two optional ticks. -/
def minTick : Option Nat → Option Nat → Option Nat
  | none, b => b
  | a, none => a
  | some a, some b => some (min a b)

/-- The model runs from a tick: grants while a Jet is free and a release waits, then the next tick at which one comes or a Jet
becomes free (DEDUCED, log entry 78). -/
def slotModel : Nat → Nat → Nat → ModelJets → List Rel → List Rel → List Grant
  | 0, _, _, _, _, _ => []
  | fuel + 1, t, ptr, jets, wait, next =>
    match (if jets.any (fun j => decide (j.2 ≤ t)) then relBest ptr wait else none) with
    | some q =>
      let p := if 2 ≤ wait.length then (q.axis + 1) % 192 else ptr
      { axis := q.axis, wait := t - q.tick, ends := t + q.cost, re := q.re } ::
        slotModel fuel t p (takeJet t q.axis (t + q.cost) jets) (wait.erase q) next
    | none =>
      let tn := (next.map (fun r => r.tick)).foldl (fun a b => minTick a (some b)) none
      let tj := if wait.isEmpty then none else (jets.map (fun j => j.2)).foldl (fun a b => minTick a (some b)) none
      match minTick tn tj with
      | none => []
      | some t' =>
        let u := max t t'
        let a := arrive u (next.filter (fun r => decide (r.tick ≤ u))) jets wait
        slotModel fuel u ptr a.1 a.2 (next.filter (fun r => decide (u < r.tick)))

/-- The nodes of a slot index. -/
def State.slotNodes (s : State) (i : Nat) : List Nat :=
  allNodes.filter (fun k => s.nodeUsed k && s.fld (.nodeCfg k) fNodeCfg_SLOT == i)

/-- The NETWORK axes of a slot index with Jet work, without those removed. -/
def State.slotAxes (s : State) (i : Nat) (rm : List Nat) : List Nat :=
  let nodes := s.slotNodes i
  allAxes.filter (fun n => s.kind n == kindNETWORK && nodes.contains (s.nodeOf n) && decide (0 < s.cycCost n) && !rm.contains n)

/-- The tick of a frame's start in the cycle. -/
def State.frameTick (s : State) (i : Nat) : Nat := s.slotStart i + s.apo

/-- The releases of a slot index: each record at its completion (R136). -/
def State.slotReleases (s : State) (i : Nat) (rm : List Nat) : List Rel :=
  (s.slotAxes i rm).map (fun n => { tick := s.frameTick i + 2 * (9 + 16 * (s.recOf n + 1)), axis := n, cost := s.cycCost n })

/-- The tick at which the frame check sequence of node k's frame completes. -/
def State.fcsTick (s : State) (i k : Nat) : Nat := s.frameTick i + 2 * (s.frameGroups k - 1)

/-- The recomputes of a slot index, every frame failing. -/
def State.slotRecomputes (s : State) (i : Nat) (rm : List Nat) : List Rel :=
  (s.slotAxes i rm).map (fun n => { tick := s.fcsTick i (s.nodeOf n), axis := n, cost := s.cycCost n, re := true })

/-- The grants of the model with J Jets. -/
def runModel (j : Nat) (l : List Rel) : List Grant :=
  slotModel (4 * l.length + 8) 0 0 (List.replicate j (192, 0)) [] l

/-- The axes that the model never serves, or serves too late, in grant order. -/
def State.slotMiss (s : State) (i j : Nat) (rm : List Nat) : Option Nat :=
  let l := s.slotReleases i rm
  if j = 0 then (l.map (fun r => r.axis)).head?
  else ((runModel j l).find? (fun g => decide (12 < g.wait))).map (fun g => g.axis)

/-- The first axis whose recompute is not committed within 280 ns of its frame's last symbol. -/
def State.recomputeMiss (s : State) (i j : Nat) (rm : List Nat) : Option Nat :=
  let l := s.slotReleases i rm ++ s.slotRecomputes i rm
  if j = 0 then (l.map (fun r => r.axis)).head?
  else ((runModel j l).find? (fun g => g.re && decide (s.fcsTick i (s.nodeOf g.axis) + 142 < g.ends))).map (fun g => g.axis)

/-- The slot indexes. -/
def State.slots (s : State) : List Nat := List.range (s.fld .netSegCfg fNetSegCfg_SLOT_COUNT)

/-- SLOT_LOAD. -/
def State.testSlot (s : State) (j : Nat) (rm : List Nat) : Option AdmFail :=
  firstFail (s.slots.map (fun i => (s.slotMiss i j rm).map (fun n => { reason := 3, slot := i, index := n })))

/-- RECOMPUTE. -/
def State.testRecompute (s : State) (j : Nat) (rm : List Nat) : Option AdmFail :=
  firstFail (s.slots.map (fun i => (s.recomputeMiss i j rm).map (fun n => { reason := 4, slot := i, index := n })))

/-! ### CASCADE, OI_ARRIVAL, CAM_IN_USE (R246, R247, R453, R480, R285) -/

/-- The cost of axis n in a pass (R247). -/
def State.passCost (s : State) (n : Nat) : Nat :=
  if s.kind n = kindNONE ∨ s.kind n = kindOBSERVER then 0
  else if s.casMode n = 0 then 8 else if s.casMode n = 1 then 12 else 32

/-- A number divided by 4, rounded up. -/
def quarterUp (n : Nat) : Nat := (n + 3) / 4

/-- Ticks of a pass by R247. -/
def State.passTicks (s : State) : Nat :=
  let p := quarterUp (s.fld .casCtl fCasCtl_PLAN_MAX * 120 + 20 * s.casSys.lms) + 16
  sumOf ((List.range 4).map (fun r =>
    match s.passAxes.filter (fun n => s.rankOf 5 n == r) with
    | [] => 0
    | l => quarterUp (sumOf (l.map (fun n => s.passCost n))) + 16)) + p

/-- CASCADE: ranks, and the end of the pass before STATIC_START of the next cycle; in a twin head the copy too (R480). Times in
half nanoseconds. -/
def State.testCascade (s : State) : Option AdmFail :=
  let ends := 4 * (s.casStart + s.passTicks)
  let limit := s.cycLen + 4 * s.segTicks fNetSegCfg_STATIC_START
  let copy := max (ends + 32) (4 * s.segTicks fNetSegCfg_STATIC_START + 6320) + 2 * (3880 + 150 + 128)
  failIf (s.passAxes.any (fun n => decide (3 < s.rankOf 5 n)) || decide (limit < ends) || (s.twin && decide (limit < copy)))
    { reason := 5 }

/-- λ moved past the forwarding windows on a downlink (R453), in ticks. -/
def State.lambdaClear (s : State) (p len : Nat) : Nat → Nat → Nat
  | 0, l => l
  | fuel + 1, l =>
    match allFwd.find? (fun e => s.flag (.fwdCfg e) fFwdCfg_USED && s.fld (.fwdCfg e) fFwdCfg_DST_PORT == p &&
        (let a := 2 * s.fld (.fwdCfg e) fFwdCfg_WIN_START
         let b := a + 2 * s.frameGroups (s.fld (.fwdCfg e) fFwdCfg_SRC_NODE) + 8
         decide (a ≤ l + 2 * len + 8) && decide (l ≤ b))) with
    | none => l
    | some e => s.lambdaClear p len fuel
        (2 * s.fld (.fwdCfg e) fFwdCfg_WIN_START + 2 * s.frameGroups (s.fld (.fwdCfg e) fFwdCfg_SRC_NODE) + 16)

/-- λ of each owned slot of port p in order: the node and its latest launch in ticks (R453). -/
def State.lambdas (s : State) (p : Nat) : List (Nat × Nat) :=
  let owned := s.slots.flatMap (fun i => (s.nodesOn p).filter (fun k => s.fld (.nodeCfg k) fNodeCfg_SLOT == i))
  (owned.foldl (fun acc k =>
    let own := s.slotStart (s.fld (.nodeCfg k) fNodeCfg_SLOT) + s.segTicks fNetSegCfg_SLOT_LEN -
      s.grdTicks fNetGrdCfg_G_CLOSE + 200
    let l := match acc with
      | [] => own
      | x :: _ => max own (x.2 + 2 * s.frameGroups x.1 + 8)
    (k, s.lambdaClear p (s.frameGroups k) 192 l) :: acc) []).reverse

/-- True for a node with an axis in latched output mode (R44). -/
def State.latchedNode (s : State) (k : Nat) : Bool := (s.netAxesOf k).any (fun n => !s.immediate n)

/-- OI_ARRIVAL: the first latched-mode node whose command can arrive after OI (R43). -/
def State.testOi (s : State) : Option AdmFail :=
  ((((List.range 64).flatMap (fun p => s.lambdas p)).find? (fun x => s.latchedNode x.1 &&
    decide (2 * s.oiTicks < 2 * x.2 + 4 * s.frameGroups x.1 + tabGet 0 s.net.ldMax x.1 + 100 * s.fld (.nodeCfg x.1) fNodeCfg_POS))).map
    (fun x => { reason := 6, index := x.1 }))

/-- The cam tables that a list of items writes to: their descriptors, or points of them. -/
def State.camsLoaded (s : State) (l : List Load) : List Nat :=
  (List.range 64).filter (fun t => l.any (fun x => match x with
    | .reg a _ => a == (Reg.casCam t).addr
    | .mem a b =>
      let lo := camBase + 16 * s.fld (.casCam t) fCasCam_FIRST
      decide (a < lo + 16 * s.fld (.casCam t) fCasCam_COUNT) && decide (lo < a + b.length)
    | _ => false))

/-- CAM_IN_USE (R285). -/
def State.testCam (s : State) (l : List Load) : Option AdmFail :=
  ((s.camsLoaded l).find? (fun t => decide (0 < s.camUse t))).map (fun t => { reason := 8, index := t })

/-! ### The check (R137, R145, R706) -/

/-- Tests 1 to 6 with J Jets and some axes removed. -/
def State.admTests (s : State) (j : Nat) (rm : List Nat) (was : Option State) : Option AdmFail :=
  firstFail ([s.testCounts was] ++ (List.range 9).map (fun u => s.testPledge u j rm) ++
    [s.testSlot j rm, s.testRecompute j rm, s.testCascade, s.testOi])

/-- The axis that R145 removes after a failed test: the lowest priority, the highest number, within the test's scope. -/
def State.shedChoice (s : State) (f : AdmFail) (rm : List Nat) : Option Nat :=
  let cands := if f.reason = 3 ∨ f.reason = 4 then (s.slotAxes f.slot rm).filter (fun n => decide (0 < s.costOf n))
    else s.pledgedAxes rm
  cands.foldl (fun b n => match b with
    | none => some n
    | some m => if s.prio n ≤ s.prio m then some n else some m) none

/-- The axes removed until the tests pass, in order, and whether they do. -/
def State.shedLoop (s : State) (j : Nat) (was : Option State) : Nat → List Nat → List Nat × Bool
  | 0, rm => (rm, false)
  | fuel + 1, rm =>
    match s.admTests j rm was with
    | none => (rm, true)
    | some f =>
      match s.shedChoice f rm with
      | none => (rm, false)
      | some n => s.shedLoop j was fuel (rm ++ [n])

/-- The axes to shed besides some already removed with J Jets, and whether the tests then pass. When no set does, it is every
axis with a Jet pledge (R706). -/
def State.shedFor (s : State) (j : Nat) (rm : List Nat) (was : Option State) : List Nat × Bool :=
  let r := s.shedLoop j was 193 rm
  if r.2 then (r.1.drop rm.length, true) else (s.pledgedAxes rm, false)

/-- The whole check on a configuration: its result, and the shed set for J − 1. -/
def State.admission (s : State) (j : Nat) (rm : List Nat) (was : Option State) (loads : List Load) :
    Option AdmFail × List Nat :=
  match s.admTests j rm was with
  | some f => (some f, [])
  | none =>
    let fb := if 1 < j then s.shedFor (j - 1) rm was else ([], true)
    if !fb.2 then (some { reason := 7 }, fb.1)
    else match was with
      | none => (none, fb.1)
      | some w => (w.testCam loads, fb.1)

/-! ### SHR.ADM_STAT and the running configuration (R141, R144 to R147) -/

/-- RESULT, REASON, UNIT, SLOT and INDEX of a completed check; its completion raises a flag. -/
def State.admReport (s : State) (f : Option AdmFail) : State :=
  let g := f.getD { reason := 0 }
  let s := s.setFlag .shrAdmStat fShrAdmStat_RESULT f.isSome
  let s := s.setFld .shrAdmStat fShrAdmStat_REASON g.reason
  let s := s.setFld .shrAdmStat fShrAdmStat_UNIT g.unit
  let s := s.setFld .shrAdmStat fShrAdmStat_SLOT g.slot
  (s.setFld .shrAdmStat fShrAdmStat_INDEX g.index).raise 340

/-- SHED and FALLBACK_N follow (DEDUCED, log entry 78). -/
def State.showShed (s : State) : State :=
  (s.setFld .shrAdmStat fShrAdmStat_SHED s.adm.shed.length).setFld .shrAdmStat fShrAdmStat_FALLBACK_N s.adm.shedSet.length

/-- The precomputed shed set becomes another. -/
def State.setShedSet (s : State) (l : List Nat) : State := ({ s with adm := { s.adm with shedSet := l } }).showShed

/-- A check starts. -/
def State.admBegin (s : State) (kind jets : Nat) : State :=
  ({ s with adm := { s.adm with running := some (kind, jets) } }).setFlag .shrAdmStat fShrAdmStat_BUSY true

/-- A check after a change of J, now or after the one that runs. -/
def State.admAfterJ (s : State) : State :=
  if s.adm.running.isSome then { s with adm := { s.adm with again := true } } else s.admBegin 1 0

/-- J as it stands. -/
def State.jNow (s : State) : Nat := s.fld .jetStat fJetStat_J

/-- What a write of SHR.ADM_CTL is refused with. -/
def State.admRefuse (s : State) (v : Word48) : List Nat :=
  refuseIf (decide (16 < wordFld v fShrAdmCtl_HYP_JETS)) cACCESS ++
  refuseIf (wordFld v fShrAdmCtl_CHECK == 1 && s.flag .shrAdmStat fShrAdmStat_BUSY) cBUSY

/-- CHECK = 1 (R141). -/
def State.admCheck (s : State) : State := s.admBegin 0 (s.fld .shrAdmCtl fShrAdmCtl_HYP_JETS)

/-- An axis is shed (R144, R146): its pledge, JET_SHED, the dropped command; in HOLD no homing goes on, and the check of R301
ends. -/
def State.shedAxis (s : State) (n : Nat) : State :=
  let s := s.setFlag (.axsStat n) fAxsStat_JET_SHED true
  let s := s.setPledge 0 n 0 0
  let s := { s with adm := { s.adm with shed := s.adm.shed ++ [n] } }
  if s.ax n = axRELOADING then s
  else
    let s := ((s.cmdDrop n).reloadTask n).homeAbort n
    (s.setStop n { s.stop n with watch := false }).setAx n axHOLD

/-- A shed axis is readmitted: its pledge is back and it leaves HOLD for READY. -/
def State.readmitAxis (s : State) (n : Nat) : State :=
  let s := { s with adm := { s.adm with shed := s.adm.shed.erase n } }
  let s := s.setPledge 0 n 1 (s.costOf n)
  if s.ax n = axHOLD then s.setAx n axREADY else s

/-- What the checks do about a change of the Jets in service (R144, R147) (DEDUCED, log entry 78). -/
def State.shedRecheck (s : State) (was j : Nat) : State :=
  if j < was then (s.setShedSet []).admAfterJ
  else if was < j then
    if s.adm.shed.isEmpty then s.admAfterJ
    else
      let s := { s with adm := { s.adm with back := s.adm.shed.reverse } }
      if s.adm.running.isSome then s else s.admBegin 3 0
  else s

/-- Shedding and readmission at a boundary with J Jets in service, of which there were `was` (R144, R147). -/
def State.shedBoundary (s : State) (was j : Nat) : State :=
  let fell := decide (j < was)
  let l := s.adm.toHold ++ (if fell then s.adm.shedSet.filter (fun n => !s.adm.toHold.contains n) else [])
  let ready := s.adm.toReady
  let s := { s with adm := { s.adm with toHold := [], toReady := [] } }
  let s := if l.isEmpty then s else s.abdMark
  let s := s.each l (fun n s => s.shedAxis n)
  let s := s.each ready (fun n s => s.readmitAxis n)
  let s := s.shedRecheck was j
  s.doIf (!(l.isEmpty && ready.isEmpty && was == j)) (fun s => (s.showUnits j s.adm.shed).showShed)

/-- The next check after one ends: a change of J first, then shed axes to be tried (R147). -/
def State.admNext (s : State) : State :=
  let s := ({ s with adm := { s.adm with running := none } }).setFlag .shrAdmStat fShrAdmStat_BUSY false
  if s.adm.again then ({ s with adm := { s.adm with again := false } }).admBegin 1 0
  else if !s.adm.back.isEmpty then s.admBegin 3 0 else s

/-- A check on the running configuration after a change of J ends (R144): further axes to shed, and the set for one Jet fewer. It
refuses nothing (R706). -/
def State.admDoneJ (s : State) : State :=
  let j := s.jNow
  let rm := s.adm.shed ++ s.adm.toHold
  match s.admTests j rm none with
  | some _ =>
    let more := (s.shedFor j rm none).1
    let s := { s with adm := { s.adm with toHold := s.adm.toHold ++ more } }
    (s.setShedSet (if 1 < j then (s.shedFor (j - 1) (rm ++ more) none).1 else [])).admReport none
  | none => (s.setShedSet (if 1 < j then (s.shedFor (j - 1) rm none).1 else [])).admReport none

/-- The axis added back is admitted (R147): the precomputed set becomes the one that goes with it. -/
def State.admBackIn (s : State) (n j : Nat) (rm : List Nat) : State :=
  let s := { s with adm := { s.adm with toReady := s.adm.toReady ++ [n] } }
  (s.setShedSet (if 1 < j then (s.shedFor (j - 1) rm none).1 else [])).admReport none

/-- The tests of a check with axis n added back (R147): it is kept where they pass, and nothing is refused (R706). -/
def State.admBackTests (s : State) (n : Nat) : State :=
  let rm := (s.adm.shed.filter (fun m => m != n && !s.adm.toReady.contains m))
  match s.admTests s.jNow rm none with
  | some _ => s.admReport none
  | none => s.admBackIn n s.jNow rm

/-- A check with one shed axis added back ends (R147) (DEDUCED, log entry 78). -/
def State.admDoneBack (s : State) : State :=
  match s.adm.back with
  | [] => s
  | n :: rest => ({ s with adm := { s.adm with back := rest } }).admBackTests n

/-- CHECK ends: it reports and changes nothing else (R706). -/
def State.admDoneCheck (s : State) (jets : Nat) : State :=
  s.admReport (s.admission (if jets = 0 then s.jNow else jets) s.adm.shed none []).1

end Sys2Proof.Machine
end

