-- ==== Sys2Proof/Machine/MirageOps.lean ====
section
/-! DEFINITION. Mirage acquisition (16_mirage.md, R532 to R554). -/
namespace Sys2Proof.Machine

def mirIDLE : Nat := 0
def mirREARM : Nat := 1
def mirPRE : Nat := 2
def mirREADY : Nat := 3
def mirPOST : Nat := 4
def mirDONE : Nat := 5
def mirROLL : Nat := 6

/-- The base of the capture memory and its size (R36). -/
def mirBase : Nat := 0x01200000
def mirSize : Nat := 0x200000

/-- STATE of channel c (R541). -/
def State.mirState (s : State) (c : Nat) : Nat := s.fld (.mirStat c) fMirStat_STATE
/-- Set the state of channel c. -/
def State.setMirState (s : State) (c st : Nat) : State := s.setFld (.mirStat c) fMirStat_STATE st
/-- MODE: 0 SINGLE, 1 MULTI, 2 ROLL. -/
def State.mirMode (s : State) (c : Nat) : Nat := s.fld (.mirRate c) fMirRate_MODE
/-- LEN in effect. -/
def State.mirLen (s : State) (c : Nat) : Nat := s.fld (.mirRing c) fMirRing_LEN
/-- WR. -/
def State.mirWr (s : State) (c : Nat) : Nat := s.fld (.mirPtr c) fMirPtr_WR
/-- RD. -/
def State.mirRd (s : State) (c : Nat) : Nat := s.fld (.mirPtr c) fMirPtr_RD
/-- ACQ_LEN. -/
def State.mirAcqLen (s : State) (c : Nat) : Nat := s.fld (.mirAcq c) fMirAcq_ACQ_LEN
/-- PRE of R541. -/
def State.mirPre (s : State) (c : Nat) : Nat := s.mirAcqLen c * s.fld (.mirAcq c) fMirAcq_PRE_PCT / 100
/-- UPL. -/
def State.mirUpl (s : State) (c : Nat) : Nat := s.fld (.mirCtl c) fMirCtl_UPL
/-- T_KIND and T_IDX (R546). -/
def State.mirTk (s : State) (c : Nat) : Nat := s.fld (.mirTrig c) fMirTrig_T_KIND
/-- T_IDX. -/
def State.mirTi (s : State) (c : Nat) : Nat := s.fld (.mirTrig c) fMirTrig_T_IDX
/-- The channels. -/
def mirAll : List Nat := List.range 32

/-- Unread records (R539). -/
def State.mirUnread (s : State) (c : Nat) : Nat :=
  let l := s.mirLen c
  if l = 0 then 0 else (s.mirWr c + l - s.mirRd c % l) % l

/-- Free space (R539). -/
def State.mirFree (s : State) (c : Nat) : Nat := s.mirLen c - 1 - s.mirUnread c

/-! ### Cross-instrument lines (R548, R549) -/

/-- True while Mirage drives line k. -/
def State.xtlDriven (s : State) (k : Nat) : Bool :=
  mirAll.any (fun c => match (s.mir c).xtl with | some x => x.1 == k && decide (s.now < x.2.2) | none => false)

/-- True when Mirage drove line k in tick t. -/
def State.xtlDrivenAt (s : State) (k t : Nat) : Bool :=
  mirAll.any (fun c => match (s.mir c).xtl with | some x => x.1 == k && decide (x.2.1 ≤ t) && decide (t < x.2.2) | none => false)

/-- MIR.XTL follows the pins and the drives: a driven line is low. -/
def State.xtlShow (s : State) : State :=
  s.each (List.range 4) (fun k s =>
    let d := s.xtlDriven k
    let s := s.setFld .mirXtl fMirXtl_DRIVEN (putBit (s.fld .mirXtl fMirXtl_DRIVEN) k d)
    s.setFld .mirXtl fMirXtl_LEVEL (putBit (s.fld .mirXtl fMirXtl_LEVEL) k (bitOf s.pins (36 + k) && !d)))

/-- The pins take levels from outside. -/
def State.setBalls (s : State) (p : Nat) : State := ({ s with pins := p % 2 ^ 41 }).xtlShow

/-- True when a drive of channel c ends (R548). -/
def State.xtlEnds (s : State) (c : Nat) : Bool :=
  match (s.mir c).xtl with
  | some x => decide (x.2.2 ≤ s.now) && bitOf (s.fld .mirXtl fMirXtl_DRIVEN) x.1
  | none => false

/-! ### Triggers (R546, R547) -/

/-- Counters of channel c. -/
def State.mirCount (s : State) (c : Nat) (f : Fld) : State := s.incSat (.mirCnt0 c) f

/-- A trigger is accepted: POST, and the line driven (R547, R548). -/
def State.mirAccept (s : State) (c tick : Nat) (time : Word48) (short : Bool) : State :=
  let k := s.fld (.mirTrig c) fMirTrig_XTL_OUT
  let h := s.mir c
  let x := if 1 ≤ k && k ≤ 4 then some (k - 1, tick, tick + s.fld (.mirTrig c) fMirTrig_XTL_W * usTicks) else h.xtl
  let s := s.setMir c { h with trigT := some (time, tick), short := short, trigDue := true, postN := 0, xtl := x }
  (s.setMirState c mirPOST).xtlShow

/-- A trigger of channel c by its state in the act tick (R547); several in one tick count as one. -/
def State.mirTrigger1 (s : State) (c tick : Nat) (time : Word48) : State :=
  let st := s.mirState c
  let h := s.mir c
  let s := s.setMir c { h with acted := some tick }
  if st = mirPRE then
    if s.flag (.mirAcq c) fMirAcq_PRE_FULL_REQ then s.mirCount c fMirCnt0_IGNORED_EARLY else s.mirAccept c tick time true
  else if st = mirREADY then s.mirAccept c tick time false
  else if st = mirREARM then
    (s.mirCount c fMirCnt0_MISSED).setMir c { s.mir c with missed := satU 12 (h.missed + 1)
                                                           missT := if h.missed = 0 then time else h.missT }
  else if st = mirPOST then s.incSat (.mirCnt1 c) fMirCnt1_RETRIG
  else s

/-- A trigger of channel c and of the channels that follow it (R546, T_KIND 5), to a depth (DEDUCED, log entry 67). -/
def State.mirTrigger (s : State) : Nat → Nat → Nat → Word48 → State
  | 0, _, _, _ => s
  | d + 1, c, tick, time =>
    if !s.weirOpen (283 + c) || (s.mir c).acted = some tick then s
    else
      let s := s.mirTrigger1 c tick time
      (mirAll.filter (fun x => x != c && s.mirTk x == 5 && s.mirTi x == c)).foldl (fun (s : State) x => s.mirTrigger d x tick time) s

/-- A trigger acts now. -/
def State.mirTrigNow (s : State) (c : Nat) : State := s.mirTrigger 32 c s.now s.t48

/-- Comparator i of KIND 3 fires (T_KIND 3) (DEDUCED, log entry 67). -/
def mirFire (i : Nat) (s : State) : State :=
  (mirAll.filter (fun c => s.mirTk c == 3 && s.mirTi c == i)).foldl (fun (s : State) c => s.mirTrigNow c) s

/-- A fault cause of axis n latches (T_KIND 7). -/
def State.mirFault (s : State) (n : Nat) : State :=
  (mirAll.filter (fun c => s.mirTk c == 7 && s.mirTi c == n)).foldl (fun (s : State) c => s.mirTrigNow c) s

/-! ### Records in the ring (R535 to R544) -/

/-- The 12 bytes of a record. -/
def mirBytes (c : Nat) (r : MirRec) (dt : Nat) : List Byte :=
  leBytes 6 r.v.toNat ++ leBytes 4 (if r.abs then 0 else dt) ++
  [BitVec.ofNat 8 (c + 32 * b2n r.trig + 64 * b2n r.abs + 128 * b2n r.gap),
   BitVec.ofNat 8 (b2n r.forced + 2 * b2n r.mask + 4 * b2n r.suspect)]

/-- The memory address of slot i of channel c. -/
def State.mirSlot (s : State) (c i : Nat) : Nat := mirBase + s.fld (.mirRing c) fMirRing_BASE * 16 + 12 * i

/-- The slot of an offset of the acquisition from A; past the end of the ring it goes on from 0. -/
def State.mirAt (s : State) (c o : Nat) : Nat :=
  let h := s.mir c
  let x := h.a + o
  if x < h.len0 then x else (x - h.len0) % max 1 (s.mirLen c)

/-- WR goes from the end of the ring to 0: a staged length takes effect (R540). -/
def State.mirWrap (s : State) (c : Nat) : State :=
  let s := s.setFld (.mirPtr c) fMirPtr_WR 0
  if !s.flag (.mirRingCtl c) fMirRingCtl_STAGED then s
  else
    let l := s.mirLen c
    let n := (s.mir c).lenNew
    let rd := s.mirRd c
    let lost := if rd = 0 then 0 else l - max rd n
    let s := (s.setFld (.mirRing c) fMirRing_LEN n).setFlag (.mirRingCtl c) fMirRingCtl_STAGED false
    let s := if n ≤ rd then s.setFld (.mirPtr c) fMirPtr_RD 0 else s
    if lost = 0 then s
    else
      let s := (s.setFlag (.mirStat c) fMirStat_TRUNCATED true).setFld (.mirStat c) fMirStat_TRUNC_CNT lost
      s.raiseIf (s.flag (.mirCtl c) fMirCtl_EV_TRUNC) (275 + c)

/-- WR goes to the slot after i. -/
def State.mirNext (s : State) (c i : Nat) : State :=
  if s.mirLen c ≤ i + 1 then s.mirWrap c else s.setFld (.mirPtr c) fMirPtr_WR (i + 1)

/-- The 12-byte records of n slots of the acquisition from offset o. -/
def State.mirRead (s : State) (c : Nat) (offs : List Nat) : List Byte :=
  offs.flatMap (fun o => s.bytes (s.mirSlot c (s.mirAt c o)) 12)

/-- A record is lost (R538). -/
def State.mirLost (s : State) (c : Nat) : State :=
  let s := s.mirCount c fMirCnt0_LOST
  let h := s.mir c
  let s := s.setMir c { h with force1 := true, gap := true }
  s.raiseIf (s.flag (.mirCtl c) fMirCtl_EV_LOSS) (275 + c)

/-- The dead time ends (R545). -/
def State.mirDead (s : State) (c : Nat) : State :=
  let h := s.mir c
  match h.ended with
  | none => s.setFld (.mirAcqDead c) fMirAcqDead_TICKS 0
  | some t =>
    let d := s.now - t
    let u := satU 24 (d / usTicks)
    let s := s.setFld (.mirAcqDead c) fMirAcqDead_TICKS (satU 32 d)
    let lo := s.fld (.mirDead c) fMirDead_DEAD_MIN
    let s := s.setFld (.mirDead c) fMirDead_DEAD_MIN (if h.deadSeen then min u lo else u)
    let s := s.setFld (.mirDead c) fMirDead_DEAD_MAX (max u (s.fld (.mirDead c) fMirDead_DEAD_MAX))
    s.setMir c { h with ended := none, deadSeen := true }

/-- READY is entered (R543, R545) (DEDUCED, log entry 67). -/
def State.mirToReady (s : State) (c : Nat) : State :=
  let s := s.setMirState c mirREADY
  if s.flag (.mirAcq c) fMirAcq_PRE_FULL_REQ then s.mirDead c else s

/-- True when a channel in REARM may enter PRE (R543). -/
def State.mirMayPre (s : State) (c : Nat) : Bool :=
  s.mirState c == mirREARM && decide (s.mirAcqLen c ≤ s.mirFree c) &&
    (match (s.mir c).holdTo with | some t => decide (t ≤ s.now) | none => true)

/-- PRE is entered, and READY at once when PRE = 0 (R543). -/
def State.mirToPre (s : State) (c : Nat) : State :=
  let h := s.mir c
  let s := s.setMir c { h with holdTo := none, a := s.mirWr c, len0 := s.mirLen c, pre := 0, preOff := 0, postN := 0
                               trigT := none, trigDue := false, short := false, j := none, fails := 0 }
  let s := s.setMirState c mirPRE
  let s := if s.flag (.mirAcq c) fMirAcq_PRE_FULL_REQ then s else s.mirDead c
  if s.mirPre c = 0 then s.mirToReady c else s

/-- The records waiting at the arbiter are withdrawn (R133) (DEDUCED, log entry 67). -/
def State.mirWithdraw (s : State) (c : Nat) : State :=
  (s.arbWithdraw 6 (fun q => q.r == c)).setMir c { s.mir c with waiting := [] }

/-- The upload header (R553). -/
def State.mirHeader (s : State) (c n : Nat) (stream : Bool) : List Byte :=
  let a := s.reg (.mirAcqA c)
  let fl := if stream then 8 else wordFld a fMirAcqA_PRE_SHORT + 2 * wordFld a fMirAcqA_POST_TIMEOUT + 4 * wordFld a fMirAcqA_MASK_END
  leBytes 2 (s.fld (.mirStat c) fMirStat_ACQ_SEQ) ++ [BitVec.ofNat 8 c, BitVec.ofNat 8 fl] ++ leBytes 4 n ++
  (if stream then leBytes 24 0
   else leBytes 6 (s.regN (.mirAcqTrig c)) ++ leBytes 6 (s.regN (.mirAcqRec c)) ++ leBytes 4 (s.regN (.mirAcqDead c)) ++
     leBytes 2 (s.fld (.mirAcqB c) fMirAcqB_MISSED_IN) ++ leBytes 6 (s.regN (.mirAcqMissT c)))

/-- A transfer is handed to the channel's DMA channel (R553); rd is what RD becomes when it completes. -/
def State.mirUpload (s : State) (c rd : Nat) (b : List Byte) : State :=
  (s.setFlag (.mirStat c) fMirStat_UPL_BUSY true).dmaAdd (s.fld (.mirCtl c) fMirCtl_UPL_DMA)
    { mirage := some c, rd := rd, len := b.length, bytes := b }

/-- An acquisition ends (R542, R543): WR, the log, the upload, the next state. -/
def State.mirEnd (s : State) (c : Nat) (timeout mask : Bool) : State :=
  let s := s.mirWithdraw c
  let h := s.mir c
  let pre := s.mirPre c
  let full := decide (pre ≤ h.pre) && decide (0 < pre)
  let oldest := if full then h.preOff else 0
  let wr := if h.trigT.isSome then s.mirAt c (pre + h.postN) else s.mirWr c
  let s := s.setFld (.mirPtr c) fMirPtr_WR wr
  let s := (s.setFld (.mirAcqA c) fMirAcqA_A h.a).setFld (.mirAcqA c) fMirAcqA_PRE_ACT h.pre
  let s := (s.setFlag (.mirAcqA c) fMirAcqA_PRE_SHORT h.short).setFlag (.mirAcqA c) fMirAcqA_POST_TIMEOUT timeout
  let s := (s.setFlag (.mirAcqA c) fMirAcqA_MASK_END mask).setFld (.mirAcqB c) fMirAcqB_POST_ACT h.postN
  let s := (s.setFld (.mirAcqB c) fMirAcqB_PRE_OLDEST oldest).setFld (.mirAcqB c) fMirAcqB_MISSED_IN h.missed
  let s := s.setReg (.mirAcqTrig c) (match h.trigT with | some x => x.1 | none => 0)
  let s := (s.setReg (.mirAcqRec c) (if h.trigT.isSome then h.recT else 0)).setReg (.mirAcqMissT c) (if h.missed = 0 then 0 else h.missT)
  let s := s.incWrap (.mirStat c) fMirStat_ACQ_SEQ
  let offs := (List.range h.pre).map (fun i => (oldest + i) % max 1 pre) ++ upFrom pre h.postN
  let s := if s.mirUpl c = 1 then s.mirUpload c wr (s.mirHeader c offs.length false ++ s.mirRead c offs) else s
  let single := s.mirMode c == 0 || mask
  let s := s.setMirState c (if single then mirDONE else mirREARM)
  let s := if mask then s.setFlag (.mirStat c) fMirStat_MASK_STOP true else s
  let s := s.setMir c { s.mir c with missed := 0, missT := 0, trigT := none, trigDue := false, ended := some s.now
                                     holdTo := if single then none
                                       else some (s.now + s.fld (.mirTrig c) fMirTrig_REARM_HOLD * usTicks) }
  s.raiseIf (s.flag (.mirCtl c) fMirCtl_EV_DONE) (275 + c)

/-- A record is written at a slot; DT counts from the record stored before it (R535, R538). -/
def State.mirWrite (s : State) (c : Nat) (r : MirRec) (slot : Nat) : State :=
  let h := s.mir c
  let dt := match h.lastTick with
    | some t => min (r.tick - t) (2 ^ 32 - 1)
    | none => 0
  let unread := if s.mirUnread c = 0 then s.now else h.unread.getD s.now
  let s := s.setBytes (s.mirSlot c slot) (mirBytes c r dt)
  let s := s.setMir c { h with lastTick := some r.tick, recs := h.recs + 1, unread := some unread }
  s.mirNext c slot

/-- A record is put into the ring by the channel's state (R542, R544): it may fill the pre-trigger part. -/
def State.mirPut (s : State) (c : Nat) (r : MirRec) : State :=
  let st := s.mirState c
  if st = mirROLL then
    if s.mirFree c ≠ 0 then s.mirWrite c r (s.mirWr c)
    else if s.flag (.mirRate c) fMirRate_OVW && s.mirUpl c != 2 then
      let s := (s.setFld (.mirPtr c) fMirPtr_RD ((s.mirRd c + 1) % max 1 (s.mirLen c))).incSat (.mirCnt1 c) fMirCnt1_OVERWRITTEN
      s.mirWrite c r (s.mirWr c)
    else s.mirLost c
  else
    let h := s.mir c
    let pre := s.mirPre c
    if r.post then
      let s := s.mirWrite c r (s.mirAt c (pre + h.postN))
      s.setMir c { s.mir c with postN := h.postN + 1 }
    else if pre = 0 then s
    else
      let s := s.mirWrite c r (s.mirAt c h.preOff)
      let s := s.setMir c { s.mir c with preOff := (h.preOff + 1) % pre, pre := min pre (h.pre + 1) }
      if s.mirState c = mirPRE && pre ≤ h.pre + 1 then s.mirToReady c else s

/-- A record of the ring is granted and stored (R538): the last post record ends the acquisition (R542) (DEDUCED, log entry 67). -/
def State.mirStore (s : State) (c : Nat) (r : MirRec) : State :=
  let s := s.mirPut c r
  if r.post && s.mirState c == mirPOST && decide (s.mirAcqLen c ≤ s.mirPre c + (s.mir c).postN) then s.mirEnd c false false else s

/-- A grant of unit 6 (R538). -/
def mirGrant (q : ArbReq) (s : State) : State :=
  let c := q.r
  let h := s.mir c
  match h.waiting.find? (fun r => r.id == q.tag) with
  | none => s
  | some r => (s.setMir c { h with waiting := h.waiting.filter (fun x => x.id != q.tag) }).mirStore c r

/-- Unit 6 refuses a record (R538): the record after it carries GAP. -/
def State.mirRefused (s : State) (q : ArbReq) : State :=
  let c := q.r
  let h := s.mir c
  match h.waiting.filter (fun r => r.id != q.tag) with
  | [] => (s.setMir c { h with waiting := [] }).mirLost c
  | r :: t =>
    let s := (s.mirCount c fMirCnt0_LOST).setMir c { h with waiting := { r with gap := true, forced := true } :: t }
    s.raiseIf (s.flag (.mirCtl c) fMirCtl_EV_LOSS) (275 + c)

/-- A record asks to be stored (R538). -/
def State.mirRequest (s : State) (c : Nat) (r : MirRec) : State :=
  let h := s.mir c
  if 8 ≤ h.waiting.length then s.mirLost c
  else
    let r := { r with id := h.nextId, gap := r.gap || h.gap }
    let s := s.setMir c { h with waiting := h.waiting ++ [r], nextId := h.nextId + 1, gap := false, force1 := h.force1 && r.abs
                                 lastV := if r.abs then h.lastV else r.v }
    let q : ArbReq := { r := c, arrival := s.now, tick := s.now, cost := 1, tag := r.id }
    s.arbAdd 6 q

/-- A time anchor (R537). -/
def State.mirAbs (s : State) (c : Nat) : State :=
  s.mirRequest c { id := 0, tick := s.now, t48 := s.t48, v := s.t48, post := s.mirState c == mirPOST, abs := true }

/-- True where a record has a slot to go to: in PRE and READY there are PRE of them (R542). -/
def State.mirKeeps (s : State) (c : Nat) : Bool :=
  [mirPOST, mirROLL].contains (s.mirState c) || ([mirPRE, mirREADY].contains (s.mirState c) && s.mirPre c != 0)

/-- True when DT has reached 2^32 - 1 (R537). -/
def State.mirDtFull (s : State) (c : Nat) : Bool :=
  match (s.mir c).lastTick with
  | some t => decide (t + (2 ^ 32 - 1) ≤ s.now) && !(s.mir c).waiting.any (fun r => r.abs)
  | none => false

/-- True when DT of the next record would exceed 2^32 - 1 (R537). -/
def State.mirAbsDue (s : State) (c : Nat) : Bool := s.mirKeeps c && s.weirOpen (283 + c) && s.mirDtFull c

/-- True when an anchor comes before the next record: the first after arming in ROLL and every 4,096th after it, records that wait
for their grant counted, and one whose DT would exceed 2^32 - 1 where none could be stored before (R537) (DEDUCED, log entry 67). -/
def State.mirAnchorFirst (s : State) (c : Nat) : Bool :=
  (s.mirState c == mirROLL && ((s.mir c).recs + (s.mir c).waiting.length) % 4096 == 0) ||
  (match (s.mir c).lastTick with
   | some t => decide (t + (2 ^ 32 - 1) < s.now) && (s.mir c).waiting.isEmpty
   | none => false)

/-! ### Orders (R543) -/

/-- The number of the cycle of a tick that has passed. -/
def State.cycleAt (s : State) (t : Nat) : Nat :=
  if s.bndAt ≤ t then s.cycles else s.cycles - ((s.bndAt - t) * 4 + s.cycLen - 1) / max 1 s.cycLen

/-- ARM acts; t is its tick. -/
def State.mirArm (s : State) (c t : Nat) : State :=
  let st := s.mirState c
  if st ≠ mirIDLE && st ≠ mirDONE then s
  else
    let h := s.mir c
    let roll := s.mirMode c == 2
    let s := s.setMir c { h with holdTo := none, ended := none, a := s.mirWr c, len0 := s.mirLen c, missed := 0, missT := 0
                                 lastTick := none, force1 := true, gap := false, recs := 0
                                 j := none, fails := 0, lvl := none, armCyc := s.cycleAt t, sampled := none, commit := none
                                 results := 0, trigT := none, trigDue := false }
    s.setMirState c (if roll then mirROLL else mirREARM)

/-- DISARM acts. -/
def State.mirDisarm (s : State) (c : Nat) : State :=
  let s := s.mirWithdraw c
  (s.setMir c { s.mir c with trigT := none, trigDue := false, holdTo := none }).setMirState c mirIDLE

/-- Orders whose tick has come take effect (R543, R546): a trigger stands before a DISARM of the same tick. -/
def State.mirSettle (s : State) (c : Nat) : State :=
  let due := fun (o : Option Nat) => match o with | some t => decide (t ≤ s.now) | none => false
  let h := s.mir c
  let s := if due h.force then
      let t := h.force.getD 0
      let s := s.setMir c { h with force := none }
      if s.mirTk c = 0 then s.mirTrigger 32 c t (s.t48 - BitVec.ofNat 48 (s.now - t)) else s
    else s
  let s := if due h.arm then (s.setMir c { s.mir c with arm := none }).mirArm c (h.arm.getD 0) else s
  if due h.disarm then (s.setMir c { s.mir c with disarm := none }).mirDisarm c else s

/-- The orders of a CTL write wait for the next tick (R543) (DEDUCED, log entry 67). -/
def State.mirOrder (s : State) (c : Nat) (arm disarm force : Bool) : State :=
  let s := s.mirSettle c
  let h := s.mir c
  s.setMir c { h with arm := if arm then some (s.now + 1) else h.arm, disarm := if disarm then some (s.now + 1) else h.disarm
                      force := if force then some (s.now + 1) else h.force }

/-- CNT_CLR. -/
def State.mirCntClr (s : State) (c : Nat) : State :=
  let s := ((s.setReg (.mirCnt0 c) 0).setReg (.mirCnt1 c) 0).setReg (.mirDead c) 0
  s.setMir c { s.mir c with deadSeen := false }

/-! ### Samples (R532 to R536) -/

/-- A record field read from bytes (KIND 1). -/
def State.mirField (s : State) (c : Nat) (b : List Byte) : Word48 :=
  let w := s.fld (.mirSrc c) fMirSrc_WIDTH
  let x := leAt b (s.fld (.mirSrc c) fMirSrc_BYTE) w
  if s.flag (.mirSrc c) fMirSrc_SIGNED then BitVec.ofInt 48 (sgn (8 * w) x) else BitVec.ofNat 48 x

/-- Variable VAR of axis n (R532). -/
def State.mirVar (s : State) (n v : Nat) : Word48 :=
  let i24 := fun (x : Nat) => BitVec.ofInt 48 (sgn 24 x)
  if v = 0 then s.reg (.axsFbPos n)
  else if v = 1 then s.reg (.axsFbVel n)
  else if v = 2 then s.reg (.axsSetP n)
  else if v = 3 then s.reg (.axsSetV n)
  else if v = 4 then s.reg (.axsSetA n)
  else if v = 5 then BitVec.ofNat 48 (s.fld (.axsStat n) fAxsStat_FB_AGE)
  else if v = 6 then BitVec.ofNat 48 (s.ax n)
  else if v ≤ 22 then BitVec.ofInt 48 (half (s.stWord n ((v - 7) / 2)) ((v - 7) % 2 == 1))
  else if v = 23 then i24 (s.fld (.axsCsFocI n) fAxsCsFocI_ID)
  else if v = 24 then i24 (s.fld (.axsCsFocI n) fAxsCsFocI_IQ)
  else if v = 25 then i24 (s.fld (.axsCsFocV n) fAxsCsFocV_VD)
  else if v = 26 then i24 (s.fld (.axsCsFocV n) fAxsCsFocV_VQ)
  else i24 (s.fld (.axsCsFocStat n) fAxsCsFocStat_THETA_E)

/-- The command record REC of node k in this cycle: none before its axis's task committed, or was repeated (R17). -/
def State.mirCmdRec (s : State) (k r : Nat) : Option (List Byte) :=
  match (s.axesOfRec k r).find? (fun n => s.kind n == kindNETWORK) with
  | some n => if tkCOMMITTED ≤ (s.job n).st then some (s.cmdToSend n) else none
  | none => none

/-- The value of channel c's source now, none where its last value is sampled (R534). -/
def State.mirValue (s : State) (c : Nat) : Option Word48 :=
  let r := s.reg (.mirSrc c)
  let i := wordFld r fMirSrc_IDX
  let k := wordFld r fMirSrc_KIND
  if k = 0 then
    if s.ax i = axHOLD || s.ax i = axRELOADING then none else some (s.mirVar i (wordFld r fMirSrc_VAR))
  else if k = 1 then
    if s.muted i then none
    else if wordFld r fMirSrc_CMD = 1 then (s.mirCmdRec i (wordFld r fMirSrc_REC)).map (fun b => s.mirField c b)
    else if !(s.node i).whole then none
    else ((s.node i).recs[wordFld r fMirSrc_REC]?).map (fun b => s.mirField c b)
  else if k = 2 then
    if wordFld r fMirSrc_SD_RES = 0 then some (BitVec.ofInt 48 (sgn 24 (s.fld (.sdVal i) fSdVal_SINC3)))
    else some (BitVec.ofInt 48 (sgn 12 (s.fld (.sdVal i) fSdVal_SINC2)))
  else
    let d := (List.range 4).foldl (fun (p : Nat) k => if s.xtlDriven k then putBit p (36 + k) false else p) s.pins
    some (BitVec.ofNat 48 (Nat.land d (s.fld (.mirPinmask c) fMirPinmask_MASK)))

/-- True when a sample of channel c falls in this tick (R533). -/
def State.mirSampleDue (s : State) (c : Nat) : Bool :=
  let r := s.fld (.mirRate c) fMirRate_RATE
  let h := s.mir c
  ! [mirIDLE, mirDONE].contains (s.mirState c) && s.weirOpen (283 + c) &&
  (if r = 0 then
     decide (s.bndAt + s.fld (.mirRate c) fMirRate_OFFSET = s.now) && h.sampled != some s.cycles &&
       (s.cycles - h.armCyc) % max 1 (s.fld (.mirRate c) fMirRate_DIV) == 0
   else if r = 1 then h.commit == some s.now
   else s.t48.toNat % 5 == 0 && h.sampled != some s.now)

/-- A commit of a current-loop task (R533): the channels that sample the axis at CURRENT. -/
def State.mirCurrent (s : State) (n : Nat) : State :=
  s.each (mirAll.filter (fun c => s.fld (.mirRate c) fMirRate_RATE == 1 && s.fld (.mirSrc c) fMirSrc_KIND == 0 &&
    s.fld (.mirSrc c) fMirSrc_IDX == n)) (fun c s => s.setMir c { s.mir c with commit := some s.now })

/-- A result of a sigma-delta input (R533): every DIV-th is sampled. -/
def State.mirSdResult (s : State) (i : Nat) (sinc2 : Bool) : State :=
  s.each (mirAll.filter (fun c => s.fld (.mirRate c) fMirRate_RATE == 1 && s.fld (.mirSrc c) fMirSrc_KIND == 2 &&
    s.fld (.mirSrc c) fMirSrc_IDX == i && s.flag (.mirSrc c) fMirSrc_SD_RES == sinc2)) (fun c s =>
      let n := (s.mir c).results + 1
      let d := max 1 (s.fld (.mirRate c) fMirRate_DIV)
      s.setMir c { s.mir c with results := n % d, commit := if n % d = 0 then some s.now else (s.mir c).commit })

/-- True when a sample crosses channel x's level (R546). -/
def State.mirCross (s : State) (x : Nat) (prev : Option Word48) (v : Word48) : Bool :=
  match prev with
  | none => false
  | some p =>
    let l := s.regI (.mirLvl x)
    let hy := (s.fld (.mirHys x) fMirHys_HYS : Int)
    let e := s.fld (.mirTrig x) fMirTrig_EDGE
    let up := decide (p.toInt < l - hy) && decide (l ≤ v.toInt)
    let dn := decide (l + hy < p.toInt) && decide (v.toInt ≤ l)
    (e != 1 && up) || (e != 0 && dn)

/-- The mask of channel c, none for none. -/
def State.mirMask (s : State) (c : Nat) : Option Nat :=
  let m := s.fld (.mirAcq c) fMirAcq_MASK_SEL
  if 1 ≤ m && m ≤ 8 then some (m - 1) else none

/-- True when a value fails point j of mask m (R550). -/
def State.maskFails (s : State) (m j : Nat) (v : Word48) : Bool :=
  let a := mirBase + s.fld (.mirMaskCfg m) fMirMaskCfg_BASE * 8 + 8 * j
  let x := v.toInt / (2 ^ s.fld (.mirMaskCfg m) fMirMaskCfg_SHIFT : Int)
  decide (x < sgn 32 (s.load a 4)) || decide (sgn 32 (s.load (a + 4) 4) < x)

/-- The mask test of a sample (R550, R552): whether it completes a violation, and the state after. -/
def State.mirMaskTest (s : State) (c : Nat) (v : Word48) : Bool × State :=
  match s.mirMask c with
  | none => (false, s)
  | some m =>
    let h := s.mir c
    let start1 := s.flag (.mirMaskCfg m) fMirMaskCfg_START
    let j := if start1 then some (h.j.getD 0) else if h.trigDue then some 0 else h.j
    match j with
    | none => (false, s)
    | some k =>
      if s.fld (.mirMaskCfg m) fMirMaskCfg_COUNT ≤ k then (false, s.setMir c { h with j := some k })
      else
        let f := if s.maskFails m k v then h.fails + 1 else 0
        let viol := decide (0 < f) && decide (s.fld (.mirMaskCfg m) fMirMaskCfg_VCNT ≤ f)
        let s := s.setMir c { h with j := some (k + 1), fails := if viol then 0 else f }
        if !viol then (false, s)
        else
          let s := (s.setFld (.mirMaskViol c) fMirMaskViol_J k).setFlag (.mirMaskViol c) fMirMaskViol_VALID true
          let s := (s.setReg (.mirMaskT c) s.t48).raiseIf (s.flag (.mirCtl c) fMirCtl_EV_MASK) (275 + c)
          let s := if s.flag (.mirAcq c) fMirAcq_MASK_ACT then s.mirTrigger 1 c s.now s.t48 else s
          (true, (mirAll.filter (fun x => s.mirTk x == 6 && s.mirTi x == m)).foldl (fun (s : State) x => s.mirTrigNow x) s)

/-- Level triggers act on a sample of channel c (R546, T_KIND 4). -/
def State.mirLevels (s : State) (c : Nat) (v : Word48) : State :=
  let prev := (s.mir c).lvl
  let s := s.setMir c { s.mir c with lvl := some v }
  (mirAll.filter (fun x => s.mirTk x == 4 && s.mirTi x == c && s.mirCross x prev v)).foldl (fun (s : State) x => s.mirTrigNow x) s

/-- True when a sample is stored without being forced (R536). -/
def State.mirDiffers (s : State) (c : Nat) (v : Word48) : Bool :=
  let old := (s.mir c).lastV
  if s.fld (.mirSrc c) fMirSrc_KIND = 3 then v != old
  else decide (s.fld (.mirDb c) fMirDb_DB < ((v - old).toInt).natAbs)

/-- The channel stops on a violation with MASK_ACT = 0 (R552): its waiting records, the violating one among them, are stored with the
acquisition they end (DEDUCED, log entry 67). -/
def State.mirMaskStop (s : State) (c : Nat) : State :=
  let s := (s.mir c).waiting.foldl (fun (s : State) r => s.mirPut c r) s
  if s.mirState c = mirROLL then
    let s := s.mirWithdraw c
    let s := (s.setMirState c mirDONE).setFlag (.mirStat c) fMirStat_MASK_STOP true
    let s := (s.setFlag (.mirAcqA c) fMirAcqA_MASK_END true).incWrap (.mirStat c) fMirStat_ACQ_SEQ
    s.raiseIf (s.flag (.mirCtl c) fMirCtl_EV_DONE) (275 + c)
  else s.mirEnd c false true

/-- A sample (R533 to R538, R546, R550, R552). In REARM a sample is only level-tested. -/
def State.mirSample (s : State) (c : Nat) : State :=
  let x := s.mirValue c
  let v := x.getD (s.mir c).last
  let rate := s.fld (.mirRate c) fMirRate_RATE
  let s := s.setMir c { s.mir c with last := v, commit := none, sampled := some (if rate = 0 then s.cycles else s.now) }
  let s := s.mirLevels c v
  if ! [mirPRE, mirREADY, mirPOST, mirROLL].contains (s.mirState c) then s
  else
    let t := s.mirMaskTest c v
    let s := t.2
    let h := s.mir c
    let post := s.mirState c == mirPOST
    let trig := h.trigDue && post
    let forced := h.force1 || trig || t.1
    let s := if trig then s.setMir c { h with trigDue := false, recT := s.t48 } else s
    let keep := (forced || s.flag (.mirRate c) fMirRate_STORE_ALL || s.mirDiffers c v) &&
      s.mirKeeps c
    let s := if keep then
        let s := if s.mirAnchorFirst c then s.mirAbs c else s
        s.mirRequest c { id := 0, tick := s.now, t48 := s.t48, v := v, post := post, trig := trig, forced := forced
                         mask := t.1, suspect := x.isNone }
      else s
    if t.1 && !s.flag (.mirAcq c) fMirAcq_MASK_ACT then s.mirMaskStop c else s

/-! ### Triggers from pins, timeouts, streams -/

/-- True when a pin or line edge is a trigger of channel c now (R546, R549): rise is its direction. -/
def State.mirEdge (s : State) (c : Nat) (rise : Bool) : Bool :=
  let k := s.mirTk c
  let e := s.fld (.mirTrig c) fMirTrig_EDGE
  let at_ := s.now - (s.fld (.mirTrig c) fMirTrig_TFILT + 4) * 5
  if k = 1 then e = 2 || (if rise then e = 0 else e = 1)
  else k == 2 && !rise && !s.xtlDrivenAt (s.mirTi c) at_

/-- An edge's trigger acts (R546): its time is that of the edge, to the peripheral tick. -/
def State.mirEdgeAct (s : State) (c : Nat) (rise : Bool) : State :=
  if s.mirEdge c rise then
    let d := (s.fld (.mirTrig c) fMirTrig_TFILT + 4) * 5
    s.mirTrigger 32 c s.now (s.t48 - BitVec.ofNat 48 (d + s.t48.toNat % 5))
  else s

/-- True when an acquisition times out (R542). -/
def State.mirTimesOut (s : State) (c : Nat) : Bool :=
  let m := s.fld (.mirAcq c) fMirAcq_POST_TMAX
  s.mirState c == mirPOST && m != 0 &&
    (match (s.mir c).trigT with | some x => decide (x.2 + m * usTicks ≤ s.now) | none => false)

/-- True when a stream block is due (R553). -/
def State.mirStreamDue (s : State) (c : Nat) : Bool :=
  let n := s.mirUnread c
  s.mirState c == mirROLL && s.mirUpl c == 2 && !s.flag (.mirStat c) fMirStat_UPL_BUSY && decide (0 < n) &&
    (decide (512 ≤ n) || (match (s.mir c).unread with | some t => decide (t + 500000 ≤ s.now) | none => false))

/-- A stream block is handed to the DMA channel (R553). -/
def State.mirStream (s : State) (c : Nat) : State :=
  let n := s.mirUnread c
  let l := max 1 (s.mirLen c)
  let b := (upFrom (s.mirRd c) n).flatMap (fun i => s.bytes (s.mirSlot c (i % l)) 12)
  let s := s.setMir c { s.mir c with unread := none }
  s.mirUpload c (s.mirWr c) (s.mirHeader c n true ++ b)

/-- An upload has completed (R553): RD advances. -/
def State.mirUploaded (s : State) (c : Nat) : State :=
  match (s.mir c).done with
  | none => s
  | some rd =>
    let s := s.setMir c { s.mir c with done := none }
    (s.setFld (.mirPtr c) fMirPtr_RD rd).setFlag (.mirStat c) fMirStat_UPL_BUSY (s.dmaHas c)

/-! ### What writes are refused with -/

/-- Two ranges of the capture memory that meet. -/
def rangesMeet (a b : Nat × Nat) : Bool := decide (a.1 < b.1 + b.2) && decide (b.1 < a.1 + a.2)

/-- The range of channel c's ring with a base and a length. -/
def ringRange (base len : Nat) : Nat × Nat := (base * 16, len * 12)
/-- The range of mask m's table. -/
def State.maskRange (s : State) (m : Nat) : Nat × Nat :=
  (s.fld (.mirMaskCfg m) fMirMaskCfg_BASE * 8, s.fld (.mirMaskCfg m) fMirMaskCfg_COUNT * 8)

/-- The length of channel c's ring, or the staged one where it is longer (R540). -/
def State.ringSpan (s : State) (c : Nat) : Nat :=
  if s.flag (.mirRingCtl c) fMirRingCtl_STAGED then max (s.mirLen c) (s.mir c).lenNew else s.mirLen c

/-- The ranges of every ring but c's and every table but m's. -/
def State.mirRanges (s : State) (c m : Nat) : List (Nat × Nat) :=
  ((mirAll.filter (fun x => x != c && s.mirLen x != 0)).map (fun x => ringRange (s.fld (.mirRing x) fMirRing_BASE) (s.ringSpan x))) ++
  (((List.range 8).filter (fun x => x != m && s.fld (.mirMaskCfg x) fMirMaskCfg_COUNT != 0)).map (fun x => s.maskRange x))

/-- True when a range breaks R539: outside the capture memory or over another. -/
def State.mirBreaks (s : State) (c m : Nat) (r : Nat × Nat) : Bool :=
  decide (mirSize < r.1 + r.2) || (s.mirRanges c m).any (fun x => rangesMeet r x)

/-- What a write of RING_CTL with STAGE = 1 is refused with (R539, R540). -/
def State.ringRefuse (s : State) (c len : Nat) : List Nat :=
  refuseIf (decide (len < 16) || decide (174762 < len) || s.mirBreaks c 8 (ringRange (s.fld (.mirRing c) fMirRing_BASE) len)) cACCESS

/-- STAGE = 1 (R540). -/
def State.ringStage (s : State) (c len : Nat) : State :=
  let s := s.setMir c { s.mir c with lenNew := len }
  (s.setFld (.mirRingCtl c) fMirRingCtl_LEN_NEW len).setFlag (.mirRingCtl c) fMirRingCtl_STAGED true

/-- True while a channel that selects mask m is active (R551). -/
def State.maskBusy (s : State) (m : Nat) : Bool :=
  mirAll.any (fun c => s.mirMask c == some m && s.mirState c != mirIDLE && s.mirState c != mirDONE)

/-- What a write of MASK[m].CFG is refused with (R550, R551, R539). -/
def State.maskRefuse (s : State) (m : Nat) (v : Word48) : List Nat :=
  let n := wordFld v fMirMaskCfg_COUNT
  let k := wordFld v fMirMaskCfg_VCNT
  refuseIf (decide (n < 1) || decide (4096 < n) || decide (47 < wordFld v fMirMaskCfg_SHIFT) || k == 0 ||
    s.mirBreaks 32 m (wordFld v fMirMaskCfg_BASE * 8, n * 8)) cACCESS ++ refuseIf (s.maskBusy m) cLOCKED

/-- What a write of n bytes of the capture memory from byte offset off is refused with (R551). -/
def State.mirMemRefuse (s : State) (off n : Nat) : List Nat :=
  refuseIf ((List.range 8).any (fun m => s.maskBusy m && rangesMeet (off, n) (s.maskRange m))) cLOCKED

/-- True when following in a loop would result from channel c following l (R546). -/
def State.mirLoop (s : State) (c : Nat) : Nat → Nat → Bool
  | 0, _ => true
  | d + 1, l => l == c || (s.mirTk l == 5 && s.mirLoop c d (s.mirTi l))

/-- What a write of an RWL register of a channel is refused with beyond its field ranges (R532, R546). -/
def State.mirTrigRefuse (s : State) (c : Nat) (v : Word48) : List Nat :=
  let k := wordFld v fMirTrig_T_KIND
  let i := wordFld v fMirTrig_T_IDX
  let lim := if k = 1 || k = 2 then 4 else if 3 ≤ k && k ≤ 6 then 32 else if k = 7 then 192 else 256
  refuseIf (decide (7 < k) || decide (lim ≤ i) || wordFld v fMirTrig_EDGE == 3 ||
    (k == 5 && s.mirLoop c 32 i)) cACCESS

/-! ### Weirs (R554) -/

/-- The weir of channel c leaves OPEN. -/
def State.mirClose (s : State) (c : Nat) : State :=
  ((((s.mirWithdraw c).dmaCut c).setMir c {}).setMirState c mirIDLE).xtlShow

/-- The channel reopens: IDLE, WR = RD = 0, counters and log cleared. -/
def State.mirReopen (s : State) (c : Nat) : State :=
  let s := s.setMir c {}
  let s := ([.mirRingCtl c, .mirPtr c, .mirStat c, .mirCnt0 c, .mirCnt1 c, .mirDead c, .mirAcqA c, .mirAcqB c,
    .mirAcqTrig c, .mirAcqRec c, .mirAcqDead c, .mirAcqMissT c, .mirMaskViol c, .mirMaskT c] : List Reg).foldl
      (fun (s : State) r => s.setReg r 0) s
  s.xtlShow

end Sys2Proof.Machine
end

