-- ==== Sys2Proof/Machine/OasisOps.lean ====
section
/-! DEFINITION. Oasis, the safety functions (19_oasis_safety.md, R609 to R648). -/
namespace Sys2Proof.Machine

def zLOCKOUT : Nat := 0
def zSTO : Nat := 1
def zSS1 : Nat := 2
def zRUN : Nat := 3

/-- A safety tick in fabric ticks (R609). -/
def safetyTicks : Nat := 50000
/-- The zones. -/
def allZones : List Nat := List.range 8
/-- ZSTATE of zone z. -/
def State.zst (s : State) (z : Nat) : Nat := s.fld (.zoneStat z) fZoneStat_ZSTATE
/-- The latched causes of zone z. -/
def State.zCauses (s : State) (z : Nat) : Nat := s.fld (.zoneFault z) fZoneFault_CAUSES

/-- An event of zone z (R642). -/
def State.zoneEvent (s : State) (z : Nat) : State := s.raiseIf (s.flag (.zoneCtl z) fZoneCtl_EV_ZONE) 346

/-- The inputs of zone z in use. -/
def State.zInputs (s : State) (z : Nat) : List Nat :=
  (List.range 16).filter (fun i => s.flag (.siCfg i) fSiCfg_EN && s.fld (.siCfg i) fSiCfg_ZONE == z)
/-- The outputs of zone z in use. -/
def State.zOutputs (s : State) (z : Nat) : List Nat :=
  (List.range 8).filter (fun o => s.fld (.soCfg o) fSoCfg_FUNC != 0 && s.fld (.soCfg o) fSoCfg_ZONE == z)
/-- Its CONTACTOR and SBC outputs. -/
def State.zStoppers (s : State) (z : Nat) : List Nat := (s.zOutputs z).filter (fun o => s.fld (.soCfg o) fSoCfg_FUNC != 3)
/-- The connections of zone z in a direction. -/
def State.zConns (s : State) (z : Nat) (out : Bool) : List Nat :=
  (List.range 192).filter (fun c => s.flag (.connCfg c) fConnCfg_USED && s.flag (.connCfg c) fConnCfg_DIR == out &&
    s.fld (.connCfg c) fConnCfg_ZONE == z)
/-- The stage groups of zone z. -/
def State.zGroups (s : State) (z : Nat) : List Nat := (List.range 12).filter (fun g => s.fld (.sgCfg g) fSgCfg_ZONE == z)

/-! ### Outputs (R620 to R624) -/

/-- EDM of output o, none where it has none. -/
def State.soEdm (s : State) (o : Nat) : Option Nat :=
  let e := s.fld (.soCfg o) fSoCfg_EDM
  if e < 8 then some e else none

/-- True when EDM is at the level the command asks for (R623). -/
def State.edmFits (s : State) (o : Nat) : Bool :=
  (s.soEdm o).isNone || s.flag (.soStat o) fSoStat_EDM_LEVEL != s.flag (.soStat o) fSoStat_CMD

/-- True when an output reads back off. -/
def State.readsOff (s : State) (o : Nat) : Bool := !s.flag (.soStat o) fSoStat_RB_HS && !s.flag (.soStat o) fSoStat_RB_LS

/-- True when an output reads back off and its EDM input confirms it (R632). -/
def State.confirmedOff (s : State) (o : Nat) : Bool :=
  s.readsOff o && ((s.soEdm o).isNone || s.flag (.soStat o) fSoStat_EDM_LEVEL)

/-- The command of output o by its zone's state (R620). -/
def State.soWanted (s : State) (o : Nat) : Bool :=
  let z := s.fld (.soCfg o) fSoCfg_ZONE
  let f := s.fld (.soCfg o) fSoCfg_FUNC
  let st := s.zst z
  if f = 1 || f = 2 then st == zRUN || st == zSS1
  else f == 3 && st == zSTO && (s.zStoppers z).all (fun k => s.confirmedOff k)

/-- The command of output o is set; test pulses come a period after the switch-on, the low side's half a period
later (R621) (DEDUCED, log entry 69). -/
def State.soSet (s : State) (o : Nat) (on : Bool) : State :=
  if s.flag (.soStat o) fSoStat_CMD = on then s
  else
    let s := s.setFlag (.soStat o) fSoStat_CMD on
    s.setSo o { changed := s.now, hs := s.now, ls := s.now + s.fld (.soCfg o) fSoCfg_TP_PERIOD * 250000000 }

/-- The outputs follow the zones. -/
def State.soFollow (s : State) : State := s.each (List.range 8) (fun o s => s.soSet o (s.soWanted o))

/-- Every output is turned off. -/
def State.soOff (s : State) : State := s.each (List.range 8) (fun o s => s.soSet o false)

/-! ### Zone states (R625 to R629) -/

/-- OAS.STAT follows the zones. -/
def State.zoneShow (s : State) : State :=
  let b := fun (st : Nat) => (allZones.filter (fun z => s.zst z == st)).foldl (fun (a : Nat) z => a + 2 ^ z) 0
  (s.setFld .oasStat fOasStat_LOCKOUT (b zLOCKOUT)).setFld .oasStat fOasStat_STO (b zSTO)

/-- A zone enters a state (R626 to R628): gates and outputs act in the same safety tick. -/
def State.zoneEnter (s : State) (z st : Nat) : State :=
  if s.zst z = st then s
  else
    let s := s.setFld (.zoneStat z) fZoneStat_ZSTATE st
    let h := s.zone z
    let s := s.setZone z { h with ss1At := if st = zSS1 then s.oas.n else h.ss1At
                                  mark := if st ≤ zSTO then 1 else if st = zSS1 && h.mark = 0 then 2 else h.mark }
    let s := if st = zLOCKOUT then s.incSat (.zoneFault z) fZoneFault_LOCKOUT_CNT else s
    let s := if st ≤ zSTO then s.each (s.zGroups z) (fun g s => (s.pinsLow g).unprecharge g) else s.each (s.zGroups z) (fun g s => s.groupPins g)
    ((s.soFollow).zoneShow).zoneEvent z

/-- Fault causes latch in zone z (R629): FIRST is the lowest of those of the safety tick in which the set began. -/
def State.zoneFault (s : State) (z det : Nat) : State :=
  let old := s.zCauses z
  let new := Nat.lor old det
  if new = old then s
  else
    let low := ((List.range 11).find? (fun c => bitOf det c && !bitOf old c)).getD 15
    let h := s.zone z
    let fresh := old == 0
    let s := s.setFld (.zoneFault z) fZoneFault_CAUSES new
    let s := if fresh then ((s.setFld (.zoneFault z) fZoneFault_FIRST low).setReg (.zoneFtime z) s.t48).setZone z { h with firstAt := s.oas.n }
      else if h.firstAt = s.oas.n && low < s.fld (.zoneFault z) fZoneFault_FIRST && s.oas.n ≠ 0 then s.setFld (.zoneFault z) fZoneFault_FIRST low
      else s
    let s := ((List.range 11).filter (fun c => bitOf det c && !bitOf old c)).foldl (fun (s : State) _ => s.zoneEvent z) s
    s.zoneEnter z zLOCKOUT

/-- A cause in every zone. -/
def State.allFault (s : State) (c : Nat) : State := s.each allZones (fun z s => s.zoneFault z (2 ^ c))

/-! ### Connections (R636 to R641) -/

/-- CSTATE of connection c: 0 INACTIVE, 1 OK, 2 FAILED. -/
def State.cst (s : State) (c : Nat) : Nat := s.fld (.connStat c) fConnStat_CSTATE
/-- The other connection of c's pair. -/
def State.connPair (s : State) (c : Nat) : Option Nat :=
  let p := s.fld (.connCfg c) fConnCfg_PAIR
  if p < 192 then some p else none
/-- CONN of c is active (R639, R641). -/
def State.connFailed (s : State) (c : Nat) : Bool :=
  s.cst c == 2 && (match s.connPair c with | some p => s.cst p == 2 | none => true)

/-- A connection changes state (R639, R642). -/
def State.setCst (s : State) (c st : Nat) : State :=
  if s.cst c = st then s
  else (s.setFld (.connStat c) fConnStat_CSTATE st).zoneEvent (s.fld (.connCfg c) fConnCfg_ZONE)

/-- A connection fails: CONN in its zone (R639, R641). -/
def State.connFail (s : State) (c : Nat) : State :=
  let s := s.setCst c 2
  if s.connFailed c then s.zoneFault (s.fld (.connCfg c) fConnCfg_ZONE) 16 else s

/-- What connection c demands: STO, SS1, SLS (R640, R641). -/
def State.connDemand (s : State) (c : Nat) : Bool × Bool × Bool :=
  if s.cst c ≠ 1 then
    ((match s.connPair c with | some p => s.cst p != 1 | none => true), false, false)
  else
    let b := (s.conn c).b2
    if s.flag (.connCfg c) fConnCfg_KIND then
      let stop := s.flag (.connCfg c) fConnCfg_PEER_STOP && b % 8 != 3
      let f := s.flag (.connCfg c) fConnCfg_PEER_FUNC
      (stop && !f, stop && f, false)
    else (!bitOf b 0, !bitOf b 1, !bitOf b 2)

/-- SCRC of a container (R415). -/
def scrc (seed : Nat) (b : List Byte) : Nat := Nat.xor (crcRefl 0x82F63B78 seed (b.take 12)) 0xFFFFFFFF

/-- True when the bytes of a container are as its KIND asks (R636). -/
def contentOk (status : Bool) (b : List Byte) : Bool :=
  let x := byteAt b 2
  byteAt b 3 == 255 - x && byteAt b 5 == 0 && byteAt b 10 == 0 && byteAt b 11 == 0 &&
  (if status then bitOf x 3 && x / 64 == 0 else x / 8 == 0 && byteAt b 6 == 0 && byteAt b 7 == 0 && byteAt b 8 == 0 && byteAt b 9 == 0)

/-- The steps from one SEQ to another, counting from 255 to 1. -/
def seqSteps (last seq : Nat) : Nat := (seq + 255 - last) % 255

/-- The connection a container of a frame belongs to: by node and index, and CID where several share them. -/
def State.connOf (s : State) (node idx cid : Nat) : Option Nat :=
  let l := (List.range 192).filter (fun c => s.flag (.connCfg c) fConnCfg_USED && !s.flag (.connCfg c) fConnCfg_DIR &&
    s.fld (.connCfg c) fConnCfg_NODE == node && s.fld (.connCfg c) fConnCfg_IDX == idx)
  match l with
  | [c] => some c
  | _ => l.find? (fun c => s.fld (.connCfg c) fConnCfg_CID == cid)

/-- A container is judged (R638, R639): fresh, ignored, or counted (DEDUCED, log entry 69). -/
def State.contJudge (s : State) (c : Nat) (b : List Byte) : State :=
  let h := s.conn c
  let seq := byteAt b 1
  let last := s.fld (.connStat c) fConnStat_LAST_SEQ
  if scrc (s.fld (.connSeed c) fConnSeed_SEED) b ≠ leAt b 12 4 then
    let l := s.now :: h.crc.filter (fun t => decide (s.now < t + 500000000))
    let s := (s.incSat (.connStat c) fConnStat_CRC_ERR).setConn c { h with crc := l.take 8 }
    if 8 ≤ l.length && s.cst c = 1 then s.connFail c else s
  else if byteAt b 0 ≠ s.fld (.connCfg c) fConnCfg_CID then s
  else if !contentOk (s.flag (.connCfg c) fConnCfg_KIND) b then s.incSat (.connCnt c) fConnCnt_CONTENT_ERR
  else if last ≠ 0 && seq = last then s
  else if seq = 0 || (last ≠ 0 && 4 < seqSteps last seq) then s.incSat (.connStat c) fConnStat_SEQ_ERR
  else
    let s := (s.setFld (.connStat c) fConnStat_LAST_SEQ seq).incWrap (.connCnt c) fConnCnt_FRESH
    let cnt := byteAt b 4
    let cmd := !s.flag (.connCfg c) fConnCfg_KIND
    let order := cmd && (match h.resetCnt with | some x => x != cnt | none => false)
    s.setConn c { h with rx := some (byteAt b 2), resetCnt := some cnt, order := h.order || order, freshAt := s.now }

/-- The oldest container delivered is judged. -/
def State.contReceived (s : State) : State :=
  match s.net.contIn with
  | [] => s
  | x :: t =>
    let s := { s with net := { s.net with contIn := t } }
    match s.connOf x.1 x.2.1 (byteAt x.2.2 0) with
    | some c => s.contJudge c x.2.2
    | none => s

/-- True when the watchdog of connection c has run out (R639). -/
def State.watchdogDue (s : State) (c : Nat) : Bool :=
  s.flag (.connCfg c) fConnCfg_USED && !s.flag (.connCfg c) fConnCfg_DIR && s.cst c == 1 &&
    decide ((s.conn c).freshAt + s.fld (.connCfg c) fConnCfg_WD_T * safetyTicks ≤ s.now)

/-- The watchdog of connection c runs out. -/
def State.watchdog (s : State) (c : Nat) : State := (s.incSat (.connCnt c) fConnCnt_WD_EXP).connFail c

/-- SDATA of zone z, bytes 2 to 11 (R636, R637). -/
def State.sdata (s : State) (z : Nat) (status : Bool) : List Byte :=
  let st := s.zst z
  if status then
    let b2 := st + 8 + 16 * s.fld (.zoneStat z) fZoneStat_SLS_ACT + 32 * s.fld (.zoneStat z) fZoneStat_GUARD_PEND
    let ins := (List.range 16).foldl (fun (a : Nat) i => a + (if s.flag (.siCfg i) fSiCfg_EN && s.flag (.siStat i) fSiStat_DEMAND then 2 ^ i else 0)) 0
    let pm := (s.zone z).windows.foldl (fun (a : Nat) w => if s.oas.n < w.1 + 1000 then max a w.2 else a) 0
    leBytes 1 b2 ++ leBytes 1 (255 - b2) ++ leBytes 1 (s.fld (.zoneFault z) fZoneFault_FIRST) ++ leBytes 1 0 ++ leBytes 2 ins ++
      leBytes 2 pm ++ leBytes 2 0
  else
    let b2 := b2n (st == zRUN || st == zSS1) + 2 * b2n (st == zRUN) + 4 * b2n (!bitOf (s.fld (.zoneStat z) fZoneStat_DEMAND) 2)
    leBytes 1 b2 ++ leBytes 1 (255 - b2) ++ leBytes 1 (s.zone z).resetCnt ++ leBytes 7 0

/-- The container of OUT connection c, with SEQ advanced by one (R637). -/
def State.contMake (s : State) (c : Nat) : List Byte × State :=
  let h := s.conn c
  let q := h.seqOut % 255 + 1
  let b := leBytes 1 (s.fld (.connCfg c) fConnCfg_CID) ++ leBytes 1 q ++
    s.sdata (s.fld (.connCfg c) fConnCfg_ZONE) (s.flag (.connCfg c) fConnCfg_KIND)
  (b ++ leBytes 4 (scrc (s.fld (.connSeed c) fConnSeed_SEED) b), s.setConn c { h with seqOut := q })

/-- A container takes its place among those of a frame. -/
def contPlace (old : List Byte) (i : Nat) (b : List Byte) : List Byte :=
  let o := old ++ leBytes (64 - old.length) 0
  o.take (16 * i) ++ b ++ o.drop (16 * i + 16)

/-- Every OUT connection supplies its container at a cycle boundary (R637). -/
def State.contSupply (s : State) : State :=
  s.each ((List.range 192).filter (fun c => s.flag (.connCfg c) fConnCfg_USED && s.flag (.connCfg c) fConnCfg_DIR)) (fun c s =>
    let r := s.contMake c
    let s := r.2
    let k := s.fld (.connCfg c) fConnCfg_NODE
    { s with net := { s.net with contOut := tabSet [] k (contPlace (tabGet [] s.net.contOut k) (s.fld (.connCfg c) fConnCfg_IDX) r.1) s.net.contOut } })

/-! ### Inputs (R614 to R619) -/

/-- A sample of input i: levels of its channels (R614 to R619). -/
def State.siSample (s : State) (i : Nat) (a b : Bool) : State :=
  let s := (s.setFlag (.siStat i) fSiStat_RAW_A a).setFlag (.siStat i) fSiStat_RAW_B b
  if !s.flag (.siCfg i) fSiCfg_EN then s
  else
    let h := s.si i
    let f := s.fld (.siCfg i) fSiCfg_FILT
    let ra := if a then 0 else min 31 (h.runA + 1)
    let rb := if s.flag (.siCfg i) fSiCfg_TYPE = b then min 31 (h.runB + 1) else 0
    let sa := decide (0 < ra) && (s.flag (.siStat i) fSiStat_SAFE_A || decide (f + 1 ≤ ra))
    let sb := decide (0 < rb) && (s.flag (.siStat i) fSiStat_SAFE_B || decide (f + 1 ≤ rb))
    let dc := if sa = sb then 0 else satU 14 (s.fld (.siStat i) fSiStat_DCOUNT + 1)
    let td := s.fld (.siCfg i) fSiCfg_TD
    let near := decide (3 * td < 4 * dc) && !h.near && !s.flag (.siStat i) fSiStat_DISC_FAULT && decide (dc < td)
    let saw := h.sawSafe || (sa && sb)
    let done := h.sawSafe && !sa && !sb
    let s := s.setSi i { runA := ra, runB := rb, near := sa != sb && (h.near || near), sawSafe := saw }
    let s := ((s.setFlag (.siStat i) fSiStat_SAFE_A sa).setFlag (.siStat i) fSiStat_SAFE_B sb).setFld (.siStat i) fSiStat_DCOUNT dc
    let s := s.setFlag (.siStat i) fSiStat_DEMAND (sa || sb)
    let s := if sa && sb then s.setFlag (.siStat i) fSiStat_DISC_FAULT false else s
    let s := if done then s.setFlag (.siStat i) fSiStat_STARTUP_DONE true else s
    if near then (s.incSat (.siStat i) fSiStat_NEAR_DISC).zoneEvent (s.fld (.siCfg i) fSiCfg_ZONE) else s

/-- True when input i's discrepancy counter has reached N (R616). -/
def State.discDue (s : State) (i : Nat) : Bool :=
  s.flag (.siCfg i) fSiCfg_EN && !s.flag (.siStat i) fSiStat_DISC_FAULT &&
    decide (0 < s.fld (.siStat i) fSiStat_DCOUNT) && decide (s.fld (.siCfg i) fSiCfg_TD ≤ s.fld (.siStat i) fSiStat_DCOUNT)

/-- DISCREPANCY is raised (R616). -/
def State.discFault (s : State) (i : Nat) : State :=
  (s.setFlag (.siStat i) fSiStat_DISC_FAULT true).zoneFault (s.fld (.siCfg i) fSiCfg_ZONE) 1

/-- The start-up test of a guard input of zone z is open (R619). -/
def State.guardOpen (s : State) (z : Nat) : Bool :=
  (s.zInputs z).any (fun i => s.flag (.siCfg i) fSiCfg_GUARD && !s.flag (.siStat i) fSiStat_STARTUP_DONE)

/-! ### Demands and resets (R626, R630, R633) -/

/-- The demands of zone z: STO, SS1, SLS (R626). -/
def State.zDemand (s : State) (z : Nat) : Bool × Bool × Bool :=
  let f := fun (k : Nat) => (s.zInputs z).any (fun i => s.fld (.siCfg i) fSiCfg_FUNC == k && s.flag (.siStat i) fSiStat_DEMAND)
  let c := (s.zConns z false).map (fun c => s.connDemand c)
  (f 0 || s.flag (.zoneCtl z) fZoneCtl_STO_REQ || c.any (fun x => x.1),
   f 1 || s.flag (.zoneCtl z) fZoneCtl_SS1_REQ || c.any (fun x => x.2.1),
   f 2 || s.flag (.zoneCtl z) fZoneCtl_SLS_REQ || c.any (fun x => x.2.2))

/-- The causes active in zone z (R629). SO_TEST and SLS stay latched until a reset, which they do not hold up. -/
def State.zActive (s : State) (z : Nat) : Nat :=
  let l := s.zCauses z
  (if (s.zInputs z).any (fun i => s.flag (.siStat i) fSiStat_DISC_FAULT) then 1 else 0) +
  (if (s.zOutputs z).any (fun o => !s.edmFits o) then 2 else 0) +
  (if (s.zOutputs z).any (fun o => !s.flag (.soStat o) fSoStat_CMD && !s.readsOff o) then 8 else 0) +
  (if (s.zConns z false).any (fun c => s.connFailed c) then 16 else 0) +
  (if bitOf l 6 then 64 else 0) + (if s.oas.railOut then 128 else 0) + (if bitOf l 8 then 256 else 0) + (if bitOf l 9 then 512 else 0)

/-- True when EDM_TIMEOUT is due at output o (R623). -/
def State.edmDue (s : State) (o : Nat) : Bool :=
  s.fld (.soCfg o) fSoCfg_FUNC != 0 && !s.edmFits o && decide ((s.so o).changed + s.fld (.soCfg o) fSoCfg_EDM_T * 500000 ≤ s.now) &&
    !bitOf (s.zCauses (s.fld (.soCfg o) fSoCfg_ZONE)) 1

/-- EDM is raised (R623). -/
def State.edmFault (s : State) (o : Nat) : State := s.zoneFault (s.fld (.soCfg o) fSoCfg_ZONE) 2

/-- A cause of zone z is to latch in this safety tick (DEDUCED, log entry 69). -/
def State.zDue (s : State) (z : Nat) : Bool :=
  (s.zInputs z).any (fun i => s.discDue i) || (s.zOutputs z).any (fun o => s.edmDue o) ||
    (s.zConns z false).any (fun c => s.watchdogDue c)

/-- Why a zone reset would be refused: 0 when it would be accepted (R633) (DEDUCED, log entry 69). -/
def State.zRefuse (s : State) (z : Nat) : Nat :=
  if Nat.land (s.zCauses z) (s.zActive z) ≠ 0 || s.zDue z then 1
  else if (s.zInputs z).any (fun i => s.flag (.siStat i) fSiStat_SAFE_A != s.flag (.siStat i) fSiStat_SAFE_B) then 2
  else if (s.zStoppers z).any (fun o => !s.readsOff o) then 4
  else if (s.zStoppers z).any (fun o => !s.confirmedOff o) then 3
  else 0

/-- A zone reset is requested (R633) (DEDUCED, log entry 69). -/
def State.zoneReset (s : State) (z : Nat) : State :=
  if s.zst z = zRUN || s.zst z = zSS1 then s
  else
    let r := s.zRefuse z
    if r ≠ 0 then ((s.setFld (.zoneFault z) fZoneFault_LAST_REFUSE r).incSat .oasSrst fOasSrst_REFUSED).zoneEvent z
    else
      let s := (s.setFld (.zoneFault z) fZoneFault_CAUSES 0).setFld (.zoneFault z) fZoneFault_FIRST 15
      let s := s.setZone z { s.zone z with resetCnt := ((s.zone z).resetCnt + 1) % 256 }
      let d := s.zDemand z
      s.zoneEnter z (if d.1 || d.2.1 || s.guardOpen z then zSTO else zRUN)

/-- Zone z takes its state from its demands in a safety tick (R626, R630); det is the causes found in the tick. -/
def State.zoneTick (s : State) (z det : Nat) : State :=
  let d := s.zDemand z
  let ax := (s.zone z).axSto
  let h := s.zone z
  let s := s.setZone z { h with axSto := false, slsFrom := if d.2.2 then some (h.slsFrom.getD s.oas.n) else none
                                windows := h.windows.filter (fun w => decide (s.oas.n < w.1 + 1000)) }
  let s := s.setFld (.zoneStat z) fZoneStat_DEMAND (b2n d.1 + 2 * b2n d.2.1 + 4 * b2n d.2.2)
  let s := if d.2.2 then s else s.setFlag (.zoneStat z) fZoneStat_SLS_ACT false
  let s := s.setFlag (.zoneStat z) fZoneStat_GUARD_PEND (s.guardOpen z)
  if det ≠ 0 then s.zoneFault z det
  else if s.zst z = zRUN then
    if d.1 || ax then s.zoneEnter z zSTO else if d.2.1 then s.zoneEnter z zSS1 else s
  else if s.zst z = zSS1 then (if d.1 || ax then s.zoneEnter z zSTO else s)
  else s

/-- The fields of a zone's STAT that follow from the rest. -/
def State.zoneStatus (s : State) (z : Nat) : State :=
  let st := s.zst z
  let safe := decide (st ≤ zSTO) && (s.zStoppers z).all (fun o => s.confirmedOff o)
  let s := s.setFlag (.zoneStat z) fZoneStat_SAFE_STOP safe
  let s := s.setFlag (.zoneStat z) fZoneStat_RESET_OK (decide (st ≤ zSTO) && s.zRefuse z == 0)
  let left := s.fld (.zoneCfg z) fZoneCfg_SS1_T * 10 - (s.oas.n - (s.zone z).ss1At)
  s.setFld (.zoneStat z) fZoneStat_SS1_LEFT (if st = zSS1 then (left + 9) / 10 else 0)

/-- True for a zone that holds any axis, group, output or connection (R632). -/
def State.zUsed (s : State) (z : Nat) : Bool :=
  !(s.zGroups z).isEmpty || !(s.zOutputs z).isEmpty || !(s.zConns z false).isEmpty || !(s.zConns z true).isEmpty ||
    (List.range 192).any (fun n => s.axZone n == z)

/-- SAFE_STOP_ALL and the status bits of the island. -/
def State.oasStatus (s : State) : State :=
  let s := s.each allZones (fun z s => s.zoneStatus z)
  let s := s.setFlag .oasStat fOasStat_SAFE_STOP_ALL (allZones.all (fun z => !s.zUsed z || s.flag (.zoneStat z) fZoneStat_SAFE_STOP))
  let s := s.setFlag .oasStat fOasStat_RAIL_OK (!s.oas.railOut)
  (s.setFlag .oasStat fOasStat_CLK_OK (!s.oas.clkBad)).zoneShow

/-! ### SRST (R634) -/

/-- A sample of the SRST pair. -/
def State.srstSample (s : State) (a b : Bool) : State :=
  let h := s.oas
  let s := (s.setFlag .oasSrst fOasSrst_A a).setFlag .oasSrst fOasSrst_B b
  if !a && !b then
    let low := min 1000 (h.low + 1)
    let s := if 1000 ≤ low then s.setFlag .oasSrst fOasSrst_STUCK false else s
    { s with oas := { h with low := low, high := 0, apart := 0, armed := decide (1000 ≤ low), first := none, edge := false } }
  else
    let first := h.first.getD h.n
    let both := a && b
    let edge := both && h.armed && decide (h.n ≤ first + 1000) && !s.flag .oasSrst fOasSrst_STUCK
    { s with oas := { h with low := 0, high := if both then h.high + 1 else 0, apart := if both then 0 else h.apart + 1
                             armed := h.armed && !both, first := some first, edge := edge } }

/-- True when the pair is stuck (R634). -/
def State.srstSticks (s : State) : Bool :=
  !s.flag .oasSrst fOasSrst_STUCK && (decide (50000 < s.oas.high) || decide (10000 < s.oas.apart))

/-- STUCK. -/
def State.srstStuck (s : State) : State :=
  { s.setFlag .oasSrst fOasSrst_STUCK true with oas := { s.oas with armed := false, edge := false } }

/-- The edge recognised in this safety tick acts (R633, R634). -/
def State.srstEdge (s : State) : State :=
  let s := { s.incSat .oasSrst fOasSrst_RESETS with oas := { s.oas with edge := false } }
  (s.each (allZones.filter (fun z => s.flag (.zoneCfg z) fZoneCfg_SRST_EN)) (fun z s => s.zoneReset z)).oasStatus

/-! ### The safety tick (R609, R610) -/

/-- True when a safety tick is due. -/
def State.safetyDue (s : State) : Bool := !s.power.inReset && decide (s.oas.last + safetyTicks ≤ s.now)

/-- Readbacks and EDM levels of output o; EDM levels are by EDM input. -/
def State.soSample (s : State) (o : Nat) (hs ls : Bool) (edm : Nat) : State :=
  let s := (s.setFlag (.soStat o) fSoStat_RB_HS hs).setFlag (.soStat o) fSoStat_RB_LS ls
  let s := match s.soEdm o with
    | some e => s.setFlag (.soStat o) fSoStat_EDM_LEVEL (bitOf edm e)
    | none => s
  s.setFlag (.soStat o) fSoStat_EDM_OK (s.edmFits o)

/-- A fresh container is processed at the first safety tick after its receipt (R638, R639) (DEDUCED, log entry 69). -/
def State.connTick (s : State) (c : Nat) : State :=
  match (s.conn c).rx with
  | none => s
  | some b => (s.setConn c { s.conn c with b2 := b, rx := none }).setCst c 1

/-- Reset orders of IN COMMAND connections of zone z (R633, R640, R641). -/
def State.orderTick (s : State) (z : Nat) : State :=
  let l := (s.zConns z false).filter (fun c => (s.conn c).order)
  if l.isEmpty then s
  else
    let s := s.each l (fun c s => s.setConn c { s.conn c with order := false })
    if s.flag (.zoneCfg z) fZoneCfg_RESET_IN then s.zoneReset z else s

/-- A safety tick: si holds the levels of SI0_A to SI15_A and, from bit 16, of SI0_B to SI15_B; rb the high-side and, from bit 8, the
low-side readbacks; edm the EDM inputs; srst SRST_A and SRST_B; mis a difference of the two channels (R609 to R626). EDM_T counts from the first tick where no command has changed (R623). -/
def State.safetyTick (s : State) (si rb edm srst : Nat) (mis : Bool) : State :=
  let s := if s.oas.n = 0 then s.each (List.range 8) (fun o s => s.setSo o { s.so o with changed := s.now }) else s
  let s := { s with oas := { s.oas with last := s.now, n := s.oas.n + 1 } }
  let short := (List.range 8).filter (fun o => s.fld (.soCfg o) fSoCfg_FUNC != 0 && !s.flag (.soStat o) fSoStat_CMD &&
    (bitOf rb o || bitOf rb (8 + o)))
  let s := s.each (List.range 16) (fun i s => s.siSample i (bitOf si i) (bitOf si (16 + i)))
  let s := s.each (List.range 8) (fun o s => s.soSample o (bitOf rb o) (bitOf rb (8 + o)) edm)
  let s := s.srstSample (bitOf srst 0) (bitOf srst 1)
  let s := s.each (List.range 192) (fun c s => s.connTick c)
  let s := if mis then s.setFlag .oasStat fOasStat_INTERNAL true else s
  let s := s.each allZones (fun z s =>
    s.zoneTick z ((if mis then 256 else 0) + (if short.any (fun o => s.fld (.soCfg o) fSoCfg_ZONE == z) then 8 else 0)))
  let s := s.soFollow
  let s := s.each allZones (fun z s => s.orderTick z)
  s.oasStatus

/-! ### What a safety tick finds (rows of their own) -/

/-- True when SS1_T has run out in zone z (R626). -/
def State.ss1Due (s : State) (z : Nat) : Bool :=
  s.zst z == zSS1 && decide ((s.zone z).ss1At + s.fld (.zoneCfg z) fZoneCfg_SS1_T * 10 ≤ s.oas.n)

/-- The zone enters STO. -/
def State.ss1End (s : State) (z : Nat) : State := (s.zoneEnter z zSTO).oasStatus

/-- True when a test pulse of a side of output o is due (R621). -/
def State.pulseDue (s : State) (o : Nat) (high : Bool) : Bool :=
  let p := s.fld (.soCfg o) fSoCfg_TP_PERIOD * 500000000
  s.flag (.soStat o) fSoStat_CMD && decide ((if high then (s.so o).hs else (s.so o).ls) + p ≤ s.now)

/-- A test pulse with its readbacks: pass when the switch read off within the pulse and on after it. -/
def State.testPulse (s : State) (o : Nat) (high pass : Bool) : State :=
  let h := s.so o
  let p := s.fld (.soCfg o) fSoCfg_TP_PERIOD * 500000000
  let s := s.setSo o (if high then { h with hs := h.hs + p } else { h with ls := h.ls + p })
  let s := s.incWrap (.soStat o) fSoStat_TP_CNT
  if pass then s else (s.zoneFault (s.fld (.soCfg o) fSoCfg_ZONE) 4).oasStatus

/-- True when an SLS demand of zone z has persisted (R630). -/
def State.slsDue (s : State) (z : Nat) : Bool :=
  !s.flag (.zoneStat z) fZoneStat_SLS_ACT &&
    (match (s.zone z).slsFrom with | some t => decide (t + s.fld (.zoneCfg z) fZoneCfg_SLS_DLY * 10 ≤ s.oas.n) | none => false)

/-- The zone's SLS becomes active: the windows of its monitors begin (R630, R631). -/
def State.slsStart (s : State) (z : Nat) : State :=
  let s := s.setFlag (.zoneStat z) fZoneStat_SLS_ACT true
  (List.range 12).foldl (fun (s : State) c =>
    if s.fld (.slsCfg c) fSlsCfg_ZONE = z then { s with oas := { s.oas with
      slsAt := tabSet 0 c s.oas.n s.oas.slsAt, slsCnt := tabSet 0 c 0 s.oas.slsCnt } } else s) s

/-- True when a window of monitor c ends (R631). -/
def State.slsWindowDue (s : State) (c : Nat) : Bool :=
  s.flag (.slsCfg c) fSlsCfg_EN && s.flag (.zoneStat (s.fld (.slsCfg c) fSlsCfg_ZONE)) fZoneStat_SLS_ACT &&
    decide (tabGet 0 s.oas.slsAt c + s.fld (.slsCfg c) fSlsCfg_SLS_WIN * 10 ≤ s.oas.n)

/-- A window ends with the net count of its transitions, and the next begins (R631). -/
def State.slsWindow (s : State) (c : Nat) : State :=
  let z := s.fld (.slsCfg c) fSlsCfg_ZONE
  let lim := s.fld (.slsCfg c) fSlsCfg_LIM
  let x := (tabGet 0 s.oas.slsCnt c).natAbs
  let pm := if lim = 0 then (if x = 0 then 0 else 65535) else satU 16 (x * 1000 / lim)
  let upto := tabGet 0 s.oas.slsAt c + s.fld (.slsCfg c) fSlsCfg_SLS_WIN * 10
  let s := { s with oas := { s.oas with slsAt := tabSet 0 c upto s.oas.slsAt, slsCnt := tabSet 0 c 0 s.oas.slsCnt } }
  let s := (s.setFld (.slsStat c) fSlsStat_LAST (satU 24 x)).setFld (.slsStat c) fSlsStat_PEAK_PM (max pm (s.fld (.slsStat c) fSlsStat_PEAK_PM))
  let s := s.setZone z { s.zone z with windows := (s.oas.n, pm) :: (s.zone z).windows }
  if lim < x then (s.zoneFault z 32).oasStatus else s

/-- PEAK_PM is cleared. -/
def State.slsPeakClr (s : State) (c : Nat) : State := s.setFld (.slsStat c) fSlsStat_PEAK_PM 0

/-- An Oasis rail leaves its band for 2 µs, or is back in it (R612). -/
def State.oasRail (s : State) (out : Bool) : State :=
  let s := { s with oas := { s.oas with railOut := out } }
  if out then (((s.allPinsLow).soOff).allFault 7).oasStatus else s.oasStatus

/-! ### Software requests, password, change log (R635, R644 to R648) -/

/-- What a write of ZONE[z].CTL is refused with. -/
def zoneCtlRefuse (ag : Nat) : List Nat := refuseIf (!((1 ≤ ag && ag ≤ 10) || ag == 16)) cACCESS

/-- ZONE[z].CTL is written (R635): the demands act at the next safety tick. -/
def State.zoneCtlWrite (s : State) (z : Nat) (v : Word48) : State := s.setRegN (.zoneCtl z) (v.toNat % 16)

/-- What a write of PWD_CTL is refused with (R645). -/
def State.pwdRefuse (s : State) (ag : Nat) (v : Word48) : List Nat :=
  let l := wordFld v fOasPwdCtl_LEN
  let p := wordFld v fOasPwdCtl_PRESENT == 1
  refuseIf (!((1 ≤ ag && ag ≤ 10) || ag == 16) || (p && (decide (l < 8) || decide (16 < l)))) cACCESS ++
    refuseIf (p && s.oas.lockTo.isSome) cLOCKED

/-- PWD_OK is set or ended. -/
def State.setPwdOk (s : State) (b : Bool) : State :=
  let s := { s with oas := { s.oas with pwdTo := if b then some (s.now + 600 * 500000000) else none } }
  (s.setFlag .oasStat fOasStat_PWD_OK b).setFlag .oasPwdCtl fOasPwdCtl_OK b

/-- The 8 bytes of the unique ID (DESIGN CHOICE, log entry 5). -/
def uidBytes : List Byte := (List.range 8).map (fun i => Config.uid.extractLsb' (8 * i) 8)

/-- PRESENT = 1 (R644, R645) (DEDUCED, log entry 69). -/
def State.pwdPresent (s : State) (len : Nat) : State :=
  let chars := ((List.range 4).flatMap (fun j => leBytes 4 (s.fld (.oasPwdIn j) fOasPwdIn_CHARS))).take len
  let s := s.each (List.range 4) (fun j s => s.setReg (.oasPwdIn j) 0)
  if beNat (sha256 (uidBytes ++ chars)) = s.oas.pwdCheck then (s.setFld .oasPwdCtl fOasPwdCtl_FAILS 0).setPwdOk true
  else
    let s := s.incSat .oasPwdCtl fOasPwdCtl_FAILS
    if 3 ≤ s.fld .oasPwdCtl fOasPwdCtl_FAILS then { s with oas := { s.oas with lockTo := some (s.now + 60 * 500000000) } } else s

/-- True when PWD_OK expires (R645). -/
def State.pwdExpires (s : State) : Bool := match s.oas.pwdTo with | some t => decide (t ≤ s.now) | none => false
/-- True when PRESENT is accepted again (R645). -/
def State.lockEnds (s : State) : Bool := match s.oas.lockTo with | some t => decide (t ≤ s.now) | none => false
/-- PRESENT is accepted again. -/
def State.lockEnd (s : State) : State := { s with oas := { s.oas with lockTo := none } }

/-- HOLD_S: seconds of PWD_OK left, rounded up (DEDUCED, log entry 69). -/
def State.pwdLeft (s : State) : Nat :=
  match s.oas.pwdTo with
  | some t => (t - s.now + 499999999) / 500000000
  | none => 0

/-- A change-log entry (R647). -/
def State.logEntry (s : State) (ag : Nat) (pwd unordered : Bool) (newCrc : Nat) : List Byte :=
  let no := leAt (s.oas.log.headD []) 0 4 + 1
  let free := s.fld .timStat fTimStat_LSTATE == 0
  let sec := if free then 0 else uns 48 (s.lt / secUnit)
  let ns := uns 32 (s.lt % secUnit / 2 ^ 16)
  let b := leBytes 4 no ++ leBytes 6 sec ++ leBytes 4 ns ++ leBytes 1 ag ++
    leBytes 1 (b2n (!free) + 2 * b2n pwd + 4 * b2n unordered) ++ leBytes 2 4 ++ leBytes 2 0 ++
    leBytes 4 (s.fld .oasCfg fOasCfg_SAFETY_CRC) ++ leBytes 4 newCrc
  b ++ leBytes 4 (crc32c b)

/-- An entry is appended to the change log (R642, R647, R648); a failed write sets LOG_ERR. -/
def State.logAppend (s : State) (ag : Nat) (pwd unordered : Bool) (newCrc : Nat) (ok : Bool) : State :=
  if ok then
    let e := s.logEntry ag pwd unordered newCrc
    let l := (e :: s.oas.log).take 256
    let s := { s with oas := { s.oas with log := l, kept := (e :: s.oas.kept).take 256 } }
    ((s.setFld .oasLogIdx fOasLogIdx_COUNT l.length).setFlag .oasLogIdx fOasLogIdx_LOG_ERR false).raise 346
  else s.setFlag .oasLogIdx fOasLogIdx_LOG_ERR true

/-- Word j of the log entry shown (R647). -/
def State.logWord (s : State) (j : Nat) : Nat := leAt (s.oas.log.getD (s.fld .oasLogIdx fOasLogIdx_IDX) []) (4 * j) 4

end Sys2Proof.Machine
end

