-- ==== Sys2Proof/Machine/SpoutOps.lean ====
section
/-! DEFINITION. Spout, the signal processor (17_spout.md, R555 to R573): memories, instructions, loops, jobs. -/
namespace Sys2Proof.Machine

/-! ### Memories (R555, R557, R559) -/

/-- The base of a Spout memory: 0 X, 1 Y, 2 P. -/
def sptBase (space : Nat) : Nat := if space = 0 then 0x011C0000 else if space = 1 then 0x011D0000 else 0x011E0000

/-- A 32-bit word of a Spout memory. -/
def State.sptWord (s : State) (space a : Nat) : Nat := s.load (sptBase space + 4 * a) 4
/-- A data read: bits 23:0 as a Q1.23 value. -/
def State.sptRead (s : State) (space a : Nat) : Int := sgn 24 (s.sptWord space a)
/-- A Spout write: 24 bits, sign-extended. -/
def State.sptWrite (s : State) (space a : Nat) (v : Int) : State :=
  { s.store (sptBase space + 4 * a) 4 (uns 32 v) with ecc := s.ecc.filter (fun w => w != sptBase space / 4 + a) }
/-- True when an address lies in its memory (R559). -/
def sptIn (space a : Nat) : Bool := space == 2 || decide (a < 16384)

/-- What an external write of n bytes to P memory from byte offset off is refused with (R557). -/
def State.sptMemRefuse (s : State) (off : Nat) : List Nat :=
  refuseIf (decide (off < s.fld .sptCfg fSptCfg_PCODE_END * 256) && s.weirState 507 != 2) cLOCKED

/-! ### Pointers (R558) -/

/-- The least k with 2^k at least n, below 16. -/
def log2Ceil (n : Nat) : Nat := ((List.range 16).find? (fun k => decide (n ≤ 2 ^ k))).getD 15
/-- The k low bits reversed. -/
def bitrev (k x : Nat) : Nat := (List.range k).foldl (fun (acc : Nat) i => 2 * acc + (if bitOf x i then 1 else 0)) 0

/-- upd(p, m): none where the modifier is illegal. -/
def sptUpd (p m : Nat) : Option Nat :=
  let step := sgn 16 m
  let len := bitsOf m 16 15
  let br := bitOf m 31
  if len = 0 && !br then some (uns 15 ((p : Int) + step))
  else
    let k := log2Ceil len
    let base := p - p % 2 ^ k
    if !br then some (base + (((p - base : Nat) : Int) + step).emod len |>.toNat)
    else if len ≠ 2 ^ k then none
    else some (base + bitrev k (uns k ((bitrev k (p - base) : Int) + step)))

/-! ### Instruction words -/

def opNOP : Nat := 0x01
def opLD : Nat := 0x02
def opST : Nat := 0x03
def opLDI : Nat := 0x04
def opLPI : Nat := 0x05
def opLDC : Nat := 0x06
def opADDP : Nat := 0x07
def opMPY : Nat := 0x08
def opMAC : Nat := 0x09
def opMSU : Nat := 0x0A
def opMXY : Nat := 0x0B
def opMXP : Nat := 0x0C
def opCLR : Nat := 0x0D
def opSETA : Nat := 0x0E
def opADDA : Nat := 0x0F
def opSUBA : Nat := 0x10
def opASH : Nat := 0x11
def opABSA : Nat := 0x12
def opRND : Nat := 0x13
def opRNDS : Nat := 0x14
def opPKD : Nat := 0x15
def opBFLY : Nat := 0x18
def opBSCL : Nat := 0x19
def opBCLR : Nat := 0x1A
def opREP : Nat := 0x20
def opDO : Nat := 0x21
def opB : Nat := 0x22
def opHALT : Nat := 0x23
def opLDE : Nat := 0x28
def opSTE : Nat := 0x29

/-- The fields an opcode uses, as low bit and width; none for an opcode outside the table. -/
def sptFields (op : Nat) : Option (List (Nat × Nat)) :=
  if op = opNOP || op = opBFLY || op = opBSCL || op = opBCLR then some []
  else if op = opLD then some [(19, 3), (8, 8)]
  else if op = opST then some [(19, 3), (8, 8), (6, 1)]
  else if op = opLDI then some [(19, 3), (0, 16)]
  else if op = opLPI then some [(19, 3), (0, 15)]
  else if op = opLDC then some [(25, 1), (19, 3), (0, 15)]
  else if op = opADDP then some [(19, 3), (16, 3)]
  else if op = opMPY || op = opMAC || op = opMSU then some [(24, 2), (19, 3), (16, 3)]
  else if op = opMXY then some [(24, 2), (10, 6), (4, 6), (3, 1)]
  else if op = opMXP then some [(24, 2), (22, 2), (16, 6), (10, 6), (4, 6), (3, 1)]
  else if op = opCLR || op = opABSA then some [(24, 2)]
  else if op = opSETA then some [(24, 2), (19, 3)]
  else if op = opADDA || op = opSUBA then some [(24, 2), (22, 2)]
  else if op = opASH then some [(24, 2), (0, 6)]
  else if op = opRND then some [(24, 2), (19, 3), (0, 6), (6, 1)]
  else if op = opRNDS then some [(24, 2), (19, 3), (6, 1)]
  else if op = opPKD then some [(24, 2), (22, 2), (19, 3)]
  else if op = opREP then some [(0, 12)]
  else if op = opDO then some [(14, 12), (0, 10)]
  else if op = opB then some [(23, 3), (0, 15)]
  else if op = opHALT then some [(0, 8)]
  else if op = opLDE || op = opSTE then some [(19, 3), (16, 3), (8, 8)]
  else none

/-- Field values an opcode excludes. -/
def sptBad (op w : Nat) : Bool :=
  let space := bitsOf w 14 2
  if op = opLD then space == 3
  else if op = opST then decide (2 ≤ space)
  else if op = opLDE || op = opSTE then decide (2 ≤ space)
  else if op = opMXP then bitsOf w 24 2 == bitsOf w 22 2
  else if op = opASH then decide (24 < (sgn 6 w).natAbs)
  else if op = opRND then decide (23 < bitsOf w 0 6)
  else if op = opB then decide (6 ≤ bitsOf w 23 3)
  else false

/-- The opcode of a well-formed word, 0 for an illegal one. -/
def sptOp (w : Nat) : Nat :=
  let op := bitsOf w 26 6
  match sptFields op with
  | none => 0
  | some l => if l.foldl (fun (x : Nat) f => putBits x f.1 f.2 0) (w % 2 ^ 26) = 0 && !sptBad op w then op else 0

/-- True for an instruction that REP may repeat. -/
def sptRepeats (op : Nat) : Bool := op != 0 && decide (op ≤ 0x18)

/-! ### What an instruction does -/

/-- Writes of one instruction to X and Y: memory, word, value. -/
abbrev SptW := List (Nat × Nat × Int)

/-- What an instruction leads to: a context, with its writes; or the end of the job with an outcome, ERR, RES and an address. -/
inductive SptRes where
  | next (j : SptJob) (w : SptW)
  | stop (j : SptJob) (outcome err res addr : Nat)
  deriving Repr

/-- An element of a context's register list. -/
def getI (l : List Int) (i : Nat) : Int := l.getD i 0
/-- An element of a list of pointers or modifiers. -/
def getN (l : List Nat) (i : Nat) : Nat := l.getD i 0

/-- N and Z from a value (R560). -/
def SptJob.nz (j : SptJob) (v : Int) : SptJob := { j with n := decide (v < 0), z := decide (v = 0) }

/-- A value brought into w bits, with SAT (R560). -/
def SptJob.satTo (j : SptJob) (w : Nat) (x : Int) : Int × SptJob :=
  let y := satS w x
  (y, if y = x then j else { j with sat := true })

/-- The reduce operation of R189. -/
def SptJob.red (j : SptJob) (x sh : Int) (w : Nat) : Int × SptJob := j.satTo w (reduceRound x sh)

/-- An accumulator takes a sum (R188). -/
def SptJob.setAcc (j : SptJob) (a : Nat) (x : Int) : SptJob :=
  let r := j.satTo 56 x
  ({ r.2 with acc := r.2.acc.set a r.1 }).nz r.1

/-- A data register takes a value. -/
def SptJob.setD (j : SptJob) (d : Nat) (x : Int) : SptJob := { j with d := j.d.set d x }

/-- Redundant sign bits of a 24-bit value (R565). -/
def headroom (v : Int) : Nat :=
  let m := if v < 0 then (-1 - v).toNat else v.toNat
  ((List.range 24).filter (fun k => decide (m < 2 ^ (23 - k)))).length - 1

/-- A value written with BX = 1, or a butterfly result, sets BEX. -/
def SptJob.bexBy (j : SptJob) (v : Int) : SptJob := { j with bex := min j.bex (headroom v) }

/-- The instruction at pc stops the job. -/
def sptIll (j : SptJob) : SptRes := .stop j 4 0 0 0

/-- A memory operand: its address, and the pointers after the update. -/
def SptJob.operand (j : SptJob) (pi mi : Nat) : Nat × Option (List Nat) :=
  (getN j.p pi, (sptUpd (getN j.p pi) (getN j.m mi)).map (fun x => j.p.set pi x))

/-- The end of an instruction at pc (R561 to R563): a repetition, the next word, or the start of the next iteration; with the
extra ticks of a long body. -/
def sptLoops (pc : Nat) : List SptLoop → Nat × List SptLoop × Nat
  | [] => ((pc + 1) % 2 ^ 15, [], 0)
  | l :: t =>
    if l.last ≠ pc then ((pc + 1) % 2 ^ 15, l :: t, 0)
    else if l.idx + 1 < l.n then
      (l.first, { l with idx := l.idx + 1 } :: t, if 32 < (l.last + 2 ^ 15 - l.first) % 2 ^ 15 + 1 then 2 else 0)
    else sptLoops pc t

/-- The extra ticks at the end of the instruction at pc (R563). -/
def SptJob.extra (j : SptJob) : Nat := if 1 < j.rep then 0 else (sptLoops j.pc j.loops).2.2

/-- The context after the instruction at pc. -/
def SptJob.advance (j : SptJob) (ticks : Nat) : SptJob :=
  if 1 < j.rep then { j with rep := j.rep - 1, used := j.used + ticks }
  else
    let r := sptLoops j.pc j.loops
    { j with rep := 0, pc := r.1, loops := r.2.1, used := j.used + ticks + r.2.2 }

/-- A butterfly (R564). -/
def State.sptBfly (s : State) (j : SptJob) : SptRes :=
  let p0 := getN j.p 0
  let p1 := getN j.p 1
  let p2 := getN j.p 2
  if !sptIn 0 p0 then .stop j 5 0 0 p0
  else if !sptIn 0 p1 then .stop j 5 0 0 p1
  else
    match sptUpd p0 (getN j.m 0), sptUpd p1 (getN j.m 1), sptUpd p2 (getN j.m 2) with
    | some q0, some q1, some q2 =>
      let ar := s.sptRead 0 p0
      let ai := s.sptRead 1 p0
      let br := s.sptRead 0 p1
      let bi := s.sptRead 1 p1
      let wr := s.sptRead 2 p2
      let wi := s.sptRead 2 ((p2 + 1) % 2 ^ 15)
      let tr := 2 * br * wr - 2 * bi * wi
      let ti := 2 * br * wi + 2 * bi * wr
      let sh : Int := 24 + j.sc
      let x0 := j.red (ar * 2 ^ 24 + tr) sh 24
      let y0 := x0.2.red (ai * 2 ^ 24 + ti) sh 24
      let x1 := y0.2.red (ar * 2 ^ 24 - tr) sh 24
      let y1 := x1.2.red (ai * 2 ^ 24 - ti) sh 24
      let j := (((y1.2.bexBy x0.1).bexBy y0.1).bexBy x1.1).bexBy y1.1
      .next { j with p := ((j.p.set 0 q0).set 1 q1).set 2 q2 } [(0, p0, x0.1), (1, p0, y0.1), (0, p1, x1.1), (1, p1, y1.1)]
    | _, _, _ => sptIll j

/-- The products of MXY and MXP, with both addresses checked and the pointers updated in the order X, Y, P
(DEDUCED, log entry 68). -/
def State.sptMx (s : State) (j : SptJob) (w : Nat) (third : Bool) : SptRes :=
  let a := bitsOf w 24 2
  let b := bitsOf w 22 2
  let sg : Int := if bitOf w 3 then -1 else 1
  let px := getN j.p (bitsOf w 13 3)
  let py := getN j.p (bitsOf w 7 3)
  let pc := getN j.p (bitsOf w 19 3)
  if !sptIn 0 px then .stop j 5 0 0 px
  else if !sptIn 1 py then .stop j 5 0 0 py
  else
    let u := fun (p : Option (List Nat)) (pi mi : Nat) =>
      p.bind (fun l => (sptUpd (getN l pi) (getN j.m mi)).map (fun x => l.set pi x))
    let p1 := u (u (some j.p) (bitsOf w 13 3) (bitsOf w 10 3)) (bitsOf w 7 3) (bitsOf w 4 3)
    let p2 := if third then u p1 (bitsOf w 19 3) (bitsOf w 16 3) else p1
    match p2 with
    | none => sptIll j
    | some p =>
      let x := s.sptRead 0 px
      let y := s.sptRead 1 py
      let c := s.sptRead 2 pc
      let j := { j with p := p }
      if third then .next ((j.setAcc a (getI j.acc a + sg * 2 * x * c)).setAcc b (getI j.acc b + sg * 2 * y * c)) []
      else .next (j.setAcc a (getI j.acc a + sg * 2 * x * y)) []

/-- A load or a store to Spout's own memories. -/
def State.sptMem (s : State) (j : SptJob) (w : Nat) (load : Bool) : SptRes :=
  let space := bitsOf w 14 2
  let o := j.operand (bitsOf w 11 3) (bitsOf w 8 3)
  let d := bitsOf w 19 3
  if !sptIn space o.1 then .stop j 5 0 0 o.1
  else match o.2 with
    | none => sptIll j
    | some p =>
      if load then
        let v := s.sptRead space o.1
        .next ((({ j with p := p }).setD d v).nz v) []
      else
        let v := getI j.d d
        let j := { j with p := p }
        .next (if bitOf w 6 then j.bexBy v else j) [(space, o.1, v)]

/-- A reduction of ACCa into Dd by a shift. -/
def sptRnd (j : SptJob) (w : Nat) (sh : Int) : SptRes :=
  let r := j.red (getI j.acc (bitsOf w 24 2)) sh 24
  let j := (r.2.setD (bitsOf w 19 3) r.1).nz r.1
  .next (if bitOf w 6 then j.bexBy r.1 else j) []

/-- REP (R561) (DEDUCED, log entry 68). -/
def State.sptRep (s : State) (j : SptJob) (w : Nat) : SptRes :=
  let n := bitsOf w 0 12 + 1
  let op := sptOp (s.sptWord 2 ((j.pc + 1) % 2 ^ 15))
  if !sptRepeats op then sptIll j
  else if s.fld .sptCfg fSptCfg_REP_LIM < n * (if op = opBFLY then 4 else 1) then .stop j 7 0 0 0
  else .next { j with rep := n } []

/-- DO (R562). -/
def State.sptDo (s : State) (j : SptJob) (w : Nat) : SptRes :=
  let n := bitsOf w 14 12 + 1
  let last := (j.pc + bitsOf w 0 10 + 1) % 2 ^ 15
  let op := bitsOf (s.sptWord 2 last) 26 6
  if 4 ≤ j.loops.length || [opREP, opDO, opB, opHALT].contains op then sptIll j
  else .next { j with loops := ⟨(j.pc + 1) % 2 ^ 15, last, n, 0⟩ :: j.loops } []

/-- True when a word address lies in a loop's body. -/
def loopHas (l : SptLoop) (a : Nat) : Bool :=
  decide ((a + 2 ^ 15 - l.first) % 2 ^ 15 ≤ (l.last + 2 ^ 15 - l.first) % 2 ^ 15)

/-- The loops left after a branch to a: one whose body does not hold a ends, with every loop inside it (R562). -/
def loopsAfter (a : Nat) : List SptLoop → List SptLoop
  | [] => []
  | l :: t => if (l :: t).all (fun x => loopHas x a) then l :: t else loopsAfter a t

/-- True when B's condition holds. -/
def sptCond (j : SptJob) (c : Nat) : Bool :=
  if c = 0 then true else if c = 1 then j.z else if c = 2 then !j.z else if c = 3 then j.n else if c = 4 then !j.n else j.sat

/-- The ticks of an instruction. -/
def sptTicks (j : SptJob) (op w : Nat) : Nat :=
  if op = opBFLY then 4
  else if op = opDO || op = opHALT then 2
  else if op = opB then (if sptCond j (bitsOf w 23 3) then 3 else 1)
  else if op = opLDE || op = opSTE || op = 0 then 0
  else 1

/-- What the word w does to a context, but for REP, DO, B, HALT, LDE and STE. -/
def State.sptData (s : State) (j : SptJob) (w : Nat) : SptRes :=
  let op := sptOp w
  let a := bitsOf w 24 2
  let b := bitsOf w 22 2
  let d := bitsOf w 19 3
  let e := bitsOf w 16 3
  let ca := getI j.acc a
  let cb := getI j.acc b
  let pr := 2 * getI j.d d * getI j.d e
  if op = opNOP then .next j []
  else if op = opLD then s.sptMem j w true
  else if op = opST then s.sptMem j w false
  else if op = opLDI then
    let v := sgn 16 w * 2 ^ 8
    .next ((j.setD d v).nz v) []
  else if op = opLPI then .next { j with p := j.p.set d (bitsOf w 0 15) } []
  else if op = opLDC then
    let x := s.sptWord 2 (bitsOf w 0 15)
    .next (if bitOf w 25 then { j with m := j.m.set d x } else { j with p := j.p.set d (x % 2 ^ 15) }) []
  else if op = opADDP then
    match sptUpd (getN j.p d) (getN j.m e) with
    | some x => .next { j with p := j.p.set d x } []
    | none => sptIll j
  else if op = opMPY then .next (j.setAcc a pr) []
  else if op = opMAC then .next (j.setAcc a (ca + pr)) []
  else if op = opMSU then .next (j.setAcc a (ca - pr)) []
  else if op = opMXY then s.sptMx j w false
  else if op = opMXP then s.sptMx j w true
  else if op = opCLR then .next (j.setAcc a 0) []
  else if op = opSETA then .next (j.setAcc a (getI j.d d * 2 ^ 24)) []
  else if op = opADDA then .next (j.setAcc b (cb + ca)) []
  else if op = opSUBA then .next (j.setAcc b (cb - ca)) []
  else if op = opASH then
    let k := sgn 6 w
    if 0 ≤ k then .next (j.setAcc a (ca * 2 ^ k.toNat)) []
    else
      let r := j.red ca (-k) 56
      .next (r.2.setAcc a r.1) []
  else if op = opABSA then .next (j.setAcc a (ca.natAbs : Int)) []
  else if op = opRND then sptRnd j w (24 + (bitsOf w 0 6 : Int))
  else if op = opRNDS then sptRnd j w (24 + (j.sc : Int))
  else if op = opPKD then
    if ca > cb then .next ((j.setAcc b ca).setD d (match j.loops with | l :: _ => (l.idx : Int) | [] => 0)) [] else .next j []
  else if op = opBFLY then s.sptBfly j
  else if op = opBSCL then
    let sc := 2 - j.bex
    .next { j with sc := sc, exp := j.exp + sc, bex := 23 } []
  else if op = opBCLR then .next { j with bex := 23, sc := 0, exp := 0 } []
  else sptIll j

/-- True for an instruction that writes two registers, so that N and Z follow neither by the spec's words (R560)
(DEDUCED, log entry 68). -/
def sptTwo (j : SptJob) (w : Nat) : Bool :=
  let op := sptOp w
  op == opMXP || (op == opPKD && decide (getI j.acc (bitsOf w 22 2) < getI j.acc (bitsOf w 24 2)))

/-! ### ECC (R572) -/

/-- The words the instruction w reads, data before its own word, each as address / 4. -/
def sptReads (j : SptJob) (w : Nat) : List Nat :=
  let op := sptOp w
  let at_ := fun (space a : Nat) => sptBase space / 4 + a
  let ptr := fun (lo : Nat) => getN j.p (bitsOf w lo 3)
  (if op = opLD || op = opSTE then [at_ (bitsOf w 14 2) (ptr 11)]
   else if op = opLDC then [at_ 2 (bitsOf w 0 15)]
   else if op = opMXY then [at_ 0 (ptr 13), at_ 1 (ptr 7)]
   else if op = opMXP then [at_ 0 (ptr 13), at_ 1 (ptr 7), at_ 2 (ptr 19)]
   else if op = opBFLY then
     [at_ 0 (getN j.p 0), at_ 1 (getN j.p 0), at_ 0 (getN j.p 1), at_ 1 (getN j.p 1), at_ 2 (getN j.p 2), at_ 2 ((getN j.p 2 + 1) % 2 ^ 15)]
   else []) ++ [at_ 2 j.pc]

/-- True when a read of the instruction meets an uncorrectable error: one that appears now, or a word known to hold one. -/
def State.sptEcc (s : State) (j : SptJob) (w : Nat) (ecc : Bool) : Bool := ecc || (sptReads j w).any (fun a => s.ecc.contains a)

/-- The word in error holds its error until it is written: of an error that appears now, the first word the instruction reads
(DESIGN CHOICE, log entry 103). -/
def State.sptEccMark (s : State) (j : SptJob) (w : Nat) : State :=
  if (sptReads j w).any (fun a => s.ecc.contains a) then s else { s with ecc := (sptReads j w).take 1 ++ s.ecc }

/-! ### Jobs (R567 to R573) -/

/-- Spout's registers follow its jobs (DEDUCED, log entry 68). -/
def State.sptShow (s : State) : State :=
  let h := s.spout
  let live := match h.run with
    | some j => !j.dead
    | none => false
  let s := s.setFlag .sptStat fSptStat_RUNNING live
  let s := s.setFld .sptStat fSptStat_RUN_TASK (match h.run with | some j => if j.dead then 0 else j.task | none => 0)
  (s.setFld .sptStat fSptStat_QUEUED h.queue.length).setFld .sptStat fSptStat_SUSPENDED h.susp.length

/-- Replace Spout's jobs. -/
def State.setSpout (s : State) (h : SpoutH) : State := ({ s with spout := h }).sptShow

/-- Ticks of Spout's time go to the cycle's consumption of a task (R568). -/
def State.sptCharge (s : State) (t n : Nat) : State :=
  let a := s.arb 1
  s.setArb 1 { a with granted := tabSet 0 t (tabGet 0 a.granted t + n) a.granted }

/-- DONE[t] of a job that ends (R572), and its event flag. -/
def State.sptReport (s : State) (j : SptJob) (outcome err res : Nat) : State :=
  let r : Reg := .sptDone j.task
  let s := ((s.setFld r fSptDone_OUTCOME outcome).setFld r fSptDone_ERR err).setFld r fSptDone_RES res
  let s := (s.setFld r fSptDone_EXP (j.exp % 32)).setFlag r fSptDone_SAT j.sat
  let s := (s.setFld r fSptDone_TICKS (satU 24 j.used)).setFlag r fSptDone_VALID true
  if outcome = 3 then s
  else if !s.weirOpen (taskWeir j.task) then s.incSat (.taskStat j.task) fTaskStat_DROPPED
  else s.setTaskFlags j.task (2 ^ j.evf)

/-- A waiting job that preempts the job of task t (R570) (DEDUCED, log entry 68). -/
def State.sptPreempts (s : State) (t : Nat) : Bool :=
  (s.arb 1).waiting.any (fun q => s.arbClass 1 q == 1 || (s.arbClass 1 q == 2 && s.fld (.shrReqCfg 1 t) fShrReqCfg_CLASS == 3))

/-- Spout is idle: the last suspended job resumes, unless a waiting one comes before it (R570). -/
def State.sptResume (s : State) : State :=
  let h := s.spout
  match h.susp with
  | [] => s.setSpout { h with run := none, freeAt := max h.freeAt s.now }
  | j :: t =>
    if s.sptPreempts j.task then s.setSpout { h with run := none, freeAt := max h.freeAt s.now }
    else
      let from_ := max h.freeAt s.now
      (s.sptCharge j.task 8).setSpout { h with run := some { j with used := j.used + 8 }, susp := t, at_ := from_ + 8 }

/-- Spout is not left idle over a suspended job when the one it waited for is gone. -/
def State.sptWake (s : State) : State := if s.spout.run.isNone then s.sptResume else s

/-- The running job ends (R572). -/
def State.sptEnd (s : State) (j : SptJob) (outcome err res addr : Nat) : State :=
  if j.dead then s.setSpout { s.spout with run := none } else
  let s := if 4 ≤ outcome then
      ((s.setFld .sptFault fSptFault_PC j.pc).setFld .sptFault fSptFault_ADDR
        (if outcome = 5 || outcome = 6 then addr else 0)).incSat .sptCnt fSptCnt_FAULTS
    else s
  let s := s.sptReport j outcome err res
  (s.setSpout { s.spout with run := none, freeAt := s.now }).sptResume

/-- A job that is to stop does so at an interruptible point, between instructions or while it waits for an access (R570); one behind
a closed weir ends with its REP. -/
def State.sptPoint (s : State) : State :=
  match s.spout.run with
  | some j =>
    if j.rep ≠ 0 then s
    else if j.dead then s.setSpout { s.spout with run := none }
    else if j.stop && (j.ext.isSome || decide (s.now ≤ s.spout.at_)) then s.sptEnd j 3 4 0 0
    else s
  | none => s

/-- The job that runs an instruction of opcode op in this tick, with its word. Nothing interrupts a REP, not its LIMIT either (R561). -/
def State.sptNow (s : State) (op : Nat) : Option (SptJob × Nat) :=
  match s.spout.run with
  | none => none
  | some j =>
    let w := s.sptWord 2 j.pc
    let t := sptTicks j op w
    if sptOp w = op && j.ext.isNone && decide (s.spout.at_ + t ≤ s.now) && (j.limit = 0 || j.rep != 0 || decide (j.used + t ≤ j.limit)) then
      some (j, w)
    else none

/-- An instruction's result takes effect: writes, context, time. -/
def State.sptTake (s : State) (ticks : Nat) (r : SptRes) : State :=
  match r with
  | .stop j o e res a => (s.sptCharge j.task ticks).sptEnd { j with used := j.used + ticks } o e res a
  | .next j w =>
    let s := w.foldl (fun (s : State) x => s.sptWrite x.1 x.2.1 x.2.2) s
    let s := (s.sptCharge j.task (ticks + j.extra)).setSpout { s.spout with run := some (j.advance ticks), at_ := s.now + j.extra }
    s.sptPoint

/-- The running job executes a data instruction of opcode op; ecc is an uncorrectable error on one of its reads (R572). -/
def State.sptRunData (s : State) (op : Nat) (ecc : Bool) : State :=
  match s.sptNow op with
  | none => s
  | some (j, w) =>
    let t := sptTicks j op w
    if s.sptEcc j w ecc then (s.sptEccMark j w).sptTake t (.stop j 9 8 0 0)
    else
      let r := s.sptData j w
      if sptTwo j w then
        let f := s.takeFree 2
        let r := match r with
          | .next j ws => .next { j with n := bitOf f.1 0, z := bitOf f.1 1 } ws
          | x => x
        f.2.sptTake t r
      else s.sptTake t r

/-- REP and DO. -/
def State.sptRunRep (s : State) (ecc : Bool) : State :=
  match s.sptNow opREP with
  | none => s
  | some (j, w) =>
    if s.sptEcc j w ecc then (s.sptEccMark j w).sptTake 1 (.stop j 9 8 0 0)
    else match s.sptRep j w with
      | .stop j o e r a => s.sptTake 1 (.stop j o e r a)
      | .next j _ =>
        let k := { j with pc := (j.pc + 1) % 2 ^ 15, used := j.used + 1 }
        (s.sptCharge j.task 1).setSpout { s.spout with run := some k, at_ := s.now }

/-- DO. -/
def State.sptRunDo (s : State) (ecc : Bool) : State :=
  match s.sptNow opDO with
  | none => s
  | some (j, w) =>
    if s.sptEcc j w ecc then (s.sptEccMark j w).sptTake 2 (.stop j 9 8 0 0)
    else match s.sptDo j w with
      | .stop j o e r a => s.sptTake 2 (.stop j o e r a)
      | .next j _ =>
        let k := { j with pc := (j.pc + 1) % 2 ^ 15, used := j.used + 2 }
        ((s.sptCharge j.task 2).setSpout { s.spout with run := some k, at_ := s.now }).sptPoint

/-- B: a taken branch ends the loops it leaves; one not taken goes on. -/
def State.sptRunB (s : State) (ecc : Bool) : State :=
  match s.sptNow opB with
  | none => s
  | some (j, w) =>
    let t := sptTicks j opB w
    if s.sptEcc j w ecc then (s.sptEccMark j w).sptTake t (.stop j 9 8 0 0)
    else if t = 3 then
      let a := bitsOf w 0 15
      let k := { j with pc := a, loops := loopsAfter a j.loops, used := j.used + 3 }
      ((s.sptCharge j.task 3).setSpout { s.spout with run := some k, at_ := s.now }).sptPoint
    else s.sptTake t (.next j [])

/-- HALT. -/
def State.sptRunHalt (s : State) (ecc : Bool) : State :=
  match s.sptNow opHALT with
  | none => s
  | some (j, w) =>
    if s.sptEcc j w ecc then (s.sptEccMark j w).sptTake 2 (.stop j 9 8 0 0) else s.sptTake 2 (.stop j 0 0 (bitsOf w 0 8) 0)

/-- An illegal word. -/
def State.sptRunIllegal (s : State) (ecc : Bool) : State :=
  match s.sptNow 0 with
  | none => s
  | some (j, w) => if s.sptEcc j w ecc then (s.sptEccMark j w).sptTake 0 (.stop j 9 8 0 0) else s.sptTake 0 (sptIll j)

/-- LDE and STE issue their access (R566). -/
def State.sptIssue (s : State) (load ecc : Bool) : State :=
  match s.sptNow (if load then opLDE else opSTE) with
  | none => s
  | some (j, w) =>
    let space := bitsOf w 14 2
    let o := j.operand (bitsOf w 11 3) (bitsOf w 8 3)
    let k := bitsOf w 19 3
    if s.sptEcc j w ecc then (s.sptEccMark j w).sptTake 0 (.stop j 9 8 0 0)
    else if !sptIn space o.1 then s.sptTake 0 (.stop j 5 0 0 o.1)
    else match o.2 with
      | none => s.sptTake 0 (sptIll j)
      | some p =>
        let pk := getN j.p k
        match sptUpd (getN p k) (getN j.m (bitsOf w 16 3)) with
        | none => s.sptTake 0 (sptIll j)
        | some x =>
          let e : SptExt := { addr := (j.eb + 4 * pk) % 2 ^ 32, load := load, space := space, word := o.1, data := s.sptWord space o.1
                              p := p.set k x }
          s.setSpout { s.spout with run := some { j with ext := some e }, at_ := s.now }

/-- The job of task t whose access is in progress. -/
def State.sptExtJob (s : State) (t : Nat) : Option SptJob :=
  ((match s.spout.run with | some j => [j] | none => []) ++ s.spout.susp).find? (fun j => j.task == t && j.ext.isSome)

/-- The task whose job has an access to address a in progress. -/
def State.sptExtAt (s : State) (a : Nat) : Option Nat :=
  (((match s.spout.run with | some j => [j] | none => []) ++ s.spout.susp).find? (fun j =>
    match j.ext with | some e => e.addr == a | none => false)).map (fun j => j.task)

/-- Replace a job that is running or suspended. -/
def State.sptPut (s : State) (j : SptJob) : State :=
  let h := s.spout
  match h.run with
  | some r => if r.task = j.task then s.setSpout { h with run := some j }
      else s.setSpout { h with susp := h.susp.map (fun x => if x.task = j.task then j else x) }
  | none => s.setSpout { h with susp := h.susp.map (fun x => if x.task = j.task then j else x) }

/-- True when the job of task t runs. -/
def State.sptRuns (s : State) (t : Nat) : Bool := match s.spout.run with | some j => j.task == t | none => false

/-- The access of a job fails (R566): in the running job at once, else in the background. -/
def State.sptAccessFails (s : State) (j : SptJob) (addr : Nat) (run : Bool) (code : Nat) : State :=
  if run then s.sptEnd j 6 code 0 addr
  else
    let s := s.setSpout { s.spout with susp := s.spout.susp.filter (fun x => x.task != j.task) }
    let s := ((s.setFld .sptFault fSptFault_PC j.pc).setFld .sptFault fSptFault_ADDR addr).incSat .sptCnt fSptCnt_FAULTS
    s.sptReport j 6 code 0

/-- The access of a job is answered (R566). -/
def State.sptAccessDone (s : State) (j : SptJob) (e : SptExt) (run : Bool) (data : Nat) : State :=
  let s := if e.load then s.sptWrite e.space e.word (sgn 24 data) else s
  let j := { j with p := e.p }
  let s := s.sptPut (j.advance 0)
  if run then ((s.sptCharge j.task j.extra).setSpout { s.spout with at_ := s.now + j.extra }).sptPoint else s

/-- The response to the access of task t's job (R566): code, and the word read. A suspended job takes it in the background
(DEDUCED, log entry 68). -/
def State.sptRespond (s : State) (t code data : Nat) : State :=
  match s.sptExtJob t with
  | none => s
  | some j =>
    match j.ext with
    | none => s
    | some e =>
      let run := s.sptRuns t
      let d := if run then s.now - s.spout.at_ else 0
      let s := s.sptCharge t d
      let j := { j with ext := none, used := j.used + d }
      if code ≠ 0 then s.sptAccessFails j e.addr run code else s.sptAccessDone j e run data

/-- True when the running job has used its LIMIT (R572). -/
def State.sptTimesOut (s : State) : Bool :=
  match s.spout.run with
  | some j => !j.dead && j.rep == 0 && j.limit != 0 && decide (j.limit + (s.spout.at_ - s.now) ≤ j.used + (s.now - s.spout.at_))
  | none => false

/-- The job stops with TIMEOUT. -/
def State.sptTimeout (s : State) : State :=
  match s.spout.run with
  | some j =>
    let d := s.now - s.spout.at_
    (s.sptCharge j.task d).sptEnd { j with used := j.used + d, ext := none } 8 0 0 0
  | none => s

/-- True when the running job is suspended for a waiting one, at an interruptible point and with a context free (R570). -/
def State.sptMayPreempt (s : State) : Bool :=
  match s.spout.run with
  | some j => j.rep == 0 && !j.dead && s.sptPreempts j.task && decide (s.spout.susp.length < 7) &&
      (s.now == s.spout.at_ || (j.ext.isSome && decide (s.spout.at_ ≤ s.now)))
  | none => false

/-- The running job is suspended: 8 ticks, which count to it. -/
def State.sptSuspend (s : State) : State :=
  match s.spout.run with
  | none => s
  | some j =>
    let d := if j.ext.isSome then s.now - s.spout.at_ else 0
    let s := (s.sptCharge j.task (8 + d)).incSat .sptCnt fSptCnt_PREEMPTS
    s.setSpout { s.spout with run := none, susp := { j with used := j.used + 8 + d } :: s.spout.susp, freeAt := s.now + 8 }

/-- A granted job starts (R568): 4 ticks (DEDUCED, log entry 68). -/
def sptStart (q : ArbReq) (s : State) : State :=
  match s.spout.queue.find? (fun j => j.task == q.r) with
  | none => s
  | some j =>
    let j := { j with pc := j.entry, d := j.d.set 0 (sgn 24 j.arg), used := 4 }
    let h := s.spout
    (s.setSpout { h with run := some j, at_ := max h.freeAt s.now + 4, queue := h.queue.filter (fun x => x.task != q.r) }).incSat
      .sptCnt fSptCnt_JOBS

/-- True when Spout can start a waiting job. -/
def State.sptMayStart (s : State) : Bool :=
  s.spout.run.isNone && !(s.arbFresh 1).isEmpty && s.weirOpen 507 && decide (s.spout.freeAt ≤ s.now)

/-- The arbiter of unit 1 grants a job. -/
def State.sptGrant (s : State) : State :=
  match s.arbGrant 1 (s.arbFresh 1) with
  | some (q, s) => sptStart q s
  | none => s

/-- A queued job is refused (R569). -/
def State.sptRefused (s : State) (q : ArbReq) (code : Nat) : State :=
  match s.spout.queue.find? (fun j => j.task == q.r) with
  | none => s
  | some j =>
    let s := s.setSpout { s.spout with queue := s.spout.queue.filter (fun x => x.task != q.r) }
    (s.sptReport j (if code = cREFUSED then 1 else 2) code 0).sptWake

/-- The task a core holds. -/
def State.heldTask (s : State) (ag : Nat) : Option Nat :=
  if 1 ≤ ag && ag ≤ 8 && s.flag (.coreStat (ag - 1)) fCoreStat_HOLD then some (s.fld (.coreStat (ag - 1)) fCoreStat_TASK) else none

/-- SUB_A, SUB_EXT and SUB_ARG of an agent (DEDUCED, log entry 68). -/
def State.sptSub (s : State) (ag : Nat) : Word48 × Word48 × Word48 := tabGet (0, 0, 0) s.spout.subs ag
/-- Replace them. -/
def State.setSptSub (s : State) (ag : Nat) (x : Word48 × Word48 × Word48) : State :=
  { s with spout := { s.spout with subs := tabSet (0, 0, 0) ag x s.spout.subs } }

/-- What a write of SUB_GO = 1 is refused with (R567). -/
def State.sptPostRefuse (s : State) (ag : Nat) : List Nat :=
  match s.heldTask ag with
  | none => [cACCESS]
  | some t =>
    let h := s.spout
    refuseIf (s.sptRuns t || h.susp.any (fun j => j.task == t) || h.queue.any (fun j => j.task == t) ||
      decide (16 ≤ h.queue.length)) cBUSY

/-- SUB_GO = 1 (R567, R569). -/
def State.sptPost (s : State) (ag : Nat) : State :=
  match s.heldTask ag with
  | none => s
  | some t =>
    let x := s.sptSub ag
    let j : SptJob := { task := t, entry := wordFld x.1 fSptSubA_ENTRY, evf := wordFld x.1 fSptSubA_EVF
                        limit := wordFld x.1 fSptSubA_LIMIT, eb := wordFld x.2.1 fSptSubExt_EB, arg := wordFld x.2.2 fSptSubArg_ARG }
    let s := s.setSpout { s.spout with queue := s.spout.queue ++ [j] }
    let q : ArbReq := { r := t, arrival := s.now, tick := s.now, cost := 4 }
    let free := s.spout.run.isNone && s.spout.susp.isEmpty && decide (s.spout.freeAt ≤ s.now)
    let refused := s.arbIdleNot 1 q free
    let s := s.arbAdd 1 q
    if refused then (s.arbRefuse 1 q cREFUSED).sptRefused q cREFUSED else s

/-! ### Weirs (R561, R573) -/

/-- Spout's weir leaves OPEN: every job ends ABORTED; a REP under way runs on without its job. -/
def State.sptClose (s : State) : State :=
  let h := s.spout
  let all := (match h.run with | some j => if j.dead then [] else [j] | none => []) ++ h.susp ++ h.queue
  let s := all.foldl (fun (s : State) j => s.sptReport j 3 4 0) s
  let s := s.arbWithdraw 1 (fun _ => true)
  let run := match h.run with
    | some j => if j.rep = 0 then none else some { j with dead := true, limit := 0, ext := none }
    | none => none
  s.setSpout { s.spout with run := run, susp := [], queue := [] }

/-- True while a REP runs on behind the weir. -/
def State.sptRepRuns (s : State) : Bool := match s.spout.run with | some j => decide (j.rep ≠ 0) | none => false

/-- The weir of Sluice task t leaves OPEN (R573). -/
def State.sptTaskClose (s : State) (t : Nat) : State :=
  let h := s.spout
  let s := match h.queue.find? (fun j => j.task == t) with
    | some j => ((s.sptReport j 3 4 0).arbWithdraw 1 (fun q => q.r == t)).setSpout { h with queue := h.queue.filter (fun x => x.task != t) }
    | none => s
  let s := match s.spout.susp.find? (fun j => j.task == t) with
    | some j => (s.sptReport j 3 4 0).setSpout { s.spout with susp := s.spout.susp.filter (fun x => x.task != t) }
    | none => s
  match s.spout.run with
  | some j => if j.task = t && !j.dead then (s.setSpout { s.spout with run := some { j with stop := true } }).sptPoint else s
  | none => s.sptWake

end Sys2Proof.Machine
end

