-- ==== Sys2Proof/Machine/ConfigCheck.lean ====
section
/-! DEFINITION. What rejects an image with CONFIG (R97 item 5): the values its units cannot take, as the chapters of the units
state them. -/
namespace Sys2Proof.Machine

/-- A value lies between two bounds. -/
def within (lo hi x : Nat) : Bool := decide (lo ≤ x) && decide (x ≤ hi)

/-! ### The cycle (R433 to R435, R708); times in half nanoseconds -/

/-- The rate-exact cycle lengths of R434 in half nanoseconds. -/
def rateExact : List Nat := [2000000, 1000000, 500000, 250000, 125000, 62500, 31250, 15625]

/-- L is one that R434 allows. -/
def lengthOk (l : Nat) : Bool := (l % 16 == 0 && within 15632 2000000 l) || rateExact.contains l

/-- True where R708 lets MS_COUNT be 0. -/
def State.mayLackDynamic (s : State) : Bool := s.isHead && !s.twin && !allNodes.any (fun k => s.nodeUsed k)

/-- The longest cyclic frame of any slot in half nanoseconds. -/
def State.longestFrame (s : State) : Nat :=
  8 * (if s.isDrive then 14 + 16 * (s.drv.nrec + s.drv.nsc)
    else maxOf ((allNodes.filter (fun k => s.nodeUsed k)).map (fun k => s.frameGroups k)))

/-- The cycle's parameters are those that R433 to R435 allow. -/
def State.cycleOk (s : State) : Bool :=
  let l := s.cycLen
  let st := 4 * s.segTicks fNetSegCfg_STATIC_START
  let len := 4 * s.segTicks fNetSegCfg_SLOT_LEN
  let n := s.fld .netSegCfg fNetSegCfg_SLOT_COUNT
  let dyn := 4 * s.segTicks fNetSegCfg_DYN_START
  let apo := 4 * s.apo
  let early := 4 * s.grdTicks fNetGrdCfg_G_EARLY
  let close := 4 * s.grdTicks fNetGrdCfg_G_CLOSE
  let ms := s.msCount
  lengthOk l && within 400 131056 st && within 1 16 n && within 400 131056 len && within 32 504 apo &&
  within 8 (apo - 16) early && within 32 504 close && decide (st + n * len + 32 ≤ dyn) && decide (dyn + 1000 ≤ l) &&
  decide (dyn + 160 * ms + 1000 ≤ l) && within 16 (l - 16) (4 * s.oiTicks) &&
  within 1 15 (s.fld .netGrdCfg fNetGrdCfg_SYNC_LOSS) && within 16 1000 (s.fld .netGrdCfg fNetGrdCfg_SYNC_TOL) &&
  decide (apo + s.longestFrame + close ≤ len) &&
  (if ms = 0 then s.mayLackDynamic else within 6 32 s.rngMs && decide (s.rngMs ≤ ms)) &&
  (!s.twin || decide (512 ≤ st))

/-! ### The schedule (R451, R456) -/

/-- Two uplink allocations overlap. -/
def allocsMeet (a b : Nat × Nat) : Bool := decide (0 < a.2) && decide (0 < b.2) && decide (a.1 < b.1 + b.2) && decide (b.1 < a.1 + a.2)

/-- The uplink allocation of node k. -/
def State.upAlloc (s : State) (k : Nat) : Nat × Nat := (s.fld (.nodeCfg k) fNodeCfg_UP_FIRST, s.fld (.nodeCfg k) fNodeCfg_UP_MS)

/-- The node entries of a port are those that R451 allows. -/
def State.portScheduleOk (s : State) (p : Nat) : Bool :=
  let l := s.nodesOn p
  let clash := fun (f : Nat → Nat) => l.any (fun a => l.any (fun b => a != b && f a == f b))
  decide (l.length ≤ 4) && !clash (fun k => s.fld (.nodeCfg k) fNodeCfg_POS) && !clash (fun k => s.fld (.nodeCfg k) fNodeCfg_SLOT) &&
  !l.any (fun a => l.any (fun b => a != b && allocsMeet (s.upAlloc a) (s.upAlloc b))) &&
  l.all (fun k =>
    let nrec := s.fld (.nodeCfg k) fNodeCfg_NREC
    decide (s.fld (.nodeCfg k) fNodeCfg_SLOT < s.fld .netSegCfg fNetSegCfg_SLOT_COUNT) &&
    ((s.upAlloc k).2 == 0 || (decide (s.rngMs ≤ (s.upAlloc k).1) && decide ((s.upAlloc k).1 + (s.upAlloc k).2 ≤ s.msCount))) &&
    decide (nrec + s.fld (.nodeCfg k) fNodeCfg_NSC ≤ 12) && decide (nrec ≤ 8))

/-- A forwarding entry's window in ns. -/
def State.fwdWin (s : State) (e : Nat) : Nat × Nat :=
  let a := 4 * s.fld (.fwdCfg e) fFwdCfg_WIN_START
  (a, a + 4 * s.frameGroups (s.fld (.fwdCfg e) fFwdCfg_SRC_NODE) + 16)

/-- The nominal command window of node k's slot in ns. -/
def State.cmdWin (s : State) (k : Nat) : Nat × Nat :=
  let f := 4 * s.frameGroups k
  let a := 2 * (s.slotStart (s.fld (.nodeCfg k) fNodeCfg_SLOT) + s.apo) + f
  (a + 168, a + 400 + f)

/-- Two windows share an instant. -/
def winsMeet (a b : Nat × Nat) : Bool := decide (a.1 ≤ b.2) && decide (b.1 ≤ a.2)

/-- The forwarding entries are those that R456 allows. -/
def State.forwardOk (s : State) : Bool :=
  let used := allFwd.filter (fun e => s.flag (.fwdCfg e) fFwdCfg_USED)
  used.all (fun e =>
    let p := s.fld (.fwdCfg e) fFwdCfg_DST_PORT
    !used.any (fun f => f != e && s.fld (.fwdCfg f) fFwdCfg_DST_PORT == p && winsMeet (s.fwdWin e) (s.fwdWin f)) &&
    !(s.nodesOn p).any (fun k => winsMeet (s.fwdWin e) (s.cmdWin k)))

/-! ### Axes (R155, R156, R160, R222, R303, R326, R355) -/

/-- Ticks of a PWM period of axis n's stage group, by its first half-bridge. -/
def State.pwmPeriod (s : State) (n : Nat) : Nat :=
  match s.sgHalf (s.localCh n) with
  | [] => 0
  | h :: _ => s.fld (.tcPerSh h) fTcPerSh_PER

/-- Current-loop tasks in a cycle: ceil(L / T), 0 for an axis without one (R223). -/
def State.clExec (s : State) (n : Nat) : Nat :=
  let t := 4 * s.pwmPeriod n
  if s.clCost n = 0 || t = 0 then 0 else (s.cycLen + t - 1) / t

/-- The pledge of axis n by R223. -/
def State.pledgeByCost (s : State) (n : Nat) : Nat := s.cycCost n + s.clCost n * s.clExec n

/-- AXS[n].CS_COST follows the block list (R223). -/
def State.showCost (s : State) (n : Nat) : State :=
  let s := (s.setFld (.axsCsCost n) fAxsCsCost_CYC_COST (s.cycCost n)).setFld (.axsCsCost n) fAxsCsCost_CL_COST (s.clCost n)
  s.setFld (.axsCsCost n) fAxsCsCost_CL_EXEC (s.clExec n)

/-- Words from a first word are inside 16 to 127, or the field is 0 where a block has none. -/
def wordsOk (first n : Nat) : Bool := if n = 0 then first == 0 else decide (16 ≤ first) && decide (first + n ≤ 128)

/-- No two ranges of words overlap. -/
def wordsApart : List (Nat × Nat) → Bool
  | [] => true
  | a :: t => t.all (fun b => !allocsMeet a b) && wordsApart t

/-- The block list of axis n is one that R222 allows (DEDUCED, log entry 79). -/
def State.blocksOk (s : State) (n : Nat) : Bool :=
  let l := s.blockList n
  let k := s.kind n
  let cl := taskBlocks l true
  l.all (fun b => decide (b.type ≤ 13) && b.outS != 0 && b.outS != 14 &&
    wordsOk b.coef (blockLib b.type).1 && wordsOk b.st (blockLib b.type).2.1 &&
    (!([1, 2, 3, 4, 9, 12].contains b.type) || blockTaskOk b) && (b.type != 13 || b.cl)) &&
  wordsApart (l.map (fun b => (b.coef, (blockLib b.type).1))) && wordsApart (l.map (fun b => (b.st, (blockLib b.type).2.1))) &&
  (!((k == kindLOCAL && s.closure n == 1) || (k == kindNETWORK && s.closure n == 0)) ||
    (taskBlocks l false).any (fun b => b.outS == 15)) &&
  (if k = kindLOCAL then
    (cl.filter (fun b => b.type == 13)).length == 1 && (match cl.getLast? with
      | some b => b.type == 13
      | none => false)
   else cl.isEmpty) &&
  (!(k == kindVIRTUAL || k == kindNONE || (k == kindNETWORK && s.closure n == 1)) || l.isEmpty) &&
  s.costOf n == s.pledgeByCost n
where
  /-- A block that may stand only in the cycle task does. -/
  blockTaskOk (b : BlockE) : Bool := !b.cl

/-- The parameters of axis n are inside their ranges: a swap would change none of them (R160, R227, R303). -/
def State.paramsOk (s : State) (n : Nat) : Bool :=
  s.bank n 0x408 0 32 != 0 && (s.fixParams n).bytes (liveBank n) 0xC00 == s.bytes (liveBank n) 0xC00

/-- The reserved bits of a bank, as offset, low bit and width: those of the descriptor and the run header (R160), and the words
that the parameter tables call reserved (R326, R355). -/
def reservedBits : List (Nat × Nat × Nat) :=
  [(0, 31, 33), (8, 16, 48), (0x40, 11, 53)] ++
  ((List.range 7).map (fun i => 0x48 + 8 * i) ++ (List.range 17).map (fun i => 0x478 + 8 * i) ++
    (List.range 41).map (fun i => 0x8B8 + 8 * i) ++ (List.range 61).map (fun i => 0xA18 + 8 * i)).map (fun o => (o, 0, 64))

/-- An axis that the image does not name: zero everywhere (R704). -/
def State.axisUnnamed (s : State) (n : Nat) : Bool := (s.bytes (liveBank n) 0xC00).all (fun b => b == 0#8)

/-- The descriptor and parameters of axis n are ones the axis can take, its reserved bits zero (DEDUCED, log entry 79). -/
def State.axisOk (s : State) (n : Nat) : Bool :=
  let k := s.kind n
  s.axisUnnamed n ||
    (decide (k ≤ 4) && decide (s.localCh n ≤ 11) && s.paramsOk n && reservedBits.all (fun r => s.bank n r.1 r.2.1 r.2.2 == 0) &&
      (!(k == kindLOCAL && s.isHead) || s.closure n == 1) && s.blocksOk n)

/-- A limit or home input of axis n whose source is a GPIO pin. -/
def State.gpioInput (s : State) (n : Nat) : Bool := [0, 8, 16].any (fun o => s.bank n 0x858 o 2 == 1)

/-! ### Encoders and the power stage (R327, R328, R332, R358, R361, R393) -/

/-- Encoder channel c is one that R327 to R332 allow. -/
def State.encOk (s : State) (c : Nat) : Bool :=
  let t := s.fld (.encCfg c) fEncCfg_TYPE
  let mt := s.fld (.encCfg c) fEncCfg_MT_BITS
  let pb := s.fld (.encCfg c) fEncCfg_POS_BITS
  let cw := s.fld (.encCfg c) fEncCfg_CRC_W
  let m := s.fld (.encMod c) fEncMod_MOD
  let data := mt + pb + s.fld (.encCfg c) fEncCfg_NE_EN + s.fld (.encCfg c) fEncCfg_NW_EN + cw
  decide (t ≤ 4) && (t == 0 || m != 1) &&
  (!(t == 3 || t == 4) || (decide (mt ≤ 32) && within 1 32 pb && decide (cw ≤ 16) && decide (data ≤ 64) &&
    decide (2 ^ mt * (if m = 0 then 2 ^ 32 else m) ≤ 2 ^ 48) && decide (s.fld (.encSer c) fEncSer_SER_LEAD ≤ 5000) &&
    within 50 500 (s.fld (.encSer c) fEncSer_CLK_DIV) && within 1 100 (s.fld (.encSer c) fEncSer_SER_TMO)))

/-- Ticks between the results of sigma-delta input i by a ratio field. -/
def State.sdInterval (s : State) (i osr : Nat) : Nat := osr * s.fld (.sdclk (s.fld (.sdCfg i) fSdCfg_CLK)) fSdclk_DIV

/-- An input of an owned group fits its period (R393). -/
def State.sdFits (s : State) (i per : Nat) : Bool :=
  let w := s.sdInterval i (s.fld (.sdCfg i) fSdCfg_OSR3)
  decide (0 < w) && per % w == 0 && within 1 16 (per / w)

/-- Stage group g is one that R357, R358 and R393 allow. -/
def State.groupOk (s : State) (g : Nat) : Bool :=
  let h := s.sgHalf g
  decide (h.length ≤ 6) &&
  decide (((upFrom 36 12).filter (fun n => s.tcGroup n == g && s.fld (.tcCfg n) fTcCfg_MODE == 3)).length ≤ 1) &&
  match s.sgOwner g with
  | none => true
  | some _ =>
    h.length == 3 && h.all (fun n => decide (s.fld (.tcCfg n) fTcCfg_MODE ≤ 1) && decide (2500 ≤ s.fld (.tcPerSh n) fTcPerSh_PER)) &&
      (match h with
       | [] => true
       | n :: _ => s.sdFits (s.sg g).sdA (s.fld (.tcPerSh n) fTcPerSh_PER) && s.sdFits (s.sg g).sdB (s.fld (.tcPerSh n) fTcPerSh_PER))

/-- Pulse/enable half-bridges have DT = 0 (R361), and a channel of a group has a mode and a period that R360 allows it. -/
def State.channelsOk (s : State) : Bool :=
  (List.range 48).all (fun n =>
    let m := s.fld (.tcCfg n) fTcCfg_MODE
    let hs := s.flag (.tcCfg n) fTcCfg_FMT
    decide (11 < s.tcGroup n) ||
      (within 64 (2 ^ 20) (s.fld (.tcPerSh n) fTcPerSh_PER) &&
        (if n < 36 then decide (m ≤ 2) && (hs || s.fld (.tcCfg n) fTcCfg_DT == 0) &&
            (m != 2 || (hs && (s.sgOwner (s.tcGroup n)).isNone))
         else m == 0 || m == 3)))

/-- A sigma-delta input in use has the ratios, threshold and filter of its register's fields (R391, R392, R394). -/
def State.sdOk (s : State) (i : Nat) : Bool :=
  let f := fun x => s.fld (.sdCfg i) x
  f fSdCfg_OSR3 == 0 || (within 32 256 (f fSdCfg_OSR3) && within 8 32 (f fSdCfg_OSR2) && decide (f fSdCfg_OC_THR ≤ 1024) &&
    decide (f fSdCfg_CLK ≤ 5) && within 10 50 (s.fld (.sdclk (f fSdCfg_CLK)) fSdclk_DIV) &&
    (!s.flag (.sdCfg i) fSdCfg_OC_EN || decide (1 ≤ f fSdCfg_CF)))

/-! ### Mirage (R532, R533, R539, R546) -/

/-- SRC and RATE of channel c name a combination of R532, at a rate of at most 200 kHz (R533). -/
def State.sourceOk (s : State) (c : Nat) : Bool :=
  let f := fun x => s.fld (.mirSrc c) x
  let rate := s.fld (.mirRate c) fMirRate_RATE
  let div := s.fld (.mirRate c) fMirRate_DIV
  let k := f fMirSrc_KIND
  let i := f fMirSrc_IDX
  (if k = 0 then decide (i < 192) && decide (f fMirSrc_VAR ≤ 27) &&
      (rate == 0 || (rate == 1 && decide (23 ≤ f fMirSrc_VAR) && s.kind i == kindLOCAL))
   else if k = 1 then rate == 0 && decide (i < 128) && within 1 6 (f fMirSrc_WIDTH)
   else if k = 2 then rate == 1 && decide (i < 48) &&
      decide (2500 ≤ div * s.sdInterval i (if f fMirSrc_SD_RES = 1 then s.fld (.sdCfg i) fSdCfg_OSR2 else s.fld (.sdCfg i) fSdCfg_OSR3))
   else rate == 2) &&
  decide (1 ≤ div) && decide (s.fld (.mirRate c) fMirRate_OFFSET ≤ s.cycLen / 4 - 1) && decide (s.fld (.mirRate c) fMirRate_MODE ≤ 2)

/-- A channel that the image names: one with a ring (DEDUCED, log entry 79). -/
def State.mirNamed (s : State) (c : Nat) : Bool := s.mirLen c != 0

/-- The rings and tables of Mirage are ones that R539 allows, and its channels' sources and triggers ones that R532 and R546
allow. -/
def State.mirageOk (s : State) : Bool :=
  mirAll.all (fun c => !s.mirNamed c || (s.sourceOk c && within 16 174762 (s.mirLen c) &&
    !s.mirBreaks c 8 (ringRange (s.fld (.mirRing c) fMirRing_BASE) (s.mirLen c)) &&
    (s.mirTrigRefuse c (s.reg (.mirTrig c))).isEmpty)) &&
  (List.range 8).all (fun m => s.fld (.mirMaskCfg m) fMirMaskCfg_COUNT == 0 ||
    (decide (s.fld (.mirMaskCfg m) fMirMaskCfg_COUNT ≤ 4096) && decide (s.fld (.mirMaskCfg m) fMirMaskCfg_SHIFT ≤ 47) &&
      s.fld (.mirMaskCfg m) fMirMaskCfg_VCNT != 0 && !s.mirBreaks 32 m (s.maskRange m)))

/-! ### The whole -/

/-- What a twin head may not have (R474). -/
def State.twinOk (s : State) : Bool :=
  !s.twin || (allAxes.all (fun n => !s.encoderFed n && (s.kind n == kindNONE || !s.gpioInput n)) &&
    (List.range 12).all (fun g => (s.sgHalf g).isEmpty && s.fld (.encCfg g) fEncCfg_TYPE == 0))

/-- The TAGS section is a sequence of records that name units and lengths R106 and R107 allow. -/
def tagsOk (l : List Load) : Bool := l.all (fun x => match x with
  | .tags b => match tagList b with
    | some l => l.all (fun r => tagOk r.1 r.2.1 r.2.2.length)
    | none => false
  | _ => true)

/-- Every unit can take the values it has been given (R97 item 5) (DEDUCED, log entry 79). -/
def State.configOk (s : State) (l : List Load) : Bool :=
  (s.isHead || s.isDrive) && s.cycleOk && (List.range 64).all (fun p => s.portScheduleOk p) && s.forwardOk &&
  allAxes.all (fun n => s.axisOk n) && (List.range 12).all (fun c => s.encOk c) && (List.range 12).all (fun g => s.groupOk g) &&
  s.channelsOk && (List.range 48).all (fun i => s.sdOk i) && s.mirageOk && s.twinOk && tagsOk l

end Sys2Proof.Machine
end

