-- ==== Sys2Proof/Machine/MailboxOps.lean ====
section
/-! DEFINITION. Mailboxes, lock registers, doorbells and cross-wait detection (18_cores_sluice_mailboxes.md, R596
to R608). -/
namespace Sys2Proof.Machine

/-- The weir of mailbox n. -/
def boxWeir (n : Nat) : Nat := 443 + n

/-- The weir of an agent that has one: a core or Spout (R599). -/
def agentWeir (a : Nat) : Option Nat :=
  if 1 ≤ a ∧ a ≤ 8 then some (coreWeir (a - 1)) else if a = 11 then some 507 else none

/-- True when box n holds an event for agent a (R601). -/
def State.boxEvent (s : State) (n a : Nat) : Bool :=
  let st := s.reg (.mbStat n)
  (s.fld (.mbCfg n) fMbCfg_RECEIVER == a && wordFld st fMbStat_FULL == 1) ||
  (wordFld st fMbStat_LAST_WR == a &&
    (wordFld st fMbStat_EMPTY == 1 || wordFld st fMbStat_TIMEOUT == 1 || wordFld st fMbStat_COLLISION == 1)) ||
  (wordFld st fMbStat_XW == 1 && ((s.box n).xwBy == a || s.fld (.mbCfg n) fMbCfg_RECEIVER == a))

/-- The 64-bit event map of agent a (R601). -/
def State.eventMap (s : State) (a : Nat) : Nat :=
  (List.range 64).foldl (fun m n => if a != 0 && s.boxEvent n a then m + 2 ^ n else m) 0

/-- An operation on mailboxes, with the vector of agent 9 when its map goes from zero to nonzero (R654). -/
def State.withMap (s : State) (f : State → State) : State :=
  let s' := f s
  if s.eventMap 9 == 0 && s'.eventMap 9 != 0 then s'.sendVector 6 else s'

/-- IRQ.PEND of core k (R576, R601, R606). -/
def State.irqPend (s : State) (k : Nat) : Nat := s.corePend k (s.eventMap (k + 1) != 0)

/-- The machine external interrupt of core k is pending (R576). -/
def State.extIrq (s : State) (k : Nat) : Bool := Nat.land (s.irqPend k) (s.fld (.coreIrq k) fCoreIrq_EN) != 0

/-- The machine timer interrupt of core k is pending (R576). -/
def State.timerIrq (s : State) (k : Nat) : Bool := t48Reached s.t48 (s.reg (.coreMtimecmp k))

/-- A dispatch read that may return 0 does (R583): its deadline has passed, the external interrupt is pending, or
the timer interrupt is pending and enabled by mie.MTIE. -/
def State.dispatchDeadline (s : State) (k : Nat) : State :=
  match (s.core k).reading with
  | none => s
  | some t0 =>
    let dl := s.fld (.coreDispDl k) fCoreDispDl_TICKS
    if (dl != 0 && decide (t0 + dl ≤ s.now)) || s.extIrq k || (bitOf (s.core k).mie 7 && s.timerIrq k) then
      s.dispatchReturn k 0
    else s

/-- What a DATA write is refused with (R596, R597, R599). -/
def State.boxWriteRefuse (s : State) (ag n : Nat) : List Nat :=
  (if n < 56 then refuseIf (s.fld (.mbCfg n) fMbCfg_SENDER != ag) cACCESS
   else refuseIf (s.fld (.lkStat (s.fld (.mbCfg n) fMbCfg_LOCK)) fLkStat_OWNER != ag) cLOCKED ++
     refuseIf (s.flag (.mbStat n) fMbStat_FULL) cBUSY) ++
  refuseIf (!s.weirOpen (boxWeir n)) cOFFLINE ++
  (match agentWeir (s.fld (.mbCfg n) fMbCfg_RECEIVER) with
   | none => []
   | some k => refuseIf (!s.weirOpen k) cOFFLINE)

/-- An accepted DATA write fills the box, or overwrites a full point-to-point box with COLLISION (R596, R597). -/
def State.boxWrite (s : State) (ag n : Nat) (v : Word48) : State :=
  s.withMap (fun s =>
    let s := if s.flag (.mbStat n) fMbStat_FULL then
        (s.setFlag (.mbStat n) fMbStat_COLLISION true).incSat (.mbStat n) fMbStat_COLL_CNT else s
    let s := s.setReg (.mbData n) v
    let s := ((s.setFlag (.mbStat n) fMbStat_FULL true).setFlag (.mbStat n) fMbStat_EMPTY false).setFlag (.mbStat n)
      fMbStat_TIMEOUT false
    (s.setFld (.mbStat n) fMbStat_LAST_WR ag).setBox n { s.box n with wrote := s.now, told := false })

/-- The wait declared on a box ends (R607): a cycle through it is broken (R608). -/
def State.endWait (s : State) (n : Nat) : State :=
  let s := (s.setFld (.mbStat n) fMbStat_WAITER 0).setFld (.mbWait n) fMbWait_WAIT 0
  { s with xwReported := s.xwReported.filter (fun x => x != n) }

/-- The receiver reads DATA: a full box empties, its writer gets EMPTY, and a wait on it ends (R598). -/
def State.boxRead (s : State) (n : Nat) : State :=
  if s.flag (.mbStat n) fMbStat_FULL then
    s.withMap (fun s =>
      ((s.setFlag (.mbStat n) fMbStat_FULL false).setFlag (.mbStat n) fMbStat_EMPTY true).endWait n)
  else s

/-- A box still full TMO_US after its last write, once for each write (R600). -/
def State.boxTimeout (s : State) (n : Nat) : State :=
  let tmo := s.fld (.mbCfg n) fMbCfg_TMO_US
  if tmo != 0 && s.flag (.mbStat n) fMbStat_FULL && !(s.box n).told && decide ((s.box n).wrote + tmo * usTicks ≤ s.now) then
    s.withMap (fun s =>
      ((s.setFlag (.mbStat n) fMbStat_TIMEOUT true).incSat (.mbStat n) fMbStat_TMO_CNT).setBox n { s.box n with told := true })
  else s

/-- True when agent ag may declare a wait on box n: its sender, or the owner of its lock (R607). -/
def State.mayWait (s : State) (ag n : Nat) : Bool :=
  if n < 56 then s.fld (.mbCfg n) fMbCfg_SENDER == ag
  else s.fld (.lkStat (s.fld (.mbCfg n) fMbCfg_LOCK)) fLkStat_OWNER == ag

/-- A write of MB[n].WAIT that is accepted: a declaration on a full box, or its end by the declarer (R607). -/
def State.boxWait (s : State) (ag n : Nat) (wait : Bool) : State :=
  if wait then
    if s.flag (.mbStat n) fMbStat_FULL then
      (s.setFld (.mbStat n) fMbStat_WAITER ag).setFld (.mbWait n) fMbWait_WAIT 1
    else s
  else if s.fld (.mbStat n) fMbStat_WAITER == ag then s.endWait n else s

/-- A write of MB[n].STAT: EMPTY and TIMEOUT clear for the last writer, COLLISION for the receiver, XW for any agent
(R601, R608) (DEDUCED, log entry 9). -/
def State.boxStatClear (s : State) (ag n : Nat) (v : Word48) : State :=
  s.withMap (fun s =>
    let st := s.reg (.mbStat n)
    let writer := wordFld st fMbStat_LAST_WR == ag
    let recv := s.fld (.mbCfg n) fMbCfg_RECEIVER == ag
    let s := s.doIf (wordFld v fMbStat_EMPTY == 1 && writer) (fun s => s.setFlag (.mbStat n) fMbStat_EMPTY false)
    let s := s.doIf (wordFld v fMbStat_TIMEOUT == 1 && writer) (fun s => s.setFlag (.mbStat n) fMbStat_TIMEOUT false)
    let s := s.doIf (wordFld v fMbStat_COLLISION == 1 && recv) (fun s => s.setFlag (.mbStat n) fMbStat_COLLISION false)
    s.doIf (wordFld v fMbStat_XW == 1) (fun s => s.setFlag (.mbStat n) fMbStat_XW false))

/-! ### Cross-wait detection -/

/-- The wait graph: for each box with a declaration, its number, declarer and receiver (R608)
(DEDUCED, log entry 10). -/
def State.waitEdges (s : State) : List (Nat × Nat × Nat) :=
  (List.range 64).filterMap (fun n =>
    let w := s.fld (.mbStat n) fMbStat_WAITER
    if w = 0 then none else some (n, w, s.fld (.mbCfg n) fMbCfg_RECEIVER))

/-- The agents reachable from a set of agents in one more step. -/
def reachStep (e : List (Nat × Nat × Nat)) (l : List Nat) : List Nat :=
  (l ++ (e.filter (fun x => l.contains x.2.1)).map (fun x => x.2.2)).eraseDups

/-- The agents reachable from an agent; 16 steps reach every agent of R9. -/
def reach (e : List (Nat × Nat × Nat)) : Nat → List Nat → List Nat
  | 0, l => l
  | k + 1, l => reach e k (reachStep e l)

/-- True when a box lies on a cycle of waits: its declarer is reachable from its receiver (DEDUCED, log entry 10). -/
def onCycle (e : List (Nat × Nat × Nat)) (x : Nat × Nat × Nat) : Bool := (reach e 16 [x.2.2]).contains x.2.1

/-- One cycle reported: XW on its boxes, its agents in LAST_AGENTS, one in XW_CNT (R608) (DEDUCED, log entry 10). -/
def State.reportCycle (s : State) (c : List (Nat × Nat × Nat)) : State :=
  let s := c.foldl (fun (s : State) x => (s.setFlag (.mbStat x.1) fMbStat_XW true).setBox x.1 { s.box x.1 with xwBy := x.2.1 }) s
  let ags := ((c.map (fun x => x.2.1)) ++ (c.map (fun x => x.2.2))).eraseDups
  let m := ags.foldl (fun m a => m + 2 ^ (a - 1)) 0
  (s.setFld .mbxXwStat fMbxXwStat_LAST_AGENTS m).incSat .mbxXwStat fMbxXwStat_XW_CNT

/-- The detector's pass, in a tick in which T48 is a multiple of 128 (R608). A cycle is the set of boxes whose
declarers reach one another; one already reported is reported again only after it has been broken
(DEDUCED, log entry 10). -/
def State.crossWait (s : State) : State :=
  if s.t48.toNat % 128 ≠ 0 then s else
  let e := s.waitEdges
  let cyc := e.filter (onCycle e)
  let fresh := cyc.filter (fun x => !s.xwReported.contains x.1)
  let go := fresh.foldl (fun (acc : List Nat × State) x =>
    if acc.1.contains x.1 then acc
    else
      let fw := reach e 16 [x.2.2]
      let c := cyc.filter (fun y => fw.contains y.2.1 && (reach e 16 [y.2.2]).contains x.2.1)
      (acc.1 ++ c.map (fun y => y.1), acc.2.withMap (fun s => s.reportCycle c))) ([], s)
  { go.2 with xwReported := cyc.map (fun x => x.1) }

/-! ### Lock registers -/

/-- A read of LK[n] by an agent: the word returned and the state after (R603) (DEDUCED, log entry 12). -/
def State.lockRead (s : State) (ag n : Nat) : Nat × State :=
  let o := s.fld (.lkStat n) fLkStat_OWNER
  if o = 0 then (0, s.setFld (.lkStat n) fLkStat_OWNER ag)
  else if o = ag then (0, s)
  else (o, s.incSat (.lkStat n) fLkStat_CONTEND)

/-- A lock is freed by force and counted (R604, R605) (DEDUCED, log entry 88). -/
def State.lockForce (s : State) (n : Nat) : State :=
  (s.setFld (.lkStat n) fLkStat_OWNER 0).incSat (.lkStat n) fLkStat_FORCED

/-- A lock is freed by its owner (R604). -/
def State.lockFree (s : State) (n : Nat) : State := s.setFld (.lkStat n) fLkStat_OWNER 0

/-- The agents R75 names: cores, PCIe host, SPI host and JTAG. -/
def privAgent (a : Nat) : Bool := decide (1 ≤ a ∧ a ≤ 10) || a == 16

/-- What a write of LK_STAT[n] is refused with (R604). -/
def lkStatRefuse (ag : Nat) (v : Word48) : List Nat :=
  refuseIf (!(wordFld v fLkStat_FORCE == 1 && wordFld v fLkStat_KEY == 0xC1EA && privAgent ag)) cACCESS

/-- A core's weir leaves OPEN: every lock it owns is freed (R605), and every wait it declared ends (R607). -/
def State.freeLocks (s : State) (ag : Nat) : State :=
  s.each (List.range 64) (fun n s => if s.fld (.lkStat n) fLkStat_OWNER == ag then s.lockForce n else s)

/-- The waits an agent declared end (R607). -/
def State.endWaitsOf (s : State) (ag : Nat) : State :=
  s.each (List.range 64) (fun n s => if s.fld (.mbStat n) fMbStat_WAITER == ag then s.endWait n else s)

/-- A box's weir leaves OPEN: its word, flags and wait declaration are lost (R602). -/
def State.boxLose (s : State) (n : Nat) : State :=
  let s := s.endWait n
  let s := ([fMbStat_FULL, fMbStat_COLLISION, fMbStat_EMPTY, fMbStat_TIMEOUT, fMbStat_XW] : List Fld).foldl
    (fun (s : State) f => s.setFlag (.mbStat n) f false) s
  (s.setReg (.mbData n) 0).setBox n {}

/-- The box reopens empty, its counters cleared (R82, R602). -/
def State.boxOpen (s : State) (n : Nat) : State := (s.boxLose n).setReg (.mbStat n) 0

/-! ### Doorbells -/

/-- Doorbell bits of agent a are rung; the vector of agent 9 goes with PEND leaving zero (R606, R654). -/
def State.ring (s : State) (a bits : Nat) : State :=
  let p := s.fld (.dbPend a) fDbPend_BITS
  let s := s.setFld (.dbPend a) fDbPend_BITS (Nat.lor p bits)
  if a = 9 && p == 0 && bits != 0 then s.sendVector 5 else s

/-- Doorbell bits of agent a are cleared. -/
def State.unring (s : State) (a bits : Nat) : State :=
  let p := s.fld (.dbPend a) fDbPend_BITS
  s.setFld (.dbPend a) fDbPend_BITS (p - Nat.land p bits)

end Sys2Proof.Machine
end

