-- ==== Sys2Proof/Machine/WeirOps.lean ====
section
/-! DEFINITION. Weirs: commands, drains, power, unit resets, reopening and epochs (02_clocks_power_weirs.md, R64, R72 to
R84; R148, R182 to R184, R217, R218, R431, R432, R554, R573, R578, R591, R592, R602, R605). -/
namespace Sys2Proof.Machine

/-! ### Units by weir number (R74) -/

/-- What stands behind a weir. -/
inductive UnitK where
  | axis (n : Nat)
  | port (p : Nat)
  | jet (j : Nat)
  | core (c : Nat)
  | mirage (c : Nat)
  | task (t : Nat)
  | box (n : Nat)
  | spout
  deriving DecidableEq, Repr

/-- The unit of weir k. -/
def unitOf (k : Nat) : UnitK :=
  if k < 192 then .axis k
  else if k < 258 then .port (k - 192)
  else if k < 275 then .jet (k - 258)
  else if k < 283 then .core (k - 275)
  else if k < 315 then .mirage (k - 283)
  else if k < 443 then .task (k - 315)
  else if k < 507 then .box (k - 443)
  else .spout

/-- Power-up time of a gatable unit in fabric ticks, 0 for a unit that is not (R64). -/
def UnitK.powerTicks : UnitK → Nat
  | .port _ => 50 * usTicks
  | .jet _ => 5 * usTicks
  | .core _ => 10 * usTicks
  | .spout => 5 * usTicks
  | _ => 0

/-- Reset time in fabric ticks (R83). -/
def UnitK.resetTicks : UnitK → Nat
  | .axis _ => usTicks
  | .port _ => 2 * usTicks
  | .jet _ => 2 * usTicks
  | .core _ => 2 * usTicks
  | .mirage _ => usTicks
  | .task _ => 250
  | .box _ => 100
  | .spout => 2 * usTicks

/-- Phases of a transition. -/
def phNONE : Nat := 0
def phDRAIN : Nat := 1
def phPOWER : Nat := 2
def phRESET : Nat := 3
def phWAIT : Nat := 4
def phPIPE : Nat := 5

/-- A transition takes a phase from now. -/
def State.weirPhase (s : State) (k ph : Nat) : State := s.setWeirH k { s.weirH k with phase := ph, since := s.now }

/-- STATE of weir k is set. -/
def State.setWeir (s : State) (k st : Nat) : State := s.setFld (.sysWeir k) fSysWeir_STATE st
/-- RESTART_PENDING. -/
def State.weirPend (s : State) (k : Nat) (b : Bool) : State := s.setFlag (.sysWeir k) fSysWeir_RESTART_PENDING b
/-- Whether power goes at the end of the transition. -/
def State.weirPowerOff (s : State) (k : Nat) (b : Bool) : State := s.setWeirH k { s.weirH k with powerOff := b }
/-- PWR of weir k. -/
def State.powered (s : State) (k : Nat) : Bool := s.flag (.sysWeir k) fSysWeir_PWR

/-! ### A unit leaves OPEN (R73, R77, R133, R183, R217, R431, R554, R573, R591, R592, R602, R605) -/

/-- Staged low words for slots behind weir k are marked (R34). -/
def State.markStaged (s : State) (k : Nat) : State :=
  { s with agents := s.agents.map (fun p => (p.1, { p.2 with staged := p.2.staged.map (fun w =>
      (w.1, w.2.1, w.2.2 || (match Reg.ofAddr (w.1 / 8 * 8) with
        | some r => r.weir == some k
        | none => false))) })) }

/-- An in-service Jet leaves dispatch in the tick of the command (R217), and a standby is due to its position; a standby gives up its
place. A scheduled swap that is left without a standby is dropped (DEDUCED, log entry 105). -/
def State.jetClose (s : State) (j : Nat) : State :=
  let p := s.fld (.jetjStat j) fJetjStat_POS
  let s := s.setJet j { s.jet j with vacated := if p < 16 then some p else none, vacAt := s.now, held := false, testFrom := none, eligible := false }
  (((s.jetLeave j).setJetRole j roleOFFLINE).showStandby).swapDrop

/-- What a unit does when its weir leaves OPEN. -/
def State.unitLeaves (s : State) : UnitK → State
  | .axis n =>
    ((((s.reloadTask n).cmdDrop n).homeAbort n).setAx n axRELOADING).abdCritical
  | .port p => s.txAbort p
  | .jet j => (s.jetMark j).jetClose j
  | .core c =>
    let ag := c + 1
    let s := ((s.coreRequeue c).freeLocks ag).endWaitsOf ag
    s.each [2, 3, 7] (fun u s => s.arbWithdraw u (fun q => q.r == ag))
  | .mirage c => s.mirClose c
  | .task t => (s.taskCancel t).sptTaskClose t
  | .box n => s.boxLose n
  | .spout =>
    let s := s.sptClose.endWaitsOf 11
    s.each [2, 3, 7] (fun u s => s.arbWithdraw u (fun q => q.r == 11))

/-- The weir that an address stands behind: a register's unit, a core's local memory, Spout's memories. -/
def addrWeir (a : Nat) : Option Nat :=
  if a < 0x1000000 then (Reg.ofAddr (a / 8 * 8)).bind Reg.weir
  else if 0x11C0000 ≤ a ∧ a < 0x1200000 then some 507
  else if 0x1400000 ≤ a ∧ a < 0x1500000 then some (275 + (a - 0x1400000) / 0x20000)
  else none

/-- Requests that wait in an arbiter for the unit behind weir k are answered OFFLINE (R133). -/
def State.arbOffline (s : State) (k u : Nat) : State :=
  let l := (s.arb u).waiting.filter (fun q => addrWeir q.addr == some k)
  let s := s.arbWithdraw u (fun q => addrWeir q.addr == some k)
  l.foldl (fun (s : State) q =>
    if 1 ≤ q.agent ∧ q.agent ≤ 16 then s.answer q.agent q.addr (if q.posted then tyPosted else tyRead) cOFFLINE 0 else s) s

/-- Requests that the unit had accepted and not answered are completed ABORTED, each counted (R77), in the tick the weir leaves
OPEN; those that the unit's agent itself had issued are answered by nobody any more (R79) (DESIGN CHOICE, log entry 76). -/
def State.abortAccepted (s : State) (k : Nat) : State :=
  let l := s.outst.filter (fun p => addrWeir p.2 == some k)
  let s := l.foldl (fun (s : State) p => (s.answer p.1 p.2 tyRead cABORTED 0).incSat (.sysWeir k) fSysWeir_ABORT_CNT) s
  let s := match (s.spout.run.bind (fun j => j.ext.map (fun e => (j.task, e.addr)))) with
    | some (t, a) => if addrWeir a = some k then (s.sptRespond t cABORTED 0).incSat (.sysWeir k) fSysWeir_ABORT_CNT else s
    | none => s
  match unitOf k with
  | .core c => { s with outst := s.outst.filter (fun p => p.1 != c + 1) }
  | .spout => { s with outst := s.outst.filter (fun p => p.1 != 11) }
  | _ => s

/-- The weir leaves OPEN for DRAINING: what it had accepted is ABORTED, what waits for it is OFFLINE (R77, R133). `owed` counts
responses that no request held here stands for; they are issued by the end of the drain. -/
def State.weirLeaves (s : State) (k owed : Nat) : State :=
  let s := (s.setWeir k 1).setWeirH k { phase := phDRAIN, since := s.now, owed := owed, leftAt := some s.now }
  let s := (s.markStaged k).abortAccepted k
  (s.each [2, 3, 7] (fun u s => s.arbOffline k u)).unitLeaves (unitOf k)

/-! ### Power (R64, R432) -/

/-- Core-local memory and Spout's memories lose their contents with the unit's power. -/
def State.unitLosesMem (s : State) : UnitK → State
  | .core c => s.clearMem (0x01400000 + c * 0x20000) 0x20000
  | .spout => { s.clearMem 0x011C0000 0x40000 with ecc := [] }
  | _ => s

/-- A register loses what is not configuration: every field but those loaded from the image. -/
def State.loseReg (s : State) (r : Reg) (keep : List Fld) : State :=
  r.fields.foldl (fun s f => if f.acc == .rwl || keep.contains f.fld then s else s.setFld r f.fld f.rst) s

/-- A port without power is OFF (R401). -/
def State.portOff (s : State) (p : Nat) : State := (if s.link p = lsUP then s.leaveUp p 0 else s).setLink p lsOFF

/-- Registers lose what the image does not set. -/
def State.loseRegs (s : State) (l : List Reg) : State := l.foldl (fun s r => s.loseReg r []) s

/-- The registers behind a gatable unit's weir lose their contents, but not the fields the image sets (R64, R82)
(DEDUCED, log entry 77). -/
def State.unitLosesRegs (s : State) : UnitK → State
  | .port p =>
    let s := (s.portOff p).loseRegs [.portCtl p, .portStat p, .portErr0 p, .portErr1 p, .portErr2 p, .portErr3 p, .portErr4 p,
      .portRxFrames p, .portTxFrames p, .portPrbs p]
    s.setPort p {}
  | .core c =>
    let s := s.loseRegs [.coreDispatch c, .coreDispDl c, .coreArg c, .coreWflags c, .coreWaitTmo c, .coreIrq c, .coreMtimecmp c]
    let s := s.loseReg (.coreWdog c) [fCoreWdog_PERIOD]
    (s.loseReg (.coreStat c) [fCoreStat_WDOG_CNT]).setCore c {}
  | .spout => (s.loseRegs [.sptSubA, .sptSubExt, .sptSubArg, .sptStat, .sptCnt, .sptFault]).setSpout {}
  | _ => s

/-- Power is removed. -/
def State.unitOff (s : State) (k : Nat) : State :=
  let s := (s.setFlag (.sysWeir k) fSysWeir_PWR false).setWeirH k { s.weirH k with phase := phNONE, powerOff := false }
  (s.unitLosesMem (unitOf k)).unitLosesRegs (unitOf k)

/-- Power is there: a port starts to train (R401). -/
def State.unitOn (s : State) (k : Nat) : State :=
  let s := s.setFlag (.sysWeir k) fSysWeir_PWR true
  match unitOf k with
  | .port p => if s.link p = lsOFF then s.setLink p lsDETECT else s
  | _ => s

/-! ### The unit's reset and its reopening (R81 to R83) -/

/-- Counters and functional state of a register are reset: every field that is not set by software or by the image
(DEDUCED, log entry 77). -/
def State.resetStatus (s : State) (r : Reg) (keep : List Fld) : State :=
  r.fields.foldl (fun s f =>
    if [Acc.ro, .w1c, .wo, .w1s, .rc].contains f.acc && !keep.contains f.fld then s.setFld r f.fld f.rst else s) s

/-- The functional state of an axis is reset; its inputs, its last command and the mark of its shedding stay
(DEDUCED, log entry 77). -/
def State.axisReset (s : State) (n : Nat) : State :=
  let s := ([.axsAgeStat n, .axsCsFlags n, .axsCsFocI n, .axsCsFocV n, .axsCsFocStat n, .axsMvStat n, .axsFolStat n, .axsFltTime n,
    .axsFltCause n, .axsSsStat n, .axsHmPos n, .axsHmShift n, .axsSupP n] : List Reg).foldl (fun s r => s.resetStatus r []) s
  let s := s.resetStatus (.axsStat n) [fAxsStat_STATE, fAxsStat_JET_SHED, fAxsStat_AGE_FAULT, fAxsStat_FRESH,
    fAxsStat_LAST_CMD, fAxsStat_CMD_RESULT, fAxsStat_STO, fAxsStat_FB_AGE, fAxsStat_CMD_AGE]
  let s := s.resetStatus (.axsHmStat n) [fAxsHmStat_RES, fAxsHmStat_HOMED]
  let s := s.resetStatus (.axsLimStat n) [fAxsLimStat_LP_RAW, fAxsLimStat_LP_DEB, fAxsLimStat_LN_RAW, fAxsLimStat_LN_DEB,
    fAxsLimStat_HM_RAW, fAxsLimStat_HM_DEB]
  let h := s.stop n
  let s := s.setStop n { inP := h.inP, inN := h.inN, inH := h.inH, lastP := h.lastP }
  let a := s.axis n
  let s := s.setAxis n { swap := a.swap, cmdAge := a.cmdAge, fresh := a.fresh }
  (s.setHome n {}).setCasH n {}

/-- What a live switch loads into the unit of weir k is loaded while the weir is closed for it (R114). -/
def State.loadDue (s : State) (k : Nat) : State :=
  let l := s.boot.due.filter (fun p => p.1 == k)
  let s := { s with boot := { s.boot with due := s.boot.due.filter (fun p => p.1 != k) } }
  s.applyLoads (l.map (fun p => p.2))

/-- A unit resets its functional state (R82) (DEDUCED, log entry 77). -/
def State.unitReset (s : State) : UnitK → State
  | .axis n => s.axisReset n
  | .port p =>
    let s := ([.portErr0 p, .portErr1 p, .portErr2 p, .portErr3 p, .portErr4 p, .portRxFrames p, .portTxFrames p] : List Reg).foldl
      (fun s r => s.setReg r 0) s
    let s := (s.setFld (.portStat p) fPortStat_TRAIN_FAIL 0).setFld (.portPrbs p) fPortPrbs_ERR_CNT 0
    let h := s.port p
    s.setPort p { txUntil := h.txUntil, since := h.since, errs := h.errs }
  | .core c =>
    (([.coreDispatch c, .coreArg c, .coreWflags c, .coreIrq c] : List Reg).foldl (fun s r => s.resetStatus r []) s).resetStatus
      (.coreStat c) [fCoreStat_WDOG_CNT]
  | .spout =>
    (([.sptStat, .sptCnt, .sptFault] : List Reg).foldl (fun s r => s.resetStatus r []) s).setSpout { subs := s.spout.subs }
  | .mirage c => s.mirReopen c
  | _ => s

/-- What a unit does when its weir enters OPEN. -/
def State.unitOpens (s : State) : UnitK → State
  | .core c => s.coreStart c
  | .mirage c => s.mirReopen c
  | .task t => s.taskOpen t
  | .box n => s.boxOpen n
  | _ => s

/-- The epoch after another opening (R81). -/
def nextEpoch (e : Nat) : Nat := if e = 0xFFFF then 1 else e + 1

/-- The weir enters OPEN (R81). -/
def State.weirOpens (s : State) (k : Nat) : State :=
  let s := (s.setWeir k 0).weirPend k false
  let s := s.setFld (.sysWeir k) fSysWeir_EPOCH (nextEpoch (s.fld (.sysWeir k) fSysWeir_EPOCH))
  let s := s.setWeirH k { s.weirH k with phase := phNONE, owed := 0, powerOff := false }
  s.unitOpens (unitOf k)

/-- The reset begins, and what a live switch holds for the unit is loaded. -/
def State.weirResets (s : State) (k : Nat) : State := (s.loadDue k).weirPhase k phRESET

/-- A transition ends in CLOSED, with its power removed where a POWER_OFF asked for it. -/
def State.weirCloses (s : State) (k : Nat) : State :=
  let off := (s.weirH k).powerOff
  let s := ((s.setWeir k 2).weirPend k false).weirPhase k phNONE
  if off then s.unitOff k else s

/-! ### Commands (R75, R76) -/

def wcCLOSE : Nat := 1
def wcOPEN : Nat := 2
def wcCYCLE : Nat := 3
def wcOFF : Nat := 4
def wcON : Nat := 5

/-- What a command to weir k is refused with (R64, R75, R148, R182) (DEDUCED, log entry 86). -/
def State.weirRefuse (s : State) (ag k c : Nat) : List Nat :=
  let closing := c == wcCLOSE || c == wcCYCLE || c == wcOFF
  let u := unitOf k
  if c = 0 then []
  else
    refuseIf (!((1 ≤ ag && ag ≤ 10) || ag == 16 || (ag == 15 && decide (k < 192)))) cACCESS ++
    refuseIf (decide (5 < c)) cACCESS ++
    refuseIf (closing && (match u with
      | .core n => ag == n + 1
      | _ => false)) cACCESS ++
    refuseIf ((c == wcOFF || c == wcON) && u.powerTicks == 0) cACCESS ++
    refuseIf ((c == wcOPEN || c == wcCYCLE) && s.isDrive && decide (196 ≤ k ∧ k ≤ 257)) cACCESS ++
    refuseIf (closing && (match u with
      | .axis n => s.driven n
      | .jet _ => s.standbys.isEmpty && s.jetCount != 0 && !s.flag .shrAdmCtl fShrAdmCtl_ALLOW_SHED
      | _ => false)) cLOCKED

/-- CLOSE (R76). -/
def State.weirClose (s : State) (k owed : Nat) : State :=
  match s.weirState k with
  | 0 => s.weirLeaves k owed
  | 1 => s.weirPowerOff k false
  | 2 => s
  | _ =>
    let s := (s.weirPend k false).weirPowerOff k false
    if (s.weirH k).phase = phWAIT then s.weirCloses k
    else if (s.weirH k).phase = phPIPE then s.setWeir k 2 else s

/-- OPEN (R76). -/
def State.weirOpenCmd (s : State) (k : Nat) : State :=
  match s.weirState k with
  | 0 => s
  | 1 => (((s.setWeir k 3).weirPend k true).weirPowerOff k false)
  | 2 =>
    let ph := (s.weirH k).phase
    let s := (s.setWeir k 3).weirPend k true
    if ph = phPIPE || ph = phPOWER then s
    else if s.powered k then s.weirResets k
    else s.weirPhase k phPOWER
  | _ => (s.weirPend k true).weirPowerOff k false

/-- CYCLE: CLOSE followed at once by OPEN (R76). -/
def State.weirCycle (s : State) (k owed : Nat) : State := (s.weirClose k owed).weirOpenCmd k

/-- POWER_OFF (R76). -/
def State.weirOff (s : State) (k owed : Nat) : State :=
  match s.weirState k with
  | 0 => (s.weirLeaves k owed).weirPowerOff k true
  | 1 => s.weirPowerOff k true
  | 2 => s.unitOff k
  | _ =>
    let s := (s.weirPend k false).weirPowerOff k true
    if (s.weirH k).phase = phWAIT then s.weirCloses k
    else if (s.weirH k).phase = phPIPE then s.setWeir k 2 else s

/-- POWER_ON (R76). -/
def State.weirOn (s : State) (k : Nat) : State :=
  if s.weirState k = 2 && !s.powered k && (s.weirH k).phase != phPOWER then s.weirPhase k phPOWER else s

/-- The operable weirs act on commands from the network stage on; before it, in RECOVERY and in HALTED every weir stays CLOSED
(R100, R104, R105) (DESIGN CHOICE, log entry 74). -/
def State.weirsRun (s : State) : Bool :=
  s.fld .sysBootStat fSysBootStat_STAGE == 7 || s.fld .sysBootStat fSysBootStat_STAGE == 8

/-- A command by its code. -/
def State.weirCmd (s : State) (k c owed : Nat) : State :=
  if !s.weirsRun then s
  else if c = wcCLOSE then s.weirClose k owed
  else if c = wcOPEN then s.weirOpenCmd k
  else if c = wcCYCLE then s.weirCycle k owed
  else if c = wcOFF then s.weirOff k owed
  else if c = wcON then s.weirOn k
  else s

/-- CNT_CLR. -/
def State.weirCntClr (s : State) (k : Nat) : State :=
  (s.setFld (.sysWeir k) fSysWeir_DISCARD_CNT 0).setFld (.sysWeir k) fSysWeir_ABORT_CNT 0

/-! ### Transitions (R77 to R83) -/

/-- The pipelines of weir k's unit have stopped: a Jet's task has ended, Spout runs no REP on (R78, R217, R561). -/
def State.pipesStopped (s : State) (k : Nat) : Bool :=
  match unitOf k with
  | .jet j => (s.jet j).task.isNone
  | .spout => !s.sptRepRuns
  | _ => true

/-- The responses owed are ABORTED and counted (R77) (DEDUCED, log entry 76). -/
def State.abortOwed (s : State) (k : Nat) : State :=
  let s := s.addSat (.sysWeir k) fSysWeir_ABORT_CNT (s.weirH k).owed
  s.setWeirH k { s.weirH k with owed := 0 }

/-- The drain is over: CLOSED, or the reset where an OPEN is pending or was taken back (DEDUCED, log entry 76). -/
def State.afterDrain (s : State) (k : Nat) : State :=
  if s.weirState k = 3 then s.weirResets k else s.weirCloses k

/-- True when a drain, or a pipeline left running by a forced close, may end now. -/
def State.drainMayEnd (s : State) (k : Nat) : Bool :=
  ((s.weirH k).phase == phDRAIN || (s.weirH k).phase == phPIPE) && s.pipesStopped k

/-- A drain ends (R78). -/
def State.drainEnd (s : State) (k : Nat) : State := (s.abortOwed k).afterDrain k

/-- True when a drain has lasted 10 µs. -/
def State.drainTimesOut (s : State) (k : Nat) : Bool :=
  (s.weirH k).phase == phDRAIN && decide ((s.weirH k).since + 10 * usTicks ≤ s.now)

/-- A drain at its limit (R78): DRAIN_FORCED; a pipeline still running keeps the reset waiting. -/
def State.drainForced (s : State) (k : Nat) : State :=
  let s := (s.abortOwed k).setFlag (.sysWeir k) fSysWeir_DRAIN_FORCED true
  if s.pipesStopped k then s.afterDrain k
  else
    let s := s.weirPhase k phPIPE
    if s.weirState k = 3 && s.flag (.sysWeir k) fSysWeir_RESTART_PENDING then s else s.setWeir k 2

/-- True when a power-up has taken its time (R64). -/
def State.powerUpEnds (s : State) (k : Nat) : Bool :=
  (s.weirH k).phase == phPOWER && decide ((s.weirH k).since + (unitOf k).powerTicks ≤ s.now)

/-- A power-up ends. -/
def State.powerUpEnd (s : State) (k : Nat) : State :=
  let s := s.unitOn k
  if s.weirState k = 3 then s.weirResets k else s.weirPhase k phNONE

/-- True when a unit's reset has taken its time (R83). -/
def State.resetEnds (s : State) (k : Nat) : Bool :=
  (s.weirH k).phase == phRESET && decide ((s.weirH k).since + (unitOf k).resetTicks ≤ s.now)

/-- The self-test within a Jet's commanded opening (R218). -/
def State.jetOpeningTest (s : State) (j : Nat) (pass : Bool) : State :=
  let s := (s.incWrap (.jetjStat j) fJetjStat_TEST_CNT).setFlag (.jetjStat j) fJetjStat_TEST_PASS pass
  if pass then
    let s := s.setFld (.jetjStat j) fJetjStat_FAIL_CNT 0
    let s := s.setRegN .sysJetRetired (putBit (s.regN .sysJetRetired) j false)
    s.setFld .jetStat fJetStat_RETIRED (putBit (s.fld .jetStat fJetStat_RETIRED) j false)
  else (s.setFld (.jetjStat j) fJetjStat_LAST_CHECK 6).setJetRole j roleRETIRED

/-- A unit's reset ends (R82, R83, R218): it reopens, waits for its boundary, or stays CLOSED. -/
def State.resetEnd (s : State) (k : Nat) (pass : Bool) : State :=
  let s := s.unitReset (unitOf k)
  if !s.flag (.sysWeir k) fSysWeir_RESTART_PENDING then s.weirCloses k
  else
    match unitOf k with
    | .axis _ => s.weirPhase k phWAIT
    | .jet j =>
      let s := s.jetOpeningTest j pass
      if pass then s.weirPhase k phWAIT else s.weirCloses k
    | _ => s.weirOpens k

/-- A late reply is discarded when the unit issued its request, age ticks ago, before its weir last left OPEN (R79). -/
def State.replyLate (s : State) (k age : Nat) : Bool :=
  match (s.weirH k).leftAt with
  | some t => decide (s.now ≤ t + age)
  | none => false

/-- The discard is counted. -/
def State.replyDiscard (s : State) (k : Nat) : State := s.incSat (.sysWeir k) fSysWeir_DISCARD_CNT

/-! ### Reopening at a boundary (R83, R184, R218) -/

/-- True when axis n reopens at the present boundary: its reset ended at least 64 fabric ticks ago. -/
def State.axisMayReopen (s : State) (n : Nat) : Bool :=
  (s.weirH n).phase == phWAIT && decide ((s.weirH n).since + 64 ≤ s.now)

/-- An axis reopens (R184, R325, R341): its pending swap takes place, and without STATE_LOAD its state restarts at zero. No cause
detected while it was RELOADING remains (R305). -/
def State.axisReopen (s : State) (n : Nat) : State :=
  let load := match (s.axis n).swap with
    | some q => q.stateLoad
    | none => false
  let s := if (s.axis n).swap.isSome then
      let r := s.performSwap n
      if r.1 then ((r.2.fixParams n).showCost n).repledge n else r.2
    else s
  let s := if load then s
    else ((s.clearMem (liveBank n + 0xC00) 0x400).setFlag (.axsHmStat n) fAxsHmStat_HOMED false).setReg (.axsFbHshift n) 0
  let s := s.stateLoaded n
  let s := s.weirOpens n
  let s := s.setAxis n { s.axis n with det := 0, groupStop := 0, ageDue := false }
  let s := s.setStop n { s.stop n with lastP := s.regI (.axsSetP n) }
  s.setAx n (if s.kind n = kindNONE then axOFF else if s.adm.shed.contains n then axHOLD else axREADY)

/-- The Jets that reopen at the present boundary (R218). -/
def State.jetsReopen (s : State) : State :=
  s.each allJets (fun j s =>
    if (s.weirH (258 + j)).phase = phWAIT then (s.weirOpens (258 + j)).jetReopen j else s)

end Sys2Proof.Machine
end

