-- ==== Sys2Proof/Machine/BootOps.lean ====
section
/-! DEFINITION. Start-up from an image, and the ordered switch between images (03_boot_image.md, R85 to R116; R704, R648). -/
namespace Sys2Proof.Machine

/-! ### Stages (R96 to R101) -/

/-- STAGE of the boot. -/
def State.stage (s : State) : Nat := s.fld .sysBootStat fSysBootStat_STAGE
/-- RECOVERY or HALTED (R100, R105). -/
def State.stopped (s : State) : Bool := s.stage == 9 || s.stage == 10
/-- The boot enters a stage. -/
def State.setStage (s : State) (n : Nat) : State := s.setFld .sysBootStat fSysBootStat_STAGE n

def stHEADERS : Nat := 2
def stREAD : Nat := 3
def stCONFIG : Nat := 4
def stADMISSION : Nat := 5
def stSELFTEST : Nat := 6
def stNETWORK : Nat := 7
def stRUNNING : Nat := 8
def stRECOVERY : Nat := 9
def stHALTED : Nat := 10

/-- The boot failure code of a slot is recorded. -/
def State.bootCode (s : State) (slot code : Nat) : State :=
  s.setFld .sysBootStat (if slot = 0 then fSysBootStat_FAIL_A else fSysBootStat_FAIL_B) code

/-- The PCIe endpoint may train: the HOST section is in force, or there is none (R100, R650). -/
def State.enableLink (s : State) : State := { s with host := { s.host with linkEnabled := true } }

/-- RECOVERY (R100). -/
def State.recovery (s : State) : State := ((s.setRegN .sysRole 0).setStage stRECOVERY).enableLink

/-- The next candidate is tried, or RECOVERY is entered (R96, R100). -/
def State.nextCandidate (s : State) : State :=
  match s.boot.left with
  | [] => s.recovery
  | k :: t => ({ s with boot := { s.boot with left := t, slot := k, first := false } }).setStage stREAD

/-- An attempt fails with a code (R97). -/
def State.bootFail (s : State) (code : Nat) : State := (s.bootCode s.boot.slot code).nextCandidate

/-- The candidates in the order they are tried: descending GEN, slot A first (R96). -/
def State.candidates (s : State) : List Nat :=
  let ok := fun k => (s.flashH k).header == 0
  if ok 0 && ok 1 then (if (s.flashH 0).gen < (s.flashH 1).gen then [1, 0] else [0, 1])
  else if ok 0 then [0] else if ok 1 then [1] else []

/-- The header reads complete (R86, R96). -/
def State.bootHeaders (s : State) : State :=
  let s := (s.bootCode 0 (s.flashH 0).header).bootCode 1 (s.flashH 1).header
  match s.candidates with
  | [] => s.recovery
  | k :: t => ({ s with boot := { s.boot with left := t, slot := k, first := true } }).setStage stREAD

/-- The chosen image has been read (R87, R97 items 1 to 4): its first 64 bytes as the device gave them again in 8D-8D-8D mode, set
by the header's XSPI_CFG, decide whether the whole image was read in that mode or in 1S-1S-1S mode. -/
def State.imageRead (s : State) (reread : List Byte) : State :=
  let h := s.flashH s.boot.slot
  let slow := reread != h.bytes 0 64
  let s := { s with boot := { s.boot with xspi := if slow then none else some h.xspi } }
  let s := s.setFlag .sysBootStat fSysBootStat_SLOW slow
  match h.verify s.host.keyHash s.host.keyBad with
  | 0 => s.setStage stCONFIG
  | c => s.bootFail c

/-! ### Unit configuration (R97 item 5, R98, R704) -/

/-- The Basin before an image: every bank reads 0. -/
def State.clearBasin (s : State) : State := s.clearMem (liveBank 0) (192 * 0x2000)

/-- Both banks of axis n from what the AXIS section gave its live bank, with CFG and the reset values of CTL (R704). -/
def State.axisConfigure (s : State) (n : Nat) : State :=
  let s := (s.clearMem (liveBank n + 0x500) 0x300).clearMem (liveBank n + 0xC00) 0x400
  let s := (s.copyMem (liveBank n) (stagedBank n) 0xC00).clearMem (stagedBank n + 0xC00) 0x400
  let s := (s.mirrorCfg n).showCost n
  s.setRegN (.axsCtl n) (s.bank n 0x40 8 3)

/-- Ports without use, and in a drive P4 to P63, HL0 and HL1, are powered down; the others are powered (R64, R432). -/
def State.portPower (s : State) : State :=
  s.each (List.range 66) (fun p s =>
    if !s.flag (.portCfg p) fPortCfg_USE || (s.isDrive && decide (4 ≤ p)) then s.unitOff (192 + p)
    else s.setFlag (.sysWeir (192 + p)) fSysWeir_PWR true)

/-- Stage group c belongs to the LOCAL axis whose LOCAL_CH is c, and its channels know that they are owned (R358, R359). -/
def State.ownGroups (s : State) : State :=
  let s := s.each (List.range 12) (fun g s => s.setFld (.sgCfg g) fSgCfg_OWNER
    ((allAxes.find? (fun n => s.kind n == kindLOCAL && s.localCh n == g)).getD 255))
  s.each (List.range 48) (fun n s => s.setFlag (.tcCfg n) fTcCfg_OWNED (decide (s.tcGroup n < 12) && (s.sgOwner (s.tcGroup n)).isSome))

/-- What the sections of the network and of time start as: nodes in use SILENT, a drive's cold start in state 7, configured domains
LISTENING (R514; 13_psiend_cycle.md, the fields' meanings). -/
def State.netConfigure (s : State) : State :=
  let s := if s.isDrive then s.setFld .netCsStat fNetCsStat_STATE 7
    else s.each (allNodes.filter (fun k => s.nodeUsed k)) (fun k s => s.setFld (.nodeStat k) fNodeStat_HSTATE hsSILENT)
  s.each [0, 1] (fun d s => s.domConfigure d)

/-- Every unit is loaded (R94, R704). -/
def State.configure (s : State) (l : List Load) : State :=
  let s := { s with oas := { s.oas with log := s.oas.kept } }
  let s := (s.clearBasin.applyLoads l).netConfigure
  let s := (s.each allAxes (fun n s => s.axisConfigure n)).ownGroups
  let s := s.each (List.range 48) (fun n s => if s.tcGroup n < 12 then s.transfer n true true true else s)
  (s.portPower.pledgeDefaults).enableLink

/-- The CRC of a slot's SAFETY section. -/
def State.safetyCrc (s : State) (slot : Nat) : Nat := (((s.flashH slot).sectOf 4).getD (0, 0)).2

/-- At every start-up an entry follows when the SAFETY section booted differs from the newest entry's NEW_CRC (R648). -/
def State.safetyLog (s : State) (ok : Bool) : State :=
  let crc := s.safetyCrc s.boot.slot
  let s := s.setFld .oasCfg fOasCfg_SAFETY_CRC crc
  if s.oas.log.isEmpty || leAt (s.oas.log.headD []) 24 4 != crc then s.logAppend 0 false true crc ok else s

/-- Unit configuration ends (R97 item 5): the units hold the image's values, or nothing has changed but the failure code. The
flag `bad` tells of a section whose contents no unit could take. -/
def State.unitConfig (s : State) (l : List Load) (bad logOk : Bool) : State :=
  let t := s.configure l
  if bad || !t.configOk l then s.bootFail 9 else (t.safetyLog logOk).setStage stADMISSION

/-- Registers that a failed attempt leaves: those of the SYS block but the role and the weirs (R98)
(DEDUCED, log entry 80). -/
def undoKeeps (a : Nat) : Bool := decide (a < 0x10000) && a != (Reg.sysRole).addr && !decide (0x1000 ≤ a ∧ a < 0x2000)

/-- A failed attempt is undone (R98): every unit and register as before, every tag clear, every weir CLOSED, and every memory that
an image loads reads as unwritten; the capture memory stays (R554) (DEDUCED, log entry 80). -/
def State.undoConfig (s : State) : State :=
  { State.reset with
    pending := s.pending, now := s.now, free := s.free, t48 := s.t48, t48Runs := s.t48Runs
    regs := s.regs.filter (fun p => undoKeeps p.1)
    mem := cellsOut (cellsOut s.mem (liveBank 0) 0x200000) 0x1400000 0x180000
    agents := s.agents, vlogLast := s.vlogLast, flash := s.flash, boot := s.boot, pins := s.pins
    power := { s.power with pmb := none }, time := { from_ := s.time.from_ }
    encs := (s.encs.map (fun p => (p.1, encPins p.2))).filter (fun p => p.2 != {})
    oas := { last := s.oas.last, n := s.oas.n, railOut := s.oas.railOut, clkBad := s.oas.clkBad, kept := s.oas.kept }
    host := { hostKept s.host with linkEnabled := s.host.linkEnabled } }

/-! ### Admission and self-tests (R99, R103 to R105) -/

/-- Jets whose bit in SYS.JET_RETIRED is 0, at most 16 (R99). -/
def State.jetsGood (s : State) : Nat := min 16 ((allJets.filter (fun j => !bitOf (s.regN .sysJetRetired) j)).length)

/-- The start-up admission check ends (R97 item 6, R99, R145). -/
def State.startupAdmission (s : State) : State :=
  let j := s.jetsGood
  match s.admission j [] none [] with
  | (some _, _) => s.undoConfig.bootFail 10
  | (none, shed) =>
    let h := s.flashH s.boot.slot
    let s := (((s.showUnits j []).setShedSet shed).admReport none).bootCode s.boot.slot 0
    let s := (s.setFld .sysBootStat fSysBootStat_SLOT s.boot.slot).setFld .sysBootGen fSysBootGen_GEN h.gen
    let s := s.setFlag .sysBootStat fSysBootStat_SIGNED_RUN (h.signed && s.host.keyHash != 0)
    (s.setFlag .sysBootStat fSysBootStat_FALLBACK (!s.boot.first)).setStage stSELFTEST

/-- The start-up self-test of Jet j: its bit in JET_RETIRED follows (R68, R211) (DEDUCED, log entry 82). -/
def State.jetBootTest (s : State) (bad : List Nat) (j : Nat) : State :=
  let pass := !bad.contains j
  let s := (s.incWrap (.jetjStat j) fJetjStat_TEST_CNT).setFlag (.jetjStat j) fJetjStat_TEST_PASS pass
  let s := s.setRegN .sysJetRetired (putBit (s.regN .sysJetRetired) j (!pass))
  let s := s.setFld .jetStat fJetStat_RETIRED (putBit (s.fld .jetStat fJetStat_RETIRED) j (!pass))
  if pass then s
  else ((s.setFld (.jetjStat j) fJetjStat_LAST_CHECK 6).setJetRole j roleRETIRED).raiseIf (s.flag .jetCtl fJetCtl_EV_FAIL) (258 + j)

/-- Admission is run again after a Jet failed with the reserve already taken (R104): whether it passes, with the set it leaves
(DEDUCED, log entry 82). -/
def State.bootReadmit (s : State) (was : Nat) : Option State :=
  let j := s.jetsGood
  if was ≤ j then some s
  else match s.admission j [] none [] with
    | (some _, _) => none
    | (none, shed) => some (((s.showUnits j []).setShedSet shed).admReport none)

/-- True for a comparator that start-up tests: one with FAST_EN or HARD_EN set (R396). -/
def State.cmpUsed (s : State) (c : Nat) : Bool :=
  s.flag (.cmpCfg c) fCmpCfg_FAST_EN || s.flag (.cmpCfg c) fCmpCfg_HARD_EN

/-- The start-up self-test of comparator c (R396): one that fails leaves its group latched tripped (R104). -/
def State.cmpBootTest (s : State) (bad : List Nat) (c : Nat) : State :=
  if s.cmpUsed c then s.stEnd c (!bad.contains c) else s

/-- HALTED (R105): the host ports operate with their reset settings, as in RECOVERY; the link keeps its state. -/
def State.halt (s : State) : State :=
  let s := { s with
    regs := s.regs.filter (fun p => !decide (0x140000 ≤ p.1) || p.1 == (Reg.hstPcieStat).addr)
    host := { s.host with ids := none } }
  s.setStage stHALTED

/-- The network stage begins (R101, R104, R378, R391, R432, R465): ports and head links open first, then every unit other than
Jets and axis contexts (DEDUCED, log entry 74). -/
def State.networkStage (s : State) : State :=
  let s := s.setStage stNETWORK
  let s := s.each (List.range 66) (fun p s => if s.powered (192 + p) then (s.weirOpens (192 + p)).setLink p lsDETECT else s)
  let s := s.each (upFrom 275 233) (fun k s => s.weirOpens k)
  let s := s.each (List.range 6) (fun m s => if s.fld (.sdclk m) fSdclk_DIV = 0 then s else s.setFlag (.sdclk m) fSdclk_RUN true)
  let s := s.each (List.range 12) (fun g s => if s.flag (.sgCfg2 g) fSgCfg2_AUTO_EN then s.sgEnable g else s)
  if s.isHead then s.setCs csLISTEN else s.toListen

/-- The self-tests complete (R103, R104): sram 0 sound, 1 spared rows, 2 no spare left; failing Jets and comparators; a mask of
the zones an Oasis test fails. -/
def State.selfTests (s : State) (sram : Nat) (jets cmps : List Nat) (zones : Nat) : State :=
  let was := s.jetsGood
  let zbad := (List.range 8).filter (fun z => bitOf zones z)
  let s := s.each allJets (fun j s => s.jetBootTest jets j)
  let cbad := (List.range 36).any (fun c => cmps.contains c && s.cmpUsed c)
  let s := s.each (List.range 36) (fun c s => s.cmpBootTest cmps c)
  let s := s.each zbad (fun z s => s.zoneFault z (2 ^ 9))
  let s := s.setFlag .oasStat fOasStat_SELFTEST_OK zbad.isEmpty
  if 2 ≤ sram then s.halt
  else match s.bootReadmit was with
    | none => s.halt
    | some s =>
      let lost := allJets.any (fun j => jets.contains j)
      (s.setFlag .sysBootStat fSysBootStat_DEGRADED (decide (0 < sram) || lost || cbad || !zbad.isEmpty)).networkStage

/-- Synchronised (R472). -/
def State.synchronised (s : State) : Bool :=
  if s.isDrive then s.istate == isINTEGRATED
  else s.isHead && (s.cs == csRUN || (s.cs == csFOLLOW && s.istate == isINTEGRATED))

/-- A cycle boundary of the network stage at which the M192 is synchronised (R104): at the first the Jets open, at the second the
axis contexts, and the M192 runs. -/
def State.bootBoundary (s : State) : State :=
  if s.stage ≠ stNETWORK || !s.synchronised then s
  else if s.boot.bnds = 0 then
    let s := { s with boot := { s.boot with bnds := 1 } }
    let s := s.placeJets
    s.each allJets (fun j s => if s.jetRole j = roleSERVICE || s.jetRole j = roleSTANDBY then s.weirOpens (258 + j) else s)
  else
    let s := s.each allAxes (fun n s => (s.weirOpens n).setAx n
      (if s.kind n = kindNONE then axOFF else if s.adm.shed.contains n then axHOLD else axREADY))
    (s.setFld .sysBootGen fSysBootGen_BOOT_MS (satU 16 ((s.now - s.boot.from_) / msTicks))).setStage stRUNNING

/-! ### The ordered switch (R108 to R116) -/

/-- STATE of the switch. -/
def State.imgState (s : State) : Nat := s.fld .sysImgStat fSysImgStat_STATE
/-- The switch takes a state; DONE and REFUSED raise a flag (R116). -/
def State.setImg (s : State) (st : Nat) : State := (s.setFld .sysImgStat fSysImgStat_STATE st).raiseIf (st == 5 || st == 6) 339

def imgVERIFYING : Nat := 1
def imgADMITTING : Nat := 2
def imgSTAGING : Nat := 3
def imgARMED : Nat := 4
def imgDONE : Nat := 5
def imgREFUSED : Nat := 6

/-- Reasons of a refusal. -/
def irLATE : Nat := 1
def irVERIFY : Nat := 2
def irGEN : Nat := 3
def irRESTART : Nat := 4
def irADMISSION : Nat := 5
def irCANCELLED : Nat := 6
def irRUNNING : Nat := 7
def irSAFETY : Nat := 8
def irPARTNER : Nat := 9

/-- The order is refused; nothing of the target takes effect, and what was staged is discarded: the staged banks read as the live
ones (R109 to R115) (DESIGN CHOICE, log entry 75). -/
def State.imgRefuse (s : State) (r code : Nat) : State :=
  let axes := match s.boot.order with
    | some o => if o.staged && !o.restart then axesLoaded o.loads else []
    | none => []
  let s := s.each axes (fun n s =>
    let s := s.copyMem (liveBank n) (stagedBank n) 0xC00
    if s.flag (.axsStage n) fAxsStage_PENDING then s else s.setAxis n { s.axis n with swap := none })
  let s := { s with boot := { s.boot with order := none, told := none } }
  ((s.setFld .sysImgStat fSysImgStat_REASON r).setFld .sysImgStat fSysImgStat_VERIFY_FAIL code).setImg imgREFUSED

/-- What a write of GO = 1 is refused with (R75, R108) (DEDUCED, log entry 81). -/
def State.goRefuse (s : State) (ag : Nat) : List Nat :=
  refuseIf (!((1 ≤ ag && ag ≤ 10) || ag == 16)) cACCESS ++ refuseIf s.imgActive cBUSY

/-- GO = 1 (R109, R112, R113): verification of the target starts (DEDUCED, log entry 81). -/
def State.imgGo (s : State) (ag : Nat) : State :=
  let n := s.fld .sysImgCycle fSysImgCycle_N
  let t := s.fld .sysImgCtl fSysImgCtl_TARGET
  let s := { s with boot := { s.boot with order := some { ag := ag, restart := s.flag .sysImgCtl fSysImgCtl_MODE, target := t, n := n } } }
  let s := (s.setFld .sysImgStat fSysImgStat_REASON 0).setFld .sysImgStat fSysImgStat_VERIFY_FAIL 0
  if t = s.runSlot && s.fld .sysBootGen fSysBootGen_GEN != 0 then s.imgRefuse irRUNNING 0
  else if s.cycleLate n then s.imgRefuse irLATE 0
  else s.setImg imgVERIFYING

/-- CANCEL before the deadline refuses the order; later it is ignored (R113) (DEDUCED, log entry 75). -/
def State.imgCancel (s : State) : State :=
  match s.boot.order with
  | none => s
  | some o => if s.imgActive && !s.cycleLate o.n then s.imgRefuse irCANCELLED 0 else s

/-- At the deadline an order that is not ARMED is refused: PARTNER when only the partner is missing, LATE otherwise (R113, R115). -/
def State.imgLate (s : State) : State :=
  match s.boot.order with
  | some o => s.imgRefuse (if o.staged then irPARTNER else irLATE) 0
  | none => s

/-- The head's own part is complete: ARMED, or in a twin head N and DIGEST go to the partner and its arming is awaited (R113, R115). -/
def State.imgReady (s : State) : State :=
  match s.boot.order with
  | none => s
  | some o =>
    let m := some (o.n, o.digest)
    let s := { s with boot := { s.boot with order := some { o with staged := true } } }
    let s := if s.twin then { s with boot := { s.boot with told := m } } else s
    if s.twin && s.boot.partner != m then s.setImg imgSTAGING else s.setImg imgARMED

/-- The partner has armed a DIGEST for a cycle (R115): it counts for the order that names both, now or later, and not after the
deadline (DEDUCED, log entry 81). -/
def State.partnerArmed (s : State) (n digest : Nat) : State :=
  let s := { s with boot := { s.boot with partner := some (n, digest) } }
  match s.boot.order with
  | none => s
  | some o => if s.imgState = imgSTAGING && o.staged && !s.cycleLate o.n then s.imgReady else s

/-- A check of the target's configuration starts once none runs (R110). -/
def State.imgAdmit (s : State) : State :=
  if s.imgState = imgADMITTING && s.adm.running.isNone then s.admBegin 2 0 else s

/-- A switch that changes the SAFETY section takes its entry of the change log, or is refused when the write fails (R648). -/
def State.imgLogged (s : State) (o : ImgH) (logOk : Bool) : State :=
  let s := s.logAppend o.ag s.oas.pwdTo.isSome false (s.safetyCrc o.target) logOk
  if logOk then s.imgReady else s.imgRefuse irSAFETY 0

/-- What follows the verification of the target with a code and a generation (R109 to R112), in time or not (R113): differ names the
sections that differ from the running image's. A TAGS section with a bad record rejects the whole image with CONFIG (R107)
(DEDUCED, log entry 81). -/
def State.imgJudged (s : State) (o : ImgH) (gen code : Nat) (differ : List Nat) (l : List Load) (logOk : Bool) : State :=
  if s.cycleLate o.n then s.imgLate
  else if code ≠ 0 then s.imgRefuse irVERIFY code
  else if !tagsOk l then s.imgRefuse irVERIFY 9
  else if gen ≤ s.fld .sysBootGen fSysBootGen_GEN then s.imgRefuse irGEN 0
  else if !o.restart then
    if differ.isEmpty then (s.setImg imgADMITTING).imgAdmit else s.imgRefuse irRESTART 0
  else if !differ.contains 4 then s.imgReady
  else if !(s.oas.pwdTo.isSome && s.flag .oasStat fOasStat_SAFE_STOP_ALL) then s.imgRefuse irSAFETY 0
  else s.imgLogged o logOk

/-- What verification has found in the target is held with the order (R109, R115). -/
def State.imgNoted (s : State) (o : ImgH) (f : FlashH) (l : List Load) : State :=
  { s with boot := { s.boot with order := some { o with gen := f.gen, digest := f.digest, loads := l.filter liveLoad } } }

/-- Verification of the target ends (R109). -/
def State.imgVerified (s : State) (l : List Load) (logOk : Bool) : State :=
  match s.boot.order with
  | none => s
  | some o =>
    let h := s.flashH o.target
    (s.imgNoted o h l).imgJudged o h.gen (h.verify s.host.keyHash s.host.keyBad) (sectsDiffer (s.flashH s.runSlot) h) l logOk

/-- The configuration that the target's live sections would produce (R110). -/
def State.imgConfig (s : State) (l : List Load) : State := ((s.applyLoads l).keepClosure s liveBank).pledgeDefaults

/-- The admission check of a live switch ends (R110, R141). -/
def State.imgAdmitted (s : State) : State :=
  match s.boot.order with
  | none => s
  | some o =>
    let r := (s.imgConfig o.loads).admission s.jNow s.adm.shed (some s) o.loads
    let s := s.admReport r.1
    if s.imgState ≠ imgADMITTING then s
    else if s.cycleLate o.n then s.imgLate
    else match r.1 with
      | some _ => s.imgRefuse irADMISSION 0
      | none => ({ s with boot := { s.boot with order := some { o with shedSet := r.2 } } }).setImg imgSTAGING

/-- An admission check ends (R137, R141, R144, R147). -/
def State.admDone (s : State) : State :=
  match s.adm.running with
  | none => s
  | some (kind, jets) =>
    let s := if kind = 0 then s.admDoneCheck jets else if kind = 1 then s.admDoneJ else if kind = 3 then s.admDoneBack else s.imgAdmitted
    s.admNext.imgAdmit

/-- An item for the Basin goes to the staged bank (R110). -/
def toStaged : Load → Load
  | .mem a b => if liveBank 0 ≤ a && a < liveBank 192 then .mem (a + 0x1000) b else .mem a b
  | x => x

/-- Axis n is staged by a live switch: a software request ends PREEMPTED (R169). -/
def State.stageAxis (s : State) (at_ n : Nat) : State :=
  let s := if s.flag (.axsStage n) fAxsStage_PENDING then s.stageDrop n 5 else s
  let s := s.copyMem (liveBank n) (stagedBank n) 0xC00
  s.setAxis n { s.axis n with swap := some ⟨false, true, at_⟩ }

/-- Staging of the live sections completes (R110, R113, R114): the changed axes' staged banks are written, and the points of the cam
store; CLOSURE of a drive's axes does not follow (R22). -/
def State.imgStaged (s : State) : State :=
  match s.boot.order with
  | none => s
  | some o =>
    if s.cycleLate o.n then s.imgLate
    else if o.staged then s
    else
      let l := o.loads.filter (fun x => basinLoad x && s.loadChanges x)
      let o := { o with loads := l ++ o.loads.filter (fun x => !basinLoad x) }
      let t := s.each (axesLoaded l) (fun n s => s.stageAxis o.n n)
      let t := ((t.applyLoads (l.map toStaged)).keepClosure s (fun n => stagedBank n)).applyLoads (o.loads.filter camLoad)
      { t with boot := { t.boot with order := some o } }.imgReady

/-- Axis n is named by a live switch in STAGING or ARMED (R169). -/
def State.imgNames (s : State) (n : Nat) : Bool :=
  match s.boot.order with
  | some o => !o.restart && (s.imgState == imgSTAGING || s.imgState == imgARMED) && (axesLoaded o.loads).contains n
  | none => false

/-- True when the deadline of an order has come (R113). -/
def State.imgDeadline (s : State) : Bool :=
  match s.boot.order with
  | some o => s.imgActive && s.imgState != imgARMED && s.cycleLate o.n
  | none => false

/-- The head link is lost: an order of a twin head is refused (R115). -/
def State.imgLinkLoss (s : State) : State := if s.twin && s.imgActive then s.imgRefuse irPARTNER 0 else s

/-- What a live switch brings to the units behind weirs, by weir: what changes of the Mirage channels and the cores, and all of
Spout's (R114). -/
def State.loadsDue (s : State) (l : List Load) : List (Nat × Load) :=
  l.filterMap (fun x => (loadWeir x).bind (fun k => if k = 507 || s.loadChanges x then some (k, x) else none))

/-- A live switch takes effect (R111, R114, R116): the channels, Spout and cores that it changes have their weirs cycled and load
while they are closed; everything else is there at once (DEDUCED, log entries 75 and 81). -/
def State.imgTakes (s : State) (o : ImgH) : State :=
  let due := s.loadsDue o.loads
  let s := { s with boot := { s.boot with order := none, told := none, due := due } }
  let s := s.each (due.map (fun p => p.1)).eraseDups (fun k s => s.weirCycle k 0)
  let s := (s.applyLoads (o.loads.filter (fun x => !basinLoad x && !camLoad x && (loadWeir x).isNone))).otherPledges
  let s := (s.setShedSet o.shedSet).showUnits s.jNow s.adm.shed
  let s := s.setFld .sysBootStat fSysBootStat_SLOT o.target
  (s.setFld .sysBootGen fSysBootGen_GEN o.gen).setImg imgDONE

/-- At the boundary of cycle N the order takes effect (R111, R114, R116); the axes' banks swap with the boundary's own swaps. -/
def State.imgBoundary (s : State) : State :=
  match s.boot.order with
  | none => s
  | some o =>
    if s.imgState ≠ imgARMED || decide (0 < cycleDiff o.n s.cycleN) then s
    else if o.restart then s.chipReset rstSOFT
    else s.imgTakes o

end Sys2Proof.Machine
end

