-- ==== Sys2Proof/Machine/Bus.lean ====
section
/-! DEFINITION. Accesses to the register space and the memory windows (01_architecture.md, R25 to R37; R84, R702,
R703): what a read answers, what a write is refused with, and what each register's write does. -/
namespace Sys2Proof.Machine

/-! ### What a register shows -/

/-- An axis, port or other class of register that the head's role leaves reading 0 (14_twin_heads.md,
13_psiend_cycle.md) (DEDUCED, log entry 83). -/
def State.regAbsent (s : State) (r : Reg) : Bool :=
  match r.name with
  | .twnCfg | .twnCtl | .twnHoCycle | .twnStat | .twnPull | .twnLastHo | .twnCnt0 | .twnCnt1 | .twnCnt2 | .twnMis =>
    !(s.twin && s.isHead)
  | .nodeCfg | .nodeStat | .nodeGrd | .nodeRng | .fwdCfg | .fwdStat => s.isDrive
  | .flowCfg | .flowTx | .flowStat => s.isDrive && r.i != 0
  | _ => false

/-- A register's word with the fields that the unit computes when it is read, and those fused at manufacture (UID, and the
default vendor ID of R650, which VENDOR reads whatever identifiers the HOST section gives)
(DESIGN CHOICE, log entry 5; DEDUCED, log entry 12). -/
def State.computed (s : State) (ag : Nat) (r : Reg) : Word48 :=
  let v := s.reg r
  match r.name with
  | .timT48 => s.t48
  | .timLtSec => BitVec.ofInt 48 (s.lt / secUnit)
  | .timLtNs => BitVec.ofInt 48 (s.lt % secUnit)
  | .timCorr => BitVec.ofInt 48 (s.cAfter 0)
  | .coreIrq => wordPut v fCoreIrq_PEND (s.irqPend r.i)
  | .hstSpiIrq => wordPut v fHstSpiIrq_PEND (b2n (s.flag (.dbPend 10) fDbPend_BITS) + 2 * b2n (s.eventMap 10 != 0) +
      4 * b2n (bitOf (wordFld v fHstSpiIrq_PEND) 2))
  | .agEvtLo => BitVec.ofNat 48 (s.eventMap r.i % 2 ^ 32)
  | .agEvtHi => BitVec.ofNat 48 (s.eventMap r.i / 2 ^ 32)
  | .lk => BitVec.ofNat 48 (s.fld (.lkStat r.i) fLkStat_OWNER)
  | .casCam => wordPut v fCasCam_IN_USE (satU 8 (s.camUse r.i))
  | .sgStat => wordPut (wordPut v fSgStat_DRIVING (b2n (s.sgDriving r.i))) fSgStat_STO (b2n (s.sgSto r.i))
  | .cmpStat => wordPut v fCmpStat_INACT (if wordFld v fCmpStat_RAW_FAST == 1 || wordFld v fCmpStat_RAW_HARD == 1 then 0
      else satU 10 (s.now - (s.cmp r.i).inact))
  | .oasPwdCtl => wordPut v fOasPwdCtl_HOLD_S s.pwdLeft
  | .twnStat => wordPut (wordPut v fTwnStat_HL0_OK (b2n (s.hlOk 64))) fTwnStat_HL1_OK (b2n (s.hlOk 65))
  | .oasLogD => BitVec.ofNat 48 (s.logWord r.i)
  | .hstPcieStat => wordPut v fHstPcieStat_VENDOR Config.vendorId.toNat
  | .sysUidLo => (Config.uid.extractLsb' 0 32).setWidth 48
  | .sysUidHi => (Config.uid.extractLsb' 32 32).setWidth 48
  | .sptSubA => (s.sptSub ag).1
  | .sptSubExt => (s.sptSub ag).2.1
  | .sptSubArg => (s.sptSub ag).2.2
  | _ => v

/-- What agent ag reads in a register: write-only fields read 0, and so does a register the role leaves out
(DEDUCED, log entry 83). -/
def State.shown (s : State) (ag : Nat) (r : Reg) : Word48 :=
  if s.regAbsent r then 0
  else r.fields.foldl (fun v f => if f.acc == .wo then wordPut v f.fld 0 else v) (s.computed ag r)

/-- The 64 bits of a slot that holds a word (R26). -/
def slotBits (r : Reg) (v : Word48) : Nat := if r.signed then uns 64 v.toInt else v.toNat

/-! ### Reads -/

/-- What a read of a register is refused with (R582, R598). -/
def State.readRefuse (s : State) (ag : Nat) (r : Reg) : List Nat :=
  match r.name with
  | .mbData => refuseIf (s.fld (.mbCfg r.i) fMbCfg_RECEIVER != ag) cACCESS
  | .coreDispatch => refuseIf (ag != r.i + 1 || s.flag (.coreStat r.i) fCoreStat_HOLD) cACCESS
  | _ => []

/-- What reading a register does beyond answering: the word read, and the state after (R522, R598, R603, 15_time.md)
(DEDUCED, log entry 83). -/
def State.readAct (s : State) (ag : Nat) (r : Reg) : Word48 × State :=
  let v := s.shown ag r
  match r.name with
  | .mbData => (v, s.boxRead r.i)
  | .lk => let x := s.lockRead ag r.i; (BitVec.ofNat 48 x.1, x.2)
  | .timTsqId => let x := s.tsqRead; (BitVec.ofNat 48 x.1, x.2)
  | .timLtSec => (v, s.setAgent ag { s.agent ag with ltNs := some (s.computed ag .timLtNs).toNat })
  | .timLtNs =>
    match (s.agent ag).ltNs with
    | some x => (BitVec.ofNat 48 x, s.setAgent ag { s.agent ag with ltNs := none })
    | none => (v, s)
  | .coreDispatch => (0, s.dispatchRead r.i)
  | _ => (v, s)

/-- A request of unit u is refused with a code, with what that does in the unit (R538, R569, R460, R705). -/
def State.unitRefuse (s : State) (u : Nat) (q : ArbReq) (code : Nat) : State :=
  if u = 0 then s.jetRefuse q
  else
    let s := s.arbRefuse u q code
    if u = 1 then s.sptRefused q code
    else if u = 5 then (if q.tag = 0 then s.flowState q.r 3 else s)
    else if u = 6 then s.mirRefused q
    else if q.agent = 11 then
      match s.sptExtAt q.addr with
      | some t => s.sptRespond t code 0
      | none => s
    else s

/-- The opportunistic requests of unit u that their arrival tick left ungranted are refused (R124) (DESIGN CHOICE, log entry 96). -/
def State.arbSettle (s : State) (u : Nat) : State := (s.arbStale u).foldl (fun (s : State) q => s.unitRefuse u q cREFUSED) s

/-- Orders of a Mirage channel that are due take effect before an access to its registers (R543), and refusals that are due before
an access to their counters; comparators whose tick it is fire before an access to theirs (R529). -/
def State.settleReg (s : State) (r : Reg) : State :=
  match r.name with
  | .mirSrc | .mirPinmask | .mirRate | .mirDb | .mirAcq | .mirTrig | .mirLvl | .mirHys | .mirRing | .mirRingCtl
  | .mirPtr | .mirCtl | .mirStat | .mirCnt0 | .mirCnt1 | .mirDead | .mirAcqA | .mirAcqB | .mirAcqTrig | .mirAcqRec
  | .mirAcqDead | .mirAcqMissT | .mirMaskViol | .mirMaskT => s.mirSettle r.i
  | .portTxFrames => s.txSettle r.i
  | .fwdStat => s.txSettle (s.fld (.fwdCfg r.i) fFwdCfg_DST_PORT)
  | .shrReqDefer | .shrReqRefuse | .shrReqWait | .shrUnitArb => s.doIf (r.i != 0) (fun s => s.arbSettle r.i)
  | .sptDone => s.arbSettle 1
  | .ttCtl | .ttTarget | .ttAux | .ttStat | .ttLast => s.ttFireAll mirFire
  | _ => s

/-- A read of a register slot: code, the slot's 64 bits, the state after. A read of DISPATCH is not complete yet: its answer
notes the epoch (R80, R583). -/
def State.regRead (s : State) (ag : Nat) (r : Reg) : Nat × Nat × State :=
  let s := s.settleReg r
  let c := lowestCode (s.readRefuse ag r)
  if c ≠ cOK then (c, 0, s)
  else
    let x := s.readAct ag r
    (cOK, slotBits r x.1, if r.name == .coreDispatch then x.2 else x.2.noteEpoch ag r)

/-! ### Refusals of a write -/

/-- True when a write of v would change field f whose present word is cur (R84). -/
def fieldChanges (cur v : Word48) (f : FieldRow) : Bool :=
  match f.acc with
  | .rw | .rwl => wordFld v f.fld != wordFld cur f.fld
  | .wo | .w1c | .w1s => wordFld v f.fld != 0
  | .ro | .rc => false

/-- OFFLINE by the weir of the register's unit (R84). -/
def State.offlineRefuse (s : State) (ag : Nat) (r : Reg) (v : Word48) : List Nat :=
  match r.weir with
  | none => []
  | some k =>
    let cur := s.shown ag r
    let l := r.fields.filter (fun f => fieldChanges cur v f)
    refuseIf ((l.any (fun f => f.acc == .rwl) && s.weirState k != 2) ||
      (l.any (fun f => f.acc != .rwl) && s.weirState k != 0)) cOFFLINE

/-- ACCESS where every field is RO (R702). -/
def roRefuse (r : Reg) : List Nat := refuseIf (r.fields.all (fun f => f.acc == .ro)) cACCESS

/-- True when a write carries an order of R481 (DEDUCED, log entry 87). -/
def isOrder (r : Reg) (v : Word48) : Bool :=
  let on := fun (f : Fld) => wordFld v f != 0
  match r.name with
  | .axsMvCtl => on fAxsMvCtl_PUSH || on fAxsMvCtl_FLUSH
  | .axsChgCtl => on fAxsChgCtl_APPLY
  | .axsFolCtl => on fAxsFolCtl_OP || on fAxsFolCtl_CANCEL
  | .axsHmCtl => on fAxsHmCtl_START || on fAxsHmCtl_ABORT
  | .casGrpCtl => on fCasGrpCtl_GO
  | .axsStage => on fAxsStage_REQ || on fAxsStage_CANCEL
  | .axsCmd => on fAxsCmd_CMD
  | .sysWeir => decide (r.i < 192) && on fSysWeir_CMD
  | .lmOCtl => on fLmOCtl_CMD
  | .twnCtl => on fTwnCtl_HANDOVER
  | .casCam => true
  | _ => false

/-- The cycle at which a command of a twin head acts: CMD_LEAD cycles after the origin's write (R481)
(DEDUCED, log entry 86). -/
def State.leadCycle (s : State) (ag : Nat) : Nat :=
  if ag = 15 then s.twn.ordN else (s.cycleN + s.fld .twnCfg fTwnCfg_CMD_LEAD) % 2 ^ 48

/-- True when an order comes from the channel B head (DEDUCED, log entry 86). -/
def State.fromB (s : State) (ag : Nat) : Bool := s.flag .netCycCfg fNetCycCfg_CH != (ag == 15)

/-- What a write of AXS[n].CMD is refused with; in a twin head precedence is judged among the commands for one boundary. -/
def State.cmdWriteRefuse (s : State) (ag n c : Nat) : List Nat :=
  s.cmdRefuse n c ++
  refuseIf (c != 0 && s.twin && (s.axis n).cmdLater.any (fun x => x.1 == s.leadCycle ag &&
    decide (cmdRank c < cmdRank x.2.2.1))) cBUSY

/-- What a STAGE write is refused with (R162, R169). -/
def State.stageRefuse (s : State) (n : Nat) : List Nat :=
  refuseIf (s.imgNames n) cLOCKED ++ refuseIf (s.flag (.axsStage n) fAxsStage_PENDING) cBUSY

/-- What a write of LAT_CTL is refused with: sources and edges out of range, and latch 0 held by a homing (R353). -/
def State.latCtlRefuse (s : State) (c : Nat) (v : Word48) : List Nat :=
  [0, 1].flatMap (fun l => refuseIf (decide (36 < wordFld v (fEncLatCtl_SRC l)) || wordFld v (fEncLatCtl_EDGE l) == 3) cACCESS) ++
  refuseIf ((wordFld v (fEncLatCtl_ARM 0) == 1 || wordFld v (fEncLatCtl_DISARM 0) == 1) && s.homeHolds c) cLOCKED

/-- What a write of SG[g].CTL is refused with (R365, R373, R377, R390) (DEDUCED, log entry 89). -/
def State.sgCtlRefuse (s : State) (ag g : Nat) (v : Word48) : List Nat :=
  let on := fun (f : Fld) => wordFld v f == 1
  (if on fSgCtl_EN != s.flag (.sgCtl g) fSgCtl_EN then s.enRefuse ag g (on fSgCtl_EN) else []) ++
  (if on fSgCtl_PRECHARGE then s.prechargeRefuse g else []) ++
  (if on fSgCtl_TRIP_CLR then s.tripClrRefuse g else [])

/-- What a write of MIR[c].RATE is refused with (R533). -/
def State.mirRateRefuse (s : State) (v : Word48) : List Nat :=
  refuseIf (wordFld v fMirRate_RATE == 3 || wordFld v fMirRate_MODE == 3 ||
    decide (s.cycLen / 4 ≤ wordFld v fMirRate_OFFSET)) cACCESS

/-- What a write of CVN_CTL is refused with: a staged length out of range or past shared memory (R594, R595)
(DESIGN CHOICE, log entry 14). -/
def State.cvnRefuse (s : State) (v : Word48) : List Nat :=
  let n := wordFld v fSluCvnCtl_LEN_NEW
  refuseIf (wordFld v fSluCvnCtl_STAGE == 1 && (decide (n < 16) || decide (32768 < n) ||
    decide (0x80000 < s.fld .sluCvnRing fSluCvnRing_BASE * 16 + n * 16))) cACCESS

/-- What a write of LK[n] is refused with (R604) (DEDUCED, log entry 12). -/
def State.lkRefuse (s : State) (ag n : Nat) : List Nat := refuseIf (s.fld (.lkStat n) fLkStat_OWNER != ag) cLOCKED

/-- What a write of MB[n].WAIT is refused with (R607). -/
def State.waitRefuse (s : State) (ag n : Nat) (v : Word48) : List Nat :=
  refuseIf (!(s.mayWait ag n || (wordFld v fMbWait_WAIT == 0 && s.fld (.mbStat n) fMbStat_WAITER == ag))) cACCESS

/-- What the actions and fields of a register refuse of a write, beyond R84 and R702 (DEDUCED, log entry 88). -/
def State.actRefuse (s : State) (ag : Nat) (r : Reg) (v : Word48) : List Nat :=
  let on := fun (f : Fld) => wordFld v f == 1
  let n := r.i
  match r.name with
  | .sysRstCtl => rstRefuse ag v
  | .sysImgCtl => if on fSysImgCtl_GO then s.goRefuse ag else []
  | .sysFlashCtl => s.flashRefuse (wordFld v fSysFlashCtl_OP) (wordFld v fSysFlashCtl_SLOT) (wordFld v fSysFlashCtl_ADDR)
  | .sysFlashBuf => refuseIf (s.flag .sysFlashCtl fSysFlashCtl_BUSY) cBUSY
  | .sysWeir => s.weirRefuse ag n (wordFld v fSysWeir_CMD)
  | .shrAdmCtl => s.admRefuse v
  | .shrReqCfg => refuseIf (wordFld v fShrReqCfg_WEIGHT == 0 || wordFld v fShrReqCfg_AGE_LIMIT == 0) cACCESS
  | .axsCmd => s.cmdWriteRefuse ag n (wordFld v fAxsCmd_CMD)
  | .axsMvCtl => if on fAxsMvCtl_PUSH then s.pushRefuse n else []
  | .axsHmCtl => if on fAxsHmCtl_START then s.homeRefuse n else []
  | .axsFbStat => if on fAxsFbStat_CHK_CLR then s.chkClrRefuse n else []
  | .axsStage => if on fAxsStage_REQ then s.stageRefuse n else []
  | .jetCtl => if on fJetCtl_SWAP then s.swapRefuse else []
  | .casGrpCtl => if on fCasGrpCtl_GO then s.groupRefuse (wordFld v fCasGrpCtl_GROUP) else []
  | .casCam => s.camDescRefuse n
  | .encLatCtl => s.latCtlRefuse n v
  | .tcPerSh => s.tcRefuse n ++ perRefuse v
  | .tcCmpSh | .tcCmp2Sh | .tcCtl => s.tcRefuse n
  | .sgCtl => s.sgCtlRefuse ag n v
  | .cmpStat => if on fCmpStat_ST_CMD then s.stRefuse n else []
  | .portCtl => refuseIf (wordFld v fPortCtl_TEST == 3) cACCESS
  | .flowTx => if on fFlowTx_POST then s.flowRefuse n v else []
  | .twnCtl => if on fTwnCtl_RESYNC then s.resyncRefuse else []
  | .timCtl => refuseIf (wordFld v fTimCtl_SEL_FORCE == 3) cACCESS
  | .ttCtl => refuseIf (wordFld v fTtCtl_MODE == 3) cACCESS
  | .ttAux => s.ttAuxRefuse n v
  | .mirSrc => refuseIf (decide (28 ≤ wordFld v fMirSrc_VAR)) cACCESS
  | .mirRate => s.mirRateRefuse v
  | .mirTrig => s.mirTrigRefuse n v
  | .mirRing => refuseIf (wordFld v fMirRing_BASE != s.fld (.mirRing n) fMirRing_BASE &&
      s.mirBreaks n 8 (ringRange (wordFld v fMirRing_BASE) (s.ringSpan n))) cACCESS
  | .mirRingCtl => if on fMirRingCtl_STAGE then s.ringRefuse n (wordFld v fMirRingCtl_LEN_NEW) else []
  | .mirPtr => refuseIf (decide (s.mirLen n ≤ wordFld v fMirPtr_RD)) cACCESS
  | .mirCtl => refuseIf (wordFld v fMirCtl_UPL == 3) cACCESS
  | .mirMaskCfg => s.maskRefuse n v
  | .sptSubExt => refuseIf (wordFld v fSptSubExt_EB % 4 != 0) cACCESS
  | .sptSubGo => if on fSptSubGo_GO then s.sptPostRefuse ag else []
  | .taskCfg => refuseIf (wordFld v fTaskCfg_CORE_MASK == 0) cACCESS
  | .taskFlagSet => refuseIf (!privAgent ag && wordFld v fTaskFlagSet_BITS != 0) cACCESS
  | .sluPost => s.postRefuse ag (wordFld v fSluPost_TASK)
  | .sluCvnCtl => s.cvnRefuse v
  | .sluCvnPtr => refuseIf (decide (s.fld .sluCvnRing fSluCvnRing_LEN ≤ wordFld v fSluCvnPtr_RD)) cACCESS
  | .coreDone => s.doneRefuse ag n (wordFld v fCoreDone_OP)
  | .mbData => s.boxWriteRefuse ag n
  | .mbWait => s.waitRefuse ag n v
  | .lk => s.lkRefuse ag n
  | .lkStat => lkStatRefuse ag v
  | .dbSet => refuseIf (!decide (1 ≤ ag ∧ ag ≤ 16)) cACCESS
  | .dbPend => refuseIf (ag != n && wordFld v fDbPend_BITS != 0) cACCESS
  | .oasPwdIn => refuseIf (!privAgent ag && wordFld v fOasPwdIn_CHARS != 0) cACCESS
  | .oasPwdCtl => s.pwdRefuse ag v
  | .zoneCtl => zoneCtlRefuse ag
  | .dmaRingLo | .dmaRingHi => refuseIf (s.dmaEn n) cLOCKED
  | .dmaCtl => s.dmaCtlRefuse n v
  | .dmaPost => s.dmaPostRefuse ag n v
  | .ethRxPtr => refuseIf (decide (1024 * 2 ^ s.fld (.ethRxRing n) fEthRxRing_LEN ≤ wordFld v fEthRxPtr_RD)) cACCESS
  | .ethTxPost => s.ethPostRefuse ag n v
  | _ => []

/-- Everything a write of v to a register is refused with. A register that the role leaves out refuses only what R702
refuses: a write where every field is RO. -/
def State.writeRefuse (s : State) (ag : Nat) (r : Reg) (v : Word48) : List Nat :=
  if s.regAbsent r then roRefuse r
  else roRefuse r ++ s.offlineRefuse ag r v ++ refuseIf (isOrder r v && s.isHead && s.ordersOff) cOFFLINE ++
    s.actRefuse ag r v

/-- What a refused write still counts: a post answered BUSY (R587), a DONE answered OFFLINE (R592). -/
def State.writeRefused (s : State) (ag : Nat) (r : Reg) (code : Nat) : State :=
  match r.name with
  | .sluPost => if code = cBUSY then s.incSat .sluStat fSluStat_BUSY_CNT else s
  | .coreDone => if code = cOFFLINE && ag == r.i + 1 && (s.core r.i).cancelled then s.doneCancelled r.i else s
  | _ => s

/-! ### What a write does -/

/-- The word a register holds after the plain effect of a write on its fields (R8). -/
def plainWrite (r : Reg) (cur v : Word48) : Word48 :=
  r.fields.foldl (fun x f =>
    match f.acc with
    | .rw | .rwl => wordPut x f.fld (wordFld v f.fld)
    | .w1c => wordPut x f.fld (wordFld x f.fld - Nat.land (wordFld x f.fld) (wordFld v f.fld))
    | .w1s => wordPut x f.fld (Nat.lor (wordFld x f.fld) (wordFld v f.fld))
    | .ro | .wo | .rc => x) cur

/-- Registers whose fields the action of the write sets by itself. -/
def ownsFields (r : Reg) : Bool :=
  match r.name with
  | .portCtl | .mbData | .mbStat | .mbWait | .lk | .dbPend | .dmaCtl | .zoneCtl | .sptSubA | .sptSubExt | .sptSubArg
  | .oasPwdIn => true
  | _ => false

/-- The fields of a write take their values. -/
def State.plain (s : State) (r : Reg) (v : Word48) : State :=
  if ownsFields r then s else s.setReg r (plainWrite r (s.reg r) v)

/-- An operation of a mirrored order sees the cycle of its record in place of its cycle register (R478, R509). -/
def State.atOrder (s : State) (ag : Nat) (c : Reg) (f : State → State) : State :=
  if ag = 15 then
    let old := s.reg c
    (f (s.setRegN c s.twn.ordN)).setReg c old
  else f s

/-- MV_CTL: a flush acts before a push of the same write (R269). -/
def State.mvCtlAct (s : State) (n : Nat) (v : Word48) : State :=
  let s := s.doIf (wordFld v fAxsMvCtl_FLUSH == 1) (fun s => s.moveFlush n)
  s.doIf (wordFld v fAxsMvCtl_PUSH == 1) (fun s => s.movePush n)

/-- A follower operation timed by R248 and R249 (DEDUCED, log entry 52). -/
def State.folPut (s : State) (n : Nat) (c : CasCmd) : State :=
  let w := s.casWhen (s.flag (.axsFolCtl n) fAxsFolCtl_AT) (s.regN (.axsCasCycle n))
  if w.1 ≠ 0 then s else s.casPut n w.2 c

/-- FOL_CTL (R279, R289, R481) (DEDUCED, log entry 52). -/
def State.folCtlAct (s : State) (n : Nat) (v : Word48) : State :=
  let s := s.doIf (wordFld v fAxsFolCtl_CANCEL == 1) (fun s => s.folPut n .cancel)
  let x := s.regN (.axsFolPos n)
  match wordFld v fAxsFolCtl_OP with
  | 1 => s.folPut n (.engage (wordFld v fAxsFolCtl_AT_POS == 1) x (wordFld v fAxsFolCtl_REL == 1))
  | 2 => s.folPut n (.disengage (wordFld v fAxsFolCtl_AT_POS == 1) x)
  | 3 => s.folPut n (.switch x (wordFld v fAxsFolCtl_SW_TABLE) (wordFld v fAxsFolCtl_FORCE == 1))
  | _ => s

/-- HM_CTL (R317). -/
def State.hmCtlAct (s : State) (n : Nat) (v : Word48) : State :=
  let s := s.doIf (wordFld v fAxsHmCtl_ABORT == 1) (fun s => s.homeAbortOrder n)
  s.doIf (wordFld v fAxsHmCtl_START == 1) (fun s => s.homeOrder n)

/-- STAGE (R161 to R167). -/
def State.stageAct (s : State) (n : Nat) (v : Word48) : State :=
  let s := s.doIf (wordFld v fAxsStage_CANCEL == 1) (fun s => s.stageCancel n)
  s.doIf (wordFld v fAxsStage_REQ == 1) (fun s => s.stageRequest n)

/-- CMD: pending for the next boundary, or in a twin head for the one both heads take it at (R174, R481). -/
def State.cmdAct (s : State) (ag n c : Nat) : State :=
  if s.twin && s.isHead then s.cmdDefer ag n c (s.leadCycle ag) (s.fromB ag) else s.cmdPlace ag n c

/-- SYS.WEIR[k] (R76, R77); commands to axis weirs of a twin head wait for their boundary (R481). -/
def State.weirAct (s : State) (ag k : Nat) (v : Word48) (owed : Nat) : State :=
  let s := s.doIf (wordFld v fSysWeir_CNT_CLR == 1) (fun s => s.weirCntClr k)
  let c := wordFld v fSysWeir_CMD
  if c = 0 then s
  else if s.twin && s.isHead && decide (k < 192) then
    { s with twn := { s.twn with weirDue := s.twn.weirDue ++ [(s.leadCycle ag, s.fromB ag, k, c, owed)] } }
  else s.weirCmd k c owed

/-- SG[g].CTL (R365, R373, R376, R377, R390). -/
def State.sgCtlAct (s : State) (g : Nat) (was : Bool) (v : Word48) : State :=
  let on := fun (f : Fld) => wordFld v f == 1
  let s := s.doIf (on fSgCtl_TRIP_CLR) (fun s => s.tripClr g)
  let s := if on fSgCtl_EN then s.sgEnable g else if was then s.sgDisable g else s
  let s := s.doIf (on fSgCtl_COMMIT) (fun s => s.sgCommit g)
  s.doIf (on fSgCtl_PRECHARGE) (fun s => s.sgPrecharge g)

/-- PORT[p].CTL (R402, R403) (DEDUCED, log entry 91). -/
def State.portCtlAct (s : State) (p : Nat) (v : Word48) : State :=
  let t := wordFld v fPortCtl_TEST
  let was := s.fld (.portCtl p) fPortCtl_TEST
  let s := (s.setFld (.portCtl p) fPortCtl_EV_DOWN (wordFld v fPortCtl_EV_DOWN)).setFld (.portCtl p) fPortCtl_EV_ERR
    (wordFld v fPortCtl_EV_ERR)
  let s := if t = was then s else if t = 0 then s.portTestExit p else s.portTest p t
  s.doIf (wordFld v fPortCtl_RETRAIN == 1) (fun s => s.retrain p)

/-- TWN.CTL (R486, R497, R501). -/
def State.twnCtlAct (s : State) (v : Word48) : State :=
  let on := fun (f : Fld) => wordFld v f == 1
  let s := s.doIf (on fTwnCtl_CNT_CLR) State.twinCntClr
  let s := s.doIf (on fTwnCtl_HANDOVER) State.handoverArm
  s.doIf (on fTwnCtl_RESYNC) State.resync

/-- LAT_CTL (R351, R353) (DEDUCED, log entry 38). -/
def State.latCtlAct (s : State) (c : Nat) (v : Word48) : State :=
  s.each [0, 1] (fun l s =>
    let s := s.doIf (wordFld v (fEncLatCtl_ARM l) == 1) (fun s => s.latchArm c l)
    s.doIf (wordFld v (fEncLatCtl_DISARM l) == 1) (fun s => s.latchDisarm c l))

/-- TIM.TT[i].CTL (R528, R529): ARM and DISARM in one write leave the comparator disarmed (DEDUCED, log entry 38). -/
def State.ttCtlAct (s : State) (i : Nat) (v : Word48) : State :=
  let s := (s.ttHold i).doIf (wordFld v fTtCtl_ARM == 1) (fun s => s.ttArm i)
  s.doIf (wordFld v fTtCtl_DISARM == 1) (fun s => s.ttDisarm i)

/-- MIR[c].CTL (R543, R538) (DEDUCED, log entry 38). -/
def State.mirCtlAct (s : State) (c : Nat) (v : Word48) : State :=
  let on := fun (f : Fld) => wordFld v f == 1
  let s := s.doIf (on fMirCtl_CNT_CLR) (fun s => s.mirCntClr c)
  if on fMirCtl_ARM || on fMirCtl_DISARM || on fMirCtl_FORCE_TRIG then
    s.mirOrder c (on fMirCtl_ARM) (on fMirCtl_DISARM) (on fMirCtl_FORCE_TRIG)
  else s

/-- O_CTL of a line master (R294, R295): CLEAR before PUSH. -/
def State.lmCtlAct (s : State) (l c : Nat) : State :=
  let s := s.doIf (bitOf c 2) (fun s => s.lmClear l)
  s.doIf (bitOf c 0) (fun s => s.lmPush l (bitOf c 1))

/-- PWD_CTL (R645). -/
def State.pwdCtlAct (s : State) (v : Word48) : State :=
  let s := s.doIf (wordFld v fOasPwdCtl_CLEAR == 1) (fun s => s.setPwdOk false)
  s.doIf (wordFld v fOasPwdCtl_PRESENT == 1) (fun s => s.pwdPresent (wordFld v fOasPwdCtl_LEN))

/-- LK_STAT (R604): a free lock stays free. -/
def State.lkStatAct (s : State) (n : Nat) : State := s.lockForce n

/-- REQ_WAIT.CLR of requester r at unit u (R134): a STARVED that it clears is counted in UNIT_ARB.STARVED no more. -/
def State.reqWaitClr (s : State) (u r : Nat) : State :=
  let s := if s.flag (.shrReqRefuse u r) fShrReqRefuse_STARVED then
      s.setFld (.shrUnitArb u) fShrUnitArb_STARVED (s.fld (.shrUnitArb u) fShrUnitArb_STARVED - 1)
    else s
  let s := ((s.setReg (.shrReqDefer u r) 0).setReg (.shrReqRefuse u r) 0).setReg (.shrReqWait u r) 0
  s.setArb u { s.arb u with refusals := (s.arb u).refusals.filter (fun x => x.1 != r) }

/-- VLOG_CTL.CLR (R153). -/
def State.vlogClr (s : State) : State :=
  let s := s.each (List.range 32) (fun i s => s.setFlag (.sysVlogA i) fSysVlogA_VALID false)
  ((s.setFld .sysVlogCtl fSysVlogCtl_TOTAL 0).setFld .sysVlogCtl fSysVlogCtl_OVERWRITTEN 0).setFld .sysVlogCtl
    fSysVlogCtl_NEXT 0

/-- AGE_STAT.CLR (R177). -/
def State.ageStatClr (s : State) (n : Nat) : State :=
  (s.setFld (.axsAgeStat n) fAxsAgeStat_MAX_FB_AGE 0).setFld (.axsAgeStat n) fAxsAgeStat_STALE_CNT 0

/-- The action of a write, its fields written; was is the state before (DEDUCED, log entry 13). -/
def State.writeAct (s was : State) (ag : Nat) (r : Reg) (v : Word48) (owed : Nat) : State :=
  let on := fun (f : Fld) => wordFld v f == 1
  let n := r.i
  match r.name with
  | .sysRstCtl => s.rstRequest
  | .sysImgCtl =>
    let s := s.doIf (on fSysImgCtl_CANCEL) State.imgCancel
    s.doIf (on fSysImgCtl_GO) (fun s => s.imgGo ag)
  | .sysFlashCtl => s.flashStart (wordFld v fSysFlashCtl_OP) (wordFld v fSysFlashCtl_SLOT) (wordFld v fSysFlashCtl_ADDR)
  | .sysVlogCtl => s.doIf (on fSysVlogCtl_CLR) State.vlogClr
  | .sysTemp => s.doIf (on fSysTemp_CLR) State.tjMaxClr
  | .sysWeir => s.weirAct ag n v owed
  | .shrUnitArb => s.doIf (on fShrUnitArb_CLR) (fun s => s.setFld (.shrUnitArb n) fShrUnitArb_BOUND_MISS 0)
  | .shrAdmCtl => s.doIf (on fShrAdmCtl_CHECK) State.admCheck
  | .shrReqWait => s.doIf (on fShrReqWait_CLR) (fun s => s.reqWaitClr r.i r.j)
  | .axsCmd => s.cmdAct ag n (wordFld v fAxsCmd_CMD)
  | .axsAgeStat => s.doIf (on fAxsAgeStat_CLR) (fun s => s.ageStatClr n)
  | .axsCsFocStat => s.doIf (on fAxsCsFocStat_CLR) (fun s => s.setFld (.axsCsFocStat n) fAxsCsFocStat_VLIM_CNT 0)
  | .axsMvCtl => s.atOrder ag (.axsCasCycle n) (fun s => s.mvCtlAct n v)
  | .axsChgCtl => s.doIf (on fAxsChgCtl_APPLY) (fun s => s.atOrder ag (.axsCasCycle n) (fun s => s.changeApply n))
  | .axsFolCtl => s.atOrder ag (.axsCasCycle n) (fun s => s.folCtlAct n v)
  | .axsLimStat => s.doIf (on fAxsLimStat_CLR) (fun s => s.limClr n)
  | .axsHmCtl => s.atOrder ag (.axsCasCycle n) (fun s => s.hmCtlAct n v)
  | .axsFbStat => s.doIf (on fAxsFbStat_CHK_CLR) (fun s => s.chkClr n)
  | .axsStage => s.atOrder ag (.axsStageCycle n) (fun s => s.stageAct n v)
  | .jetCtl =>
    let s := s.doIf (s.fld .jetCtl fJetCtl_ROT_PERIOD != was.fld .jetCtl fJetCtl_ROT_PERIOD)
      (fun s => { s with jetSys := { s.jetSys with rotFrom := s.now } })
    s.doIf (on fJetCtl_SWAP) State.swapSchedule
  | .jetCntClr => s.doIf (on fJetCntClr_CLR) State.jetCntClr
  | .casGrpCtl => s.doIf (on fCasGrpCtl_GO) (fun s =>
      s.atOrder ag .casGrpCycle (fun s => s.groupGo (wordFld v fCasGrpCtl_GROUP)))
  | .casCam => s.camCheckStart n
  | .lmOCtl => s.lmCtlAct n (wordFld v fLmOCtl_CMD)
  | .lmPrNs => s.lmPredict n
  | .encErr => s.doIf (on fEncErr_CLR) (fun s => s.encErrClr n)
  | .encLatCtl => s.latCtlAct n v
  | .tcPerSh => s.shadowWritten n 0
  | .tcCmpSh => s.shadowWritten n 1
  | .tcCmp2Sh => s.shadowWritten n 2
  | .tcCtl => s.doIf (on fTcCtl_COMMIT) (fun s => s.tcCommit n)
  | .tcStat => s.doIf (on fTcStat_CLR) (fun s => s.tcCntClr n)
  | .sgCtl => s.sgCtlAct n (was.flag (.sgCtl n) fSgCtl_EN) v
  | .cmpStat => s.doIf (on fCmpStat_ST_CMD) (fun s => s.stStart n)
  | .portCtl => s.portCtlAct n v
  | .portCntClr => s.doIf (on fPortCntClr_CLR) (fun s => s.portCntClr n)
  | .netCsCtl => s.doIf (on fNetCsCtl_RETRY) State.coldRetry
  | .netCntClr => s.doIf (on fNetCntClr_CLR) State.netCntClr
  | .flowTx => s.doIf (on fFlowTx_POST) (fun s => s.flowPost n v)
  | .twnCtl => s.atOrder ag .twnHoCycle (fun s => s.twnCtlAct v)
  | .timCtl => s.reselect s.lt s.selClock
  | .domMCtl => s.doIf (on fDomMCtl_POST) (fun s => s.ptpPost n)
  | .timTsqStat => s.doIf (on fTimTsqStat_CLR) (fun s => s.setFld .timTsqStat fTimTsqStat_LOST 0)
  | .ttCtl => s.ttCtlAct n v
  | .ttTarget | .ttAux => s.ttHold n
  | .mirRingCtl => s.doIf (on fMirRingCtl_STAGE) (fun s => s.ringStage n (wordFld v fMirRingCtl_LEN_NEW))
  | .mirCtl => s.mirCtlAct n v
  | .sptSubA => s.setSptSub ag (plainWrite r 0 v, (s.sptSub ag).2)
  | .sptSubExt => s.setSptSub ag ((s.sptSub ag).1, plainWrite r 0 v, (s.sptSub ag).2.2)
  | .sptSubArg => s.setSptSub ag ((s.sptSub ag).1, (s.sptSub ag).2.1, plainWrite r 0 v)
  | .sptSubGo => s.doIf (on fSptSubGo_GO) (fun s => s.sptPost ag)
  | .sptCntClr => s.doIf (on fSptCntClr_CLR) (fun s => s.setReg .sptCnt 0)
  | .taskFlagSet => s.setTaskFlags n (wordFld v fTaskFlagSet_BITS)
  | .taskFlagClr =>
    let f := s.fld (.taskFlags n) fTaskFlags_FLAGS
    s.setFld (.taskFlags n) fTaskFlags_FLAGS (f - Nat.land f (wordFld v fTaskFlagClr_BITS))
  | .sluPost => s.post (wordFld v fSluPost_TASK)
      (if on fSluPost_FLOW_EN then some (wordFld v fSluPost_FLOW) else none) (wordFld v fSluPost_ARG)
  | .sluCvnCtl => s.doIf (on fSluCvnCtl_STAGE) (fun s =>
      ({ s with sluice := { s.sluice with cvnNew := wordFld v fSluCvnCtl_LEN_NEW } }).setFlag .sluCvnCtl fSluCvnCtl_STAGED true)
  | .coreDone => s.doneAct n v
  | .coreWdog => s.doIf (on fCoreWdog_KICK) (fun s => s.setCore n { s.core n with wdogFrom := s.now })
  | .mbData => s.boxWrite ag n v
  | .mbStat => s.boxStatClear ag n v
  | .mbWait => s.boxWait ag n (on fMbWait_WAIT)
  | .lk => s.lockFree n
  | .lkStat => s.lkStatAct n
  | .dbSet => s.ring n (wordFld v fDbSet_BITS)
  | .dbPend => s.unring n (wordFld v fDbPend_BITS)
  | .oasPwdIn => s.setFld (.oasPwdIn n) fOasPwdIn_CHARS (wordFld v fOasPwdIn_CHARS)
  | .oasPwdCtl => s.pwdCtlAct v
  | .zoneCtl => s.zoneCtlWrite n v
  | .slsStat => s.doIf (on fSlsStat_CLR) (fun s => s.slsPeakClr n)
  | .dmaCtl => s.dmaCtlWrite n v
  | .dmaPost => s.dmaPost n v
  | .hstSpiIrq => s.doIf (on fHstSpiIrq_VLOG_CLR) (fun s =>
      s.setFld .hstSpiIrq fHstSpiIrq_PEND (putBit (s.fld .hstSpiIrq fHstSpiIrq_PEND) 2 false))
  | .ethTxPost => s.ethPost n v
  | .ethStat => s.doIf (on fEthStat_CLR) (fun s => s.ethCntClr n)
  | _ => s

/-! ### Mirroring (R478, R481) -/

/-- The registers whose values an order copies at its write, in ascending address order. -/
def orderRegs (r : Reg) (v : Word48) : List Reg :=
  let n := r.i
  match r.name with
  | .axsMvCtl => if wordFld v fAxsMvCtl_PUSH == 1 then
      [.axsMvTarget n, .axsMvVmax n, .axsMvAmax n, .axsMvDmax n, .axsMvJmax n] else []
  | .axsChgCtl => [.axsChgVmax n, .axsChgAmax n, .axsChgDmax n]
  | .axsFolCtl => [.axsFolPos n]
  | .lmOCtl => [.lmOSec n, .lmONs n, .lmOP n, .lmOPf n, .lmOV n, .lmOVt n, .lmOA n]
  | _ => []

/-- The cycle or profile tick at which an order acts, as its record carries it (R478); 0 for one that acts on receipt. -/
def State.orderN (s : State) (r : Reg) : Nat :=
  match r.name with
  | .axsMvCtl | .axsChgCtl | .axsFolCtl | .axsHmCtl => s.regN (.axsCasCycle r.i)
  | .casGrpCtl => s.regN .casGrpCycle
  | .axsStage => s.regN (.axsStageCycle r.i)
  | .twnCtl => s.regN .twnHoCycle
  | .axsCmd | .sysWeir => s.leadCycle 0
  | _ => 0

/-- An order is sent to the partner with the values it copies. -/
def State.mirrorReg (s : State) (ag : Nat) (r : Reg) (v : Word48) : State :=
  if isOrder r v && s.mirrors then
    s.mirrorOrder ag (s.orderN r) ((orderRegs r v).map (fun x => (x.addr, 0xFF, s.regN x)) ++ [(r.addr, 0xFF, v.toNat)])
  else s

/-- A write of a register: its code, and the state after (R703: whole or not at all). -/
def State.regWrite (s : State) (ag : Nat) (r : Reg) (v : Word48) (owed : Nat) : Nat × State :=
  let s := s.settleReg r
  let c := lowestCode (s.writeRefuse ag r v)
  if c ≠ cOK then (c, s.writeRefused ag r c)
  else if s.regAbsent r then (cOK, s)
  else (cOK, ((s.plain r v).writeAct s ag r v owed).mirrorReg ag r v)

/-! ### Memory windows (R36, R37) -/

/-- What one byte of a memory window is refused with: Spout's X and Y memories answer while its weir is OPEN (R72, R77), its P
memory while it has power (R557) (DEDUCED, log entry 103). -/
def State.byteRefuse (s : State) (ag a : Nat) (write : Bool) : List Nat :=
  if a < 0x1000000 then [cDECODE]
  else if a < 0x1180000 then
    if !write then []
    else
      let n := (a - 0x1000000) / 0x2000
      let o := a % 0x1000
      if a % 0x2000 < 0x1000 then [cACCESS]
      else refuseIf (decide (0x500 ≤ o) && decide (o < 0x800)) cACCESS ++
        refuseIf (s.isHead && s.ordersOff) cOFFLINE ++
        refuseIf (s.flag (.axsStage n) fAxsStage_PENDING || s.imgNames n) cLOCKED
  else if a < 0x11C0000 then
    if write then refuseIf (s.isHead && s.ordersOff) cOFFLINE ++ s.camStoreRefuse (a - 0x1180000) 1 else []
  else if a < 0x11E0000 then refuseIf (!s.weirOpen 507) cOFFLINE ++ refuseIf (!write && s.ecc.contains (a / 4)) cECC
  else if a < 0x1200000 then
    refuseIf (!s.powered 507) cOFFLINE ++ refuseIf (!write && s.ecc.contains (a / 4)) cECC ++
      (if write then s.sptMemRefuse (a - 0x11E0000) else [])
  else if a < 0x1400000 then if write then s.mirMemRefuse (a - 0x1200000) 1 else []
  else if a < 0x1500000 then
    let k := (a - 0x1400000) / 0x20000
    refuseIf (ag != k + 1 && (s.weirState (275 + k) == 1 || s.weirState (275 + k) == 3 || !s.powered (275 + k))) cOFFLINE
  else if a < 0x1600000 then []
  else [cDECODE]

/-- True for addresses whose writes a twin head mirrors: staged banks and the cam store (R481). -/
def mirroredMem (a : Nat) : Bool :=
  (decide (0x1000000 ≤ a) && decide (a < 0x1180000) && decide (0x1000 ≤ a % 0x2000)) ||
  (decide (0x1180000 ≤ a) && decide (a < 0x11C0000))

/-- The bytes of a write at a within its 8-byte words, as order entries (R478). -/
def memEntries (a : Nat) (b : List Byte) : List (Nat × Nat × Nat) :=
  (List.range ((a % 8 + b.length + 7) / 8)).map (fun i =>
    let w := a / 8 * 8 + 8 * i
    (List.range 8).foldl (fun e j =>
      if a ≤ w + j ∧ w + j < a + b.length then (e.1, e.2.1 + 2 ^ j, e.2.2 + (b.getD (w + j - a) 0#8).toNat * 256 ^ j) else e)
      (w, 0, 0))

/-- Order records hold up to 15 entries. -/
def State.mirrorMem (s : State) (ag : Nat) : List Nat → List (Nat × Nat × Nat) → State
  | [], _ => s
  | _ :: t, es => if es.isEmpty then s else (s.mirrorOrder ag 0 (es.take 15)).mirrorMem ag t (es.drop 15)

/-- The code of an access to n bytes of the memory windows. -/
def State.memCode (s : State) (ag a n : Nat) (write : Bool) : Nat :=
  lowestCode ((List.range n).flatMap (fun i => s.byteRefuse ag (a + i) write))

/-- A read of n bytes of the memory windows: code and bytes. -/
def State.memRead (s : State) (ag a n : Nat) : Nat × List Byte :=
  let c := s.memCode ag a n false
  (c, if c = cOK then s.memBytes a n else List.replicate n 0#8)

/-- A write of bytes to the memory windows, whole or not at all; a word written whole holds no error any more
(DEDUCED, log entries 85 and 103). -/
def State.memWrite (s : State) (ag a : Nat) (b : List Byte) : Nat × State :=
  let c := s.memCode ag a b.length true
  if c ≠ cOK then (c, s)
  else
    let s := { s.setBytes a b with ecc := s.ecc.filter (fun w => !decide (a ≤ 4 * w ∧ 4 * w + 4 ≤ a + b.length)) }
    (cOK, if mirroredMem a then s.mirrorMem ag (List.range (b.length + 1)) (memEntries a b) else s)

/-! ### Accesses as agents make them -/

/-- A write by the PCIe host is posted (R652). -/
def writeType (ag : Nat) : Nat := if ag = 9 then tyPosted else tyWrite

/-- True when a register or a memory window stands at an address (R25, R36): an access that is not naturally aligned then
returns ACCESS (R28), and DECODE elsewhere (R12) (DEDUCED, log entry 85). -/
def addrExists (a : Nat) : Bool := if a < 0x1000000 then (Reg.ofAddr (a / 8 * 8)).isSome else decide (a < 0x1600000)

/-- A 64-bit access to a register slot or an 8-byte memory word: code, data, the state after
(DEDUCED, log entry 85). -/
def State.access8 (s : State) (ag a : Nat) (w : Option Nat) (owed : Nat) : Nat × Nat × State :=
  if a % 8 ≠ 0 then (if addrExists a then cACCESS else cDECODE, 0, s)
  else if a < 0x1000000 then
    match Reg.ofAddr a with
    | none => (cDECODE, 0, s)
    | some r =>
      match w with
      | some v => let x := s.regWrite ag r (BitVec.ofNat 48 v) owed; (x.1, 0, x.2)
      | none => s.regRead ag r
  else
    match w with
    | some v => let x := s.memWrite ag a (leBytes 8 v); (x.1, 0, x.2)
    | none => let x := s.memRead ag a 8; (x.1, leNat x.2, s)

/-- True when a read stays outstanding instead of answering: a core's read of DISPATCH (R583). -/
def isDispatch (a : Nat) : Bool :=
  match Reg.ofAddr (a / 8 * 8) with
  | some r => r.name == .coreDispatch
  | none => false

/-- A 64-bit access by an agent that issues accesses, with its answer (R72, R152 to R154); a core's misaligned one raises an
exception instead (R575). -/
def State.slot (s : State) (ag a : Nat) (w : Option Nat) (owed : Nat) : State :=
  if !s.issues ag then s
  else if a % 8 ≠ 0 && isCore ag then s.misaligned ag (if w.isSome then tyWrite else tyRead)
  else
  let x := s.access8 ag a w owed
  if w.isNone && x.1 = cOK && isDispatch a then x.2.2
  else x.2.2.answer ag a (if w.isSome then writeType ag else tyRead) x.1 x.2.1

/-- A 64-bit register write by an agent. -/
def State.busWrite (s : State) (ag a : Nat) (v : Word48) : State := s.slot ag a (some v.toNat) 0

/-- A 64-bit access whose code and data the caller needs as well (R464, R478). -/
def State.slotFor (ag : Nat) (s : State) (a : Nat) (w : Option Nat) : Nat × Nat × State :=
  let s := s.slot ag a w 0
  ((s.agent ag).code, (s.agent ag).data, s)

/-! ### 32-bit accesses (R28 to R35) -/

/-- A read of a slot's low word (R29). -/
def State.lowRead (s : State) (ag a : Nat) : State :=
  let x := s.access8 ag a none 0
  if x.1 ≠ cOK then x.2.2.answer ag a tyRead x.1 0
  else if isDispatch a then x.2.2
  else
    let s := x.2.2
    (s.setAgent ag { s.agent ag with latch := some (a, x.2.1 / 2 ^ 32) }).answer ag a tyRead cOK (x.2.1 % 2 ^ 32)

/-- A read of the high word of the slot at a (R29, R30): the latched one, or the present one
(DEDUCED, log entry 83). One answered from the latch leaves SYS.RSP_EPOCH as it is: R80 does not say whether it counts as a
read that a unit completed (DESIGN CHOICE, log entry 85). -/
def State.highRead (s : State) (ag a : Nat) : State :=
  let now := fun (s : State) =>
    match Reg.ofAddr a with
    | none => s.answer ag (a + 4) tyRead cDECODE 0
    | some r =>
      let s := s.settleReg r
      let c := lowestCode (s.readRefuse ag r)
      if c ≠ cOK then s.answer ag (a + 4) tyRead c 0
      else (s.noteEpoch ag r).answer ag (a + 4) tyRead cOK (slotBits r (s.shown ag r) / 2 ^ 32)
  match (s.agent ag).latch with
  | some l => if l.1 = a then (s.setAgent ag { s.agent ag with latch := none }).answer ag (a + 4) tyRead cOK l.2 else now s
  | none => now s

/-- A write of a slot's low word is staged (R31, R33). -/
def State.lowWrite (s : State) (ag a w : Nat) : State :=
  match Reg.ofAddr a with
  | none => s.answer ag a (writeType ag) cDECODE 0
  | some _ => (s.setAgent ag { s.agent ag with staged := some (a, w % 2 ^ 32, false) }).answer ag a (writeType ag) cOK 0

/-- A write of the high word of the slot at a (R31, R32, R34) (DEDUCED, log entry 84). -/
def State.highWrite (s : State) (ag a w : Nat) : State :=
  match Reg.ofAddr a with
  | none => s.answer ag (a + 4) (writeType ag) cDECODE 0
  | some r =>
    let put := fun (s : State) (low : Nat) =>
      let x := s.regWrite ag r (BitVec.ofNat 48 (low + 2 ^ 32 * (w % 2 ^ 16))) 0
      x.2.answer ag (a + 4) (writeType ag) x.1 0
    match (s.agent ag).staged with
    | some g =>
      if g.1 = a then
        let s := s.setAgent ag { s.agent ag with staged := none }
        if g.2.2 then
          let v := BitVec.ofNat 48 (g.2.1 + 2 ^ 32 * (w % 2 ^ 16))
          s.answer ag (a + 4) (writeType ag) (lowestCode (cOFFLINE :: (s.settleReg r).writeRefuse ag r v)) 0
        else put s g.2.1
      else put s ((s.shown ag r).toNat % 2 ^ 32)
    | none => put s ((s.shown ag r).toNat % 2 ^ 32)

/-- An access of n bytes that the register space does not take, or one that is not naturally aligned (R28): a core's
misaligned access raises an exception instead (R575) (DEDUCED, log entry 85). -/
def State.narrow (s : State) (ag a n ty : Nat) : State :=
  if !s.issues ag then s
  else if a % n ≠ 0 && isCore ag then s.misaligned ag (if ty = 0 then tyRead else tyWrite)
  else s.answer ag a (if ty = 0 then tyRead else writeType ag) (if addrExists a then cACCESS else cDECODE) 0

/-- A write by an agent to the memory windows, with its answer. -/
def State.memSlot (s : State) (ag a : Nat) (b : List Byte) : State :=
  if !s.issues ag then s
  else
    let x := s.memWrite ag a b
    x.2.answer ag a (writeType ag) x.1 0

/-- A read of n bytes of the memory windows by an agent, with its answer. -/
def State.memGet (s : State) (ag a n : Nat) : State :=
  if !s.issues ag then s
  else
    let x := s.memRead ag a n
    s.answer ag a tyRead x.1 (leNat x.2)

/-! ### What only cores do (R575) -/

/-- Core-local memory, of any core. -/
def inLocal (a : Nat) : Bool := decide (0x1400000 ≤ a ∧ a < 0x1500000)
/-- Shared core memory. -/
def inShared (a : Nat) : Bool := decide (0x1500000 ≤ a ∧ a < 0x1580000)

/-- An instruction fetch of a core: from its own local memory or from shared memory, or an instruction access fault (R575). -/
def State.fetch (s : State) (ag a : Nat) : State :=
  if !s.issues ag || !isCore ag then s
  else s.answer ag a tyFetch (if inShared a || (inLocal a && (a - 0x1400000) / 0x20000 + 1 == ag) then cOK else cACCESS) 0

/-- An LR, SC or AMO of n bytes by a core: the value read and, where there is one, the value stored, at once; elsewhere than in
core-local and shared memory a store/AMO access fault (R575). What it stores is the core's, by its instruction set
(log entry 16). -/
def State.atomic (s : State) (ag a n : Nat) (w : Option Nat) : State :=
  if !s.issues ag || !isCore ag then s
  else if a % n ≠ 0 then s.misaligned ag tyWrite
  else if !(inLocal a || inShared a) then s.answer ag a tyWrite cACCESS 0
  else
    let x := s.memRead ag a n
    if x.1 ≠ cOK then s.answer ag a tyWrite x.1 0
    else match w with
      | none => s.answer ag a tyRead cOK (leNat x.2)
      | some v =>
        let y := s.memWrite ag a (leBytes n v)
        y.2.answer ag a tyWrite y.1 (leNat x.2)

/-! ### Register writes by name -/

/-- The word that orders something of a register: its present fields, with one field set. -/
def State.wordWith (s : State) (ag : Nat) (r : Reg) (f : Fld) (n : Nat) : Word48 :=
  wordPut (r.fields.foldl (fun v g => if g.acc == .rw || g.acc == .rwl then v else wordPut v g.fld 0) (s.shown ag r)) f n

/-- A write of one field of a register, the RW fields as they stand. -/
def State.order (s : State) (ag : Nat) (r : Reg) (f : Fld) (n : Nat) : State :=
  s.busWrite ag r.addr (s.wordWith ag r f n)

end Sys2Proof.Machine
end

