-- ==== Sys2Proof/Machine/Access.lean ====
section
/-! DEFINITION. How agents reach registers and memories: 32-bit accesses, the requests of a mirrored order, and the
transactions of the PCIe, SPI and debug ports (R28 to R36, R478, R651 to R654, R659 to R661, R669). -/
namespace Sys2Proof.Machine

/-! ### 32-bit accesses -/

/-- A 32-bit read: a slot's word in the register space (R29, R30), four bytes of a memory window
(DEDUCED, log entry 85). -/
def State.read32 (s : State) (ag a : Nat) : State :=
  if !s.issues ag then s
  else if a % 4 ≠ 0 then s.narrow ag a 4 0
  else if a < 0x1000000 then
    if a % 8 = 0 then s.lowRead ag a else s.highRead ag (a - 4)
  else s.memGet ag a 4

/-- A 32-bit write: a slot's word in the register space (R31, R32), four bytes of a memory window
(DEDUCED, log entry 85). -/
def State.write32 (s : State) (ag a w : Nat) : State :=
  if !s.issues ag then s
  else if a % 4 ≠ 0 then s.narrow ag a 4 1
  else if a < 0x1000000 then
    if a % 8 = 0 then s.lowWrite ag a w else s.highWrite ag (a - 4) w
  else s.memSlot ag a (leBytes 4 w)

/-- An access of n bytes, by kind: 0 a read, 1 a write of v, 2 an instruction fetch, 3 an LR, 4 an SC or AMO that stores v. The
register space takes naturally aligned reads and writes of 4 and 8 bytes alone (R28). -/
def State.sized (s : State) (ag a n ty v : Nat) : State :=
  match ty with
  | 2 => s.fetch ag a
  | 3 => s.atomic ag a n none
  | 4 => s.atomic ag a n (some v)
  | _ =>
    if a % n ≠ 0 ∨ (a < 0x1000000 ∧ n < 4) then s.narrow ag a n ty
    else if a < 0x1000000 then
      if n = 4 then (if ty = 0 then s.read32 ag a else s.write32 ag a v)
      else s.slot ag a (if ty = 0 then none else some v) 0
    else if ty = 0 then s.memGet ag a n
    else s.memSlot ag a (leBytes n v)

/-! ### Mirrored orders -/

/-- One entry of an order (R478): a write by agent 15 of the bytes of an 8-byte word that a mask selects. -/
def State.mirrorAccess (s : State) (a mask v : Nat) : Nat × State :=
  if a < 0x1000000 then
    match Reg.ofAddr a with
    | none => (cDECODE, s)
    | some r =>
      let x := s.regWrite 15 r (BitVec.ofNat 48 v) 0
      (x.1, x.2.answer 15 a tyWrite x.1 0)
  else
    let l := (List.range 8).filter (fun i => bitOf mask i)
    let c := lowestCode (l.flatMap (fun i => s.byteRefuse 15 (a + i) true))
    let s := if c = cOK then s.each l (fun i s => s.setByte (a + i) (BitVec.ofNat 8 (v / 256 ^ i))) else s
    (c, s.answer 15 a tyWrite c 0)

/-! ### PCIe requests (R651, R652) -/

/-- The parts of a request of n bytes at a, each within one 8-byte word: address and length
(DESIGN CHOICE, log entry 95). -/
def partsOf : Nat → Nat → Nat → List (Nat × Nat)
  | 0, _, _ => []
  | fuel + 1, a, n =>
    if n = 0 then []
    else
      let k := min n (8 - a % 8)
      (a, k) :: partsOf fuel (a + k) (n - k)

/-- One part of a request: code, bytes read, the state after (DESIGN CHOICE, log entry 95). -/
def State.pciePart (s : State) (a n : Nat) (w : Option (List Byte)) : Nat × List Byte × State :=
  if a < 0x1000000 then
    let s := match w with
      | some b =>
        if n = 8 then s.slot 9 a (some (leNat b)) 0
        else if n = 4 && a % 4 == 0 then s.write32 9 a (leNat b)
        else s.narrow 9 a n 1
      | none =>
        if n = 8 then s.slot 9 a none 0
        else if n = 4 && a % 4 == 0 then s.read32 9 a
        else s.narrow 9 a n 0
    ((s.agent 9).code, leBytes n (s.agent 9).data, s)
  else
    match w with
    | some b => let s := s.memSlot 9 a b; ((s.agent 9).code, [], s)
    | none =>
      let s := s.memGet 9 a n
      ((s.agent 9).code, leBytes n (s.agent 9).data, s)

/-- A request through a BAR: every part made on its own, the lowest code reported (R651)
(DESIGN CHOICE, log entry 95). -/
def State.pcieAccess (s : State) (a : Nat) (len : Nat) (w : Option (List Byte)) : State :=
  let x := (partsOf (len + 1) a len).foldl (fun (x : List Nat × List Byte × State) p =>
    let y := x.2.2.pciePart p.1 p.2 (w.map (fun b => (b.drop (p.1 - a)).take p.2))
    (x.1 ++ [y.1], x.2.1 ++ y.2.1, y.2.2)) ([], [], s)
  let c := lowestCode (x.1.filter (fun c => c != cOK))
  x.2.2.setAgent 9 { x.2.2.agent 9 with code := c, data := if c = cOK then leNat x.2.1 else 0 }

/-- A request through BAR0, which maps 4 MiB of the register space, or through BAR2, which maps 32 MiB from 0x0100_0000 on (R36,
R651): an offset past the BAR reaches nothing. -/
def State.barAccess (s : State) (bar2 : Bool) (offset len : Nat) (w : Option (List Byte)) : State :=
  if !s.issues 9 || decide ((if bar2 then 0x2000000 else 0x400000) ≤ offset) then s
  else s.pcieAccess (if bar2 then 0x1000000 + offset else offset) len w

/-- A request of the PCIe host: 0 a read of len bytes and 1 a posted write of data through BAR0, 5 and 6 the same through BAR2, 2 and
3 masking and unmasking of MSI-X vector addr, 4 bus mastering enabled (DESIGN CHOICE, log entry 70). -/
def State.pcieRequest (s : State) (op addr len : Nat) (data : List Byte) : State :=
  match op with
  | 0 => s.barAccess false addr len none
  | 1 => s.barAccess false addr data.length (some data)
  | 2 => s.msixMask addr
  | 3 => s.msixUnmask addr
  | 4 => s.setFlag .hstPcieStat fHstPcieStat_BME true
  | 5 => s.barAccess true addr len none
  | 6 => s.barAccess true addr data.length (some data)
  | _ => s

/-! ### SPI transactions (R659 to R661) -/

/-- The accesses of a transaction, stopping at the first slot that fails: code, slots completed, data, the state after
(DEDUCED, log entry 98). -/
def State.spiSlots (s : State) (addr : Nat) (l : List (Option Nat)) : Nat × Nat × List Byte × State :=
  l.foldl (fun (x : Nat × Nat × List Byte × State) w =>
    if x.1 ≠ cOK then (x.1, x.2.1, x.2.2.1 ++ List.replicate 8 0#8, x.2.2.2)
    else
      let y := State.slotFor 10 x.2.2.2 (addr + 8 * x.2.1) w
      if y.1 = cOK then (cOK, x.2.1 + 1, x.2.2.1 ++ leBytes 8 y.2.1, y.2.2)
      else (y.1, x.2.1, x.2.2.1 ++ List.replicate 8 0#8, y.2.2)) (cOK, 0, [], s)

/-- SPI_STAT.XACTS counts a transaction. -/
def State.spiCount (s : State) : State := s.incWrap .hstSpiStat fHstSpiStat_XACTS

/-- What the target sent in its last transaction. -/
def State.spiSend (s : State) (b : List Byte) : State := { s with host := { s.host with spiOut := b } }

/-- A read of count slots from addr. -/
def State.spiRead (s : State) (count addr : Nat) : State :=
  if !s.issues 10 then s else
  let x := s.spiSlots addr (List.replicate count none)
  x.2.2.2.spiCount.spiSend (toBytes [0x80 + x.1, x.2.1] ++ x.2.2.1)

/-- A write of slots from addr. -/
def State.spiWrite (s : State) (addr : Nat) (data : List Nat) : State :=
  if !s.issues 10 then s else
  let x := s.spiSlots addr (data.map some)
  x.2.2.2.spiCount.spiSend (toBytes [0x80 + x.1, x.2.1])

/-- SPI_CS_N rises early: the complete write slots, or the accesses of a read, are performed (R661). -/
def State.spiAbort (s : State) (write : Bool) (count addr : Nat) (data : List Nat) : State :=
  if !s.issues 10 then s else
  let x := s.spiSlots addr (if write then data.map some else List.replicate count none)
  ((x.2.2.2.spiCount.incSat .hstSpiStat fHstSpiStat_CS_ABORT).raise 347).spiSend []

/-! ### The debug access register (R669) -/

/-- Update-DR of DBG_ACCESS with OP 1 or 2: the access of agent 16, its data on a completed read and its code
(DESIGN CHOICE, log entry 70; DEDUCED, log entry 98). -/
def State.debugAccess (s : State) (op addr : Nat) (v : Word48) : State :=
  if !s.issues 16 then s else
  let x := State.slotFor 16 s addr (if op = 2 then some v.toNat else none)
  { x.2.2 with host := { x.2.2.host with
      dbgCode := x.1
      dbgData := if op = 1 && x.1 == cOK then x.2.1 % 2 ^ 48 else x.2.2.host.dbgData } }

end Sys2Proof.Machine
end

