-- ==== Sys2Proof/Machine/Cycle.lean ====
section
/-! DEFINITION. The cycle boundary (R15, R505 to R508) and everything that takes place at it, and the pin SYNC_OUT
(R700). -/
namespace Sys2Proof.Machine

/-- True in a drive or a twin head whose boundaries follow another head's syncs (R508). -/
def State.tracks (s : State) : Bool :=
  !s.leads && (s.isDrive || (s.isHead && s.twin)) && s.istate != isLISTEN

/-- True when the boundary of the next cycle is due: placed by line time in a head that leads, by the syncs elsewhere
(DEDUCED, log entry 90). -/
def State.boundaryDue (s : State) : Bool :=
  s.bndNext != 0 && decide (s.bndNext ≤ s.now) && (s.leads || s.tracks)

/-- The cycle number, its boundary tick, and the next boundary (R504 to R508). -/
def State.nextCycle (s : State) : State :=
  let c := if s.leads && s.net.csFirst then 0 else (s.cycleN + 1) % 2 ^ 48
  let s := (s.setRegN .timCycle c).setReg .timCycT48 s.t48
  let s := { s with cycles := s.cycles + 1, bndAt := s.now }
  let s := if s.isHead then s.setNlt else s
  if s.tracks then s.driveBoundary else s.replace

/-- SYNC_OUT goes high at a boundary while the M192 runs (R700). -/
def State.syncOutRise (s : State) : State :=
  if s.synchronised then { s with time := { s.time with syncOut := some s.now } } else s

/-- True when SYNC_OUT has been high for 64 fabric ticks. -/
def State.syncOutEnds (s : State) : Bool :=
  match s.time.syncOut with
  | some t => decide (t + 64 ≤ s.now)
  | none => false

/-- SYNC_OUT returns low. -/
def State.syncOutFall (s : State) : State := { s with time := { s.time with syncOut := none } }

/-- SWAPPED of state word 10 after a swap (R242), and the mark of the current loop's first execution (R243). -/
def State.markSwapped (s : State) (n : Nat) (load : Bool) : State :=
  let w := s.stWord n 10
  let s := s.setJob n { s.job n with clSwap := !load }
  (s.setStWord n 10 (putBit w 0 (!load))).setFlag (.axsCsFlags n) fAxsCsFlags_SWAPPED (!load)

/-- A swap due at the boundary (R165 to R168, R227, R242): a live switch's may bring another pledge (R142). -/
def State.swapAt (s : State) (n : Nat) : State :=
  if s.swapDue n then
    let load := match (s.axis n).swap with
      | some q => q.stateLoad
      | none => false
    let r := s.performSwap n
    if r.1 then
      let s := (((r.2.fixParams n).markSwapped n load).showCost n).repledge n
      if load then s.stateLoaded n else s
    else r.2
  else s

/-- The FOC state words of a LOCAL axis that is not driven are zero, and its outputs are off (R240)
(DEDUCED, log entry 90). -/
def State.focIdle (s : State) (n : Nat) : State :=
  if s.kind n = kindLOCAL && !s.driven n then
    let s := match (s.blockList n).find? (fun b => b.type == 13) with
      | some b => s.clearMem (liveBank n + 0xC00 + 8 * b.st) 24
      | none => s
    s.each ((List.range 12).filter (fun g => s.sgOwner g == some n)) (fun g s => s.groupPins g)
  else s

/-- An axis at a boundary, after its swap: its reopening, its age, causes, reactions and command, and a Mirage trigger on a cause
newly latched; while its weir is closed in a running M192 its age goes on (R177, R178) (DEDUCED, log entry 77). -/
def State.axisCycle (s : State) (n : Nat) : State :=
  if s.axisMayReopen n then
    let s := s.axisReopen n
    if s.kind n = kindNONE then s else (s.ageUpdate n).showAge n
  else if !s.weirOpen n then
    if s.stage = stRUNNING && s.kind n != kindNONE then (s.ageUpdate n).showAge n else s
  else
    let s := if s.kind n = kindNONE then s else s.ageUpdate n
    let old := s.fld (.axsFltCause n) fAxsFltCause_CAUSE
    let s := ((s.cmdsDue n).axisBoundary n).showPending n
    let s := s.focIdle n
    let s := if s.kind n = kindNONE then s else s.showAge n
    if s.fld (.axsFltCause n) fAxsFltCause_CAUSE = old then s else s.mirFault n

/-- The commands to axis weirs of a twin head whose boundary has come: the channel A head's first (R481, R482). A command
that the axis's state refuses by now is dropped (DEDUCED, log entries 74 and 86). -/
def State.weirsDue (s : State) : State :=
  let due := s.twn.weirDue.filter (fun c => decide (cycleDiff c.1 s.cycleN ≤ 0))
  let s := { s with twn := { s.twn with weirDue := s.twn.weirDue.filter (fun c => !decide (cycleDiff c.1 s.cycleN ≤ 0)) } }
  (due.filter (fun c => !c.2.1) ++ due.filter (fun c => c.2.1)).foldl (fun (s : State) c =>
    let k := c.2.2.1
    let x := c.2.2.2.1
    if (s.weirRefuse 9 k x).isEmpty then
      let t := s.weirCmd k x c.2.2.2.2
      { t with twn := { t.twn with abdDue := s.twn.abdDue } }
    else s) s

/-- The Jets at a boundary: loads, takeovers, the scheduled swap, reopening, J, shedding and readmission (R131, R144, R147,
R212 to R218). -/
def State.jetsCycle (s : State) : State :=
  let was := s.fld .jetStat fJetStat_J
  let s := s.loadBoundary.fillVacated.settleJets.swapBoundary.jetsReopen
  let j := s.jetCount + s.heldPositions
  (s.showJ j).shedBoundary was j

/-- The rotation at its boundary (R216): a position that it fills raises J (R147). -/
def State.jetRotate (s : State) : State :=
  let was := s.fld .jetStat fJetStat_J
  let s := s.rotate
  let j := s.jetCount + s.heldPositions
  if j = was then s else (s.showJ j).shedBoundary was j

/-- The arbiters at a boundary: the service granted counts from zero, and Jet time's pointer is 0 (R122, R131). -/
def State.arbsCycle (s : State) : State :=
  let s := s.each (List.range 9) (fun u s => if (s.arb u).granted.isEmpty then s else s.setArb u { s.arb u with granted := [] })
  s.setFld (.shrUnitArb 0) fShrUnitArb_PTR 0

/-- Zone entries marked for this boundary have been taken (R627, R628). -/
def State.marksTaken (s : State) : State :=
  s.each (List.range 8) (fun z s => if (s.zone z).mark = 0 then s else s.setZone z { s.zone z with mark := 0 })

/-- Everything that takes place at a boundary after a switch of images has been looked at: an axis swaps, then is shed, then
evaluates its causes and command (R146, R175) with the feedback of the cycle just ended (R177), and the encoders sample for the cycle that
begins (DEDUCED, log entry 90). -/
def State.cycleRest (s : State) : State :=
  let s := s.syncSend.syncOutRise
  let s := s.coldBoundary.twinBoundary.netBoundary
  let s := { s with casSys := { s.casSys with done := false } }
  let s := s.weirsDue
  let s := s.jobsBoundary.arbsCycle
  let s := (s.each allAxes (fun n s => s.swapAt n)).jetsCycle
  let s := (s.each allAxes (fun n s => s.axisCycle n)).marksTaken
  s.sampleAll.contSupply.bootBoundary

/-- The boundary of the next cycle (R15). A switch in RESTART mode ends the run of this image at it (R111)
(DEDUCED, log entry 90). -/
def State.cycleBoundary (s : State) : State :=
  let s := s.nextCycle
  let t := s.imgBoundary
  if t.power.inReset then t else t.cycleRest

end Sys2Proof.Machine
end

