-- ==== Sys2Proof/Machine/UnitOps.lean ====
section
/-! DEFINITION. Operations that reach across units, as single commands need them. -/
namespace Sys2Proof.Machine

/-- f where a condition holds (DESIGN CHOICE, log entry 3). -/
def State.when (s : State) (can : State → Bool) (f : State → State) : State := if can s then f s else s

/-! ### Jets -/

/-- A Jet task ends (R197); a committed current-loop task is a sample point of Mirage (R533). -/
def State.jetTaskEnd (s : State) (j : Nat) (ecc : Bool) : State :=
  match (s.jet j).task with
  | none => s
  | some t =>
    let s := s.taskEnd j ecc
    if t.cl && !ecc then s.mirCurrent t.axis else s

/-- The refusal of R705 for axis n, where one is due. -/
def State.jetTimeRefusal (s : State) (n : Nat) : State :=
  match s.jetRefusalDue n with
  | some q => s.jetRefuse q
  | none => s

/-! ### Frames -/

/-- COLD_START frames that came over the head link (R468): a twin head in LISTEN compares the partner's SCHED_CRC
(DESIGN CHOICE, log entry 39; DEDUCED, log entries 42 and 94). -/
def State.coldHeard (s : State) : State :=
  match s.inFirst 6 with
  | none => s
  | some f =>
    let s := s.inTake f
    if s.twin && s.cs == csLISTEN && decide (64 ≤ f.port) then
      s.setFlag .netCsStat fNetCsStat_SCHED_MISMATCH (leAt f.body 2 4 != s.twn.schedCrc)
    else s

/-- The frame check of port p, with what an axis's record does beyond its feedback (R320, R313), and a partner's
COLD_START. -/
def State.frameChecked (s : State) (p : Nat) (rest : List Byte) (fcs ending : Nat) : State :=
  let s := s.frameCheck p rest fcs ending (fun n r s => s.recordStop n r)
  if s.isHead then s.coldHeard else s

/-- The granted frame of flow f starts, where its start has come. -/
def State.dynFrameSend (s : State) (f : Nat) : State :=
  match s.dynDue f with
  | some g => s.dynSend g
  | none => s

/-- An invalid code group at port p, and in a drive what it does to a repeat in progress (R406, R429)
(DESIGN CHOICE, log entry 36). -/
def State.codeError (s : State) (p kind : Nat) : State :=
  let s := s.invalidGroup p kind
  if s.isDrive && decide (kind < 2) then s.repeatError p else s

/-! ### Orders by several fields -/

/-- A write of SYS.WEIR[k].CMD, with the number of responses the unit still owes. -/
def State.weirOrder (s : State) (ag k c owed : Nat) : State :=
  s.slot ag (Reg.sysWeir k).addr (some (s.wordWith ag (.sysWeir k) fSysWeir_CMD c).toNat) owed

/-- A write of SYS.FLASH_CTL that orders an operation. -/
def State.flashOrder (s : State) (ag op slot addr : Nat) : State :=
  s.busWrite ag (Reg.sysFlashCtl).addr
    (wordPut (wordPut (wordPut 0 fSysFlashCtl_OP op) fSysFlashCtl_SLOT slot) fSysFlashCtl_ADDR addr)

/-- The shadow registers of a timer channel: PER_SH, CMP_SH, CMP2_SH. -/
def tcShadow (which n : Nat) : Reg := if which = 0 then .tcPerSh n else if which = 1 then .tcCmpSh n else .tcCmp2Sh n

/-! ### Arbiters -/

/-- A granted request that is not posted is outstanding until its agent is answered (R77, R150). -/
def State.outstanding (s : State) (q : ArbReq) : State :=
  if q.agent = 0 || q.posted then s else { s with outst := s.outst ++ [(q.agent, q.addr)] }

/-- True when requester r, agent ag, has a response buffer free: an agent holds at most 16 non-posted requests outstanding,
waiting or granted and not answered; an internal requester's are counted while they wait (R150) (DESIGN CHOICE, log entry 96). -/
def State.bufferFree (s : State) (r ag : Nat) : Bool :=
  let waiting := (([2, 3, 7] : List Nat).flatMap (fun u => (s.arb u).waiting.filter (fun q => q.r == r && q.agent == ag && !q.posted))).length
  decide (waiting + (s.outst.filter (fun p => p.1 == ag)).length < 16)

/-- The requester index of an agent at units 2, 3 and 7 is its number; internal units, which are no agents, have indexes 32 to 39
at units 2 and 3 (R119, R120). -/
def requesterOk (u r ag : Nat) : Bool :=
  if ag = 0 then (u == 2 || u == 3) && decide (32 ≤ r ∧ r ≤ 39) else decide (ag ≤ 16) && r == ag

/-- A request of an agent or an internal unit at the memory banks, the interconnect or the lock registers (R120, R122): one that is
not posted is held back while its requester has no response buffer free (R150) (DESIGN CHOICE, log entry 96). -/
def State.busRequest (s : State) (u r cost : Nat) (serverFree posted : Bool) (ag addr : Nat) : State :=
  if !requesterOk u r ag || (ag != 0 && !s.issues ag) || (!posted && !s.bufferFree r ag) then s
  else
    let q : ArbReq :=
      { r := r, arrival := s.waitNow u, tick := s.now, cost := cost, posted := posted, agent := ag, addr := addr }
    let s := (s.arbSettle u).arbAdd u q
    if s.arbIdleNot u q serverFree then s.arbRefuse u q cREFUSED else s

/-- A grant of unit u among everything that waits there, with what it starts in the unit (R127). The forwarding fabric and
the dispatch reads are granted by commands of their own (DESIGN CHOICE, log entry 96). -/
def State.unitGrant (s : State) (u : Nat) : State :=
  match u with
  | 0 => s.jetGrant
  | 1 =>
    let s := s.arbSettle 1
    if s.sptMayStart then s.sptGrant else s
  | 5 => if s.upDue then s.upSend else s
  | 6 =>
    let s := s.arbSettle 6
    match s.arbGrant 6 (s.arb 6).waiting with
    | some (q, s) => mirGrant q s
    | none => s
  | 2 | 3 | 7 =>
    let s := s.arbSettle u
    match s.arbGrant u (s.arb u).waiting with
    | some (q, s) => s.outstanding q
    | none => s
  | _ => s

/-- The first metered request of unit u at its age limit is refused with DEFERRED_LIMIT (R123), and opportunistic ones that their
tick left ungranted with REFUSED (R124) (DESIGN CHOICE, log entries 8 and 96). -/
def State.unitAged (s : State) (u : Nat) : State :=
  let s := if u = 1 || u = 2 || u = 3 || u = 6 || u = 7 then s.arbSettle u else s
  match s.arbAged u with
  | [] => s
  | q :: _ => s.unitRefuse u q cDEFERRED

/-! ### Feedback, heads, Mirage, Spout, watchdogs -/

/-- True when a rising edge of Z counts as an index event (R330). -/
def State.indexTaken (s : State) (c : Nat) : Bool :=
  s.encType c == 1 && !(s.flag (.encCfg c) fEncCfg_Z_GATE && !((s.enc c).a && (s.enc c).b))

/-- A head in RUN answers another head's COLD_START in the next 16 cycles (R470) (DEDUCED, log entry 94). -/
def State.blockCold (s : State) : State := { s with net := { s.net with csAnswer := 16 } }

/-- A tick at which channel c may sample, with the levels of its pins (R533). -/
def State.mirSampled (s : State) (c pins : Nat) : State :=
  let s := (s.setBalls pins).mirSettle c
  if s.mirSampleDue c then s.mirSample c else s

/-- REARM_HOLD ends (R543): the channel may enter PRE. -/
def State.mirHoldEnd (s : State) (c : Nat) : State :=
  match (s.mir c).holdTo with
  | none => s
  | some t =>
    if t ≤ s.now then (s.setMir c { s.mir c with holdTo := none }).when (fun s => s.mirMayPre c) (fun s => s.mirToPre c)
    else s

/-- Mirage releases the cross-instrument line whose drive has ended (R548); its interval is kept for the edges in it (R549). -/
def State.xtlRelease (s : State) : State := s.xtlShow

/-- The response to the access of task t's job (R566): a refusal of the interconnect, or the access made as agent 11. -/
def State.sptExtAnswer (s : State) (t : Nat) (deny : Bool) : State :=
  match (s.sptExtJob t).bind (fun j => j.ext) with
  | none => s
  | some e =>
    if deny then s.sptRespond t cDEFERRED 0
    else
      let s := if e.load then s.read32 11 e.addr else s.write32 11 e.addr e.data
      s.sptRespond t (s.agent 11).code (s.agent 11).data

/-- True when core k has not kicked its watchdog for PERIOD µs (R579). -/
def State.wdogDue (s : State) (k : Nat) : Bool :=
  let p := s.fld (.coreWdog k) fCoreWdog_PERIOD
  p != 0 && s.weirOpen (coreWeir k) && decide ((s.core k).wdogFrom + p * usTicks ≤ s.now)

/-- The watchdog of core k expires (R579) (DEDUCED, log entry 97). -/
def State.wdogExpire (s : State) (k : Nat) : State :=
  ((s.weirCycle (coreWeir k) 0).incSat (.coreStat k) fCoreStat_WDOG_CNT).raise 348

end Sys2Proof.Machine
end

