-- ==== Sys2Proof/Machine/Row.lean ====
section
/-! DEFINITION. The shape every command's meaning has: the fabric ticks since the command before it pass, and then it
takes its effect, or none where the event it reports cannot happen in this state. The queue of commands and the count of
ticks are the model's own: no effect touches them. -/
namespace Sys2Proof.Machine

/-- The outcome of a command. -/
abbrev Out := Host.Outcome State Fault Refusal

/-- A state with the queue and the tick count of another (DESIGN CHOICE, log entry 93). -/
def State.inTimeOf (s t : State) : State := { s with pending := t.pending, now := t.now }

/-- dt fabric ticks pass, then the command takes its effect (DESIGN CHOICE, log entries 1 and 93). -/
def State.row (s : State) (dt : Nat) (f : State → State) : Out := .next ((f (s.elapse dt)).inTimeOf (s.elapse dt))

/-- dt fabric ticks pass, then an event takes its effect where it can happen (DESIGN CHOICE, log entry 3). -/
def State.rowIf (s : State) (dt : Nat) (can : State → Bool) (f : State → State) : Out :=
  s.row dt (fun s => s.when can f)

end Sys2Proof.Machine
end

