-- ==== Sys2Proof/Machine/CmdAccess.lean ====
section
/-! DEFINITION. Commands that access registers and memories (01_architecture.md). -/
namespace Sys2Proof.Machine

/-- A write to a register that has no row of its own is judged by the access codes of its fields and takes effect
whole or not at all (R702). -/
def execRegisterWrite (dt ag addr : Nat) (v : Word48) (s : State) : Out := s.row dt (fun s => s.busWrite ag addr v)

/-- A 32-bit read of a slot's low word returns it and latches the slot's high word for that agent (R29). -/
def execLowWordRead (dt ag addr : Nat) (s : State) : Out := s.row dt (fun s => s.read32 ag addr)

/-- A 32-bit read of a high word returns the latched value and frees the latch, or returns the current high word when
no latch is held (R30). -/
def execHighWordRead (dt ag addr : Nat) (s : State) : Out := s.row dt (fun s => s.read32 ag (addr + 4))

/-- A 32-bit write of a low word is staged for the agent without changing the register, and replaces any staged word
of another slot (R31). -/
def execLowWordWrite (dt ag addr w : Nat) (s : State) : Out := s.row dt (fun s => s.write32 ag addr w)

/-- A 32-bit write of a high word combines with the staged or current low word and updates the slot atomically (R32).
-/
def execHighWordWrite (dt ag addr w : Nat) (s : State) : Out := s.row dt (fun s => s.write32 ag (addr + 4) w)

/-- An 8-bit or 16-bit access, or one that is not naturally aligned, returns ACCESS (R28); with a core's fetches, its LR, SC
and AMO, and its misaligned accesses (R575). -/
def execNarrowAccess (dt ag addr n ty v : Nat) (s : State) : Out := s.row dt (fun s => s.sized ag addr n ty v)

/-- A write to a Basin live bank from outside the control plane returns ACCESS (R37). -/
def execBasinLiveBankWrite (dt ag addr : Nat) (v : BitVec 64) (s : State) : Out :=
  s.row dt (fun s => s.slot ag addr (some v.toNat) 0)

end Sys2Proof.Machine
end

