-- ==== Sys2Proof/Machine/CmdAxes.lean ====
section
/-! DEFINITION. Commands of the axes and their banks (05_axes.md, 07_control_structures.md). -/
namespace Sys2Proof.Machine

/-- A write of AXS[n].STAGE.REQ = 1 requests a staged-bank swap, refused with STRUCT, LATE or NEED_CYCLE or set
PENDING (R161). -/
def execStageRequest (dt ag n : Nat) (v : Word48) (s : State) : Out :=
  s.row dt (fun s => s.busWrite ag (Reg.axsStage n).addr v)

/-- CANCEL at least 64 fabric ticks before the selected boundary clears PENDING with CANCELLED (R167). -/
def execStageCancel (dt ag n : Nat) (s : State) : Out :=
  s.row dt (fun s => s.order ag (.axsStage n) fAxsStage_CANCEL 1)

/-- A management write to an axis's staged bank stores the value, or returns LOCKED while PENDING or while a live
switch stages the axis, or ACCESS at offsets 0x500 to 0x7FF, and is mirrored in a twin head (R162). -/
def execStagedBankWrite (dt ag addr : Nat) (v : BitVec 64) (s : State) : Out :=
  s.row dt (fun s => s.slot ag addr (some v.toNat) 0)

/-- An ENABLE command, pending until the boundary, enables the axis when its four conditions hold (R172). -/
def execEnable (dt ag n : Nat) (s : State) : Out := s.row dt (fun s => s.order ag (.axsCmd n) fAxsCmd_CMD cmdENABLE)

/-- A DISABLE command takes the axis to READY, through a stop when MOVING (R171). -/
def execDisable (dt ag n : Nat) (s : State) : Out := s.row dt (fun s => s.order ag (.axsCmd n) fAxsCmd_CMD cmdDISABLE)

/-- A STOP command starts the STOP ramp of the axis (R299). -/
def execStop (dt ag n : Nat) (s : State) : Out := s.row dt (fun s => s.order ag (.axsCmd n) fAxsCmd_CMD cmdSTOP)

/-- A QUICK_STOP command starts the quick-stop ramp of the axis (R297). -/
def execQuickStop (dt ag n : Nat) (s : State) : Out := s.row dt (fun s => s.order ag (.axsCmd n) fAxsCmd_CMD cmdQUICK)

/-- A FAULT_RESET command clears the inactive latched causes and returns the axis to READY when none remain active
(R306). -/
def execFaultReset (dt ag n : Nat) (s : State) : Out :=
  s.row dt (fun s => s.order ag (.axsCmd n) fAxsCmd_CMD cmdRESET)

/-- AGE_STAT.CLR clears MAX_FB_AGE and STALE_CNT (R177). -/
def execAgeStatClr (dt ag n : Nat) (s : State) : Out :=
  s.row dt (fun s => s.order ag (.axsAgeStat n) fAxsAgeStat_CLR 1)

/-- CS_FOC_STAT.CLR clears VLIM_CNT (R237). -/
def execVlimCntClr (dt ag n : Nat) (s : State) : Out :=
  s.row dt (fun s => s.order ag (.axsCsFocStat n) fAxsCsFocStat_CLR 1)

end Sys2Proof.Machine
end

