-- ==== Sys2Proof/Machine/CmdBoot.lean ====
section
/-! DEFINITION. Commands of start-up, image switching and the flash (03_boot_image.md). -/
namespace Sys2Proof.Machine

/-- The header reads of both slots complete and the candidates are ordered (R86). -/
def execBootHeaders (dt : Nat) (s : State) : Out := s.rowIf dt (fun s => s.stage == stHEADERS) State.bootHeaders

/-- The chosen image has been read and its layout, CRCs, digest and signature are checked (R97). -/
def execImageReadComplete (dt : Nat) (reread : List Byte) (s : State) : Out :=
  s.rowIf dt (fun s => s.stage == stREAD) (fun s => s.imageRead reread)

/-- Unit configuration has loaded the RWL fields, memories, Basin banks and tags (R704) (PRESUMED, log entry 73). -/
def execUnitConfigurationComplete (dt : Nat) (loads : List Load) (bad logOk : Bool) (s : State) : Out :=
  s.rowIf dt (fun s => s.stage == stCONFIG) (fun s => s.unitConfig loads bad logOk)

/-- The start-up admission check completes with J taken from SYS.JET_RETIRED (R99). -/
def execStartupAdmissionComplete (dt : Nat) (s : State) : Out :=
  s.rowIf dt (fun s => s.stage == stADMISSION) State.startupAdmission

/-- The comparator, Oasis and memory self-tests complete, acting on each outcome, possibly to HALTED (R103). -/
def execSelfTestsComplete (dt sram : Nat) (jets cmps : List Nat) (zones : Nat) (s : State) : Out :=
  s.rowIf dt (fun s => s.stage == stSELFTEST) (fun s => s.selfTests sram jets cmps zones)

/-- A write of IMG_CTL.GO = 1 accepts a switch order and starts verification of the target slot (R109). -/
def execImageSwitchGo (dt ag : Nat) (v : Word48) (s : State) : Out :=
  s.row dt (fun s => s.busWrite ag (Reg.sysImgCtl).addr v)

/-- CANCEL before the deadline discards the staged contents and refuses the order with CANCELLED (R113). -/
def execImageSwitchCancel (dt ag : Nat) (s : State) : Out :=
  s.row dt (fun s => s.order ag .sysImgCtl fSysImgCtl_CANCEL 1)

/-- Verification of the target ends and the restart-type sections are compared (R109). -/
def execImageVerifyComplete (dt : Nat) (loads : List Load) (logOk : Bool) (s : State) : Out :=
  s.rowIf dt (fun s => s.imgState == imgVERIFYING) (fun s => s.imgVerified loads logOk)

/-- Staging of the live sections completes and the order becomes ARMED (R113). -/
def execImageStagingComplete (dt : Nat) (s : State) : Out :=
  s.rowIf dt (fun s => s.imgState == imgSTAGING) State.imgStaged

/-- 64 fabric ticks before cycle N an incomplete order is refused with LATE (R113). -/
def execImageSwitchDeadline (dt : Nat) (s : State) : Out := s.rowIf dt State.imgDeadline State.imgLate

/-- The twin partner's arming of the same DIGEST for the same N arrives over the head link (R115). -/
def execPartnerArmed (dt n digest : Nat) (s : State) : Out := s.row dt (fun s => s.partnerArmed n digest)

/-- OP = READ reads 256 bytes of a slot into the flash buffer (R117). -/
def execFlashRead (dt ag slot addr : Nat) (s : State) : Out := s.row dt (fun s => s.flashOrder ag 1 slot addr)

/-- OP = PROGRAM writes the buffer to a 256-byte page of a slot (R117). -/
def execFlashProgram (dt ag slot addr : Nat) (s : State) : Out := s.row dt (fun s => s.flashOrder ag 2 slot addr)

/-- OP = ERASE erases a 64 KiB sector of a slot (R117). -/
def execFlashErase (dt ag slot addr : Nat) (s : State) : Out := s.row dt (fun s => s.flashOrder ag 3 slot addr)

/-- Status polling finds the device no longer busy and BUSY clears, ERR reporting a failure (R117). -/
def execFlashOpComplete (dt : Nat) (err : Bool) (s : State) : Out :=
  s.rowIf dt (fun s => s.flag .sysFlashCtl fSysFlashCtl_BUSY) (fun s => s.flashDone err)

/-- A write to SYS.FLASH_BUF stores image bytes, or returns BUSY during an operation (R118). -/
def execFlashBufWrite (dt ag i : Nat) (v : Word48) (s : State) : Out :=
  s.row dt (fun s => s.busWrite ag (Reg.sysFlashBuf i).addr v)

end Sys2Proof.Machine
end

