-- ==== Sys2Proof/Machine/CmdCycle.lean ====
section
/-! DEFINITION. Commands of the cycle: boundaries, output instants, command frames, the Cascade pass (01_architecture.md, 08_profiles_cams.md, 13_psiend_cycle.md). -/
namespace Sys2Proof.Machine

/-- The cycle boundary and input instant of a cycle arrive, placed under R505 in a leading head, and every boundary
action takes place (R15). -/
def execCycleBoundary (dt : Nat) (s : State) : Out := s.rowIf dt State.boundaryDue State.cycleBoundary

/-- SYNC_OUT returns low 64 fabric ticks after the boundary (R700). -/
def execSyncOutPulseEnd (dt : Nat) (s : State) : Out := s.rowIf dt State.syncOutEnds State.syncOutFall

/-- At OI a node applies latched commands or repeats the previous command and increments its command age (R47). -/
def execOutputInstant (dt : Nat) (s : State) : Out := s.rowIf dt State.oiDue State.outputInstant

/-- A drive receives a command frame and selects the channel whose commands it applies (R49). -/
def execCommandFrameReceived (dt : Nat) (s : State) : Out := s.row dt State.cmdReceived

/-- At CAS_START Cascade begins the pass that computes every axis's setpoints for the next cycle (R244). -/
def execCascadePass (dt : Nat) (s : State) : Out := s.rowIf dt State.passDue State.cascadePass

/-- The last stage of the Cascade pass ends (R245). -/
def execCascadePassEnd (dt : Nat) (s : State) : Out :=
  s.rowIf dt (fun s => s.casSys.from_.isSome) (fun s => s.passEnd.makeDigests)

end Sys2Proof.Machine
end

