-- ==== Sys2Proof/Machine/CmdFeedback.lean ====
section
/-! DEFINITION. Commands of encoders, Hall sensors, serial channels and latches (10_feedback.md). -/
namespace Sys2Proof.Machine

/-- An accepted A or B transition counts and is stamped, or records ILLEGAL (R329). -/
def execEncoderEdge (dt c : Nat) (a b : Bool) (s : State) : Out := s.row dt (fun s => s.encoderEdge c a b)

/-- A Hall code change counts ±1 or records ILLEGAL (R331). -/
def execHallCodeChange (dt c code : Nat) (s : State) : Out := s.row dt (fun s => s.hallChange c code)

/-- A rising edge of Z records IDX_REF or checks IDX_DEV (R330). -/
def execIndexEvent (dt c : Nat) (s : State) : Out :=
  s.rowIf dt (fun s => s.indexTaken c) (fun s => (s.indexEvent c).homeIndex c)

/-- An SSI or BISS channel drives its first clock edge SER_LEAD before II (R332). -/
def execSerialFrameStart (dt c : Nat) (datLow : Bool) (s : State) : Out :=
  s.rowIf dt (fun s => s.serialStartDue c) (fun s => s.serialStart c datLow)

/-- A serial frame completes, is checked and advances POS (R335). -/
def execSerialFrameComplete (dt c d : Nat) (s : State) : Out := s.row dt (fun s => s.serialComplete c d)

/-- No start bit or idle within SER_TMO records TIMEOUT (R334). -/
def execSerialTimeout (dt c : Nat) (s : State) : Out := s.row dt (fun s => s.serialTimeout c)

/-- No edge for T_SS makes the estimator report STANDSTILL and forget its edges (R343). -/
def execStandstillTimeout (dt c : Nat) (s : State) : Out := s.row dt (fun s => s.standstillTimeout c)

/-- FB_STAT.CHK_CLR = 1 ends the event-class feedback failures, or returns ACTIVE (R338). -/
def execChkClr (dt ag n : Nat) (s : State) : Out := s.row dt (fun s => s.order ag (.axsFbStat n) fAxsFbStat_CHK_CLR 1)

/-- ARM of a position latch arms it from the next tick, or returns LOCKED while homing holds it (R351). -/
def execLatchArm (dt ag c l : Nat) (s : State) : Out :=
  s.row dt (fun s => s.order ag (.encLatCtl c) (fEncLatCtl_ARM l) 1)

/-- DISARM of a position latch disarms it (R353). -/
def execLatchDisarm (dt ag c l : Nat) (s : State) : Out :=
  s.row dt (fun s => s.order ag (.encLatCtl c) (fEncLatCtl_DISARM l) 1)

/-- A source edge of an armed latch captures LAT_POS and LAT_TIME (R352). -/
def execLatchCapture (dt c l src : Nat) (rising : Bool) (s : State) : Out :=
  s.rowIf dt (fun s => s.latchMatches c l src rising) (fun s => (s.latchCapture c l src rising).homeLatched c l)

/-- ENC[c].ERR.CLR clears the channel's four error counters (R334). -/
def execEncErrClr (dt ag c : Nat) (s : State) : Out := s.row dt (fun s => s.order ag (.encErr c) fEncErr_CLR 1)

end Sys2Proof.Machine
end

