-- ==== Sys2Proof/Machine/CmdFrames.lean ====
section
/-! DEFINITION. Commands of frames on the PsiEnd links: reception, repeating, ranging, the dynamic segment, service, sync (12_psiend_links.md, 13_psiend_cycle.md). -/
namespace Sys2Proof.Machine

/-- The first symbol of a frame reaches a head port and the guardian admits it or counts it EARLY or LATE (R444). -/
def execFrameStart (dt p : Nat) (s : State) : Out := s.row dt (fun s => s.frameStart p)

/-- The 8 header code groups are checked for format, CYC8 and owner, and a failing frame releases no record (R416). -/
def execFrameHeader (dt p : Nat) (hdr : BitVec 64) (good : Bool) (s : State) : Out :=
  s.rowIf dt (fun s => s.headerDue p) (fun s => s.frameHeader p (leBytes 8 hdr.toNat) good)

/-- The FCS of a frame is matched in the tick of its last byte, and the frame commits or fails its check (R198). -/
def execFrameCheck (dt p : Nat) (rest : List Byte) (fcs ending : Nat) (s : State) : Out :=
  s.rowIf dt (fun s => s.checkDue p) (fun s => s.frameChecked p rest fcs ending)

/-- A guardian window closes, and recomputes are released for a node whose frame did not start (R200). -/
def execGuardianWindowClose (dt p kind k : Nat) (s : State) : Out :=
  s.rowIf dt (fun s => s.closeDue p kind k) (fun s => s.windowClose p kind k)

/-- A guardian window opens at start + APO − G_EARLY and the head port receiver, after a cut or an unadmitted start,
looks for SD whether or not idle has come (R446). -/
def execGuardianWindowOpen (dt p : Nat) (s : State) : Out := s.rowIf dt (fun s => s.openDue p) (fun s => s.rxLook p)

/-- A receiver that is ignoring code groups after a failed header or frame receives idle and looks for SD or SYN again
(R417). -/
def execIdleReceived (dt p : Nat) (s : State) : Out :=
  s.rowIf dt (fun s => (s.port p).rx.st == 3) (fun s => s.rxLook p)

/-- At WIN_START a forwarding entry sends its copy of the source frame, or counts MISS (R454). -/
def execForwardCopyStart (dt e : Nat) (s : State) : Out := s.rowIf dt (fun s => s.fwdDue e) (fun s => s.fwdStart e)

/-- A drive begins repeating a frame or sync between an uplink and a downstream port (R426). -/
def execRepeatStart (dt p : Nat) (sync : Bool) (res : Nat) (d : List Byte) (len : Nat) (s : State) : Out :=
  s.rowIf dt (fun s => s.repeatsFrom p res) (fun s => s.repeatStart p sync res d len)

/-- An upstream repeat still running 20 ns before the drive's own frame is ended with EE (R430). -/
def execRepeatCut (dt o : Nat) (s : State) : Out := s.rowIf dt (fun s => s.repeatOver o) (fun s => s.repeatCut o)

/-- An integrated drive starts its feedback frame on both uplinks at its nominal instant (R436). -/
def execFeedbackFrameSend (dt : Nat) (s : State) : Out :=
  s.rowIf dt State.fbDue (fun s => s.fbSend (fun n => s.limLevels n))

/-- A drive ends its own frame with EE when it would still run at the window close (R450). -/
def execOwnFrameEnd (dt p : Nat) (s : State) : Out := s.rowIf dt (fun s => s.ownRuns p) (fun s => s.ownEnd p)

/-- A node in RANGING sends a RANGE_REQ in cycles matching its chain position (R441). -/
def execRangeRequestSend (dt : Nat) (b : Bool) (s : State) : Out :=
  s.rowIf dt (fun s => s.rangeReqDue b) (fun s => s.rangeReqSend b)

/-- The head admits a RANGE_REQ in the ranging window (R441). -/
def execRangeRequestAdmit (dt p : Nat) (s : State) : Out := s.row dt (fun s => s.rangeAdmit p)

/-- The head sends the RANGE_RSP with RES at its fixed offset (R441). -/
def execRangeResponseSend (dt p : Nat) (s : State) : Out :=
  s.rowIf dt (fun s => s.rangeDue p) (fun s => s.rangeSend p)

/-- A node computes D from a RANGE_RSP and completes ranging on two agreeing results (R442). -/
def execRangeResponseReceived (dt sub : Nat) (s : State) : Out :=
  s.row dt (fun s => (s.rangeResponse sub).followerJoins)

/-- No RANGE_RSP within 32 cycles counts RANGE_FAIL and returns to LISTEN (R442). -/
def execRangingTimeout (dt : Nat) (b : Bool) (s : State) : Out :=
  s.rowIf dt (fun s => s.rangeTimedOut b) (fun s => s.rangeFail b)

/-- 8 consecutive cycles without a command frame end a drive's integration (R448). -/
def execCommandLoss (dt : Nat) (s : State) : Out := s.rowIf dt State.cmdLost State.toListen

/-- FLOW[f].TX.POST = 1 queues a dynamic frame, or returns BUSY, OFFLINE or ACCESS (R460). -/
def execFlowPost (dt ag f : Nat) (v : Word48) (s : State) : Out :=
  s.row dt (fun s => s.busWrite ag (Reg.flowTx f).addr v)

/-- A granted dynamic frame starts at allocation start + APO (R457). -/
def execDynamicFrameSend (dt f : Nat) (s : State) : Out := s.row dt (fun s => s.dynFrameSend f)

/-- A node sends one frame in its uplink allocation (R458). -/
def execUplinkFrameSend (dt : Nat) (s : State) : Out := s.rowIf dt State.upDue State.upSend

/-- An admitted dynamic frame of type 4 or 5 is stored in the receive ring, or dropped (R461). -/
def execDynamicFrameStore (dt : Nat) (s : State) : Out := s.row dt State.dynStore

/-- A SERVICE_REQ reaches the service engine, which holds it or answers BUSY (R464). -/
def execServiceRequest (dt : Nat) (s : State) : Out := s.row dt State.svcArrive

/-- The service engine completes a request and answers with CODE and data (R464). -/
def execServiceResponse (dt : Nat) (s : State) : Out := s.row dt (fun s => s.svcPerform (State.slotFor 14))

/-- A sync sequence is received, checked and used to place the node's cycle boundary (R410). -/
def execSyncReceived (dt p : Nat) (d : List Byte) (good : Bool) (sub : Nat) (s : State) : Out :=
  s.row dt (fun s => (s.syncReceived p d good sub).followerJoins)

/-- An expected sync does not arrive, and SYNC_LOSS consecutive misses end integration (R438). -/
def execSyncMissing (dt : Nat) (b : Bool) (s : State) : Out :=
  s.rowIf dt (fun s => s.syncOverdue b) (fun s => s.syncMissing b)

/-- NET.CNT_CLR clears the node, forwarding and RX_DROP counters (R447). -/
def execNetCntClr (dt ag : Nat) (s : State) : Out := s.row dt (fun s => s.order ag .netCntClr fNetCntClr_CLR 1)

end Sys2Proof.Machine
end

