-- ==== Sys2Proof/Machine/CmdJets.lean ====
section
/-! DEFINITION. Commands of Jet time, its tasks and the Jets (04_shared_resources.md, 06_jets.md). -/
namespace Sys2Proof.Machine

/-- A 16-byte feedback record completes at the head and releases the axis's cascade task to Jet time (R136). -/
def execFeedbackRecordComplete (dt p : Nat) (data : BitVec 128) (s : State) : Out :=
  s.rowIf dt (fun s => s.recordDue p) (fun s => s.recordComplete p (leBytes 16 data.toNat))

/-- A task not tied to a frame is released at the tick that the admission schedule assigns (R136). -/
def execScheduledTaskRelease (dt n : Nat) (s : State) : Out := s.row dt (fun s => s.scheduledRelease n)

/-- The Jet-time arbiter grants a released task to the lowest free service position and the task starts RUNNING
(R194). -/
def execJetGrant (dt : Nat) (s : State) : Out := s.row dt State.jetGrant

/-- A Jet task ends after its cost in jet-ticks and becomes COMMITTED, HELD or REPEATED (R197). -/
def execJetTaskEnd (dt j : Nat) (ecc : Bool) (s : State) : Out :=
  s.rowIf dt (fun s => s.taskEnds j) (fun s => s.jetTaskEnd j ecc)

/-- A metered Jet-time request is refused with DEFERRED_LIMIT at its earliest deadline and its task is REPEATED
(R705). -/
def execJetTimeRefusal (dt n : Nat) (s : State) : Out := s.row dt (fun s => s.jetTimeRefusal n)

/-- Packing of a node's command frame ends and the frame launches at the next symbol tick (R199). -/
def execCommandFrameLaunch (dt k : Nat) (s : State) : Out := s.rowIf dt (fun s => s.cmdDue k) (fun s => s.cmdLaunch k)

/-- A command frame that found its downlink busy starts 16 ns after the transmission in progress ends, counting
DL_WAIT (R452). -/
def execDelayedCommandLaunch (dt k : Nat) (s : State) : Out :=
  s.rowIf dt (fun s => s.cmdDelayDue k) (fun s => s.cmdDelayed k)

/-- A residue or parity check fails in a Jet, which leaves dispatch, REPEATs its axis and begins its self-test (R210).
-/
def execJetCheckFailure (dt j chk : Nat) (s : State) : Out := s.row dt (fun s => s.checkFailure j chk)

/-- A Jet's 960-tick self-test ends and the Jet is judged eligible or retired (R211). -/
def execJetSelfTestEnd (dt j : Nat) (pass : Bool) (s : State) : Out :=
  s.rowIf dt (fun s => s.testEnds j) (fun s => s.testEnd j pass)

/-- A write of JET.CTL.SWAP = 1 schedules a standby swap into SWAP_POS (R215). -/
def execJetSwap (dt ag : Nat) (s : State) : Out := s.row dt (fun s => s.order ag .jetCtl fJetCtl_SWAP 1)

/-- After each ROT_PERIOD, a standby is swapped into position (ROT_POS + 1) mod 16 at the first boundary (R216). -/
def execJetRotation (dt : Nat) (s : State) : Out := s.rowIf dt State.rotationDue State.jetRotate

/-- JET.CNT_CLR clears the Jet execution, arithmetic, turnaround and fault statistics and BUSY_MAX (R193). -/
def execJetCntClr (dt ag : Nat) (s : State) : Out := s.row dt (fun s => s.order ag .jetCntClr fJetCntClr_CLR 1)

end Sys2Proof.Machine
end

