-- ==== Sys2Proof/Machine/CmdLinks.lean ====
section
/-! DEFINITION. Commands of the link ports (12_psiend_links.md). -/
namespace Sys2Proof.Machine

/-- Signal detected for 10 µs takes the port to ACQUIRE (R401). -/
def execSignalDetected (dt p : Nat) (s : State) : Out := s.row dt (fun s => s.signalDetected p)

/-- Clock recovery and 8 aligned idle ordered sets take the port to ADAPT (R401). -/
def execLinkAcquired (dt p eq : Nat) (s : State) : Out :=
  s.rowIf dt (fun s => s.link p == lsACQUIRE) (fun s => s.linkAcquired p eq)

/-- 200 µs in ACQUIRE returns the port to DETECT (R401). -/
def execAcquireTimeout (dt p : Nat) (s : State) : Out :=
  s.rowIf dt (fun s => s.linkFor p lsACQUIRE 100000) (fun s => s.toDetect p 0)

/-- Adaptation and 4,096 error-free code groups take the port to UP (R401). -/
def execLinkUp (dt p eq : Nat) (s : State) : Out :=
  s.rowIf dt (fun s => s.adaptDone p) (fun s => s.linkUp p eq)

/-- 5 ms in ADAPT returns the port to DETECT and counts TRAIN_FAIL (R401). -/
def execAdaptTimeout (dt p : Nat) (s : State) : Out :=
  s.rowIf dt (fun s => s.linkFor p lsADAPT 2500000) (fun s => s.adaptTimeout p)

/-- Signal detect lost for 1 µs takes the link out of UP (R402). -/
def execSignalLost (dt p : Nat) (s : State) : Out := s.row dt (fun s => s.signalLost p)

/-- 16 invalid code groups or disparity errors within 256 take the link out of UP (R402). -/
def execCodeErrorLimit (dt p : Nat) (s : State) : Out :=
  s.rowIf dt (fun s => s.errLimitReached p) (fun s => s.toDetect p 2)

/-- PORT[p].CTL.RETRAIN = 1 returns the port to DETECT (R402). -/
def execRetrain (dt ag p : Nat) (s : State) : Out := s.row dt (fun s => s.order ag (.portCtl p) fPortCtl_RETRAIN 1)

/-- Writing TEST = 1 or 2 while the weir is CLOSED starts PRBS7 or loopback (R403). -/
def execPortTest (dt ag p mode : Nat) (s : State) : Out :=
  s.row dt (fun s => s.order ag (.portCtl p) fPortCtl_TEST mode)

/-- Writing TEST = 0 returns the port from TEST to DETECT (R401). -/
def execPortTestExit (dt ag p : Nat) (s : State) : Out := s.row dt (fun s => s.order ag (.portCtl p) fPortCtl_TEST 0)

/-- An invalid code group or disparity error is received and counted (R406) (DESIGN CHOICE, log entry 36). -/
def execInvalidCodeGroup (dt p kind : Nat) (s : State) : Out := s.row dt (fun s => s.codeError p kind)

/-- PORT[p].CNT_CLR clears the port's error and frame counters (R417). -/
def execPortCntClr (dt ag p : Nat) (s : State) : Out :=
  s.row dt (fun s => s.order ag (.portCntClr p) fPortCntClr_CLR 1)

end Sys2Proof.Machine
end

