-- ==== Sys2Proof/Machine/CmdMirage.lean ====
section
/-! DEFINITION. Commands of Mirage (16_mirage.md). -/
namespace Sys2Proof.Machine

/-- A Mirage channel samples its source at its rate and decides whether to store a record (R533). -/
def execMirageSample (dt c pins : Nat) (s : State) : Out := s.row dt (fun s => s.mirSampled c pins)

/-- When DT would exceed 2^32 − 1 an ABS record is stored (R537). -/
def execAbsRecord (dt c : Nat) (s : State) : Out :=
  s.row dt (fun s => (s.mirSettle c).when (fun s => s.mirAbsDue c) (fun s => s.mirAbs c))

/-- RING_CTL.STAGE = 1 stages LEN_NEW and sets STAGED (R540). -/
def execRingStage (dt ag c len : Nat) (s : State) : Out :=
  s.row dt (fun s => s.busWrite ag (Reg.mirRingCtl c).addr (wordPut (wordPut 0 fMirRingCtl_LEN_NEW len) fMirRingCtl_STAGE 1))

/-- CTL.ARM = 1 enters REARM or ROLL (R543). -/
def execMirageArm (dt ag c : Nat) (s : State) : Out := s.row dt (fun s => s.order ag (.mirCtl c) fMirCtl_ARM 1)

/-- CTL.DISARM = 1 enters IDLE (R543). -/
def execMirageDisarm (dt ag c : Nat) (s : State) : Out := s.row dt (fun s => s.order ag (.mirCtl c) fMirCtl_DISARM 1)

/-- CTL.FORCE_TRIG = 1 triggers the channel in the next tick (R546). -/
def execForceTrig (dt ag c : Nat) (s : State) : Out := s.row dt (fun s => s.order ag (.mirCtl c) fMirCtl_FORCE_TRIG 1)

/-- REARM_HOLD µs after an acquisition end, the channel may enter PRE (R543). -/
def execRearmHoldEnd (dt c : Nat) (s : State) : Out := s.row dt (fun s => (s.mirSettle c).mirHoldEnd c)

/-- Free space of at least ACQ_LEN takes a channel in REARM to PRE (R543). -/
def execPreEntry (dt c : Nat) (s : State) : Out :=
  s.row dt (fun s => (s.mirSettle c).when (fun s => s.mirMayPre c) (fun s => s.mirToPre c))

/-- A trigger reaches its act tick and acts by the channel's state (R547). -/
def execTriggerAct (dt c : Nat) (rise : Bool) (s : State) : Out :=
  s.row dt (fun s => (s.mirSettle c).when (fun s => s.mirEdge c rise) (fun s => s.mirEdgeAct c rise))

/-- POST_TMAX µs after the trigger the acquisition ends (R542). -/
def execPostTimeout (dt c : Nat) (s : State) : Out :=
  s.row dt (fun s => (s.mirSettle c).when (fun s => s.mirTimesOut c) (fun s => s.mirEnd c true false))

/-- After XTL_W µs Mirage releases the cross-instrument line (R548). -/
def execXtlRelease (dt c : Nat) (s : State) : Out := s.rowIf dt (fun s => s.xtlEnds c) (fun s => s.xtlRelease)

/-- In ROLL with UPL = 2 a block of records is uploaded when 512 are unread or 1 ms passes (R553). -/
def execStreamUpload (dt c : Nat) (s : State) : Out :=
  s.row dt (fun s => (s.mirSettle c).when (fun s => s.mirStreamDue c) (fun s => s.mirStream c))

/-- An upload transfer completes and RD advances (R553). -/
def execUploadComplete (dt c : Nat) (s : State) : Out := s.row dt (fun s => s.mirUploaded c)

/-- CTL.CNT_CLR clears CNT0, CNT1 and DEAD (R538). -/
def execMirageCntClr (dt ag c : Nat) (s : State) : Out := s.row dt (fun s => s.order ag (.mirCtl c) fMirCtl_CNT_CLR 1)

/-- A write to MASK[m].CFG or its table returns LOCKED while a selecting channel is active (R551). -/
def execMaskCfgWrite (dt ag m : Nat) (v : Word48) (s : State) : Out :=
  s.row dt (fun s => s.busWrite ag (Reg.mirMaskCfg m).addr v)

end Sys2Proof.Machine
end

