-- ==== Sys2Proof/Machine/CmdMoves.lean ====
section
/-! DEFINITION. Commands of moves, following, cams and line masters (08_profiles_cams.md). -/
namespace Sys2Proof.Machine

/-- MV_CTL.PUSH = 1 copies the push values into a new move entry, or refuses with BUSY or PUSH_RES (R265). -/
def execMovePush (dt ag n : Nat) (s : State) : Out := s.row dt (fun s => s.order ag (.axsMvCtl n) fAxsMvCtl_PUSH 1)

/-- MV_CTL.FLUSH = 1 removes the queued entries in its pass and leaves the active move running (R269). -/
def execMoveFlush (dt ag n : Nat) (s : State) : Out := s.row dt (fun s => s.order ag (.axsMvCtl n) fAxsMvCtl_FLUSH 1)

/-- CHG_CTL.APPLY = 1 orders new limits for the active move (R270). -/
def execChangeApply (dt ag n : Nat) (s : State) : Out :=
  s.row dt (fun s => s.order ag (.axsChgCtl n) fAxsChgCtl_APPLY 1)

/-- FOL_CTL.OP = ENGAGE engages gearing or a cam, at once or on crossing FOL_POS (R279). -/
def execEngage (dt ag n : Nat) (s : State) : Out := s.row dt (fun s => s.order ag (.axsFolCtl n) fAxsFolCtl_OP 1)

/-- FOL_CTL.OP = DISENGAGE ends the following and starts a VEL move to 0 (R279). -/
def execDisengage (dt ag n : Nat) (s : State) : Out := s.row dt (fun s => s.order ag (.axsFolCtl n) fAxsFolCtl_OP 2)

/-- FOL_CTL.OP = SWITCH arms a cam-table switch at X, or refuses with SW_MISMATCH (R289). -/
def execCamSwitch (dt ag n : Nat) (s : State) : Out := s.row dt (fun s => s.order ag (.axsFolCtl n) fAxsFolCtl_OP 3)

/-- FOL_CTL.CANCEL = 1 disarms an armed engagement or switch (R289). -/
def execFollowCancel (dt ag n : Nat) (s : State) : Out :=
  s.row dt (fun s => s.order ag (.axsFolCtl n) fAxsFolCtl_CANCEL 1)

/-- CAS.GRP_CTL.GO = 1 starts the GSTART head entries of group g together (R275). -/
def execGroupGo (dt ag g : Nat) (s : State) : Out :=
  s.row dt (fun s => s.busWrite ag (Reg.casGrpCtl).addr (wordPut (s.wordWith ag .casGrpCtl fCasGrpCtl_GO 1) fCasGrpCtl_GROUP g))

/-- A write to CAS.CAM[t] starts the table check, or returns LOCKED for a table in use (R284). -/
def execCamDescriptorWrite (dt ag t : Nat) (v : Word48) (s : State) : Out :=
  s.row dt (fun s => s.busWrite ag (Reg.casCam t).addr v)

/-- The cam table check ends, setting VALID or ERR (R284). -/
def execCamCheckComplete (dt t : Nat) (s : State) : Out :=
  s.rowIf dt (fun s => s.flag (.casCam t) fCasCam_BUSY) (fun s => s.camChecked t)

/-- A write to the cam store is refused with LOCKED when it touches a table in use (R285). -/
def execCamStoreWrite (dt ag addr : Nat) (v : BitVec 64) (s : State) : Out :=
  s.row dt (fun s => s.slot ag addr (some v.toNat) 0)

/-- O_CTL PUSH places a line-master order, or refuses it with LATE, ORDER, FULL, RANGE or DISCONT (R294). -/
def execLineMasterPush (dt ag l : Nat) (s : State) : Out := s.row dt (fun s => s.order ag (.lmOCtl l) fLmOCtl_CMD 1)

/-- PUSH with REANCHOR accepts an order whose anchor differs, stepping the value at t_s (R295). -/
def execLineMasterReanchor (dt ag l : Nat) (s : State) : Out :=
  s.row dt (fun s => s.order ag (.lmOCtl l) fLmOCtl_CMD 3)

/-- O_CTL CLEAR removes the pending line-master orders (R294). -/
def execLineMasterClear (dt ag l : Nat) (s : State) : Out := s.row dt (fun s => s.order ag (.lmOCtl l) fLmOCtl_CMD 4)

/-- A write of PR_NS starts the evaluation of M and V at the given line time (R295). -/
def execLineMasterPredict (dt ag l : Nat) (v : Word48) (s : State) : Out :=
  s.row dt (fun s => s.busWrite ag (Reg.lmPrNs l).addr v)

/-- The prediction results appear in PR_P, PR_PF and PR_V with DONE set (R295). -/
def execPredictionDone (dt l : Nat) (s : State) : Out :=
  s.rowIf dt (fun s => (s.lm l).pred.isSome) (fun s => s.lmPredicted l)

end Sys2Proof.Machine
end

