-- ==== Sys2Proof/Machine/CmdOasis.lean ====
section
/-! DEFINITION. Commands of Oasis (19_oasis_safety.md). -/
namespace Sys2Proof.Machine

/-- Every 100 µs Oasis evaluates its inputs, outputs, connections and zones in both channels (R609). -/
def execSafetyTick (dt si rb edm srst : Nat) (mis : Bool) (s : State) : Out :=
  s.rowIf dt State.safetyDue (fun s => s.safetyTick si rb edm srst mis)

/-- The discrepancy counter reaching N raises DISCREPANCY in the zone (R616). -/
def execDiscrepancyFault (dt i : Nat) (s : State) : Out := s.rowIf dt (fun s => s.discDue i) (fun s => s.discFault i)

/-- SS1_T ms after entry into SS1 the zone enters STO (R626). -/
def execSs1Timeout (dt z : Nat) (s : State) : Out := s.rowIf dt (fun s => s.ss1Due z) (fun s => s.ss1End z)

/-- An on output's switch is pulsed off and read back, failing with SO_TEST (R621). -/
def execTestPulse (dt o : Nat) (high pass : Bool) (s : State) : Out :=
  s.rowIf dt (fun s => s.pulseDue o high) (fun s => s.testPulse o high pass)

/-- An EDM input not at its expected level within EDM_T raises EDM (R623). -/
def execEdmTimeout (dt o : Nat) (s : State) : Out := s.rowIf dt (fun s => s.edmDue o) (fun s => s.edmFault o)

/-- An SLS demand persisting SLS_DLY makes the zone's SLS active (R630). -/
def execSlsDelayEnd (dt z : Nat) (s : State) : Out := s.rowIf dt (fun s => s.slsDue z) (fun s => s.slsStart z)

/-- An SLS window ends and its count above LIM raises SLS (R631). -/
def execSlsWindowEnd (dt c : Nat) (s : State) : Out := s.rowIf dt (fun s => s.slsWindowDue c) (fun s => s.slsWindow c)

/-- A valid rising edge of the SRST pair is recognised (R634). -/
def execSrstEdge (dt : Nat) (s : State) : Out := s.rowIf dt (fun s => s.oas.edge) State.srstEdge

/-- SRST channels held at 1 for 5 s or disagreeing for 1 s become STUCK (R634). -/
def execSrstStuck (dt : Nat) (s : State) : Out := s.rowIf dt State.srstSticks State.srstStuck

/-- An Oasis rail outside ±8 % for 2 µs forces outputs off and raises RAIL (R612). -/
def execOasisRailFault (dt : Nat) (out : Bool) (s : State) : Out := s.row dt (fun s => s.oasRail out)

/-- A safety container is judged fresh or counted as an error (R638). -/
def execContainerReceived (dt : Nat) (s : State) : Out := s.row dt State.contReceived

/-- WD_T without a fresh container makes the connection FAILED (R639). -/
def execConnectionWatchdog (dt c : Nat) (s : State) : Out :=
  s.rowIf dt (fun s => s.watchdogDue c) (fun s => s.watchdog c)

/-- A write of OAS.ZONE[z].CTL sets or withdraws the software STO, SS1 or SLS demand (R635). -/
def execZoneRequest (dt ag z : Nat) (v : Word48) (s : State) : Out :=
  s.row dt (fun s => s.busWrite ag (Reg.zoneCtl z).addr v)

/-- PWD_CTL.PRESENT = 1 checks the password, setting PWD_OK or counting FAILS (R645). -/
def execPasswordPresent (dt ag : Nat) (v : Word48) (s : State) : Out :=
  s.row dt (fun s => s.busWrite ag (Reg.oasPwdCtl).addr v)

/-- PWD_CTL.CLEAR = 1 ends PWD_OK (R645). -/
def execPasswordClear (dt ag : Nat) (s : State) : Out := s.row dt (fun s => s.order ag .oasPwdCtl fOasPwdCtl_CLEAR 1)

/-- PWD_OK ends 600 s after a match (R645). -/
def execPasswordExpiry (dt : Nat) (s : State) : Out := s.rowIf dt State.pwdExpires (fun s => s.setPwdOk false)

/-- 60 s after the third mismatch, PRESENT is accepted again (R645). -/
def execPresentLockEnd (dt : Nat) (s : State) : Out := s.rowIf dt State.lockEnds State.lockEnd

/-- SLS[c].STAT.CLR clears PEAK_PM (R631). -/
def execSlsPeakClr (dt ag c : Nat) (s : State) : Out := s.row dt (fun s => s.order ag (.slsStat c) fSlsStat_CLR 1)

end Sys2Proof.Machine
end

