-- ==== Sys2Proof/Machine/CmdPorts.lean ====
section
/-! DEFINITION. Commands of the host and management ports (20_host_ports.md, R701). -/
namespace Sys2Proof.Machine

/-- A PCIe request through BAR0 or BAR2 is an access by agent 9, refused with Completer Abort (R651)
(DESIGN CHOICE, log entry 70). -/
def execPcieRequest (dt op addr len : Nat) (data : List Byte) (s : State) : Out :=
  s.rowIf dt State.pcieLive (fun s => s.pcieRequest op addr len data)

/-- A hot reset, link-down or loss of bus mastering resets the endpoint and the DMA channels (R653)
(DESIGN CHOICE, log entry 100). -/
def execPcieLinkReset (dt kind : Nat) (s : State) : Out :=
  s.rowIf dt State.pcieLive (fun s => s.pcieReset (kind == 2))

/-- PERST_N low holds the endpoint and DMA in reset until 1 ms after it rises (R701). -/
def execPerst (dt : Nat) (level : Bool) (s : State) : Out := s.row dt (fun s => s.perstPin level)

/-- 1 ms after PERST_N rises, the PCIe endpoint and the DMA channels leave reset (R701). -/
def execPerstRelease (dt : Nat) (s : State) : Out := s.rowIf dt State.perstEnds State.perstEnd

/-- The PCIe link finishes training with the host and PCIE_STAT reports its speed and width (R650). -/
def execPcieLinkUp (dt speed width : Nat) (s : State) : Out :=
  s.rowIf dt State.pcieMayUp (fun s => s.pcieUp speed width)

/-- A core's write of HST.DMA[c].POST queues a copy, or returns ACCESS, BUSY or OFFLINE (R657). -/
def execDmaPost (dt ag c : Nat) (v : Word48) (s : State) : Out :=
  s.row dt (fun s => s.busWrite ag (Reg.dmaPost c).addr v)

/-- A write of CTL.EN starts or stops the channel, resetting NEXT on 0 to 1 (R655). -/
def execDmaEnable (dt ag c : Nat) (v : Word48) (s : State) : Out :=
  s.row dt (fun s => s.busWrite ag (Reg.dmaCtl c).addr v)

/-- A channel takes the next transfer and fills lent buffers in turn (R656). -/
def execDmaTransferStart (dt c : Nat) (own : Bool) (s : State) : Out :=
  s.rowIf dt (fun s => s.dmaReady c) (fun s => s.dmaStart c own)

/-- A filled buffer is returned with OWN = 0, USED and END (R655). -/
def execDmaBufferReturn (dt c addr len : Nat) (irq own : Bool) (s : State) : Out :=
  s.rowIf dt (fun s => (s.dmaH c).current.isSome && !(s.dmaH c).starved) (fun s => s.dmaReturn c addr len irq own)

/-- The host lends a DMA buffer by writing OWN = 1, and a channel waiting on that descriptor resumes its transfer
(R656). -/
def execBufferLent (dt c : Nat) (s : State) : Out :=
  s.rowIf dt (fun s => (s.dmaH c).starved) (fun s => s.setDmaH c { s.dmaH c with starved := false })

/-- SPI command 0x0B reads COUNT register slots as agent 10 (R659). -/
def execSpiRead (dt count addr : Nat) (s : State) : Out := s.row dt (fun s => s.spiRead count addr)

/-- SPI command 0x6B reads slots on four lines (R659). -/
def execSpiQread (dt count addr : Nat) (s : State) : Out := s.row dt (fun s => s.spiRead count addr)

/-- SPI command 0x02 writes COUNT register slots as agent 10 (R659). -/
def execSpiWrite (dt addr : Nat) (data : List Nat) (s : State) : Out := s.row dt (fun s => s.spiWrite addr data)

/-- SPI command 0x32 writes slots on four lines (R659). -/
def execSpiQwrite (dt addr : Nat) (data : List Nat) (s : State) : Out := s.row dt (fun s => s.spiWrite addr data)

/-- Any other SPI command byte is ignored until SPI_CS_N rises (R659). -/
def execSpiUnknownCommand (dt : Nat) (s : State) : Out := s.row dt State.spiCount

/-- SPI_CS_N rising early performs the complete write slots and counts CS_ABORT (R661). -/
def execSpiCsAbort (dt : Nat) (write : Bool) (count addr : Nat) (data : List Nat) (s : State) : Out :=
  s.row dt (fun s => s.spiAbort write count addr data)

/-- SPI_IRQ.VLOG_CLR = 1 clears PEND.VLOG (R662). -/
def execSpiVlogClr (dt ag : Nat) (s : State) : Out := s.row dt (fun s => s.order ag .hstSpiIrq fHstSpiIrq_VLOG_CLR 1)

/-- An Ethernet frame is filtered, stamped and stored in the receive ring, or dropped (R664). -/
def execEthFrameReceived (dt p ago : Nat) (data : List Byte) (s : State) : Out :=
  s.rowIf dt (fun s => s.flag (.ethStat p) fEthStat_LINK) (fun s => s.ethReceived p ago data)

/-- A core's write of TX_POST queues a frame for transmission (R666). -/
def execEthTxPost (dt ag p : Nat) (v : Word48) (s : State) : Out :=
  s.row dt (fun s => s.busWrite ag (Reg.ethTxPost p).addr v)

/-- A posted frame is transmitted with its FCS (R666). -/
def execEthFrameSent (dt p ago : Nat) (s : State) : Out :=
  s.rowIf dt (fun s => s.ethMaySend p) (fun s => s.ethSent p ago)

/-- An Ethernet link comes up or goes down (R663); in RECOVERY and HALTED the transmitters stay idle, and none comes up (R100, R105). -/
def execEthLinkChange (dt p : Nat) (up : Bool) (s : State) : Out := s.row dt (fun s => s.ethLink p (up && !s.stopped))

/-- HST.ETH[p].STAT.CLR clears the port's counters (R664). -/
def execEthCntClr (dt ag p : Nat) (s : State) : Out := s.row dt (fun s => s.order ag (.ethStat p) fEthStat_CLR 1)

/-- JTAG instruction that selects the IDCODE register (R667). -/
def execIdcode (dt : Nat) (s : State) : Out := s.row dt (fun s => s.tapTake 0x01)

/-- JTAG instruction that samples and preloads the boundary scan (R667). -/
def execSamplePreload (dt pattern : Nat) (s : State) : Out := s.row dt (fun s => s.tapPreload pattern)

/-- JTAG instruction that drives the boundary, only in RECOVERY or HALTED (R668). -/
def execExtest (dt : Nat) (s : State) : Out := s.row dt (fun s => s.tapPins 0x03 1)

/-- JTAG 1149.6 pulse test of the AC-coupled lanes, only in RECOVERY or HALTED (R668). -/
def execExtestPulse (dt : Nat) (s : State) : Out := s.row dt (fun s => s.tapPins 0x04 1)

/-- JTAG 1149.6 train test of the AC-coupled lanes, only in RECOVERY or HALTED (R668). -/
def execExtestTrain (dt : Nat) (s : State) : Out := s.row dt (fun s => s.tapPins 0x05 1)

/-- JTAG instruction that clamps the outputs, only in RECOVERY or HALTED (R668). -/
def execClamp (dt : Nat) (s : State) : Out := s.row dt (fun s => s.tapPins 0x06 1)

/-- JTAG instruction that releases the outputs, only in RECOVERY or HALTED (R668). -/
def execHighz (dt : Nat) (s : State) : Out := s.row dt (fun s => s.tapPins 0x07 2)

/-- JTAG instruction that selects the 88-bit debug access register (R669). -/
def execDbgAccess (dt : Nat) (s : State) : Out := s.row dt (fun s => s.tapTake 0x10)

/-- Update-DR with OP not 0 performs a slot access by agent 16 (R669). -/
def execDebugSlotAccess (dt op addr : Nat) (v : Word48) (s : State) : Out :=
  s.rowIf dt (fun s => s.host.tapInstr == 0x10 && (op == 1 || op == 2)) (fun s => s.debugAccess op addr v)

/-- JTAG instruction that programs KEY_HASH into the fuses in RECOVERY (R670). -/
def execFuseProg (dt hash back : Nat) (s : State) : Out := s.row dt (fun s => s.fuseProg hash back)

/-- JTAG instruction that selects the bypass register (R667). -/
def execBypass (dt : Nat) (s : State) : Out := s.row dt (fun s => s.tapTake 0x3F)

/-- TRST_N resets the TAP asynchronously (R695). -/
def execTapReset (dt : Nat) (s : State) : Out := s.row dt State.tapReset

end Sys2Proof.Machine
end

