-- ==== Sys2Proof/Machine/CmdPower.lean ====
section
/-! DEFINITION. Commands of the clocks, the power sequencer, resets and temperature (02_clocks_power_weirs.md, 21_electrical_package.md). -/
namespace Sys2Proof.Machine

/-- The root PLL locks and units other than the always-on domain and Oasis leave reset (R55). -/
def execPllLock (dt : Nat) (s : State) : Out := s.rowIf dt State.pllMayLock State.pllLock

/-- A loss of lock forces the HB pins off, idles the transmitters and leads to a clock-fault chip reset (R57)
(DESIGN CHOICE, log entry 99). -/
def execPllLossOfLock (dt : Nat) (ref : Bool) (s : State) : Out :=
  s.rowIf dt (fun s => s.flag .sysClkStat fSysClkStat_LOCK) (fun s => s.clockFault.setFlag .sysClkStat fSysClkStat_REF_OK ref)

/-- An Oasis RC window of 1,024 periods ends and the fabric tick count is checked (R56). -/
def execClockWindowEnd (dt count : Nat) (s : State) : Out := s.row dt (fun s => s.clockWindow count)

/-- VDD_AON or VDDIO_AON falls below its fault threshold and the whole M192 is held in reset (R59). -/
def execPowerOnReset (dt : Nat) (s : State) : Out := s.row dt State.powerOn

/-- The sequencer starts once both always-on rails have been in their windows for 1 ms (R59). -/
def execSequencerStart (dt inside : Nat) (s : State) : Out := s.rowIf dt (fun s => s.seqMayStart inside) State.seqStart

/-- The next PWR_EN is asserted 500 µs after the previous step's PG and monitor are good (R60). -/
def execSequencerStep (dt good : Nat) (s : State) : Out := s.rowIf dt (fun s => s.seqMayStep good) State.seqStep

/-- A PG input that does not rise within 10 ms of its enable starts the reverse power-down towards FAULT_STOP (R61).
-/
def execPgTimeout (dt : Nat) (s : State) : Out := s.rowIf dt State.pgTimesOut State.pgTimeout

/-- The next enable is deasserted 1 ms after the previous one during a power-down (R61). -/
def execPowerDownStep (dt : Nat) (s : State) : Out := s.rowIf dt State.downDue State.downStep

/-- Every 10 µs each indexed rail is measured, and WARN is set beyond ±4 % (R62). -/
def execRailMeasurement (dt k mv pg : Nat) (s : State) : Out := s.row dt (fun s => s.railMeasure k mv pg)

/-- A ±8 % excursion reported for 2 µs forces HB pins off and starts a rail-fault chip reset with the rails cycled
(R63). -/
def execRailFault (dt k : Nat) (s : State) : Out := s.rowIf dt (fun s => s.railLive k) (fun s => s.railFault k)

/-- After the 100 ms pause of a rail fault, the stepped rails are sequenced up again (R63). -/
def execFaultWaitEnd (dt : Nat) (s : State) : Out := s.rowIf dt State.waitEnds State.waitEnd

/-- Once per configured period the PMBus master polls each regulator (R65). -/
def execPmbusPoll (dt : Nat) (s : State) : Out := s.rowIf dt State.pollDue State.poll

/-- A poll reply is stored unchanged in SYS.PMB_VAL, or ERR is set (R66). -/
def execPmbusReply (dt n c data pec : Nat) (ack : Bool) (s : State) : Out :=
  s.rowIf dt (fun s => s.power.pmbOut.contains (n, c)) (fun s => s.pollReply n c data pec ack)

/-- PMB_ALERT_N going low raises a Sluice event flag (R66). -/
def execPmbAlert (dt : Nat) (s : State) : Out := s.row dt (fun s => s.raise 339)

/-- A low pulse on RESET_N of 1 µs or more causes a pin chip reset (R69). -/
def execResetNLow (dt low : Nat) (still : Bool) (s : State) : Out := s.row dt (fun s => s.resetPin low still)

/-- Reset is released and the boot begins with the flash resets and the header reads (R86). -/
def execResetRelease (dt : Nat) (s : State) : Out := s.rowIf dt State.mayRelease State.release

/-- A write of SYS.RST_CTL with CHIP = 1 and KEY = 0xC1EA schedules a software chip reset (R70). -/
def execSoftwareResetRequest (dt ag : Nat) (s : State) : Out :=
  s.row dt (fun s => s.busWrite ag (Reg.sysRstCtl).addr (wordPut (wordPut 0 fSysRstCtl_KEY 0xC1EA) fSysRstCtl_CHIP 1))

/-- 1 µs after the request, the software chip reset begins (R70). -/
def execSoftwareChipReset (dt : Nat) (s : State) : Out := s.rowIf dt State.softDue (fun s => s.chipReset rstSOFT)

/-- Every 1 ms the on-die sensor updates TJ and TJ_MAX (R683). -/
def execTemperatureReading (dt : Nat) (tj : Int) (s : State) : Out := s.row dt (fun s => s.temperature tj)

/-- SYS.TEMP.CLR = 1 sets TJ_MAX to TJ (R683). -/
def execTjMaxClr (dt ag : Nat) (s : State) : Out := s.row dt (fun s => s.order ag .sysTemp fSysTemp_CLR 1)

end Sys2Proof.Machine
end

