-- ==== Sys2Proof/Machine/CmdPwm.lean ====
section
/-! DEFINITION. Commands of the timer channels, the gate guard and the sigma-delta inputs (11_pwm_guard.md). -/
namespace Sys2Proof.Machine

/-- A timer channel reaches its period boundary and committed shadows transfer to live (R364). -/
def execPwmPeriodBoundary (dt n : Nat) (s : State) : Out :=
  s.rowIf dt (fun s => s.periodEnds n) (fun s => s.periodStart n)

/-- A write of PER_SH, CMP_SH or CMP2_SH stages a shadow, or returns ACCESS for an owned group (R367). -/
def execShadowWrite (dt ag n which : Nat) (v : Word48) (s : State) : Out :=
  s.row dt (fun s => s.busWrite ag (tcShadow which n).addr v)

/-- TC[n].CTL.COMMIT = 1 transfers the channel's shadows at the next eligible period boundary (R365). -/
def execChannelCommit (dt ag n : Nat) (s : State) : Out := s.row dt (fun s => s.order ag (.tcCtl n) fTcCtl_COMMIT 1)

/-- SG[g].CTL.COMMIT = 1 commits the shadows of every channel of the group (R365). -/
def execGroupCommit (dt ag g : Nat) (s : State) : Out := s.row dt (fun s => s.order ag (.sgCtl g) fSgCtl_COMMIT 1)

/-- A channel's command changes level at a compare position and passes through the gate guard (R360). -/
def execCompareEdge (dt n : Nat) (s : State) : Out := s.row dt (fun s => s.compareEdge n)

/-- A shoot-through request lasting 500 fabric ticks trips the group with source SHOOT (R381). -/
def execShootThroughTrip (dt n : Nat) (s : State) : Out :=
  s.rowIf dt (fun s => s.shootTrips n) (fun s => s.trip (s.tcGroup n) 18)

/-- EN = 1 starts PRECHARGE, enters TRIPPED, or sets RESTART_PENDING in SHUTDOWN (R377). -/
def execGroupEnable (dt ag g : Nat) (s : State) : Out := s.row dt (fun s => s.order ag (.sgCtl g) fSgCtl_EN 1)

/-- EN = 0 drives the pins low and enters SHUTDOWN, or returns LOCKED while the owner drives (R376). -/
def execGroupDisable (dt ag g : Nat) (s : State) : Out := s.row dt (fun s => s.order ag (.sgCtl g) fSgCtl_EN 0)

/-- After 2 µs of SHUTDOWN the group enters OFF, or PRECHARGE when RESTART_PENDING (R376). -/
def execShutdownEnd (dt g : Nat) (s : State) : Out :=
  s.rowIf dt (fun s => s.sgShutdownEnds g) (fun s => s.sgShutdownEnd g)

/-- SG[g].CTL.PRECHARGE = 1 reruns the precharge sequence, or returns LOCKED while driving (R373). -/
def execPrechargeCmd (dt ag g : Nat) (s : State) : Out := s.row dt (fun s => s.order ag (.sgCtl g) fSgCtl_PRECHARGE 1)

/-- The PRE_ON interval ends and every pin is driven low for PRE_GAP (R372). -/
def execPrechargeOnEnd (dt g : Nat) (s : State) : Out := s.rowIf dt (fun s => s.preOnEnds g) (fun s => s.preOnEnd g)

/-- The PRE_GAP ends, PRECHARGED sets and the group enters RUN (R372). -/
def execPrechargeComplete (dt g : Nat) (s : State) : Out :=
  s.rowIf dt (fun s => s.preDone g) (fun s => s.sgEnterRun g)

/-- PRE_VALID ms after the last low-side conduction, PRECHARGED clears (R373). -/
def execPrechargeExpiry (dt g : Nat) (s : State) : Out :=
  s.rowIf dt (fun s => s.preExpires g) (fun s => s.unprecharge g)

/-- A HARD crossing forces the group's pins low by the analog path and latches the trip (R385). -/
def execHardTrip (dt k : Nat) (on : Bool) (s : State) : Out := s.row dt (fun s => s.hardChange k on)

/-- A FAST condition present for QF + 1 ticks becomes qualified (R386). -/
def execFastQualified (dt k : Nat) (on : Bool) (s : State) : Out := s.row dt (fun s => s.fastChange k on)

/-- A qualified FAST condition trips the group in the first tick its blanking window is closed (R386). -/
def execFastTrip (dt k : Nat) (s : State) : Out := s.rowIf dt (fun s => s.fastTrips k) (fun s => s.fastTrip k)

/-- 64 fabric ticks after the trip the snapshot closes with FIRST and MULTI (R389). -/
def execTripSnapshotClose (dt g : Nat) (s : State) : Out :=
  s.rowIf dt (fun s => s.snapCloses g) (fun s => s.snapClose g)

/-- SG[g].CTL.TRIP_CLR = 1 clears the trip when every source has been inactive long enough, else ACTIVE (R390). -/
def execTripClr (dt ag g : Nat) (s : State) : Out := s.row dt (fun s => s.order ag (.sgCtl g) fSgCtl_TRIP_CLR 1)

/-- A sinc3 window ends and the input's result is produced (R392). -/
def execSinc3Result (dt i : Nat) (sum : Int) (s : State) : Out :=
  s.rowIf dt (fun s => s.sinc3Ends i) (fun s => (s.sinc3 i sum).mirSdResult i false)

/-- A sinc2 window ends and its sum is tested against OC_THR (R394). -/
def execSinc2Result (dt i : Nat) (sum : Int) (s : State) : Out :=
  s.rowIf dt (fun s => s.sdWindowEnds i (s.fld (.sdCfg i) fSdCfg_OSR2)) (fun s => (s.sinc2 i sum).mirSdResult i true)

/-- Data unchanged for 256 modulator clocks sets STUCK (R395). -/
def execSdStuck (dt i : Nat) (s : State) : Out := s.row dt (fun s => s.sdStuck i)

/-- CMP[h].STAT.ST_CMD = 1 runs the comparator self-test, or returns LOCKED while driving (R396). -/
def execComparatorSelfTest (dt ag k : Nat) (s : State) : Out :=
  s.row dt (fun s => s.order ag (.cmpStat k) fCmpStat_ST_CMD 1)

/-- The comparator self-test ends, a failure setting ST_FAIL and tripping the group with SELFTEST (R396). -/
def execComparatorSelfTestEnd (dt k : Nat) (pass : Bool) (s : State) : Out :=
  s.rowIf dt (fun s => (s.cmp k).test.isSome) (fun s => s.stEnd k pass)

/-- TC[n].STAT.CLR clears ST_CNT and BOOT_CNT (R371). -/
def execTcCntClr (dt ag n : Nat) (s : State) : Out := s.row dt (fun s => s.order ag (.tcStat n) fTcStat_CLR 1)

end Sys2Proof.Machine
end

