-- ==== Sys2Proof/Machine/CmdShared.lean ====
section
/-! DEFINITION. Commands of the arbiters, admission and the violation log (04_shared_resources.md). -/
namespace Sys2Proof.Machine

/-- A request reaches a shared-unit arbiter and is classed pledged or metered (R122). -/
def execArbitrationRequest (dt u r cost : Nat) (serverFree posted : Bool) (ag addr : Nat) (s : State) : Out :=
  s.rowIf dt (fun _ => u == 2 || u == 3 || u == 7) (fun s => s.busRequest u r cost serverFree posted ag addr)

/-- An arbiter grants a waiting request by class, deadline, deficit and pointer (R127). -/
def execArbitrationGrant (dt u : Nat) (s : State) : Out := s.row dt (fun s => s.unitGrant u)

/-- A metered request still waiting at its age limit is refused with DEFERRED_LIMIT (R123). -/
def execAgeLimitRefusal (dt u : Nat) (s : State) : Out := s.row dt (fun s => s.unitAged u)

/-- A write of SHR.ADM_CTL.CHECK = 1 runs the admission check on the running configuration (R141). -/
def execAdmissionCheckCmd (dt ag : Nat) (v : Word48) (s : State) : Out :=
  s.row dt (fun s => s.busWrite ag (Reg.shrAdmCtl).addr v)

/-- An admission check ends, passing or refusing with the first failing test, and reports in ADM_STAT (R137). -/
def execAdmissionCheckComplete (dt : Nat) (s : State) : Out :=
  s.rowIf dt (fun s => s.adm.running.isSome) State.admDone

/-- REQ_WAIT.CLR clears a requester's DEFER_CNT, REFUSE_CNT, LAST_CODE, STARVED and MAX_WAIT (R134). -/
def execReqWaitClr (dt ag u r : Nat) (s : State) : Out :=
  s.row dt (fun s => s.order ag (.shrReqWait u r) fShrReqWait_CLR 1)

/-- UNIT_ARB.CLR clears BOUND_MISS (R126). -/
def execBoundMissClr (dt ag u : Nat) (s : State) : Out :=
  s.row dt (fun s => s.order ag (.shrUnitArb u) fShrUnitArb_CLR 1)

/-- VLOG_CTL.CLR clears VALID in every entry, TOTAL and OVERWRITTEN and sets NEXT to 0 (R153). -/
def execVlogClr (dt ag : Nat) (s : State) : Out := s.row dt (fun s => s.order ag .sysVlogCtl fSysVlogCtl_CLR 1)

end Sys2Proof.Machine
end

