-- ==== Sys2Proof/Machine/CmdSluice.lean ====
section
/-! DEFINITION. Commands of the cores, Sluice, mailboxes, locks and doorbells (18_cores_sluice_mailboxes.md). -/
namespace Sys2Proof.Machine

/-- A core's read of CORE[k].DISPATCH presents its eligible READY tasks to the unit-8 arbiter (R582). -/
def execDispatchRead (dt ag k : Nat) (s : State) : Out :=
  s.row dt (fun s => s.slot ag (Reg.coreDispatch k).addr none 0)

/-- A task is granted to the reading core, which receives the dispatch word (R583). -/
def execDispatchGrant (dt k : Nat) (s : State) : Out := s.row dt (fun s => s.dispatchGrant k)

/-- An outstanding dispatch read returns 0 after DISP_DL ticks or on a pending interrupt (R583). -/
def execDispatchDeadline (dt k : Nat) (s : State) : Out := s.row dt (fun s => s.dispatchDeadline k)

/-- DONE.OP = COMPLETE finishes the item and frees its flow (R584). -/
def execComplete (dt ag k : Nat) (s : State) : Out := s.row dt (fun s => s.order ag (.coreDone k) fCoreDone_OP 1)

/-- DONE.OP = BLOCK makes the task BLOCKED on its wait mask (R584). -/
def execBlock (dt ag k mask : Nat) (all : Bool) (s : State) : Out :=
  s.row dt (fun s => s.busWrite ag (Reg.coreDone k).addr (wordPut (wordPut (wordPut 0 fCoreDone_OP 2) fCoreDone_WAIT_MODE (b2n all)) fCoreDone_WAIT_MASK mask))

/-- DONE.OP = YIELD returns the item to its place and makes the task READY (R584). -/
def execYield (dt ag k : Nat) (s : State) : Out := s.row dt (fun s => s.order ag (.coreDone k) fCoreDone_OP 3)

/-- A BLOCKED wait ends WAIT_TMO ticks after the BLOCK write with TIMEOUT (R585). -/
def execWaitTimeout (dt t : Nat) (s : State) : Out := s.row dt (fun s => s.waitTimeout t)

/-- A write of SLU.TASK[t].FLAG_SET sets task flags, or returns OFFLINE (R586). -/
def execFlagSet (dt ag t bits : Nat) (s : State) : Out :=
  s.row dt (fun s => s.order ag (.taskFlagSet t) fTaskFlagSet_BITS bits)

/-- A write of FLAG_CLR clears task flags (R586). -/
def execFlagClr (dt ag t bits : Nat) (s : State) : Out :=
  s.row dt (fun s => s.order ag (.taskFlagClr t) fTaskFlagClr_BITS bits)

/-- A write of SLU.POST posts a work item, or returns OFFLINE, ACCESS or BUSY (R587). -/
def execWorkPost (dt ag : Nat) (v : Word48) (s : State) : Out :=
  s.row dt (fun s => s.busWrite ag (Reg.sluPost).addr v)

/-- CVN_CTL.STAGE = 1 stages a new Caravan ring length (R595). -/
def execCaravanStage (dt ag : Nat) (v : Word48) (s : State) : Out :=
  s.row dt (fun s => s.busWrite ag (Reg.sluCvnCtl).addr v)

/-- T48 reaching CORE[k].MTIMECMP makes the core's timer interrupt pending (R576). -/
def execMachineTimerInterrupt (dt k : Nat) (s : State) : Out :=
  s.rowIf dt (fun s => s.timerIrq k) (fun s => s.dispatchDeadline k)

/-- A core not kicked for PERIOD µs has its weir cycled (R579). -/
def execWatchdogExpiry (dt k : Nat) (s : State) : Out := s.rowIf dt (fun s => s.wdogDue k) (fun s => s.wdogExpire k)

/-- WDOG.KICK = 1 restarts the watchdog count (R579). -/
def execWatchdogKick (dt ag k : Nat) (v : Word48) (s : State) : Out :=
  s.row dt (fun s => s.busWrite ag (Reg.coreWdog k).addr v)

/-- The sender's write of a point-to-point box fills it or overwrites with COLLISION (R596). -/
def execMailboxWrite (dt ag n : Nat) (v : Word48) (s : State) : Out :=
  s.row dt (fun s => s.busWrite ag (Reg.mbData n).addr v)

/-- A lock owner's write of a shared box fills it, or returns LOCKED or BUSY (R597). -/
def execSharedMailboxWrite (dt ag n : Nat) (v : Word48) (s : State) : Out :=
  s.row dt (fun s => s.busWrite ag (Reg.mbData n).addr v)

/-- The receiver's read of DATA returns the word and empties a full box (R598). -/
def execMailboxRead (dt ag n : Nat) (s : State) : Out := s.row dt (fun s => s.slot ag (Reg.mbData n).addr none 0)

/-- A box still full TMO_US after the last write sets TIMEOUT (R600). -/
def execMailboxTimeout (dt n : Nat) (s : State) : Out := s.row dt (fun s => s.boxTimeout n)

/-- A write of MB[n].WAIT declares or ends a wait for the box to empty (R607). -/
def execMailboxWait (dt ag n : Nat) (wait : Bool) (s : State) : Out :=
  s.row dt (fun s => s.order ag (.mbWait n) fMbWait_WAIT (b2n wait))

/-- Every 256 ns the detector looks for cycles of waits and reports them (R608). -/
def execCrosswaitDetection (dt : Nat) (s : State) : Out := s.row dt State.crossWait

/-- A read of LK[n] acquires a free lock or returns the owner's number (R603). -/
def execLockRead (dt ag n : Nat) (s : State) : Out := s.row dt (fun s => s.slot ag (Reg.lk n).addr none 0)

/-- A write of LK[n] by its owner frees the lock (R604). -/
def execLockWrite (dt ag n : Nat) (v : Word48) (s : State) : Out :=
  s.row dt (fun s => s.busWrite ag (Reg.lk n).addr v)

/-- LK_STAT.FORCE = 1 with the key frees the lock (R604). -/
def execLockForce (dt ag n : Nat) (v : Word48) (s : State) : Out :=
  s.row dt (fun s => s.busWrite ag (Reg.lkStat n).addr v)

/-- A write of DB[a].SET rings doorbell bits of agent a (R606). -/
def execDoorbellSet (dt ag a bits : Nat) (s : State) : Out :=
  s.row dt (fun s => s.order ag (.dbSet a) fDbSet_BITS bits)

/-- Agent a clears its doorbell bits by writing 1s to PEND (R606). -/
def execDoorbellClear (dt ag a bits : Nat) (s : State) : Out :=
  s.row dt (fun s => s.order ag (.dbPend a) fDbPend_BITS bits)

end Sys2Proof.Machine
end

