-- ==== Sys2Proof/Machine/CmdSpout.lean ====
section
/-! DEFINITION. Commands of Spout's jobs (17_spout.md). -/
namespace Sys2Proof.Machine

/-- SUB_GO = 1 posts a Spout job for the core's dispatched task, or returns ACCESS or BUSY (R567). -/
def execSpoutPost (dt ag : Nat) (s : State) : Out := s.row dt (fun s => s.order ag .sptSubGo fSptSubGo_GO 1)

/-- A granted job starts with PC := ENTRY and D0 := ARG (R568). -/
def execSpoutJobStart (dt : Nat) (s : State) : Out := s.rowIf dt State.sptMayStart State.sptGrant

/-- A pledged release suspends the running job at its next interruptible point (R570). -/
def execSpoutPreemption (dt : Nat) (s : State) : Out := s.rowIf dt State.sptMayPreempt State.sptSuspend

/-- A job exceeding LIMIT ticks stops with TIMEOUT (R572). -/
def execSpoutJobTimeout (dt : Nat) (s : State) : Out := s.rowIf dt State.sptTimesOut State.sptTimeout

/-- The response to an LDE or STE arrives, stopping the job with EXT on a refusal (R566). -/
def execExtResponse (dt t : Nat) (deny : Bool) (s : State) : Out := s.row dt (fun s => s.sptExtAnswer t deny)

/-- SPT.CNT_CLR clears CNT (R572). -/
def execSpoutCntClr (dt ag : Nat) (s : State) : Out := s.row dt (fun s => s.order ag .sptCntClr fSptCntClr_CLR 1)

/-- An external write to program words of P memory returns LOCKED unless Spout is CLOSED (R557). -/
def execProgramWordWrite (dt ag addr : Nat) (v : BitVec 64) (s : State) : Out :=
  s.row dt (fun s => s.slot ag addr (some v.toNat) 0)

end Sys2Proof.Machine
end

