-- ==== Sys2Proof/Machine/CmdSpoutInstr.lean ====
section
/-! DEFINITION. Spout's instructions: each command reports that the running job reaches one (17_spout.md, R556 to R566). -/
namespace Sys2Proof.Machine

/-- Spout instruction that does nothing (R560). -/
def execNop (dt : Nat) (ecc : Bool) (s : State) : Out := s.row dt (fun s => s.sptRunData opNOP ecc)

/-- Spout instruction that loads a data register from memory (R560). -/
def execLd (dt : Nat) (ecc : Bool) (s : State) : Out := s.row dt (fun s => s.sptRunData opLD ecc)

/-- Spout instruction that stores a data register to X or Y memory (R560). -/
def execSt (dt : Nat) (ecc : Bool) (s : State) : Out := s.row dt (fun s => s.sptRunData opST ecc)

/-- Spout instruction that loads an immediate into a data register (R560). -/
def execLdi (dt : Nat) (ecc : Bool) (s : State) : Out := s.row dt (fun s => s.sptRunData opLDI ecc)

/-- Spout instruction that loads a pointer with an address (R560). -/
def execLpi (dt : Nat) (ecc : Bool) (s : State) : Out := s.row dt (fun s => s.sptRunData opLPI ecc)

/-- Spout instruction that loads a pointer or modifier from P memory (R560). -/
def execLdc (dt : Nat) (ecc : Bool) (s : State) : Out := s.row dt (fun s => s.sptRunData opLDC ecc)

/-- Spout instruction that updates a pointer by a modifier (R558). -/
def execAddp (dt : Nat) (ecc : Bool) (s : State) : Out := s.row dt (fun s => s.sptRunData opADDP ecc)

/-- Spout instruction that sets an accumulator to a product (R560). -/
def execMpy (dt : Nat) (ecc : Bool) (s : State) : Out := s.row dt (fun s => s.sptRunData opMPY ecc)

/-- Spout instruction that adds a product to an accumulator (R560). -/
def execMac (dt : Nat) (ecc : Bool) (s : State) : Out := s.row dt (fun s => s.sptRunData opMAC ecc)

/-- Spout instruction that subtracts a product from an accumulator (R560). -/
def execMsu (dt : Nat) (ecc : Bool) (s : State) : Out := s.row dt (fun s => s.sptRunData opMSU ecc)

/-- Spout instruction that accumulates an X × Y product (R560). -/
def execMxy (dt : Nat) (ecc : Bool) (s : State) : Out := s.row dt (fun s => s.sptRunData opMXY ecc)

/-- Spout instruction that accumulates X × c and Y × c into two accumulators (R560). -/
def execMxp (dt : Nat) (ecc : Bool) (s : State) : Out := s.row dt (fun s => s.sptRunData opMXP ecc)

/-- Spout instruction that clears an accumulator (R560). -/
def execClr (dt : Nat) (ecc : Bool) (s : State) : Out := s.row dt (fun s => s.sptRunData opCLR ecc)

/-- Spout instruction that sets an accumulator from a data register (R560). -/
def execSeta (dt : Nat) (ecc : Bool) (s : State) : Out := s.row dt (fun s => s.sptRunData opSETA ecc)

/-- Spout instruction that adds one accumulator to another (R560). -/
def execAdda (dt : Nat) (ecc : Bool) (s : State) : Out := s.row dt (fun s => s.sptRunData opADDA ecc)

/-- Spout instruction that subtracts one accumulator from another (R560). -/
def execSuba (dt : Nat) (ecc : Bool) (s : State) : Out := s.row dt (fun s => s.sptRunData opSUBA ecc)

/-- Spout instruction that shifts an accumulator (R560). -/
def execAsh (dt : Nat) (ecc : Bool) (s : State) : Out := s.row dt (fun s => s.sptRunData opASH ecc)

/-- Spout instruction that takes an accumulator's magnitude (R560). -/
def execAbsa (dt : Nat) (ecc : Bool) (s : State) : Out := s.row dt (fun s => s.sptRunData opABSA ecc)

/-- Spout instruction that reduces an accumulator to a data register with shift K (R560). -/
def execRnd (dt : Nat) (ecc : Bool) (s : State) : Out := s.row dt (fun s => s.sptRunData opRND ecc)

/-- Spout instruction that reduces an accumulator with shift SC (R560). -/
def execRnds (dt : Nat) (ecc : Bool) (s : State) : Out := s.row dt (fun s => s.sptRunData opRNDS ecc)

/-- Spout instruction that keeps a peak and the iteration index of the innermost DO (R562). -/
def execPkd (dt : Nat) (ecc : Bool) (s : State) : Out := s.row dt (fun s => s.sptRunData opPKD ecc)

/-- Spout instruction that computes a radix-2 butterfly and updates BEX (R564). -/
def execBfly (dt : Nat) (ecc : Bool) (s : State) : Out := s.row dt (fun s => s.sptRunData opBFLY ecc)

/-- Spout instruction that sets SC from BEX and accumulates EXP (R565). -/
def execBscl (dt : Nat) (ecc : Bool) (s : State) : Out := s.row dt (fun s => s.sptRunData opBSCL ecc)

/-- Spout instruction that resets BEX, SC and EXP (R560). -/
def execBclr (dt : Nat) (ecc : Bool) (s : State) : Out := s.row dt (fun s => s.sptRunData opBCLR ecc)

/-- Spout instruction that repeats the next instruction N times, or stops with REP_LIMIT (R561). -/
def execRepeatNext (dt : Nat) (ecc : Bool) (s : State) : Out := s.row dt (fun s => s.sptRunRep ecc)

/-- Spout instruction that runs a body of instructions N times, nesting four deep (R562). -/
def execDoLoop (dt : Nat) (ecc : Bool) (s : State) : Out := s.row dt (fun s => s.sptRunDo ecc)

/-- Spout instruction that branches on a condition (R560). -/
def execBranch (dt : Nat) (ecc : Bool) (s : State) : Out := s.row dt (fun s => s.sptRunB ecc)

/-- Spout instruction that ends the job with DONE (R572). -/
def execHalt (dt : Nat) (ecc : Bool) (s : State) : Out := s.row dt (fun s => s.sptRunHalt ecc)

/-- Spout instruction that loads an external word through the interconnect (R566). -/
def execLde (dt : Nat) (ecc : Bool) (s : State) : Out := s.row dt (fun s => s.sptIssue true ecc)

/-- Spout instruction that stores an external word through the interconnect (R566). -/
def execSte (dt : Nat) (ecc : Bool) (s : State) : Out := s.row dt (fun s => s.sptIssue false ecc)

/-- An undefined or malformed Spout instruction word stops the job with ILLEGAL (R560). -/
def execIllegal (dt : Nat) (ecc : Bool) (s : State) : Out := s.row dt (fun s => s.sptRunIllegal ecc)

end Sys2Proof.Machine
end

