-- ==== Sys2Proof/Machine/CmdStops.lean ====
section
/-! DEFINITION. Commands of stops, limits and homing (09_stops_homing.md). -/
namespace Sys2Proof.Machine

/-- AT_REST not set within STOP_TMAX cycles of STOPPING raises STOP_TIMEOUT with reaction 3 (R301). -/
def execStopTimeout (dt n : Nat) (s : State) : Out :=
  s.rowIf dt (fun s => s.stopTimesOut n) (fun s => s.stopTimeout n)

/-- AT_REST sets after VSET = 0 and |VACT| ≤ SS_VTOL have held for SS_TIME cycles (R311). -/
def execAtRestSet (dt n : Nat) (s : State) : Out := s.rowIf dt (fun s => s.restDue n) (fun s => s.restSet n)

/-- After CR_DELAY at rest, the bounds of the LIMIT that writes S15 are narrowed to CR_LEVEL (R312). -/
def execCurrentReduction (dt n : Nat) (s : State) : Out := s.rowIf dt (fun s => s.crDue n) (fun s => s.crSet n)

/-- A limit or home input's debounced level takes the raw level after DEBOUNCE, raising LIMIT causes and blocks
(R313). -/
def execDebounceChange (dt n i : Nat) (s : State) : Out :=
  s.rowIf dt (fun s => s.debDue n i) (fun s => s.debounce n i)

/-- BLK_POS or BLK_NEG clears after the limit has been inactive for 50 ms (R314). -/
def execLimitBlockRelease (dt n i : Nat) (s : State) : Out :=
  s.rowIf dt (fun s => s.blockEnds n i) (fun s => s.blockEnd n i)

/-- LIM_STAT.CLR clears LAST_REFUSE and REFUSE_CNT (R315). -/
def execLimitStatClr (dt ag n : Nat) (s : State) : Out :=
  s.row dt (fun s => s.order ag (.axsLimStat n) fAxsLimStat_CLR 1)

/-- HM_CTL.START = 1 starts homing by the configured method, or is refused with REFUSED_STATE (R317). -/
def execHomingStart (dt ag n : Nat) (s : State) : Out :=
  s.row dt (fun s => s.order ag (.axsHmCtl n) fAxsHmCtl_START 1)

/-- HM_CTL.ABORT = 1 ends homing with a deceleration at HM_DEC and RES = ABORTED (R317). -/
def execHomingAbort (dt ag n : Nat) (s : State) : Out :=
  s.row dt (fun s => s.order ag (.axsHmCtl n) fAxsHmCtl_ABORT 1)

/-- A raw edge of the homing reference during the leave phase is counted in TOGGLES (R320) (DEDUCED, log entry 55). -/
def execReferenceEdge (dt n i : Nat) (level : Bool) (s : State) : Out := s.row dt (fun s => s.gpioEdge n i level)

/-- A capture window that ends unconfirmed rejects the latch and re-arms it (R321). -/
def execCaptureWindowEnd (dt n : Nat) (s : State) : Out := s.rowIf dt (fun s => s.winEnds n) (fun s => s.winReject n)

/-- Torque saturation at rest held for HM_TIME sets the HARD_STOP reference P_h := PACT (R323). -/
def execHardStopDwellEnd (dt n : Nat) (s : State) : Out := s.rowIf dt (fun s => s.dwellEnds n) (fun s => s.dwellEnd n)

end Sys2Proof.Machine
end

