-- ==== Sys2Proof/Machine/CmdTime.lean ====
section
/-! DEFINITION. Commands of the clocks domains, line time and time comparators (15_time.md). -/
namespace Sys2Proof.Machine

/-- DOM[d].M_CTL.POST = 1 posts a measurement that the servo accepts, steps or ignores as STALE (R513). -/
def execPtpPost (dt ag d : Nat) (s : State) : Out := s.row dt (fun s => s.order ag (.domMCtl d) fDomMCtl_POST 1)

/-- A domain without an accepted post for 3 s becomes LOST (R514). -/
def execDomainTimeout (dt d : Nat) (s : State) : Out :=
  s.rowIf dt (fun s => s.domTimedOut d) (fun s => s.domTimeout d)

/-- PREF LOCKED for REVERT_S seconds is selected again (R515). -/
def execDomainRevert (dt : Nat) (s : State) : Out := s.rowIf dt State.revertDue State.domRevert

/-- HOLDOVER lasting HOLD_MAX seconds sets LOST_SYNC (R520). -/
def execHoldoverLimit (dt : Nat) (s : State) : Out := s.rowIf dt State.holdLimit State.lostSync

/-- As C decays toward 0 at SLEW, |C| reaches 20 ns and the line-time state leaves ACQUIRING for LOCKED, clearing
LOST_SYNC (R518). -/
def execLineTimeLocked (dt : Nat) (s : State) : Out := s.rowIf dt State.ltLocks (fun s => s.setLstate 2)

/-- A read of TIM.TSQ_ID removes the head entry and places its stamp in TSQ_TIME (R522). -/
def execTimestampRead (dt ag : Nat) (s : State) : Out := s.row dt (fun s => s.slot ag (Reg.timTsqId).addr none 0)

/-- TSQ_STAT.CLR clears LOST (R523). -/
def execTsqClr (dt ag : Nat) (s : State) : Out := s.row dt (fun s => s.order ag .timTsqStat fTimTsqStat_CLR 1)

/-- CTL.ARM = 1 arms a time comparator, firing next tick with LATE if already met (R528). -/
def execComparatorArm (dt ag i : Nat) (s : State) : Out := s.row dt (fun s => s.order ag (.ttCtl i) fTtCtl_ARM 1)

/-- CTL.DISARM = 1 disarms a time comparator (R529). -/
def execComparatorDisarm (dt ag i : Nat) (s : State) : Out :=
  s.row dt (fun s => s.order ag (.ttCtl i) fTtCtl_DISARM 1)

/-- An armed comparator's condition holds and it fires its kind's action (R526). -/
def execComparatorFire (dt : Nat) (s : State) : Out := s.row dt (fun s => s.ttFireAll mirFire)

/-- A comparator's GPIO pulse ends PULSE_W ticks after its firing (R530). -/
def execPulseEnd (dt i : Nat) (s : State) : Out := s.rowIf dt (fun s => s.pulseEnds i) (fun s => s.pulseEnd i)

end Sys2Proof.Machine
end

