-- ==== Sys2Proof/Machine/CmdTwin.lean ====
section
/-! DEFINITION. Commands of cold start and twin heads (13_psiend_cycle.md, 14_twin_heads.md). -/
namespace Sys2Proof.Machine

/-- A head that hears no other head for 2 × (1 + HEAD_ID) cycles enters COLD (R465). -/
def execListenEnd (dt : Nat) (s : State) : Out := s.rowIf dt State.listenDone State.enterCold

/-- After 8 cycles of COLD without collision the head enters RUN (R466). -/
def execColdStartComplete (dt : Nat) (s : State) : Out := s.rowIf dt State.coldDone State.enterRun

/-- A head in COLD hears another head's cold start and backs off (R467). -/
def execCollision (dt id : Nat) (s : State) : Out :=
  s.rowIf dt (fun s => s.cs == csCOLD && id != s.headId) State.collide

/-- After HEAD_ID + 1 silent cycles the head returns to LISTEN, or stays STOPPED after attempt 8 (R467). -/
def execBackoffEnd (dt : Nat) (s : State) : Out := s.rowIf dt State.backoffDone State.backoffEnd

/-- NET.CS_CTL.RETRY = 1 leaves STOPPED, FOREIGN or BLOCKED for LISTEN (R467). -/
def execColdStartRetry (dt ag : Nat) (s : State) : Out := s.row dt (fun s => s.order ag .netCsCtl fNetCsCtl_RETRY 1)

/-- A drive copies a valid COLD_START frame onto its other uplink (R469). -/
def execColdStartEcho (dt : Nat) (s : State) : Out := s.row dt State.coldEcho

/-- A head in RUN hearing a COLD_START answers with ATTEMPT = 0xFF for 16 cycles (R470). -/
def execColdStartBlock (dt id : Nat) (s : State) : Out :=
  s.rowIf dt (fun s => s.cs == csRUN && id != s.headId) State.blockCold

/-- A non-twin head hearing another head stays in LISTEN with FOREIGN set (R471). -/
def execForeignHead (dt id : Nat) (s : State) : Out :=
  s.rowIf dt (fun s => s.isHead && !s.twin && id != s.headId) State.foreign

/-- A head in LISTEN that hears a COLD_START frame with ATTEMPT = 0xFF without hearing its sender on the head link
stays in LISTEN with BLOCKED set (R470). -/
def execHeadBlocked (dt : Nat) (s : State) : Out :=
  s.rowIf dt (fun s => s.cs == csLISTEN) (fun s => s.setFlag .netCsStat fNetCsStat_BLOCKED true)

/-- Each twin head sends its STATUS frame 56 ns after the boundary (R479). -/
def execStatusSend (dt : Nat) (s : State) : Out := s.rowIf dt State.statusDue State.statusSend

/-- A head-link STATUS frame from the partner is received (R477). -/
def execStatusReceived (dt : Nat) (s : State) : Out := s.row dt State.statusReceived

/-- At STATIC_START each head sends the DIGEST of the previous cycle (R479). -/
def execDigestSend (dt : Nat) (s : State) : Out := s.rowIf dt State.digestDue State.digestSend

/-- The partner's DIGEST is compared axis by axis with the head's own (R485). -/
def execDigestReceived (dt : Nat) (s : State) : Out := s.row dt State.digestReceived

/-- A DIGEST missing by the end of cycle N + 1 counts DIG_MISS (R485). -/
def execDigestMiss (dt : Nat) (s : State) : Out := s.rowIf dt State.digestMissed State.digestMiss

/-- VERIFY_CYCLES consecutive matching cycles take a joining head to STANDBY (R501). -/
def execStandbyEntry (dt : Nat) (s : State) : Out := s.rowIf dt State.standbyDue State.standbyEnter

/-- The leader sends the snapshot of a flagged axis in two COPY frames (R487). -/
def execCopySend (dt : Nat) (s : State) : Out := s.rowIf dt State.copyDue State.copySend

/-- 64 fabric ticks before STATIC_START the follower writes a complete copy into the axis, or discards it (R488). -/
def execCopyLoad (dt : Nat) (s : State) : Out := s.rowIf dt State.copyLoadDue State.copyLoad

/-- A MIRROR frame's ORDER records are performed in SEQ order and its ACKs taken (R478). -/
def execMirrorReceived (dt : Nat) (s : State) : Out := s.row dt (fun s => s.mirrorReceived State.mirrorAccess)

/-- An order without an ACK after 2 cycles is sent again (R478). -/
def execMirrorRetransmit (dt : Nat) (s : State) : Out := s.row dt State.mirrorAgain

/-- A leader detecting an abdication cause sets ABDICATE, sends an abdication STATUS and leaves LEADER (R495). -/
def execAbdication (dt c : Nat) (s : State) : Out := s.rowIf dt (fun s => s.abdCause c) (fun s => s.abdication c)

/-- TWN.CTL.HANDOVER = 1 arms a handover at HO_CYCLE.N (R497). -/
def execHandoverArm (dt ag : Nat) (s : State) : Out := s.row dt (fun s => s.order ag .twnCtl fTwnCtl_HANDOVER 1)

/-- At the end of the static segment each head counts the branches deaf to each channel (R496). -/
def execDeafnessEvaluation (dt : Nat) (s : State) : Out := s.rowIf dt State.deafDue State.deafEval

/-- No valid STATUS for 4 cycles, or both links down, puts the follower in UNCHECKED (R499). -/
def execHeadLinkLoss (dt : Nat) (s : State) : Out := s.rowIf dt State.hlLost (fun s => s.hlLoss.imgLinkLoss)

/-- TWN.CTL.RESYNC = 1 returns a follower to PULLING (R501). -/
def execResync (dt ag : Nat) (s : State) : Out := s.row dt (fun s => s.order ag .twnCtl fTwnCtl_RESYNC 1)

/-- The leader sends a PULL frame in free head-link time (R501). -/
def execPullSend (dt p : Nat) (s : State) : Out := s.rowIf dt (fun s => s.pullDue p) (fun s => s.pullSend p)

/-- A joining head stores a PULL frame's data (R501). -/
def execPullReceived (dt : Nat) (s : State) : Out := s.row dt State.pullReceived

/-- TWN.CTL.CNT_CLR clears CNT0 to CNT2 (R486). -/
def execTwinCntClr (dt ag : Nat) (s : State) : Out := s.row dt (fun s => s.order ag .twnCtl fTwnCtl_CNT_CLR 1)

end Sys2Proof.Machine
end

