-- ==== Sys2Proof/Machine/CmdWeirs.lean ====
section
/-! DEFINITION. Commands of the weirs (02_clocks_power_weirs.md). -/
namespace Sys2Proof.Machine

/-- CMD = CLOSE starts a unit's drain or changes the intent of a transition in progress (R76). -/
def execWeirClose (dt ag k owed : Nat) (s : State) : Out := s.row dt (fun s => s.weirOrder ag k wcCLOSE owed)

/-- CMD = OPEN resets and reopens a closed unit, or latches RESTART_PENDING during a transition (R76). -/
def execWeirOpen (dt ag k : Nat) (s : State) : Out := s.row dt (fun s => s.weirOrder ag k wcOPEN 0)

/-- CMD = CYCLE acts as CLOSE followed at once by OPEN (R76). -/
def execWeirCycle (dt ag k owed : Nat) (s : State) : Out := s.row dt (fun s => s.weirOrder ag k wcCYCLE owed)

/-- CMD = POWER_OFF drains a power-gatable unit and removes its power (R76). -/
def execWeirPowerOff (dt ag k owed : Nat) (s : State) : Out := s.row dt (fun s => s.weirOrder ag k wcOFF owed)

/-- CMD = POWER_ON powers up a closed, unpowered unit without opening it (R76). -/
def execWeirPowerOn (dt ag k : Nat) (s : State) : Out := s.row dt (fun s => s.weirOrder ag k wcON 0)

/-- CNT_CLR = 1 clears DISCARD_CNT and ABORT_CNT of the weir (R77). -/
def execWeirCntClr (dt ag k : Nat) (s : State) : Out := s.row dt (fun s => s.order ag (.sysWeir k) fSysWeir_CNT_CLR 1)

/-- A drain ends when all owed responses are issued and the pipelines have stopped (R78). -/
def execDrainComplete (dt k : Nat) (s : State) : Out := s.rowIf dt (fun s => s.drainMayEnd k) (fun s => s.drainEnd k)

/-- At 10 µs the weir aborts the responses still owed, sets DRAIN_FORCED and closes (R78). -/
def execDrainTimeout (dt k : Nat) (s : State) : Out :=
  s.rowIf dt (fun s => s.drainTimesOut k) (fun s => s.drainForced k)

/-- A power-gated unit finishes its power-up time (R64). -/
def execUnitPowerUpComplete (dt k : Nat) (s : State) : Out :=
  s.rowIf dt (fun s => s.powerUpEnds k) (fun s => s.powerUpEnd k)

/-- The unit reset in RESTARTING ends and the unit reopens or waits for a boundary (R83). -/
def execUnitResetComplete (dt k : Nat) (pass : Bool) (s : State) : Out :=
  s.rowIf dt (fun s => s.resetEnds k) (fun s => s.resetEnd k pass)

/-- A reply to a request issued before the weir left OPEN is discarded and counted in DISCARD_CNT (R79). -/
def execLateReplyDiscard (dt k age : Nat) (s : State) : Out :=
  s.rowIf dt (fun s => s.replyLate k age) (fun s => s.replyDiscard k)

end Sys2Proof.Machine
end

