-- ==== Sys2Proof/Machine/Dispatch.lean ====
section
/-! DEFINITION. One arm for every command. -/
namespace Sys2Proof.Machine

/-- The effect of a command on everything but the queue. -/
def exec (i : Instr) (s : State) : Host.Outcome State Fault Refusal :=
  match i with
  | .registerWrite dt ag addr v => Sys2Proof.Machine.execRegisterWrite dt ag addr v s
  | .lowWordRead dt ag addr => Sys2Proof.Machine.execLowWordRead dt ag addr s
  | .highWordRead dt ag addr => Sys2Proof.Machine.execHighWordRead dt ag addr s
  | .lowWordWrite dt ag addr w => Sys2Proof.Machine.execLowWordWrite dt ag addr w s
  | .highWordWrite dt ag addr w => Sys2Proof.Machine.execHighWordWrite dt ag addr w s
  | .narrowAccess dt ag addr n ty v => Sys2Proof.Machine.execNarrowAccess dt ag addr n ty v s
  | .basinLiveBankWrite dt ag addr v => Sys2Proof.Machine.execBasinLiveBankWrite dt ag addr v s
  | .cycleBoundary dt => Sys2Proof.Machine.execCycleBoundary dt s
  | .syncOutPulseEnd dt => Sys2Proof.Machine.execSyncOutPulseEnd dt s
  | .feedbackRecordComplete dt p data => Sys2Proof.Machine.execFeedbackRecordComplete dt p data s
  | .scheduledTaskRelease dt n => Sys2Proof.Machine.execScheduledTaskRelease dt n s
  | .jetGrant dt => Sys2Proof.Machine.execJetGrant dt s
  | .jetTaskEnd dt j ecc => Sys2Proof.Machine.execJetTaskEnd dt j ecc s
  | .jetTimeRefusal dt n => Sys2Proof.Machine.execJetTimeRefusal dt n s
  | .commandFrameLaunch dt k => Sys2Proof.Machine.execCommandFrameLaunch dt k s
  | .delayedCommandLaunch dt k => Sys2Proof.Machine.execDelayedCommandLaunch dt k s
  | .jetCheckFailure dt j chk => Sys2Proof.Machine.execJetCheckFailure dt j chk s
  | .jetSelfTestEnd dt j pass => Sys2Proof.Machine.execJetSelfTestEnd dt j pass s
  | .jetSwap dt ag => Sys2Proof.Machine.execJetSwap dt ag s
  | .jetRotation dt => Sys2Proof.Machine.execJetRotation dt s
  | .jetCntClr dt ag => Sys2Proof.Machine.execJetCntClr dt ag s
  | .frameStart dt p => Sys2Proof.Machine.execFrameStart dt p s
  | .frameHeader dt p hdr good => Sys2Proof.Machine.execFrameHeader dt p hdr good s
  | .frameCheck dt p rest fcs ending => Sys2Proof.Machine.execFrameCheck dt p rest fcs ending s
  | .guardianWindowClose dt p kind k => Sys2Proof.Machine.execGuardianWindowClose dt p kind k s
  | .forwardCopyStart dt e => Sys2Proof.Machine.execForwardCopyStart dt e s
  | .outputInstant dt => Sys2Proof.Machine.execOutputInstant dt s
  | .commandFrameReceived dt => Sys2Proof.Machine.execCommandFrameReceived dt s
  | .cascadePass dt => Sys2Proof.Machine.execCascadePass dt s
  | .cascadePassEnd dt => Sys2Proof.Machine.execCascadePassEnd dt s
  | .pllLock dt => Sys2Proof.Machine.execPllLock dt s
  | .pllLossOfLock dt ref => Sys2Proof.Machine.execPllLossOfLock dt ref s
  | .clockWindowEnd dt count => Sys2Proof.Machine.execClockWindowEnd dt count s
  | .powerOnReset dt => Sys2Proof.Machine.execPowerOnReset dt s
  | .sequencerStart dt inside => Sys2Proof.Machine.execSequencerStart dt inside s
  | .sequencerStep dt good => Sys2Proof.Machine.execSequencerStep dt good s
  | .pgTimeout dt => Sys2Proof.Machine.execPgTimeout dt s
  | .powerDownStep dt => Sys2Proof.Machine.execPowerDownStep dt s
  | .railMeasurement dt k mv pg => Sys2Proof.Machine.execRailMeasurement dt k mv pg s
  | .railFault dt k => Sys2Proof.Machine.execRailFault dt k s
  | .faultWaitEnd dt => Sys2Proof.Machine.execFaultWaitEnd dt s
  | .pmbusPoll dt => Sys2Proof.Machine.execPmbusPoll dt s
  | .pmbusReply dt n c data pec ack => Sys2Proof.Machine.execPmbusReply dt n c data pec ack s
  | .pmbAlert dt => Sys2Proof.Machine.execPmbAlert dt s
  | .resetNLow dt low still => Sys2Proof.Machine.execResetNLow dt low still s
  | .resetRelease dt => Sys2Proof.Machine.execResetRelease dt s
  | .softwareResetRequest dt ag => Sys2Proof.Machine.execSoftwareResetRequest dt ag s
  | .softwareChipReset dt => Sys2Proof.Machine.execSoftwareChipReset dt s
  | .weirClose dt ag k owed => Sys2Proof.Machine.execWeirClose dt ag k owed s
  | .weirOpen dt ag k => Sys2Proof.Machine.execWeirOpen dt ag k s
  | .weirCycle dt ag k owed => Sys2Proof.Machine.execWeirCycle dt ag k owed s
  | .weirPowerOff dt ag k owed => Sys2Proof.Machine.execWeirPowerOff dt ag k owed s
  | .weirPowerOn dt ag k => Sys2Proof.Machine.execWeirPowerOn dt ag k s
  | .weirCntClr dt ag k => Sys2Proof.Machine.execWeirCntClr dt ag k s
  | .drainComplete dt k => Sys2Proof.Machine.execDrainComplete dt k s
  | .drainTimeout dt k => Sys2Proof.Machine.execDrainTimeout dt k s
  | .unitPowerUpComplete dt k => Sys2Proof.Machine.execUnitPowerUpComplete dt k s
  | .unitResetComplete dt k pass => Sys2Proof.Machine.execUnitResetComplete dt k pass s
  | .lateReplyDiscard dt k age => Sys2Proof.Machine.execLateReplyDiscard dt k age s
  | .bootHeaders dt => Sys2Proof.Machine.execBootHeaders dt s
  | .imageReadComplete dt reread => Sys2Proof.Machine.execImageReadComplete dt reread s
  | .unitConfigurationComplete dt loads bad logOk => Sys2Proof.Machine.execUnitConfigurationComplete dt loads bad logOk s
  | .startupAdmissionComplete dt => Sys2Proof.Machine.execStartupAdmissionComplete dt s
  | .selfTestsComplete dt sram jets cmps zones => Sys2Proof.Machine.execSelfTestsComplete dt sram jets cmps zones s
  | .imageSwitchGo dt ag v => Sys2Proof.Machine.execImageSwitchGo dt ag v s
  | .imageSwitchCancel dt ag => Sys2Proof.Machine.execImageSwitchCancel dt ag s
  | .imageVerifyComplete dt loads logOk => Sys2Proof.Machine.execImageVerifyComplete dt loads logOk s
  | .imageStagingComplete dt => Sys2Proof.Machine.execImageStagingComplete dt s
  | .imageSwitchDeadline dt => Sys2Proof.Machine.execImageSwitchDeadline dt s
  | .partnerArmed dt n digest => Sys2Proof.Machine.execPartnerArmed dt n digest s
  | .flashRead dt ag slot addr => Sys2Proof.Machine.execFlashRead dt ag slot addr s
  | .flashProgram dt ag slot addr => Sys2Proof.Machine.execFlashProgram dt ag slot addr s
  | .flashErase dt ag slot addr => Sys2Proof.Machine.execFlashErase dt ag slot addr s
  | .flashOpComplete dt err => Sys2Proof.Machine.execFlashOpComplete dt err s
  | .flashBufWrite dt ag ix v => Sys2Proof.Machine.execFlashBufWrite dt ag ix v s
  | .arbitrationRequest dt u r cost serverFree posted ag addr => Sys2Proof.Machine.execArbitrationRequest dt u r cost serverFree posted ag addr s
  | .arbitrationGrant dt u => Sys2Proof.Machine.execArbitrationGrant dt u s
  | .ageLimitRefusal dt u => Sys2Proof.Machine.execAgeLimitRefusal dt u s
  | .admissionCheckCmd dt ag v => Sys2Proof.Machine.execAdmissionCheckCmd dt ag v s
  | .admissionCheckComplete dt => Sys2Proof.Machine.execAdmissionCheckComplete dt s
  | .reqWaitClr dt ag u r => Sys2Proof.Machine.execReqWaitClr dt ag u r s
  | .boundMissClr dt ag u => Sys2Proof.Machine.execBoundMissClr dt ag u s
  | .vlogClr dt ag => Sys2Proof.Machine.execVlogClr dt ag s
  | .stageRequest dt ag n v => Sys2Proof.Machine.execStageRequest dt ag n v s
  | .stageCancel dt ag n => Sys2Proof.Machine.execStageCancel dt ag n s
  | .enable dt ag n => Sys2Proof.Machine.execEnable dt ag n s
  | .disable dt ag n => Sys2Proof.Machine.execDisable dt ag n s
  | .stop dt ag n => Sys2Proof.Machine.execStop dt ag n s
  | .quickStop dt ag n => Sys2Proof.Machine.execQuickStop dt ag n s
  | .faultReset dt ag n => Sys2Proof.Machine.execFaultReset dt ag n s
  | .ageStatClr dt ag n => Sys2Proof.Machine.execAgeStatClr dt ag n s
  | .vlimCntClr dt ag n => Sys2Proof.Machine.execVlimCntClr dt ag n s
  | .movePush dt ag n => Sys2Proof.Machine.execMovePush dt ag n s
  | .moveFlush dt ag n => Sys2Proof.Machine.execMoveFlush dt ag n s
  | .changeApply dt ag n => Sys2Proof.Machine.execChangeApply dt ag n s
  | .engage dt ag n => Sys2Proof.Machine.execEngage dt ag n s
  | .disengage dt ag n => Sys2Proof.Machine.execDisengage dt ag n s
  | .camSwitch dt ag n => Sys2Proof.Machine.execCamSwitch dt ag n s
  | .followCancel dt ag n => Sys2Proof.Machine.execFollowCancel dt ag n s
  | .groupGo dt ag g => Sys2Proof.Machine.execGroupGo dt ag g s
  | .camDescriptorWrite dt ag t v => Sys2Proof.Machine.execCamDescriptorWrite dt ag t v s
  | .camCheckComplete dt t => Sys2Proof.Machine.execCamCheckComplete dt t s
  | .camStoreWrite dt ag addr v => Sys2Proof.Machine.execCamStoreWrite dt ag addr v s
  | .lineMasterPush dt ag l => Sys2Proof.Machine.execLineMasterPush dt ag l s
  | .lineMasterReanchor dt ag l => Sys2Proof.Machine.execLineMasterReanchor dt ag l s
  | .lineMasterClear dt ag l => Sys2Proof.Machine.execLineMasterClear dt ag l s
  | .lineMasterPredict dt ag l v => Sys2Proof.Machine.execLineMasterPredict dt ag l v s
  | .predictionDone dt l => Sys2Proof.Machine.execPredictionDone dt l s
  | .stopTimeout dt n => Sys2Proof.Machine.execStopTimeout dt n s
  | .atRestSet dt n => Sys2Proof.Machine.execAtRestSet dt n s
  | .currentReduction dt n => Sys2Proof.Machine.execCurrentReduction dt n s
  | .debounceChange dt n ix => Sys2Proof.Machine.execDebounceChange dt n ix s
  | .limitBlockRelease dt n ix => Sys2Proof.Machine.execLimitBlockRelease dt n ix s
  | .limitStatClr dt ag n => Sys2Proof.Machine.execLimitStatClr dt ag n s
  | .homingStart dt ag n => Sys2Proof.Machine.execHomingStart dt ag n s
  | .homingAbort dt ag n => Sys2Proof.Machine.execHomingAbort dt ag n s
  | .referenceEdge dt n ix level => Sys2Proof.Machine.execReferenceEdge dt n ix level s
  | .captureWindowEnd dt n => Sys2Proof.Machine.execCaptureWindowEnd dt n s
  | .hardStopDwellEnd dt n => Sys2Proof.Machine.execHardStopDwellEnd dt n s
  | .encoderEdge dt c a b => Sys2Proof.Machine.execEncoderEdge dt c a b s
  | .hallCodeChange dt c code => Sys2Proof.Machine.execHallCodeChange dt c code s
  | .indexEvent dt c => Sys2Proof.Machine.execIndexEvent dt c s
  | .serialFrameStart dt c datLow => Sys2Proof.Machine.execSerialFrameStart dt c datLow s
  | .serialFrameComplete dt c d => Sys2Proof.Machine.execSerialFrameComplete dt c d s
  | .serialTimeout dt c => Sys2Proof.Machine.execSerialTimeout dt c s
  | .standstillTimeout dt c => Sys2Proof.Machine.execStandstillTimeout dt c s
  | .chkClr dt ag n => Sys2Proof.Machine.execChkClr dt ag n s
  | .latchArm dt ag c l => Sys2Proof.Machine.execLatchArm dt ag c l s
  | .latchDisarm dt ag c l => Sys2Proof.Machine.execLatchDisarm dt ag c l s
  | .latchCapture dt c l src rising => Sys2Proof.Machine.execLatchCapture dt c l src rising s
  | .encErrClr dt ag c => Sys2Proof.Machine.execEncErrClr dt ag c s
  | .pwmPeriodBoundary dt n => Sys2Proof.Machine.execPwmPeriodBoundary dt n s
  | .shadowWrite dt ag n which v => Sys2Proof.Machine.execShadowWrite dt ag n which v s
  | .channelCommit dt ag n => Sys2Proof.Machine.execChannelCommit dt ag n s
  | .groupCommit dt ag g => Sys2Proof.Machine.execGroupCommit dt ag g s
  | .compareEdge dt n => Sys2Proof.Machine.execCompareEdge dt n s
  | .shootThroughTrip dt n => Sys2Proof.Machine.execShootThroughTrip dt n s
  | .groupEnable dt ag g => Sys2Proof.Machine.execGroupEnable dt ag g s
  | .groupDisable dt ag g => Sys2Proof.Machine.execGroupDisable dt ag g s
  | .shutdownEnd dt g => Sys2Proof.Machine.execShutdownEnd dt g s
  | .prechargeCmd dt ag g => Sys2Proof.Machine.execPrechargeCmd dt ag g s
  | .prechargeOnEnd dt g => Sys2Proof.Machine.execPrechargeOnEnd dt g s
  | .prechargeComplete dt g => Sys2Proof.Machine.execPrechargeComplete dt g s
  | .prechargeExpiry dt g => Sys2Proof.Machine.execPrechargeExpiry dt g s
  | .hardTrip dt k on => Sys2Proof.Machine.execHardTrip dt k on s
  | .fastQualified dt k on => Sys2Proof.Machine.execFastQualified dt k on s
  | .fastTrip dt k => Sys2Proof.Machine.execFastTrip dt k s
  | .tripSnapshotClose dt g => Sys2Proof.Machine.execTripSnapshotClose dt g s
  | .tripClr dt ag g => Sys2Proof.Machine.execTripClr dt ag g s
  | .sinc3Result dt ix sum => Sys2Proof.Machine.execSinc3Result dt ix sum s
  | .sinc2Result dt ix sum => Sys2Proof.Machine.execSinc2Result dt ix sum s
  | .sdStuck dt ix => Sys2Proof.Machine.execSdStuck dt ix s
  | .comparatorSelfTest dt ag k => Sys2Proof.Machine.execComparatorSelfTest dt ag k s
  | .comparatorSelfTestEnd dt k pass => Sys2Proof.Machine.execComparatorSelfTestEnd dt k pass s
  | .tcCntClr dt ag n => Sys2Proof.Machine.execTcCntClr dt ag n s
  | .signalDetected dt p => Sys2Proof.Machine.execSignalDetected dt p s
  | .linkAcquired dt p eq => Sys2Proof.Machine.execLinkAcquired dt p eq s
  | .acquireTimeout dt p => Sys2Proof.Machine.execAcquireTimeout dt p s
  | .linkUp dt p eq => Sys2Proof.Machine.execLinkUp dt p eq s
  | .adaptTimeout dt p => Sys2Proof.Machine.execAdaptTimeout dt p s
  | .signalLost dt p => Sys2Proof.Machine.execSignalLost dt p s
  | .codeErrorLimit dt p => Sys2Proof.Machine.execCodeErrorLimit dt p s
  | .retrain dt ag p => Sys2Proof.Machine.execRetrain dt ag p s
  | .portTest dt ag p mode => Sys2Proof.Machine.execPortTest dt ag p mode s
  | .portTestExit dt ag p => Sys2Proof.Machine.execPortTestExit dt ag p s
  | .invalidCodeGroup dt p kind => Sys2Proof.Machine.execInvalidCodeGroup dt p kind s
  | .syncReceived dt p d good sub => Sys2Proof.Machine.execSyncReceived dt p d good sub s
  | .syncMissing dt b => Sys2Proof.Machine.execSyncMissing dt b s
  | .repeatStart dt p sync res d len => Sys2Proof.Machine.execRepeatStart dt p sync res d len s
  | .repeatCut dt o => Sys2Proof.Machine.execRepeatCut dt o s
  | .portCntClr dt ag p => Sys2Proof.Machine.execPortCntClr dt ag p s
  | .feedbackFrameSend dt => Sys2Proof.Machine.execFeedbackFrameSend dt s
  | .ownFrameEnd dt p => Sys2Proof.Machine.execOwnFrameEnd dt p s
  | .rangeRequestSend dt b => Sys2Proof.Machine.execRangeRequestSend dt b s
  | .rangeRequestAdmit dt p => Sys2Proof.Machine.execRangeRequestAdmit dt p s
  | .rangeResponseSend dt p => Sys2Proof.Machine.execRangeResponseSend dt p s
  | .rangeResponseReceived dt sub => Sys2Proof.Machine.execRangeResponseReceived dt sub s
  | .rangingTimeout dt b => Sys2Proof.Machine.execRangingTimeout dt b s
  | .commandLoss dt => Sys2Proof.Machine.execCommandLoss dt s
  | .flowPost dt ag f v => Sys2Proof.Machine.execFlowPost dt ag f v s
  | .dynamicFrameSend dt f => Sys2Proof.Machine.execDynamicFrameSend dt f s
  | .uplinkFrameSend dt => Sys2Proof.Machine.execUplinkFrameSend dt s
  | .dynamicFrameStore dt => Sys2Proof.Machine.execDynamicFrameStore dt s
  | .serviceRequest dt => Sys2Proof.Machine.execServiceRequest dt s
  | .serviceResponse dt => Sys2Proof.Machine.execServiceResponse dt s
  | .netCntClr dt ag => Sys2Proof.Machine.execNetCntClr dt ag s
  | .listenEnd dt => Sys2Proof.Machine.execListenEnd dt s
  | .coldStartComplete dt => Sys2Proof.Machine.execColdStartComplete dt s
  | .collision dt id => Sys2Proof.Machine.execCollision dt id s
  | .backoffEnd dt => Sys2Proof.Machine.execBackoffEnd dt s
  | .coldStartRetry dt ag => Sys2Proof.Machine.execColdStartRetry dt ag s
  | .coldStartEcho dt => Sys2Proof.Machine.execColdStartEcho dt s
  | .coldStartBlock dt id => Sys2Proof.Machine.execColdStartBlock dt id s
  | .foreignHead dt id => Sys2Proof.Machine.execForeignHead dt id s
  | .statusSend dt => Sys2Proof.Machine.execStatusSend dt s
  | .statusReceived dt => Sys2Proof.Machine.execStatusReceived dt s
  | .digestSend dt => Sys2Proof.Machine.execDigestSend dt s
  | .digestReceived dt => Sys2Proof.Machine.execDigestReceived dt s
  | .digestMiss dt => Sys2Proof.Machine.execDigestMiss dt s
  | .standbyEntry dt => Sys2Proof.Machine.execStandbyEntry dt s
  | .copySend dt => Sys2Proof.Machine.execCopySend dt s
  | .copyLoad dt => Sys2Proof.Machine.execCopyLoad dt s
  | .mirrorReceived dt => Sys2Proof.Machine.execMirrorReceived dt s
  | .mirrorRetransmit dt => Sys2Proof.Machine.execMirrorRetransmit dt s
  | .abdication dt c => Sys2Proof.Machine.execAbdication dt c s
  | .handoverArm dt ag => Sys2Proof.Machine.execHandoverArm dt ag s
  | .deafnessEvaluation dt => Sys2Proof.Machine.execDeafnessEvaluation dt s
  | .headLinkLoss dt => Sys2Proof.Machine.execHeadLinkLoss dt s
  | .resync dt ag => Sys2Proof.Machine.execResync dt ag s
  | .pullSend dt p => Sys2Proof.Machine.execPullSend dt p s
  | .pullReceived dt => Sys2Proof.Machine.execPullReceived dt s
  | .twinCntClr dt ag => Sys2Proof.Machine.execTwinCntClr dt ag s
  | .ptpPost dt ag d => Sys2Proof.Machine.execPtpPost dt ag d s
  | .domainTimeout dt d => Sys2Proof.Machine.execDomainTimeout dt d s
  | .domainRevert dt => Sys2Proof.Machine.execDomainRevert dt s
  | .holdoverLimit dt => Sys2Proof.Machine.execHoldoverLimit dt s
  | .timestampRead dt ag => Sys2Proof.Machine.execTimestampRead dt ag s
  | .tsqClr dt ag => Sys2Proof.Machine.execTsqClr dt ag s
  | .comparatorArm dt ag ix => Sys2Proof.Machine.execComparatorArm dt ag ix s
  | .comparatorDisarm dt ag ix => Sys2Proof.Machine.execComparatorDisarm dt ag ix s
  | .comparatorFire dt => Sys2Proof.Machine.execComparatorFire dt s
  | .pulseEnd dt ix => Sys2Proof.Machine.execPulseEnd dt ix s
  | .mirageSample dt c pins => Sys2Proof.Machine.execMirageSample dt c pins s
  | .absRecord dt c => Sys2Proof.Machine.execAbsRecord dt c s
  | .ringStage dt ag c len => Sys2Proof.Machine.execRingStage dt ag c len s
  | .mirageArm dt ag c => Sys2Proof.Machine.execMirageArm dt ag c s
  | .mirageDisarm dt ag c => Sys2Proof.Machine.execMirageDisarm dt ag c s
  | .forceTrig dt ag c => Sys2Proof.Machine.execForceTrig dt ag c s
  | .rearmHoldEnd dt c => Sys2Proof.Machine.execRearmHoldEnd dt c s
  | .preEntry dt c => Sys2Proof.Machine.execPreEntry dt c s
  | .triggerAct dt c rise => Sys2Proof.Machine.execTriggerAct dt c rise s
  | .postTimeout dt c => Sys2Proof.Machine.execPostTimeout dt c s
  | .xtlRelease dt c => Sys2Proof.Machine.execXtlRelease dt c s
  | .streamUpload dt c => Sys2Proof.Machine.execStreamUpload dt c s
  | .uploadComplete dt c => Sys2Proof.Machine.execUploadComplete dt c s
  | .mirageCntClr dt ag c => Sys2Proof.Machine.execMirageCntClr dt ag c s
  | .maskCfgWrite dt ag m v => Sys2Proof.Machine.execMaskCfgWrite dt ag m v s
  | .spoutPost dt ag => Sys2Proof.Machine.execSpoutPost dt ag s
  | .spoutJobStart dt => Sys2Proof.Machine.execSpoutJobStart dt s
  | .spoutPreemption dt => Sys2Proof.Machine.execSpoutPreemption dt s
  | .spoutJobTimeout dt => Sys2Proof.Machine.execSpoutJobTimeout dt s
  | .extResponse dt t deny => Sys2Proof.Machine.execExtResponse dt t deny s
  | .spoutCntClr dt ag => Sys2Proof.Machine.execSpoutCntClr dt ag s
  | .programWordWrite dt ag addr v => Sys2Proof.Machine.execProgramWordWrite dt ag addr v s
  | .nop dt ecc => Sys2Proof.Machine.execNop dt ecc s
  | .ld dt ecc => Sys2Proof.Machine.execLd dt ecc s
  | .st dt ecc => Sys2Proof.Machine.execSt dt ecc s
  | .ldi dt ecc => Sys2Proof.Machine.execLdi dt ecc s
  | .lpi dt ecc => Sys2Proof.Machine.execLpi dt ecc s
  | .ldc dt ecc => Sys2Proof.Machine.execLdc dt ecc s
  | .addp dt ecc => Sys2Proof.Machine.execAddp dt ecc s
  | .mpy dt ecc => Sys2Proof.Machine.execMpy dt ecc s
  | .mac dt ecc => Sys2Proof.Machine.execMac dt ecc s
  | .msu dt ecc => Sys2Proof.Machine.execMsu dt ecc s
  | .mxy dt ecc => Sys2Proof.Machine.execMxy dt ecc s
  | .mxp dt ecc => Sys2Proof.Machine.execMxp dt ecc s
  | .clr dt ecc => Sys2Proof.Machine.execClr dt ecc s
  | .seta dt ecc => Sys2Proof.Machine.execSeta dt ecc s
  | .adda dt ecc => Sys2Proof.Machine.execAdda dt ecc s
  | .suba dt ecc => Sys2Proof.Machine.execSuba dt ecc s
  | .ash dt ecc => Sys2Proof.Machine.execAsh dt ecc s
  | .absa dt ecc => Sys2Proof.Machine.execAbsa dt ecc s
  | .rnd dt ecc => Sys2Proof.Machine.execRnd dt ecc s
  | .rnds dt ecc => Sys2Proof.Machine.execRnds dt ecc s
  | .pkd dt ecc => Sys2Proof.Machine.execPkd dt ecc s
  | .bfly dt ecc => Sys2Proof.Machine.execBfly dt ecc s
  | .bscl dt ecc => Sys2Proof.Machine.execBscl dt ecc s
  | .bclr dt ecc => Sys2Proof.Machine.execBclr dt ecc s
  | .repeatNext dt ecc => Sys2Proof.Machine.execRepeatNext dt ecc s
  | .doLoop dt ecc => Sys2Proof.Machine.execDoLoop dt ecc s
  | .branch dt ecc => Sys2Proof.Machine.execBranch dt ecc s
  | .halt dt ecc => Sys2Proof.Machine.execHalt dt ecc s
  | .lde dt ecc => Sys2Proof.Machine.execLde dt ecc s
  | .ste dt ecc => Sys2Proof.Machine.execSte dt ecc s
  | .illegal dt ecc => Sys2Proof.Machine.execIllegal dt ecc s
  | .dispatchRead dt ag k => Sys2Proof.Machine.execDispatchRead dt ag k s
  | .dispatchGrant dt k => Sys2Proof.Machine.execDispatchGrant dt k s
  | .dispatchDeadline dt k => Sys2Proof.Machine.execDispatchDeadline dt k s
  | .complete dt ag k => Sys2Proof.Machine.execComplete dt ag k s
  | .block dt ag k mask all => Sys2Proof.Machine.execBlock dt ag k mask all s
  | .yield dt ag k => Sys2Proof.Machine.execYield dt ag k s
  | .waitTimeout dt t => Sys2Proof.Machine.execWaitTimeout dt t s
  | .flagSet dt ag t bits => Sys2Proof.Machine.execFlagSet dt ag t bits s
  | .flagClr dt ag t bits => Sys2Proof.Machine.execFlagClr dt ag t bits s
  | .workPost dt ag v => Sys2Proof.Machine.execWorkPost dt ag v s
  | .caravanStage dt ag v => Sys2Proof.Machine.execCaravanStage dt ag v s
  | .machineTimerInterrupt dt k => Sys2Proof.Machine.execMachineTimerInterrupt dt k s
  | .watchdogExpiry dt k => Sys2Proof.Machine.execWatchdogExpiry dt k s
  | .watchdogKick dt ag k v => Sys2Proof.Machine.execWatchdogKick dt ag k v s
  | .mailboxWrite dt ag n v => Sys2Proof.Machine.execMailboxWrite dt ag n v s
  | .sharedMailboxWrite dt ag n v => Sys2Proof.Machine.execSharedMailboxWrite dt ag n v s
  | .mailboxRead dt ag n => Sys2Proof.Machine.execMailboxRead dt ag n s
  | .mailboxTimeout dt n => Sys2Proof.Machine.execMailboxTimeout dt n s
  | .mailboxWait dt ag n wait => Sys2Proof.Machine.execMailboxWait dt ag n wait s
  | .crosswaitDetection dt => Sys2Proof.Machine.execCrosswaitDetection dt s
  | .lockRead dt ag n => Sys2Proof.Machine.execLockRead dt ag n s
  | .lockWrite dt ag n v => Sys2Proof.Machine.execLockWrite dt ag n v s
  | .lockForce dt ag n v => Sys2Proof.Machine.execLockForce dt ag n v s
  | .doorbellSet dt ag a bits => Sys2Proof.Machine.execDoorbellSet dt ag a bits s
  | .doorbellClear dt ag a bits => Sys2Proof.Machine.execDoorbellClear dt ag a bits s
  | .safetyTick dt si rb edm srst mis => Sys2Proof.Machine.execSafetyTick dt si rb edm srst mis s
  | .discrepancyFault dt ix => Sys2Proof.Machine.execDiscrepancyFault dt ix s
  | .ss1Timeout dt z => Sys2Proof.Machine.execSs1Timeout dt z s
  | .testPulse dt o high pass => Sys2Proof.Machine.execTestPulse dt o high pass s
  | .edmTimeout dt o => Sys2Proof.Machine.execEdmTimeout dt o s
  | .slsDelayEnd dt z => Sys2Proof.Machine.execSlsDelayEnd dt z s
  | .slsWindowEnd dt c => Sys2Proof.Machine.execSlsWindowEnd dt c s
  | .srstEdge dt => Sys2Proof.Machine.execSrstEdge dt s
  | .srstStuck dt => Sys2Proof.Machine.execSrstStuck dt s
  | .oasisRailFault dt out => Sys2Proof.Machine.execOasisRailFault dt out s
  | .containerReceived dt => Sys2Proof.Machine.execContainerReceived dt s
  | .connectionWatchdog dt c => Sys2Proof.Machine.execConnectionWatchdog dt c s
  | .zoneRequest dt ag z v => Sys2Proof.Machine.execZoneRequest dt ag z v s
  | .passwordPresent dt ag v => Sys2Proof.Machine.execPasswordPresent dt ag v s
  | .passwordClear dt ag => Sys2Proof.Machine.execPasswordClear dt ag s
  | .passwordExpiry dt => Sys2Proof.Machine.execPasswordExpiry dt s
  | .presentLockEnd dt => Sys2Proof.Machine.execPresentLockEnd dt s
  | .slsPeakClr dt ag c => Sys2Proof.Machine.execSlsPeakClr dt ag c s
  | .pcieRequest dt op addr len data => Sys2Proof.Machine.execPcieRequest dt op addr len data s
  | .pcieLinkReset dt kind => Sys2Proof.Machine.execPcieLinkReset dt kind s
  | .perst dt level => Sys2Proof.Machine.execPerst dt level s
  | .dmaPost dt ag c v => Sys2Proof.Machine.execDmaPost dt ag c v s
  | .dmaEnable dt ag c v => Sys2Proof.Machine.execDmaEnable dt ag c v s
  | .dmaTransferStart dt c own => Sys2Proof.Machine.execDmaTransferStart dt c own s
  | .dmaBufferReturn dt c addr len irq own => Sys2Proof.Machine.execDmaBufferReturn dt c addr len irq own s
  | .spiRead dt count addr => Sys2Proof.Machine.execSpiRead dt count addr s
  | .spiQread dt count addr => Sys2Proof.Machine.execSpiQread dt count addr s
  | .spiWrite dt addr data => Sys2Proof.Machine.execSpiWrite dt addr data s
  | .spiQwrite dt addr data => Sys2Proof.Machine.execSpiQwrite dt addr data s
  | .spiUnknownCommand dt => Sys2Proof.Machine.execSpiUnknownCommand dt s
  | .spiCsAbort dt write count addr data => Sys2Proof.Machine.execSpiCsAbort dt write count addr data s
  | .spiVlogClr dt ag => Sys2Proof.Machine.execSpiVlogClr dt ag s
  | .ethFrameReceived dt p ago data => Sys2Proof.Machine.execEthFrameReceived dt p ago data s
  | .ethTxPost dt ag p v => Sys2Proof.Machine.execEthTxPost dt ag p v s
  | .ethFrameSent dt p ago => Sys2Proof.Machine.execEthFrameSent dt p ago s
  | .ethLinkChange dt p up => Sys2Proof.Machine.execEthLinkChange dt p up s
  | .ethCntClr dt ag p => Sys2Proof.Machine.execEthCntClr dt ag p s
  | .idcode dt => Sys2Proof.Machine.execIdcode dt s
  | .samplePreload dt pattern => Sys2Proof.Machine.execSamplePreload dt pattern s
  | .extest dt => Sys2Proof.Machine.execExtest dt s
  | .extestPulse dt => Sys2Proof.Machine.execExtestPulse dt s
  | .extestTrain dt => Sys2Proof.Machine.execExtestTrain dt s
  | .clamp dt => Sys2Proof.Machine.execClamp dt s
  | .highz dt => Sys2Proof.Machine.execHighz dt s
  | .dbgAccess dt => Sys2Proof.Machine.execDbgAccess dt s
  | .debugSlotAccess dt op addr v => Sys2Proof.Machine.execDebugSlotAccess dt op addr v s
  | .fuseProg dt hash back => Sys2Proof.Machine.execFuseProg dt hash back s
  | .bypass dt => Sys2Proof.Machine.execBypass dt s
  | .tapReset dt => Sys2Proof.Machine.execTapReset dt s
  | .temperatureReading dt tj => Sys2Proof.Machine.execTemperatureReading dt tj s
  | .tjMaxClr dt ag => Sys2Proof.Machine.execTjMaxClr dt ag s
  | .stagedBankWrite dt ag addr v => Sys2Proof.Machine.execStagedBankWrite dt ag addr v s
  | .lineTimeLocked dt => Sys2Proof.Machine.execLineTimeLocked dt s
  | .idleReceived dt p => Sys2Proof.Machine.execIdleReceived dt p s
  | .guardianWindowOpen dt p => Sys2Proof.Machine.execGuardianWindowOpen dt p s
  | .headBlocked dt => Sys2Proof.Machine.execHeadBlocked dt s
  | .perstRelease dt => Sys2Proof.Machine.execPerstRelease dt s
  | .pcieLinkUp dt speed width => Sys2Proof.Machine.execPcieLinkUp dt speed width s
  | .bufferLent dt c => Sys2Proof.Machine.execBufferLent dt c s

end Sys2Proof.Machine
end

