-- ==== Sys2Proof/Safety.lean ====
section
/-! DEFINITION. What counts as a safe run, and the words the statements are written in: an access that is accepted or
refused and what each leaves, commands that store nothing, the agreement of two states outside a range of memory. -/
namespace Sys2Proof.Machine

/-- A run from s is safe for its queue: no command in it stops the block, whatever the commands are. -/
def Safe : State → List Instr → Prop
  | _, [] => True
  | s, c :: t => ∃ u, exec c { s with pending := t } = .next u ∧ Safe u t

/-- Register r stands in the register map at its address (R25). -/
def Reg.mapped (r : Reg) : Prop := r.addr < 0x1000000 ∧ r.addr % 8 = 0 ∧ Reg.ofAddr r.addr = some r

/-- Agent ag's write of v to register r is accepted (R703): the agent issues accesses (R55, R72), the register is there, and
nothing refuses the write. -/
def State.accepts (s : State) (ag : Nat) (r : Reg) (v : Word48) : Prop :=
  s.issues ag = true ∧ r.mapped ∧ (s.settleReg r).regAbsent r = false ∧ (s.settleReg r).writeRefuse ag r v = []

/-- Agent ag's write of v to register r is refused with code c, the lowest-numbered one that applies (R12, R703). -/
def State.refuses (s : State) (ag : Nat) (r : Reg) (v : Word48) (c : Nat) : Prop :=
  s.issues ag = true ∧ r.mapped ∧ c ≠ cOK ∧ lowestCode ((s.settleReg r).writeRefuse ag r v) = c

/-- What an accepted write of v to register r leaves: its fields take their values (R8), the action f of the register
takes place, an order goes to the partner of a twin head (R478, R481), and the agent is answered OK. -/
def State.accepted (s : State) (ag : Nat) (r : Reg) (v : Word48) (f : State → State) : State :=
  ((f ((s.settleReg r).plain r v)).mirrorReg ag r v).answer ag r.addr (writeType ag) cOK 0

/-- Agent ag's read of register r is accepted. -/
def State.readable (s : State) (ag : Nat) (r : Reg) : Prop := s.issues ag = true ∧ r.mapped ∧ (s.settleReg r).readRefuse ag r = []

/-- What an accepted read of register r that returns v leaves: the state u after the read's own effect, the epoch of R80
noted, and the agent answered OK with the slot's value (R26). -/
def State.readBack (u : State) (ag : Nat) (r : Reg) (v : Word48) : State :=
  (u.noteEpoch ag r).answer ag r.addr tyRead cOK (slotBits r v)

/-- Two states in which every byte of memory reads the same outside the n bytes from a. -/
def sameOutside (s t : State) (a n : Nat) : Prop := ∀ b, b < a ∨ a + n ≤ b → t.byte b = s.byte b

/-- Two states in which every byte of memory reads the same. -/
def sameMemory (s t : State) : Prop := ∀ b, t.byte b = s.byte b

/-- Two states in which every register outside a list reads the same. -/
def sameRegsBut (l : List Reg) (s t : State) : Prop := ∀ r : Reg, (∀ q ∈ l, r.addr ≠ q.addr) → t.reg r = s.reg r

/-- Two fields that share no bit, the first one of a 48-bit word. -/
def Fld.apart (f g : Fld) : Bool := decide (f.lo + f.w ≤ 48) && (decide (f.lo + f.w ≤ g.lo) || decide (g.lo + g.w ≤ f.lo))

/-- Registers that do more than hold the fields written to them: a write orders an action, or the unit keeps the
register's fields itself. -/
def Reg.acts (r : Reg) : Bool :=
  match r.name with
  | .axsAgeStat | .axsChgCtl | .axsCmd | .axsCsFocStat | .axsFbStat | .axsFolCtl | .axsHmCtl | .axsLimStat
  | .axsMvCtl | .axsStage | .casCam | .casGrpCtl | .cmpStat | .coreDone | .coreWdog | .dbPend | .dbSet | .dmaCtl
  | .dmaPost | .domMCtl | .encErr | .encLatCtl | .ethStat | .ethTxPost | .flowTx | .fwdStat | .hstSpiIrq
  | .jetCntClr | .jetCtl | .lk | .lkStat | .lmOCtl | .lmPrNs | .mbData | .mbStat | .mbWait | .mirAcq | .mirAcqA
  | .mirAcqB | .mirAcqDead | .mirAcqMissT | .mirAcqRec | .mirAcqTrig | .mirCnt0 | .mirCnt1 | .mirCtl | .mirDb
  | .mirDead | .mirHys | .mirLvl | .mirMaskT | .mirMaskViol | .mirPinmask | .mirPtr | .mirRate | .mirRing
  | .mirRingCtl | .mirSrc | .mirStat | .mirTrig | .netCntClr | .netCsCtl | .oasPwdCtl | .oasPwdIn | .portCntClr
  | .portCtl | .portTxFrames | .sgCtl | .shrAdmCtl | .shrReqDefer | .shrReqRefuse | .shrReqWait | .shrUnitArb
  | .slsStat | .sluCvnCtl | .sluPost | .sptCntClr | .sptDone | .sptSubA | .sptSubArg | .sptSubExt | .sptSubGo
  | .sysFlashCtl | .sysImgCtl | .sysRstCtl | .sysTemp | .sysVlogCtl | .sysWeir | .taskFlagClr | .taskFlagSet
  | .tcCmp2Sh | .tcCmpSh | .tcCtl | .tcPerSh | .tcStat | .timCtl | .timTsqStat | .ttAux | .ttCtl | .ttLast
  | .ttStat | .ttTarget | .twnCtl | .zoneCtl => true
  | _ => false

end Sys2Proof.Machine

namespace Sys2Proof
open Machine

/-- The register write a command makes in state st, where it makes one: the agent, the register and the word. -/
def Instr.writes (c : Instr) (st : State) : Option (Nat × Reg × Word48) :=
  match c with
  | .registerWrite _ ag addr v => (Reg.ofAddr addr).bind (fun r => if r.addr = addr then some (ag, r, v) else none)
  | .jetSwap _ ag => some (ag, .jetCtl, st.wordWith ag .jetCtl fJetCtl_SWAP 1)
  | .jetCntClr _ ag => some (ag, .jetCntClr, st.wordWith ag .jetCntClr fJetCntClr_CLR 1)
  | .flowPost _ ag f v => some (ag, Reg.flowTx f, v)
  | .netCntClr _ ag => some (ag, .netCntClr, st.wordWith ag .netCntClr fNetCntClr_CLR 1)
  | .retrain _ ag p => some (ag, .portCtl p, st.wordWith ag (.portCtl p) fPortCtl_RETRAIN 1)
  | .portTest _ ag p mode => some (ag, .portCtl p, st.wordWith ag (.portCtl p) fPortCtl_TEST mode)
  | .portTestExit _ ag p => some (ag, .portCtl p, st.wordWith ag (.portCtl p) fPortCtl_TEST 0)
  | .portCntClr _ ag p => some (ag, .portCntClr p, st.wordWith ag (.portCntClr p) fPortCntClr_CLR 1)
  | .softwareResetRequest _ ag => some (ag, Reg.sysRstCtl, wordPut (wordPut 0 fSysRstCtl_KEY 0xC1EA) fSysRstCtl_CHIP 1)
  | .tjMaxClr _ ag => some (ag, .sysTemp, st.wordWith ag .sysTemp fSysTemp_CLR 1)
  | .weirCntClr _ ag k => some (ag, .sysWeir k, st.wordWith ag (.sysWeir k) fSysWeir_CNT_CLR 1)
  | .imageSwitchGo _ ag v => some (ag, Reg.sysImgCtl, v)
  | .imageSwitchCancel _ ag => some (ag, .sysImgCtl, st.wordWith ag .sysImgCtl fSysImgCtl_CANCEL 1)
  | .flashBufWrite _ ag i v => some (ag, Reg.sysFlashBuf i, v)
  | .admissionCheckCmd _ ag v => some (ag, Reg.shrAdmCtl, v)
  | .reqWaitClr _ ag u r => some (ag, .shrReqWait u r, st.wordWith ag (.shrReqWait u r) fShrReqWait_CLR 1)
  | .boundMissClr _ ag u => some (ag, .shrUnitArb u, st.wordWith ag (.shrUnitArb u) fShrUnitArb_CLR 1)
  | .vlogClr _ ag => some (ag, .sysVlogCtl, st.wordWith ag .sysVlogCtl fSysVlogCtl_CLR 1)
  | .stageRequest _ ag n v => some (ag, Reg.axsStage n, v)
  | .stageCancel _ ag n => some (ag, .axsStage n, st.wordWith ag (.axsStage n) fAxsStage_CANCEL 1)
  | .enable _ ag n => some (ag, .axsCmd n, st.wordWith ag (.axsCmd n) fAxsCmd_CMD cmdENABLE)
  | .disable _ ag n => some (ag, .axsCmd n, st.wordWith ag (.axsCmd n) fAxsCmd_CMD cmdDISABLE)
  | .stop _ ag n => some (ag, .axsCmd n, st.wordWith ag (.axsCmd n) fAxsCmd_CMD cmdSTOP)
  | .quickStop _ ag n => some (ag, .axsCmd n, st.wordWith ag (.axsCmd n) fAxsCmd_CMD cmdQUICK)
  | .faultReset _ ag n => some (ag, .axsCmd n, st.wordWith ag (.axsCmd n) fAxsCmd_CMD cmdRESET)
  | .ageStatClr _ ag n => some (ag, .axsAgeStat n, st.wordWith ag (.axsAgeStat n) fAxsAgeStat_CLR 1)
  | .vlimCntClr _ ag n => some (ag, .axsCsFocStat n, st.wordWith ag (.axsCsFocStat n) fAxsCsFocStat_CLR 1)
  | .movePush _ ag n => some (ag, .axsMvCtl n, st.wordWith ag (.axsMvCtl n) fAxsMvCtl_PUSH 1)
  | .moveFlush _ ag n => some (ag, .axsMvCtl n, st.wordWith ag (.axsMvCtl n) fAxsMvCtl_FLUSH 1)
  | .changeApply _ ag n => some (ag, .axsChgCtl n, st.wordWith ag (.axsChgCtl n) fAxsChgCtl_APPLY 1)
  | .engage _ ag n => some (ag, .axsFolCtl n, st.wordWith ag (.axsFolCtl n) fAxsFolCtl_OP 1)
  | .disengage _ ag n => some (ag, .axsFolCtl n, st.wordWith ag (.axsFolCtl n) fAxsFolCtl_OP 2)
  | .camSwitch _ ag n => some (ag, .axsFolCtl n, st.wordWith ag (.axsFolCtl n) fAxsFolCtl_OP 3)
  | .followCancel _ ag n => some (ag, .axsFolCtl n, st.wordWith ag (.axsFolCtl n) fAxsFolCtl_CANCEL 1)
  | .groupGo _ ag g => some (ag, Reg.casGrpCtl, wordPut (st.wordWith ag .casGrpCtl fCasGrpCtl_GO 1) fCasGrpCtl_GROUP g)
  | .camDescriptorWrite _ ag t v => some (ag, Reg.casCam t, v)
  | .lineMasterPush _ ag l => some (ag, .lmOCtl l, st.wordWith ag (.lmOCtl l) fLmOCtl_CMD 1)
  | .lineMasterReanchor _ ag l => some (ag, .lmOCtl l, st.wordWith ag (.lmOCtl l) fLmOCtl_CMD 3)
  | .lineMasterClear _ ag l => some (ag, .lmOCtl l, st.wordWith ag (.lmOCtl l) fLmOCtl_CMD 4)
  | .lineMasterPredict _ ag l v => some (ag, Reg.lmPrNs l, v)
  | .limitStatClr _ ag n => some (ag, .axsLimStat n, st.wordWith ag (.axsLimStat n) fAxsLimStat_CLR 1)
  | .homingStart _ ag n => some (ag, .axsHmCtl n, st.wordWith ag (.axsHmCtl n) fAxsHmCtl_START 1)
  | .homingAbort _ ag n => some (ag, .axsHmCtl n, st.wordWith ag (.axsHmCtl n) fAxsHmCtl_ABORT 1)
  | .chkClr _ ag n => some (ag, .axsFbStat n, st.wordWith ag (.axsFbStat n) fAxsFbStat_CHK_CLR 1)
  | .latchArm _ ag c l => some (ag, .encLatCtl c, st.wordWith ag (.encLatCtl c) (fEncLatCtl_ARM l) 1)
  | .latchDisarm _ ag c l => some (ag, .encLatCtl c, st.wordWith ag (.encLatCtl c) (fEncLatCtl_DISARM l) 1)
  | .encErrClr _ ag c => some (ag, .encErr c, st.wordWith ag (.encErr c) fEncErr_CLR 1)
  | .shadowWrite _ ag n which v => some (ag, tcShadow which n, v)
  | .channelCommit _ ag n => some (ag, .tcCtl n, st.wordWith ag (.tcCtl n) fTcCtl_COMMIT 1)
  | .groupCommit _ ag g => some (ag, .sgCtl g, st.wordWith ag (.sgCtl g) fSgCtl_COMMIT 1)
  | .groupEnable _ ag g => some (ag, .sgCtl g, st.wordWith ag (.sgCtl g) fSgCtl_EN 1)
  | .groupDisable _ ag g => some (ag, .sgCtl g, st.wordWith ag (.sgCtl g) fSgCtl_EN 0)
  | .prechargeCmd _ ag g => some (ag, .sgCtl g, st.wordWith ag (.sgCtl g) fSgCtl_PRECHARGE 1)
  | .tripClr _ ag g => some (ag, .sgCtl g, st.wordWith ag (.sgCtl g) fSgCtl_TRIP_CLR 1)
  | .comparatorSelfTest _ ag k => some (ag, .cmpStat k, st.wordWith ag (.cmpStat k) fCmpStat_ST_CMD 1)
  | .tcCntClr _ ag n => some (ag, .tcStat n, st.wordWith ag (.tcStat n) fTcStat_CLR 1)
  | .coldStartRetry _ ag => some (ag, .netCsCtl, st.wordWith ag .netCsCtl fNetCsCtl_RETRY 1)
  | .handoverArm _ ag => some (ag, .twnCtl, st.wordWith ag .twnCtl fTwnCtl_HANDOVER 1)
  | .resync _ ag => some (ag, .twnCtl, st.wordWith ag .twnCtl fTwnCtl_RESYNC 1)
  | .twinCntClr _ ag => some (ag, .twnCtl, st.wordWith ag .twnCtl fTwnCtl_CNT_CLR 1)
  | .ptpPost _ ag d => some (ag, .domMCtl d, st.wordWith ag (.domMCtl d) fDomMCtl_POST 1)
  | .tsqClr _ ag => some (ag, .timTsqStat, st.wordWith ag .timTsqStat fTimTsqStat_CLR 1)
  | .comparatorArm _ ag i => some (ag, .ttCtl i, st.wordWith ag (.ttCtl i) fTtCtl_ARM 1)
  | .comparatorDisarm _ ag i => some (ag, .ttCtl i, st.wordWith ag (.ttCtl i) fTtCtl_DISARM 1)
  | .ringStage _ ag c len => some (ag, Reg.mirRingCtl c, wordPut (wordPut 0 fMirRingCtl_LEN_NEW len) fMirRingCtl_STAGE 1)
  | .mirageArm _ ag c => some (ag, .mirCtl c, st.wordWith ag (.mirCtl c) fMirCtl_ARM 1)
  | .mirageDisarm _ ag c => some (ag, .mirCtl c, st.wordWith ag (.mirCtl c) fMirCtl_DISARM 1)
  | .forceTrig _ ag c => some (ag, .mirCtl c, st.wordWith ag (.mirCtl c) fMirCtl_FORCE_TRIG 1)
  | .mirageCntClr _ ag c => some (ag, .mirCtl c, st.wordWith ag (.mirCtl c) fMirCtl_CNT_CLR 1)
  | .maskCfgWrite _ ag m v => some (ag, Reg.mirMaskCfg m, v)
  | .spoutPost _ ag => some (ag, .sptSubGo, st.wordWith ag .sptSubGo fSptSubGo_GO 1)
  | .spoutCntClr _ ag => some (ag, .sptCntClr, st.wordWith ag .sptCntClr fSptCntClr_CLR 1)
  | .complete _ ag k => some (ag, .coreDone k, st.wordWith ag (.coreDone k) fCoreDone_OP 1)
  | .block _ ag k mask all => some (ag, Reg.coreDone k, wordPut (wordPut (wordPut 0 fCoreDone_OP 2) fCoreDone_WAIT_MODE (b2n all)) fCoreDone_WAIT_MASK mask)
  | .yield _ ag k => some (ag, .coreDone k, st.wordWith ag (.coreDone k) fCoreDone_OP 3)
  | .flagSet _ ag t bits => some (ag, .taskFlagSet t, st.wordWith ag (.taskFlagSet t) fTaskFlagSet_BITS bits)
  | .flagClr _ ag t bits => some (ag, .taskFlagClr t, st.wordWith ag (.taskFlagClr t) fTaskFlagClr_BITS bits)
  | .workPost _ ag v => some (ag, Reg.sluPost, v)
  | .caravanStage _ ag v => some (ag, Reg.sluCvnCtl, v)
  | .watchdogKick _ ag k v => some (ag, Reg.coreWdog k, v)
  | .mailboxWrite _ ag n v => some (ag, Reg.mbData n, v)
  | .sharedMailboxWrite _ ag n v => some (ag, Reg.mbData n, v)
  | .mailboxWait _ ag n wait => some (ag, .mbWait n, st.wordWith ag (.mbWait n) fMbWait_WAIT (b2n wait))
  | .lockWrite _ ag n v => some (ag, Reg.lk n, v)
  | .lockForce _ ag n v => some (ag, Reg.lkStat n, v)
  | .doorbellSet _ ag a bits => some (ag, .dbSet a, st.wordWith ag (.dbSet a) fDbSet_BITS bits)
  | .doorbellClear _ ag a bits => some (ag, .dbPend a, st.wordWith ag (.dbPend a) fDbPend_BITS bits)
  | .zoneRequest _ ag z v => some (ag, Reg.zoneCtl z, v)
  | .passwordPresent _ ag v => some (ag, Reg.oasPwdCtl, v)
  | .passwordClear _ ag => some (ag, .oasPwdCtl, st.wordWith ag .oasPwdCtl fOasPwdCtl_CLEAR 1)
  | .slsPeakClr _ ag c => some (ag, .slsStat c, st.wordWith ag (.slsStat c) fSlsStat_CLR 1)
  | .dmaPost _ ag c v => some (ag, Reg.dmaPost c, v)
  | .dmaEnable _ ag c v => some (ag, Reg.dmaCtl c, v)
  | .spiVlogClr _ ag => some (ag, .hstSpiIrq, st.wordWith ag .hstSpiIrq fHstSpiIrq_VLOG_CLR 1)
  | .ethTxPost _ ag p v => some (ag, Reg.ethTxPost p, v)
  | .ethCntClr _ ag p => some (ag, .ethStat p, st.wordWith ag (.ethStat p) fEthStat_CLR 1)
  | .weirClose _ ag k _ => some (ag, .sysWeir k, st.wordWith ag (.sysWeir k) fSysWeir_CMD wcCLOSE)
  | .weirOpen _ ag k => some (ag, .sysWeir k, st.wordWith ag (.sysWeir k) fSysWeir_CMD wcOPEN)
  | .weirCycle _ ag k _ => some (ag, .sysWeir k, st.wordWith ag (.sysWeir k) fSysWeir_CMD wcCYCLE)
  | .weirPowerOff _ ag k _ => some (ag, .sysWeir k, st.wordWith ag (.sysWeir k) fSysWeir_CMD wcOFF)
  | .weirPowerOn _ ag k => some (ag, .sysWeir k, st.wordWith ag (.sysWeir k) fSysWeir_CMD wcON)
  | .flashRead _ ag slot addr => some (ag, Reg.sysFlashCtl,
    wordPut (wordPut (wordPut 0 fSysFlashCtl_OP 1) fSysFlashCtl_SLOT slot) fSysFlashCtl_ADDR addr)
  | .flashProgram _ ag slot addr => some (ag, Reg.sysFlashCtl,
    wordPut (wordPut (wordPut 0 fSysFlashCtl_OP 2) fSysFlashCtl_SLOT slot) fSysFlashCtl_ADDR addr)
  | .flashErase _ ag slot addr => some (ag, Reg.sysFlashCtl,
    wordPut (wordPut (wordPut 0 fSysFlashCtl_OP 3) fSysFlashCtl_SLOT slot) fSysFlashCtl_ADDR addr)
  | _ => none

/-- Commands that store nothing: no byte of any memory changes in them, whatever the state is. -/
def Instr.storesNothing (c : Instr) : Bool :=
  match c with
  | .bootHeaders .. | .imageReadComplete .. | .selfTestsComplete .. | .partnerArmed .. | .flashOpComplete ..
  | .syncOutPulseEnd .. | .cascadePassEnd .. | .encoderEdge .. | .hallCodeChange .. | .indexEvent ..
  | .serialFrameStart .. | .serialFrameComplete .. | .serialTimeout .. | .standstillTimeout .. | .latchCapture ..
  | .frameStart .. | .frameHeader .. | .guardianWindowOpen .. | .idleReceived .. | .forwardCopyStart ..
  | .repeatStart .. | .repeatCut .. | .feedbackFrameSend .. | .ownFrameEnd .. | .rangeRequestSend ..
  | .rangeRequestAdmit .. | .rangeResponseSend .. | .rangeResponseReceived .. | .rangingTimeout .. | .commandLoss ..
  | .dynamicFrameSend .. | .uplinkFrameSend .. | .serviceRequest .. | .syncReceived .. | .syncMissing ..
  | .jetGrant .. | .jetTimeRefusal .. | .commandFrameLaunch .. | .delayedCommandLaunch .. | .jetCheckFailure ..
  | .jetSelfTestEnd .. | .jetRotation .. | .signalDetected .. | .linkAcquired .. | .acquireTimeout .. | .linkUp ..
  | .adaptTimeout .. | .signalLost .. | .codeErrorLimit .. | .invalidCodeGroup .. | .absRecord .. | .rearmHoldEnd ..
  | .xtlRelease .. | .uploadComplete .. | .camCheckComplete .. | .predictionDone .. | .safetyTick ..
  | .discrepancyFault .. | .ss1Timeout .. | .testPulse .. | .edmTimeout .. | .slsDelayEnd .. | .slsWindowEnd ..
  | .srstEdge .. | .srstStuck .. | .oasisRailFault .. | .containerReceived .. | .connectionWatchdog ..
  | .passwordExpiry .. | .presentLockEnd .. | .pcieLinkReset .. | .perst .. | .perstRelease .. | .pcieLinkUp ..
  | .dmaTransferStart .. | .dmaBufferReturn .. | .bufferLent .. | .spiUnknownCommand .. | .ethFrameSent ..
  | .ethLinkChange .. | .idcode .. | .samplePreload .. | .extest .. | .extestPulse .. | .extestTrain .. | .clamp ..
  | .highz .. | .dbgAccess .. | .fuseProg .. | .bypass .. | .tapReset .. | .pllLock .. | .sequencerStart ..
  | .sequencerStep .. | .powerDownStep .. | .railMeasurement .. | .faultWaitEnd .. | .pmbusPoll .. | .pmbusReply ..
  | .pmbAlert .. | .resetRelease .. | .temperatureReading .. | .pwmPeriodBoundary .. | .compareEdge ..
  | .shootThroughTrip .. | .shutdownEnd .. | .prechargeOnEnd .. | .prechargeComplete .. | .prechargeExpiry ..
  | .hardTrip .. | .fastQualified .. | .fastTrip .. | .tripSnapshotClose .. | .sinc3Result .. | .sinc2Result ..
  | .sdStuck .. | .comparatorSelfTestEnd .. | .ageLimitRefusal .. | .dispatchDeadline .. | .waitTimeout ..
  | .machineTimerInterrupt .. | .mailboxTimeout .. | .crosswaitDetection .. | .spoutJobStart .. | .spoutPreemption ..
  | .spoutJobTimeout .. | .stopTimeout .. | .atRestSet .. | .currentReduction .. | .debounceChange ..
  | .limitBlockRelease .. | .referenceEdge .. | .captureWindowEnd .. | .hardStopDwellEnd .. | .domainTimeout ..
  | .domainRevert .. | .holdoverLimit .. | .lineTimeLocked .. | .pulseEnd .. | .listenEnd .. | .coldStartComplete ..
  | .collision .. | .backoffEnd .. | .coldStartEcho .. | .coldStartBlock .. | .foreignHead .. | .headBlocked ..
  | .statusSend .. | .statusReceived .. | .digestSend .. | .digestReceived .. | .digestMiss .. | .standbyEntry ..
  | .copySend .. | .mirrorRetransmit .. | .abdication .. | .deafnessEvaluation .. | .pullSend ..
  | .lateReplyDiscard .. => true
  | _ => false

end Sys2Proof
end

