-- ==== Sys2Proof/WellFormed.lean ====
section
/-! DEFINITION. Which commands are well formed: the indices that the spec gives each unit, and the sizes it gives each list. -/
namespace Sys2Proof

/-- An agent that makes accesses (R120). -/
def agentOk (a : Nat) : Bool := decide (1 ≤ a ∧ a ≤ 16)

/-- A COUNT of an SPI transaction (R659). -/
def countOk (n : Nat) : Bool := decide (1 ≤ n ∧ n ≤ 32)

/-- An axis. -/
def axisOk (n : Nat) : Bool := decide (n < 192)

/-- A mailbox. -/
def boxOk (n : Nat) : Bool := decide (n < 64)

/-- A word of the flash buffer. -/
def bufferOk (n : Nat) : Bool := decide (n < 64)

/-- A cam table. -/
def camOk (n : Nat) : Bool := decide (n < 64)

/-- A comparator. -/
def comparatorOk (n : Nat) : Bool := decide (n < 36)

/-- A connection. -/
def connectionOk (n : Nat) : Bool := decide (n < 192)

/-- A core. -/
def coreOk (n : Nat) : Bool := decide (n < 8)

/-- A DMA channel. -/
def dmaOk (n : Nat) : Bool := decide (n < 4)

/-- A clock domain. -/
def domainOk (n : Nat) : Bool := decide (n < 2)

/-- A port of a drive: P0 to P3. -/
def drivePortOk (n : Nat) : Bool := decide (n < 4)

/-- An encoder channel. -/
def encoderOk (n : Nat) : Bool := decide (n < 12)

/-- An Ethernet port. -/
def ethOk (n : Nat) : Bool := decide (n < 2)

/-- A flow. -/
def flowOk (n : Nat) : Bool := decide (n < 192)

/-- A forwarding entry. -/
def forwardOk (n : Nat) : Bool := decide (n < 192)

/-- A switch group. -/
def groupOk (n : Nat) : Bool := decide (n < 12)

/-- A safety input. -/
def inputOk (n : Nat) : Bool := decide (n < 16)

/-- A Jet. -/
def jetOk (n : Nat) : Bool := decide (n < 17)

/-- A position latch. -/
def latchOk (n : Nat) : Bool := decide (n < 2)

/-- A limit or home input, or a shadow register. -/
def limitOk (n : Nat) : Bool := decide (n < 3)

/-- A line master, or a command of a PMBus poll. -/
def lineOk (n : Nat) : Bool := decide (n < 4)

/-- A lock. -/
def lockOk (n : Nat) : Bool := decide (n < 64)

/-- A mask. -/
def maskOk (n : Nat) : Bool := decide (n < 8)

/-- A Mirage channel. -/
def mirageOk (n : Nat) : Bool := decide (n < 32)

/-- A group of axes. -/
def moveGroupOk (n : Nat) : Bool := decide (n < 32)

/-- A node. -/
def nodeOk (n : Nat) : Bool := decide (n < 128)

/-- A safety output. -/
def outputOk (n : Nat) : Bool := decide (n < 8)

/-- A port: P0 to P63, HL0, HL1. -/
def portOk (n : Nat) : Bool := decide (n < 66)

/-- A rail. -/
def railOk (n : Nat) : Bool := decide (n < 7)

/-- A regulator. -/
def regulatorOk (n : Nat) : Bool := decide (n < 8)

/-- A requester of a unit. -/
def requesterOk (n : Nat) : Bool := decide (n < 192)

/-- A sigma-delta input. -/
def sigmaOk (n : Nat) : Bool := decide (n < 48)

/-- A flash slot. -/
def slotOk (n : Nat) : Bool := decide (n < 2)

/-- An SLS monitor. -/
def slsOk (n : Nat) : Bool := decide (n < 12)

/-- A Sluice task. -/
def taskOk (n : Nat) : Bool := decide (n < 128)

/-- A timer channel. -/
def timerOk (n : Nat) : Bool := decide (n < 48)

/-- A time comparator. -/
def triggerOk (n : Nat) : Bool := decide (n < 32)

/-- An arbitrated unit. -/
def unitOk (n : Nat) : Bool := decide (n < 9)

/-- A weir. -/
def weirOk (n : Nat) : Bool := decide (n < 508)

/-- A zone. -/
def zoneOk (n : Nat) : Bool := decide (n < 8)

/-- A command whose operands lie in their ranges. -/
def Instr.wf : Instr → Bool
  | .registerWrite _ ag _ _ => agentOk ag
  | .lowWordRead _ ag _ => agentOk ag
  | .highWordRead _ ag _ => agentOk ag
  | .lowWordWrite _ ag _ _ => agentOk ag
  | .highWordWrite _ ag _ _ => agentOk ag
  | .narrowAccess _ ag _ n ty _ => agentOk ag && [1, 2, 4, 8].contains n && decide (ty < 5)
  | .basinLiveBankWrite _ ag _ _ => agentOk ag
  | .cycleBoundary _ => true
  | .syncOutPulseEnd _ => true
  | .feedbackRecordComplete _ p _ => portOk p
  | .scheduledTaskRelease _ n => axisOk n
  | .jetGrant _ => true
  | .jetTaskEnd _ j _ => jetOk j
  | .jetTimeRefusal _ n => axisOk n
  | .commandFrameLaunch _ k => nodeOk k
  | .delayedCommandLaunch _ k => nodeOk k
  | .jetCheckFailure _ j _ => jetOk j
  | .jetSelfTestEnd _ j _ => jetOk j
  | .jetSwap _ ag => agentOk ag
  | .jetRotation _ => true
  | .jetCntClr _ ag => agentOk ag
  | .frameStart _ p => portOk p
  | .frameHeader _ p _ _ => portOk p
  | .frameCheck _ p _ _ _ => portOk p
  | .guardianWindowClose _ p _ _ => portOk p
  | .forwardCopyStart _ e => forwardOk e
  | .outputInstant _ => true
  | .commandFrameReceived _ => true
  | .cascadePass _ => true
  | .cascadePassEnd _ => true
  | .pllLock _ => true
  | .pllLossOfLock _ _ => true
  | .clockWindowEnd _ _ => true
  | .powerOnReset _ => true
  | .sequencerStart _ _ => true
  | .sequencerStep _ _ => true
  | .pgTimeout _ => true
  | .powerDownStep _ => true
  | .railMeasurement _ k _ _ => railOk k
  | .railFault _ k => railOk k
  | .faultWaitEnd _ => true
  | .pmbusPoll _ => true
  | .pmbusReply _ n c _ _ _ => regulatorOk n && lineOk c
  | .pmbAlert _ => true
  | .resetNLow _ _ _ => true
  | .resetRelease _ => true
  | .softwareResetRequest _ ag => agentOk ag
  | .softwareChipReset _ => true
  | .weirClose _ ag k _ => agentOk ag && weirOk k
  | .weirOpen _ ag k => agentOk ag && weirOk k
  | .weirCycle _ ag k _ => agentOk ag && weirOk k
  | .weirPowerOff _ ag k _ => agentOk ag && weirOk k
  | .weirPowerOn _ ag k => agentOk ag && weirOk k
  | .weirCntClr _ ag k => agentOk ag && weirOk k
  | .drainComplete _ k => weirOk k
  | .drainTimeout _ k => weirOk k
  | .unitPowerUpComplete _ k => weirOk k
  | .unitResetComplete _ k _ => weirOk k
  | .lateReplyDiscard _ k _ => weirOk k
  | .bootHeaders _ => true
  | .imageReadComplete _ _ => true
  | .unitConfigurationComplete _ _ _ _ => true
  | .startupAdmissionComplete _ => true
  | .selfTestsComplete _ _ _ _ _ => true
  | .imageSwitchGo _ ag _ => agentOk ag
  | .imageSwitchCancel _ ag => agentOk ag
  | .imageVerifyComplete _ _ _ => true
  | .imageStagingComplete _ => true
  | .imageSwitchDeadline _ => true
  | .partnerArmed _ _ _ => true
  | .flashRead _ ag slot _ => agentOk ag && slotOk slot
  | .flashProgram _ ag slot _ => agentOk ag && slotOk slot
  | .flashErase _ ag slot _ => agentOk ag && slotOk slot
  | .flashOpComplete _ _ => true
  | .flashBufWrite _ ag i _ => agentOk ag && bufferOk i
  | .arbitrationRequest _ u r _ _ _ _ _ => unitOk u && requesterOk r
  | .arbitrationGrant _ u => unitOk u
  | .ageLimitRefusal _ u => unitOk u
  | .admissionCheckCmd _ ag _ => agentOk ag
  | .admissionCheckComplete _ => true
  | .reqWaitClr _ ag u r => agentOk ag && unitOk u && requesterOk r
  | .boundMissClr _ ag u => agentOk ag && unitOk u
  | .vlogClr _ ag => agentOk ag
  | .stageRequest _ ag n _ => agentOk ag && axisOk n
  | .stageCancel _ ag n => agentOk ag && axisOk n
  | .enable _ ag n => agentOk ag && axisOk n
  | .disable _ ag n => agentOk ag && axisOk n
  | .stop _ ag n => agentOk ag && axisOk n
  | .quickStop _ ag n => agentOk ag && axisOk n
  | .faultReset _ ag n => agentOk ag && axisOk n
  | .ageStatClr _ ag n => agentOk ag && axisOk n
  | .vlimCntClr _ ag n => agentOk ag && axisOk n
  | .movePush _ ag n => agentOk ag && axisOk n
  | .moveFlush _ ag n => agentOk ag && axisOk n
  | .changeApply _ ag n => agentOk ag && axisOk n
  | .engage _ ag n => agentOk ag && axisOk n
  | .disengage _ ag n => agentOk ag && axisOk n
  | .camSwitch _ ag n => agentOk ag && axisOk n
  | .followCancel _ ag n => agentOk ag && axisOk n
  | .groupGo _ ag g => agentOk ag && moveGroupOk g
  | .camDescriptorWrite _ ag t _ => agentOk ag && camOk t
  | .camCheckComplete _ t => camOk t
  | .camStoreWrite _ ag _ _ => agentOk ag
  | .lineMasterPush _ ag l => agentOk ag && lineOk l
  | .lineMasterReanchor _ ag l => agentOk ag && lineOk l
  | .lineMasterClear _ ag l => agentOk ag && lineOk l
  | .lineMasterPredict _ ag l _ => agentOk ag && lineOk l
  | .predictionDone _ l => lineOk l
  | .stopTimeout _ n => axisOk n
  | .atRestSet _ n => axisOk n
  | .currentReduction _ n => axisOk n
  | .debounceChange _ n i => axisOk n && limitOk i
  | .limitBlockRelease _ n i => axisOk n && limitOk i
  | .limitStatClr _ ag n => agentOk ag && axisOk n
  | .homingStart _ ag n => agentOk ag && axisOk n
  | .homingAbort _ ag n => agentOk ag && axisOk n
  | .referenceEdge _ n i _ => axisOk n && limitOk i
  | .captureWindowEnd _ n => axisOk n
  | .hardStopDwellEnd _ n => axisOk n
  | .encoderEdge _ c _ _ => encoderOk c
  | .hallCodeChange _ c _ => encoderOk c
  | .indexEvent _ c => encoderOk c
  | .serialFrameStart _ c _ => encoderOk c
  | .serialFrameComplete _ c _ => encoderOk c
  | .serialTimeout _ c => encoderOk c
  | .standstillTimeout _ c => encoderOk c
  | .chkClr _ ag n => agentOk ag && axisOk n
  | .latchArm _ ag c l => agentOk ag && encoderOk c && latchOk l
  | .latchDisarm _ ag c l => agentOk ag && encoderOk c && latchOk l
  | .latchCapture _ c l _ _ => encoderOk c && latchOk l
  | .encErrClr _ ag c => agentOk ag && encoderOk c
  | .pwmPeriodBoundary _ n => timerOk n
  | .shadowWrite _ ag n which _ => agentOk ag && timerOk n && limitOk which
  | .channelCommit _ ag n => agentOk ag && timerOk n
  | .groupCommit _ ag g => agentOk ag && groupOk g
  | .compareEdge _ n => timerOk n
  | .shootThroughTrip _ n => timerOk n
  | .groupEnable _ ag g => agentOk ag && groupOk g
  | .groupDisable _ ag g => agentOk ag && groupOk g
  | .shutdownEnd _ g => groupOk g
  | .prechargeCmd _ ag g => agentOk ag && groupOk g
  | .prechargeOnEnd _ g => groupOk g
  | .prechargeComplete _ g => groupOk g
  | .prechargeExpiry _ g => groupOk g
  | .hardTrip _ k _ => comparatorOk k
  | .fastQualified _ k _ => comparatorOk k
  | .fastTrip _ k => comparatorOk k
  | .tripSnapshotClose _ g => groupOk g
  | .tripClr _ ag g => agentOk ag && groupOk g
  | .sinc3Result _ i _ => sigmaOk i
  | .sinc2Result _ i _ => sigmaOk i
  | .sdStuck _ i => sigmaOk i
  | .comparatorSelfTest _ ag k => agentOk ag && comparatorOk k
  | .comparatorSelfTestEnd _ k _ => comparatorOk k
  | .tcCntClr _ ag n => agentOk ag && timerOk n
  | .signalDetected _ p => portOk p
  | .linkAcquired _ p _ => portOk p
  | .acquireTimeout _ p => portOk p
  | .linkUp _ p _ => portOk p
  | .adaptTimeout _ p => portOk p
  | .signalLost _ p => portOk p
  | .codeErrorLimit _ p => portOk p
  | .retrain _ ag p => agentOk ag && portOk p
  | .portTest _ ag p _ => agentOk ag && portOk p
  | .portTestExit _ ag p => agentOk ag && portOk p
  | .invalidCodeGroup _ p _ => portOk p
  | .syncReceived _ p _ _ _ => portOk p
  | .syncMissing _ _ => true
  | .repeatStart _ p _ _ _ _ => drivePortOk p
  | .repeatCut _ o => drivePortOk o
  | .portCntClr _ ag p => agentOk ag && portOk p
  | .feedbackFrameSend _ => true
  | .ownFrameEnd _ p => drivePortOk p
  | .rangeRequestSend _ _ => true
  | .rangeRequestAdmit _ p => portOk p
  | .rangeResponseSend _ p => portOk p
  | .rangeResponseReceived _ _ => true
  | .rangingTimeout _ _ => true
  | .commandLoss _ => true
  | .flowPost _ ag f _ => agentOk ag && flowOk f
  | .dynamicFrameSend _ _ => true
  | .uplinkFrameSend _ => true
  | .dynamicFrameStore _ => true
  | .serviceRequest _ => true
  | .serviceResponse _ => true
  | .netCntClr _ ag => agentOk ag
  | .listenEnd _ => true
  | .coldStartComplete _ => true
  | .collision _ _ => true
  | .backoffEnd _ => true
  | .coldStartRetry _ ag => agentOk ag
  | .coldStartEcho _ => true
  | .coldStartBlock _ _ => true
  | .foreignHead _ _ => true
  | .statusSend _ => true
  | .statusReceived _ => true
  | .digestSend _ => true
  | .digestReceived _ => true
  | .digestMiss _ => true
  | .standbyEntry _ => true
  | .copySend _ => true
  | .copyLoad _ => true
  | .mirrorReceived _ => true
  | .mirrorRetransmit _ => true
  | .abdication _ _ => true
  | .handoverArm _ ag => agentOk ag
  | .deafnessEvaluation _ => true
  | .headLinkLoss _ => true
  | .resync _ ag => agentOk ag
  | .pullSend _ p => portOk p
  | .pullReceived _ => true
  | .twinCntClr _ ag => agentOk ag
  | .ptpPost _ ag d => agentOk ag && domainOk d
  | .domainTimeout _ d => domainOk d
  | .domainRevert _ => true
  | .holdoverLimit _ => true
  | .timestampRead _ ag => agentOk ag
  | .tsqClr _ ag => agentOk ag
  | .comparatorArm _ ag i => agentOk ag && triggerOk i
  | .comparatorDisarm _ ag i => agentOk ag && triggerOk i
  | .comparatorFire _ => true
  | .pulseEnd _ i => triggerOk i
  | .mirageSample _ c _ => mirageOk c
  | .absRecord _ c => mirageOk c
  | .ringStage _ ag c _ => agentOk ag && mirageOk c
  | .mirageArm _ ag c => agentOk ag && mirageOk c
  | .mirageDisarm _ ag c => agentOk ag && mirageOk c
  | .forceTrig _ ag c => agentOk ag && mirageOk c
  | .rearmHoldEnd _ c => mirageOk c
  | .preEntry _ c => mirageOk c
  | .triggerAct _ c _ => mirageOk c
  | .postTimeout _ c => mirageOk c
  | .xtlRelease _ c => mirageOk c
  | .streamUpload _ c => mirageOk c
  | .uploadComplete _ c => mirageOk c
  | .mirageCntClr _ ag c => agentOk ag && mirageOk c
  | .maskCfgWrite _ ag m _ => agentOk ag && maskOk m
  | .spoutPost _ ag => agentOk ag
  | .spoutJobStart _ => true
  | .spoutPreemption _ => true
  | .spoutJobTimeout _ => true
  | .extResponse _ t _ => taskOk t
  | .spoutCntClr _ ag => agentOk ag
  | .programWordWrite _ ag _ _ => agentOk ag
  | .nop _ _ => true
  | .ld _ _ => true
  | .st _ _ => true
  | .ldi _ _ => true
  | .lpi _ _ => true
  | .ldc _ _ => true
  | .addp _ _ => true
  | .mpy _ _ => true
  | .mac _ _ => true
  | .msu _ _ => true
  | .mxy _ _ => true
  | .mxp _ _ => true
  | .clr _ _ => true
  | .seta _ _ => true
  | .adda _ _ => true
  | .suba _ _ => true
  | .ash _ _ => true
  | .absa _ _ => true
  | .rnd _ _ => true
  | .rnds _ _ => true
  | .pkd _ _ => true
  | .bfly _ _ => true
  | .bscl _ _ => true
  | .bclr _ _ => true
  | .repeatNext _ _ => true
  | .doLoop _ _ => true
  | .branch _ _ => true
  | .halt _ _ => true
  | .lde _ _ => true
  | .ste _ _ => true
  | .illegal _ _ => true
  | .dispatchRead _ ag k => agentOk ag && coreOk k
  | .dispatchGrant _ k => coreOk k
  | .dispatchDeadline _ k => coreOk k
  | .complete _ ag k => agentOk ag && coreOk k
  | .block _ ag k _ _ => agentOk ag && coreOk k
  | .yield _ ag k => agentOk ag && coreOk k
  | .waitTimeout _ t => taskOk t
  | .flagSet _ ag t _ => agentOk ag && taskOk t
  | .flagClr _ ag t _ => agentOk ag && taskOk t
  | .workPost _ ag _ => agentOk ag
  | .caravanStage _ ag _ => agentOk ag
  | .machineTimerInterrupt _ k => coreOk k
  | .watchdogExpiry _ k => coreOk k
  | .watchdogKick _ ag k _ => agentOk ag && coreOk k
  | .mailboxWrite _ ag n _ => agentOk ag && boxOk n
  | .sharedMailboxWrite _ ag n _ => agentOk ag && boxOk n
  | .mailboxRead _ ag n => agentOk ag && boxOk n
  | .mailboxTimeout _ n => boxOk n
  | .mailboxWait _ ag n _ => agentOk ag && boxOk n
  | .crosswaitDetection _ => true
  | .lockRead _ ag n => agentOk ag && lockOk n
  | .lockWrite _ ag n _ => agentOk ag && lockOk n
  | .lockForce _ ag n _ => agentOk ag && lockOk n
  | .doorbellSet _ ag a _ => agentOk ag && agentOk a
  | .doorbellClear _ ag a _ => agentOk ag && agentOk a
  | .safetyTick _ _ _ _ _ _ => true
  | .discrepancyFault _ i => inputOk i
  | .ss1Timeout _ z => zoneOk z
  | .testPulse _ o _ _ => outputOk o
  | .edmTimeout _ o => outputOk o
  | .slsDelayEnd _ z => zoneOk z
  | .slsWindowEnd _ c => slsOk c
  | .srstEdge _ => true
  | .srstStuck _ => true
  | .oasisRailFault _ _ => true
  | .containerReceived _ => true
  | .connectionWatchdog _ c => connectionOk c
  | .zoneRequest _ ag z _ => agentOk ag && zoneOk z
  | .passwordPresent _ ag _ => agentOk ag
  | .passwordClear _ ag => agentOk ag
  | .passwordExpiry _ => true
  | .presentLockEnd _ => true
  | .slsPeakClr _ ag c => agentOk ag && slsOk c
  | .pcieRequest _ _ _ _ _ => true
  | .pcieLinkReset _ _ => true
  | .perst _ _ => true
  | .dmaPost _ ag c _ => agentOk ag && dmaOk c
  | .dmaEnable _ ag c _ => agentOk ag && dmaOk c
  | .dmaTransferStart _ c _ => dmaOk c
  | .dmaBufferReturn _ c _ _ _ _ => dmaOk c
  | .spiRead _ count _ => countOk count
  | .spiQread _ count _ => countOk count
  | .spiWrite _ _ data => countOk data.length
  | .spiQwrite _ _ data => countOk data.length
  | .spiUnknownCommand _ => true
  | .spiCsAbort _ _ _ _ _ => true
  | .spiVlogClr _ ag => agentOk ag
  | .ethFrameReceived _ p _ _ => ethOk p
  | .ethTxPost _ ag p _ => agentOk ag && ethOk p
  | .ethFrameSent _ p _ => ethOk p
  | .ethLinkChange _ p _ => ethOk p
  | .ethCntClr _ ag p => agentOk ag && ethOk p
  | .idcode _ => true
  | .samplePreload _ _ => true
  | .extest _ => true
  | .extestPulse _ => true
  | .extestTrain _ => true
  | .clamp _ => true
  | .highz _ => true
  | .dbgAccess _ => true
  | .debugSlotAccess _ _ _ _ => true
  | .fuseProg _ _ _ => true
  | .bypass _ => true
  | .tapReset _ => true
  | .temperatureReading _ _ => true
  | .tjMaxClr _ ag => agentOk ag
  | .stagedBankWrite _ ag _ _ => agentOk ag
  | .lineTimeLocked _ => true
  | .idleReceived _ p => portOk p
  | .guardianWindowOpen _ p => portOk p
  | .headBlocked _ => true
  | .perstRelease _ => true
  | .pcieLinkUp _ _ _ => true
  | .bufferLent _ c => dmaOk c

/-- The ticks that pass before a command acts: its first operand. -/
def Instr.ticks : Instr → Nat
  | .registerWrite dt _ _ _ => dt
  | .lowWordRead dt _ _ => dt
  | .highWordRead dt _ _ => dt
  | .lowWordWrite dt _ _ _ => dt
  | .highWordWrite dt _ _ _ => dt
  | .narrowAccess dt _ _ _ _ _ => dt
  | .basinLiveBankWrite dt _ _ _ => dt
  | .cycleBoundary dt => dt
  | .syncOutPulseEnd dt => dt
  | .feedbackRecordComplete dt _ _ => dt
  | .scheduledTaskRelease dt _ => dt
  | .jetGrant dt => dt
  | .jetTaskEnd dt _ _ => dt
  | .jetTimeRefusal dt _ => dt
  | .commandFrameLaunch dt _ => dt
  | .delayedCommandLaunch dt _ => dt
  | .jetCheckFailure dt _ _ => dt
  | .jetSelfTestEnd dt _ _ => dt
  | .jetSwap dt _ => dt
  | .jetRotation dt => dt
  | .jetCntClr dt _ => dt
  | .frameStart dt _ => dt
  | .frameHeader dt _ _ _ => dt
  | .frameCheck dt _ _ _ _ => dt
  | .guardianWindowClose dt _ _ _ => dt
  | .forwardCopyStart dt _ => dt
  | .outputInstant dt => dt
  | .commandFrameReceived dt => dt
  | .cascadePass dt => dt
  | .cascadePassEnd dt => dt
  | .pllLock dt => dt
  | .pllLossOfLock dt _ => dt
  | .clockWindowEnd dt _ => dt
  | .powerOnReset dt => dt
  | .sequencerStart dt _ => dt
  | .sequencerStep dt _ => dt
  | .pgTimeout dt => dt
  | .powerDownStep dt => dt
  | .railMeasurement dt _ _ _ => dt
  | .railFault dt _ => dt
  | .faultWaitEnd dt => dt
  | .pmbusPoll dt => dt
  | .pmbusReply dt _ _ _ _ _ => dt
  | .pmbAlert dt => dt
  | .resetNLow dt _ _ => dt
  | .resetRelease dt => dt
  | .softwareResetRequest dt _ => dt
  | .softwareChipReset dt => dt
  | .weirClose dt _ _ _ => dt
  | .weirOpen dt _ _ => dt
  | .weirCycle dt _ _ _ => dt
  | .weirPowerOff dt _ _ _ => dt
  | .weirPowerOn dt _ _ => dt
  | .weirCntClr dt _ _ => dt
  | .drainComplete dt _ => dt
  | .drainTimeout dt _ => dt
  | .unitPowerUpComplete dt _ => dt
  | .unitResetComplete dt _ _ => dt
  | .lateReplyDiscard dt _ _ => dt
  | .bootHeaders dt => dt
  | .imageReadComplete dt _ => dt
  | .unitConfigurationComplete dt _ _ _ => dt
  | .startupAdmissionComplete dt => dt
  | .selfTestsComplete dt _ _ _ _ => dt
  | .imageSwitchGo dt _ _ => dt
  | .imageSwitchCancel dt _ => dt
  | .imageVerifyComplete dt _ _ => dt
  | .imageStagingComplete dt => dt
  | .imageSwitchDeadline dt => dt
  | .partnerArmed dt _ _ => dt
  | .flashRead dt _ _ _ => dt
  | .flashProgram dt _ _ _ => dt
  | .flashErase dt _ _ _ => dt
  | .flashOpComplete dt _ => dt
  | .flashBufWrite dt _ _ _ => dt
  | .arbitrationRequest dt _ _ _ _ _ _ _ => dt
  | .arbitrationGrant dt _ => dt
  | .ageLimitRefusal dt _ => dt
  | .admissionCheckCmd dt _ _ => dt
  | .admissionCheckComplete dt => dt
  | .reqWaitClr dt _ _ _ => dt
  | .boundMissClr dt _ _ => dt
  | .vlogClr dt _ => dt
  | .stageRequest dt _ _ _ => dt
  | .stageCancel dt _ _ => dt
  | .enable dt _ _ => dt
  | .disable dt _ _ => dt
  | .stop dt _ _ => dt
  | .quickStop dt _ _ => dt
  | .faultReset dt _ _ => dt
  | .ageStatClr dt _ _ => dt
  | .vlimCntClr dt _ _ => dt
  | .movePush dt _ _ => dt
  | .moveFlush dt _ _ => dt
  | .changeApply dt _ _ => dt
  | .engage dt _ _ => dt
  | .disengage dt _ _ => dt
  | .camSwitch dt _ _ => dt
  | .followCancel dt _ _ => dt
  | .groupGo dt _ _ => dt
  | .camDescriptorWrite dt _ _ _ => dt
  | .camCheckComplete dt _ => dt
  | .camStoreWrite dt _ _ _ => dt
  | .lineMasterPush dt _ _ => dt
  | .lineMasterReanchor dt _ _ => dt
  | .lineMasterClear dt _ _ => dt
  | .lineMasterPredict dt _ _ _ => dt
  | .predictionDone dt _ => dt
  | .stopTimeout dt _ => dt
  | .atRestSet dt _ => dt
  | .currentReduction dt _ => dt
  | .debounceChange dt _ _ => dt
  | .limitBlockRelease dt _ _ => dt
  | .limitStatClr dt _ _ => dt
  | .homingStart dt _ _ => dt
  | .homingAbort dt _ _ => dt
  | .referenceEdge dt _ _ _ => dt
  | .captureWindowEnd dt _ => dt
  | .hardStopDwellEnd dt _ => dt
  | .encoderEdge dt _ _ _ => dt
  | .hallCodeChange dt _ _ => dt
  | .indexEvent dt _ => dt
  | .serialFrameStart dt _ _ => dt
  | .serialFrameComplete dt _ _ => dt
  | .serialTimeout dt _ => dt
  | .standstillTimeout dt _ => dt
  | .chkClr dt _ _ => dt
  | .latchArm dt _ _ _ => dt
  | .latchDisarm dt _ _ _ => dt
  | .latchCapture dt _ _ _ _ => dt
  | .encErrClr dt _ _ => dt
  | .pwmPeriodBoundary dt _ => dt
  | .shadowWrite dt _ _ _ _ => dt
  | .channelCommit dt _ _ => dt
  | .groupCommit dt _ _ => dt
  | .compareEdge dt _ => dt
  | .shootThroughTrip dt _ => dt
  | .groupEnable dt _ _ => dt
  | .groupDisable dt _ _ => dt
  | .shutdownEnd dt _ => dt
  | .prechargeCmd dt _ _ => dt
  | .prechargeOnEnd dt _ => dt
  | .prechargeComplete dt _ => dt
  | .prechargeExpiry dt _ => dt
  | .hardTrip dt _ _ => dt
  | .fastQualified dt _ _ => dt
  | .fastTrip dt _ => dt
  | .tripSnapshotClose dt _ => dt
  | .tripClr dt _ _ => dt
  | .sinc3Result dt _ _ => dt
  | .sinc2Result dt _ _ => dt
  | .sdStuck dt _ => dt
  | .comparatorSelfTest dt _ _ => dt
  | .comparatorSelfTestEnd dt _ _ => dt
  | .tcCntClr dt _ _ => dt
  | .signalDetected dt _ => dt
  | .linkAcquired dt _ _ => dt
  | .acquireTimeout dt _ => dt
  | .linkUp dt _ _ => dt
  | .adaptTimeout dt _ => dt
  | .signalLost dt _ => dt
  | .codeErrorLimit dt _ => dt
  | .retrain dt _ _ => dt
  | .portTest dt _ _ _ => dt
  | .portTestExit dt _ _ => dt
  | .invalidCodeGroup dt _ _ => dt
  | .syncReceived dt _ _ _ _ => dt
  | .syncMissing dt _ => dt
  | .repeatStart dt _ _ _ _ _ => dt
  | .repeatCut dt _ => dt
  | .portCntClr dt _ _ => dt
  | .feedbackFrameSend dt => dt
  | .ownFrameEnd dt _ => dt
  | .rangeRequestSend dt _ => dt
  | .rangeRequestAdmit dt _ => dt
  | .rangeResponseSend dt _ => dt
  | .rangeResponseReceived dt _ => dt
  | .rangingTimeout dt _ => dt
  | .commandLoss dt => dt
  | .flowPost dt _ _ _ => dt
  | .dynamicFrameSend dt _ => dt
  | .uplinkFrameSend dt => dt
  | .dynamicFrameStore dt => dt
  | .serviceRequest dt => dt
  | .serviceResponse dt => dt
  | .netCntClr dt _ => dt
  | .listenEnd dt => dt
  | .coldStartComplete dt => dt
  | .collision dt _ => dt
  | .backoffEnd dt => dt
  | .coldStartRetry dt _ => dt
  | .coldStartEcho dt => dt
  | .coldStartBlock dt _ => dt
  | .foreignHead dt _ => dt
  | .statusSend dt => dt
  | .statusReceived dt => dt
  | .digestSend dt => dt
  | .digestReceived dt => dt
  | .digestMiss dt => dt
  | .standbyEntry dt => dt
  | .copySend dt => dt
  | .copyLoad dt => dt
  | .mirrorReceived dt => dt
  | .mirrorRetransmit dt => dt
  | .abdication dt _ => dt
  | .handoverArm dt _ => dt
  | .deafnessEvaluation dt => dt
  | .headLinkLoss dt => dt
  | .resync dt _ => dt
  | .pullSend dt _ => dt
  | .pullReceived dt => dt
  | .twinCntClr dt _ => dt
  | .ptpPost dt _ _ => dt
  | .domainTimeout dt _ => dt
  | .domainRevert dt => dt
  | .holdoverLimit dt => dt
  | .timestampRead dt _ => dt
  | .tsqClr dt _ => dt
  | .comparatorArm dt _ _ => dt
  | .comparatorDisarm dt _ _ => dt
  | .comparatorFire dt => dt
  | .pulseEnd dt _ => dt
  | .mirageSample dt _ _ => dt
  | .absRecord dt _ => dt
  | .ringStage dt _ _ _ => dt
  | .mirageArm dt _ _ => dt
  | .mirageDisarm dt _ _ => dt
  | .forceTrig dt _ _ => dt
  | .rearmHoldEnd dt _ => dt
  | .preEntry dt _ => dt
  | .triggerAct dt _ _ => dt
  | .postTimeout dt _ => dt
  | .xtlRelease dt _ => dt
  | .streamUpload dt _ => dt
  | .uploadComplete dt _ => dt
  | .mirageCntClr dt _ _ => dt
  | .maskCfgWrite dt _ _ _ => dt
  | .spoutPost dt _ => dt
  | .spoutJobStart dt => dt
  | .spoutPreemption dt => dt
  | .spoutJobTimeout dt => dt
  | .extResponse dt _ _ => dt
  | .spoutCntClr dt _ => dt
  | .programWordWrite dt _ _ _ => dt
  | .nop dt _ => dt
  | .ld dt _ => dt
  | .st dt _ => dt
  | .ldi dt _ => dt
  | .lpi dt _ => dt
  | .ldc dt _ => dt
  | .addp dt _ => dt
  | .mpy dt _ => dt
  | .mac dt _ => dt
  | .msu dt _ => dt
  | .mxy dt _ => dt
  | .mxp dt _ => dt
  | .clr dt _ => dt
  | .seta dt _ => dt
  | .adda dt _ => dt
  | .suba dt _ => dt
  | .ash dt _ => dt
  | .absa dt _ => dt
  | .rnd dt _ => dt
  | .rnds dt _ => dt
  | .pkd dt _ => dt
  | .bfly dt _ => dt
  | .bscl dt _ => dt
  | .bclr dt _ => dt
  | .repeatNext dt _ => dt
  | .doLoop dt _ => dt
  | .branch dt _ => dt
  | .halt dt _ => dt
  | .lde dt _ => dt
  | .ste dt _ => dt
  | .illegal dt _ => dt
  | .dispatchRead dt _ _ => dt
  | .dispatchGrant dt _ => dt
  | .dispatchDeadline dt _ => dt
  | .complete dt _ _ => dt
  | .block dt _ _ _ _ => dt
  | .yield dt _ _ => dt
  | .waitTimeout dt _ => dt
  | .flagSet dt _ _ _ => dt
  | .flagClr dt _ _ _ => dt
  | .workPost dt _ _ => dt
  | .caravanStage dt _ _ => dt
  | .machineTimerInterrupt dt _ => dt
  | .watchdogExpiry dt _ => dt
  | .watchdogKick dt _ _ _ => dt
  | .mailboxWrite dt _ _ _ => dt
  | .sharedMailboxWrite dt _ _ _ => dt
  | .mailboxRead dt _ _ => dt
  | .mailboxTimeout dt _ => dt
  | .mailboxWait dt _ _ _ => dt
  | .crosswaitDetection dt => dt
  | .lockRead dt _ _ => dt
  | .lockWrite dt _ _ _ => dt
  | .lockForce dt _ _ _ => dt
  | .doorbellSet dt _ _ _ => dt
  | .doorbellClear dt _ _ _ => dt
  | .safetyTick dt _ _ _ _ _ => dt
  | .discrepancyFault dt _ => dt
  | .ss1Timeout dt _ => dt
  | .testPulse dt _ _ _ => dt
  | .edmTimeout dt _ => dt
  | .slsDelayEnd dt _ => dt
  | .slsWindowEnd dt _ => dt
  | .srstEdge dt => dt
  | .srstStuck dt => dt
  | .oasisRailFault dt _ => dt
  | .containerReceived dt => dt
  | .connectionWatchdog dt _ => dt
  | .zoneRequest dt _ _ _ => dt
  | .passwordPresent dt _ _ => dt
  | .passwordClear dt _ => dt
  | .passwordExpiry dt => dt
  | .presentLockEnd dt => dt
  | .slsPeakClr dt _ _ => dt
  | .pcieRequest dt _ _ _ _ => dt
  | .pcieLinkReset dt _ => dt
  | .perst dt _ => dt
  | .dmaPost dt _ _ _ => dt
  | .dmaEnable dt _ _ _ => dt
  | .dmaTransferStart dt _ _ => dt
  | .dmaBufferReturn dt _ _ _ _ _ => dt
  | .spiRead dt _ _ => dt
  | .spiQread dt _ _ => dt
  | .spiWrite dt _ _ => dt
  | .spiQwrite dt _ _ => dt
  | .spiUnknownCommand dt => dt
  | .spiCsAbort dt _ _ _ _ => dt
  | .spiVlogClr dt _ => dt
  | .ethFrameReceived dt _ _ _ => dt
  | .ethTxPost dt _ _ _ => dt
  | .ethFrameSent dt _ _ => dt
  | .ethLinkChange dt _ _ => dt
  | .ethCntClr dt _ _ => dt
  | .idcode dt => dt
  | .samplePreload dt _ => dt
  | .extest dt => dt
  | .extestPulse dt => dt
  | .extestTrain dt => dt
  | .clamp dt => dt
  | .highz dt => dt
  | .dbgAccess dt => dt
  | .debugSlotAccess dt _ _ _ => dt
  | .fuseProg dt _ _ => dt
  | .bypass dt => dt
  | .tapReset dt => dt
  | .temperatureReading dt _ => dt
  | .tjMaxClr dt _ => dt
  | .stagedBankWrite dt _ _ _ => dt
  | .lineTimeLocked dt => dt
  | .idleReceived dt _ => dt
  | .guardianWindowOpen dt _ => dt
  | .headBlocked dt => dt
  | .perstRelease dt => dt
  | .pcieLinkUp dt _ _ => dt
  | .bufferLent dt _ => dt

/-- The agent that a command names as the maker of its access. -/
def Instr.agent : Instr → Option Nat
  | .registerWrite _ ag _ _ => some ag
  | .lowWordRead _ ag _ => some ag
  | .highWordRead _ ag _ => some ag
  | .lowWordWrite _ ag _ _ => some ag
  | .highWordWrite _ ag _ _ => some ag
  | .narrowAccess _ ag _ _ _ _ => some ag
  | .basinLiveBankWrite _ ag _ _ => some ag
  | .cycleBoundary _ => none
  | .syncOutPulseEnd _ => none
  | .feedbackRecordComplete _ _ _ => none
  | .scheduledTaskRelease _ _ => none
  | .jetGrant _ => none
  | .jetTaskEnd _ _ _ => none
  | .jetTimeRefusal _ _ => none
  | .commandFrameLaunch _ _ => none
  | .delayedCommandLaunch _ _ => none
  | .jetCheckFailure _ _ _ => none
  | .jetSelfTestEnd _ _ _ => none
  | .jetSwap _ ag => some ag
  | .jetRotation _ => none
  | .jetCntClr _ ag => some ag
  | .frameStart _ _ => none
  | .frameHeader _ _ _ _ => none
  | .frameCheck _ _ _ _ _ => none
  | .guardianWindowClose _ _ _ _ => none
  | .forwardCopyStart _ _ => none
  | .outputInstant _ => none
  | .commandFrameReceived _ => none
  | .cascadePass _ => none
  | .cascadePassEnd _ => none
  | .pllLock _ => none
  | .pllLossOfLock _ _ => none
  | .clockWindowEnd _ _ => none
  | .powerOnReset _ => none
  | .sequencerStart _ _ => none
  | .sequencerStep _ _ => none
  | .pgTimeout _ => none
  | .powerDownStep _ => none
  | .railMeasurement _ _ _ _ => none
  | .railFault _ _ => none
  | .faultWaitEnd _ => none
  | .pmbusPoll _ => none
  | .pmbusReply _ _ _ _ _ _ => none
  | .pmbAlert _ => none
  | .resetNLow _ _ _ => none
  | .resetRelease _ => none
  | .softwareResetRequest _ ag => some ag
  | .softwareChipReset _ => none
  | .weirClose _ ag _ _ => some ag
  | .weirOpen _ ag _ => some ag
  | .weirCycle _ ag _ _ => some ag
  | .weirPowerOff _ ag _ _ => some ag
  | .weirPowerOn _ ag _ => some ag
  | .weirCntClr _ ag _ => some ag
  | .drainComplete _ _ => none
  | .drainTimeout _ _ => none
  | .unitPowerUpComplete _ _ => none
  | .unitResetComplete _ _ _ => none
  | .lateReplyDiscard _ _ _ => none
  | .bootHeaders _ => none
  | .imageReadComplete _ _ => none
  | .unitConfigurationComplete _ _ _ _ => none
  | .startupAdmissionComplete _ => none
  | .selfTestsComplete _ _ _ _ _ => none
  | .imageSwitchGo _ ag _ => some ag
  | .imageSwitchCancel _ ag => some ag
  | .imageVerifyComplete _ _ _ => none
  | .imageStagingComplete _ => none
  | .imageSwitchDeadline _ => none
  | .partnerArmed _ _ _ => none
  | .flashRead _ ag _ _ => some ag
  | .flashProgram _ ag _ _ => some ag
  | .flashErase _ ag _ _ => some ag
  | .flashOpComplete _ _ => none
  | .flashBufWrite _ ag _ _ => some ag
  | .arbitrationRequest _ _ _ _ _ _ _ _ => none
  | .arbitrationGrant _ _ => none
  | .ageLimitRefusal _ _ => none
  | .admissionCheckCmd _ ag _ => some ag
  | .admissionCheckComplete _ => none
  | .reqWaitClr _ ag _ _ => some ag
  | .boundMissClr _ ag _ => some ag
  | .vlogClr _ ag => some ag
  | .stageRequest _ ag _ _ => some ag
  | .stageCancel _ ag _ => some ag
  | .enable _ ag _ => some ag
  | .disable _ ag _ => some ag
  | .stop _ ag _ => some ag
  | .quickStop _ ag _ => some ag
  | .faultReset _ ag _ => some ag
  | .ageStatClr _ ag _ => some ag
  | .vlimCntClr _ ag _ => some ag
  | .movePush _ ag _ => some ag
  | .moveFlush _ ag _ => some ag
  | .changeApply _ ag _ => some ag
  | .engage _ ag _ => some ag
  | .disengage _ ag _ => some ag
  | .camSwitch _ ag _ => some ag
  | .followCancel _ ag _ => some ag
  | .groupGo _ ag _ => some ag
  | .camDescriptorWrite _ ag _ _ => some ag
  | .camCheckComplete _ _ => none
  | .camStoreWrite _ ag _ _ => some ag
  | .lineMasterPush _ ag _ => some ag
  | .lineMasterReanchor _ ag _ => some ag
  | .lineMasterClear _ ag _ => some ag
  | .lineMasterPredict _ ag _ _ => some ag
  | .predictionDone _ _ => none
  | .stopTimeout _ _ => none
  | .atRestSet _ _ => none
  | .currentReduction _ _ => none
  | .debounceChange _ _ _ => none
  | .limitBlockRelease _ _ _ => none
  | .limitStatClr _ ag _ => some ag
  | .homingStart _ ag _ => some ag
  | .homingAbort _ ag _ => some ag
  | .referenceEdge _ _ _ _ => none
  | .captureWindowEnd _ _ => none
  | .hardStopDwellEnd _ _ => none
  | .encoderEdge _ _ _ _ => none
  | .hallCodeChange _ _ _ => none
  | .indexEvent _ _ => none
  | .serialFrameStart _ _ _ => none
  | .serialFrameComplete _ _ _ => none
  | .serialTimeout _ _ => none
  | .standstillTimeout _ _ => none
  | .chkClr _ ag _ => some ag
  | .latchArm _ ag _ _ => some ag
  | .latchDisarm _ ag _ _ => some ag
  | .latchCapture _ _ _ _ _ => none
  | .encErrClr _ ag _ => some ag
  | .pwmPeriodBoundary _ _ => none
  | .shadowWrite _ ag _ _ _ => some ag
  | .channelCommit _ ag _ => some ag
  | .groupCommit _ ag _ => some ag
  | .compareEdge _ _ => none
  | .shootThroughTrip _ _ => none
  | .groupEnable _ ag _ => some ag
  | .groupDisable _ ag _ => some ag
  | .shutdownEnd _ _ => none
  | .prechargeCmd _ ag _ => some ag
  | .prechargeOnEnd _ _ => none
  | .prechargeComplete _ _ => none
  | .prechargeExpiry _ _ => none
  | .hardTrip _ _ _ => none
  | .fastQualified _ _ _ => none
  | .fastTrip _ _ => none
  | .tripSnapshotClose _ _ => none
  | .tripClr _ ag _ => some ag
  | .sinc3Result _ _ _ => none
  | .sinc2Result _ _ _ => none
  | .sdStuck _ _ => none
  | .comparatorSelfTest _ ag _ => some ag
  | .comparatorSelfTestEnd _ _ _ => none
  | .tcCntClr _ ag _ => some ag
  | .signalDetected _ _ => none
  | .linkAcquired _ _ _ => none
  | .acquireTimeout _ _ => none
  | .linkUp _ _ _ => none
  | .adaptTimeout _ _ => none
  | .signalLost _ _ => none
  | .codeErrorLimit _ _ => none
  | .retrain _ ag _ => some ag
  | .portTest _ ag _ _ => some ag
  | .portTestExit _ ag _ => some ag
  | .invalidCodeGroup _ _ _ => none
  | .syncReceived _ _ _ _ _ => none
  | .syncMissing _ _ => none
  | .repeatStart _ _ _ _ _ _ => none
  | .repeatCut _ _ => none
  | .portCntClr _ ag _ => some ag
  | .feedbackFrameSend _ => none
  | .ownFrameEnd _ _ => none
  | .rangeRequestSend _ _ => none
  | .rangeRequestAdmit _ _ => none
  | .rangeResponseSend _ _ => none
  | .rangeResponseReceived _ _ => none
  | .rangingTimeout _ _ => none
  | .commandLoss _ => none
  | .flowPost _ ag _ _ => some ag
  | .dynamicFrameSend _ _ => none
  | .uplinkFrameSend _ => none
  | .dynamicFrameStore _ => none
  | .serviceRequest _ => none
  | .serviceResponse _ => none
  | .netCntClr _ ag => some ag
  | .listenEnd _ => none
  | .coldStartComplete _ => none
  | .collision _ _ => none
  | .backoffEnd _ => none
  | .coldStartRetry _ ag => some ag
  | .coldStartEcho _ => none
  | .coldStartBlock _ _ => none
  | .foreignHead _ _ => none
  | .statusSend _ => none
  | .statusReceived _ => none
  | .digestSend _ => none
  | .digestReceived _ => none
  | .digestMiss _ => none
  | .standbyEntry _ => none
  | .copySend _ => none
  | .copyLoad _ => none
  | .mirrorReceived _ => none
  | .mirrorRetransmit _ => none
  | .abdication _ _ => none
  | .handoverArm _ ag => some ag
  | .deafnessEvaluation _ => none
  | .headLinkLoss _ => none
  | .resync _ ag => some ag
  | .pullSend _ _ => none
  | .pullReceived _ => none
  | .twinCntClr _ ag => some ag
  | .ptpPost _ ag _ => some ag
  | .domainTimeout _ _ => none
  | .domainRevert _ => none
  | .holdoverLimit _ => none
  | .timestampRead _ ag => some ag
  | .tsqClr _ ag => some ag
  | .comparatorArm _ ag _ => some ag
  | .comparatorDisarm _ ag _ => some ag
  | .comparatorFire _ => none
  | .pulseEnd _ _ => none
  | .mirageSample _ _ _ => none
  | .absRecord _ _ => none
  | .ringStage _ ag _ _ => some ag
  | .mirageArm _ ag _ => some ag
  | .mirageDisarm _ ag _ => some ag
  | .forceTrig _ ag _ => some ag
  | .rearmHoldEnd _ _ => none
  | .preEntry _ _ => none
  | .triggerAct _ _ _ => none
  | .postTimeout _ _ => none
  | .xtlRelease _ _ => none
  | .streamUpload _ _ => none
  | .uploadComplete _ _ => none
  | .mirageCntClr _ ag _ => some ag
  | .maskCfgWrite _ ag _ _ => some ag
  | .spoutPost _ ag => some ag
  | .spoutJobStart _ => none
  | .spoutPreemption _ => none
  | .spoutJobTimeout _ => none
  | .extResponse _ _ _ => none
  | .spoutCntClr _ ag => some ag
  | .programWordWrite _ ag _ _ => some ag
  | .nop _ _ => none
  | .ld _ _ => none
  | .st _ _ => none
  | .ldi _ _ => none
  | .lpi _ _ => none
  | .ldc _ _ => none
  | .addp _ _ => none
  | .mpy _ _ => none
  | .mac _ _ => none
  | .msu _ _ => none
  | .mxy _ _ => none
  | .mxp _ _ => none
  | .clr _ _ => none
  | .seta _ _ => none
  | .adda _ _ => none
  | .suba _ _ => none
  | .ash _ _ => none
  | .absa _ _ => none
  | .rnd _ _ => none
  | .rnds _ _ => none
  | .pkd _ _ => none
  | .bfly _ _ => none
  | .bscl _ _ => none
  | .bclr _ _ => none
  | .repeatNext _ _ => none
  | .doLoop _ _ => none
  | .branch _ _ => none
  | .halt _ _ => none
  | .lde _ _ => none
  | .ste _ _ => none
  | .illegal _ _ => none
  | .dispatchRead _ ag _ => some ag
  | .dispatchGrant _ _ => none
  | .dispatchDeadline _ _ => none
  | .complete _ ag _ => some ag
  | .block _ ag _ _ _ => some ag
  | .yield _ ag _ => some ag
  | .waitTimeout _ _ => none
  | .flagSet _ ag _ _ => some ag
  | .flagClr _ ag _ _ => some ag
  | .workPost _ ag _ => some ag
  | .caravanStage _ ag _ => some ag
  | .machineTimerInterrupt _ _ => none
  | .watchdogExpiry _ _ => none
  | .watchdogKick _ ag _ _ => some ag
  | .mailboxWrite _ ag _ _ => some ag
  | .sharedMailboxWrite _ ag _ _ => some ag
  | .mailboxRead _ ag _ => some ag
  | .mailboxTimeout _ _ => none
  | .mailboxWait _ ag _ _ => some ag
  | .crosswaitDetection _ => none
  | .lockRead _ ag _ => some ag
  | .lockWrite _ ag _ _ => some ag
  | .lockForce _ ag _ _ => some ag
  | .doorbellSet _ ag _ _ => some ag
  | .doorbellClear _ ag _ _ => some ag
  | .safetyTick _ _ _ _ _ _ => none
  | .discrepancyFault _ _ => none
  | .ss1Timeout _ _ => none
  | .testPulse _ _ _ _ => none
  | .edmTimeout _ _ => none
  | .slsDelayEnd _ _ => none
  | .slsWindowEnd _ _ => none
  | .srstEdge _ => none
  | .srstStuck _ => none
  | .oasisRailFault _ _ => none
  | .containerReceived _ => none
  | .connectionWatchdog _ _ => none
  | .zoneRequest _ ag _ _ => some ag
  | .passwordPresent _ ag _ => some ag
  | .passwordClear _ ag => some ag
  | .passwordExpiry _ => none
  | .presentLockEnd _ => none
  | .slsPeakClr _ ag _ => some ag
  | .pcieRequest _ _ _ _ _ => none
  | .pcieLinkReset _ _ => none
  | .perst _ _ => none
  | .dmaPost _ ag _ _ => some ag
  | .dmaEnable _ ag _ _ => some ag
  | .dmaTransferStart _ _ _ => none
  | .dmaBufferReturn _ _ _ _ _ _ => none
  | .spiRead _ _ _ => none
  | .spiQread _ _ _ => none
  | .spiWrite _ _ _ => none
  | .spiQwrite _ _ _ => none
  | .spiUnknownCommand _ => none
  | .spiCsAbort _ _ _ _ _ => none
  | .spiVlogClr _ ag => some ag
  | .ethFrameReceived _ _ _ _ => none
  | .ethTxPost _ ag _ _ => some ag
  | .ethFrameSent _ _ _ => none
  | .ethLinkChange _ _ _ => none
  | .ethCntClr _ ag _ => some ag
  | .idcode _ => none
  | .samplePreload _ _ => none
  | .extest _ => none
  | .extestPulse _ => none
  | .extestTrain _ => none
  | .clamp _ => none
  | .highz _ => none
  | .dbgAccess _ => none
  | .debugSlotAccess _ _ _ _ => none
  | .fuseProg _ _ _ => none
  | .bypass _ => none
  | .tapReset _ => none
  | .temperatureReading _ _ => none
  | .tjMaxClr _ ag => some ag
  | .stagedBankWrite _ ag _ _ => some ag
  | .lineTimeLocked _ => none
  | .idleReceived _ _ => none
  | .guardianWindowOpen _ _ => none
  | .headBlocked _ => none
  | .perstRelease _ => none
  | .pcieLinkUp _ _ _ => none
  | .bufferLent _ _ => none

end Sys2Proof
end

