-- ==== Sys2Proof/Certificates/Slice0/Obligations.lean ====
section
/-! DEFINITION. The statements for the provers, one definition each. -/
open Sys2Proof Sys2Proof.Machine

/-- A step performs the front command with the queue's rest. The queue is the model's own (log entry 93). -/
def Obligations.StepRunsCommand : Prop :=
  ∀ (c : Instr) (l : List Instr) (s : State), s.pending = c :: l → step s = exec c { s with pending := l }

/-- On an empty queue one tick passes. This is the model's choice, log entry 2. -/
def Obligations.EmptyQueueIdles : Prop :=
  ∀ s : State, s.pending = [] → step s = .next (s.elapse 1)

/-- Every command completes; the queue and the tick count are the model's own (log entries 1, 93). -/
def Obligations.EveryCommandCompletes : Prop :=
  ∀ (c : Instr) (s : State), ∃ t, exec c s = .next t ∧ t.pending = s.pending ∧ t.now = s.now + c.ticks

/-- No step stops the block. -/
def Obligations.BlockNeverStops : Prop :=
  ∀ s : State, ∃ t, step s = .next t ∧ t.pending = s.pending.tail

/-- Every step keeps the memory list canonical (log entry 6 names what an unlisted byte reads as). -/
def Obligations.MemoryStaysCanonical : Prop :=
  ∀ s t : State, Memory.wf s.mem = true → step s = .next t → Memory.wf t.mem = true

/-- The memory at reset; that it reads 0 is the model's choice (log entry 6). -/
def Obligations.ResetMemoryIsCanonical : Prop :=
  Memory.wf State.reset.mem = true ∧ ∀ a, State.reset.byte a = 0

/-- Reset values the spec gives, with the model's own queue and memory list (log entries 6, 93). -/
def Obligations.ResetLeavesSpecValues : Prop :=
  (∀ k < 508, State.reset.weirState k = 2 ∧ State.reset.fld (.sysWeir k) fSysWeir_EPOCH = 0) ∧
  (∀ b < 64, State.reset.fld (.lkStat b) fLkStat_OWNER = 0) ∧
  State.reset.t48 = 0 ∧ State.reset.t48Runs = false ∧ State.reset.pending = [] ∧ State.reset.mem = []

/-- R703: a refused write has no effect, an accepted one has all of them. The two counters a refusal itself moves (SLU.STAT.BUSY_CNT, a cancelled task's DONE) are named. -/
def Obligations.WritesTakeEffectWholeOrNotAtAll : Prop :=
  (∀ (c : Instr) (s : State) (ag : Nat) (r : Reg) (v : Word48) (code : Nat),
    let t₁ := s.elapse c.ticks
    let x := t₁.settleReg r
    c.writes t₁ = some (ag, r, v) → t₁.refuses ag r v code →
    exec c s = .next (((x.writeRefused ag r code).answer ag r.addr (writeType ag) code 0).inTimeOf t₁) ∧
    (r.name ≠ .sluPost → r.name ≠ .coreDone → x.writeRefused ag r code = x) ∧
    (r.name = .sluPost → sameRegsBut [.sluStat] x (x.writeRefused ag r code)) ∧
    (r.name = .coreDone → code ≠ cOFFLINE → x.writeRefused ag r code = x)) ∧
  (∀ (c : Instr) (s : State) (ag : Nat) (r : Reg) (v : Word48),
    let t₁ := s.elapse c.ticks
    c.writes t₁ = some (ag, r, v) → t₁.accepts ag r v →
    ∃ owed, exec c s = .next ((t₁.accepted ag r v (fun u => u.writeAct (t₁.settleReg r) ag r v owed)).inTimeOf t₁)) ∧
  (∀ (c : Instr) (s : State) (ag : Nat) (r : Reg) (v : Word48),
    let t₁ := s.elapse c.ticks
    let x := t₁.settleReg r
    c.writes t₁ = some (ag, r, v) → t₁.issues ag = true → r.mapped → x.regAbsent r = true → (∃ f ∈ r.fields, f.acc ≠ .ro) →
    exec c s = .next ((x.answer ag r.addr (writeType ag) cOK 0).inTimeOf t₁)) ∧
  (∀ (s : State) (ag : Nat) (r : Reg) (v : Word48) (owed code : Nat), s.refuses ag r v code →
    s.regWrite ag r v owed = (code, (s.settleReg r).writeRefused ag r code))

/-- Register writes store to no memory, four registers apart. -/
def Obligations.RegisterWritesStoreNothing : Prop :=
  ∀ (c : Instr) (s t : State) (ag : Nat) (r : Reg) (v : Word48),
    c.writes (s.elapse c.ticks) = some (ag, r, v) → r.mapped → r.name ≠ .coreDone → r.name ≠ .sysWeir → r.name ≠ .axsMvCtl →
    r.name ≠ .sysImgCtl →
    exec c s = .next t → sameMemory s t

/-- The frame of 159 commands: every byte of memory unchanged. -/
def Obligations.EventsStoreNothing : Prop :=
  ∀ (c : Instr) (s t : State), c.storesNothing = true → exec c s = .next t → sameMemory s t

/-- R12, for writes of registers: the lowest-numbered applicable code is answered. -/
def Obligations.LowestRefusalCodeIsAnswered : Prop :=
  ∀ (c : Instr) (s : State) (ag : Nat) (r : Reg) (v : Word48),
    let t₁ := s.elapse c.ticks
    let l := (t₁.settleReg r).writeRefuse ag r v
    c.writes t₁ = some (ag, r, v) → t₁.issues ag = true → r.mapped → l ≠ [] →
    ∃ t, exec c s = .next t ∧ (t.agent ag).code ∈ l ∧ ∀ k ∈ l, k ≠ cOK → (t.agent ag).code ≤ k

/-- R702, its second sentence. -/
def Obligations.WriteToReadOnlyRegisterIsRefused : Prop :=
  ∀ (c : Instr) (s : State) (ag : Nat) (r : Reg) (v : Word48),
    let t₁ := s.elapse c.ticks
    let x := t₁.settleReg r
    c.writes t₁ = some (ag, r, v) → t₁.issues ag = true → r.mapped → (∀ f ∈ r.fields, f.acc = .ro) →
    exec c s = .next ((x.answer ag r.addr (writeType ag) cACCESS 0).inTimeOf t₁)

/-- R8 and the first sentence of R702. -/
def Obligations.WriteLeavesReadOnlyFields : Prop :=
  (∀ (r : Reg) (cur v : Word48) (f : FieldRow), f ∈ r.fields → (f.acc = .ro ∨ f.acc = .wo) →
    wordFld (plainWrite r cur v) f.fld = wordFld cur f.fld) ∧
  (∀ (r : Reg) (cur v : Word48) (g : Fld), (∀ f ∈ r.fields, f.fld.apart g = true) →
    wordFld (plainWrite r cur v) g = wordFld cur g) ∧
  (∀ (r : Reg) (cur v : Word48) (f : FieldRow), f ∈ r.fields → (f.acc = .rw ∨ f.acc = .rwl) →
    wordFld (plainWrite r cur v) f.fld = wordFld v f.fld) ∧
  (∀ (r : Reg) (cur v : Word48) (f : FieldRow), f ∈ r.fields → f.acc = .w1c →
    wordFld (plainWrite r cur v) f.fld = wordFld cur f.fld - Nat.land (wordFld cur f.fld) (wordFld v f.fld))

/-- R25, R26: the register map is consistent. -/
def Obligations.AddressDecodesToItsRegister : Prop :=
  ∀ (a : Nat) (r : Reg), Reg.ofAddr a = some r → r.addr = a ∧ a % 8 = 0 ∧ a < 0x1000000

/-- 32-bit reads: the low word latches the high word, which is then read once. -/
def Obligations.LowWordReadLatchesHighWord : Prop :=
  (∀ (dt ag addr : Nat) (s : State) (r : Reg),
    let t₁ := s.elapse dt
    r.addr = addr → isDispatch addr = false → t₁.readable ag r →
    let n := slotBits r ((t₁.settleReg r).readAct ag r).1
    ∃ t, exec (.lowWordRead dt ag addr) s = .next t ∧ (t.agent ag).code = cOK ∧ (t.agent ag).data = n % 2 ^ 32 ∧
      (t.agent ag).latch = some (addr, n / 2 ^ 32)) ∧
  (∀ (dt ag addr n : Nat) (s : State), (s.elapse dt).issues ag = true → addr < 0x1000000 → addr % 8 = 0 →
    ((s.elapse dt).agent ag).latch = some (addr, n) →
    ∃ t, exec (.highWordRead dt ag addr) s = .next t ∧ (t.agent ag).code = cOK ∧ (t.agent ag).data = n ∧
      (t.agent ag).latch = none ∧ t.regs = s.regs) ∧
  (∀ (dt ag addr : Nat) (s : State) (r : Reg),
    let t₁ := s.elapse dt
    r.addr = addr → t₁.readable ag r → (∀ n, (t₁.agent ag).latch ≠ some (addr, n)) →
    ∃ t, exec (.highWordRead dt ag addr) s = .next t ∧ (t.agent ag).code = cOK ∧
      (t.agent ag).data = slotBits r ((t₁.settleReg r).shown ag r) / 2 ^ 32 ∧
      (t.agent ag).latch = ((t₁.settleReg r).agent ag).latch)

/-- 32-bit writes: the low word is staged, the high word writes both. -/
def Obligations.LowWordIsStagedForHighWordWrite : Prop :=
  (∀ (dt ag addr w : Nat) (s : State) (r : Reg), (s.elapse dt).issues ag = true → r.addr = addr → r.mapped →
    ∃ t, exec (.lowWordWrite dt ag addr w) s = .next t ∧ t.regs = s.regs ∧
      (t.agent ag).staged = some (addr, w % 2 ^ 32, false) ∧ (t.agent ag).code = cOK) ∧
  (∀ (dt ag addr w n : Nat) (s : State) (r : Reg),
    let t₁ := s.elapse dt
    t₁.issues ag = true → r.addr = addr → r.mapped → (t₁.agent ag).staged = some (addr, n, false) →
    let y := (t₁.setAgent ag { t₁.agent ag with staged := none }).regWrite ag r (BitVec.ofNat 48 (n + 2 ^ 32 * (w % 2 ^ 16))) 0
    exec (.highWordWrite dt ag addr w) s = .next ((y.2.answer ag (addr + 4) (writeType ag) y.1 0).inTimeOf t₁)) ∧
  (∀ (dt ag addr w : Nat) (s : State) (r : Reg),
    let t₁ := s.elapse dt
    t₁.issues ag = true → r.addr = addr → r.mapped → (∀ n b, (t₁.agent ag).staged ≠ some (addr, n, b)) →
    let y := t₁.regWrite ag r (BitVec.ofNat 48 ((t₁.shown ag r).toNat % 2 ^ 32 + 2 ^ 32 * (w % 2 ^ 16))) 0
    exec (.highWordWrite dt ag addr w) s = .next ((y.2.answer ag (addr + 4) (writeType ag) y.1 0).inTimeOf t₁))

/-- A lock is freed by its owner's write, or by force with the key. -/
def Obligations.LockIsFreedByItsOwnerOrByForce : Prop :=
  (∀ (dt ag n : Nat) (v : Word48) (s : State), (s.elapse dt).issues ag = true → n < 64 → s.fld (.lkStat n) fLkStat_OWNER = ag →
    ∃ t, exec (.lockWrite dt ag n v) s = .next t ∧ (t.agent ag).code = cOK ∧ t.fld (.lkStat n) fLkStat_OWNER = 0) ∧
  (∀ (dt ag n : Nat) (v : Word48) (s : State), (s.elapse dt).issues ag = true → n < 64 → s.fld (.lkStat n) fLkStat_OWNER ≠ ag →
    exec (.lockWrite dt ag n v) s =
      .next (((s.elapse dt).answer ag (Reg.lk n).addr (writeType ag) cLOCKED 0).inTimeOf (s.elapse dt))) ∧
  (∀ (dt ag n : Nat) (v : Word48) (s : State), (s.elapse dt).issues ag = true → n < 64 →
    wordFld v fLkStat_FORCE = 1 ∧ wordFld v fLkStat_KEY = 0xC1EA ∧ (1 ≤ ag ∧ ag ≤ 10 ∨ ag = 16) →
    ∃ t, exec (.lockForce dt ag n v) s = .next t ∧ (t.agent ag).code = cOK ∧ t.fld (.lkStat n) fLkStat_OWNER = 0 ∧
      t.fld (.lkStat n) fLkStat_FORCED = min 255 (s.fld (.lkStat n) fLkStat_FORCED + 1)) ∧
  (∀ (dt ag n : Nat) (v : Word48) (s : State), (s.elapse dt).issues ag = true → n < 64 →
    ¬(wordFld v fLkStat_FORCE = 1 ∧ wordFld v fLkStat_KEY = 0xC1EA ∧ (1 ≤ ag ∧ ag ≤ 10 ∨ ag = 16)) →
    exec (.lockForce dt ag n v) s =
      .next (((s.elapse dt).answer ag (Reg.lkStat n).addr (writeType ag) cACCESS 0).inTimeOf (s.elapse dt)))

/-- R603. -/
def Obligations.LockReadAcquiresAFreeLock : Prop :=
  ∀ (dt ag n : Nat) (s : State), (s.elapse dt).issues ag = true → n < 64 → 1 ≤ ag → ag < 32 →
    let o := s.fld (.lkStat n) fLkStat_OWNER
    ∃ t, exec (.lockRead dt ag n) s = .next t ∧ (t.agent ag).code = cOK ∧
      (o = 0 → (t.agent ag).data = 0 ∧ t.fld (.lkStat n) fLkStat_OWNER = ag) ∧
      (o = ag → (t.agent ag).data = 0 ∧ t.reg (.lkStat n) = s.reg (.lkStat n)) ∧
      (o ≠ 0 → o ≠ ag → (t.agent ag).data = o ∧ t.fld (.lkStat n) fLkStat_OWNER = o ∧
        t.fld (.lkStat n) fLkStat_CONTEND = min 65535 (s.fld (.lkStat n) fLkStat_CONTEND + 1))

/-- R606. -/
def Obligations.DoorbellsAreRungAndCleared : Prop :=
  (∀ (dt ag a bits : Nat) (s : State), (s.elapse dt).issues ag = true → 1 ≤ ag → ag ≤ 16 → 1 ≤ a → a ≤ 16 → bits < 2 ^ 16 →
    ∃ t, exec (.doorbellSet dt ag a bits) s = .next t ∧ (t.agent ag).code = cOK ∧
      t.fld (.dbPend a) fDbPend_BITS = Nat.lor (s.fld (.dbPend a) fDbPend_BITS) bits) ∧
  (∀ (dt a bits : Nat) (s : State), (s.elapse dt).issues a = true → 1 ≤ a → a ≤ 16 → bits < 2 ^ 16 →
    ∃ t, exec (.doorbellClear dt a a bits) s = .next t ∧ (t.agent a).code = cOK ∧
      t.fld (.dbPend a) fDbPend_BITS =
        s.fld (.dbPend a) fDbPend_BITS - Nat.land (s.fld (.dbPend a) fDbPend_BITS) bits) ∧
  (∀ (dt ag a bits : Nat) (s : State), (s.elapse dt).issues ag = true → 1 ≤ a → a ≤ 16 → ag ≠ a → 0 < bits → bits < 2 ^ 16 →
    exec (.doorbellClear dt ag a bits) s =
      .next (((s.elapse dt).answer ag (Reg.dbPend a).addr (writeType ag) cACCESS 0).inTimeOf (s.elapse dt)))

/-- R69 and what R68 says survives; a pin that stays low holds the chip in reset. Between the two lengths a free bit decides
(log entry 72). -/
def Obligations.ResetPulseLengthDecides : Prop :=
  (∀ (dt low : Nat) (still : Bool) (s : State), s.power.rstLow = false → low < 50 →
    exec (.resetNLow dt low still) s = .next (s.elapse dt)) ∧
  (∀ (dt low : Nat) (still : Bool) (s : State), s.power.rstLow = false → 500 ≤ low →
    ∃ t, exec (.resetNLow dt low still) s = .next t ∧ t.power.inReset = true ∧ t.power.rstLow = still ∧
      t.fld .sysRstCause fSysRstCause_PIN = 1 ∧ t.fld .sysRstCause fSysRstCause_POR = 0 ∧
      t.fld .sysRstCause fSysRstCause_COUNT = min 255 (s.fld .sysRstCause fSysRstCause_COUNT + 1) ∧
      (∀ r : Reg, r.addr ≠ Reg.sysRstCause.addr → r.addr ≠ Reg.sysPwrStat.addr → r.addr ≠ Reg.sysJetRetired.addr →
        t.reg r = State.reset.reg r) ∧
      t.reg .sysJetRetired = s.reg .sysJetRetired ∧ sameMemory s t) ∧
  (∀ (dt low : Nat) (still : Bool) (s : State), s.power.rstLow = true →
    ∃ t, exec (.resetNLow dt low still) s = .next t ∧ t.power = { s.power with rstLow := still } ∧ t.regs = s.regs ∧
      sameMemory s t) ∧
  (∀ (dt : Nat) (s : State), s.power.rstLow = true → exec (.resetRelease dt) s = .next (s.elapse dt))

/-- R56, its second monitor, with R68. -/
def Obligations.ClockWindowJudgesTheCount : Prop :=
  (∀ (dt n : Nat) (s : State), 22800 ≤ n → n ≤ 28900 →
    ∃ t, exec (.clockWindowEnd dt n) s = .next t ∧ t.fld .sysClkStat fSysClkStat_RC_COUNT = n ∧
      t.fld .sysClkStat fSysClkStat_RC_OK = 1 ∧ sameRegsBut [.sysClkStat] s t ∧ sameMemory s t) ∧
  (∀ (dt n : Nat) (s : State), n < 22800 ∨ 28900 < n →
    ∃ t, exec (.clockWindowEnd dt n) s = .next t ∧ t.fld .sysRstCause fSysRstCause_CLOCK = 1 ∧
      ∀ r : Reg, r.addr ≠ Reg.sysRstCause.addr → r.addr ≠ Reg.sysPwrStat.addr → r.addr ≠ Reg.sysJetRetired.addr →
        t.reg r = State.reset.reg r)

/-- R503; the ticks are those of the idle step (log entry 2). -/
def Obligations.TickCounterStartsAtPllLock : Prop :=
  (∀ (dt : Nat) (s : State),
    s.power.inReset = false → s.fld .sysClkStat fSysClkStat_LOCK = 0 → s.fld .sysBootStat fSysBootStat_STAGE = 1 →
    ∃ t, exec (.pllLock dt) s = .next t ∧ t.t48 = 0 ∧ t.t48Runs = true ∧ t.fld .sysClkStat fSysClkStat_LOCK = 1) ∧
  (∀ s : State, s.pending = [] → s.t48Runs = true →
    ∃ t, step s = .next t ∧ t.t48 = s.t48 + 1 ∧ t.t48Runs = true ∧ t.regs = s.regs) ∧
  (∀ s : State, s.t48 = BitVec.ofNat 48 (2 ^ 48 - 1) → s.t48Runs = true → s.pending = [] →
    ∃ t, step s = .next t ∧ t.t48 = 0)

/-- R670. -/
def Obligations.KeyHashIsFusedOnlyOnceInRecovery : Prop :=
  ∀ (dt hash back : Nat) (s : State),
    let fused := s.fld .sysBootStat fSysBootStat_KEY_FUSED
    let stage := s.fld .sysBootStat fSysBootStat_STAGE
    ∃ t, exec (.fuseProg dt hash back) s = .next t ∧
      (fused ≠ 0 ∨ stage ≠ 9 → t.fld .hstJtagStat fHstJtagStat_FUSE_RES = 2 ∧ t.host.keyHash = s.host.keyHash ∧
        t.fld .sysBootStat fSysBootStat_KEY_FUSED = fused) ∧
      (fused = 0 → stage = 9 → back = hash → hash ≠ 0 → t.fld .hstJtagStat fHstJtagStat_FUSE_RES = 1 ∧ t.host.keyHash = hash ∧
        t.fld .sysBootStat fSysBootStat_KEY_FUSED = 1) ∧
      (fused = 0 → stage = 9 → back ≠ hash → t.fld .hstJtagStat fHstJtagStat_FUSE_RES = 3 ∧
        t.fld .sysBootStat fSysBootStat_KEY_FUSED = 1 ∧ t.host.keyBad = true)

/-- R668. -/
def Obligations.BoundaryScanActsOnlyWhenStopped : Prop :=
  ∀ (c : Instr) (op mode : Nat) (s : State),
    (∃ dt, c = .extest dt ∧ op = 0x03 ∧ mode = 1 ∨ c = .extestPulse dt ∧ op = 0x04 ∧ mode = 1 ∨ c = .extestTrain dt ∧ op = 0x05 ∧ mode = 1 ∨
      c = .clamp dt ∧ op = 0x06 ∧ mode = 1 ∨ c = .highz dt ∧ op = 0x07 ∧ mode = 2) →
    ∃ t, exec c s = .next t ∧ t.pins = s.pins ∧ t.tcs = s.tcs ∧
      (s.fld .sysBootStat fSysBootStat_STAGE = 9 ∨ s.fld .sysBootStat fSysBootStat_STAGE = 10 →
        t.host.tapInstr = op ∧ t.host.pinMode = mode ∧ t.regs = s.regs) ∧
      (s.fld .sysBootStat fSysBootStat_STAGE ≠ 9 → s.fld .sysBootStat fSysBootStat_STAGE ≠ 10 →
        t.host.tapInstr = 0x3F ∧ t.host.pinMode = 0 ∧ t.fld .hstJtagStat fHstJtagStat_REFUSED = 1)

/-- R598. -/
def Obligations.ReceiverReadEmptiesTheBox : Prop :=
  (∀ (dt ag n : Nat) (s : State), (s.elapse dt).issues ag = true → n < 64 → ag < 32 → s.fld (.mbCfg n) fMbCfg_RECEIVER = ag →
    ∃ t, exec (.mailboxRead dt ag n) s = .next t ∧ (t.agent ag).code = cOK ∧
      (t.agent ag).data = s.fld (.mbData n) fMbData_WORD ∧ t.reg (.mbData n) = s.reg (.mbData n) ∧
      (s.fld (.mbStat n) fMbStat_FULL = 1 → t.fld (.mbStat n) fMbStat_FULL = 0 ∧ t.fld (.mbStat n) fMbStat_EMPTY = 1 ∧
        t.fld (.mbStat n) fMbStat_WAITER = 0 ∧ t.fld (.mbStat n) fMbStat_LAST_WR = s.fld (.mbStat n) fMbStat_LAST_WR) ∧
      (s.fld (.mbStat n) fMbStat_FULL = 0 → t.reg (.mbStat n) = s.reg (.mbStat n))) ∧
  (∀ (dt ag n : Nat) (s : State), (s.elapse dt).issues ag = true → n < 64 → s.fld (.mbCfg n) fMbCfg_RECEIVER ≠ ag →
    exec (.mailboxRead dt ag n) s =
      .next (((s.elapse dt).answer ag (Reg.mbData n).addr tyRead cACCESS 0).inTimeOf (s.elapse dt)))

/-- R582. -/
def Obligations.DispatchReadIsForItsOwnIdleCore : Prop :=
  (∀ (dt ag k : Nat) (s : State), (s.elapse dt).issues ag = true → k < 8 → ag ≠ k + 1 ∨ s.fld (.coreStat k) fCoreStat_HOLD = 1 →
    exec (.dispatchRead dt ag k) s =
      .next (((s.elapse dt).answer ag (Reg.coreDispatch k).addr tyRead cACCESS 0).inTimeOf (s.elapse dt))) ∧
  (∀ (dt k : Nat) (s : State), (s.elapse dt).issues (k + 1) = true → k < 8 → s.fld (.coreStat k) fCoreStat_HOLD = 0 →
    ∃ t, exec (.dispatchRead dt (k + 1) k) s = .next t ∧ (t.agent (k + 1)) = (s.agent (k + 1)) ∧ sameMemory s t ∧
      (t.core k).reading = some (s.now + dt))

/-- R174, within the states in which R175 and the twin heads of chapter 14 do not refuse. -/
def Obligations.AxisCommandsRankByPrecedence : Prop :=
  ∀ (dt ag n : Nat) (c : Nat) (i : Instr) (s : State), (s.elapse dt).issues ag = true → n < 192 →
    (i = .enable dt ag n ∧ c = 1 ∨ i = .disable dt ag n ∧ c = 2 ∨ i = .stop dt ag n ∧ c = 3 ∨ i = .quickStop dt ag n ∧ c = 4 ∨
      i = .faultReset dt ag n ∧ c = 5) →
    s.twin = false → s.weirState n = 0 → s.kind n ≠ kindOBSERVER → s.ax n ≠ axHOLD →
    (cmdRank (s.axis n).cmd ≤ cmdRank c →
      ∃ t, exec i s = .next t ∧ (t.agent ag).code = cOK ∧ t.axis n = { s.axis n with cmd := c, cmdAgent := ag } ∧
        t.fld (.axsStat n) fAxsStat_CMD_PENDING = 1 ∧ sameMemory s t) ∧
    (cmdRank c < cmdRank (s.axis n).cmd →
      exec i s = .next (((s.elapse dt).answer ag (Reg.axsCmd n).addr (writeType ag) cBUSY 0).inTimeOf (s.elapse dt)))

/-- R522. -/
def Obligations.TimestampReadTakesTheHeadEntry : Prop :=
  (∀ (dt ag : Nat) (s : State) (e : TsqE) (l : List TsqE), (s.elapse dt).issues ag = true → ag < 32 → s.time.tsq = e :: l →
    ∃ t, exec (.timestampRead dt ag) s = .next t ∧ (t.agent ag).code = cOK ∧
      (t.agent ag).data = slotBits .timTsqId (BitVec.ofNat 48 (putBit e.id 29 true)) ∧
      t.time.tsq = l ∧ t.reg .timTsqTime = e.stamp ∧ t.fld .timTsqStat fTimTsqStat_COUNT = l.length % 32) ∧
  (∀ (dt ag : Nat) (s : State), (s.elapse dt).issues ag = true → ag < 32 → s.time.tsq = [] →
    ∃ t, exec (.timestampRead dt ag) s = .next t ∧ (t.agent ag).code = cOK ∧ (t.agent ag).data = 0 ∧
      t.time.tsq = [] ∧ t.reg .timTsqTime = s.reg .timTsqTime)

/-- R683 and the fields of SYS.TEMP. -/
def Obligations.TemperatureReadingKeepsTheMaximum : Prop :=
  ∀ (dt : Nat) (tj : Int) (s : State), -2048 ≤ tj → tj ≤ 2047 →
    ∃ t, exec (.temperatureReading dt tj) s = .next t ∧ t.fldI .sysTemp fSysTemp_TJ = tj ∧
      t.fldI .sysTemp fSysTemp_TJ_MAX = max (s.fldI .sysTemp fSysTemp_TJ_MAX) tj ∧ t.fld .sysTemp fSysTemp_VALID = 1 ∧
      sameRegsBut [.sysTemp] s t ∧ sameMemory s t

/-- A write that reaches a live bank returns ACCESS and stores nothing. -/
def Obligations.LiveBankWriteReturnsAccess : Prop :=
  (∀ (s : State) (ag a : Nat) (b : List Byte), (∃ i, i < b.length ∧ 0x1000000 ≤ a + i ∧ a + i < 0x1180000 ∧ (a + i) % 0x2000 < 0x1000) → 0x1000000 ≤ a → a + b.length ≤ 0x1500000 →
    s.memWrite ag a b = (cACCESS, s)) ∧
  (∀ (dt ag a : Nat) (v : BitVec 64) (s : State), (s.elapse dt).issues ag = true → a % 8 = 0 ∨ isCore ag = false →
    0x1000000 ≤ a → a < 0x1180000 → a % 0x2000 < 0x1000 →
    exec (.basinLiveBankWrite dt ag a v) s = .next (((s.elapse dt).answer ag a (writeType ag) cACCESS 0).inTimeOf (s.elapse dt))) ∧
  (∀ (dt ag a w : Nat) (s : State), (s.elapse dt).issues ag = true → a % 4 = 0 ∨ isCore ag = false →
    0x1000000 ≤ a → a < 0x1180000 → a % 0x2000 < 0x1000 →
    exec (.lowWordWrite dt ag a w) s = .next (((s.elapse dt).answer ag a (writeType ag) cACCESS 0).inTimeOf (s.elapse dt)))

/-- R36 with the windows' own rules; the byte order is the spec's little-endian. -/
def Obligations.MemoryWindowWriteStoresItsEightBytes : Prop :=
  ∀ (c : Instr) (dt ag a : Nat) (v : BitVec 64) (s : State), (s.elapse dt).issues ag = true → a % 8 = 0 →
    (c = .stagedBankWrite dt ag a v ∧ 0x1000000 ≤ a ∧ a < 0x1180000 ∧ 0x1000 ≤ a % 0x2000 ∨
      c = .camStoreWrite dt ag a v ∧ 0x1180000 ≤ a ∧ a < 0x11C0000 ∨
      c = .programWordWrite dt ag a v ∧ 0x11E0000 ≤ a ∧ a < 0x1200000) →
    ((s.elapse dt).memCode ag a 8 true = cOK →
      ∃ t, exec c s = .next t ∧ (t.agent ag).code = cOK ∧ (∀ i < 8, t.byte (a + i) = BitVec.ofNat 8 (v.toNat / 256 ^ i)) ∧
        sameOutside s t a 8 ∧ (s.mirrors = false → t.regs = s.regs)) ∧
    ((s.elapse dt).memCode ag a 8 true ≠ cOK →
      exec c s = .next (((s.elapse dt).answer ag a (writeType ag) ((s.elapse dt).memCode ag a 8 true) 0).inTimeOf (s.elapse dt)))

/-- The frame of a write to a register without an action. -/
def Obligations.PlainRegisterWriteChangesOnlyThatRegister : Prop :=
  ∀ (dt ag : Nat) (r : Reg) (v : Word48) (s : State),
    let t₁ := s.elapse dt
    r.acts = false → t₁.accepts ag r v →
    ∃ t, exec (.registerWrite dt ag r.addr v) s = .next t ∧ (t.agent ag).code = cOK ∧
      t.reg r = plainWrite r (s.reg r) v ∧ sameRegsBut [r] s t ∧ sameMemory s t ∧
      t = { t₁ with regs := t.regs, agents := t.agents, outst := t.outst }

/-- The frame of eight counter-clearing commands; an arbiter's refusals that are due come first (R124, log entry 96). -/
def Obligations.CounterClearTouchesOnlyItsCounters : Prop :=
  ∀ (c : Instr) (dt ag n : Nat) (r : Reg) (fs : List Fld) (v : Word48) (s : State),
    let t₁ := s.elapse dt
    let x := t₁.settleReg r
    (c = .ageStatClr dt ag n ∧ r = .axsAgeStat n ∧ fs = [fAxsAgeStat_MAX_FB_AGE, fAxsAgeStat_STALE_CNT] ∨
      c = .vlimCntClr dt ag n ∧ r = .axsCsFocStat n ∧ fs = [fAxsCsFocStat_VLIM_CNT] ∨
      c = .limitStatClr dt ag n ∧ r = .axsLimStat n ∧ fs = [fAxsLimStat_LAST_REFUSE, fAxsLimStat_REFUSE_CNT] ∨
      c = .boundMissClr dt ag n ∧ r = .shrUnitArb n ∧ fs = [fShrUnitArb_BOUND_MISS] ∨
      c = .slsPeakClr dt ag n ∧ r = .slsStat n ∧ fs = [fSlsStat_PEAK_PM] ∨
      c = .tcCntClr dt ag n ∧ r = .tcStat n ∧ fs = [fTcStat_ST_CNT, fTcStat_BOOT_CNT] ∨
      c = .tsqClr dt ag ∧ r = .timTsqStat ∧ fs = [fTimTsqStat_LOST] ∨
      c = .ethCntClr dt ag n ∧ r = .ethStat n ∧
        fs = [fEthStat_FCS_ERR, fEthStat_LEN_ERR, fEthStat_FILTERED, fEthStat_RX_DROP, fEthStat_TX_DROP]) →
    c.writes t₁ = some (ag, r, v) → t₁.accepts ag r v →
    ∃ t, exec c s = .next t ∧ (t.agent ag).code = cOK ∧ (∀ f ∈ fs, t.fld r f = 0) ∧ sameRegsBut [r] x t ∧ sameMemory s t ∧
      t = { x.inTimeOf t₁ with regs := t.regs, agents := t.agents, outst := t.outst } ∧ (r.name ≠ .shrUnitArb → x = t₁)

/-- R84, with R12 for the code answered. -/
def Obligations.ClosedWeirRefusesAChangingWrite : Prop :=
  (∀ (c : Instr) (s : State) (ag k : Nat) (r : Reg) (v : Word48) (f : FieldRow),
    let t₁ := s.elapse c.ticks
    let x := t₁.settleReg r
    c.writes t₁ = some (ag, r, v) → t₁.issues ag = true → r.mapped → x.regAbsent r = false → r.weir = some k → f ∈ r.fields →
    fieldChanges (x.shown ag r) v f = true →
    (f.acc = .rwl ∧ x.weirState k ≠ 2 ∨ f.acc ≠ .rwl ∧ x.weirState k ≠ 0) →
    ∃ code t, code ≤ cOFFLINE ∧ t₁.refuses ag r v code ∧ exec c s = .next t ∧ (t.agent ag).code = code) ∧
  (∀ (s : State) (ag : Nat) (r : Reg) (v : Word48), (∀ f ∈ r.fields, fieldChanges (s.shown ag r) v f = false) →
    s.offlineRefuse ag r v = [])

/-- R645. -/
def Obligations.PasswordIsPresentedByItsAgentsOnly : Prop :=
  (∀ (dt ag : Nat) (v : Word48) (s : State), (s.elapse dt).issues ag = true → ¬(1 ≤ ag ∧ ag ≤ 10 ∨ ag = 16) ∨
      (wordFld v fOasPwdCtl_PRESENT = 1 ∧ (wordFld v fOasPwdCtl_LEN < 8 ∨ 16 < wordFld v fOasPwdCtl_LEN)) →
    exec (.passwordPresent dt ag v) s =
      .next (((s.elapse dt).answer ag (Reg.oasPwdCtl).addr (writeType ag) cACCESS 0).inTimeOf (s.elapse dt))) ∧
  (∀ (dt ag : Nat) (v : Word48) (s : State), (s.elapse dt).issues ag = true → (1 ≤ ag ∧ ag ≤ 10 ∨ ag = 16) → wordFld v fOasPwdCtl_PRESENT = 1 →
    8 ≤ wordFld v fOasPwdCtl_LEN → wordFld v fOasPwdCtl_LEN ≤ 16 → s.oas.lockTo ≠ none →
    exec (.passwordPresent dt ag v) s =
      .next (((s.elapse dt).answer ag (Reg.oasPwdCtl).addr (writeType ag) cLOCKED 0).inTimeOf (s.elapse dt))) ∧
  (∀ (s : State) (n : Nat), ∀ j < 4, (s.pwdPresent n).reg (.oasPwdIn j) = 0)

/-- Completion of every command of the family, and the state each leaves. -/
def Obligations.CompleteAccess : Prop :=
  (∀ (dt ag addr : Nat) (v : Word48) (s : State),
      let t₁ := s.elapse dt
      ∀ r : Reg, r.addr = addr → t₁.accepts ag r v →
      exec (.registerWrite dt ag addr v) s = .next ((t₁.accepted ag r v (fun x => x.writeAct (t₁.settleReg r) ag r v 0)).inTimeOf t₁)) ∧
  (∀ (dt ag addr : Nat) (s : State),
      let t₁ := s.elapse dt
      ∀ r : Reg, r.addr = addr → isDispatch addr = false → t₁.readable ag r →
      let y := (t₁.settleReg r).readAct ag r
      let x := y.2.noteEpoch ag r
      exec (.lowWordRead dt ag addr) s = .next (((x.setAgent ag { x.agent ag with latch := some (addr, slotBits r y.1 / 2 ^ 32) }).answer ag addr tyRead cOK
        (slotBits r y.1 % 2 ^ 32)).inTimeOf t₁)) ∧
  (∀ (dt ag addr : Nat) (s : State),
      let t₁ := s.elapse dt
      ∀ n, t₁.issues ag = true → addr < 0x1000000 → addr % 8 = 0 → (t₁.agent ag).latch = some (addr, n) →
      exec (.highWordRead dt ag addr) s = .next (((t₁.setAgent ag { t₁.agent ag with latch := none }).answer ag (addr + 4) tyRead cOK n).inTimeOf t₁)) ∧
  (∀ (dt ag addr w : Nat) (s : State),
      let t₁ := s.elapse dt
      ∀ r : Reg, t₁.issues ag = true → r.addr = addr → r.mapped →
      exec (.lowWordWrite dt ag addr w) s = .next (((t₁.setAgent ag { t₁.agent ag with staged := some (addr, w % 2 ^ 32, false) }).answer ag addr (writeType ag) cOK
        0).inTimeOf t₁)) ∧
  (∀ (dt ag addr w : Nat) (s : State),
      let t₁ := s.elapse dt
      ∀ (r : Reg) (n : Nat), t₁.issues ag = true → r.addr = addr → r.mapped → (t₁.agent ag).staged = some (addr, n, false) →
      let x := t₁.setAgent ag { t₁.agent ag with staged := none }
      let y := x.regWrite ag r (BitVec.ofNat 48 (n + 2 ^ 32 * (w % 2 ^ 16))) 0
      exec (.highWordWrite dt ag addr w) s = .next ((y.2.answer ag (addr + 4) (writeType ag) y.1 0).inTimeOf t₁)) ∧
  (∀ (dt ag addr n ty v : Nat) (s : State),
      let t₁ := s.elapse dt
      ∀ r : Reg, t₁.issues ag = true → r.addr = addr / 8 * 8 → r.mapped → ty < 2 → addr % n ≠ 0 ∨ n < 4 →
      addr % n = 0 ∨ isCore ag = false →
      exec (.narrowAccess dt ag addr n ty v) s = .next ((t₁.answer ag addr (if ty = 0 then tyRead else writeType ag) cACCESS 0).inTimeOf t₁)) ∧
  (∀ (dt ag addr n ty v : Nat) (s : State),
      let t₁ := s.elapse dt
      t₁.issues ag = true → isCore ag = true → ty < 2 → addr % n ≠ 0 →
      exec (.narrowAccess dt ag addr n ty v) s = .next ((t₁.misaligned ag (if ty = 0 then tyRead else tyWrite)).inTimeOf t₁)) ∧
  (∀ (dt ag addr n ty v : Nat) (s : State),
      let t₁ := s.elapse dt
      ty < 2 → addr % n = 0 → 0x1000000 ≤ addr →
      exec (.narrowAccess dt ag addr n ty v) s =
        .next ((if ty = 0 then t₁.memGet ag addr n else t₁.memSlot ag addr (leBytes n v)).inTimeOf t₁)) ∧
  (∀ (dt ag addr n ty v : Nat) (s : State),
      let t₁ := s.elapse dt
      2 ≤ ty → ty < 5 →
      exec (.narrowAccess dt ag addr n ty v) s = .next ((if ty = 2 then t₁.fetch ag addr
        else t₁.atomic ag addr n (if ty = 3 then none else some v)).inTimeOf t₁)) ∧
  (∀ (dt ag addr : Nat) (v : BitVec 64) (s : State),
      let t₁ := s.elapse dt
      t₁.issues ag = true → 0x1000000 ≤ addr → addr < 0x1180000 → addr % 8 = 0 → addr % 0x2000 < 0x1000 →
      exec (.basinLiveBankWrite dt ag addr v) s = .next ((t₁.answer ag addr (writeType ag) cACCESS 0).inTimeOf t₁))

/-- Completion of every command of the family, and the state each leaves. -/
def Obligations.CompleteCycle : Prop :=
  (∀ (dt : Nat) (s : State),
      let t₁ := s.elapse dt
      t₁.boundaryDue = true →
      exec (.cycleBoundary dt) s = .next ((t₁.cycleBoundary).inTimeOf t₁)) ∧
  (∀ (dt : Nat) (s : State),
      let t₁ := s.elapse dt
      t₁.syncOutEnds = true →
      exec (.syncOutPulseEnd dt) s = .next ((t₁.syncOutFall).inTimeOf t₁)) ∧
  (∀ (dt : Nat) (s : State),
      let t₁ := s.elapse dt
      t₁.oiDue = true →
      exec (.outputInstant dt) s = .next ((t₁.outputInstant).inTimeOf t₁)) ∧
  (∀ (dt : Nat) (s : State),
      let t₁ := s.elapse dt
      exec (.commandFrameReceived dt) s = .next ((t₁.cmdReceived).inTimeOf t₁)) ∧
  (∀ (dt : Nat) (s : State),
      let t₁ := s.elapse dt
      t₁.passDue = true →
      exec (.cascadePass dt) s = .next ((t₁.cascadePass).inTimeOf t₁)) ∧
  (∀ (dt : Nat) (s : State),
      let t₁ := s.elapse dt
      t₁.casSys.from_.isSome = true →
      exec (.cascadePassEnd dt) s = .next ((t₁.passEnd.makeDigests).inTimeOf t₁))

/-- Completion of every command of the family, and the state each leaves. -/
def Obligations.CompleteJets : Prop :=
  (∀ (dt p : Nat) (data : BitVec 128) (s : State),
      let t₁ := s.elapse dt
      t₁.recordDue p = true →
      exec (.feedbackRecordComplete dt p data) s = .next ((t₁.recordComplete p (leBytes 16 data.toNat)).inTimeOf t₁)) ∧
  (∀ (dt n : Nat) (s : State),
      let t₁ := s.elapse dt
      exec (.scheduledTaskRelease dt n) s = .next ((t₁.scheduledRelease n).inTimeOf t₁)) ∧
  (∀ (dt : Nat) (s : State),
      let t₁ := s.elapse dt
      exec (.jetGrant dt) s = .next ((t₁.jetGrant).inTimeOf t₁)) ∧
  (∀ (dt j : Nat) (ecc : Bool) (s : State),
      let t₁ := s.elapse dt
      t₁.taskEnds j = true →
      exec (.jetTaskEnd dt j ecc) s = .next ((t₁.jetTaskEnd j ecc).inTimeOf t₁)) ∧
  (∀ (dt n : Nat) (s : State),
      let t₁ := s.elapse dt
      ∀ q, t₁.jetRefusalDue n = some q →
      exec (.jetTimeRefusal dt n) s = .next ((t₁.jetRefuse q).inTimeOf t₁)) ∧
  (∀ (dt k : Nat) (s : State),
      let t₁ := s.elapse dt
      t₁.cmdDue k = true →
      exec (.commandFrameLaunch dt k) s = .next ((t₁.cmdLaunch k).inTimeOf t₁)) ∧
  (∀ (dt k : Nat) (s : State),
      let t₁ := s.elapse dt
      t₁.cmdDelayDue k = true →
      exec (.delayedCommandLaunch dt k) s = .next ((t₁.cmdDelayed k).inTimeOf t₁)) ∧
  (∀ (dt j chk : Nat) (s : State),
      let t₁ := s.elapse dt
      exec (.jetCheckFailure dt j chk) s = .next ((t₁.checkFailure j chk).inTimeOf t₁)) ∧
  (∀ (dt j : Nat) (pass : Bool) (s : State),
      let t₁ := s.elapse dt
      t₁.testEnds j = true →
      exec (.jetSelfTestEnd dt j pass) s = .next ((t₁.testEnd j pass).inTimeOf t₁)) ∧
  (∀ (dt ag : Nat) (s : State),
      let t₁ := s.elapse dt
      let v := t₁.wordWith ag .jetCtl fJetCtl_SWAP 1
      t₁.accepts ag .jetCtl v →
      exec (.jetSwap dt ag) s = .next ((t₁.accepted ag .jetCtl v (fun x =>
        x.swapSchedule)).inTimeOf t₁)) ∧
  (∀ (dt : Nat) (s : State),
      let t₁ := s.elapse dt
      t₁.rotationDue = true →
      exec (.jetRotation dt) s = .next ((t₁.jetRotate).inTimeOf t₁)) ∧
  (∀ (dt ag : Nat) (s : State),
      let t₁ := s.elapse dt
      let v := t₁.wordWith ag .jetCntClr fJetCntClr_CLR 1
      t₁.accepts ag .jetCntClr v →
      exec (.jetCntClr dt ag) s = .next ((t₁.accepted ag .jetCntClr v (fun x =>
        x.jetCntClr)).inTimeOf t₁))

/-- Completion of every command of the family, and the state each leaves. -/
def Obligations.CompleteFrames : Prop :=
  (∀ (dt p : Nat) (s : State),
      let t₁ := s.elapse dt
      exec (.frameStart dt p) s = .next ((t₁.frameStart p).inTimeOf t₁)) ∧
  (∀ (dt p : Nat) (hdr : BitVec 64) (good : Bool) (s : State),
      let t₁ := s.elapse dt
      t₁.headerDue p = true →
      exec (.frameHeader dt p hdr good) s = .next ((t₁.frameHeader p (leBytes 8 hdr.toNat) good).inTimeOf t₁)) ∧
  (∀ (dt p : Nat) (rest : List Byte) (fcs ending : Nat) (s : State),
      let t₁ := s.elapse dt
      t₁.checkDue p = true →
      exec (.frameCheck dt p rest fcs ending) s = .next ((t₁.frameChecked p rest fcs ending).inTimeOf t₁)) ∧
  (∀ (dt p kind k : Nat) (s : State),
      let t₁ := s.elapse dt
      t₁.closeDue p kind k = true →
      exec (.guardianWindowClose dt p kind k) s = .next ((t₁.windowClose p kind k).inTimeOf t₁)) ∧
  (∀ (dt p : Nat) (s : State),
      let t₁ := s.elapse dt
      t₁.openDue p = true →
      exec (.guardianWindowOpen dt p) s = .next ((t₁.rxLook p).inTimeOf t₁)) ∧
  (∀ (dt p : Nat) (s : State),
      let t₁ := s.elapse dt
      ((t₁.port p).rx.st == 3) = true →
      exec (.idleReceived dt p) s = .next ((t₁.rxLook p).inTimeOf t₁)) ∧
  (∀ (dt e : Nat) (s : State),
      let t₁ := s.elapse dt
      t₁.fwdDue e = true →
      exec (.forwardCopyStart dt e) s = .next ((t₁.fwdStart e).inTimeOf t₁)) ∧
  (∀ (dt p : Nat) (sync : Bool) (res : Nat) (d : List Byte) (len : Nat) (s : State),
      let t₁ := s.elapse dt
      t₁.repeatsFrom p res = true →
      exec (.repeatStart dt p sync res d len) s = .next ((t₁.repeatStart p sync res d len).inTimeOf t₁)) ∧
  (∀ (dt o : Nat) (s : State),
      let t₁ := s.elapse dt
      t₁.repeatOver o = true →
      exec (.repeatCut dt o) s = .next ((t₁.repeatCut o).inTimeOf t₁)) ∧
  (∀ (dt : Nat) (s : State),
      let t₁ := s.elapse dt
      t₁.fbDue = true →
      exec (.feedbackFrameSend dt) s = .next ((t₁.fbSend (fun n => t₁.limLevels n)).inTimeOf t₁)) ∧
  (∀ (dt p : Nat) (s : State),
      let t₁ := s.elapse dt
      t₁.ownRuns p = true →
      exec (.ownFrameEnd dt p) s = .next ((t₁.ownEnd p).inTimeOf t₁)) ∧
  (∀ (dt : Nat) (b : Bool) (s : State),
      let t₁ := s.elapse dt
      t₁.rangeReqDue b = true →
      exec (.rangeRequestSend dt b) s = .next ((t₁.rangeReqSend b).inTimeOf t₁)) ∧
  (∀ (dt p : Nat) (s : State),
      let t₁ := s.elapse dt
      exec (.rangeRequestAdmit dt p) s = .next ((t₁.rangeAdmit p).inTimeOf t₁)) ∧
  (∀ (dt p : Nat) (s : State),
      let t₁ := s.elapse dt
      t₁.rangeDue p = true →
      exec (.rangeResponseSend dt p) s = .next ((t₁.rangeSend p).inTimeOf t₁)) ∧
  (∀ (dt sub : Nat) (s : State),
      let t₁ := s.elapse dt
      exec (.rangeResponseReceived dt sub) s = .next (((t₁.rangeResponse sub).followerJoins).inTimeOf t₁)) ∧
  (∀ (dt : Nat) (b : Bool) (s : State),
      let t₁ := s.elapse dt
      t₁.rangeTimedOut b = true →
      exec (.rangingTimeout dt b) s = .next ((t₁.rangeFail b).inTimeOf t₁)) ∧
  (∀ (dt : Nat) (s : State),
      let t₁ := s.elapse dt
      t₁.cmdLost = true →
      exec (.commandLoss dt) s = .next ((t₁.toListen).inTimeOf t₁)) ∧
  (∀ (dt ag f : Nat) (v : Word48) (s : State),
      let t₁ := s.elapse dt
      wordFld v fFlowTx_POST = 1 →
      t₁.accepts ag (Reg.flowTx f) v →
      exec (.flowPost dt ag f v) s = .next ((t₁.accepted ag (Reg.flowTx f) v (fun x =>
        x.flowPost f v)).inTimeOf t₁)) ∧
  (∀ (dt f : Nat) (s : State),
      let t₁ := s.elapse dt
      ∀ g, t₁.dynDue f = some g →
      exec (.dynamicFrameSend dt f) s = .next ((t₁.dynSend g).inTimeOf t₁)) ∧
  (∀ (dt : Nat) (s : State),
      let t₁ := s.elapse dt
      t₁.upDue = true →
      exec (.uplinkFrameSend dt) s = .next ((t₁.upSend).inTimeOf t₁)) ∧
  (∀ (dt : Nat) (s : State),
      let t₁ := s.elapse dt
      exec (.dynamicFrameStore dt) s = .next ((t₁.dynStore).inTimeOf t₁)) ∧
  (∀ (dt : Nat) (s : State),
      let t₁ := s.elapse dt
      exec (.serviceRequest dt) s = .next ((t₁.svcArrive).inTimeOf t₁)) ∧
  (∀ (dt : Nat) (s : State),
      let t₁ := s.elapse dt
      exec (.serviceResponse dt) s = .next ((t₁.svcPerform (State.slotFor 14)).inTimeOf t₁)) ∧
  (∀ (dt p : Nat) (d : List Byte) (good : Bool) (sub : Nat) (s : State),
      let t₁ := s.elapse dt
      exec (.syncReceived dt p d good sub) s = .next (((t₁.syncReceived p d good sub).followerJoins).inTimeOf t₁)) ∧
  (∀ (dt : Nat) (b : Bool) (s : State),
      let t₁ := s.elapse dt
      t₁.syncOverdue b = true →
      exec (.syncMissing dt b) s = .next ((t₁.syncMissing b).inTimeOf t₁)) ∧
  (∀ (dt ag : Nat) (s : State),
      let t₁ := s.elapse dt
      let v := t₁.wordWith ag .netCntClr fNetCntClr_CLR 1
      t₁.accepts ag .netCntClr v →
      exec (.netCntClr dt ag) s = .next ((t₁.accepted ag .netCntClr v (fun x =>
        x.netCntClr)).inTimeOf t₁))

/-- Completion of every command of the family, and the state each leaves. -/
def Obligations.CompleteLinks : Prop :=
  (∀ (dt p : Nat) (s : State),
      let t₁ := s.elapse dt
      exec (.signalDetected dt p) s = .next ((t₁.signalDetected p).inTimeOf t₁)) ∧
  (∀ (dt p eq : Nat) (s : State),
      let t₁ := s.elapse dt
      (t₁.link p == lsACQUIRE) = true →
      exec (.linkAcquired dt p eq) s = .next ((t₁.linkAcquired p eq).inTimeOf t₁)) ∧
  (∀ (dt p : Nat) (s : State),
      let t₁ := s.elapse dt
      t₁.linkFor p lsACQUIRE 100000 = true →
      exec (.acquireTimeout dt p) s = .next ((t₁.toDetect p 0).inTimeOf t₁)) ∧
  (∀ (dt p eq : Nat) (s : State),
      let t₁ := s.elapse dt
      t₁.adaptDone p = true →
      exec (.linkUp dt p eq) s = .next ((t₁.linkUp p eq).inTimeOf t₁)) ∧
  (∀ (dt p : Nat) (s : State),
      let t₁ := s.elapse dt
      t₁.linkFor p lsADAPT 2500000 = true →
      exec (.adaptTimeout dt p) s = .next ((t₁.adaptTimeout p).inTimeOf t₁)) ∧
  (∀ (dt p : Nat) (s : State),
      let t₁ := s.elapse dt
      exec (.signalLost dt p) s = .next ((t₁.signalLost p).inTimeOf t₁)) ∧
  (∀ (dt p : Nat) (s : State),
      let t₁ := s.elapse dt
      t₁.errLimitReached p = true →
      exec (.codeErrorLimit dt p) s = .next ((t₁.toDetect p 2).inTimeOf t₁)) ∧
  (∀ (dt ag p : Nat) (s : State),
      let t₁ := s.elapse dt
      let v := t₁.wordWith ag (.portCtl p) fPortCtl_RETRAIN 1
      t₁.accepts ag (.portCtl p) v →
      exec (.retrain dt ag p) s = .next ((t₁.accepted ag (.portCtl p) v (fun x =>
        x.portCtlAct p v)).inTimeOf t₁)) ∧
  (∀ (dt ag p mode : Nat) (s : State),
      let t₁ := s.elapse dt
      let v := t₁.wordWith ag (.portCtl p) fPortCtl_TEST mode
      mode < 4 →
      t₁.accepts ag (.portCtl p) v →
      exec (.portTest dt ag p mode) s = .next ((t₁.accepted ag (.portCtl p) v (fun x =>
        x.portCtlAct p v)).inTimeOf t₁)) ∧
  (∀ (dt ag p : Nat) (s : State),
      let t₁ := s.elapse dt
      let v := t₁.wordWith ag (.portCtl p) fPortCtl_TEST 0
      t₁.accepts ag (.portCtl p) v →
      exec (.portTestExit dt ag p) s = .next ((t₁.accepted ag (.portCtl p) v (fun x =>
        x.portCtlAct p v)).inTimeOf t₁)) ∧
  (∀ (dt p kind : Nat) (s : State),
      let t₁ := s.elapse dt
      exec (.invalidCodeGroup dt p kind) s = .next ((t₁.codeError p kind).inTimeOf t₁)) ∧
  (∀ (dt ag p : Nat) (s : State),
      let t₁ := s.elapse dt
      let v := t₁.wordWith ag (.portCntClr p) fPortCntClr_CLR 1
      t₁.accepts ag (.portCntClr p) v →
      exec (.portCntClr dt ag p) s = .next ((t₁.accepted ag (.portCntClr p) v (fun x =>
        x.portCntClr p)).inTimeOf t₁))

/-- Completion of every command of the family, and the state each leaves. -/
def Obligations.CompletePower : Prop :=
  (∀ (dt : Nat) (s : State),
      let t₁ := s.elapse dt
      t₁.pllMayLock = true →
      exec (.pllLock dt) s = .next ((t₁.pllLock).inTimeOf t₁)) ∧
  (∀ (dt : Nat) (ref : Bool) (s : State),
      let t₁ := s.elapse dt
      (t₁.flag .sysClkStat fSysClkStat_LOCK) = true →
      exec (.pllLossOfLock dt ref) s = .next ((t₁.clockFault.setFlag .sysClkStat fSysClkStat_REF_OK ref).inTimeOf t₁)) ∧
  (∀ (dt count : Nat) (s : State),
      let t₁ := s.elapse dt
      exec (.clockWindowEnd dt count) s = .next ((t₁.clockWindow count).inTimeOf t₁)) ∧
  (∀ (dt : Nat) (s : State),
      let t₁ := s.elapse dt
      exec (.powerOnReset dt) s = .next ((t₁.powerOn).inTimeOf t₁)) ∧
  (∀ (dt inside : Nat) (s : State),
      let t₁ := s.elapse dt
      t₁.seqMayStart inside = true →
      exec (.sequencerStart dt inside) s = .next ((t₁.seqStart).inTimeOf t₁)) ∧
  (∀ (dt good : Nat) (s : State),
      let t₁ := s.elapse dt
      t₁.seqMayStep good = true →
      exec (.sequencerStep dt good) s = .next ((t₁.seqStep).inTimeOf t₁)) ∧
  (∀ (dt : Nat) (s : State),
      let t₁ := s.elapse dt
      t₁.pgTimesOut = true →
      exec (.pgTimeout dt) s = .next ((t₁.pgTimeout).inTimeOf t₁)) ∧
  (∀ (dt : Nat) (s : State),
      let t₁ := s.elapse dt
      t₁.downDue = true →
      exec (.powerDownStep dt) s = .next ((t₁.downStep).inTimeOf t₁)) ∧
  (∀ (dt k mv pg : Nat) (s : State),
      let t₁ := s.elapse dt
      exec (.railMeasurement dt k mv pg) s = .next ((t₁.railMeasure k mv pg).inTimeOf t₁)) ∧
  (∀ (dt k : Nat) (s : State),
      let t₁ := s.elapse dt
      t₁.railLive k = true →
      exec (.railFault dt k) s = .next ((t₁.railFault k).inTimeOf t₁)) ∧
  (∀ (dt : Nat) (s : State),
      let t₁ := s.elapse dt
      t₁.waitEnds = true →
      exec (.faultWaitEnd dt) s = .next ((t₁.waitEnd).inTimeOf t₁)) ∧
  (∀ (dt : Nat) (s : State),
      let t₁ := s.elapse dt
      t₁.pollDue = true →
      exec (.pmbusPoll dt) s = .next ((t₁.poll).inTimeOf t₁)) ∧
  (∀ (dt n c data pec : Nat) (ack : Bool) (s : State),
      let t₁ := s.elapse dt
      (t₁.power.pmbOut.contains (n, c)) = true →
      exec (.pmbusReply dt n c data pec ack) s = .next ((t₁.pollReply n c data pec ack).inTimeOf t₁)) ∧
  (∀ (dt : Nat) (s : State),
      let t₁ := s.elapse dt
      exec (.pmbAlert dt) s = .next ((t₁.raise 339).inTimeOf t₁)) ∧
  (∀ (dt low : Nat) (still : Bool) (s : State),
      let t₁ := s.elapse dt
      exec (.resetNLow dt low still) s = .next ((t₁.resetPin low still).inTimeOf t₁)) ∧
  (∀ (dt : Nat) (s : State),
      let t₁ := s.elapse dt
      t₁.mayRelease = true →
      exec (.resetRelease dt) s = .next ((t₁.release).inTimeOf t₁)) ∧
  (∀ (dt ag : Nat) (s : State),
      let t₁ := s.elapse dt
      let v := (wordPut (wordPut 0 fSysRstCtl_KEY 0xC1EA) fSysRstCtl_CHIP 1)
      t₁.accepts ag Reg.sysRstCtl v →
      exec (.softwareResetRequest dt ag) s = .next ((t₁.accepted ag Reg.sysRstCtl v (fun x =>
        x.rstRequest)).inTimeOf t₁)) ∧
  (∀ (dt : Nat) (s : State),
      let t₁ := s.elapse dt
      t₁.softDue = true →
      exec (.softwareChipReset dt) s = .next ((t₁.chipReset rstSOFT).inTimeOf t₁)) ∧
  (∀ (dt : Nat) (tj : Int) (s : State),
      let t₁ := s.elapse dt
      exec (.temperatureReading dt tj) s = .next ((t₁.temperature tj).inTimeOf t₁)) ∧
  (∀ (dt ag : Nat) (s : State),
      let t₁ := s.elapse dt
      let v := t₁.wordWith ag .sysTemp fSysTemp_CLR 1
      t₁.accepts ag .sysTemp v →
      exec (.tjMaxClr dt ag) s = .next ((t₁.accepted ag .sysTemp v (fun x =>
        x.tjMaxClr)).inTimeOf t₁))

/-- Completion of every command of the family, and the state each leaves. -/
def Obligations.CompleteWeirs : Prop :=
  (∀ (dt ag k owed : Nat) (s : State),
      let t₁ := s.elapse dt
      let v := t₁.wordWith ag (.sysWeir k) fSysWeir_CMD wcCLOSE
      t₁.accepts ag (.sysWeir k) v →
      exec (.weirClose dt ag k owed) s = .next ((t₁.accepted ag (.sysWeir k) v (fun x =>
        if x.twin && x.isHead && decide (k < 192) then
          { x with twn := { x.twn with weirDue := x.twn.weirDue ++ [(x.leadCycle ag, x.fromB ag, k, wcCLOSE, owed)] } }
        else x.weirCmd k wcCLOSE owed)).inTimeOf t₁)) ∧
  (∀ (dt ag k : Nat) (s : State),
      let t₁ := s.elapse dt
      let v := t₁.wordWith ag (.sysWeir k) fSysWeir_CMD wcOPEN
      t₁.accepts ag (.sysWeir k) v →
      exec (.weirOpen dt ag k) s = .next ((t₁.accepted ag (.sysWeir k) v (fun x =>
        if x.twin && x.isHead && decide (k < 192) then
          { x with twn := { x.twn with weirDue := x.twn.weirDue ++ [(x.leadCycle ag, x.fromB ag, k, wcOPEN, 0)] } }
        else x.weirCmd k wcOPEN 0)).inTimeOf t₁)) ∧
  (∀ (dt ag k owed : Nat) (s : State),
      let t₁ := s.elapse dt
      let v := t₁.wordWith ag (.sysWeir k) fSysWeir_CMD wcCYCLE
      t₁.accepts ag (.sysWeir k) v →
      exec (.weirCycle dt ag k owed) s = .next ((t₁.accepted ag (.sysWeir k) v (fun x =>
        if x.twin && x.isHead && decide (k < 192) then
          { x with twn := { x.twn with weirDue := x.twn.weirDue ++ [(x.leadCycle ag, x.fromB ag, k, wcCYCLE, owed)] } }
        else x.weirCmd k wcCYCLE owed)).inTimeOf t₁)) ∧
  (∀ (dt ag k owed : Nat) (s : State),
      let t₁ := s.elapse dt
      let v := t₁.wordWith ag (.sysWeir k) fSysWeir_CMD wcOFF
      t₁.accepts ag (.sysWeir k) v →
      exec (.weirPowerOff dt ag k owed) s = .next ((t₁.accepted ag (.sysWeir k) v (fun x =>
        if x.twin && x.isHead && decide (k < 192) then
          { x with twn := { x.twn with weirDue := x.twn.weirDue ++ [(x.leadCycle ag, x.fromB ag, k, wcOFF, owed)] } }
        else x.weirCmd k wcOFF owed)).inTimeOf t₁)) ∧
  (∀ (dt ag k : Nat) (s : State),
      let t₁ := s.elapse dt
      let v := t₁.wordWith ag (.sysWeir k) fSysWeir_CMD wcON
      t₁.accepts ag (.sysWeir k) v →
      exec (.weirPowerOn dt ag k) s = .next ((t₁.accepted ag (.sysWeir k) v (fun x =>
        if x.twin && x.isHead && decide (k < 192) then
          { x with twn := { x.twn with weirDue := x.twn.weirDue ++ [(x.leadCycle ag, x.fromB ag, k, wcON, 0)] } }
        else x.weirCmd k wcON 0)).inTimeOf t₁)) ∧
  (∀ (dt ag k : Nat) (s : State),
      let t₁ := s.elapse dt
      let v := t₁.wordWith ag (.sysWeir k) fSysWeir_CNT_CLR 1
      t₁.accepts ag (.sysWeir k) v →
      exec (.weirCntClr dt ag k) s = .next ((t₁.accepted ag (.sysWeir k) v (fun x =>
        x.weirCntClr k)).inTimeOf t₁)) ∧
  (∀ (dt k : Nat) (s : State),
      let t₁ := s.elapse dt
      t₁.drainMayEnd k = true →
      exec (.drainComplete dt k) s = .next ((t₁.drainEnd k).inTimeOf t₁)) ∧
  (∀ (dt k : Nat) (s : State),
      let t₁ := s.elapse dt
      t₁.drainTimesOut k = true →
      exec (.drainTimeout dt k) s = .next ((t₁.drainForced k).inTimeOf t₁)) ∧
  (∀ (dt k : Nat) (s : State),
      let t₁ := s.elapse dt
      t₁.powerUpEnds k = true →
      exec (.unitPowerUpComplete dt k) s = .next ((t₁.powerUpEnd k).inTimeOf t₁)) ∧
  (∀ (dt k : Nat) (pass : Bool) (s : State),
      let t₁ := s.elapse dt
      t₁.resetEnds k = true →
      exec (.unitResetComplete dt k pass) s = .next ((t₁.resetEnd k pass).inTimeOf t₁)) ∧
  (∀ (dt k age : Nat) (s : State),
      let t₁ := s.elapse dt
      t₁.replyLate k age = true →
      exec (.lateReplyDiscard dt k age) s = .next ((t₁.replyDiscard k).inTimeOf t₁))

/-- Completion of every command of the family, and the state each leaves. -/
def Obligations.CompleteBoot : Prop :=
  (∀ (dt : Nat) (s : State),
      let t₁ := s.elapse dt
      (t₁.stage == stHEADERS) = true →
      exec (.bootHeaders dt) s = .next ((t₁.bootHeaders).inTimeOf t₁)) ∧
  (∀ (dt : Nat) (reread : List Byte) (s : State),
      let t₁ := s.elapse dt
      (t₁.stage == stREAD) = true →
      exec (.imageReadComplete dt reread) s = .next ((t₁.imageRead reread).inTimeOf t₁)) ∧
  (∀ (dt : Nat) (loads : List Load) (bad logOk : Bool) (s : State),
      let t₁ := s.elapse dt
      (t₁.stage == stCONFIG) = true →
      exec (.unitConfigurationComplete dt loads bad logOk) s = .next ((t₁.unitConfig loads bad logOk).inTimeOf t₁)) ∧
  (∀ (dt : Nat) (s : State),
      let t₁ := s.elapse dt
      (t₁.stage == stADMISSION) = true →
      exec (.startupAdmissionComplete dt) s = .next ((t₁.startupAdmission).inTimeOf t₁)) ∧
  (∀ (dt sram : Nat) (jets cmps : List Nat) (zones : Nat) (s : State),
      let t₁ := s.elapse dt
      (t₁.stage == stSELFTEST) = true →
      exec (.selfTestsComplete dt sram jets cmps zones) s = .next ((t₁.selfTests sram jets cmps zones).inTimeOf t₁)) ∧
  (∀ (dt ag : Nat) (v : Word48) (s : State),
      let t₁ := s.elapse dt
      wordFld v fSysImgCtl_GO = 1 → wordFld v fSysImgCtl_CANCEL = 0 →
      t₁.accepts ag Reg.sysImgCtl v →
      exec (.imageSwitchGo dt ag v) s = .next ((t₁.accepted ag Reg.sysImgCtl v (fun x =>
        x.imgGo ag)).inTimeOf t₁)) ∧
  (∀ (dt ag : Nat) (s : State),
      let t₁ := s.elapse dt
      let v := t₁.wordWith ag .sysImgCtl fSysImgCtl_CANCEL 1
      t₁.accepts ag .sysImgCtl v →
      exec (.imageSwitchCancel dt ag) s = .next ((t₁.accepted ag .sysImgCtl v (fun x =>
        x.imgCancel)).inTimeOf t₁)) ∧
  (∀ (dt : Nat) (loads : List Load) (logOk : Bool) (s : State),
      let t₁ := s.elapse dt
      (t₁.imgState == imgVERIFYING) = true →
      exec (.imageVerifyComplete dt loads logOk) s = .next ((t₁.imgVerified loads logOk).inTimeOf t₁)) ∧
  (∀ (dt : Nat) (s : State),
      let t₁ := s.elapse dt
      (t₁.imgState == imgSTAGING) = true →
      exec (.imageStagingComplete dt) s = .next ((t₁.imgStaged).inTimeOf t₁)) ∧
  (∀ (dt : Nat) (s : State),
      let t₁ := s.elapse dt
      t₁.imgDeadline = true →
      exec (.imageSwitchDeadline dt) s = .next ((t₁.imgLate).inTimeOf t₁)) ∧
  (∀ (dt n digest : Nat) (s : State),
      let t₁ := s.elapse dt
      exec (.partnerArmed dt n digest) s = .next ((t₁.partnerArmed n digest).inTimeOf t₁)) ∧
  (∀ (dt ag slot addr : Nat) (s : State),
      let t₁ := s.elapse dt
      let v := wordPut (wordPut (wordPut 0 fSysFlashCtl_OP 1) fSysFlashCtl_SLOT slot) fSysFlashCtl_ADDR addr
      slot < 2 → addr < 2 ^ 24 → t₁.accepts ag .sysFlashCtl v →
      exec (.flashRead dt ag slot addr) s = .next ((t₁.accepted ag .sysFlashCtl v (fun x => x.flashStart 1 slot addr)).inTimeOf t₁)) ∧
  (∀ (dt ag slot addr : Nat) (s : State),
      let t₁ := s.elapse dt
      let v := wordPut (wordPut (wordPut 0 fSysFlashCtl_OP 2) fSysFlashCtl_SLOT slot) fSysFlashCtl_ADDR addr
      slot < 2 → addr < 2 ^ 24 → t₁.accepts ag .sysFlashCtl v →
      exec (.flashProgram dt ag slot addr) s = .next ((t₁.accepted ag .sysFlashCtl v (fun x => x.flashStart 2 slot addr)).inTimeOf t₁)) ∧
  (∀ (dt ag slot addr : Nat) (s : State),
      let t₁ := s.elapse dt
      let v := wordPut (wordPut (wordPut 0 fSysFlashCtl_OP 3) fSysFlashCtl_SLOT slot) fSysFlashCtl_ADDR addr
      slot < 2 → addr < 2 ^ 24 → t₁.accepts ag .sysFlashCtl v →
      exec (.flashErase dt ag slot addr) s = .next ((t₁.accepted ag .sysFlashCtl v (fun x => x.flashStart 3 slot addr)).inTimeOf t₁)) ∧
  (∀ (dt : Nat) (err : Bool) (s : State),
      let t₁ := s.elapse dt
      (t₁.flag .sysFlashCtl fSysFlashCtl_BUSY) = true →
      exec (.flashOpComplete dt err) s = .next ((t₁.flashDone err).inTimeOf t₁)) ∧
  (∀ (dt ag i : Nat) (v : Word48) (s : State),
      let t₁ := s.elapse dt
      t₁.accepts ag (Reg.sysFlashBuf i) v →
      exec (.flashBufWrite dt ag i v) s = .next ((t₁.accepted ag (Reg.sysFlashBuf i) v (fun x =>
        x)).inTimeOf t₁))

/-- Completion of every command of the family, and the state each leaves. -/
def Obligations.CompleteShared : Prop :=
  (∀ (dt u r cost : Nat) (serverFree posted : Bool) (ag addr : Nat) (s : State),
      let t₁ := s.elapse dt
      ((u == 2 || u == 3 || u == 7)) = true →
      exec (.arbitrationRequest dt u r cost serverFree posted ag addr) s = .next ((t₁.busRequest u r cost serverFree posted ag addr).inTimeOf t₁)) ∧
  (∀ (dt u : Nat) (s : State),
      let t₁ := s.elapse dt
      exec (.arbitrationGrant dt u) s = .next ((t₁.unitGrant u).inTimeOf t₁)) ∧
  (∀ (dt u : Nat) (s : State),
      let t₁ := s.elapse dt
      exec (.ageLimitRefusal dt u) s = .next ((t₁.unitAged u).inTimeOf t₁)) ∧
  (∀ (dt ag : Nat) (v : Word48) (s : State),
      let t₁ := s.elapse dt
      wordFld v fShrAdmCtl_CHECK = 1 →
      t₁.accepts ag Reg.shrAdmCtl v →
      exec (.admissionCheckCmd dt ag v) s = .next ((t₁.accepted ag Reg.shrAdmCtl v (fun x =>
        x.admCheck)).inTimeOf t₁)) ∧
  (∀ (dt : Nat) (s : State),
      let t₁ := s.elapse dt
      t₁.adm.running.isSome = true →
      exec (.admissionCheckComplete dt) s = .next ((t₁.admDone).inTimeOf t₁)) ∧
  (∀ (dt ag u r : Nat) (s : State),
      let t₁ := s.elapse dt
      let v := t₁.wordWith ag (.shrReqWait u r) fShrReqWait_CLR 1
      t₁.accepts ag (.shrReqWait u r) v →
      exec (.reqWaitClr dt ag u r) s = .next ((t₁.accepted ag (.shrReqWait u r) v (fun x =>
        x.reqWaitClr u r)).inTimeOf t₁)) ∧
  (∀ (dt ag u : Nat) (s : State),
      let t₁ := s.elapse dt
      let v := t₁.wordWith ag (.shrUnitArb u) fShrUnitArb_CLR 1
      t₁.accepts ag (.shrUnitArb u) v →
      exec (.boundMissClr dt ag u) s = .next ((t₁.accepted ag (.shrUnitArb u) v (fun x =>
        x.setFld (.shrUnitArb u) fShrUnitArb_BOUND_MISS 0)).inTimeOf t₁)) ∧
  (∀ (dt ag : Nat) (s : State),
      let t₁ := s.elapse dt
      let v := t₁.wordWith ag .sysVlogCtl fSysVlogCtl_CLR 1
      t₁.accepts ag .sysVlogCtl v →
      exec (.vlogClr dt ag) s = .next ((t₁.accepted ag .sysVlogCtl v (fun x =>
        x.vlogClr)).inTimeOf t₁))

/-- Completion of every command of the family, and the state each leaves. -/
def Obligations.CompleteAxes : Prop :=
  (∀ (dt ag n : Nat) (v : Word48) (s : State),
      let t₁ := s.elapse dt
      wordFld v fAxsStage_REQ = 1 → wordFld v fAxsStage_CANCEL = 0 →
      t₁.accepts ag (Reg.axsStage n) v →
      exec (.stageRequest dt ag n v) s = .next ((t₁.accepted ag (Reg.axsStage n) v (fun x =>
        x.atOrder ag (.axsStageCycle n) (fun y => y.stageRequest n))).inTimeOf t₁)) ∧
  (∀ (dt ag n : Nat) (s : State),
      let t₁ := s.elapse dt
      let v := t₁.wordWith ag (.axsStage n) fAxsStage_CANCEL 1
      t₁.accepts ag (.axsStage n) v →
      exec (.stageCancel dt ag n) s = .next ((t₁.accepted ag (.axsStage n) v (fun x =>
        x.atOrder ag (.axsStageCycle n) (fun y => y.stageCancel n))).inTimeOf t₁)) ∧
  (∀ (dt ag addr : Nat) (v : BitVec 64) (s : State),
      let t₁ := s.elapse dt
      t₁.issues ag = true → 0x1000000 ≤ addr → addr < 0x1180000 → addr % 8 = 0 → 0x1000 ≤ addr % 0x2000 → t₁.memCode ag addr 8 true = cOK →
      let x := { t₁.setBytes addr (leBytes 8 v.toNat) with ecc := t₁.ecc.filter (fun w => !decide (addr ≤ 4 * w ∧ 4 * w + 4 ≤ addr + 8)) }
      exec (.stagedBankWrite dt ag addr v) s = .next (((x.mirrorMem ag (List.range 9) (memEntries addr (leBytes 8 v.toNat))).answer ag addr (writeType ag) cOK 0).inTimeOf t₁)) ∧
  (∀ (dt ag n : Nat) (s : State),
      let t₁ := s.elapse dt
      let v := t₁.wordWith ag (.axsCmd n) fAxsCmd_CMD cmdENABLE
      t₁.accepts ag (.axsCmd n) v →
      exec (.enable dt ag n) s = .next ((t₁.accepted ag (.axsCmd n) v (fun x =>
        x.cmdAct ag n cmdENABLE)).inTimeOf t₁)) ∧
  (∀ (dt ag n : Nat) (s : State),
      let t₁ := s.elapse dt
      let v := t₁.wordWith ag (.axsCmd n) fAxsCmd_CMD cmdDISABLE
      t₁.accepts ag (.axsCmd n) v →
      exec (.disable dt ag n) s = .next ((t₁.accepted ag (.axsCmd n) v (fun x =>
        x.cmdAct ag n cmdDISABLE)).inTimeOf t₁)) ∧
  (∀ (dt ag n : Nat) (s : State),
      let t₁ := s.elapse dt
      let v := t₁.wordWith ag (.axsCmd n) fAxsCmd_CMD cmdSTOP
      t₁.accepts ag (.axsCmd n) v →
      exec (.stop dt ag n) s = .next ((t₁.accepted ag (.axsCmd n) v (fun x =>
        x.cmdAct ag n cmdSTOP)).inTimeOf t₁)) ∧
  (∀ (dt ag n : Nat) (s : State),
      let t₁ := s.elapse dt
      let v := t₁.wordWith ag (.axsCmd n) fAxsCmd_CMD cmdQUICK
      t₁.accepts ag (.axsCmd n) v →
      exec (.quickStop dt ag n) s = .next ((t₁.accepted ag (.axsCmd n) v (fun x =>
        x.cmdAct ag n cmdQUICK)).inTimeOf t₁)) ∧
  (∀ (dt ag n : Nat) (s : State),
      let t₁ := s.elapse dt
      let v := t₁.wordWith ag (.axsCmd n) fAxsCmd_CMD cmdRESET
      t₁.accepts ag (.axsCmd n) v →
      exec (.faultReset dt ag n) s = .next ((t₁.accepted ag (.axsCmd n) v (fun x =>
        x.cmdAct ag n cmdRESET)).inTimeOf t₁)) ∧
  (∀ (dt ag n : Nat) (s : State),
      let t₁ := s.elapse dt
      let v := t₁.wordWith ag (.axsAgeStat n) fAxsAgeStat_CLR 1
      t₁.accepts ag (.axsAgeStat n) v →
      exec (.ageStatClr dt ag n) s = .next ((t₁.accepted ag (.axsAgeStat n) v (fun x =>
        x.ageStatClr n)).inTimeOf t₁)) ∧
  (∀ (dt ag n : Nat) (s : State),
      let t₁ := s.elapse dt
      let v := t₁.wordWith ag (.axsCsFocStat n) fAxsCsFocStat_CLR 1
      t₁.accepts ag (.axsCsFocStat n) v →
      exec (.vlimCntClr dt ag n) s = .next ((t₁.accepted ag (.axsCsFocStat n) v (fun x =>
        x.setFld (.axsCsFocStat n) fAxsCsFocStat_VLIM_CNT 0)).inTimeOf t₁))

/-- Completion of every command of the family, and the state each leaves. -/
def Obligations.CompleteMoves : Prop :=
  (∀ (dt ag n : Nat) (s : State),
      let t₁ := s.elapse dt
      let v := t₁.wordWith ag (.axsMvCtl n) fAxsMvCtl_PUSH 1
      t₁.accepts ag (.axsMvCtl n) v →
      exec (.movePush dt ag n) s = .next ((t₁.accepted ag (.axsMvCtl n) v (fun x =>
        x.atOrder ag (.axsCasCycle n) (fun y => y.movePush n))).inTimeOf t₁)) ∧
  (∀ (dt ag n : Nat) (s : State),
      let t₁ := s.elapse dt
      let v := t₁.wordWith ag (.axsMvCtl n) fAxsMvCtl_FLUSH 1
      t₁.accepts ag (.axsMvCtl n) v →
      exec (.moveFlush dt ag n) s = .next ((t₁.accepted ag (.axsMvCtl n) v (fun x =>
        x.atOrder ag (.axsCasCycle n) (fun y => y.moveFlush n))).inTimeOf t₁)) ∧
  (∀ (dt ag n : Nat) (s : State),
      let t₁ := s.elapse dt
      let v := t₁.wordWith ag (.axsChgCtl n) fAxsChgCtl_APPLY 1
      t₁.accepts ag (.axsChgCtl n) v →
      exec (.changeApply dt ag n) s = .next ((t₁.accepted ag (.axsChgCtl n) v (fun x =>
        x.atOrder ag (.axsCasCycle n) (fun y => y.changeApply n))).inTimeOf t₁)) ∧
  (∀ (dt ag n : Nat) (s : State),
      let t₁ := s.elapse dt
      let v := t₁.wordWith ag (.axsFolCtl n) fAxsFolCtl_OP 1
      t₁.accepts ag (.axsFolCtl n) v →
      exec (.engage dt ag n) s = .next ((t₁.accepted ag (.axsFolCtl n) v (fun x =>
        x.atOrder ag (.axsCasCycle n) (fun y =>
          y.folPut n (.engage (wordFld v fAxsFolCtl_AT_POS == 1) (y.regN (.axsFolPos n)) (wordFld v fAxsFolCtl_REL == 1))))).inTimeOf t₁)) ∧
  (∀ (dt ag n : Nat) (s : State),
      let t₁ := s.elapse dt
      let v := t₁.wordWith ag (.axsFolCtl n) fAxsFolCtl_OP 2
      t₁.accepts ag (.axsFolCtl n) v →
      exec (.disengage dt ag n) s = .next ((t₁.accepted ag (.axsFolCtl n) v (fun x =>
        x.atOrder ag (.axsCasCycle n) (fun y =>
          y.folPut n (.disengage (wordFld v fAxsFolCtl_AT_POS == 1) (y.regN (.axsFolPos n)))))).inTimeOf t₁)) ∧
  (∀ (dt ag n : Nat) (s : State),
      let t₁ := s.elapse dt
      let v := t₁.wordWith ag (.axsFolCtl n) fAxsFolCtl_OP 3
      t₁.accepts ag (.axsFolCtl n) v →
      exec (.camSwitch dt ag n) s = .next ((t₁.accepted ag (.axsFolCtl n) v (fun x =>
        x.atOrder ag (.axsCasCycle n) (fun y =>
          y.folPut n (.switch (y.regN (.axsFolPos n)) (wordFld v fAxsFolCtl_SW_TABLE) (wordFld v fAxsFolCtl_FORCE == 1))))).inTimeOf t₁)) ∧
  (∀ (dt ag n : Nat) (s : State),
      let t₁ := s.elapse dt
      let v := t₁.wordWith ag (.axsFolCtl n) fAxsFolCtl_CANCEL 1
      t₁.accepts ag (.axsFolCtl n) v →
      exec (.followCancel dt ag n) s = .next ((t₁.accepted ag (.axsFolCtl n) v (fun x =>
        x.atOrder ag (.axsCasCycle n) (fun y => y.folPut n .cancel))).inTimeOf t₁)) ∧
  (∀ (dt ag g : Nat) (s : State),
      let t₁ := s.elapse dt
      let v := (wordPut (t₁.wordWith ag .casGrpCtl fCasGrpCtl_GO 1) fCasGrpCtl_GROUP g)
      g < 32 →
      t₁.accepts ag Reg.casGrpCtl v →
      exec (.groupGo dt ag g) s = .next ((t₁.accepted ag Reg.casGrpCtl v (fun x =>
        x.atOrder ag .casGrpCycle (fun y => y.groupGo g))).inTimeOf t₁)) ∧
  (∀ (dt ag t : Nat) (v : Word48) (s : State),
      let t₁ := s.elapse dt
      t₁.accepts ag (Reg.casCam t) v →
      exec (.camDescriptorWrite dt ag t v) s = .next ((t₁.accepted ag (Reg.casCam t) v (fun x =>
        x.camCheckStart t)).inTimeOf t₁)) ∧
  (∀ (dt t : Nat) (s : State),
      let t₁ := s.elapse dt
      (t₁.flag (.casCam t) fCasCam_BUSY) = true →
      exec (.camCheckComplete dt t) s = .next ((t₁.camChecked t).inTimeOf t₁)) ∧
  (∀ (dt ag addr : Nat) (v : BitVec 64) (s : State),
      let t₁ := s.elapse dt
      t₁.issues ag = true → 0x1180000 ≤ addr → addr < 0x11C0000 → addr % 8 = 0 → t₁.memCode ag addr 8 true = cOK →
      let x := { t₁.setBytes addr (leBytes 8 v.toNat) with ecc := t₁.ecc.filter (fun w => !decide (addr ≤ 4 * w ∧ 4 * w + 4 ≤ addr + 8)) }
      exec (.camStoreWrite dt ag addr v) s = .next (((x.mirrorMem ag (List.range 9) (memEntries addr (leBytes 8 v.toNat))).answer ag addr (writeType ag) cOK 0).inTimeOf t₁)) ∧
  (∀ (dt ag l : Nat) (s : State),
      let t₁ := s.elapse dt
      let v := t₁.wordWith ag (.lmOCtl l) fLmOCtl_CMD 1
      t₁.accepts ag (.lmOCtl l) v →
      exec (.lineMasterPush dt ag l) s = .next ((t₁.accepted ag (.lmOCtl l) v (fun x =>
        x.lmPush l false)).inTimeOf t₁)) ∧
  (∀ (dt ag l : Nat) (s : State),
      let t₁ := s.elapse dt
      let v := t₁.wordWith ag (.lmOCtl l) fLmOCtl_CMD 3
      t₁.accepts ag (.lmOCtl l) v →
      exec (.lineMasterReanchor dt ag l) s = .next ((t₁.accepted ag (.lmOCtl l) v (fun x =>
        x.lmPush l true)).inTimeOf t₁)) ∧
  (∀ (dt ag l : Nat) (s : State),
      let t₁ := s.elapse dt
      let v := t₁.wordWith ag (.lmOCtl l) fLmOCtl_CMD 4
      t₁.accepts ag (.lmOCtl l) v →
      exec (.lineMasterClear dt ag l) s = .next ((t₁.accepted ag (.lmOCtl l) v (fun x =>
        x.lmClear l)).inTimeOf t₁)) ∧
  (∀ (dt ag l : Nat) (v : Word48) (s : State),
      let t₁ := s.elapse dt
      t₁.accepts ag (Reg.lmPrNs l) v →
      exec (.lineMasterPredict dt ag l v) s = .next ((t₁.accepted ag (Reg.lmPrNs l) v (fun x =>
        x.lmPredict l)).inTimeOf t₁)) ∧
  (∀ (dt l : Nat) (s : State),
      let t₁ := s.elapse dt
      ((t₁.lm l).pred.isSome) = true →
      exec (.predictionDone dt l) s = .next ((t₁.lmPredicted l).inTimeOf t₁))

/-- Completion of every command of the family, and the state each leaves. -/
def Obligations.CompleteStops : Prop :=
  (∀ (dt n : Nat) (s : State),
      let t₁ := s.elapse dt
      t₁.stopTimesOut n = true →
      exec (.stopTimeout dt n) s = .next ((t₁.stopTimeout n).inTimeOf t₁)) ∧
  (∀ (dt n : Nat) (s : State),
      let t₁ := s.elapse dt
      t₁.restDue n = true →
      exec (.atRestSet dt n) s = .next ((t₁.restSet n).inTimeOf t₁)) ∧
  (∀ (dt n : Nat) (s : State),
      let t₁ := s.elapse dt
      t₁.crDue n = true →
      exec (.currentReduction dt n) s = .next ((t₁.crSet n).inTimeOf t₁)) ∧
  (∀ (dt n i : Nat) (s : State),
      let t₁ := s.elapse dt
      t₁.debDue n i = true →
      exec (.debounceChange dt n i) s = .next ((t₁.debounce n i).inTimeOf t₁)) ∧
  (∀ (dt n i : Nat) (s : State),
      let t₁ := s.elapse dt
      t₁.blockEnds n i = true →
      exec (.limitBlockRelease dt n i) s = .next ((t₁.blockEnd n i).inTimeOf t₁)) ∧
  (∀ (dt ag n : Nat) (s : State),
      let t₁ := s.elapse dt
      let v := t₁.wordWith ag (.axsLimStat n) fAxsLimStat_CLR 1
      t₁.accepts ag (.axsLimStat n) v →
      exec (.limitStatClr dt ag n) s = .next ((t₁.accepted ag (.axsLimStat n) v (fun x =>
        x.limClr n)).inTimeOf t₁)) ∧
  (∀ (dt ag n : Nat) (s : State),
      let t₁ := s.elapse dt
      let v := t₁.wordWith ag (.axsHmCtl n) fAxsHmCtl_START 1
      t₁.accepts ag (.axsHmCtl n) v →
      exec (.homingStart dt ag n) s = .next ((t₁.accepted ag (.axsHmCtl n) v (fun x =>
        x.atOrder ag (.axsCasCycle n) (fun y => y.homeOrder n))).inTimeOf t₁)) ∧
  (∀ (dt ag n : Nat) (s : State),
      let t₁ := s.elapse dt
      let v := t₁.wordWith ag (.axsHmCtl n) fAxsHmCtl_ABORT 1
      t₁.accepts ag (.axsHmCtl n) v →
      exec (.homingAbort dt ag n) s = .next ((t₁.accepted ag (.axsHmCtl n) v (fun x =>
        x.atOrder ag (.axsCasCycle n) (fun y => y.homeAbortOrder n))).inTimeOf t₁)) ∧
  (∀ (dt n i : Nat) (level : Bool) (s : State),
      let t₁ := s.elapse dt
      exec (.referenceEdge dt n i level) s = .next ((t₁.gpioEdge n i level).inTimeOf t₁)) ∧
  (∀ (dt n : Nat) (s : State),
      let t₁ := s.elapse dt
      t₁.winEnds n = true →
      exec (.captureWindowEnd dt n) s = .next ((t₁.winReject n).inTimeOf t₁)) ∧
  (∀ (dt n : Nat) (s : State),
      let t₁ := s.elapse dt
      t₁.dwellEnds n = true →
      exec (.hardStopDwellEnd dt n) s = .next ((t₁.dwellEnd n).inTimeOf t₁))

/-- Completion of every command of the family, and the state each leaves. -/
def Obligations.CompleteFeedback : Prop :=
  (∀ (dt c : Nat) (a b : Bool) (s : State),
      let t₁ := s.elapse dt
      exec (.encoderEdge dt c a b) s = .next ((t₁.encoderEdge c a b).inTimeOf t₁)) ∧
  (∀ (dt c code : Nat) (s : State),
      let t₁ := s.elapse dt
      exec (.hallCodeChange dt c code) s = .next ((t₁.hallChange c code).inTimeOf t₁)) ∧
  (∀ (dt c : Nat) (s : State),
      let t₁ := s.elapse dt
      t₁.indexTaken c = true →
      exec (.indexEvent dt c) s = .next (((t₁.indexEvent c).homeIndex c).inTimeOf t₁)) ∧
  (∀ (dt c : Nat) (datLow : Bool) (s : State),
      let t₁ := s.elapse dt
      t₁.serialStartDue c = true →
      exec (.serialFrameStart dt c datLow) s = .next ((t₁.serialStart c datLow).inTimeOf t₁)) ∧
  (∀ (dt c d : Nat) (s : State),
      let t₁ := s.elapse dt
      exec (.serialFrameComplete dt c d) s = .next ((t₁.serialComplete c d).inTimeOf t₁)) ∧
  (∀ (dt c : Nat) (s : State),
      let t₁ := s.elapse dt
      exec (.serialTimeout dt c) s = .next ((t₁.serialTimeout c).inTimeOf t₁)) ∧
  (∀ (dt c : Nat) (s : State),
      let t₁ := s.elapse dt
      exec (.standstillTimeout dt c) s = .next ((t₁.standstillTimeout c).inTimeOf t₁)) ∧
  (∀ (dt ag n : Nat) (s : State),
      let t₁ := s.elapse dt
      let v := t₁.wordWith ag (.axsFbStat n) fAxsFbStat_CHK_CLR 1
      t₁.accepts ag (.axsFbStat n) v →
      exec (.chkClr dt ag n) s = .next ((t₁.accepted ag (.axsFbStat n) v (fun x =>
        x.chkClr n)).inTimeOf t₁)) ∧
  (∀ (dt ag c l : Nat) (s : State),
      let t₁ := s.elapse dt
      let v := t₁.wordWith ag (.encLatCtl c) (fEncLatCtl_ARM l) 1
      l < 2 →
      t₁.accepts ag (.encLatCtl c) v →
      exec (.latchArm dt ag c l) s = .next ((t₁.accepted ag (.encLatCtl c) v (fun x =>
        x.latchArm c l)).inTimeOf t₁)) ∧
  (∀ (dt ag c l : Nat) (s : State),
      let t₁ := s.elapse dt
      let v := t₁.wordWith ag (.encLatCtl c) (fEncLatCtl_DISARM l) 1
      l < 2 →
      t₁.accepts ag (.encLatCtl c) v →
      exec (.latchDisarm dt ag c l) s = .next ((t₁.accepted ag (.encLatCtl c) v (fun x =>
        x.latchDisarm c l)).inTimeOf t₁)) ∧
  (∀ (dt c l src : Nat) (rising : Bool) (s : State),
      let t₁ := s.elapse dt
      t₁.latchMatches c l src rising = true →
      exec (.latchCapture dt c l src rising) s = .next (((t₁.latchCapture c l src rising).homeLatched c l).inTimeOf t₁)) ∧
  (∀ (dt ag c : Nat) (s : State),
      let t₁ := s.elapse dt
      let v := t₁.wordWith ag (.encErr c) fEncErr_CLR 1
      t₁.accepts ag (.encErr c) v →
      exec (.encErrClr dt ag c) s = .next ((t₁.accepted ag (.encErr c) v (fun x =>
        x.encErrClr c)).inTimeOf t₁))

/-- Completion of every command of the family, and the state each leaves. -/
def Obligations.CompletePwm : Prop :=
  (∀ (dt n : Nat) (s : State),
      let t₁ := s.elapse dt
      t₁.periodEnds n = true →
      exec (.pwmPeriodBoundary dt n) s = .next ((t₁.periodStart n).inTimeOf t₁)) ∧
  (∀ (dt ag n which : Nat) (v : Word48) (s : State),
      let t₁ := s.elapse dt
      which ≤ 2 →
      t₁.accepts ag (tcShadow which n) v →
      exec (.shadowWrite dt ag n which v) s = .next ((t₁.accepted ag (tcShadow which n) v (fun x =>
        x.shadowWritten n which)).inTimeOf t₁)) ∧
  (∀ (dt ag n : Nat) (s : State),
      let t₁ := s.elapse dt
      let v := t₁.wordWith ag (.tcCtl n) fTcCtl_COMMIT 1
      t₁.accepts ag (.tcCtl n) v →
      exec (.channelCommit dt ag n) s = .next ((t₁.accepted ag (.tcCtl n) v (fun x =>
        x.tcCommit n)).inTimeOf t₁)) ∧
  (∀ (dt ag g : Nat) (s : State),
      let t₁ := s.elapse dt
      let v := t₁.wordWith ag (.sgCtl g) fSgCtl_COMMIT 1
      t₁.accepts ag (.sgCtl g) v →
      exec (.groupCommit dt ag g) s = .next ((t₁.accepted ag (.sgCtl g) v (fun x =>
        (if wordFld v fSgCtl_EN == 1 then x.sgEnable g else if t₁.flag (.sgCtl g) fSgCtl_EN then x.sgDisable g else x).sgCommit g)).inTimeOf t₁)) ∧
  (∀ (dt n : Nat) (s : State),
      let t₁ := s.elapse dt
      exec (.compareEdge dt n) s = .next ((t₁.compareEdge n).inTimeOf t₁)) ∧
  (∀ (dt n : Nat) (s : State),
      let t₁ := s.elapse dt
      t₁.shootTrips n = true →
      exec (.shootThroughTrip dt n) s = .next ((t₁.trip (t₁.tcGroup n) 18).inTimeOf t₁)) ∧
  (∀ (dt ag g : Nat) (s : State),
      let t₁ := s.elapse dt
      let v := t₁.wordWith ag (.sgCtl g) fSgCtl_EN 1
      t₁.accepts ag (.sgCtl g) v →
      exec (.groupEnable dt ag g) s = .next ((t₁.accepted ag (.sgCtl g) v (fun x =>
        x.sgEnable g)).inTimeOf t₁)) ∧
  (∀ (dt ag g : Nat) (s : State),
      let t₁ := s.elapse dt
      let v := t₁.wordWith ag (.sgCtl g) fSgCtl_EN 0
      t₁.accepts ag (.sgCtl g) v →
      exec (.groupDisable dt ag g) s = .next ((t₁.accepted ag (.sgCtl g) v (fun x =>
        if t₁.flag (.sgCtl g) fSgCtl_EN then x.sgDisable g else x)).inTimeOf t₁)) ∧
  (∀ (dt g : Nat) (s : State),
      let t₁ := s.elapse dt
      t₁.sgShutdownEnds g = true →
      exec (.shutdownEnd dt g) s = .next ((t₁.sgShutdownEnd g).inTimeOf t₁)) ∧
  (∀ (dt ag g : Nat) (s : State),
      let t₁ := s.elapse dt
      let v := t₁.wordWith ag (.sgCtl g) fSgCtl_PRECHARGE 1
      t₁.accepts ag (.sgCtl g) v →
      exec (.prechargeCmd dt ag g) s = .next ((t₁.accepted ag (.sgCtl g) v (fun x =>
        (if wordFld v fSgCtl_EN == 1 then x.sgEnable g else if t₁.flag (.sgCtl g) fSgCtl_EN then x.sgDisable g else x).sgPrecharge g)).inTimeOf t₁)) ∧
  (∀ (dt g : Nat) (s : State),
      let t₁ := s.elapse dt
      t₁.preOnEnds g = true →
      exec (.prechargeOnEnd dt g) s = .next ((t₁.preOnEnd g).inTimeOf t₁)) ∧
  (∀ (dt g : Nat) (s : State),
      let t₁ := s.elapse dt
      t₁.preDone g = true →
      exec (.prechargeComplete dt g) s = .next ((t₁.sgEnterRun g).inTimeOf t₁)) ∧
  (∀ (dt g : Nat) (s : State),
      let t₁ := s.elapse dt
      t₁.preExpires g = true →
      exec (.prechargeExpiry dt g) s = .next ((t₁.unprecharge g).inTimeOf t₁)) ∧
  (∀ (dt k : Nat) (on : Bool) (s : State),
      let t₁ := s.elapse dt
      exec (.hardTrip dt k on) s = .next ((t₁.hardChange k on).inTimeOf t₁)) ∧
  (∀ (dt k : Nat) (on : Bool) (s : State),
      let t₁ := s.elapse dt
      exec (.fastQualified dt k on) s = .next ((t₁.fastChange k on).inTimeOf t₁)) ∧
  (∀ (dt k : Nat) (s : State),
      let t₁ := s.elapse dt
      t₁.fastTrips k = true →
      exec (.fastTrip dt k) s = .next ((t₁.fastTrip k).inTimeOf t₁)) ∧
  (∀ (dt g : Nat) (s : State),
      let t₁ := s.elapse dt
      t₁.snapCloses g = true →
      exec (.tripSnapshotClose dt g) s = .next ((t₁.snapClose g).inTimeOf t₁)) ∧
  (∀ (dt ag g : Nat) (s : State),
      let t₁ := s.elapse dt
      let v := t₁.wordWith ag (.sgCtl g) fSgCtl_TRIP_CLR 1
      t₁.accepts ag (.sgCtl g) v →
      exec (.tripClr dt ag g) s = .next ((t₁.accepted ag (.sgCtl g) v (fun x =>
        if wordFld v fSgCtl_EN == 1 then (x.tripClr g).sgEnable g else if t₁.flag (.sgCtl g) fSgCtl_EN then (x.tripClr g).sgDisable g else x.tripClr g)).inTimeOf t₁)) ∧
  (∀ (dt i : Nat) (sum : Int) (s : State),
      let t₁ := s.elapse dt
      t₁.sinc3Ends i = true →
      exec (.sinc3Result dt i sum) s = .next (((t₁.sinc3 i sum).mirSdResult i false).inTimeOf t₁)) ∧
  (∀ (dt i : Nat) (sum : Int) (s : State),
      let t₁ := s.elapse dt
      (t₁.sdWindowEnds i (t₁.fld (.sdCfg i) fSdCfg_OSR2)) = true →
      exec (.sinc2Result dt i sum) s = .next (((t₁.sinc2 i sum).mirSdResult i true).inTimeOf t₁)) ∧
  (∀ (dt i : Nat) (s : State),
      let t₁ := s.elapse dt
      exec (.sdStuck dt i) s = .next ((t₁.sdStuck i).inTimeOf t₁)) ∧
  (∀ (dt ag k : Nat) (s : State),
      let t₁ := s.elapse dt
      let v := t₁.wordWith ag (.cmpStat k) fCmpStat_ST_CMD 1
      t₁.accepts ag (.cmpStat k) v →
      exec (.comparatorSelfTest dt ag k) s = .next ((t₁.accepted ag (.cmpStat k) v (fun x =>
        x.stStart k)).inTimeOf t₁)) ∧
  (∀ (dt k : Nat) (pass : Bool) (s : State),
      let t₁ := s.elapse dt
      ((t₁.cmp k).test.isSome) = true →
      exec (.comparatorSelfTestEnd dt k pass) s = .next ((t₁.stEnd k pass).inTimeOf t₁)) ∧
  (∀ (dt ag n : Nat) (s : State),
      let t₁ := s.elapse dt
      let v := t₁.wordWith ag (.tcStat n) fTcStat_CLR 1
      t₁.accepts ag (.tcStat n) v →
      exec (.tcCntClr dt ag n) s = .next ((t₁.accepted ag (.tcStat n) v (fun x =>
        x.tcCntClr n)).inTimeOf t₁))

/-- Completion of every command of the family, and the state each leaves. -/
def Obligations.CompleteTwin : Prop :=
  (∀ (dt : Nat) (s : State),
      let t₁ := s.elapse dt
      t₁.listenDone = true →
      exec (.listenEnd dt) s = .next ((t₁.enterCold).inTimeOf t₁)) ∧
  (∀ (dt : Nat) (s : State),
      let t₁ := s.elapse dt
      t₁.coldDone = true →
      exec (.coldStartComplete dt) s = .next ((t₁.enterRun).inTimeOf t₁)) ∧
  (∀ (dt id : Nat) (s : State),
      let t₁ := s.elapse dt
      (t₁.cs == csCOLD && id != t₁.headId) = true →
      exec (.collision dt id) s = .next ((t₁.collide).inTimeOf t₁)) ∧
  (∀ (dt : Nat) (s : State),
      let t₁ := s.elapse dt
      t₁.backoffDone = true →
      exec (.backoffEnd dt) s = .next ((t₁.backoffEnd).inTimeOf t₁)) ∧
  (∀ (dt ag : Nat) (s : State),
      let t₁ := s.elapse dt
      let v := t₁.wordWith ag .netCsCtl fNetCsCtl_RETRY 1
      t₁.accepts ag .netCsCtl v →
      exec (.coldStartRetry dt ag) s = .next ((t₁.accepted ag .netCsCtl v (fun x =>
        x.coldRetry)).inTimeOf t₁)) ∧
  (∀ (dt : Nat) (s : State),
      let t₁ := s.elapse dt
      exec (.coldStartEcho dt) s = .next ((t₁.coldEcho).inTimeOf t₁)) ∧
  (∀ (dt id : Nat) (s : State),
      let t₁ := s.elapse dt
      (t₁.cs == csRUN && id != t₁.headId) = true →
      exec (.coldStartBlock dt id) s = .next ((t₁.blockCold).inTimeOf t₁)) ∧
  (∀ (dt id : Nat) (s : State),
      let t₁ := s.elapse dt
      (t₁.isHead && !t₁.twin && id != t₁.headId) = true →
      exec (.foreignHead dt id) s = .next ((t₁.foreign).inTimeOf t₁)) ∧
  (∀ (dt : Nat) (s : State),
      let t₁ := s.elapse dt
      (t₁.cs == csLISTEN) = true →
      exec (.headBlocked dt) s = .next ((t₁.setFlag .netCsStat fNetCsStat_BLOCKED true).inTimeOf t₁)) ∧
  (∀ (dt : Nat) (s : State),
      let t₁ := s.elapse dt
      t₁.statusDue = true →
      exec (.statusSend dt) s = .next ((t₁.statusSend).inTimeOf t₁)) ∧
  (∀ (dt : Nat) (s : State),
      let t₁ := s.elapse dt
      exec (.statusReceived dt) s = .next ((t₁.statusReceived).inTimeOf t₁)) ∧
  (∀ (dt : Nat) (s : State),
      let t₁ := s.elapse dt
      t₁.digestDue = true →
      exec (.digestSend dt) s = .next ((t₁.digestSend).inTimeOf t₁)) ∧
  (∀ (dt : Nat) (s : State),
      let t₁ := s.elapse dt
      exec (.digestReceived dt) s = .next ((t₁.digestReceived).inTimeOf t₁)) ∧
  (∀ (dt : Nat) (s : State),
      let t₁ := s.elapse dt
      t₁.digestMissed = true →
      exec (.digestMiss dt) s = .next ((t₁.digestMiss).inTimeOf t₁)) ∧
  (∀ (dt : Nat) (s : State),
      let t₁ := s.elapse dt
      t₁.standbyDue = true →
      exec (.standbyEntry dt) s = .next ((t₁.standbyEnter).inTimeOf t₁)) ∧
  (∀ (dt : Nat) (s : State),
      let t₁ := s.elapse dt
      t₁.copyDue = true →
      exec (.copySend dt) s = .next ((t₁.copySend).inTimeOf t₁)) ∧
  (∀ (dt : Nat) (s : State),
      let t₁ := s.elapse dt
      t₁.copyLoadDue = true →
      exec (.copyLoad dt) s = .next ((t₁.copyLoad).inTimeOf t₁)) ∧
  (∀ (dt : Nat) (s : State),
      let t₁ := s.elapse dt
      exec (.mirrorReceived dt) s = .next ((t₁.mirrorReceived State.mirrorAccess).inTimeOf t₁)) ∧
  (∀ (dt : Nat) (s : State),
      let t₁ := s.elapse dt
      exec (.mirrorRetransmit dt) s = .next ((t₁.mirrorAgain).inTimeOf t₁)) ∧
  (∀ (dt c : Nat) (s : State),
      let t₁ := s.elapse dt
      t₁.abdCause c = true →
      exec (.abdication dt c) s = .next ((t₁.abdication c).inTimeOf t₁)) ∧
  (∀ (dt ag : Nat) (s : State),
      let t₁ := s.elapse dt
      let v := t₁.wordWith ag .twnCtl fTwnCtl_HANDOVER 1
      t₁.accepts ag .twnCtl v →
      exec (.handoverArm dt ag) s = .next ((t₁.accepted ag .twnCtl v (fun x =>
        x.atOrder ag .twnHoCycle (fun y => y.handoverArm))).inTimeOf t₁)) ∧
  (∀ (dt : Nat) (s : State),
      let t₁ := s.elapse dt
      t₁.deafDue = true →
      exec (.deafnessEvaluation dt) s = .next ((t₁.deafEval).inTimeOf t₁)) ∧
  (∀ (dt : Nat) (s : State),
      let t₁ := s.elapse dt
      t₁.hlLost = true →
      exec (.headLinkLoss dt) s = .next ((t₁.hlLoss.imgLinkLoss).inTimeOf t₁)) ∧
  (∀ (dt ag : Nat) (s : State),
      let t₁ := s.elapse dt
      let v := t₁.wordWith ag .twnCtl fTwnCtl_RESYNC 1
      t₁.accepts ag .twnCtl v →
      exec (.resync dt ag) s = .next ((t₁.accepted ag .twnCtl v (fun x =>
        x.atOrder ag .twnHoCycle (fun y => y.resync))).inTimeOf t₁)) ∧
  (∀ (dt p : Nat) (s : State),
      let t₁ := s.elapse dt
      t₁.pullDue p = true →
      exec (.pullSend dt p) s = .next ((t₁.pullSend p).inTimeOf t₁)) ∧
  (∀ (dt : Nat) (s : State),
      let t₁ := s.elapse dt
      exec (.pullReceived dt) s = .next ((t₁.pullReceived).inTimeOf t₁)) ∧
  (∀ (dt ag : Nat) (s : State),
      let t₁ := s.elapse dt
      let v := t₁.wordWith ag .twnCtl fTwnCtl_CNT_CLR 1
      t₁.accepts ag .twnCtl v →
      exec (.twinCntClr dt ag) s = .next ((t₁.accepted ag .twnCtl v (fun x =>
        x.atOrder ag .twnHoCycle (fun y => y.twinCntClr))).inTimeOf t₁))

/-- Completion of every command of the family, and the state each leaves. -/
def Obligations.CompleteTime : Prop :=
  (∀ (dt ag d : Nat) (s : State),
      let t₁ := s.elapse dt
      let v := t₁.wordWith ag (.domMCtl d) fDomMCtl_POST 1
      t₁.accepts ag (.domMCtl d) v →
      exec (.ptpPost dt ag d) s = .next ((t₁.accepted ag (.domMCtl d) v (fun x =>
        x.ptpPost d)).inTimeOf t₁)) ∧
  (∀ (dt d : Nat) (s : State),
      let t₁ := s.elapse dt
      t₁.domTimedOut d = true →
      exec (.domainTimeout dt d) s = .next ((t₁.domTimeout d).inTimeOf t₁)) ∧
  (∀ (dt : Nat) (s : State),
      let t₁ := s.elapse dt
      t₁.revertDue = true →
      exec (.domainRevert dt) s = .next ((t₁.domRevert).inTimeOf t₁)) ∧
  (∀ (dt : Nat) (s : State),
      let t₁ := s.elapse dt
      t₁.holdLimit = true →
      exec (.holdoverLimit dt) s = .next ((t₁.lostSync).inTimeOf t₁)) ∧
  (∀ (dt : Nat) (s : State),
      let t₁ := s.elapse dt
      t₁.ltLocks = true →
      exec (.lineTimeLocked dt) s = .next ((t₁.setLstate 2).inTimeOf t₁)) ∧
  (∀ (dt ag : Nat) (s : State),
      let t₁ := s.elapse dt
      t₁.readable ag .timTsqId →
      let y := t₁.tsqRead
      exec (.timestampRead dt ag) s = .next ((y.2.readBack ag .timTsqId (BitVec.ofNat 48 y.1)).inTimeOf t₁)) ∧
  (∀ (dt ag : Nat) (s : State),
      let t₁ := s.elapse dt
      let v := t₁.wordWith ag .timTsqStat fTimTsqStat_CLR 1
      t₁.accepts ag .timTsqStat v →
      exec (.tsqClr dt ag) s = .next ((t₁.accepted ag .timTsqStat v (fun x =>
        x.setFld .timTsqStat fTimTsqStat_LOST 0)).inTimeOf t₁)) ∧
  (∀ (dt ag i : Nat) (s : State),
      let t₁ := s.elapse dt
      let v := t₁.wordWith ag (.ttCtl i) fTtCtl_ARM 1
      t₁.accepts ag (.ttCtl i) v →
      exec (.comparatorArm dt ag i) s = .next ((t₁.accepted ag (.ttCtl i) v (fun x =>
        (x.ttHold i).ttArm i)).inTimeOf t₁)) ∧
  (∀ (dt ag i : Nat) (s : State),
      let t₁ := s.elapse dt
      let v := t₁.wordWith ag (.ttCtl i) fTtCtl_DISARM 1
      t₁.accepts ag (.ttCtl i) v →
      exec (.comparatorDisarm dt ag i) s = .next ((t₁.accepted ag (.ttCtl i) v (fun x =>
        (x.ttHold i).ttDisarm i)).inTimeOf t₁)) ∧
  (∀ (dt : Nat) (s : State),
      let t₁ := s.elapse dt
      exec (.comparatorFire dt) s = .next ((t₁.ttFireAll mirFire).inTimeOf t₁)) ∧
  (∀ (dt i : Nat) (s : State),
      let t₁ := s.elapse dt
      t₁.pulseEnds i = true →
      exec (.pulseEnd dt i) s = .next ((t₁.pulseEnd i).inTimeOf t₁))

/-- Completion of every command of the family, and the state each leaves. -/
def Obligations.CompleteMirage : Prop :=
  (∀ (dt c pins : Nat) (s : State),
      let t₁ := s.elapse dt
      let x := (t₁.setBalls pins).mirSettle c
      x.mirSampleDue c = true →
      exec (.mirageSample dt c pins) s = .next ((x.mirSample c).inTimeOf t₁)) ∧
  (∀ (dt c : Nat) (s : State),
      let t₁ := s.elapse dt
      let x := t₁.mirSettle c
      x.mirAbsDue c = true →
      exec (.absRecord dt c) s = .next ((x.mirAbs c).inTimeOf t₁)) ∧
  (∀ (dt ag c len : Nat) (s : State),
      let t₁ := s.elapse dt
      let v := (wordPut (wordPut 0 fMirRingCtl_LEN_NEW len) fMirRingCtl_STAGE 1)
      len < 2 ^ 18 →
      t₁.accepts ag (Reg.mirRingCtl c) v →
      exec (.ringStage dt ag c len) s = .next ((t₁.accepted ag (Reg.mirRingCtl c) v (fun x =>
        x.ringStage c len)).inTimeOf t₁)) ∧
  (∀ (dt ag c : Nat) (s : State),
      let t₁ := s.elapse dt
      let v := t₁.wordWith ag (.mirCtl c) fMirCtl_ARM 1
      t₁.accepts ag (.mirCtl c) v →
      exec (.mirageArm dt ag c) s = .next ((t₁.accepted ag (.mirCtl c) v (fun x =>
        x.mirOrder c true false false)).inTimeOf t₁)) ∧
  (∀ (dt ag c : Nat) (s : State),
      let t₁ := s.elapse dt
      let v := t₁.wordWith ag (.mirCtl c) fMirCtl_DISARM 1
      t₁.accepts ag (.mirCtl c) v →
      exec (.mirageDisarm dt ag c) s = .next ((t₁.accepted ag (.mirCtl c) v (fun x =>
        x.mirOrder c false true false)).inTimeOf t₁)) ∧
  (∀ (dt ag c : Nat) (s : State),
      let t₁ := s.elapse dt
      let v := t₁.wordWith ag (.mirCtl c) fMirCtl_FORCE_TRIG 1
      t₁.accepts ag (.mirCtl c) v →
      exec (.forceTrig dt ag c) s = .next ((t₁.accepted ag (.mirCtl c) v (fun x =>
        x.mirOrder c false false true)).inTimeOf t₁)) ∧
  (∀ (dt c : Nat) (s : State),
      let t₁ := s.elapse dt
      let x := t₁.mirSettle c
      ∀ n, (x.mir c).holdTo = some n → n ≤ x.now →
      let y := x.setMir c { x.mir c with holdTo := none }
      exec (.rearmHoldEnd dt c) s = .next ((if y.mirMayPre c then y.mirToPre c else y).inTimeOf t₁)) ∧
  (∀ (dt c : Nat) (s : State),
      let t₁ := s.elapse dt
      let x := t₁.mirSettle c
      x.mirMayPre c = true →
      exec (.preEntry dt c) s = .next ((x.mirToPre c).inTimeOf t₁)) ∧
  (∀ (dt c : Nat) (rise : Bool) (s : State),
      let t₁ := s.elapse dt
      let x := t₁.mirSettle c
      x.mirEdge c rise = true →
      exec (.triggerAct dt c rise) s = .next ((x.mirEdgeAct c rise).inTimeOf t₁)) ∧
  (∀ (dt c : Nat) (s : State),
      let t₁ := s.elapse dt
      let x := t₁.mirSettle c
      x.mirTimesOut c = true →
      exec (.postTimeout dt c) s = .next ((x.mirEnd c true false).inTimeOf t₁)) ∧
  (∀ (dt c : Nat) (s : State),
      let t₁ := s.elapse dt
      t₁.xtlEnds c = true →
      exec (.xtlRelease dt c) s = .next ((t₁.xtlRelease).inTimeOf t₁)) ∧
  (∀ (dt c : Nat) (s : State),
      let t₁ := s.elapse dt
      let x := t₁.mirSettle c
      x.mirStreamDue c = true →
      exec (.streamUpload dt c) s = .next ((x.mirStream c).inTimeOf t₁)) ∧
  (∀ (dt c : Nat) (s : State),
      let t₁ := s.elapse dt
      exec (.uploadComplete dt c) s = .next ((t₁.mirUploaded c).inTimeOf t₁)) ∧
  (∀ (dt ag c : Nat) (s : State),
      let t₁ := s.elapse dt
      let v := t₁.wordWith ag (.mirCtl c) fMirCtl_CNT_CLR 1
      t₁.accepts ag (.mirCtl c) v →
      exec (.mirageCntClr dt ag c) s = .next ((t₁.accepted ag (.mirCtl c) v (fun x =>
        x.mirCntClr c)).inTimeOf t₁)) ∧
  (∀ (dt ag m : Nat) (v : Word48) (s : State),
      let t₁ := s.elapse dt
      t₁.accepts ag (Reg.mirMaskCfg m) v →
      exec (.maskCfgWrite dt ag m v) s = .next ((t₁.accepted ag (Reg.mirMaskCfg m) v (fun x =>
        x)).inTimeOf t₁))

/-- Completion of every command of the family, and the state each leaves. -/
def Obligations.CompleteSpout : Prop :=
  (∀ (dt ag : Nat) (s : State),
      let t₁ := s.elapse dt
      let v := t₁.wordWith ag .sptSubGo fSptSubGo_GO 1
      t₁.accepts ag .sptSubGo v →
      exec (.spoutPost dt ag) s = .next ((t₁.accepted ag .sptSubGo v (fun x =>
        x.sptPost ag)).inTimeOf t₁)) ∧
  (∀ (dt : Nat) (s : State),
      let t₁ := s.elapse dt
      t₁.sptMayStart = true →
      exec (.spoutJobStart dt) s = .next ((t₁.sptGrant).inTimeOf t₁)) ∧
  (∀ (dt : Nat) (s : State),
      let t₁ := s.elapse dt
      t₁.sptMayPreempt = true →
      exec (.spoutPreemption dt) s = .next ((t₁.sptSuspend).inTimeOf t₁)) ∧
  (∀ (dt : Nat) (s : State),
      let t₁ := s.elapse dt
      t₁.sptTimesOut = true →
      exec (.spoutJobTimeout dt) s = .next ((t₁.sptTimeout).inTimeOf t₁)) ∧
  (∀ (dt t : Nat) (deny : Bool) (s : State),
      let t₁ := s.elapse dt
      ∀ (j : SptJob) (e : SptExt), t₁.sptExtJob t = some j → j.ext = some e →
      let x := if e.load then t₁.read32 11 e.addr else t₁.write32 11 e.addr e.data
      exec (.extResponse dt t deny) s = .next ((if deny then t₁.sptRespond t cDEFERRED 0 else x.sptRespond t (x.agent 11).code (x.agent 11).data).inTimeOf t₁)) ∧
  (∀ (dt ag : Nat) (s : State),
      let t₁ := s.elapse dt
      let v := t₁.wordWith ag .sptCntClr fSptCntClr_CLR 1
      t₁.accepts ag .sptCntClr v →
      exec (.spoutCntClr dt ag) s = .next ((t₁.accepted ag .sptCntClr v (fun x =>
        x.setReg .sptCnt 0)).inTimeOf t₁)) ∧
  (∀ (dt ag addr : Nat) (v : BitVec 64) (s : State),
      let t₁ := s.elapse dt
      t₁.issues ag = true → 0x11E0000 ≤ addr → addr < 0x1200000 → addr % 8 = 0 → t₁.memCode ag addr 8 true = cOK →
      let x := { t₁.setBytes addr (leBytes 8 v.toNat) with ecc := t₁.ecc.filter (fun w => !decide (addr ≤ 4 * w ∧ 4 * w + 4 ≤ addr + 8)) }
      exec (.programWordWrite dt ag addr v) s = .next ((x.answer ag addr (writeType ag) cOK 0).inTimeOf t₁))

/-- Completion of every command of the family, and the state each leaves. -/
def Obligations.CompleteSpoutInstr : Prop :=
  (∀ (dt : Nat) (ecc : Bool) (s : State),
      let t₁ := s.elapse dt
      ∀ (j : SptJob) (w : Nat), t₁.sptNow opNOP = some (j, w) → t₁.sptEcc j w ecc = false →
      exec (.nop dt ecc) s = .next ((t₁.sptTake 1 (.next j [])).inTimeOf t₁)) ∧
  (∀ (dt : Nat) (ecc : Bool) (s : State),
      let t₁ := s.elapse dt
      ∀ (j : SptJob) (w : Nat), t₁.sptNow opLD = some (j, w) → t₁.sptEcc j w ecc = false →
      exec (.ld dt ecc) s = .next ((t₁.sptTake 1 (t₁.sptMem j w true)).inTimeOf t₁)) ∧
  (∀ (dt : Nat) (ecc : Bool) (s : State),
      let t₁ := s.elapse dt
      ∀ (j : SptJob) (w : Nat), t₁.sptNow opST = some (j, w) → t₁.sptEcc j w ecc = false →
      exec (.st dt ecc) s = .next ((t₁.sptTake 1 (t₁.sptMem j w false)).inTimeOf t₁)) ∧
  (∀ (dt : Nat) (ecc : Bool) (s : State),
      let t₁ := s.elapse dt
      ∀ (j : SptJob) (w : Nat), t₁.sptNow opLDI = some (j, w) → t₁.sptEcc j w ecc = false →
      exec (.ldi dt ecc) s = .next ((t₁.sptTake 1 (.next ((j.setD (bitsOf w 19 3) (sgn 16 w * 2 ^ 8)).nz (sgn 16 w * 2 ^ 8)) [])).inTimeOf t₁)) ∧
  (∀ (dt : Nat) (ecc : Bool) (s : State),
      let t₁ := s.elapse dt
      ∀ (j : SptJob) (w : Nat), t₁.sptNow opLPI = some (j, w) → t₁.sptEcc j w ecc = false →
      exec (.lpi dt ecc) s = .next ((t₁.sptTake 1 (.next { j with p := j.p.set (bitsOf w 19 3) (bitsOf w 0 15) } [])).inTimeOf t₁)) ∧
  (∀ (dt : Nat) (ecc : Bool) (s : State),
      let t₁ := s.elapse dt
      ∀ (j : SptJob) (w : Nat), t₁.sptNow opLDC = some (j, w) → t₁.sptEcc j w ecc = false →
      exec (.ldc dt ecc) s = .next ((t₁.sptTake 1 (.next (if bitOf w 25 then { j with m := j.m.set (bitsOf w 19 3) (t₁.sptWord 2 (bitsOf w 0 15)) }
        else { j with p := j.p.set (bitsOf w 19 3) (t₁.sptWord 2 (bitsOf w 0 15) % 2 ^ 15) }) [])).inTimeOf t₁)) ∧
  (∀ (dt : Nat) (ecc : Bool) (s : State),
      let t₁ := s.elapse dt
      ∀ (j : SptJob) (w q : Nat), t₁.sptNow opADDP = some (j, w) → t₁.sptEcc j w ecc = false →
      sptUpd (getN j.p (bitsOf w 19 3)) (getN j.m (bitsOf w 16 3)) = some q →
      exec (.addp dt ecc) s = .next ((t₁.sptTake 1 (.next { j with p := j.p.set (bitsOf w 19 3) q } [])).inTimeOf t₁)) ∧
  (∀ (dt : Nat) (ecc : Bool) (s : State),
      let t₁ := s.elapse dt
      ∀ (j : SptJob) (w : Nat), t₁.sptNow opMPY = some (j, w) → t₁.sptEcc j w ecc = false →
      exec (.mpy dt ecc) s = .next ((t₁.sptTake 1 (.next (j.setAcc (bitsOf w 24 2) (2 * getI j.d (bitsOf w 19 3) * getI j.d (bitsOf w 16 3))) [])).inTimeOf t₁)) ∧
  (∀ (dt : Nat) (ecc : Bool) (s : State),
      let t₁ := s.elapse dt
      ∀ (j : SptJob) (w : Nat), t₁.sptNow opMAC = some (j, w) → t₁.sptEcc j w ecc = false →
      exec (.mac dt ecc) s = .next ((t₁.sptTake 1 (.next (j.setAcc (bitsOf w 24 2) (getI j.acc (bitsOf w 24 2) + 2 * getI j.d (bitsOf w 19 3) * getI j.d (bitsOf w 16 3))) [])).inTimeOf t₁)) ∧
  (∀ (dt : Nat) (ecc : Bool) (s : State),
      let t₁ := s.elapse dt
      ∀ (j : SptJob) (w : Nat), t₁.sptNow opMSU = some (j, w) → t₁.sptEcc j w ecc = false →
      exec (.msu dt ecc) s = .next ((t₁.sptTake 1 (.next (j.setAcc (bitsOf w 24 2) (getI j.acc (bitsOf w 24 2) - 2 * getI j.d (bitsOf w 19 3) * getI j.d (bitsOf w 16 3))) [])).inTimeOf t₁)) ∧
  (∀ (dt : Nat) (ecc : Bool) (s : State),
      let t₁ := s.elapse dt
      ∀ (j : SptJob) (w : Nat), t₁.sptNow opMXY = some (j, w) → t₁.sptEcc j w ecc = false →
      exec (.mxy dt ecc) s = .next ((t₁.sptTake 1 (t₁.sptMx j w false)).inTimeOf t₁)) ∧
  (∀ (dt : Nat) (ecc : Bool) (s : State),
      let t₁ := s.elapse dt
      ∀ (j k : SptJob) (w : Nat) (l : SptW), t₁.sptNow opMXP = some (j, w) → t₁.sptEcc j w ecc = false → t₁.sptMx j w true = .next k l →
      let y := t₁.takeFree 2
      exec (.mxp dt ecc) s = .next ((y.2.sptTake 1 (.next { k with n := bitOf y.1 0, z := bitOf y.1 1 } l)).inTimeOf t₁)) ∧
  (∀ (dt : Nat) (ecc : Bool) (s : State),
      let t₁ := s.elapse dt
      ∀ (j : SptJob) (w : Nat), t₁.sptNow opCLR = some (j, w) → t₁.sptEcc j w ecc = false →
      exec (.clr dt ecc) s = .next ((t₁.sptTake 1 (.next (j.setAcc (bitsOf w 24 2) 0) [])).inTimeOf t₁)) ∧
  (∀ (dt : Nat) (ecc : Bool) (s : State),
      let t₁ := s.elapse dt
      ∀ (j : SptJob) (w : Nat), t₁.sptNow opSETA = some (j, w) → t₁.sptEcc j w ecc = false →
      exec (.seta dt ecc) s = .next ((t₁.sptTake 1 (.next (j.setAcc (bitsOf w 24 2) (getI j.d (bitsOf w 19 3) * 2 ^ 24)) [])).inTimeOf t₁)) ∧
  (∀ (dt : Nat) (ecc : Bool) (s : State),
      let t₁ := s.elapse dt
      ∀ (j : SptJob) (w : Nat), t₁.sptNow opADDA = some (j, w) → t₁.sptEcc j w ecc = false →
      exec (.adda dt ecc) s = .next ((t₁.sptTake 1 (.next (j.setAcc (bitsOf w 22 2) (getI j.acc (bitsOf w 22 2) + getI j.acc (bitsOf w 24 2))) [])).inTimeOf t₁)) ∧
  (∀ (dt : Nat) (ecc : Bool) (s : State),
      let t₁ := s.elapse dt
      ∀ (j : SptJob) (w : Nat), t₁.sptNow opSUBA = some (j, w) → t₁.sptEcc j w ecc = false →
      exec (.suba dt ecc) s = .next ((t₁.sptTake 1 (.next (j.setAcc (bitsOf w 22 2) (getI j.acc (bitsOf w 22 2) - getI j.acc (bitsOf w 24 2))) [])).inTimeOf t₁)) ∧
  (∀ (dt : Nat) (ecc : Bool) (s : State),
      let t₁ := s.elapse dt
      ∀ (j : SptJob) (w : Nat), t₁.sptNow opASH = some (j, w) → t₁.sptEcc j w ecc = false →
      let y := j.red (getI j.acc (bitsOf w 24 2)) (-(sgn 6 w)) 56
      exec (.ash dt ecc) s = .next ((t₁.sptTake 1 (if 0 ≤ sgn 6 w then .next (j.setAcc (bitsOf w 24 2) (getI j.acc (bitsOf w 24 2) * 2 ^ (sgn 6 w).toNat)) []
        else .next (y.2.setAcc (bitsOf w 24 2) y.1) [])).inTimeOf t₁)) ∧
  (∀ (dt : Nat) (ecc : Bool) (s : State),
      let t₁ := s.elapse dt
      ∀ (j : SptJob) (w : Nat), t₁.sptNow opABSA = some (j, w) → t₁.sptEcc j w ecc = false →
      exec (.absa dt ecc) s = .next ((t₁.sptTake 1 (.next (j.setAcc (bitsOf w 24 2) ((getI j.acc (bitsOf w 24 2)).natAbs : Int)) [])).inTimeOf t₁)) ∧
  (∀ (dt : Nat) (ecc : Bool) (s : State),
      let t₁ := s.elapse dt
      ∀ (j : SptJob) (w : Nat), t₁.sptNow opRND = some (j, w) → t₁.sptEcc j w ecc = false →
      exec (.rnd dt ecc) s = .next ((t₁.sptTake 1 (sptRnd j w (24 + (bitsOf w 0 6 : Int)))).inTimeOf t₁)) ∧
  (∀ (dt : Nat) (ecc : Bool) (s : State),
      let t₁ := s.elapse dt
      ∀ (j : SptJob) (w : Nat), t₁.sptNow opRNDS = some (j, w) → t₁.sptEcc j w ecc = false →
      exec (.rnds dt ecc) s = .next ((t₁.sptTake 1 (sptRnd j w (24 + (j.sc : Int)))).inTimeOf t₁)) ∧
  (∀ (dt : Nat) (ecc : Bool) (s : State),
      let t₁ := s.elapse dt
      ∀ (j : SptJob) (w : Nat), t₁.sptNow opPKD = some (j, w) → t₁.sptEcc j w ecc = false →
      let y := t₁.takeFree 2
      let k := (j.setAcc (bitsOf w 22 2) (getI j.acc (bitsOf w 24 2))).setD (bitsOf w 19 3) (match j.loops with | i :: _ => (i.idx : Int) | [] => 0)
      exec (.pkd dt ecc) s = .next ((if getI j.acc (bitsOf w 22 2) < getI j.acc (bitsOf w 24 2) then y.2.sptTake 1 (.next { k with n := bitOf y.1 0, z := bitOf y.1 1 } [])
        else t₁.sptTake 1 (.next j [])).inTimeOf t₁)) ∧
  (∀ (dt : Nat) (ecc : Bool) (s : State),
      let t₁ := s.elapse dt
      ∀ (j : SptJob) (w : Nat), t₁.sptNow opBFLY = some (j, w) → t₁.sptEcc j w ecc = false →
      exec (.bfly dt ecc) s = .next ((t₁.sptTake 4 (t₁.sptBfly j)).inTimeOf t₁)) ∧
  (∀ (dt : Nat) (ecc : Bool) (s : State),
      let t₁ := s.elapse dt
      ∀ (j : SptJob) (w : Nat), t₁.sptNow opBSCL = some (j, w) → t₁.sptEcc j w ecc = false →
      exec (.bscl dt ecc) s = .next ((t₁.sptTake 1 (.next { j with sc := 2 - j.bex, exp := j.exp + (2 - j.bex), bex := 23 } [])).inTimeOf t₁)) ∧
  (∀ (dt : Nat) (ecc : Bool) (s : State),
      let t₁ := s.elapse dt
      ∀ (j : SptJob) (w : Nat), t₁.sptNow opBCLR = some (j, w) → t₁.sptEcc j w ecc = false →
      exec (.bclr dt ecc) s = .next ((t₁.sptTake 1 (.next { j with bex := 23, sc := 0, exp := 0 } [])).inTimeOf t₁)) ∧
  (∀ (dt : Nat) (ecc : Bool) (s : State),
      let t₁ := s.elapse dt
      ∀ (j k : SptJob) (w : Nat) (l : SptW), t₁.sptNow opREP = some (j, w) → t₁.sptEcc j w ecc = false → t₁.sptRep j w = .next k l →
      let q := { k with pc := (k.pc + 1) % 2 ^ 15, used := k.used + 1 }
      exec (.repeatNext dt ecc) s = .next (((t₁.sptCharge k.task 1).setSpout { t₁.spout with run := some q, at_ := t₁.now }).inTimeOf t₁)) ∧
  (∀ (dt : Nat) (ecc : Bool) (s : State),
      let t₁ := s.elapse dt
      ∀ (j k : SptJob) (w : Nat) (l : SptW), t₁.sptNow opDO = some (j, w) → t₁.sptEcc j w ecc = false → t₁.sptDo j w = .next k l →
      let q := { k with pc := (k.pc + 1) % 2 ^ 15, used := k.used + 2 }
      exec (.doLoop dt ecc) s = .next (((t₁.sptCharge k.task 2).setSpout { t₁.spout with run := some q, at_ := t₁.now }).sptPoint.inTimeOf t₁)) ∧
  (∀ (dt : Nat) (ecc : Bool) (s : State),
      let t₁ := s.elapse dt
      ∀ (j : SptJob) (w : Nat), t₁.sptNow opB = some (j, w) → t₁.sptEcc j w ecc = false →
      let k := bitsOf w 0 15
      let q := { j with pc := k, loops := loopsAfter k j.loops, used := j.used + 3 }
      exec (.branch dt ecc) s = .next ((if sptCond j (bitsOf w 23 3) then
        ((t₁.sptCharge j.task 3).setSpout { t₁.spout with run := some q, at_ := t₁.now }).sptPoint
        else t₁.sptTake 1 (.next j [])).inTimeOf t₁)) ∧
  (∀ (dt : Nat) (ecc : Bool) (s : State),
      let t₁ := s.elapse dt
      ∀ (j : SptJob) (w : Nat), t₁.sptNow opHALT = some (j, w) → t₁.sptEcc j w ecc = false →
      exec (.halt dt ecc) s = .next ((t₁.sptTake 2 (.stop j 0 0 (bitsOf w 0 8) 0)).inTimeOf t₁)) ∧
  (∀ (dt : Nat) (ecc : Bool) (s : State),
      let t₁ := s.elapse dt
      ∀ (j : SptJob) (w q i : Nat) (l : List Nat), t₁.sptNow opLDE = some (j, w) → t₁.sptEcc j w ecc = false →
      let y := getN j.p (bitsOf w 11 3)
      let n := bitsOf w 19 3
      sptIn (bitsOf w 14 2) y = true → sptUpd y (getN j.m (bitsOf w 8 3)) = some q → l = j.p.set (bitsOf w 11 3) q →
      sptUpd (getN l n) (getN j.m (bitsOf w 16 3)) = some i →
      let e : SptExt := { addr := (j.eb + 4 * getN j.p n) % 2 ^ 32, load := true, space := bitsOf w 14 2, word := y, data := t₁.sptWord (bitsOf w 14 2) y, p := l.set n i }
      exec (.lde dt ecc) s = .next ((t₁.setSpout { t₁.spout with run := some { j with ext := some e }, at_ := t₁.now }).inTimeOf t₁)) ∧
  (∀ (dt : Nat) (ecc : Bool) (s : State),
      let t₁ := s.elapse dt
      ∀ (j : SptJob) (w q i : Nat) (l : List Nat), t₁.sptNow opSTE = some (j, w) → t₁.sptEcc j w ecc = false →
      let y := getN j.p (bitsOf w 11 3)
      let n := bitsOf w 19 3
      sptIn (bitsOf w 14 2) y = true → sptUpd y (getN j.m (bitsOf w 8 3)) = some q → l = j.p.set (bitsOf w 11 3) q →
      sptUpd (getN l n) (getN j.m (bitsOf w 16 3)) = some i →
      let e : SptExt := { addr := (j.eb + 4 * getN j.p n) % 2 ^ 32, load := false, space := bitsOf w 14 2, word := y, data := t₁.sptWord (bitsOf w 14 2) y, p := l.set n i }
      exec (.ste dt ecc) s = .next ((t₁.setSpout { t₁.spout with run := some { j with ext := some e }, at_ := t₁.now }).inTimeOf t₁)) ∧
  (∀ (dt : Nat) (ecc : Bool) (s : State),
      let t₁ := s.elapse dt
      ∀ (j : SptJob) (w : Nat), t₁.sptNow 0 = some (j, w) → t₁.sptEcc j w ecc = false →
      exec (.illegal dt ecc) s = .next ((t₁.sptTake 0 (.stop j 4 0 0 0)).inTimeOf t₁))

/-- Completion of every command of the family, and the state each leaves. -/
def Obligations.CompleteSluice : Prop :=
  (∀ (dt ag k : Nat) (s : State),
      let t₁ := s.elapse dt
      t₁.readable ag (.coreDispatch k) →
      exec (.dispatchRead dt ag k) s = .next ((t₁.dispatchRead k).inTimeOf t₁)) ∧
  (∀ (dt k : Nat) (s : State),
      let t₁ := s.elapse dt
      exec (.dispatchGrant dt k) s = .next ((t₁.dispatchGrant k).inTimeOf t₁)) ∧
  (∀ (dt k : Nat) (s : State),
      let t₁ := s.elapse dt
      exec (.dispatchDeadline dt k) s = .next ((t₁.dispatchDeadline k).inTimeOf t₁)) ∧
  (∀ (dt ag k : Nat) (s : State),
      let t₁ := s.elapse dt
      let v := t₁.wordWith ag (.coreDone k) fCoreDone_OP 1
      t₁.accepts ag (.coreDone k) v →
      exec (.complete dt ag k) s = .next ((t₁.accepted ag (.coreDone k) v (fun x =>
        x.doneComplete k)).inTimeOf t₁)) ∧
  (∀ (dt ag k mask : Nat) (all : Bool) (s : State),
      let t₁ := s.elapse dt
      let v := (wordPut (wordPut (wordPut 0 fCoreDone_OP 2) fCoreDone_WAIT_MODE (b2n all)) fCoreDone_WAIT_MASK mask)
      mask < 2 ^ 32 →
      t₁.accepts ag (Reg.coreDone k) v →
      exec (.block dt ag k mask all) s = .next ((t₁.accepted ag (Reg.coreDone k) v (fun x =>
        x.doneBlock k mask all)).inTimeOf t₁)) ∧
  (∀ (dt ag k : Nat) (s : State),
      let t₁ := s.elapse dt
      let v := t₁.wordWith ag (.coreDone k) fCoreDone_OP 3
      t₁.accepts ag (.coreDone k) v →
      exec (.yield dt ag k) s = .next ((t₁.accepted ag (.coreDone k) v (fun x =>
        x.doneYield k)).inTimeOf t₁)) ∧
  (∀ (dt t : Nat) (s : State),
      let t₁ := s.elapse dt
      exec (.waitTimeout dt t) s = .next ((t₁.waitTimeout t).inTimeOf t₁)) ∧
  (∀ (dt ag t bits : Nat) (s : State),
      let t₁ := s.elapse dt
      let v := t₁.wordWith ag (.taskFlagSet t) fTaskFlagSet_BITS bits
      bits < 2 ^ 32 →
      t₁.accepts ag (.taskFlagSet t) v →
      exec (.flagSet dt ag t bits) s = .next ((t₁.accepted ag (.taskFlagSet t) v (fun x =>
        x.setTaskFlags t bits)).inTimeOf t₁)) ∧
  (∀ (dt ag t bits : Nat) (s : State),
      let t₁ := s.elapse dt
      let v := t₁.wordWith ag (.taskFlagClr t) fTaskFlagClr_BITS bits
      bits < 2 ^ 32 →
      t₁.accepts ag (.taskFlagClr t) v →
      exec (.flagClr dt ag t bits) s = .next ((t₁.accepted ag (.taskFlagClr t) v (fun x =>
        x.setFld (.taskFlags t) fTaskFlags_FLAGS (x.fld (.taskFlags t) fTaskFlags_FLAGS -
          Nat.land (x.fld (.taskFlags t) fTaskFlags_FLAGS) bits))).inTimeOf t₁)) ∧
  (∀ (dt ag : Nat) (v : Word48) (s : State),
      let t₁ := s.elapse dt
      t₁.accepts ag Reg.sluPost v →
      exec (.workPost dt ag v) s = .next ((t₁.accepted ag Reg.sluPost v (fun x =>
        x.post (wordFld v fSluPost_TASK) (if wordFld v fSluPost_FLOW_EN == 1 then some (wordFld v fSluPost_FLOW) else none)
          (wordFld v fSluPost_ARG))).inTimeOf t₁)) ∧
  (∀ (dt ag : Nat) (v : Word48) (s : State),
      let t₁ := s.elapse dt
      wordFld v fSluCvnCtl_STAGE = 1 →
      t₁.accepts ag Reg.sluCvnCtl v →
      exec (.caravanStage dt ag v) s = .next ((t₁.accepted ag Reg.sluCvnCtl v (fun x =>
        ({ x with sluice := { x.sluice with cvnNew := wordFld v fSluCvnCtl_LEN_NEW } }).setFlag .sluCvnCtl fSluCvnCtl_STAGED true)).inTimeOf t₁)) ∧
  (∀ (dt k : Nat) (s : State),
      let t₁ := s.elapse dt
      t₁.timerIrq k = true →
      exec (.machineTimerInterrupt dt k) s = .next ((t₁.dispatchDeadline k).inTimeOf t₁)) ∧
  (∀ (dt k : Nat) (s : State),
      let t₁ := s.elapse dt
      t₁.wdogDue k = true →
      exec (.watchdogExpiry dt k) s = .next ((t₁.wdogExpire k).inTimeOf t₁)) ∧
  (∀ (dt ag k : Nat) (v : Word48) (s : State),
      let t₁ := s.elapse dt
      wordFld v fCoreWdog_KICK = 1 →
      t₁.accepts ag (Reg.coreWdog k) v →
      exec (.watchdogKick dt ag k v) s = .next ((t₁.accepted ag (Reg.coreWdog k) v (fun x =>
        x.setCore k { x.core k with wdogFrom := x.now })).inTimeOf t₁)) ∧
  (∀ (dt ag n : Nat) (v : Word48) (s : State),
      let t₁ := s.elapse dt
      t₁.accepts ag (Reg.mbData n) v →
      exec (.mailboxWrite dt ag n v) s = .next ((t₁.accepted ag (Reg.mbData n) v (fun x =>
        x.boxWrite ag n v)).inTimeOf t₁)) ∧
  (∀ (dt ag n : Nat) (v : Word48) (s : State),
      let t₁ := s.elapse dt
      t₁.accepts ag (Reg.mbData n) v →
      exec (.sharedMailboxWrite dt ag n v) s = .next ((t₁.accepted ag (Reg.mbData n) v (fun x =>
        x.boxWrite ag n v)).inTimeOf t₁)) ∧
  (∀ (dt ag n : Nat) (s : State),
      let t₁ := s.elapse dt
      t₁.readable ag (.mbData n) →
      exec (.mailboxRead dt ag n) s = .next (((t₁.boxRead n).readBack ag (.mbData n) (t₁.shown ag (.mbData n))).inTimeOf t₁)) ∧
  (∀ (dt n : Nat) (s : State),
      let t₁ := s.elapse dt
      exec (.mailboxTimeout dt n) s = .next ((t₁.boxTimeout n).inTimeOf t₁)) ∧
  (∀ (dt ag n : Nat) (wait : Bool) (s : State),
      let t₁ := s.elapse dt
      let v := t₁.wordWith ag (.mbWait n) fMbWait_WAIT (b2n wait)
      t₁.accepts ag (.mbWait n) v →
      exec (.mailboxWait dt ag n wait) s = .next ((t₁.accepted ag (.mbWait n) v (fun x =>
        x.boxWait ag n wait)).inTimeOf t₁)) ∧
  (∀ (dt : Nat) (s : State),
      let t₁ := s.elapse dt
      exec (.crosswaitDetection dt) s = .next ((t₁.crossWait).inTimeOf t₁)) ∧
  (∀ (dt ag n : Nat) (s : State),
      let t₁ := s.elapse dt
      t₁.readable ag (.lk n) →
      let y := t₁.lockRead ag n
      exec (.lockRead dt ag n) s = .next ((y.2.readBack ag (.lk n) (BitVec.ofNat 48 y.1)).inTimeOf t₁)) ∧
  (∀ (dt ag n : Nat) (v : Word48) (s : State),
      let t₁ := s.elapse dt
      t₁.accepts ag (Reg.lk n) v →
      exec (.lockWrite dt ag n v) s = .next ((t₁.accepted ag (Reg.lk n) v (fun x =>
        x.lockFree n)).inTimeOf t₁)) ∧
  (∀ (dt ag n : Nat) (v : Word48) (s : State),
      let t₁ := s.elapse dt
      t₁.accepts ag (Reg.lkStat n) v →
      exec (.lockForce dt ag n v) s = .next ((t₁.accepted ag (Reg.lkStat n) v (fun x =>
        x.lockForce n)).inTimeOf t₁)) ∧
  (∀ (dt ag a bits : Nat) (s : State),
      let t₁ := s.elapse dt
      let v := t₁.wordWith ag (.dbSet a) fDbSet_BITS bits
      bits < 2 ^ 16 →
      t₁.accepts ag (.dbSet a) v →
      exec (.doorbellSet dt ag a bits) s = .next ((t₁.accepted ag (.dbSet a) v (fun x =>
        x.ring a bits)).inTimeOf t₁)) ∧
  (∀ (dt ag a bits : Nat) (s : State),
      let t₁ := s.elapse dt
      let v := t₁.wordWith ag (.dbPend a) fDbPend_BITS bits
      bits < 2 ^ 16 →
      t₁.accepts ag (.dbPend a) v →
      exec (.doorbellClear dt ag a bits) s = .next ((t₁.accepted ag (.dbPend a) v (fun x =>
        x.unring a bits)).inTimeOf t₁))

/-- Completion of every command of the family, and the state each leaves. -/
def Obligations.CompleteOasis : Prop :=
  (∀ (dt si rb edm srst : Nat) (mis : Bool) (s : State),
      let t₁ := s.elapse dt
      t₁.safetyDue = true →
      exec (.safetyTick dt si rb edm srst mis) s = .next ((t₁.safetyTick si rb edm srst mis).inTimeOf t₁)) ∧
  (∀ (dt i : Nat) (s : State),
      let t₁ := s.elapse dt
      t₁.discDue i = true →
      exec (.discrepancyFault dt i) s = .next ((t₁.discFault i).inTimeOf t₁)) ∧
  (∀ (dt z : Nat) (s : State),
      let t₁ := s.elapse dt
      t₁.ss1Due z = true →
      exec (.ss1Timeout dt z) s = .next ((t₁.ss1End z).inTimeOf t₁)) ∧
  (∀ (dt o : Nat) (high pass : Bool) (s : State),
      let t₁ := s.elapse dt
      t₁.pulseDue o high = true →
      exec (.testPulse dt o high pass) s = .next ((t₁.testPulse o high pass).inTimeOf t₁)) ∧
  (∀ (dt o : Nat) (s : State),
      let t₁ := s.elapse dt
      t₁.edmDue o = true →
      exec (.edmTimeout dt o) s = .next ((t₁.edmFault o).inTimeOf t₁)) ∧
  (∀ (dt z : Nat) (s : State),
      let t₁ := s.elapse dt
      t₁.slsDue z = true →
      exec (.slsDelayEnd dt z) s = .next ((t₁.slsStart z).inTimeOf t₁)) ∧
  (∀ (dt c : Nat) (s : State),
      let t₁ := s.elapse dt
      t₁.slsWindowDue c = true →
      exec (.slsWindowEnd dt c) s = .next ((t₁.slsWindow c).inTimeOf t₁)) ∧
  (∀ (dt : Nat) (s : State),
      let t₁ := s.elapse dt
      t₁.oas.edge = true →
      exec (.srstEdge dt) s = .next ((t₁.srstEdge).inTimeOf t₁)) ∧
  (∀ (dt : Nat) (s : State),
      let t₁ := s.elapse dt
      t₁.srstSticks = true →
      exec (.srstStuck dt) s = .next ((t₁.srstStuck).inTimeOf t₁)) ∧
  (∀ (dt : Nat) (out : Bool) (s : State),
      let t₁ := s.elapse dt
      exec (.oasisRailFault dt out) s = .next ((t₁.oasRail out).inTimeOf t₁)) ∧
  (∀ (dt : Nat) (s : State),
      let t₁ := s.elapse dt
      exec (.containerReceived dt) s = .next ((t₁.contReceived).inTimeOf t₁)) ∧
  (∀ (dt c : Nat) (s : State),
      let t₁ := s.elapse dt
      t₁.watchdogDue c = true →
      exec (.connectionWatchdog dt c) s = .next ((t₁.watchdog c).inTimeOf t₁)) ∧
  (∀ (dt ag z : Nat) (v : Word48) (s : State),
      let t₁ := s.elapse dt
      t₁.accepts ag (Reg.zoneCtl z) v →
      exec (.zoneRequest dt ag z v) s = .next ((t₁.accepted ag (Reg.zoneCtl z) v (fun x =>
        x.zoneCtlWrite z v)).inTimeOf t₁)) ∧
  (∀ (dt ag : Nat) (v : Word48) (s : State),
      let t₁ := s.elapse dt
      wordFld v fOasPwdCtl_PRESENT = 1 → wordFld v fOasPwdCtl_CLEAR = 0 →
      t₁.accepts ag Reg.oasPwdCtl v →
      exec (.passwordPresent dt ag v) s = .next ((t₁.accepted ag Reg.oasPwdCtl v (fun x =>
        x.pwdPresent (wordFld v fOasPwdCtl_LEN))).inTimeOf t₁)) ∧
  (∀ (dt ag : Nat) (s : State),
      let t₁ := s.elapse dt
      let v := t₁.wordWith ag .oasPwdCtl fOasPwdCtl_CLEAR 1
      t₁.accepts ag .oasPwdCtl v →
      exec (.passwordClear dt ag) s = .next ((t₁.accepted ag .oasPwdCtl v (fun x =>
        x.setPwdOk false)).inTimeOf t₁)) ∧
  (∀ (dt : Nat) (s : State),
      let t₁ := s.elapse dt
      t₁.pwdExpires = true →
      exec (.passwordExpiry dt) s = .next ((t₁.setPwdOk false).inTimeOf t₁)) ∧
  (∀ (dt : Nat) (s : State),
      let t₁ := s.elapse dt
      t₁.lockEnds = true →
      exec (.presentLockEnd dt) s = .next ((t₁.lockEnd).inTimeOf t₁)) ∧
  (∀ (dt ag c : Nat) (s : State),
      let t₁ := s.elapse dt
      let v := t₁.wordWith ag (.slsStat c) fSlsStat_CLR 1
      t₁.accepts ag (.slsStat c) v →
      exec (.slsPeakClr dt ag c) s = .next ((t₁.accepted ag (.slsStat c) v (fun x =>
        x.slsPeakClr c)).inTimeOf t₁))

/-- Completion of every command of the family, and the state each leaves. -/
def Obligations.CompletePorts : Prop :=
  (∀ (dt op addr len : Nat) (data : List Byte) (s : State),
      let t₁ := s.elapse dt
      t₁.pcieLive = true →
      exec (.pcieRequest dt op addr len data) s = .next ((t₁.pcieRequest op addr len data).inTimeOf t₁)) ∧
  (∀ (dt kind : Nat) (s : State),
      let t₁ := s.elapse dt
      t₁.pcieLive = true →
      exec (.pcieLinkReset dt kind) s = .next ((t₁.pcieReset (kind == 2)).inTimeOf t₁)) ∧
  (∀ (dt : Nat) (level : Bool) (s : State),
      let t₁ := s.elapse dt
      exec (.perst dt level) s = .next ((t₁.perstPin level).inTimeOf t₁)) ∧
  (∀ (dt : Nat) (s : State),
      let t₁ := s.elapse dt
      t₁.perstEnds = true →
      exec (.perstRelease dt) s = .next ((t₁.perstEnd).inTimeOf t₁)) ∧
  (∀ (dt speed width : Nat) (s : State),
      let t₁ := s.elapse dt
      t₁.pcieMayUp = true →
      exec (.pcieLinkUp dt speed width) s = .next ((t₁.pcieUp speed width).inTimeOf t₁)) ∧
  (∀ (dt ag c : Nat) (v : Word48) (s : State),
      let t₁ := s.elapse dt
      t₁.accepts ag (Reg.dmaPost c) v →
      exec (.dmaPost dt ag c v) s = .next ((t₁.accepted ag (Reg.dmaPost c) v (fun x =>
        x.dmaPost c v)).inTimeOf t₁)) ∧
  (∀ (dt ag c : Nat) (v : Word48) (s : State),
      let t₁ := s.elapse dt
      t₁.accepts ag (Reg.dmaCtl c) v →
      exec (.dmaEnable dt ag c v) s = .next ((t₁.accepted ag (Reg.dmaCtl c) v (fun x =>
        x.dmaCtlWrite c v)).inTimeOf t₁)) ∧
  (∀ (dt c : Nat) (own : Bool) (s : State),
      let t₁ := s.elapse dt
      t₁.dmaReady c = true →
      exec (.dmaTransferStart dt c own) s = .next ((t₁.dmaStart c own).inTimeOf t₁)) ∧
  (∀ (dt c addr len : Nat) (irq own : Bool) (s : State),
      let t₁ := s.elapse dt
      ((t₁.dmaH c).current.isSome && !(t₁.dmaH c).starved) = true →
      exec (.dmaBufferReturn dt c addr len irq own) s = .next ((t₁.dmaReturn c addr len irq own).inTimeOf t₁)) ∧
  (∀ (dt c : Nat) (s : State),
      let t₁ := s.elapse dt
      ((t₁.dmaH c).starved) = true →
      exec (.bufferLent dt c) s = .next ((t₁.setDmaH c { t₁.dmaH c with starved := false }).inTimeOf t₁)) ∧
  (∀ (dt count addr : Nat) (s : State),
      let t₁ := s.elapse dt
      exec (.spiRead dt count addr) s = .next ((t₁.spiRead count addr).inTimeOf t₁)) ∧
  (∀ (dt count addr : Nat) (s : State),
      let t₁ := s.elapse dt
      exec (.spiQread dt count addr) s = .next ((t₁.spiRead count addr).inTimeOf t₁)) ∧
  (∀ (dt addr : Nat) (data : List Nat) (s : State),
      let t₁ := s.elapse dt
      exec (.spiWrite dt addr data) s = .next ((t₁.spiWrite addr data).inTimeOf t₁)) ∧
  (∀ (dt addr : Nat) (data : List Nat) (s : State),
      let t₁ := s.elapse dt
      exec (.spiQwrite dt addr data) s = .next ((t₁.spiWrite addr data).inTimeOf t₁)) ∧
  (∀ (dt : Nat) (s : State),
      let t₁ := s.elapse dt
      exec (.spiUnknownCommand dt) s = .next ((t₁.spiCount).inTimeOf t₁)) ∧
  (∀ (dt : Nat) (write : Bool) (count addr : Nat) (data : List Nat) (s : State),
      let t₁ := s.elapse dt
      exec (.spiCsAbort dt write count addr data) s = .next ((t₁.spiAbort write count addr data).inTimeOf t₁)) ∧
  (∀ (dt ag : Nat) (s : State),
      let t₁ := s.elapse dt
      let v := t₁.wordWith ag .hstSpiIrq fHstSpiIrq_VLOG_CLR 1
      t₁.accepts ag .hstSpiIrq v →
      exec (.spiVlogClr dt ag) s = .next ((t₁.accepted ag .hstSpiIrq v (fun x =>
        x.setFld .hstSpiIrq fHstSpiIrq_PEND (putBit (x.fld .hstSpiIrq fHstSpiIrq_PEND) 2 false))).inTimeOf t₁)) ∧
  (∀ (dt p ago : Nat) (data : List Byte) (s : State),
      let t₁ := s.elapse dt
      (t₁.flag (.ethStat p) fEthStat_LINK) = true →
      exec (.ethFrameReceived dt p ago data) s = .next ((t₁.ethReceived p ago data).inTimeOf t₁)) ∧
  (∀ (dt ag p : Nat) (v : Word48) (s : State),
      let t₁ := s.elapse dt
      t₁.accepts ag (Reg.ethTxPost p) v →
      exec (.ethTxPost dt ag p v) s = .next ((t₁.accepted ag (Reg.ethTxPost p) v (fun x =>
        x.ethPost p v)).inTimeOf t₁)) ∧
  (∀ (dt p ago : Nat) (s : State),
      let t₁ := s.elapse dt
      t₁.ethMaySend p = true →
      exec (.ethFrameSent dt p ago) s = .next ((t₁.ethSent p ago).inTimeOf t₁)) ∧
  (∀ (dt p : Nat) (up : Bool) (s : State),
      let t₁ := s.elapse dt
      exec (.ethLinkChange dt p up) s = .next ((t₁.ethLink p (up && !t₁.stopped)).inTimeOf t₁)) ∧
  (∀ (dt ag p : Nat) (s : State),
      let t₁ := s.elapse dt
      let v := t₁.wordWith ag (.ethStat p) fEthStat_CLR 1
      t₁.accepts ag (.ethStat p) v →
      exec (.ethCntClr dt ag p) s = .next ((t₁.accepted ag (.ethStat p) v (fun x =>
        x.ethCntClr p)).inTimeOf t₁)) ∧
  (∀ (dt : Nat) (s : State),
      let t₁ := s.elapse dt
      exec (.idcode dt) s = .next ((t₁.tapTake 0x01).inTimeOf t₁)) ∧
  (∀ (dt pattern : Nat) (s : State),
      let t₁ := s.elapse dt
      exec (.samplePreload dt pattern) s = .next ((t₁.tapPreload pattern).inTimeOf t₁)) ∧
  (∀ (dt : Nat) (s : State),
      let t₁ := s.elapse dt
      exec (.extest dt) s = .next ((t₁.tapPins 0x03 1).inTimeOf t₁)) ∧
  (∀ (dt : Nat) (s : State),
      let t₁ := s.elapse dt
      exec (.extestPulse dt) s = .next ((t₁.tapPins 0x04 1).inTimeOf t₁)) ∧
  (∀ (dt : Nat) (s : State),
      let t₁ := s.elapse dt
      exec (.extestTrain dt) s = .next ((t₁.tapPins 0x05 1).inTimeOf t₁)) ∧
  (∀ (dt : Nat) (s : State),
      let t₁ := s.elapse dt
      exec (.clamp dt) s = .next ((t₁.tapPins 0x06 1).inTimeOf t₁)) ∧
  (∀ (dt : Nat) (s : State),
      let t₁ := s.elapse dt
      exec (.highz dt) s = .next ((t₁.tapPins 0x07 2).inTimeOf t₁)) ∧
  (∀ (dt : Nat) (s : State),
      let t₁ := s.elapse dt
      exec (.dbgAccess dt) s = .next ((t₁.tapTake 0x10).inTimeOf t₁)) ∧
  (∀ (dt op addr : Nat) (v : Word48) (s : State),
      let t₁ := s.elapse dt
      (t₁.host.tapInstr == 0x10 && (op == 1 || op == 2)) = true →
      exec (.debugSlotAccess dt op addr v) s = .next ((t₁.debugAccess op addr v).inTimeOf t₁)) ∧
  (∀ (dt hash back : Nat) (s : State),
      let t₁ := s.elapse dt
      exec (.fuseProg dt hash back) s = .next ((t₁.fuseProg hash back).inTimeOf t₁)) ∧
  (∀ (dt : Nat) (s : State),
      let t₁ := s.elapse dt
      exec (.bypass dt) s = .next ((t₁.tapTake 0x3F).inTimeOf t₁)) ∧
  (∀ (dt : Nat) (s : State),
      let t₁ := s.elapse dt
      exec (.tapReset dt) s = .next ((t₁.tapReset).inTimeOf t₁))
end

