-- ==== Sys2Proof/Laws/Tables.lean ====
section
/-! SUPPORT. Sparse tables: reading after writing, and the canonical form. -/
namespace Sys2Proof.Machine

/-- Reading a key just placed. -/
theorem tabGet_tabPut_self {α : Type} (d : α) (k : Nat) (v : α) (t : List (Nat × α)) : tabGet d (tabPut k v t) k = v := by
  induction t with
  | nil => simp [tabPut, tabGet]
  | cons p t ih =>
    simp only [tabPut]
    split
    · simp [tabGet]
    · split
      · simp [tabGet]
      · rename_i h1 h2
        simp [tabGet, ih, Ne.symm h2]

/-- Placing a key leaves what every other key reads as. -/
theorem tabGet_tabPut_ne {α : Type} (d : α) (k : Nat) (v : α) (t : List (Nat × α)) (j : Nat) (ne : j ≠ k) :
    tabGet d (tabPut k v t) j = tabGet d t j := by
  induction t with
  | nil => simp [tabPut, tabGet, Ne.symm ne]
  | cons p t ih =>
    simp only [tabPut]
    split
    · simp [tabGet, Ne.symm ne]
    · split
      · rename_i h
        simp [tabGet, ← h, Ne.symm ne]
      · simp [tabGet, ih]

/-- A key taken out reads as the default. -/
theorem tabGet_tabDel_self {α : Type} (d : α) (k : Nat) (t : List (Nat × α)) : tabGet d (tabDel k t) k = d := by
  induction t with
  | nil => simp [tabDel, tabGet]
  | cons p t ih =>
    simp only [tabDel]
    split
    · exact ih
    · rename_i h
      simp [tabGet, ih, h]

/-- Taking a key out leaves what every other key reads as. -/
theorem tabGet_tabDel_ne {α : Type} (d : α) (k : Nat) (t : List (Nat × α)) (j : Nat) (ne : j ≠ k) :
    tabGet d (tabDel k t) j = tabGet d t j := by
  induction t with
  | nil => simp [tabDel]
  | cons p t ih =>
    simp only [tabDel]
    split
    · rename_i h
      simp [tabGet, ih, h, Ne.symm ne]
    · simp [tabGet, ih]

/-- Reading a key just written. -/
theorem tabGet_tabSet_self {α : Type} [DecidableEq α] (d : α) (k : Nat) (v : α) (t : List (Nat × α)) :
    tabGet d (tabSet d k v t) k = v := by
  unfold tabSet
  split
  · rename_i h
    rw [tabGet_tabDel_self, h]
  · exact tabGet_tabPut_self d k v t

/-- Writing a key leaves what every other key reads as, whatever default the reader takes. -/
theorem tabGet_tabSet_ne {α : Type} [DecidableEq α] (e d : α) (k : Nat) (v : α) (t : List (Nat × α)) (j : Nat) (ne : j ≠ k) :
    tabGet e (tabSet d k v t) j = tabGet e t j := by
  unfold tabSet
  split
  · exact tabGet_tabDel_ne e k t j ne
  · exact tabGet_tabPut_ne e k v t j ne

/-! ### The canonical form -/

/-- The first key of a table that is in rising order is below every other. -/
theorem tabRising_cons {α : Type} (p : Nat × α) (t : List (Nat × α)) :
    tabRising (p :: t) = true ↔ (∀ q ∈ t, p.1 < q.1) ∧ tabRising t = true := by
  induction t generalizing p with
  | nil => simp [tabRising]
  | cons q t ih =>
    simp only [tabRising, Bool.and_eq_true, decide_eq_true_eq]
    constructor
    · rintro ⟨h, r⟩
      refine ⟨?_, r⟩
      intro x hx
      rcases List.mem_cons.mp hx with rfl | hx
      · exact h
      · exact Nat.lt_trans h (((ih q).mp r).1 x hx)
    · rintro ⟨h, r⟩
      exact ⟨h q (List.mem_cons_self ..), r⟩

/-- A part of a rising table taken in order is rising. -/
theorem tabRising_filter {α : Type} (f : Nat × α → Bool) (t : List (Nat × α)) (h : tabRising t = true) :
    tabRising (t.filter f) = true := by
  induction t with
  | nil => simp [tabRising]
  | cons p t ih =>
    have h' := (tabRising_cons p t).mp h
    simp only [List.filter_cons]
    split
    · refine (tabRising_cons _ _).mpr ⟨?_, ih h'.2⟩
      intro q hq
      exact h'.1 q (List.mem_filter.mp hq).1
    · exact ih h'.2

/-- The keys of a table with one key placed. -/
theorem mem_tabPut {α : Type} (k : Nat) (v : α) (t : List (Nat × α)) (q : Nat × α) (h : q ∈ tabPut k v t) :
    q = (k, v) ∨ q ∈ t := by
  induction t with
  | nil => simpa [tabPut] using h
  | cons p t ih =>
    simp only [tabPut] at h
    split at h
    · simpa using h
    · split at h
      · rcases List.mem_cons.mp h with h | h
        · exact Or.inl h
        · exact Or.inr (List.mem_cons_of_mem _ h)
      · rcases List.mem_cons.mp h with h | h
        · exact Or.inr (h ▸ List.mem_cons_self ..)
        · exact (ih h).imp id (List.mem_cons_of_mem _)

/-- Placing a key keeps a table rising. -/
theorem tabRising_tabPut {α : Type} (k : Nat) (v : α) (t : List (Nat × α)) (h : tabRising t = true) :
    tabRising (tabPut k v t) = true := by
  induction t with
  | nil => simp [tabPut, tabRising]
  | cons p t ih =>
    have h' := (tabRising_cons p t).mp h
    simp only [tabPut]
    split
    · rename_i lt
      refine (tabRising_cons _ _).mpr ⟨?_, h⟩
      intro q hq
      rcases List.mem_cons.mp hq with rfl | hq
      · exact lt
      · exact Nat.lt_trans lt (h'.1 q hq)
    · split
      · rename_i e
        exact (tabRising_cons _ _).mpr ⟨fun q hq => e ▸ h'.1 q hq, h'.2⟩
      · rename_i n1 n2
        refine (tabRising_cons _ _).mpr ⟨?_, ih h'.2⟩
        intro q hq
        rcases mem_tabPut k v t q hq with rfl | hq
        · exact Nat.lt_of_le_of_ne (Nat.le_of_not_lt n1) (Ne.symm n2)
        · exact h'.1 q hq

/-- Taking a key out is taking a part in order. -/
theorem tabDel_eq_filter {α : Type} (k : Nat) (t : List (Nat × α)) : tabDel k t = t.filter (fun p => !decide (p.1 = k)) := by
  induction t with
  | nil => rfl
  | cons p t ih =>
    simp only [tabDel, List.filter_cons]
    split <;> simp_all

/-! ### Memory -/

/-- The canonical form of memory, spelt out. -/
theorem Memory.wf_iff (m : List Host.Cell) : Memory.wf m = true ↔ tabRising m = true ∧ ∀ c ∈ m, c.2 ≠ memEmpty := by
  simp [Memory.wf, tabNoDefault]

/-- A part of a canonical memory is canonical. -/
theorem Memory.wf_filter (f : Host.Cell → Bool) (m : List Host.Cell) (h : Memory.wf m = true) : Memory.wf (m.filter f) = true := by
  rw [Memory.wf_iff] at *
  exact ⟨tabRising_filter f m h.1, fun c hc => h.2 c (List.mem_filter.mp hc).1⟩

/-- Placing a byte that is listed keeps the canonical form. -/
theorem Memory.wf_put (a : Nat) (v : Byte) (m : List Host.Cell) (h : Memory.wf m = true) (ne : v ≠ memEmpty) :
    Memory.wf (tabPut a v m) = true := by
  rw [Memory.wf_iff] at *
  refine ⟨tabRising_tabPut a v m h.1, ?_⟩
  intro c hc
  rcases mem_tabPut a v m c hc with rfl | hc
  · exact ne
  · exact h.2 c hc

/-- Writing a byte keeps the canonical form. -/
theorem Memory.wf_set (a : Nat) (v : Byte) (m : List Host.Cell) (h : Memory.wf m = true) :
    Memory.wf (tabSet memEmpty a v m) = true := by
  unfold tabSet
  split
  · rw [tabDel_eq_filter]
    exact Memory.wf_filter _ m h
  · rename_i ne
    exact Memory.wf_put a v m h ne

/-- Placing cells that are not empty keeps the canonical form. -/
theorem Memory.wf_cellsPut (m l : List Host.Cell) (h : Memory.wf m = true) (hl : ∀ c ∈ l, c.2 ≠ memEmpty) :
    Memory.wf (cellsPut m l) = true := by
  unfold cellsPut
  induction l generalizing m with
  | nil => exact h
  | cons c l ih =>
    exact ih _ (Memory.wf_put c.1 c.2 m h (hl c (List.mem_cons_self ..))) (fun x hx => hl x (List.mem_cons_of_mem _ hx))

/-- Moved cells of a canonical memory are not empty. -/
theorem cellsMoved_ne (m : List Host.Cell) (a b n : Nat) (h : Memory.wf m = true) : ∀ c ∈ cellsMoved m a b n, c.2 ≠ memEmpty := by
  intro c hc
  unfold cellsMoved at hc
  obtain ⟨x, hx, rfl⟩ := List.mem_map.mp hc
  exact ((Memory.wf_iff m).mp h).2 x (List.mem_filter.mp hx).1

end Sys2Proof.Machine
end

