-- ==== Sys2Proof/Laws/State.lean ====
section
/-! SUPPORT. What each update of the state leaves alone and what it sets: one lemma per field and update. -/
namespace Sys2Proof.Machine

/-! ### Registers, memory and time -/

@[simp] theorem setReg_pending (s : State) (r : Reg) (v : Word48) : (s.setReg r v).pending = s.pending := rfl
@[simp] theorem setReg_now (s : State) (r : Reg) (v : Word48) : (s.setReg r v).now = s.now := rfl
@[simp] theorem setReg_free (s : State) (r : Reg) (v : Word48) : (s.setReg r v).free = s.free := rfl
@[simp] theorem setReg_t48 (s : State) (r : Reg) (v : Word48) : (s.setReg r v).t48 = s.t48 := rfl
@[simp] theorem setReg_t48Runs (s : State) (r : Reg) (v : Word48) : (s.setReg r v).t48Runs = s.t48Runs := rfl
@[simp] theorem setReg_mem (s : State) (r : Reg) (v : Word48) : (s.setReg r v).mem = s.mem := rfl
@[simp] theorem setReg_ecc (s : State) (r : Reg) (v : Word48) : (s.setReg r v).ecc = s.ecc := rfl
@[simp] theorem setReg_agents (s : State) (r : Reg) (v : Word48) : (s.setReg r v).agents = s.agents := rfl
@[simp] theorem setReg_outst (s : State) (r : Reg) (v : Word48) : (s.setReg r v).outst = s.outst := rfl
@[simp] theorem setReg_vlogLast (s : State) (r : Reg) (v : Word48) : (s.setReg r v).vlogLast = s.vlogLast := rfl
@[simp] theorem setReg_power (s : State) (r : Reg) (v : Word48) : (s.setReg r v).power = s.power := rfl
@[simp] theorem setReg_boot (s : State) (r : Reg) (v : Word48) : (s.setReg r v).boot = s.boot := rfl
@[simp] theorem setReg_flash (s : State) (r : Reg) (v : Word48) : (s.setReg r v).flash = s.flash := rfl
@[simp] theorem setReg_adm (s : State) (r : Reg) (v : Word48) : (s.setReg r v).adm = s.adm := rfl
@[simp] theorem setReg_weirs (s : State) (r : Reg) (v : Word48) : (s.setReg r v).weirs = s.weirs := rfl
@[simp] theorem setReg_cycles (s : State) (r : Reg) (v : Word48) : (s.setReg r v).cycles = s.cycles := rfl
@[simp] theorem setReg_bndAt (s : State) (r : Reg) (v : Word48) : (s.setReg r v).bndAt = s.bndAt := rfl
@[simp] theorem setReg_bndNext (s : State) (r : Reg) (v : Word48) : (s.setReg r v).bndNext = s.bndNext := rfl
@[simp] theorem setReg_axes (s : State) (r : Reg) (v : Word48) : (s.setReg r v).axes = s.axes := rfl
@[simp] theorem setReg_arbs (s : State) (r : Reg) (v : Word48) : (s.setReg r v).arbs = s.arbs := rfl
@[simp] theorem setReg_tasks (s : State) (r : Reg) (v : Word48) : (s.setReg r v).tasks = s.tasks := rfl
@[simp] theorem setReg_cores (s : State) (r : Reg) (v : Word48) : (s.setReg r v).cores = s.cores := rfl
@[simp] theorem setReg_jets (s : State) (r : Reg) (v : Word48) : (s.setReg r v).jets = s.jets := rfl
@[simp] theorem setReg_jetSys (s : State) (r : Reg) (v : Word48) : (s.setReg r v).jetSys = s.jetSys := rfl
@[simp] theorem setReg_jobs (s : State) (r : Reg) (v : Word48) : (s.setReg r v).jobs = s.jobs := rfl
@[simp] theorem setReg_encs (s : State) (r : Reg) (v : Word48) : (s.setReg r v).encs = s.encs := rfl
@[simp] theorem setReg_fbs (s : State) (r : Reg) (v : Word48) : (s.setReg r v).fbs = s.fbs := rfl
@[simp] theorem setReg_tcs (s : State) (r : Reg) (v : Word48) : (s.setReg r v).tcs = s.tcs := rfl
@[simp] theorem setReg_sgs (s : State) (r : Reg) (v : Word48) : (s.setReg r v).sgs = s.sgs := rfl
@[simp] theorem setReg_cmps (s : State) (r : Reg) (v : Word48) : (s.setReg r v).cmps = s.cmps := rfl
@[simp] theorem setReg_sds (s : State) (r : Reg) (v : Word48) : (s.setReg r v).sds = s.sds := rfl
@[simp] theorem setReg_ports (s : State) (r : Reg) (v : Word48) : (s.setReg r v).ports = s.ports := rfl
@[simp] theorem setReg_nodes (s : State) (r : Reg) (v : Word48) : (s.setReg r v).nodes = s.nodes := rfl
@[simp] theorem setReg_net (s : State) (r : Reg) (v : Word48) : (s.setReg r v).net = s.net := rfl
@[simp] theorem setReg_drv (s : State) (r : Reg) (v : Word48) : (s.setReg r v).drv = s.drv := rfl
@[simp] theorem setReg_cas (s : State) (r : Reg) (v : Word48) : (s.setReg r v).cas = s.cas := rfl
@[simp] theorem setReg_grps (s : State) (r : Reg) (v : Word48) : (s.setReg r v).grps = s.grps := rfl
@[simp] theorem setReg_lms (s : State) (r : Reg) (v : Word48) : (s.setReg r v).lms = s.lms := rfl
@[simp] theorem setReg_casSys (s : State) (r : Reg) (v : Word48) : (s.setReg r v).casSys = s.casSys := rfl
@[simp] theorem setReg_stops (s : State) (r : Reg) (v : Word48) : (s.setReg r v).stops = s.stops := rfl
@[simp] theorem setReg_homes (s : State) (r : Reg) (v : Word48) : (s.setReg r v).homes = s.homes := rfl
@[simp] theorem setReg_zones (s : State) (r : Reg) (v : Word48) : (s.setReg r v).zones = s.zones := rfl
@[simp] theorem setReg_twn (s : State) (r : Reg) (v : Word48) : (s.setReg r v).twn = s.twn := rfl
@[simp] theorem setReg_time (s : State) (r : Reg) (v : Word48) : (s.setReg r v).time = s.time := rfl
@[simp] theorem setReg_mirs (s : State) (r : Reg) (v : Word48) : (s.setReg r v).mirs = s.mirs := rfl
@[simp] theorem setReg_pins (s : State) (r : Reg) (v : Word48) : (s.setReg r v).pins = s.pins := rfl
@[simp] theorem setReg_sis (s : State) (r : Reg) (v : Word48) : (s.setReg r v).sis = s.sis := rfl
@[simp] theorem setReg_sos (s : State) (r : Reg) (v : Word48) : (s.setReg r v).sos = s.sos := rfl
@[simp] theorem setReg_conns (s : State) (r : Reg) (v : Word48) : (s.setReg r v).conns = s.conns := rfl
@[simp] theorem setReg_oas (s : State) (r : Reg) (v : Word48) : (s.setReg r v).oas = s.oas := rfl
@[simp] theorem setReg_spout (s : State) (r : Reg) (v : Word48) : (s.setReg r v).spout = s.spout := rfl
@[simp] theorem setReg_sluice (s : State) (r : Reg) (v : Word48) : (s.setReg r v).sluice = s.sluice := rfl
@[simp] theorem setReg_boxes (s : State) (r : Reg) (v : Word48) : (s.setReg r v).boxes = s.boxes := rfl
@[simp] theorem setReg_xwReported (s : State) (r : Reg) (v : Word48) : (s.setReg r v).xwReported = s.xwReported := rfl
@[simp] theorem setReg_host (s : State) (r : Reg) (v : Word48) : (s.setReg r v).host = s.host := rfl
@[simp] theorem setReg_dma (s : State) (r : Reg) (v : Word48) : (s.setReg r v).dma = s.dma := rfl
@[simp] theorem setByte_pending (s : State) (a : Nat) (v : Byte) : (s.setByte a v).pending = s.pending := rfl
@[simp] theorem setByte_now (s : State) (a : Nat) (v : Byte) : (s.setByte a v).now = s.now := rfl
@[simp] theorem setByte_free (s : State) (a : Nat) (v : Byte) : (s.setByte a v).free = s.free := rfl
@[simp] theorem setByte_t48 (s : State) (a : Nat) (v : Byte) : (s.setByte a v).t48 = s.t48 := rfl
@[simp] theorem setByte_t48Runs (s : State) (a : Nat) (v : Byte) : (s.setByte a v).t48Runs = s.t48Runs := rfl
@[simp] theorem setByte_regs (s : State) (a : Nat) (v : Byte) : (s.setByte a v).regs = s.regs := rfl
@[simp] theorem setByte_ecc (s : State) (a : Nat) (v : Byte) : (s.setByte a v).ecc = s.ecc := rfl
@[simp] theorem setByte_agents (s : State) (a : Nat) (v : Byte) : (s.setByte a v).agents = s.agents := rfl
@[simp] theorem setByte_outst (s : State) (a : Nat) (v : Byte) : (s.setByte a v).outst = s.outst := rfl
@[simp] theorem setByte_vlogLast (s : State) (a : Nat) (v : Byte) : (s.setByte a v).vlogLast = s.vlogLast := rfl
@[simp] theorem setByte_power (s : State) (a : Nat) (v : Byte) : (s.setByte a v).power = s.power := rfl
@[simp] theorem setByte_boot (s : State) (a : Nat) (v : Byte) : (s.setByte a v).boot = s.boot := rfl
@[simp] theorem setByte_flash (s : State) (a : Nat) (v : Byte) : (s.setByte a v).flash = s.flash := rfl
@[simp] theorem setByte_adm (s : State) (a : Nat) (v : Byte) : (s.setByte a v).adm = s.adm := rfl
@[simp] theorem setByte_weirs (s : State) (a : Nat) (v : Byte) : (s.setByte a v).weirs = s.weirs := rfl
@[simp] theorem setByte_cycles (s : State) (a : Nat) (v : Byte) : (s.setByte a v).cycles = s.cycles := rfl
@[simp] theorem setByte_bndAt (s : State) (a : Nat) (v : Byte) : (s.setByte a v).bndAt = s.bndAt := rfl
@[simp] theorem setByte_bndNext (s : State) (a : Nat) (v : Byte) : (s.setByte a v).bndNext = s.bndNext := rfl
@[simp] theorem setByte_axes (s : State) (a : Nat) (v : Byte) : (s.setByte a v).axes = s.axes := rfl
@[simp] theorem setByte_arbs (s : State) (a : Nat) (v : Byte) : (s.setByte a v).arbs = s.arbs := rfl
@[simp] theorem setByte_tasks (s : State) (a : Nat) (v : Byte) : (s.setByte a v).tasks = s.tasks := rfl
@[simp] theorem setByte_cores (s : State) (a : Nat) (v : Byte) : (s.setByte a v).cores = s.cores := rfl
@[simp] theorem setByte_jets (s : State) (a : Nat) (v : Byte) : (s.setByte a v).jets = s.jets := rfl
@[simp] theorem setByte_jetSys (s : State) (a : Nat) (v : Byte) : (s.setByte a v).jetSys = s.jetSys := rfl
@[simp] theorem setByte_jobs (s : State) (a : Nat) (v : Byte) : (s.setByte a v).jobs = s.jobs := rfl
@[simp] theorem setByte_encs (s : State) (a : Nat) (v : Byte) : (s.setByte a v).encs = s.encs := rfl
@[simp] theorem setByte_fbs (s : State) (a : Nat) (v : Byte) : (s.setByte a v).fbs = s.fbs := rfl
@[simp] theorem setByte_tcs (s : State) (a : Nat) (v : Byte) : (s.setByte a v).tcs = s.tcs := rfl
@[simp] theorem setByte_sgs (s : State) (a : Nat) (v : Byte) : (s.setByte a v).sgs = s.sgs := rfl
@[simp] theorem setByte_cmps (s : State) (a : Nat) (v : Byte) : (s.setByte a v).cmps = s.cmps := rfl
@[simp] theorem setByte_sds (s : State) (a : Nat) (v : Byte) : (s.setByte a v).sds = s.sds := rfl
@[simp] theorem setByte_ports (s : State) (a : Nat) (v : Byte) : (s.setByte a v).ports = s.ports := rfl
@[simp] theorem setByte_nodes (s : State) (a : Nat) (v : Byte) : (s.setByte a v).nodes = s.nodes := rfl
@[simp] theorem setByte_net (s : State) (a : Nat) (v : Byte) : (s.setByte a v).net = s.net := rfl
@[simp] theorem setByte_drv (s : State) (a : Nat) (v : Byte) : (s.setByte a v).drv = s.drv := rfl
@[simp] theorem setByte_cas (s : State) (a : Nat) (v : Byte) : (s.setByte a v).cas = s.cas := rfl
@[simp] theorem setByte_grps (s : State) (a : Nat) (v : Byte) : (s.setByte a v).grps = s.grps := rfl
@[simp] theorem setByte_lms (s : State) (a : Nat) (v : Byte) : (s.setByte a v).lms = s.lms := rfl
@[simp] theorem setByte_casSys (s : State) (a : Nat) (v : Byte) : (s.setByte a v).casSys = s.casSys := rfl
@[simp] theorem setByte_stops (s : State) (a : Nat) (v : Byte) : (s.setByte a v).stops = s.stops := rfl
@[simp] theorem setByte_homes (s : State) (a : Nat) (v : Byte) : (s.setByte a v).homes = s.homes := rfl
@[simp] theorem setByte_zones (s : State) (a : Nat) (v : Byte) : (s.setByte a v).zones = s.zones := rfl
@[simp] theorem setByte_twn (s : State) (a : Nat) (v : Byte) : (s.setByte a v).twn = s.twn := rfl
@[simp] theorem setByte_time (s : State) (a : Nat) (v : Byte) : (s.setByte a v).time = s.time := rfl
@[simp] theorem setByte_mirs (s : State) (a : Nat) (v : Byte) : (s.setByte a v).mirs = s.mirs := rfl
@[simp] theorem setByte_pins (s : State) (a : Nat) (v : Byte) : (s.setByte a v).pins = s.pins := rfl
@[simp] theorem setByte_sis (s : State) (a : Nat) (v : Byte) : (s.setByte a v).sis = s.sis := rfl
@[simp] theorem setByte_sos (s : State) (a : Nat) (v : Byte) : (s.setByte a v).sos = s.sos := rfl
@[simp] theorem setByte_conns (s : State) (a : Nat) (v : Byte) : (s.setByte a v).conns = s.conns := rfl
@[simp] theorem setByte_oas (s : State) (a : Nat) (v : Byte) : (s.setByte a v).oas = s.oas := rfl
@[simp] theorem setByte_spout (s : State) (a : Nat) (v : Byte) : (s.setByte a v).spout = s.spout := rfl
@[simp] theorem setByte_sluice (s : State) (a : Nat) (v : Byte) : (s.setByte a v).sluice = s.sluice := rfl
@[simp] theorem setByte_boxes (s : State) (a : Nat) (v : Byte) : (s.setByte a v).boxes = s.boxes := rfl
@[simp] theorem setByte_xwReported (s : State) (a : Nat) (v : Byte) : (s.setByte a v).xwReported = s.xwReported := rfl
@[simp] theorem setByte_host (s : State) (a : Nat) (v : Byte) : (s.setByte a v).host = s.host := rfl
@[simp] theorem setByte_dma (s : State) (a : Nat) (v : Byte) : (s.setByte a v).dma = s.dma := rfl
@[simp] theorem elapse_pending (s : State) (dt : Nat) : (s.elapse dt).pending = s.pending := rfl
@[simp] theorem elapse_free (s : State) (dt : Nat) : (s.elapse dt).free = s.free := rfl
@[simp] theorem elapse_t48Runs (s : State) (dt : Nat) : (s.elapse dt).t48Runs = s.t48Runs := rfl
@[simp] theorem elapse_regs (s : State) (dt : Nat) : (s.elapse dt).regs = s.regs := rfl
@[simp] theorem elapse_mem (s : State) (dt : Nat) : (s.elapse dt).mem = s.mem := rfl
@[simp] theorem elapse_ecc (s : State) (dt : Nat) : (s.elapse dt).ecc = s.ecc := rfl
@[simp] theorem elapse_agents (s : State) (dt : Nat) : (s.elapse dt).agents = s.agents := rfl
@[simp] theorem elapse_outst (s : State) (dt : Nat) : (s.elapse dt).outst = s.outst := rfl
@[simp] theorem elapse_vlogLast (s : State) (dt : Nat) : (s.elapse dt).vlogLast = s.vlogLast := rfl
@[simp] theorem elapse_power (s : State) (dt : Nat) : (s.elapse dt).power = s.power := rfl
@[simp] theorem elapse_boot (s : State) (dt : Nat) : (s.elapse dt).boot = s.boot := rfl
@[simp] theorem elapse_flash (s : State) (dt : Nat) : (s.elapse dt).flash = s.flash := rfl
@[simp] theorem elapse_adm (s : State) (dt : Nat) : (s.elapse dt).adm = s.adm := rfl
@[simp] theorem elapse_weirs (s : State) (dt : Nat) : (s.elapse dt).weirs = s.weirs := rfl
@[simp] theorem elapse_cycles (s : State) (dt : Nat) : (s.elapse dt).cycles = s.cycles := rfl
@[simp] theorem elapse_bndAt (s : State) (dt : Nat) : (s.elapse dt).bndAt = s.bndAt := rfl
@[simp] theorem elapse_bndNext (s : State) (dt : Nat) : (s.elapse dt).bndNext = s.bndNext := rfl
@[simp] theorem elapse_axes (s : State) (dt : Nat) : (s.elapse dt).axes = s.axes := rfl
@[simp] theorem elapse_arbs (s : State) (dt : Nat) : (s.elapse dt).arbs = s.arbs := rfl
@[simp] theorem elapse_tasks (s : State) (dt : Nat) : (s.elapse dt).tasks = s.tasks := rfl
@[simp] theorem elapse_cores (s : State) (dt : Nat) : (s.elapse dt).cores = s.cores := rfl
@[simp] theorem elapse_jets (s : State) (dt : Nat) : (s.elapse dt).jets = s.jets := rfl
@[simp] theorem elapse_jetSys (s : State) (dt : Nat) : (s.elapse dt).jetSys = s.jetSys := rfl
@[simp] theorem elapse_jobs (s : State) (dt : Nat) : (s.elapse dt).jobs = s.jobs := rfl
@[simp] theorem elapse_encs (s : State) (dt : Nat) : (s.elapse dt).encs = s.encs := rfl
@[simp] theorem elapse_fbs (s : State) (dt : Nat) : (s.elapse dt).fbs = s.fbs := rfl
@[simp] theorem elapse_tcs (s : State) (dt : Nat) : (s.elapse dt).tcs = s.tcs := rfl
@[simp] theorem elapse_sgs (s : State) (dt : Nat) : (s.elapse dt).sgs = s.sgs := rfl
@[simp] theorem elapse_cmps (s : State) (dt : Nat) : (s.elapse dt).cmps = s.cmps := rfl
@[simp] theorem elapse_sds (s : State) (dt : Nat) : (s.elapse dt).sds = s.sds := rfl
@[simp] theorem elapse_ports (s : State) (dt : Nat) : (s.elapse dt).ports = s.ports := rfl
@[simp] theorem elapse_nodes (s : State) (dt : Nat) : (s.elapse dt).nodes = s.nodes := rfl
@[simp] theorem elapse_net (s : State) (dt : Nat) : (s.elapse dt).net = s.net := rfl
@[simp] theorem elapse_drv (s : State) (dt : Nat) : (s.elapse dt).drv = s.drv := rfl
@[simp] theorem elapse_cas (s : State) (dt : Nat) : (s.elapse dt).cas = s.cas := rfl
@[simp] theorem elapse_grps (s : State) (dt : Nat) : (s.elapse dt).grps = s.grps := rfl
@[simp] theorem elapse_lms (s : State) (dt : Nat) : (s.elapse dt).lms = s.lms := rfl
@[simp] theorem elapse_casSys (s : State) (dt : Nat) : (s.elapse dt).casSys = s.casSys := rfl
@[simp] theorem elapse_stops (s : State) (dt : Nat) : (s.elapse dt).stops = s.stops := rfl
@[simp] theorem elapse_homes (s : State) (dt : Nat) : (s.elapse dt).homes = s.homes := rfl
@[simp] theorem elapse_zones (s : State) (dt : Nat) : (s.elapse dt).zones = s.zones := rfl
@[simp] theorem elapse_twn (s : State) (dt : Nat) : (s.elapse dt).twn = s.twn := rfl
@[simp] theorem elapse_time (s : State) (dt : Nat) : (s.elapse dt).time = s.time := rfl
@[simp] theorem elapse_mirs (s : State) (dt : Nat) : (s.elapse dt).mirs = s.mirs := rfl
@[simp] theorem elapse_pins (s : State) (dt : Nat) : (s.elapse dt).pins = s.pins := rfl
@[simp] theorem elapse_sis (s : State) (dt : Nat) : (s.elapse dt).sis = s.sis := rfl
@[simp] theorem elapse_sos (s : State) (dt : Nat) : (s.elapse dt).sos = s.sos := rfl
@[simp] theorem elapse_conns (s : State) (dt : Nat) : (s.elapse dt).conns = s.conns := rfl
@[simp] theorem elapse_oas (s : State) (dt : Nat) : (s.elapse dt).oas = s.oas := rfl
@[simp] theorem elapse_spout (s : State) (dt : Nat) : (s.elapse dt).spout = s.spout := rfl
@[simp] theorem elapse_sluice (s : State) (dt : Nat) : (s.elapse dt).sluice = s.sluice := rfl
@[simp] theorem elapse_boxes (s : State) (dt : Nat) : (s.elapse dt).boxes = s.boxes := rfl
@[simp] theorem elapse_xwReported (s : State) (dt : Nat) : (s.elapse dt).xwReported = s.xwReported := rfl
@[simp] theorem elapse_host (s : State) (dt : Nat) : (s.elapse dt).host = s.host := rfl
@[simp] theorem elapse_dma (s : State) (dt : Nat) : (s.elapse dt).dma = s.dma := rfl
@[simp] theorem elapse_now (s : State) (dt : Nat) : (s.elapse dt).now = s.now + dt := rfl
@[simp] theorem inTimeOf_pending (s t : State) : (s.inTimeOf t).pending = t.pending := rfl
@[simp] theorem inTimeOf_now (s t : State) : (s.inTimeOf t).now = t.now := rfl
@[simp] theorem inTimeOf_free (s t : State) : (s.inTimeOf t).free = s.free := rfl
@[simp] theorem inTimeOf_t48 (s t : State) : (s.inTimeOf t).t48 = s.t48 := rfl
@[simp] theorem inTimeOf_t48Runs (s t : State) : (s.inTimeOf t).t48Runs = s.t48Runs := rfl
@[simp] theorem inTimeOf_regs (s t : State) : (s.inTimeOf t).regs = s.regs := rfl
@[simp] theorem inTimeOf_mem (s t : State) : (s.inTimeOf t).mem = s.mem := rfl
@[simp] theorem inTimeOf_ecc (s t : State) : (s.inTimeOf t).ecc = s.ecc := rfl
@[simp] theorem inTimeOf_agents (s t : State) : (s.inTimeOf t).agents = s.agents := rfl
@[simp] theorem inTimeOf_outst (s t : State) : (s.inTimeOf t).outst = s.outst := rfl
@[simp] theorem inTimeOf_vlogLast (s t : State) : (s.inTimeOf t).vlogLast = s.vlogLast := rfl
@[simp] theorem inTimeOf_power (s t : State) : (s.inTimeOf t).power = s.power := rfl
@[simp] theorem inTimeOf_boot (s t : State) : (s.inTimeOf t).boot = s.boot := rfl
@[simp] theorem inTimeOf_flash (s t : State) : (s.inTimeOf t).flash = s.flash := rfl
@[simp] theorem inTimeOf_adm (s t : State) : (s.inTimeOf t).adm = s.adm := rfl
@[simp] theorem inTimeOf_weirs (s t : State) : (s.inTimeOf t).weirs = s.weirs := rfl
@[simp] theorem inTimeOf_cycles (s t : State) : (s.inTimeOf t).cycles = s.cycles := rfl
@[simp] theorem inTimeOf_bndAt (s t : State) : (s.inTimeOf t).bndAt = s.bndAt := rfl
@[simp] theorem inTimeOf_bndNext (s t : State) : (s.inTimeOf t).bndNext = s.bndNext := rfl
@[simp] theorem inTimeOf_axes (s t : State) : (s.inTimeOf t).axes = s.axes := rfl
@[simp] theorem inTimeOf_arbs (s t : State) : (s.inTimeOf t).arbs = s.arbs := rfl
@[simp] theorem inTimeOf_tasks (s t : State) : (s.inTimeOf t).tasks = s.tasks := rfl
@[simp] theorem inTimeOf_cores (s t : State) : (s.inTimeOf t).cores = s.cores := rfl
@[simp] theorem inTimeOf_jets (s t : State) : (s.inTimeOf t).jets = s.jets := rfl
@[simp] theorem inTimeOf_jetSys (s t : State) : (s.inTimeOf t).jetSys = s.jetSys := rfl
@[simp] theorem inTimeOf_jobs (s t : State) : (s.inTimeOf t).jobs = s.jobs := rfl
@[simp] theorem inTimeOf_encs (s t : State) : (s.inTimeOf t).encs = s.encs := rfl
@[simp] theorem inTimeOf_fbs (s t : State) : (s.inTimeOf t).fbs = s.fbs := rfl
@[simp] theorem inTimeOf_tcs (s t : State) : (s.inTimeOf t).tcs = s.tcs := rfl
@[simp] theorem inTimeOf_sgs (s t : State) : (s.inTimeOf t).sgs = s.sgs := rfl
@[simp] theorem inTimeOf_cmps (s t : State) : (s.inTimeOf t).cmps = s.cmps := rfl
@[simp] theorem inTimeOf_sds (s t : State) : (s.inTimeOf t).sds = s.sds := rfl
@[simp] theorem inTimeOf_ports (s t : State) : (s.inTimeOf t).ports = s.ports := rfl
@[simp] theorem inTimeOf_nodes (s t : State) : (s.inTimeOf t).nodes = s.nodes := rfl
@[simp] theorem inTimeOf_net (s t : State) : (s.inTimeOf t).net = s.net := rfl
@[simp] theorem inTimeOf_drv (s t : State) : (s.inTimeOf t).drv = s.drv := rfl
@[simp] theorem inTimeOf_cas (s t : State) : (s.inTimeOf t).cas = s.cas := rfl
@[simp] theorem inTimeOf_grps (s t : State) : (s.inTimeOf t).grps = s.grps := rfl
@[simp] theorem inTimeOf_lms (s t : State) : (s.inTimeOf t).lms = s.lms := rfl
@[simp] theorem inTimeOf_casSys (s t : State) : (s.inTimeOf t).casSys = s.casSys := rfl
@[simp] theorem inTimeOf_stops (s t : State) : (s.inTimeOf t).stops = s.stops := rfl
@[simp] theorem inTimeOf_homes (s t : State) : (s.inTimeOf t).homes = s.homes := rfl
@[simp] theorem inTimeOf_zones (s t : State) : (s.inTimeOf t).zones = s.zones := rfl
@[simp] theorem inTimeOf_twn (s t : State) : (s.inTimeOf t).twn = s.twn := rfl
@[simp] theorem inTimeOf_time (s t : State) : (s.inTimeOf t).time = s.time := rfl
@[simp] theorem inTimeOf_mirs (s t : State) : (s.inTimeOf t).mirs = s.mirs := rfl
@[simp] theorem inTimeOf_pins (s t : State) : (s.inTimeOf t).pins = s.pins := rfl
@[simp] theorem inTimeOf_sis (s t : State) : (s.inTimeOf t).sis = s.sis := rfl
@[simp] theorem inTimeOf_sos (s t : State) : (s.inTimeOf t).sos = s.sos := rfl
@[simp] theorem inTimeOf_conns (s t : State) : (s.inTimeOf t).conns = s.conns := rfl
@[simp] theorem inTimeOf_oas (s t : State) : (s.inTimeOf t).oas = s.oas := rfl
@[simp] theorem inTimeOf_spout (s t : State) : (s.inTimeOf t).spout = s.spout := rfl
@[simp] theorem inTimeOf_sluice (s t : State) : (s.inTimeOf t).sluice = s.sluice := rfl
@[simp] theorem inTimeOf_boxes (s t : State) : (s.inTimeOf t).boxes = s.boxes := rfl
@[simp] theorem inTimeOf_xwReported (s t : State) : (s.inTimeOf t).xwReported = s.xwReported := rfl
@[simp] theorem inTimeOf_host (s t : State) : (s.inTimeOf t).host = s.host := rfl
@[simp] theorem inTimeOf_dma (s t : State) : (s.inTimeOf t).dma = s.dma := rfl

/-! ### Internal state by index -/

@[simp] theorem setAgent_pending (s : State) (a : Nat) (h : AgentH) : (s.setAgent a h).pending = s.pending := rfl
@[simp] theorem setAgent_now (s : State) (a : Nat) (h : AgentH) : (s.setAgent a h).now = s.now := rfl
@[simp] theorem setAgent_free (s : State) (a : Nat) (h : AgentH) : (s.setAgent a h).free = s.free := rfl
@[simp] theorem setAgent_t48 (s : State) (a : Nat) (h : AgentH) : (s.setAgent a h).t48 = s.t48 := rfl
@[simp] theorem setAgent_regs (s : State) (a : Nat) (h : AgentH) : (s.setAgent a h).regs = s.regs := rfl
@[simp] theorem setAgent_mem (s : State) (a : Nat) (h : AgentH) : (s.setAgent a h).mem = s.mem := rfl
@[simp] theorem setAgent_agent (s : State) (a : Nat) (h : AgentH) : (s.setAgent a h).agent a = h :=
  tabGet_tabSet_self _ _ _ _
theorem setAgent_agent_ne (s : State) (a : Nat) (h : AgentH) (m : Nat) (ne : m ≠ a) : (s.setAgent a h).agent m = s.agent m :=
  tabGet_tabSet_ne _ _ _ _ _ _ ne
@[simp] theorem setReg_agent (s : State) (r : Reg) (v : Word48) (m : Nat) : (s.setReg r v).agent m = s.agent m := rfl
@[simp] theorem elapse_agent (s : State) (dt m : Nat) : (s.elapse dt).agent m = s.agent m := rfl
@[simp] theorem setAgent_reg (s : State) (a : Nat) (h : AgentH) (r : Reg) : (s.setAgent a h).reg r = s.reg r := rfl
@[simp] theorem setAgent_fld (s : State) (a : Nat) (h : AgentH) (r : Reg) (f : Fld) : (s.setAgent a h).fld r f = s.fld r f :=
  rfl
@[simp] theorem setAgent_byte (s : State) (a : Nat) (h : AgentH) (b : Nat) : (s.setAgent a h).byte b = s.byte b := rfl
@[simp] theorem setWeirH_pending (s : State) (k : Nat) (h : WeirH) : (s.setWeirH k h).pending = s.pending := rfl
@[simp] theorem setWeirH_now (s : State) (k : Nat) (h : WeirH) : (s.setWeirH k h).now = s.now := rfl
@[simp] theorem setWeirH_free (s : State) (k : Nat) (h : WeirH) : (s.setWeirH k h).free = s.free := rfl
@[simp] theorem setWeirH_t48 (s : State) (k : Nat) (h : WeirH) : (s.setWeirH k h).t48 = s.t48 := rfl
@[simp] theorem setWeirH_regs (s : State) (k : Nat) (h : WeirH) : (s.setWeirH k h).regs = s.regs := rfl
@[simp] theorem setWeirH_mem (s : State) (k : Nat) (h : WeirH) : (s.setWeirH k h).mem = s.mem := rfl
@[simp] theorem setWeirH_weirH (s : State) (k : Nat) (h : WeirH) : (s.setWeirH k h).weirH k = h :=
  tabGet_tabSet_self _ _ _ _
theorem setWeirH_weirH_ne (s : State) (k : Nat) (h : WeirH) (m : Nat) (ne : m ≠ k) : (s.setWeirH k h).weirH m = s.weirH m :=
  tabGet_tabSet_ne _ _ _ _ _ _ ne
@[simp] theorem setReg_weirH (s : State) (r : Reg) (v : Word48) (m : Nat) : (s.setReg r v).weirH m = s.weirH m := rfl
@[simp] theorem elapse_weirH (s : State) (dt m : Nat) : (s.elapse dt).weirH m = s.weirH m := rfl
@[simp] theorem setWeirH_reg (s : State) (k : Nat) (h : WeirH) (r : Reg) : (s.setWeirH k h).reg r = s.reg r := rfl
@[simp] theorem setWeirH_fld (s : State) (k : Nat) (h : WeirH) (r : Reg) (f : Fld) : (s.setWeirH k h).fld r f = s.fld r f :=
  rfl
@[simp] theorem setWeirH_byte (s : State) (k : Nat) (h : WeirH) (b : Nat) : (s.setWeirH k h).byte b = s.byte b := rfl
@[simp] theorem setArb_pending (s : State) (u : Nat) (h : ArbH) : (s.setArb u h).pending = s.pending := rfl
@[simp] theorem setArb_now (s : State) (u : Nat) (h : ArbH) : (s.setArb u h).now = s.now := rfl
@[simp] theorem setArb_free (s : State) (u : Nat) (h : ArbH) : (s.setArb u h).free = s.free := rfl
@[simp] theorem setArb_t48 (s : State) (u : Nat) (h : ArbH) : (s.setArb u h).t48 = s.t48 := rfl
@[simp] theorem setArb_regs (s : State) (u : Nat) (h : ArbH) : (s.setArb u h).regs = s.regs := rfl
@[simp] theorem setArb_mem (s : State) (u : Nat) (h : ArbH) : (s.setArb u h).mem = s.mem := rfl
@[simp] theorem setArb_arb (s : State) (u : Nat) (h : ArbH) : (s.setArb u h).arb u = h := tabGet_tabSet_self _ _ _ _
theorem setArb_arb_ne (s : State) (u : Nat) (h : ArbH) (m : Nat) (ne : m ≠ u) : (s.setArb u h).arb m = s.arb m :=
  tabGet_tabSet_ne _ _ _ _ _ _ ne
@[simp] theorem setReg_arb (s : State) (r : Reg) (v : Word48) (m : Nat) : (s.setReg r v).arb m = s.arb m := rfl
@[simp] theorem elapse_arb (s : State) (dt m : Nat) : (s.elapse dt).arb m = s.arb m := rfl
@[simp] theorem setArb_reg (s : State) (u : Nat) (h : ArbH) (r : Reg) : (s.setArb u h).reg r = s.reg r := rfl
@[simp] theorem setArb_fld (s : State) (u : Nat) (h : ArbH) (r : Reg) (f : Fld) : (s.setArb u h).fld r f = s.fld r f :=
  rfl
@[simp] theorem setArb_byte (s : State) (u : Nat) (h : ArbH) (b : Nat) : (s.setArb u h).byte b = s.byte b := rfl
@[simp] theorem setAxis_pending (s : State) (n : Nat) (h : AxisH) : (s.setAxis n h).pending = s.pending := rfl
@[simp] theorem setAxis_now (s : State) (n : Nat) (h : AxisH) : (s.setAxis n h).now = s.now := rfl
@[simp] theorem setAxis_free (s : State) (n : Nat) (h : AxisH) : (s.setAxis n h).free = s.free := rfl
@[simp] theorem setAxis_t48 (s : State) (n : Nat) (h : AxisH) : (s.setAxis n h).t48 = s.t48 := rfl
@[simp] theorem setAxis_regs (s : State) (n : Nat) (h : AxisH) : (s.setAxis n h).regs = s.regs := rfl
@[simp] theorem setAxis_mem (s : State) (n : Nat) (h : AxisH) : (s.setAxis n h).mem = s.mem := rfl
@[simp] theorem setAxis_axis (s : State) (n : Nat) (h : AxisH) : (s.setAxis n h).axis n = h :=
  tabGet_tabSet_self _ _ _ _
theorem setAxis_axis_ne (s : State) (n : Nat) (h : AxisH) (m : Nat) (ne : m ≠ n) : (s.setAxis n h).axis m = s.axis m :=
  tabGet_tabSet_ne _ _ _ _ _ _ ne
@[simp] theorem setReg_axis (s : State) (r : Reg) (v : Word48) (m : Nat) : (s.setReg r v).axis m = s.axis m := rfl
@[simp] theorem elapse_axis (s : State) (dt m : Nat) : (s.elapse dt).axis m = s.axis m := rfl
@[simp] theorem setAxis_reg (s : State) (n : Nat) (h : AxisH) (r : Reg) : (s.setAxis n h).reg r = s.reg r := rfl
@[simp] theorem setAxis_fld (s : State) (n : Nat) (h : AxisH) (r : Reg) (f : Fld) : (s.setAxis n h).fld r f = s.fld r f :=
  rfl
@[simp] theorem setAxis_byte (s : State) (n : Nat) (h : AxisH) (b : Nat) : (s.setAxis n h).byte b = s.byte b := rfl
@[simp] theorem setTask_pending (s : State) (t : Nat) (h : TaskH) : (s.setTask t h).pending = s.pending := rfl
@[simp] theorem setTask_now (s : State) (t : Nat) (h : TaskH) : (s.setTask t h).now = s.now := rfl
@[simp] theorem setTask_free (s : State) (t : Nat) (h : TaskH) : (s.setTask t h).free = s.free := rfl
@[simp] theorem setTask_t48 (s : State) (t : Nat) (h : TaskH) : (s.setTask t h).t48 = s.t48 := rfl
@[simp] theorem setTask_regs (s : State) (t : Nat) (h : TaskH) : (s.setTask t h).regs = s.regs := rfl
@[simp] theorem setTask_mem (s : State) (t : Nat) (h : TaskH) : (s.setTask t h).mem = s.mem := rfl
@[simp] theorem setTask_task (s : State) (t : Nat) (h : TaskH) : (s.setTask t h).task t = h :=
  tabGet_tabSet_self _ _ _ _
theorem setTask_task_ne (s : State) (t : Nat) (h : TaskH) (m : Nat) (ne : m ≠ t) : (s.setTask t h).task m = s.task m :=
  tabGet_tabSet_ne _ _ _ _ _ _ ne
@[simp] theorem setReg_task (s : State) (r : Reg) (v : Word48) (m : Nat) : (s.setReg r v).task m = s.task m := rfl
@[simp] theorem elapse_task (s : State) (dt m : Nat) : (s.elapse dt).task m = s.task m := rfl
@[simp] theorem setTask_reg (s : State) (t : Nat) (h : TaskH) (r : Reg) : (s.setTask t h).reg r = s.reg r := rfl
@[simp] theorem setTask_fld (s : State) (t : Nat) (h : TaskH) (r : Reg) (f : Fld) : (s.setTask t h).fld r f = s.fld r f :=
  rfl
@[simp] theorem setTask_byte (s : State) (t : Nat) (h : TaskH) (b : Nat) : (s.setTask t h).byte b = s.byte b := rfl
@[simp] theorem setCore_pending (s : State) (k : Nat) (h : CoreH) : (s.setCore k h).pending = s.pending := rfl
@[simp] theorem setCore_now (s : State) (k : Nat) (h : CoreH) : (s.setCore k h).now = s.now := rfl
@[simp] theorem setCore_free (s : State) (k : Nat) (h : CoreH) : (s.setCore k h).free = s.free := rfl
@[simp] theorem setCore_t48 (s : State) (k : Nat) (h : CoreH) : (s.setCore k h).t48 = s.t48 := rfl
@[simp] theorem setCore_regs (s : State) (k : Nat) (h : CoreH) : (s.setCore k h).regs = s.regs := rfl
@[simp] theorem setCore_mem (s : State) (k : Nat) (h : CoreH) : (s.setCore k h).mem = s.mem := rfl
@[simp] theorem setCore_core (s : State) (k : Nat) (h : CoreH) : (s.setCore k h).core k = h :=
  tabGet_tabSet_self _ _ _ _
theorem setCore_core_ne (s : State) (k : Nat) (h : CoreH) (m : Nat) (ne : m ≠ k) : (s.setCore k h).core m = s.core m :=
  tabGet_tabSet_ne _ _ _ _ _ _ ne
@[simp] theorem setReg_core (s : State) (r : Reg) (v : Word48) (m : Nat) : (s.setReg r v).core m = s.core m := rfl
@[simp] theorem elapse_core (s : State) (dt m : Nat) : (s.elapse dt).core m = s.core m := rfl
@[simp] theorem setCore_reg (s : State) (k : Nat) (h : CoreH) (r : Reg) : (s.setCore k h).reg r = s.reg r := rfl
@[simp] theorem setCore_fld (s : State) (k : Nat) (h : CoreH) (r : Reg) (f : Fld) : (s.setCore k h).fld r f = s.fld r f :=
  rfl
@[simp] theorem setCore_byte (s : State) (k : Nat) (h : CoreH) (b : Nat) : (s.setCore k h).byte b = s.byte b := rfl
@[simp] theorem setBox_pending (s : State) (n : Nat) (h : BoxH) : (s.setBox n h).pending = s.pending := rfl
@[simp] theorem setBox_now (s : State) (n : Nat) (h : BoxH) : (s.setBox n h).now = s.now := rfl
@[simp] theorem setBox_free (s : State) (n : Nat) (h : BoxH) : (s.setBox n h).free = s.free := rfl
@[simp] theorem setBox_t48 (s : State) (n : Nat) (h : BoxH) : (s.setBox n h).t48 = s.t48 := rfl
@[simp] theorem setBox_regs (s : State) (n : Nat) (h : BoxH) : (s.setBox n h).regs = s.regs := rfl
@[simp] theorem setBox_mem (s : State) (n : Nat) (h : BoxH) : (s.setBox n h).mem = s.mem := rfl
@[simp] theorem setBox_box (s : State) (n : Nat) (h : BoxH) : (s.setBox n h).box n = h := tabGet_tabSet_self _ _ _ _
theorem setBox_box_ne (s : State) (n : Nat) (h : BoxH) (m : Nat) (ne : m ≠ n) : (s.setBox n h).box m = s.box m :=
  tabGet_tabSet_ne _ _ _ _ _ _ ne
@[simp] theorem setReg_box (s : State) (r : Reg) (v : Word48) (m : Nat) : (s.setReg r v).box m = s.box m := rfl
@[simp] theorem elapse_box (s : State) (dt m : Nat) : (s.elapse dt).box m = s.box m := rfl
@[simp] theorem setBox_reg (s : State) (n : Nat) (h : BoxH) (r : Reg) : (s.setBox n h).reg r = s.reg r := rfl
@[simp] theorem setBox_fld (s : State) (n : Nat) (h : BoxH) (r : Reg) (f : Fld) : (s.setBox n h).fld r f = s.fld r f :=
  rfl
@[simp] theorem setBox_byte (s : State) (n : Nat) (h : BoxH) (b : Nat) : (s.setBox n h).byte b = s.byte b := rfl
@[simp] theorem setDmaH_pending (s : State) (c : Nat) (h : DmaH) : (s.setDmaH c h).pending = s.pending := rfl
@[simp] theorem setDmaH_now (s : State) (c : Nat) (h : DmaH) : (s.setDmaH c h).now = s.now := rfl
@[simp] theorem setDmaH_free (s : State) (c : Nat) (h : DmaH) : (s.setDmaH c h).free = s.free := rfl
@[simp] theorem setDmaH_t48 (s : State) (c : Nat) (h : DmaH) : (s.setDmaH c h).t48 = s.t48 := rfl
@[simp] theorem setDmaH_regs (s : State) (c : Nat) (h : DmaH) : (s.setDmaH c h).regs = s.regs := rfl
@[simp] theorem setDmaH_mem (s : State) (c : Nat) (h : DmaH) : (s.setDmaH c h).mem = s.mem := rfl
@[simp] theorem setDmaH_dmaH (s : State) (c : Nat) (h : DmaH) : (s.setDmaH c h).dmaH c = h := tabGet_tabSet_self _ _ _ _
theorem setDmaH_dmaH_ne (s : State) (c : Nat) (h : DmaH) (m : Nat) (ne : m ≠ c) : (s.setDmaH c h).dmaH m = s.dmaH m :=
  tabGet_tabSet_ne _ _ _ _ _ _ ne
@[simp] theorem setReg_dmaH (s : State) (r : Reg) (v : Word48) (m : Nat) : (s.setReg r v).dmaH m = s.dmaH m := rfl
@[simp] theorem elapse_dmaH (s : State) (dt m : Nat) : (s.elapse dt).dmaH m = s.dmaH m := rfl
@[simp] theorem setDmaH_reg (s : State) (c : Nat) (h : DmaH) (r : Reg) : (s.setDmaH c h).reg r = s.reg r := rfl
@[simp] theorem setDmaH_fld (s : State) (c : Nat) (h : DmaH) (r : Reg) (f : Fld) : (s.setDmaH c h).fld r f = s.fld r f :=
  rfl
@[simp] theorem setDmaH_byte (s : State) (c : Nat) (h : DmaH) (b : Nat) : (s.setDmaH c h).byte b = s.byte b := rfl
@[simp] theorem setJet_pending (s : State) (j : Nat) (h : JetH) : (s.setJet j h).pending = s.pending := rfl
@[simp] theorem setJet_now (s : State) (j : Nat) (h : JetH) : (s.setJet j h).now = s.now := rfl
@[simp] theorem setJet_free (s : State) (j : Nat) (h : JetH) : (s.setJet j h).free = s.free := rfl
@[simp] theorem setJet_t48 (s : State) (j : Nat) (h : JetH) : (s.setJet j h).t48 = s.t48 := rfl
@[simp] theorem setJet_regs (s : State) (j : Nat) (h : JetH) : (s.setJet j h).regs = s.regs := rfl
@[simp] theorem setJet_mem (s : State) (j : Nat) (h : JetH) : (s.setJet j h).mem = s.mem := rfl
@[simp] theorem setJet_jet (s : State) (j : Nat) (h : JetH) : (s.setJet j h).jet j = h := tabGet_tabSet_self _ _ _ _
theorem setJet_jet_ne (s : State) (j : Nat) (h : JetH) (m : Nat) (ne : m ≠ j) : (s.setJet j h).jet m = s.jet m :=
  tabGet_tabSet_ne _ _ _ _ _ _ ne
@[simp] theorem setReg_jet (s : State) (r : Reg) (v : Word48) (m : Nat) : (s.setReg r v).jet m = s.jet m := rfl
@[simp] theorem elapse_jet (s : State) (dt m : Nat) : (s.elapse dt).jet m = s.jet m := rfl
@[simp] theorem setJet_reg (s : State) (j : Nat) (h : JetH) (r : Reg) : (s.setJet j h).reg r = s.reg r := rfl
@[simp] theorem setJet_fld (s : State) (j : Nat) (h : JetH) (r : Reg) (f : Fld) : (s.setJet j h).fld r f = s.fld r f :=
  rfl
@[simp] theorem setJet_byte (s : State) (j : Nat) (h : JetH) (b : Nat) : (s.setJet j h).byte b = s.byte b := rfl
@[simp] theorem setJob_pending (s : State) (n : Nat) (h : JobH) : (s.setJob n h).pending = s.pending := rfl
@[simp] theorem setJob_now (s : State) (n : Nat) (h : JobH) : (s.setJob n h).now = s.now := rfl
@[simp] theorem setJob_free (s : State) (n : Nat) (h : JobH) : (s.setJob n h).free = s.free := rfl
@[simp] theorem setJob_t48 (s : State) (n : Nat) (h : JobH) : (s.setJob n h).t48 = s.t48 := rfl
@[simp] theorem setJob_regs (s : State) (n : Nat) (h : JobH) : (s.setJob n h).regs = s.regs := rfl
@[simp] theorem setJob_mem (s : State) (n : Nat) (h : JobH) : (s.setJob n h).mem = s.mem := rfl
@[simp] theorem setJob_job (s : State) (n : Nat) (h : JobH) : (s.setJob n h).job n = h := tabGet_tabSet_self _ _ _ _
theorem setJob_job_ne (s : State) (n : Nat) (h : JobH) (m : Nat) (ne : m ≠ n) : (s.setJob n h).job m = s.job m :=
  tabGet_tabSet_ne _ _ _ _ _ _ ne
@[simp] theorem setReg_job (s : State) (r : Reg) (v : Word48) (m : Nat) : (s.setReg r v).job m = s.job m := rfl
@[simp] theorem elapse_job (s : State) (dt m : Nat) : (s.elapse dt).job m = s.job m := rfl
@[simp] theorem setJob_reg (s : State) (n : Nat) (h : JobH) (r : Reg) : (s.setJob n h).reg r = s.reg r := rfl
@[simp] theorem setJob_fld (s : State) (n : Nat) (h : JobH) (r : Reg) (f : Fld) : (s.setJob n h).fld r f = s.fld r f :=
  rfl
@[simp] theorem setJob_byte (s : State) (n : Nat) (h : JobH) (b : Nat) : (s.setJob n h).byte b = s.byte b := rfl
@[simp] theorem setEnc_pending (s : State) (c : Nat) (h : EncH) : (s.setEnc c h).pending = s.pending := rfl
@[simp] theorem setEnc_now (s : State) (c : Nat) (h : EncH) : (s.setEnc c h).now = s.now := rfl
@[simp] theorem setEnc_free (s : State) (c : Nat) (h : EncH) : (s.setEnc c h).free = s.free := rfl
@[simp] theorem setEnc_t48 (s : State) (c : Nat) (h : EncH) : (s.setEnc c h).t48 = s.t48 := rfl
@[simp] theorem setEnc_regs (s : State) (c : Nat) (h : EncH) : (s.setEnc c h).regs = s.regs := rfl
@[simp] theorem setEnc_mem (s : State) (c : Nat) (h : EncH) : (s.setEnc c h).mem = s.mem := rfl
@[simp] theorem setEnc_enc (s : State) (c : Nat) (h : EncH) : (s.setEnc c h).enc c = h := tabGet_tabSet_self _ _ _ _
theorem setEnc_enc_ne (s : State) (c : Nat) (h : EncH) (m : Nat) (ne : m ≠ c) : (s.setEnc c h).enc m = s.enc m :=
  tabGet_tabSet_ne _ _ _ _ _ _ ne
@[simp] theorem setReg_enc (s : State) (r : Reg) (v : Word48) (m : Nat) : (s.setReg r v).enc m = s.enc m := rfl
@[simp] theorem elapse_enc (s : State) (dt m : Nat) : (s.elapse dt).enc m = s.enc m := rfl
@[simp] theorem setEnc_reg (s : State) (c : Nat) (h : EncH) (r : Reg) : (s.setEnc c h).reg r = s.reg r := rfl
@[simp] theorem setEnc_fld (s : State) (c : Nat) (h : EncH) (r : Reg) (f : Fld) : (s.setEnc c h).fld r f = s.fld r f :=
  rfl
@[simp] theorem setEnc_byte (s : State) (c : Nat) (h : EncH) (b : Nat) : (s.setEnc c h).byte b = s.byte b := rfl
@[simp] theorem setFb_pending (s : State) (n : Nat) (h : FbH) : (s.setFb n h).pending = s.pending := rfl
@[simp] theorem setFb_now (s : State) (n : Nat) (h : FbH) : (s.setFb n h).now = s.now := rfl
@[simp] theorem setFb_free (s : State) (n : Nat) (h : FbH) : (s.setFb n h).free = s.free := rfl
@[simp] theorem setFb_t48 (s : State) (n : Nat) (h : FbH) : (s.setFb n h).t48 = s.t48 := rfl
@[simp] theorem setFb_regs (s : State) (n : Nat) (h : FbH) : (s.setFb n h).regs = s.regs := rfl
@[simp] theorem setFb_mem (s : State) (n : Nat) (h : FbH) : (s.setFb n h).mem = s.mem := rfl
@[simp] theorem setFb_fb (s : State) (n : Nat) (h : FbH) : (s.setFb n h).fb n = h := tabGet_tabSet_self _ _ _ _
theorem setFb_fb_ne (s : State) (n : Nat) (h : FbH) (m : Nat) (ne : m ≠ n) : (s.setFb n h).fb m = s.fb m :=
  tabGet_tabSet_ne _ _ _ _ _ _ ne
@[simp] theorem setReg_fb (s : State) (r : Reg) (v : Word48) (m : Nat) : (s.setReg r v).fb m = s.fb m := rfl
@[simp] theorem elapse_fb (s : State) (dt m : Nat) : (s.elapse dt).fb m = s.fb m := rfl
@[simp] theorem setFb_reg (s : State) (n : Nat) (h : FbH) (r : Reg) : (s.setFb n h).reg r = s.reg r := rfl
@[simp] theorem setFb_fld (s : State) (n : Nat) (h : FbH) (r : Reg) (f : Fld) : (s.setFb n h).fld r f = s.fld r f := rfl
@[simp] theorem setFb_byte (s : State) (n : Nat) (h : FbH) (b : Nat) : (s.setFb n h).byte b = s.byte b := rfl
@[simp] theorem setPort_pending (s : State) (p : Nat) (h : PortH) : (s.setPort p h).pending = s.pending := rfl
@[simp] theorem setPort_now (s : State) (p : Nat) (h : PortH) : (s.setPort p h).now = s.now := rfl
@[simp] theorem setPort_free (s : State) (p : Nat) (h : PortH) : (s.setPort p h).free = s.free := rfl
@[simp] theorem setPort_t48 (s : State) (p : Nat) (h : PortH) : (s.setPort p h).t48 = s.t48 := rfl
@[simp] theorem setPort_regs (s : State) (p : Nat) (h : PortH) : (s.setPort p h).regs = s.regs := rfl
@[simp] theorem setPort_mem (s : State) (p : Nat) (h : PortH) : (s.setPort p h).mem = s.mem := rfl
@[simp] theorem setPort_port (s : State) (p : Nat) (h : PortH) : (s.setPort p h).port p = h :=
  tabGet_tabSet_self _ _ _ _
theorem setPort_port_ne (s : State) (p : Nat) (h : PortH) (m : Nat) (ne : m ≠ p) : (s.setPort p h).port m = s.port m :=
  tabGet_tabSet_ne _ _ _ _ _ _ ne
@[simp] theorem setReg_port (s : State) (r : Reg) (v : Word48) (m : Nat) : (s.setReg r v).port m = s.port m := rfl
@[simp] theorem elapse_port (s : State) (dt m : Nat) : (s.elapse dt).port m = s.port m := rfl
@[simp] theorem setPort_reg (s : State) (p : Nat) (h : PortH) (r : Reg) : (s.setPort p h).reg r = s.reg r := rfl
@[simp] theorem setPort_fld (s : State) (p : Nat) (h : PortH) (r : Reg) (f : Fld) : (s.setPort p h).fld r f = s.fld r f :=
  rfl
@[simp] theorem setPort_byte (s : State) (p : Nat) (h : PortH) (b : Nat) : (s.setPort p h).byte b = s.byte b := rfl
@[simp] theorem setNode_pending (s : State) (k : Nat) (h : NodeH) : (s.setNode k h).pending = s.pending := rfl
@[simp] theorem setNode_now (s : State) (k : Nat) (h : NodeH) : (s.setNode k h).now = s.now := rfl
@[simp] theorem setNode_free (s : State) (k : Nat) (h : NodeH) : (s.setNode k h).free = s.free := rfl
@[simp] theorem setNode_t48 (s : State) (k : Nat) (h : NodeH) : (s.setNode k h).t48 = s.t48 := rfl
@[simp] theorem setNode_regs (s : State) (k : Nat) (h : NodeH) : (s.setNode k h).regs = s.regs := rfl
@[simp] theorem setNode_mem (s : State) (k : Nat) (h : NodeH) : (s.setNode k h).mem = s.mem := rfl
@[simp] theorem setNode_node (s : State) (k : Nat) (h : NodeH) : (s.setNode k h).node k = h :=
  tabGet_tabSet_self _ _ _ _
theorem setNode_node_ne (s : State) (k : Nat) (h : NodeH) (m : Nat) (ne : m ≠ k) : (s.setNode k h).node m = s.node m :=
  tabGet_tabSet_ne _ _ _ _ _ _ ne
@[simp] theorem setReg_node (s : State) (r : Reg) (v : Word48) (m : Nat) : (s.setReg r v).node m = s.node m := rfl
@[simp] theorem elapse_node (s : State) (dt m : Nat) : (s.elapse dt).node m = s.node m := rfl
@[simp] theorem setNode_reg (s : State) (k : Nat) (h : NodeH) (r : Reg) : (s.setNode k h).reg r = s.reg r := rfl
@[simp] theorem setNode_fld (s : State) (k : Nat) (h : NodeH) (r : Reg) (f : Fld) : (s.setNode k h).fld r f = s.fld r f :=
  rfl
@[simp] theorem setNode_byte (s : State) (k : Nat) (h : NodeH) (b : Nat) : (s.setNode k h).byte b = s.byte b := rfl
@[simp] theorem setTc_pending (s : State) (n : Nat) (h : TcH) : (s.setTc n h).pending = s.pending := rfl
@[simp] theorem setTc_now (s : State) (n : Nat) (h : TcH) : (s.setTc n h).now = s.now := rfl
@[simp] theorem setTc_free (s : State) (n : Nat) (h : TcH) : (s.setTc n h).free = s.free := rfl
@[simp] theorem setTc_t48 (s : State) (n : Nat) (h : TcH) : (s.setTc n h).t48 = s.t48 := rfl
@[simp] theorem setTc_regs (s : State) (n : Nat) (h : TcH) : (s.setTc n h).regs = s.regs := rfl
@[simp] theorem setTc_mem (s : State) (n : Nat) (h : TcH) : (s.setTc n h).mem = s.mem := rfl
@[simp] theorem setTc_tc (s : State) (n : Nat) (h : TcH) : (s.setTc n h).tc n = h := tabGet_tabSet_self _ _ _ _
theorem setTc_tc_ne (s : State) (n : Nat) (h : TcH) (m : Nat) (ne : m ≠ n) : (s.setTc n h).tc m = s.tc m :=
  tabGet_tabSet_ne _ _ _ _ _ _ ne
@[simp] theorem setReg_tc (s : State) (r : Reg) (v : Word48) (m : Nat) : (s.setReg r v).tc m = s.tc m := rfl
@[simp] theorem elapse_tc (s : State) (dt m : Nat) : (s.elapse dt).tc m = s.tc m := rfl
@[simp] theorem setTc_reg (s : State) (n : Nat) (h : TcH) (r : Reg) : (s.setTc n h).reg r = s.reg r := rfl
@[simp] theorem setTc_fld (s : State) (n : Nat) (h : TcH) (r : Reg) (f : Fld) : (s.setTc n h).fld r f = s.fld r f := rfl
@[simp] theorem setTc_byte (s : State) (n : Nat) (h : TcH) (b : Nat) : (s.setTc n h).byte b = s.byte b := rfl
@[simp] theorem setSg_pending (s : State) (g : Nat) (h : SgH) : (s.setSg g h).pending = s.pending := rfl
@[simp] theorem setSg_now (s : State) (g : Nat) (h : SgH) : (s.setSg g h).now = s.now := rfl
@[simp] theorem setSg_free (s : State) (g : Nat) (h : SgH) : (s.setSg g h).free = s.free := rfl
@[simp] theorem setSg_t48 (s : State) (g : Nat) (h : SgH) : (s.setSg g h).t48 = s.t48 := rfl
@[simp] theorem setSg_regs (s : State) (g : Nat) (h : SgH) : (s.setSg g h).regs = s.regs := rfl
@[simp] theorem setSg_mem (s : State) (g : Nat) (h : SgH) : (s.setSg g h).mem = s.mem := rfl
@[simp] theorem setSg_sg (s : State) (g : Nat) (h : SgH) : (s.setSg g h).sg g = h := tabGet_tabSet_self _ _ _ _
theorem setSg_sg_ne (s : State) (g : Nat) (h : SgH) (m : Nat) (ne : m ≠ g) : (s.setSg g h).sg m = s.sg m :=
  tabGet_tabSet_ne _ _ _ _ _ _ ne
@[simp] theorem setReg_sg (s : State) (r : Reg) (v : Word48) (m : Nat) : (s.setReg r v).sg m = s.sg m := rfl
@[simp] theorem elapse_sg (s : State) (dt m : Nat) : (s.elapse dt).sg m = s.sg m := rfl
@[simp] theorem setSg_reg (s : State) (g : Nat) (h : SgH) (r : Reg) : (s.setSg g h).reg r = s.reg r := rfl
@[simp] theorem setSg_fld (s : State) (g : Nat) (h : SgH) (r : Reg) (f : Fld) : (s.setSg g h).fld r f = s.fld r f := rfl
@[simp] theorem setSg_byte (s : State) (g : Nat) (h : SgH) (b : Nat) : (s.setSg g h).byte b = s.byte b := rfl
@[simp] theorem setCmp_pending (s : State) (k : Nat) (h : CmpH) : (s.setCmp k h).pending = s.pending := rfl
@[simp] theorem setCmp_now (s : State) (k : Nat) (h : CmpH) : (s.setCmp k h).now = s.now := rfl
@[simp] theorem setCmp_free (s : State) (k : Nat) (h : CmpH) : (s.setCmp k h).free = s.free := rfl
@[simp] theorem setCmp_t48 (s : State) (k : Nat) (h : CmpH) : (s.setCmp k h).t48 = s.t48 := rfl
@[simp] theorem setCmp_regs (s : State) (k : Nat) (h : CmpH) : (s.setCmp k h).regs = s.regs := rfl
@[simp] theorem setCmp_mem (s : State) (k : Nat) (h : CmpH) : (s.setCmp k h).mem = s.mem := rfl
@[simp] theorem setCmp_cmp (s : State) (k : Nat) (h : CmpH) : (s.setCmp k h).cmp k = h := tabGet_tabSet_self _ _ _ _
theorem setCmp_cmp_ne (s : State) (k : Nat) (h : CmpH) (m : Nat) (ne : m ≠ k) : (s.setCmp k h).cmp m = s.cmp m :=
  tabGet_tabSet_ne _ _ _ _ _ _ ne
@[simp] theorem setReg_cmp (s : State) (r : Reg) (v : Word48) (m : Nat) : (s.setReg r v).cmp m = s.cmp m := rfl
@[simp] theorem elapse_cmp (s : State) (dt m : Nat) : (s.elapse dt).cmp m = s.cmp m := rfl
@[simp] theorem setCmp_reg (s : State) (k : Nat) (h : CmpH) (r : Reg) : (s.setCmp k h).reg r = s.reg r := rfl
@[simp] theorem setCmp_fld (s : State) (k : Nat) (h : CmpH) (r : Reg) (f : Fld) : (s.setCmp k h).fld r f = s.fld r f :=
  rfl
@[simp] theorem setCmp_byte (s : State) (k : Nat) (h : CmpH) (b : Nat) : (s.setCmp k h).byte b = s.byte b := rfl
@[simp] theorem setSd_pending (s : State) (i : Nat) (h : SdH) : (s.setSd i h).pending = s.pending := rfl
@[simp] theorem setSd_now (s : State) (i : Nat) (h : SdH) : (s.setSd i h).now = s.now := rfl
@[simp] theorem setSd_free (s : State) (i : Nat) (h : SdH) : (s.setSd i h).free = s.free := rfl
@[simp] theorem setSd_t48 (s : State) (i : Nat) (h : SdH) : (s.setSd i h).t48 = s.t48 := rfl
@[simp] theorem setSd_regs (s : State) (i : Nat) (h : SdH) : (s.setSd i h).regs = s.regs := rfl
@[simp] theorem setSd_mem (s : State) (i : Nat) (h : SdH) : (s.setSd i h).mem = s.mem := rfl
@[simp] theorem setSd_sd (s : State) (i : Nat) (h : SdH) : (s.setSd i h).sd i = h := tabGet_tabSet_self _ _ _ _
theorem setSd_sd_ne (s : State) (i : Nat) (h : SdH) (m : Nat) (ne : m ≠ i) : (s.setSd i h).sd m = s.sd m :=
  tabGet_tabSet_ne _ _ _ _ _ _ ne
@[simp] theorem setReg_sd (s : State) (r : Reg) (v : Word48) (m : Nat) : (s.setReg r v).sd m = s.sd m := rfl
@[simp] theorem elapse_sd (s : State) (dt m : Nat) : (s.elapse dt).sd m = s.sd m := rfl
@[simp] theorem setSd_reg (s : State) (i : Nat) (h : SdH) (r : Reg) : (s.setSd i h).reg r = s.reg r := rfl
@[simp] theorem setSd_fld (s : State) (i : Nat) (h : SdH) (r : Reg) (f : Fld) : (s.setSd i h).fld r f = s.fld r f := rfl
@[simp] theorem setSd_byte (s : State) (i : Nat) (h : SdH) (b : Nat) : (s.setSd i h).byte b = s.byte b := rfl
@[simp] theorem setCasH_pending (s : State) (n : Nat) (h : CasH) : (s.setCasH n h).pending = s.pending := rfl
@[simp] theorem setCasH_now (s : State) (n : Nat) (h : CasH) : (s.setCasH n h).now = s.now := rfl
@[simp] theorem setCasH_free (s : State) (n : Nat) (h : CasH) : (s.setCasH n h).free = s.free := rfl
@[simp] theorem setCasH_t48 (s : State) (n : Nat) (h : CasH) : (s.setCasH n h).t48 = s.t48 := rfl
@[simp] theorem setCasH_regs (s : State) (n : Nat) (h : CasH) : (s.setCasH n h).regs = s.regs := rfl
@[simp] theorem setCasH_mem (s : State) (n : Nat) (h : CasH) : (s.setCasH n h).mem = s.mem := rfl
@[simp] theorem setCasH_casH (s : State) (n : Nat) (h : CasH) : (s.setCasH n h).casH n = h := tabGet_tabSet_self _ _ _ _
theorem setCasH_casH_ne (s : State) (n : Nat) (h : CasH) (m : Nat) (ne : m ≠ n) : (s.setCasH n h).casH m = s.casH m :=
  tabGet_tabSet_ne _ _ _ _ _ _ ne
@[simp] theorem setReg_casH (s : State) (r : Reg) (v : Word48) (m : Nat) : (s.setReg r v).casH m = s.casH m := rfl
@[simp] theorem elapse_casH (s : State) (dt m : Nat) : (s.elapse dt).casH m = s.casH m := rfl
@[simp] theorem setCasH_reg (s : State) (n : Nat) (h : CasH) (r : Reg) : (s.setCasH n h).reg r = s.reg r := rfl
@[simp] theorem setCasH_fld (s : State) (n : Nat) (h : CasH) (r : Reg) (f : Fld) : (s.setCasH n h).fld r f = s.fld r f :=
  rfl
@[simp] theorem setCasH_byte (s : State) (n : Nat) (h : CasH) (b : Nat) : (s.setCasH n h).byte b = s.byte b := rfl
@[simp] theorem setGrp_pending (s : State) (n : Nat) (h : GrpH) : (s.setGrp n h).pending = s.pending := rfl
@[simp] theorem setGrp_now (s : State) (n : Nat) (h : GrpH) : (s.setGrp n h).now = s.now := rfl
@[simp] theorem setGrp_free (s : State) (n : Nat) (h : GrpH) : (s.setGrp n h).free = s.free := rfl
@[simp] theorem setGrp_t48 (s : State) (n : Nat) (h : GrpH) : (s.setGrp n h).t48 = s.t48 := rfl
@[simp] theorem setGrp_regs (s : State) (n : Nat) (h : GrpH) : (s.setGrp n h).regs = s.regs := rfl
@[simp] theorem setGrp_mem (s : State) (n : Nat) (h : GrpH) : (s.setGrp n h).mem = s.mem := rfl
@[simp] theorem setGrp_grp (s : State) (n : Nat) (h : GrpH) : (s.setGrp n h).grp n = h := tabGet_tabSet_self _ _ _ _
theorem setGrp_grp_ne (s : State) (n : Nat) (h : GrpH) (m : Nat) (ne : m ≠ n) : (s.setGrp n h).grp m = s.grp m :=
  tabGet_tabSet_ne _ _ _ _ _ _ ne
@[simp] theorem setReg_grp (s : State) (r : Reg) (v : Word48) (m : Nat) : (s.setReg r v).grp m = s.grp m := rfl
@[simp] theorem elapse_grp (s : State) (dt m : Nat) : (s.elapse dt).grp m = s.grp m := rfl
@[simp] theorem setGrp_reg (s : State) (n : Nat) (h : GrpH) (r : Reg) : (s.setGrp n h).reg r = s.reg r := rfl
@[simp] theorem setGrp_fld (s : State) (n : Nat) (h : GrpH) (r : Reg) (f : Fld) : (s.setGrp n h).fld r f = s.fld r f :=
  rfl
@[simp] theorem setGrp_byte (s : State) (n : Nat) (h : GrpH) (b : Nat) : (s.setGrp n h).byte b = s.byte b := rfl
@[simp] theorem setLm_pending (s : State) (n : Nat) (h : LmH) : (s.setLm n h).pending = s.pending := rfl
@[simp] theorem setLm_now (s : State) (n : Nat) (h : LmH) : (s.setLm n h).now = s.now := rfl
@[simp] theorem setLm_free (s : State) (n : Nat) (h : LmH) : (s.setLm n h).free = s.free := rfl
@[simp] theorem setLm_t48 (s : State) (n : Nat) (h : LmH) : (s.setLm n h).t48 = s.t48 := rfl
@[simp] theorem setLm_regs (s : State) (n : Nat) (h : LmH) : (s.setLm n h).regs = s.regs := rfl
@[simp] theorem setLm_mem (s : State) (n : Nat) (h : LmH) : (s.setLm n h).mem = s.mem := rfl
@[simp] theorem setLm_lm (s : State) (n : Nat) (h : LmH) : (s.setLm n h).lm n = h := tabGet_tabSet_self _ _ _ _
theorem setLm_lm_ne (s : State) (n : Nat) (h : LmH) (m : Nat) (ne : m ≠ n) : (s.setLm n h).lm m = s.lm m :=
  tabGet_tabSet_ne _ _ _ _ _ _ ne
@[simp] theorem setReg_lm (s : State) (r : Reg) (v : Word48) (m : Nat) : (s.setReg r v).lm m = s.lm m := rfl
@[simp] theorem elapse_lm (s : State) (dt m : Nat) : (s.elapse dt).lm m = s.lm m := rfl
@[simp] theorem setLm_reg (s : State) (n : Nat) (h : LmH) (r : Reg) : (s.setLm n h).reg r = s.reg r := rfl
@[simp] theorem setLm_fld (s : State) (n : Nat) (h : LmH) (r : Reg) (f : Fld) : (s.setLm n h).fld r f = s.fld r f := rfl
@[simp] theorem setLm_byte (s : State) (n : Nat) (h : LmH) (b : Nat) : (s.setLm n h).byte b = s.byte b := rfl
@[simp] theorem setStop_pending (s : State) (n : Nat) (h : StopH) : (s.setStop n h).pending = s.pending := rfl
@[simp] theorem setStop_now (s : State) (n : Nat) (h : StopH) : (s.setStop n h).now = s.now := rfl
@[simp] theorem setStop_free (s : State) (n : Nat) (h : StopH) : (s.setStop n h).free = s.free := rfl
@[simp] theorem setStop_t48 (s : State) (n : Nat) (h : StopH) : (s.setStop n h).t48 = s.t48 := rfl
@[simp] theorem setStop_regs (s : State) (n : Nat) (h : StopH) : (s.setStop n h).regs = s.regs := rfl
@[simp] theorem setStop_mem (s : State) (n : Nat) (h : StopH) : (s.setStop n h).mem = s.mem := rfl
@[simp] theorem setStop_stop (s : State) (n : Nat) (h : StopH) : (s.setStop n h).stop n = h :=
  tabGet_tabSet_self _ _ _ _
theorem setStop_stop_ne (s : State) (n : Nat) (h : StopH) (m : Nat) (ne : m ≠ n) : (s.setStop n h).stop m = s.stop m :=
  tabGet_tabSet_ne _ _ _ _ _ _ ne
@[simp] theorem setReg_stop (s : State) (r : Reg) (v : Word48) (m : Nat) : (s.setReg r v).stop m = s.stop m := rfl
@[simp] theorem elapse_stop (s : State) (dt m : Nat) : (s.elapse dt).stop m = s.stop m := rfl
@[simp] theorem setStop_reg (s : State) (n : Nat) (h : StopH) (r : Reg) : (s.setStop n h).reg r = s.reg r := rfl
@[simp] theorem setStop_fld (s : State) (n : Nat) (h : StopH) (r : Reg) (f : Fld) : (s.setStop n h).fld r f = s.fld r f :=
  rfl
@[simp] theorem setStop_byte (s : State) (n : Nat) (h : StopH) (b : Nat) : (s.setStop n h).byte b = s.byte b := rfl
@[simp] theorem setHome_pending (s : State) (n : Nat) (h : HomeH) : (s.setHome n h).pending = s.pending := rfl
@[simp] theorem setHome_now (s : State) (n : Nat) (h : HomeH) : (s.setHome n h).now = s.now := rfl
@[simp] theorem setHome_free (s : State) (n : Nat) (h : HomeH) : (s.setHome n h).free = s.free := rfl
@[simp] theorem setHome_t48 (s : State) (n : Nat) (h : HomeH) : (s.setHome n h).t48 = s.t48 := rfl
@[simp] theorem setHome_regs (s : State) (n : Nat) (h : HomeH) : (s.setHome n h).regs = s.regs := rfl
@[simp] theorem setHome_mem (s : State) (n : Nat) (h : HomeH) : (s.setHome n h).mem = s.mem := rfl
@[simp] theorem setHome_home (s : State) (n : Nat) (h : HomeH) : (s.setHome n h).home n = h :=
  tabGet_tabSet_self _ _ _ _
theorem setHome_home_ne (s : State) (n : Nat) (h : HomeH) (m : Nat) (ne : m ≠ n) : (s.setHome n h).home m = s.home m :=
  tabGet_tabSet_ne _ _ _ _ _ _ ne
@[simp] theorem setReg_home (s : State) (r : Reg) (v : Word48) (m : Nat) : (s.setReg r v).home m = s.home m := rfl
@[simp] theorem elapse_home (s : State) (dt m : Nat) : (s.elapse dt).home m = s.home m := rfl
@[simp] theorem setHome_reg (s : State) (n : Nat) (h : HomeH) (r : Reg) : (s.setHome n h).reg r = s.reg r := rfl
@[simp] theorem setHome_fld (s : State) (n : Nat) (h : HomeH) (r : Reg) (f : Fld) : (s.setHome n h).fld r f = s.fld r f :=
  rfl
@[simp] theorem setHome_byte (s : State) (n : Nat) (h : HomeH) (b : Nat) : (s.setHome n h).byte b = s.byte b := rfl
@[simp] theorem setZone_pending (s : State) (z : Nat) (h : ZoneH) : (s.setZone z h).pending = s.pending := rfl
@[simp] theorem setZone_now (s : State) (z : Nat) (h : ZoneH) : (s.setZone z h).now = s.now := rfl
@[simp] theorem setZone_free (s : State) (z : Nat) (h : ZoneH) : (s.setZone z h).free = s.free := rfl
@[simp] theorem setZone_t48 (s : State) (z : Nat) (h : ZoneH) : (s.setZone z h).t48 = s.t48 := rfl
@[simp] theorem setZone_regs (s : State) (z : Nat) (h : ZoneH) : (s.setZone z h).regs = s.regs := rfl
@[simp] theorem setZone_mem (s : State) (z : Nat) (h : ZoneH) : (s.setZone z h).mem = s.mem := rfl
@[simp] theorem setZone_zone (s : State) (z : Nat) (h : ZoneH) : (s.setZone z h).zone z = h :=
  tabGet_tabSet_self _ _ _ _
theorem setZone_zone_ne (s : State) (z : Nat) (h : ZoneH) (m : Nat) (ne : m ≠ z) : (s.setZone z h).zone m = s.zone m :=
  tabGet_tabSet_ne _ _ _ _ _ _ ne
@[simp] theorem setReg_zone (s : State) (r : Reg) (v : Word48) (m : Nat) : (s.setReg r v).zone m = s.zone m := rfl
@[simp] theorem elapse_zone (s : State) (dt m : Nat) : (s.elapse dt).zone m = s.zone m := rfl
@[simp] theorem setZone_reg (s : State) (z : Nat) (h : ZoneH) (r : Reg) : (s.setZone z h).reg r = s.reg r := rfl
@[simp] theorem setZone_fld (s : State) (z : Nat) (h : ZoneH) (r : Reg) (f : Fld) : (s.setZone z h).fld r f = s.fld r f :=
  rfl
@[simp] theorem setZone_byte (s : State) (z : Nat) (h : ZoneH) (b : Nat) : (s.setZone z h).byte b = s.byte b := rfl
@[simp] theorem setMir_pending (s : State) (c : Nat) (h : MirH) : (s.setMir c h).pending = s.pending := rfl
@[simp] theorem setMir_now (s : State) (c : Nat) (h : MirH) : (s.setMir c h).now = s.now := rfl
@[simp] theorem setMir_free (s : State) (c : Nat) (h : MirH) : (s.setMir c h).free = s.free := rfl
@[simp] theorem setMir_t48 (s : State) (c : Nat) (h : MirH) : (s.setMir c h).t48 = s.t48 := rfl
@[simp] theorem setMir_regs (s : State) (c : Nat) (h : MirH) : (s.setMir c h).regs = s.regs := rfl
@[simp] theorem setMir_mem (s : State) (c : Nat) (h : MirH) : (s.setMir c h).mem = s.mem := rfl
@[simp] theorem setMir_mir (s : State) (c : Nat) (h : MirH) : (s.setMir c h).mir c = h := tabGet_tabSet_self _ _ _ _
theorem setMir_mir_ne (s : State) (c : Nat) (h : MirH) (m : Nat) (ne : m ≠ c) : (s.setMir c h).mir m = s.mir m :=
  tabGet_tabSet_ne _ _ _ _ _ _ ne
@[simp] theorem setReg_mir (s : State) (r : Reg) (v : Word48) (m : Nat) : (s.setReg r v).mir m = s.mir m := rfl
@[simp] theorem elapse_mir (s : State) (dt m : Nat) : (s.elapse dt).mir m = s.mir m := rfl
@[simp] theorem setMir_reg (s : State) (c : Nat) (h : MirH) (r : Reg) : (s.setMir c h).reg r = s.reg r := rfl
@[simp] theorem setMir_fld (s : State) (c : Nat) (h : MirH) (r : Reg) (f : Fld) : (s.setMir c h).fld r f = s.fld r f :=
  rfl
@[simp] theorem setMir_byte (s : State) (c : Nat) (h : MirH) (b : Nat) : (s.setMir c h).byte b = s.byte b := rfl
@[simp] theorem setSi_pending (s : State) (i : Nat) (h : SiH) : (s.setSi i h).pending = s.pending := rfl
@[simp] theorem setSi_now (s : State) (i : Nat) (h : SiH) : (s.setSi i h).now = s.now := rfl
@[simp] theorem setSi_free (s : State) (i : Nat) (h : SiH) : (s.setSi i h).free = s.free := rfl
@[simp] theorem setSi_t48 (s : State) (i : Nat) (h : SiH) : (s.setSi i h).t48 = s.t48 := rfl
@[simp] theorem setSi_regs (s : State) (i : Nat) (h : SiH) : (s.setSi i h).regs = s.regs := rfl
@[simp] theorem setSi_mem (s : State) (i : Nat) (h : SiH) : (s.setSi i h).mem = s.mem := rfl
@[simp] theorem setSi_si (s : State) (i : Nat) (h : SiH) : (s.setSi i h).si i = h := tabGet_tabSet_self _ _ _ _
theorem setSi_si_ne (s : State) (i : Nat) (h : SiH) (m : Nat) (ne : m ≠ i) : (s.setSi i h).si m = s.si m :=
  tabGet_tabSet_ne _ _ _ _ _ _ ne
@[simp] theorem setReg_si (s : State) (r : Reg) (v : Word48) (m : Nat) : (s.setReg r v).si m = s.si m := rfl
@[simp] theorem elapse_si (s : State) (dt m : Nat) : (s.elapse dt).si m = s.si m := rfl
@[simp] theorem setSi_reg (s : State) (i : Nat) (h : SiH) (r : Reg) : (s.setSi i h).reg r = s.reg r := rfl
@[simp] theorem setSi_fld (s : State) (i : Nat) (h : SiH) (r : Reg) (f : Fld) : (s.setSi i h).fld r f = s.fld r f := rfl
@[simp] theorem setSi_byte (s : State) (i : Nat) (h : SiH) (b : Nat) : (s.setSi i h).byte b = s.byte b := rfl
@[simp] theorem setSo_pending (s : State) (o : Nat) (h : SoH) : (s.setSo o h).pending = s.pending := rfl
@[simp] theorem setSo_now (s : State) (o : Nat) (h : SoH) : (s.setSo o h).now = s.now := rfl
@[simp] theorem setSo_free (s : State) (o : Nat) (h : SoH) : (s.setSo o h).free = s.free := rfl
@[simp] theorem setSo_t48 (s : State) (o : Nat) (h : SoH) : (s.setSo o h).t48 = s.t48 := rfl
@[simp] theorem setSo_regs (s : State) (o : Nat) (h : SoH) : (s.setSo o h).regs = s.regs := rfl
@[simp] theorem setSo_mem (s : State) (o : Nat) (h : SoH) : (s.setSo o h).mem = s.mem := rfl
@[simp] theorem setSo_so (s : State) (o : Nat) (h : SoH) : (s.setSo o h).so o = h := tabGet_tabSet_self _ _ _ _
theorem setSo_so_ne (s : State) (o : Nat) (h : SoH) (m : Nat) (ne : m ≠ o) : (s.setSo o h).so m = s.so m :=
  tabGet_tabSet_ne _ _ _ _ _ _ ne
@[simp] theorem setReg_so (s : State) (r : Reg) (v : Word48) (m : Nat) : (s.setReg r v).so m = s.so m := rfl
@[simp] theorem elapse_so (s : State) (dt m : Nat) : (s.elapse dt).so m = s.so m := rfl
@[simp] theorem setSo_reg (s : State) (o : Nat) (h : SoH) (r : Reg) : (s.setSo o h).reg r = s.reg r := rfl
@[simp] theorem setSo_fld (s : State) (o : Nat) (h : SoH) (r : Reg) (f : Fld) : (s.setSo o h).fld r f = s.fld r f := rfl
@[simp] theorem setSo_byte (s : State) (o : Nat) (h : SoH) (b : Nat) : (s.setSo o h).byte b = s.byte b := rfl
@[simp] theorem setConn_pending (s : State) (c : Nat) (h : ConnH) : (s.setConn c h).pending = s.pending := rfl
@[simp] theorem setConn_now (s : State) (c : Nat) (h : ConnH) : (s.setConn c h).now = s.now := rfl
@[simp] theorem setConn_free (s : State) (c : Nat) (h : ConnH) : (s.setConn c h).free = s.free := rfl
@[simp] theorem setConn_t48 (s : State) (c : Nat) (h : ConnH) : (s.setConn c h).t48 = s.t48 := rfl
@[simp] theorem setConn_regs (s : State) (c : Nat) (h : ConnH) : (s.setConn c h).regs = s.regs := rfl
@[simp] theorem setConn_mem (s : State) (c : Nat) (h : ConnH) : (s.setConn c h).mem = s.mem := rfl
@[simp] theorem setConn_conn (s : State) (c : Nat) (h : ConnH) : (s.setConn c h).conn c = h :=
  tabGet_tabSet_self _ _ _ _
theorem setConn_conn_ne (s : State) (c : Nat) (h : ConnH) (m : Nat) (ne : m ≠ c) : (s.setConn c h).conn m = s.conn m :=
  tabGet_tabSet_ne _ _ _ _ _ _ ne
@[simp] theorem setReg_conn (s : State) (r : Reg) (v : Word48) (m : Nat) : (s.setReg r v).conn m = s.conn m := rfl
@[simp] theorem elapse_conn (s : State) (dt m : Nat) : (s.elapse dt).conn m = s.conn m := rfl
@[simp] theorem setConn_reg (s : State) (c : Nat) (h : ConnH) (r : Reg) : (s.setConn c h).reg r = s.reg r := rfl
@[simp] theorem setConn_fld (s : State) (c : Nat) (h : ConnH) (r : Reg) (f : Fld) : (s.setConn c h).fld r f = s.fld r f :=
  rfl
@[simp] theorem setConn_byte (s : State) (c : Nat) (h : ConnH) (b : Nat) : (s.setConn c h).byte b = s.byte b := rfl

end Sys2Proof.Machine
end

