-- ==== Sys2Proof/Laws/Memory.lean ====
section
/-! SUPPORT. The operations over memory and registers: what a read answers after a write, and that every memory operation
keeps the canonical form. -/
namespace Sys2Proof.Machine

/-! ### Registers -/

/-- A register reads as it was last written. -/
@[simp] theorem reg_setReg (s : State) (r : Reg) (v : Word48) : (s.setReg r v).reg r = v := tabGet_tabSet_self _ _ _ _

/-- A write leaves every other register slot. -/
theorem reg_setReg_ne (s : State) (r q : Reg) (v : Word48) (ne : q.addr ≠ r.addr) : (s.setReg r v).reg q = s.reg q :=
  tabGet_tabSet_ne _ _ _ _ _ _ ne

/-- A field reads as the register holds it after a write of the register. -/
@[simp] theorem fld_setReg (s : State) (r : Reg) (v : Word48) (f : Fld) : (s.setReg r v).fld r f = wordFld v f := by
  simp [State.fld]

/-- A field write leaves every other register slot. -/
theorem reg_setFld_ne (s : State) (r q : Reg) (f : Fld) (n : Nat) (ne : q.addr ≠ r.addr) : (s.setFld r f n).reg q = s.reg q :=
  reg_setReg_ne s r q _ ne

/-- Registers do not change when time passes. -/
@[simp] theorem reg_elapse (s : State) (dt : Nat) (r : Reg) : (s.elapse dt).reg r = s.reg r := rfl

/-- Fields do not change when time passes. -/
@[simp] theorem fld_elapse (s : State) (dt : Nat) (r : Reg) (f : Fld) : (s.elapse dt).fld r f = s.fld r f := rfl

/-! ### Bytes -/

/-- A byte reads as it was last written. -/
@[simp] theorem byte_setByte (s : State) (a : Nat) (v : Byte) : (s.setByte a v).byte a = v := tabGet_tabSet_self _ _ _ _

/-- A write leaves every other byte. -/
theorem byte_setByte_ne (s : State) (a b : Nat) (v : Byte) (ne : b ≠ a) : (s.setByte a v).byte b = s.byte b :=
  tabGet_tabSet_ne _ _ _ _ _ _ ne

/-- A register write leaves every byte. -/
@[simp] theorem byte_setReg (s : State) (r : Reg) (v : Word48) (a : Nat) : (s.setReg r v).byte a = s.byte a := rfl

/-- A byte write leaves every register. -/
@[simp] theorem reg_setByte (s : State) (a : Nat) (v : Byte) (r : Reg) : (s.setByte a v).reg r = s.reg r := rfl

/-- A write of bytes leaves every byte outside them. -/
theorem byte_setBytes_out (s : State) (a b : Nat) (l : List Byte) (out : b < a ∨ a + l.length ≤ b) :
    (s.setBytes a l).byte b = s.byte b := by
  induction l generalizing s a with
  | nil => rfl
  | cons x t ih =>
    simp only [List.length_cons] at out
    rw [State.setBytes, ih _ _ (by omega), byte_setByte_ne _ _ _ _ (by omega)]

/-- A write of bytes makes them read as written. -/
theorem byte_setBytes_in (s : State) (a i : Nat) (l : List Byte) (h : i < l.length) :
    (s.setBytes a l).byte (a + i) = l.getD i 0#8 := by
  induction l generalizing s a i with
  | nil => simp at h
  | cons x t ih =>
    rw [State.setBytes]
    cases i with
    | zero =>
      rw [byte_setBytes_out _ _ _ _ (Or.inl (by omega))]
      simp
    | succ i =>
      have e : a + (i + 1) = a + 1 + i := by omega
      rw [e, ih _ _ _ (by simpa using h)]
      simp

/-! ### The canonical form is kept by every memory operation -/

/-- Writing a byte. -/
theorem setByte_wf (s : State) (a : Nat) (v : Byte) (h : Memory.wf s.mem = true) : Memory.wf (s.setByte a v).mem = true :=
  Memory.wf_set a v s.mem h

/-- Writing bytes. -/
theorem setBytes_wf (s : State) (a : Nat) (l : List Byte) (h : Memory.wf s.mem = true) :
    Memory.wf (s.setBytes a l).mem = true := by
  induction l generalizing s a with
  | nil => exact h
  | cons x t ih => exact ih _ _ (setByte_wf s a x h)

/-- Storing a number. -/
theorem store_wf (s : State) (a n v : Nat) (h : Memory.wf s.mem = true) : Memory.wf (s.store a n v).mem = true :=
  setBytes_wf s a _ h

/-- Clearing a range. -/
theorem clearMem_wf (s : State) (a n : Nat) (h : Memory.wf s.mem = true) : Memory.wf (s.clearMem a n).mem = true :=
  Memory.wf_filter _ s.mem h

/-- Copying a range. -/
theorem copyMem_wf (s : State) (a b n : Nat) (h : Memory.wf s.mem = true) : Memory.wf (s.copyMem a b n).mem = true :=
  Memory.wf_cellsPut _ _ (Memory.wf_filter _ s.mem h) (cellsMoved_ne s.mem a b n h)

/-- Exchanging two ranges. -/
theorem exchangeMem_wf (s : State) (a b n : Nat) (h : Memory.wf s.mem = true) : Memory.wf (s.exchangeMem a b n).mem = true := by
  refine Memory.wf_cellsPut _ _ (Memory.wf_filter _ _ (Memory.wf_filter _ s.mem h)) ?_
  intro c hc
  rcases List.mem_append.mp hc with hc | hc
  · exact cellsMoved_ne s.mem a b n h c hc
  · exact cellsMoved_ne s.mem b a n h c hc

/-- Reset memory has the canonical form. -/
theorem reset_wf : Memory.wf State.reset.mem = true := rfl

end Sys2Proof.Machine
end

