-- ==== Sys2Proof/Laws/Fields.lean ====
section
/-! SUPPORT. Fields of a word: what a field reads as after a field is put in, and the word that orders something of a
register. -/
namespace Sys2Proof.Machine

/-- A number with a field replaced, part by part: what lies below, the field, what lies above. -/
theorem putBits_eq (x lo w v : Nat) :
    putBits x lo w v = x % 2 ^ lo + 2 ^ lo * (v % 2 ^ w + 2 ^ w * (x / 2 ^ lo / 2 ^ w)) := by
  unfold putBits
  have h1 := Nat.mod_add_div x (2 ^ lo)
  have h2 := Nat.mod_add_div (x / 2 ^ lo) (2 ^ w)
  generalize x / 2 ^ lo / 2 ^ w = b at *
  generalize x / 2 ^ lo % 2 ^ w = m at *
  rw [← h2] at h1
  rw [Nat.mul_add] at h1 ⊢
  rw [Nat.mul_comm m, Nat.mul_comm (v % 2 ^ w) (2 ^ lo)]
  omega

/-- The field just put in. -/
theorem bitsOf_putBits_self (x lo w v : Nat) : bitsOf (putBits x lo w v) lo w = v % 2 ^ w := by
  unfold bitsOf
  rw [putBits_eq, Nat.add_mul_div_left _ _ (Nat.two_pow_pos lo), Nat.div_eq_of_lt (Nat.mod_lt _ (Nat.two_pow_pos lo)),
    Nat.zero_add, Nat.add_mul_mod_self_left, Nat.mod_mod]

/-- A field above the one put in. -/
theorem bitsOf_putBits_above (x lo w v lo' w' : Nat) (h : lo + w ≤ lo') : bitsOf (putBits x lo w v) lo' w' = bitsOf x lo' w' := by
  unfold bitsOf
  obtain ⟨k, rfl⟩ := Nat.exists_eq_add_of_le h
  have e : ∀ y : Nat, y / 2 ^ (lo + w + k) = y / 2 ^ lo / 2 ^ w / 2 ^ k := by
    intro y
    rw [Nat.pow_add, Nat.pow_add, ← Nat.div_div_eq_div_mul, ← Nat.div_div_eq_div_mul]
  rw [e, e, putBits_eq, Nat.add_mul_div_left _ _ (Nat.two_pow_pos lo), Nat.div_eq_of_lt (Nat.mod_lt _ (Nat.two_pow_pos lo)),
    Nat.zero_add, Nat.add_mul_div_left _ _ (Nat.two_pow_pos w), Nat.div_eq_of_lt (Nat.mod_lt _ (Nat.two_pow_pos w)), Nat.zero_add]

/-- A field below the one put in. -/
theorem bitsOf_putBits_below (x lo w v lo' w' : Nat) (h : lo' + w' ≤ lo) : bitsOf (putBits x lo w v) lo' w' = bitsOf x lo' w' := by
  unfold bitsOf
  have e : ∀ y : Nat, y / 2 ^ lo' % 2 ^ w' = y % 2 ^ lo / 2 ^ lo' % 2 ^ w' := by
    intro y
    obtain ⟨k, rfl⟩ := Nat.exists_eq_add_of_le h
    rw [show lo' + w' + k = lo' + (w' + k) by omega, Nat.pow_add, Nat.mod_mul_right_div_self, Nat.pow_add, Nat.mod_mul_right_mod]
  rw [e, e x, putBits_eq, Nat.add_mul_mod_self_left, Nat.mod_mod]

/-- Putting a field into a 48-bit number keeps it within 48 bits. -/
theorem putBits_lt (x lo w v : Nat) (hx : x < 2 ^ 48) (h : lo + w ≤ 48) : putBits x lo w v < 2 ^ 48 := by
  rw [putBits_eq]
  obtain ⟨k, hk⟩ := Nat.exists_eq_add_of_le h
  have hb : x / 2 ^ lo / 2 ^ w < 2 ^ k := by
    rw [Nat.div_div_eq_div_mul, ← Nat.pow_add]
    refine Nat.div_lt_of_lt_mul ?_
    rw [← Nat.pow_add, ← hk]
    exact hx
  have hv : v % 2 ^ w < 2 ^ w := Nat.mod_lt _ (Nat.two_pow_pos w)
  have ha : x % 2 ^ lo < 2 ^ lo := Nat.mod_lt _ (Nat.two_pow_pos lo)
  have h1 : v % 2 ^ w + 2 ^ w * (x / 2 ^ lo / 2 ^ w) < 2 ^ w * 2 ^ k := by
    calc v % 2 ^ w + 2 ^ w * (x / 2 ^ lo / 2 ^ w) < 2 ^ w + 2 ^ w * (x / 2 ^ lo / 2 ^ w) := Nat.add_lt_add_right hv _
      _ = 2 ^ w * (x / 2 ^ lo / 2 ^ w + 1) := by rw [Nat.mul_add, Nat.mul_one, Nat.add_comm]
      _ ≤ 2 ^ w * 2 ^ k := Nat.mul_le_mul_left _ hb
  calc x % 2 ^ lo + 2 ^ lo * (v % 2 ^ w + 2 ^ w * (x / 2 ^ lo / 2 ^ w))
      < 2 ^ lo + 2 ^ lo * (v % 2 ^ w + 2 ^ w * (x / 2 ^ lo / 2 ^ w)) := Nat.add_lt_add_right ha _
    _ = 2 ^ lo * (v % 2 ^ w + 2 ^ w * (x / 2 ^ lo / 2 ^ w) + 1) := by rw [Nat.mul_add _ _ 1, Nat.mul_one, Nat.add_comm]
    _ ≤ 2 ^ lo * (2 ^ w * 2 ^ k) := Nat.mul_le_mul_left _ h1
    _ = 2 ^ 48 := by rw [← Nat.pow_add, ← Nat.pow_add, ← Nat.add_assoc, ← hk]

/-- A word with a field put in, as a number. -/
theorem toNat_wordPut (v : Word48) (f : Fld) (n : Nat) (h : f.lo + f.w ≤ 48) :
    (wordPut v f n).toNat = putBits v.toNat f.lo f.w n := by
  unfold wordPut
  rw [BitVec.toNat_ofNat, Nat.mod_eq_of_lt (putBits_lt _ _ _ _ v.isLt h)]

/-- A field reads as it was put in. -/
theorem wordFld_wordPut_self (v : Word48) (f : Fld) (n : Nat) (h : f.lo + f.w ≤ 48) :
    wordFld (wordPut v f n) f = n % 2 ^ f.w := by
  unfold wordFld
  rw [toNat_wordPut v f n h, bitsOf_putBits_self]

/-- A field reads as before where another that shares no bit with it is put in. -/
theorem wordFld_wordPut_apart (v : Word48) (f g : Fld) (n : Nat) (h : f.apart g = true) :
    wordFld (wordPut v f n) g = wordFld v g := by
  unfold Fld.apart at h
  simp only [Bool.and_eq_true, Bool.or_eq_true, decide_eq_true_eq] at h
  unfold wordFld
  rw [toNat_wordPut v f n h.1]
  rcases h.2 with h | h
  · exact bitsOf_putBits_above _ _ _ _ _ _ h
  · exact bitsOf_putBits_below _ _ _ _ _ _ h

/-- Fields that are not kept when a word that orders something is formed. -/
def FieldRow.cleared (f : FieldRow) : Bool := !(f.acc == .rw || f.acc == .rwl)

/-- The fields a list of rows clears read 0 in the word, as long as the rows share no bit with them. -/
theorem wordFld_clear (l : List FieldRow) (v : Word48) (g : Fld)
    (h : l.all (fun f => f.fld == g && decide (g.lo + g.w ≤ 48) || f.fld.apart g || !f.cleared) = true)
    (hv : wordFld v g = 0 ∨ l.any (fun f => f.cleared && f.fld == g) = true) :
    wordFld (l.foldl (fun v f => if f.acc == .rw || f.acc == .rwl then v else wordPut v f.fld 0) v) g = 0 := by
  induction l generalizing v with
  | nil => simpa using hv
  | cons f l ih =>
    simp only [List.all_cons, Bool.and_eq_true] at h
    simp only [List.foldl_cons]
    refine ih _ h.2 ?_
    by_cases c : f.cleared = true
    · have c' : ¬ (f.acc == .rw || f.acc == .rwl) = true := by simpa [FieldRow.cleared] using c
      rw [if_neg c']
      by_cases e : f.fld = g
      · left
        have h1 := h.1
        subst e
        by_cases hw : f.fld.lo + f.fld.w ≤ 48
        · rw [wordFld_wordPut_self _ _ _ hw]
          simp
        · exfalso
          simp [c, hw, Fld.apart] at h1
      · have ha : f.fld.apart g = true := by
          have h1 := h.1
          have e' : (f.fld == g) = false := by simpa using e
          simpa [e', c] using h1
        rw [wordFld_wordPut_apart _ _ _ _ ha]
        rcases hv with hv | hv
        · exact Or.inl hv
        · right
          have e' : (f.fld == g) = false := by simpa using e
          simpa [e'] using hv
    · have c2 : f.cleared = false := by simpa using c
      have c' : (f.acc == .rw || f.acc == .rwl) = true := by
        unfold FieldRow.cleared at c2
        revert c2
        cases (f.acc == .rw || f.acc == .rwl) <;> simp
      rw [if_pos c']
      rcases hv with hv | hv
      · exact Or.inl hv
      · right
        simpa [c2] using hv

/-- In the word that orders something by a field, that field reads as set. -/
theorem wordWith_self (s : State) (ag : Nat) (r : Reg) (f : Fld) (n : Nat) (h : f.lo + f.w ≤ 48) :
    wordFld (s.wordWith ag r f n) f = n % 2 ^ f.w := wordFld_wordPut_self _ _ _ h

/-- In the word that orders something by a field, every other field that is not kept reads 0. -/
theorem wordWith_other (s : State) (ag : Nat) (r : Reg) (f g : Fld) (n : Nat) (ha : f.apart g = true)
    (h : r.fields.all (fun x => x.fld == g && decide (g.lo + g.w ≤ 48) || x.fld.apart g || !x.cleared) = true)
    (hg : r.fields.any (fun x => x.cleared && x.fld == g) = true) : wordFld (s.wordWith ag r f n) g = 0 := by
  unfold State.wordWith
  rw [wordFld_wordPut_apart _ _ _ _ ha]
  exact wordFld_clear _ _ _ h (Or.inr hg)

end Sys2Proof.Machine
end

