-- ==== Sys2Proof/Laws/Bus.lean ====
section
/-! SUPPORT. What a register access does, said once: an accepted write, a refused write, an accepted read. -/
namespace Sys2Proof.Machine

/-- A register read by its slot: what the read answers. -/
theorem access8_read (s : State) (ag : Nat) (r : Reg) (owed : Nat) (h : r.mapped) :
    s.access8 ag r.addr none owed = s.regRead ag r := by
  obtain ⟨h1, h2, h3⟩ := h
  unfold State.access8
  rw [if_neg (by omega), if_pos h1, h3]

/-- A register written by its slot: the code and the state after. -/
theorem access8_write (s : State) (ag : Nat) (r : Reg) (v : Word48) (owed : Nat) (h : r.mapped) :
    s.access8 ag r.addr (some v.toNat) owed = ((s.regWrite ag r v owed).1, 0, (s.regWrite ag r v owed).2) := by
  obtain ⟨h1, h2, h3⟩ := h
  unfold State.access8
  rw [if_neg (by omega), if_pos h1, h3]
  simp

/-- What an agent that issues accesses gets from the slot of a register: the access, and its answer unless a read of DISPATCH stays
outstanding. -/
theorem slot_eq (s : State) (ag : Nat) (r : Reg) (w : Option Nat) (owed : Nat) (h : s.issues ag = true) (hm : r.mapped) :
    s.slot ag r.addr w owed =
      (let x := s.access8 ag r.addr w owed
       if w.isNone && x.1 = cOK && isDispatch r.addr then x.2.2
       else x.2.2.answer ag r.addr (if w.isSome then writeType ag else tyRead) x.1 x.2.1) := by
  unfold State.slot
  simp [h, hm.2.1]

/-- An accepted write, with the responses a weir's unit owes. -/
theorem slot_accepted (s : State) (ag : Nat) (r : Reg) (v : Word48) (owed : Nat) (h : s.accepts ag r v) :
    s.slot ag r.addr (some v.toNat) owed =
      s.accepted ag r v (fun u => u.writeAct (s.settleReg r) ag r v owed) := by
  obtain ⟨hi, hm, ha, hr⟩ := h
  have e : s.regWrite ag r v owed =
      (cOK, ((((s.settleReg r).plain r v).writeAct (s.settleReg r) ag r v owed).mirrorReg ag r v)) := by
    unfold State.regWrite
    simp [hr, ha, lowestCode]
  rw [slot_eq s ag r _ owed hi hm, access8_write s ag r v owed hm, e]
  simp [State.accepted]

/-- An accepted write. -/
theorem busWrite_accepted (s : State) (ag : Nat) (r : Reg) (v : Word48) (h : s.accepts ag r v) :
    s.busWrite ag r.addr v = s.accepted ag r v (fun u => u.writeAct (s.settleReg r) ag r v 0) :=
  slot_accepted s ag r v 0 h

/-- A write that orders something by one field. -/
theorem order_accepted (s : State) (ag : Nat) (r : Reg) (f : Fld) (n : Nat) (h : s.accepts ag r (s.wordWith ag r f n)) :
    s.order ag r f n = s.accepted ag r (s.wordWith ag r f n)
      (fun u => u.writeAct (s.settleReg r) ag r (s.wordWith ag r f n) 0) :=
  slot_accepted s ag r _ 0 h

/-- A refused write: the register's own count of refusals, and the answer; nothing else. -/
theorem slot_refused (s : State) (ag : Nat) (r : Reg) (v : Word48) (owed c : Nat) (h : s.refuses ag r v c) :
    s.slot ag r.addr (some v.toNat) owed = ((s.settleReg r).writeRefused ag r c).answer ag r.addr (writeType ag) c 0 := by
  obtain ⟨hi, hm, hc, hr⟩ := h
  have e : s.regWrite ag r v owed = (c, (s.settleReg r).writeRefused ag r c) := by
    unfold State.regWrite
    simp [hr, hc]
  rw [slot_eq s ag r _ owed hi hm, access8_write s ag r v owed hm, e]
  simp

/-- The slot of a mapped register is one of DISPATCH where the register is. -/
theorem isDispatch_addr (r : Reg) (hm : r.mapped) : isDispatch r.addr = (r.name == .coreDispatch) := by
  unfold isDispatch
  rw [Nat.div_mul_cancel (Nat.dvd_of_mod_eq_zero hm.2.1), hm.2.2]

/-- An accepted read of a register other than DISPATCH. -/
theorem slot_read (s : State) (ag : Nat) (r : Reg) (owed : Nat) (h : s.readable ag r) (hd : isDispatch r.addr = false) :
    s.slot ag r.addr none owed =
      (((s.settleReg r).readAct ag r).2).readBack ag r (((s.settleReg r).readAct ag r).1) := by
  obtain ⟨hi, hm, hr⟩ := h
  have e : s.regRead ag r = (cOK, slotBits r ((s.settleReg r).readAct ag r).1, (((s.settleReg r).readAct ag r).2).noteEpoch ag r) := by
    unfold State.regRead
    simp [hr, lowestCode, (isDispatch_addr r hm) ▸ hd]
  rw [slot_eq s ag r _ owed hi hm, access8_read s ag r owed hm, e]
  simp [hd, State.readBack]

/-- An accepted action that differs only in its name. -/
theorem accepted_congr (s : State) (ag : Nat) (r : Reg) (v : Word48) (f g : State → State)
    (h : f ((s.settleReg r).plain r v) = g ((s.settleReg r).plain r v)) : s.accepted ag r v f = s.accepted ag r v g := by
  unfold State.accepted
  rw [h]

/-- An event whose condition holds takes its effect. -/
theorem rowIf_next (s : State) (dt : Nat) (c : State → Bool) (f : State → State) (h : c (s.elapse dt) = true) :
    s.rowIf dt c f = .next ((f (s.elapse dt)).inTimeOf (s.elapse dt)) := by
  unfold State.rowIf State.row State.when
  dsimp only
  rw [if_pos h]

/-- An event whose condition does not hold takes none: time passes. -/
theorem rowIf_idle (s : State) (dt : Nat) (c : State → Bool) (f : State → State) (h : c (s.elapse dt) = false) :
    s.rowIf dt c f = .next (s.elapse dt) := by
  unfold State.rowIf State.row State.when
  dsimp only
  rw [if_neg (by simp [h])]
  rfl

/-- In the next tick of the running job an instruction of opcode op ends: the word at pc holds it. -/
theorem sptNow_op {s : State} {op : Nat} {j : SptJob} {w : Nat} (h : s.sptNow op = some (j, w)) : sptOp w = op := by
  unfold State.sptNow at h
  split at h
  · exact absurd h (by simp)
  · simp only at h
    split at h
    · rename_i hc
      simp only [Option.some.injEq, Prod.mk.injEq] at h
      obtain ⟨rfl, rfl⟩ := h
      simp only [Bool.and_eq_true, decide_eq_true_eq] at hc
      exact hc.1.1.1
    · exact absurd h (by simp)

end Sys2Proof.Machine
end

