-- ==== Sys2Proof/Laws/MemShared.lean ====
section
/-! SUPPORT. What every operation of the shared operations, the arbiters and the axis states leaves of the memories:
the operations that store nothing leave them as they were (_mem), the others keep their canonical form (_wf). The proofs rewrite by named lemmas only, the outermost first: simp with
-implicitDefEqProofs, since a proof by unfolding a whole chain of operations is too deep for the kernel; mem_mk reads the
memory of a record update. -/
set_option linter.unusedSimpArgs false
namespace Sys2Proof.Machine

/-! ### Updates, choices and loops -/

theorem mem_ite (c : Prop) [Decidable c] (a b : State) : (if c then a else b).mem = if c then a.mem else b.mem := by split <;> rfl

theorem wf_ite (c : Prop) [Decidable c] (a b : List Host.Cell) : Memory.wf (if c then a else b) = if c then Memory.wf a else Memory.wf b := by split <;> rfl

theorem mem_mk {x0} {x1} {x2} {x3} {x4} {x5} {x6} {x7} {x8} {x9} {x10} {x11} {x12} {x13} {x14} {x15} {x16} {x17} {x18} {x19} {x20} {x21} {x22} {x23} {x24} {x25} {x26} {x27} {x28} {x29} {x30} {x31} {x32} {x33} {x34} {x35} {x36} {x37} {x38} {x39} {x40} {x41} {x42} {x43} {x44} {x45} {x46} {x47} {x48} {x49} {x50} {x51} {x52} {x53} {x54} {x55} {x56} : (State.mk x0 x1 x2 x3 x4 x5 x6 x7 x8 x9 x10 x11 x12 x13 x14 x15 x16 x17 x18 x19 x20 x21 x22 x23 x24 x25 x26 x27 x28 x29 x30 x31 x32 x33 x34 x35 x36 x37 x38 x39 x40 x41 x42 x43 x44 x45 x46 x47 x48 x49 x50 x51 x52 x53 x54 x55 x56).mem = x6 := rfl

theorem each_mem (s : State) (l : List Nat) (f : Nat → State → State) (hf : ∀ a u, (f a u).mem = u.mem) : (State.each s l f).mem = s.mem := by
  unfold State.each
  induction l generalizing s with
  | nil => rfl
  | cons a l ih => rw [List.foldl_cons, ih, hf]

theorem each_wf (s : State) (l : List Nat) (f : Nat → State → State) (hf : ∀ a u, Memory.wf u.mem = true → Memory.wf (f a u).mem = true)
    (h : Memory.wf s.mem = true) : Memory.wf (State.each s l f).mem = true := by
  unfold State.each
  induction l generalizing s with
  | nil => exact h
  | cons a l ih => exact ih _ (hf a s h)


theorem foldl_mem {α : Type} (l : List α) (s : State) (f : State → α → State) (hf : ∀ u a, (f u a).mem = u.mem) :
    (l.foldl f s).mem = s.mem := by
  induction l generalizing s with
  | nil => rfl
  | cons a l ih => rw [List.foldl_cons, ih, hf]

theorem foldl_wf {α : Type} (l : List α) (s : State) (f : State → α → State)
    (hf : ∀ u a, Memory.wf u.mem = true → Memory.wf (f u a).mem = true) (h : Memory.wf s.mem = true) :
    Memory.wf (l.foldl f s).mem = true := by
  induction l generalizing s with
  | nil => exact h
  | cons a l ih => exact ih _ (hf s a h)

/-- What every step of a fold keeps, the fold keeps. -/
theorem foldl_keeps {α β : Type} (P : β → Prop) (l : List α) (f : β → α → β) (hf : ∀ b a, P b → P (f b a)) (b : β) (h : P b) :
    P (l.foldl f b) := by
  induction l generalizing b with
  | nil => exact h
  | cons a l ih => exact ih _ (hf b a h)

theorem doIf_wf (s : State) (b : Bool) (f : State → State) (hf : Memory.wf (f s).mem = true) (h : Memory.wf s.mem = true) :
    Memory.wf (s.doIf b f).mem = true := by
  unfold State.doIf
  split
  · exact hf
  · exact h

/-- An operation with one index that leaves memory, over a list of indices. -/
theorem eachCall_mem (s : State) (l : List Nat) (g : State → Nat → State) (hg : ∀ u a, (g u a).mem = u.mem) :
    (State.each s l (fun a u => g u a)).mem = s.mem := each_mem s l _ (fun a u => hg u a)


/-! ### Ops -/

theorem setRegN_mem (s : State) (r : Reg) (n : Nat) : (State.setRegN s r n).mem = s.mem := by
  simp -implicitDefEqProofs -proj only [State.setRegN, ↓setReg_mem]

theorem setRegI_mem (s : State) (r : Reg) (i : Int) : (State.setRegI s r i).mem = s.mem := by
  simp -implicitDefEqProofs -proj only [State.setRegI, ↓setReg_mem]

theorem setFld_mem (s : State) (r : Reg) (f : Fld) (n : Nat) : (State.setFld s r f n).mem = s.mem := by
  simp -implicitDefEqProofs -proj only [State.setFld, ↓setReg_mem]

theorem setFlag_mem (s : State) (r : Reg) (f : Fld) (b : Bool) : (State.setFlag s r f b).mem = s.mem := by
  simp -implicitDefEqProofs -proj only [State.setFlag, ↓setFld_mem]

theorem addSat_mem (s : State) (r : Reg) (f : Fld) (n : Nat) : (State.addSat s r f n).mem = s.mem := by
  simp -implicitDefEqProofs -proj only [State.addSat, ↓setFld_mem]

theorem incSat_mem (s : State) (r : Reg) (f : Fld) : (State.incSat s r f).mem = s.mem := by
  simp -implicitDefEqProofs -proj only [State.incSat, ↓addSat_mem]

theorem incWrap_mem (s : State) (r : Reg) (f : Fld) : (State.incWrap s r f).mem = s.mem := by
  simp -implicitDefEqProofs -proj only [State.incWrap, ↓setFld_mem]

theorem takeFree_mem (s : State) (w : Nat) : (State.takeFree s w).2.mem = s.mem := by
  simp -implicitDefEqProofs -proj only [State.takeFree]

theorem doIf_mem (s : State) (b : Bool) (f : State → State) (hf : ∀ u, (f u).mem = u.mem) : (State.doIf s b f).mem = s.mem := by
  unfold State.doIf
  split <;> simp -implicitDefEqProofs -proj only [hf]

/-! ### Events -/

theorem sendVector_mem (s : State) (v : Nat) : (State.sendVector s v).mem = s.mem := by
  unfold State.sendVector
  extract_lets l1
  split <;> simp -implicitDefEqProofs -proj only [↓mem_mk]

theorem arbAdd_mem (s : State) (u : Nat) (q : ArbReq) : (State.arbAdd s u q).mem = s.mem := by
  unfold State.arbAdd
  extract_lets l1
  simp -implicitDefEqProofs -proj only [↓setArb_mem]

theorem makeReady_mem (s : State) (t : Nat) : (State.makeReady s t).mem = s.mem := by
  unfold State.makeReady
  extract_lets l1 s2 s3
  have e2 : s2.mem = s.mem := by
    simp -implicitDefEqProofs -proj only [s2, ↓setTask_mem]
  clear_value s2
  have e3 : s3.mem = s.mem := by
    simp -implicitDefEqProofs -proj only [s3, e2, ↓setFld_mem]
  clear_value s3
  simp -implicitDefEqProofs -proj only [e3, ↓arbAdd_mem]

theorem wake_mem (s : State) (t : Nat) (timeout : Bool) : (State.wake s t timeout).mem = s.mem := by
  unfold State.wake
  extract_lets l1 s2
  have e2 : s2.mem = s.mem := by
    simp -implicitDefEqProofs -proj only [s2, ↓setTask_mem]
  clear_value s2
  simp -implicitDefEqProofs -proj only [e2, ↓makeReady_mem]

theorem checkWait_mem (s : State) (t : Nat) : (State.checkWait s t).mem = s.mem := by
  unfold State.checkWait
  extract_lets l1
  split <;> simp -implicitDefEqProofs -proj only [↓wake_mem]

theorem setTaskFlags_mem (s : State) (t : Nat) (bits : Nat) : (State.setTaskFlags s t bits).mem = s.mem := by
  simp -implicitDefEqProofs -proj only [State.setTaskFlags, ↓checkWait_mem, ↓setFld_mem]

theorem raiseRouted_mem (s : State) (e : Nat) : (State.raiseRouted s e).mem = s.mem := by
  unfold State.raiseRouted
  extract_lets l1 l2 s3
  have e3 : s3.mem = s.mem := by
    dsimp only [s3]; split <;> simp -implicitDefEqProofs -proj only [↓incSat_mem]
  clear_value s3
  (repeat' split) <;> simp -implicitDefEqProofs -proj only [e3, ↓incSat_mem, ↓setTaskFlags_mem]

theorem raise_mem (s : State) (e : Nat) : (State.raise s e).mem = s.mem := by
  unfold State.raise
  extract_lets s1 s2
  have e1 : s1.mem = s.mem := by
    simp -implicitDefEqProofs -proj only [s1, ↓raiseRouted_mem]
  clear_value s1
  have e2 : s2.mem = s.mem := by
    dsimp only [s2]; repeat' first | (simp -implicitDefEqProofs -proj only [e1, ↓each_mem, ↓sendVector_mem, implies_true]; done) | with_reducible assumption | split | with_reducible refine (each_mem _ _ _ ?_).trans ?_ | with_reducible refine (foldl_mem _ _ _ ?_).trans ?_ | intro _ | simp -implicitDefEqProofs -proj only [e1, ↓each_mem, ↓sendVector_mem, implies_true]
  clear_value s2
  split <;> simp -implicitDefEqProofs -proj only [e2, ↓sendVector_mem]

theorem raiseIf_mem (s : State) (b : Bool) (e : Nat) : (State.raiseIf s b e).mem = s.mem := by
  unfold State.raiseIf
  split <;> simp -implicitDefEqProofs -proj only [↓raise_mem]

theorem vlogPut_mem (s : State) (next : Nat) (addr : Nat) (ag : Nat) (ty : Nat) (code : Nat) : (State.vlogPut s next addr ag ty code).mem = s.mem := by
  unfold State.vlogPut
  extract_lets s1 l2 s3 s4 s5 s6
  have e1 : s1.mem = s.mem := by
    dsimp only [s1]; split <;> simp -implicitDefEqProofs -proj only [↓incSat_mem]
  clear_value s1
  have e3 : s3.mem = s.mem := by
    simp -implicitDefEqProofs -proj only [s3, e1, ↓setReg_mem, ↓setRegN_mem]
  clear_value s3
  have e4 : s4.mem = s.mem := by
    simp -implicitDefEqProofs -proj only [s4, e3, ↓setFld_mem, ↓incSat_mem]
  clear_value s4
  have e5 : s5.mem = s.mem := by
    simp -implicitDefEqProofs -proj only [s5, e4, ↓mem_mk]
  clear_value s5
  have e6 : s6.mem = s.mem := by
    dsimp only [s6]; split <;> simp -implicitDefEqProofs -proj only [e5, ↓setFld_mem]
  clear_value s6
  simp -implicitDefEqProofs -proj only [e6, ↓raise_mem]

theorem vlogAgain_mem (s : State) (last : Nat) : (State.vlogAgain s last).mem = s.mem := by
  unfold State.vlogAgain
  extract_lets s1
  have e1 : s1.mem = s.mem := by
    simp -implicitDefEqProofs -proj only [s1, ↓incSat_mem]
  clear_value s1
  simp -implicitDefEqProofs -proj only [e1, ↓mem_mk]

theorem logViolation_mem (s : State) (addr : Nat) (ag : Nat) (ty : Nat) (code : Nat) : (State.logViolation s addr ag ty code).mem = s.mem := by
  unfold State.logViolation
  extract_lets l1 l2 l3
  split <;> simp -implicitDefEqProofs -proj only [↓vlogAgain_mem, ↓vlogPut_mem]

theorem answer_mem (s : State) (ag : Nat) (addr : Nat) (ty : Nat) (code : Nat) (data : Nat) : (State.answer s ag addr ty code data).mem = s.mem := by
  unfold State.answer
  extract_lets s1 s2 l3 s4 l5 s6
  have e1 : s1.mem = s.mem := by
    dsimp only [s1]; split <;> simp -implicitDefEqProofs -proj only [↓logViolation_mem]
  clear_value s1
  have e2 : s2.mem = s.mem := by
    dsimp only [s2]; split <;> simp -implicitDefEqProofs -proj only [e1, ↓sendVector_mem]
  clear_value s2
  have e4 : s4.mem = s.mem := by
    dsimp only [s4]; split <;> simp -implicitDefEqProofs -proj only [e2, ↓setCore_mem]
  clear_value s4
  have e6 : s6.mem = s.mem := by
    simp -implicitDefEqProofs -proj only [s6, e4, ↓setAgent_mem]
  clear_value s6
  simp -implicitDefEqProofs -proj only [e6, ↓mem_mk]

theorem noteEpoch_mem (s : State) (ag : Nat) (r : Reg) : (State.noteEpoch s ag r).mem = s.mem := by
  unfold State.noteEpoch
  split <;> simp -implicitDefEqProofs -proj only [↓setRegN_mem]

theorem misaligned_mem (s : State) (ag : Nat) (ty : Nat) : (State.misaligned s ag ty).mem = s.mem := by
  unfold State.misaligned
  extract_lets l1
  simp -implicitDefEqProofs -proj only [↓setCore_mem]

/-! ### Arb -/

theorem addDeficit_mem (s : State) (u : Nat) (r : Nat) (d : Int) : (State.addDeficit s u r d).mem = s.mem := by
  unfold State.addDeficit
  extract_lets l1
  simp -implicitDefEqProofs -proj only [↓setArb_mem]

theorem arbCredit_mem (s : State) (u : Nat) (cands : List ArbReq) : (State.arbCredit s u cands).mem = s.mem := by
  simp -implicitDefEqProofs -proj only [State.arbCredit, ↓each_mem, ↓addDeficit_mem, implies_true]

theorem arbTidy_mem (s : State) (u : Nat) : (State.arbTidy s u).mem = s.mem := by
  unfold State.arbTidy
  extract_lets l1
  simp -implicitDefEqProofs -proj only [↓setArb_mem]

theorem abdMark_mem (s : State) : (State.abdMark s).mem = s.mem := by
  unfold State.abdMark
  extract_lets l1
  simp -implicitDefEqProofs -proj only [↓mem_mk]

theorem abdCritical_mem (s : State) : (State.abdCritical s).mem = s.mem := by
  unfold State.abdCritical
  extract_lets l1
  simp -implicitDefEqProofs -proj only [↓mem_mk]

theorem arbCount_mem (s : State) (u : Nat) (q : ArbReq) (pledged : Bool) : (State.arbCount s u q pledged).mem = s.mem := by
  unfold State.arbCount
  extract_lets l1 s2 s3 s4 l5 s6 s7
  have e2 : s2.mem = s.mem := by
    dsimp only [s2]; split <;> simp -implicitDefEqProofs -proj only [↓incSat_mem]
  clear_value s2
  have e3 : s3.mem = s.mem := by
    dsimp only [s3]; split <;> simp -implicitDefEqProofs -proj only [e2, ↓setFld_mem]
  clear_value s3
  have e4 : s4.mem = s.mem := by
    dsimp only [s4]; split <;> simp -implicitDefEqProofs -proj only [e3, ↓setFld_mem, ↓setFlag_mem]
  clear_value s4
  have e6 : s6.mem = s.mem := by
    simp -implicitDefEqProofs -proj only [s6, e4, ↓setArb_mem]
  clear_value s6
  have e7 : s7.mem = s.mem := by
    dsimp only [s7]; split <;> simp -implicitDefEqProofs -proj only [e6, ↓abdMark_mem]
  clear_value s7
  (repeat' split) <;> simp -implicitDefEqProofs -proj only [e6, e7, ↓raise_mem, ↓incSat_mem]

theorem arbGrant_mem {s : State} {u : Nat} {l : List ArbReq} {q : ArbReq} {t : State} (e : s.arbGrant u l = some (q, t)) :
    t.mem = s.mem := by
  unfold State.arbGrant at e
  extract_lets l1 l2 s3 at e
  have e3 : s3.mem = s.mem := by
    dsimp only [s3]
    split
    · exact arbCredit_mem ..
    · rfl
  clear_value s3
  split at e
  · exact absurd e (by simp)
  · extract_lets l4 s5 s6 s7 l8 at e
    have e5 : s5.mem = s.mem := by
      dsimp only [s5]
      split
      · rw [addDeficit_mem, e3]
      · exact e3
    clear_value s5
    have e6 : s6.mem = s.mem := by
      dsimp only [s6]
      split
      · rw [setFld_mem, e5]
      · exact e5
    clear_value s6
    have e7 : s7.mem = s.mem := (arbCount_mem ..).trans e6
    clear_value s7
    obtain ⟨-, rfl⟩ := Prod.mk.inj (Option.some.inj e)
    rw [arbTidy_mem, setArb_mem, e7]

theorem arbRefuse_mem (s : State) (u : Nat) (q : ArbReq) (code : Nat) : (State.arbRefuse s u q code).mem = s.mem := by
  unfold State.arbRefuse
  extract_lets l1 s2 s3 s4 s5 l6 l7 s8 s9
  have e2 : s2.mem = s.mem := by
    simp -implicitDefEqProofs -proj only [s2, ↓setArb_mem]
  clear_value s2
  have e3 : s3.mem = s.mem := by
    simp -implicitDefEqProofs -proj only [s3, e2, ↓arbTidy_mem]
  clear_value s3
  have e4 : s4.mem = s.mem := by
    dsimp only [s4]; split <;> simp -implicitDefEqProofs -proj only [e3, ↓incSat_mem]
  clear_value s4
  have e5 : s5.mem = s.mem := by
    simp -implicitDefEqProofs -proj only [s5, e4, ↓setFld_mem, ↓incSat_mem]
  clear_value s5
  have e8 : s8.mem = s.mem := by
    simp -implicitDefEqProofs -proj only [s8, e5, ↓setArb_mem]
  clear_value s8
  have e9 : s9.mem = s.mem := by
    dsimp only [s9]; (repeat' split) <;> simp -implicitDefEqProofs -proj only [e5, e8, ↓raise_mem, ↓incSat_mem, ↓setFlag_mem]
  clear_value s9
  split <;> simp -implicitDefEqProofs -proj only [e9, ↓answer_mem]

theorem arbWithdraw_mem (s : State) (u : Nat) (p : ArbReq → Bool) : (State.arbWithdraw s u p).mem = s.mem := by
  unfold State.arbWithdraw
  extract_lets l1
  simp -implicitDefEqProofs -proj only [↓arbTidy_mem, ↓setArb_mem]

/-! ### AxisOps -/

theorem setBank_wf (s : State) (n : Nat) (off : Nat) (lo : Nat) (w : Nat) (v : Nat) (h : Memory.wf s.mem = true) : Memory.wf (State.setBank s n off lo w v).mem = true := by
  simp -implicitDefEqProofs -proj only [State.setBank, h, ↓store_wf]

theorem setAx_mem (s : State) (n : Nat) (st : Nat) : (State.setAx s n st).mem = s.mem := by
  unfold State.setAx
  split <;> simp -implicitDefEqProofs -proj only [↓raiseIf_mem, ↓setFld_mem]

theorem stageResult_mem (s : State) (n : Nat) (r : Nat) : (State.stageResult s n r).mem = s.mem := by
  simp -implicitDefEqProofs -proj only [State.stageResult, ↓raiseIf_mem, ↓setFld_mem]

theorem stageRequest_mem (s : State) (n : Nat) : (State.stageRequest s n).mem = s.mem := by
  unfold State.stageRequest
  extract_lets l1 l2 l3 l4 s5
  have e5 : s5.mem = s.mem := by
    simp -implicitDefEqProofs -proj only [s5, ↓setAxis_mem]
  clear_value s5
  (repeat' split) <;> simp -implicitDefEqProofs -proj only [e5, ↓stageResult_mem, ↓setFlag_mem]

theorem stageDrop_mem (s : State) (n : Nat) (r : Nat) : (State.stageDrop s n r).mem = s.mem := by
  unfold State.stageDrop
  extract_lets l1
  simp -implicitDefEqProofs -proj only [↓stageResult_mem, ↓setFlag_mem, ↓setAxis_mem]

theorem stageCancel_mem (s : State) (n : Nat) : (State.stageCancel s n).mem = s.mem := by
  unfold State.stageCancel
  (repeat' split) <;> simp -implicitDefEqProofs -proj only [↓stageDrop_mem]

theorem loadCascade_mem (s : State) (n : Nat) (b : List Byte) : (State.loadCascade s n b).mem = s.mem := by
  simp -implicitDefEqProofs -proj only [State.loadCascade, ↓setCasH_mem]

theorem mirrorCfg_mem (s : State) (n : Nat) : (State.mirrorCfg s n).mem = s.mem := by
  simp -implicitDefEqProofs -proj only [State.mirrorCfg, ↓setRegN_mem]

theorem exchangeBanks_wf (s : State) (n : Nat) (stateLoad : Bool) (h : Memory.wf s.mem = true) : Memory.wf (State.exchangeBanks s n stateLoad).mem = true := by
  unfold State.exchangeBanks
  extract_lets s1 s2
  have e1 : Memory.wf s1.mem = true := by
    simp -implicitDefEqProofs -proj only [s1, h, ↓exchangeMem_wf]
  clear_value s1
  have e2 : Memory.wf s2.mem = true := by
    dsimp only [s2]; split <;> simp -implicitDefEqProofs -proj only [e1, ↓copyMem_wf]
  clear_value s2
  simp -implicitDefEqProofs -proj only [e2, ↓mirrorCfg_mem, ↓clearMem_wf]

theorem performSwap_wf (s : State) (n : Nat) (h : Memory.wf s.mem = true) : Memory.wf (State.performSwap s n).2.mem = true := by
  unfold State.performSwap
  (repeat' split) <;> simp -implicitDefEqProofs only [h, ↓stageDrop_mem, ↓exchangeBanks_wf, ↓incWrap_mem]

theorem cmdPlace_mem (s : State) (ag : Nat) (n : Nat) (c : Nat) : (State.cmdPlace s ag n c).mem = s.mem := by
  unfold State.cmdPlace
  extract_lets l1
  split <;> simp -implicitDefEqProofs -proj only [↓setFlag_mem, ↓setAxis_mem]

theorem cmdDone_mem (s : State) (n : Nat) (c : Nat) (result : Nat) : (State.cmdDone s n c result).mem = s.mem := by
  unfold State.cmdDone
  extract_lets s1 l2
  have e1 : s1.mem = s.mem := by
    simp -implicitDefEqProofs -proj only [s1, ↓setFld_mem]
  clear_value s1
  simp -implicitDefEqProofs -proj only [e1, ↓setFlag_mem, ↓setAxis_mem]

theorem cmdDrop_mem (s : State) (n : Nat) : (State.cmdDrop s n).mem = s.mem := by
  unfold State.cmdDrop
  extract_lets l1 l2 s3
  have e3 : s3.mem = s.mem := by
    simp -implicitDefEqProofs -proj only [s3, ↓setAxis_mem]
  clear_value s3
  (repeat' split) <;> simp -implicitDefEqProofs -proj only [e3, ↓cmdDone_mem]

theorem cmdDefer_mem (s : State) (ag : Nat) (n : Nat) (c : Nat) (cycle : Nat) (chB : Bool) : (State.cmdDefer s ag n c cycle chB).mem = s.mem := by
  unfold State.cmdDefer
  extract_lets l1
  split <;> simp -implicitDefEqProofs -proj only [↓setFlag_mem, ↓setAxis_mem]

theorem cmdsDue_mem (s : State) (n : Nat) : (State.cmdsDue s n).mem = s.mem := by
  unfold State.cmdsDue
  extract_lets l1 l2 s3
  have e3 : s3.mem = s.mem := by
    simp -implicitDefEqProofs -proj only [s3, ↓setAxis_mem]
  clear_value s3
  repeat' first | (simp -implicitDefEqProofs -proj only [e3, ↓cmdPlace_mem]; done) | with_reducible assumption | split | with_reducible refine (each_mem _ _ _ ?_).trans ?_ | with_reducible refine (foldl_mem _ _ _ ?_).trans ?_ | intro _ | simp -implicitDefEqProofs -proj only [e3, ↓cmdPlace_mem]

theorem showPending_mem (s : State) (n : Nat) : (State.showPending s n).mem = s.mem := by
  unfold State.showPending
  split <;> simp -implicitDefEqProofs -proj only [↓setFlag_mem]

theorem homeFinish_mem (s : State) (n : Nat) (res : Nat) : (State.homeFinish s n res).mem = s.mem := by
  unfold State.homeFinish
  extract_lets s1 s2 s3 s4 s5
  have e1 : s1.mem = s.mem := by
    simp -implicitDefEqProofs -proj only [s1, ↓setHome_mem]
  clear_value s1
  have e2 : s2.mem = s.mem := by
    simp -implicitDefEqProofs -proj only [s2, e1, ↓setFld_mem]
  clear_value s2
  have e3 : s3.mem = s.mem := by
    simp -implicitDefEqProofs -proj only [s3, e2, ↓setFlag_mem]
  clear_value s3
  have e4 : s4.mem = s.mem := by
    simp -implicitDefEqProofs -proj only [s4, e3, ↓doIf_mem, ↓setFlag_mem, implies_true]
  clear_value s4
  have e5 : s5.mem = s.mem := by
    simp -implicitDefEqProofs -proj only [s5, e4, ↓doIf_mem, ↓setFlag_mem, implies_true]
  clear_value s5
  simp -implicitDefEqProofs -proj only [e5, ↓raise_mem]

theorem homeAbort_mem (s : State) (n : Nat) : (State.homeAbort s n).mem = s.mem := by
  unfold State.homeAbort
  split <;> simp -implicitDefEqProofs -proj only [↓homeFinish_mem]

theorem ageUpdate_mem (s : State) (n : Nat) : (State.ageUpdate s n).mem = s.mem := by
  unfold State.ageUpdate
  extract_lets l1 l2 l3 s4 l5 s6 s7 s8 s9
  have e4 : s4.mem = s.mem := by
    simp -implicitDefEqProofs -proj only [s4, ↓setFlag_mem, ↓setFld_mem]
  clear_value s4
  have e6 : s6.mem = s.mem := by
    simp -implicitDefEqProofs -proj only [s6, e4, ↓setAxis_mem]
  clear_value s6
  have e7 : s7.mem = s.mem := by
    dsimp only [s7]; split <;> simp -implicitDefEqProofs -proj only [e6, ↓incSat_mem]
  clear_value s7
  have e8 : s8.mem = s.mem := by
    dsimp only [s8]; split <;> simp -implicitDefEqProofs -proj only [e7, ↓setFld_mem]
  clear_value s8
  have e9 : s9.mem = s.mem := by
    dsimp only [s9]; split <;> simp -implicitDefEqProofs -proj only [e8, ↓setFlag_mem]
  clear_value s9
  simp -implicitDefEqProofs -proj only [e9, ↓raiseIf_mem]

theorem setAgeFault_mem (s : State) (n : Nat) : (State.setAgeFault s n).mem = s.mem := by
  unfold State.setAgeFault
  split <;> simp -implicitDefEqProofs -proj only [↓raiseIf_mem, ↓setFlag_mem]

end Sys2Proof.Machine
end

