-- ==== Sys2Proof/Laws/MemLocal.lean ====
section
/-! SUPPORT. What every operation of the encoders, jets, power groups and clocks leaves of the memories:
the operations that store nothing leave them as they were (_mem), the others keep their canonical form (_wf). -/
set_option linter.unusedSimpArgs false
namespace Sys2Proof.Machine

/-! ### FeedbackOps -/

theorem detect_mem (s : State) (n : Nat) (c : Nat) : (State.detect s n c).mem = s.mem := by
  unfold State.detect
  extract_lets l1
  simp -implicitDefEqProofs -proj only [↓setAxis_mem]

theorem encFail_mem (s : State) (c : Nat) (bit : Nat) : (State.encFail s c bit).mem = s.mem := by
  unfold State.encFail
  extract_lets l1 s2
  have e2 : s2.mem = s.mem := by
    simp -implicitDefEqProofs -proj only [s2, ↓setEnc_mem]
  clear_value s2
  (repeat' split) <;> simp -implicitDefEqProofs -proj only [e2, ↓incSat_mem]

theorem encCount_mem (s : State) (c : Nat) (d : Int) : (State.encCount s c d).mem = s.mem := by
  unfold State.encCount
  extract_lets l1 l2 l3 l4 s5
  have e5 : s5.mem = s.mem := by
    simp -implicitDefEqProofs -proj only [s5, ↓setFld_mem, ↓setEnc_mem]
  clear_value s5
  simp -implicitDefEqProofs -proj only [e5, ↓each_mem, ↓setFb_mem, implies_true]

theorem oasisEdge_mem (s : State) (c : Nat) (d : Int) : (State.oasisEdge s c d).mem = s.mem := by
  unfold State.oasisEdge
  extract_lets l1
  simp -implicitDefEqProofs -proj only [↓mem_mk]

theorem encoderEdge_mem (s : State) (c : Nat) (a : Bool) (b : Bool) : (State.encoderEdge s c a b).mem = s.mem := by
  unfold State.encoderEdge
  extract_lets l1 s2 l3
  have e2 : s2.mem = s.mem := by
    simp -implicitDefEqProofs -proj only [s2, ↓oasisEdge_mem, ↓setEnc_mem]
  clear_value s2
  (repeat' split) <;> simp -implicitDefEqProofs -proj only [e2, ↓encFail_mem, ↓encCount_mem]

theorem hallChange_mem (s : State) (c : Nat) (code : Nat) : (State.hallChange s c code).mem = s.mem := by
  unfold State.hallChange
  extract_lets l1 s2
  have e2 : s2.mem = s.mem := by
    simp -implicitDefEqProofs -proj only [s2, ↓setEnc_mem]
  clear_value s2
  (repeat' split) <;> simp -implicitDefEqProofs -proj only [e2, ↓encFail_mem, ↓encCount_mem]

theorem indexEvent_mem (s : State) (c : Nat) : (State.indexEvent s c).mem = s.mem := by
  unfold State.indexEvent
  extract_lets l1 l2
  (repeat' split) <;> simp -implicitDefEqProofs -proj only [↓setFlag_mem, ↓setEnc_mem, ↓encFail_mem]

theorem serialAdvance_mem (s : State) (c : Nat) (f : SerialField) : (State.serialAdvance s c f).mem = s.mem := by
  unfold State.serialAdvance
  extract_lets l1 l2 l3 l4
  simp -implicitDefEqProofs -proj only [↓setFld_mem, ↓setEnc_mem]

theorem standstillTimeout_mem (s : State) (c : Nat) : (State.standstillTimeout s c).mem = s.mem := by
  unfold State.standstillTimeout
  repeat' first | (simp -implicitDefEqProofs -proj only [↓each_mem, ↓setFb_mem, implies_true]; done) | with_reducible assumption | split | with_reducible refine (each_mem _ _ _ ?_).trans ?_ | with_reducible refine (foldl_mem _ _ _ ?_).trans ?_ | intro _ | simp -implicitDefEqProofs -proj only [↓each_mem, ↓setFb_mem, implies_true]

theorem setFailing_mem (s : State) (n : Nat) (f : Nat) : (State.setFailing s n f).mem = s.mem := by
  unfold State.setFailing
  extract_lets l1
  simp -implicitDefEqProofs -proj only [↓raiseIf_mem, ↓setFld_mem]

theorem fbSample_mem (s : State) (n : Nat) (raw : Word48) (trans : Nat) (evs : Nat) (ok : Bool) (v : Int) (st : Nat) (fromPos : Bool) : (State.fbSample s n raw trans evs ok v st fromPos).2.mem = s.mem := by
  unfold State.fbSample
  extract_lets l1 l2 l3 l4 l5 l6 l7 l8 l9 l10 l11 l12 l13 l14 l15 s16 s17 s18 s19 s20 s21 l22 s23
  have e16 : s16.mem = s.mem := by
    simp -implicitDefEqProofs -proj only [s16, ↓setFb_mem]
  clear_value s16
  have e17 : s17.mem = s.mem := by
    simp -implicitDefEqProofs -proj only [s17, e16, ↓setFailing_mem]
  clear_value s17
  have e18 : s18.mem = s.mem := by
    simp -implicitDefEqProofs -proj only [s18, e17, ↓setFld_mem]
  clear_value s18
  have e19 : s19.mem = s.mem := by
    simp -implicitDefEqProofs -proj only [s19, e18, ↓setFld_mem, ↓setFlag_mem]
  clear_value s19
  have e20 : s20.mem = s.mem := by
    dsimp only [s20]; split <;> simp -implicitDefEqProofs -proj only [e19, ↓incSat_mem]
  clear_value s20
  have e21 : s21.mem = s.mem := by
    dsimp only [s21]; split <;> simp -implicitDefEqProofs -proj only [e20, ↓detect_mem]
  clear_value s21
  have e23 : s23.mem = s.mem := by
    simp -implicitDefEqProofs -proj only [s23, e21, ↓setFb_mem]
  clear_value s23
  split <;> simp -implicitDefEqProofs only [e21, e23, ↓setReg_mem]

theorem sampleAxis_mem (s : State) (c : Nat) (n : Nat) : (State.sampleAxis s c n).mem = s.mem := by
  unfold State.sampleAxis
  extract_lets l1 l2 l3 l4 l5 l6 l7 l8 s9 l10 l11
  have e9 : s9.mem = s.mem := by
    simp -implicitDefEqProofs -proj only [s9, ↓setFb_mem]
  clear_value s9
  split <;> simp -implicitDefEqProofs -proj only [e9, l5, l10, ↓setAxis_mem, ↓fbSample_mem]

theorem sampleChannel_mem (s : State) (c : Nat) : (State.sampleChannel s c).mem = s.mem := by
  unfold State.sampleChannel
  extract_lets s1 l2
  have e1 : s1.mem = s.mem := by
    simp -implicitDefEqProofs -proj only [s1, ↓each_mem, ↓setReg_mem, ↓sampleAxis_mem, implies_true]
  clear_value s1
  simp -implicitDefEqProofs -proj only [e1, ↓setEnc_mem]

theorem sampleInstant_mem (s : State) (c : Nat) : (State.sampleInstant s c).mem = s.mem := by
  unfold State.sampleInstant
  extract_lets l1
  (repeat' split) <;> simp -implicitDefEqProofs -proj only [↓setEnc_mem, ↓sampleChannel_mem]

theorem sampleAll_mem (s : State) : (State.sampleAll s).mem = s.mem := by
  simp -implicitDefEqProofs -proj only [State.sampleAll, ↓each_mem, ↓sampleInstant_mem, implies_true]

theorem serialStart_mem (s : State) (c : Nat) (datLow : Bool) : (State.serialStart s c datLow).mem = s.mem := by
  unfold State.serialStart
  extract_lets l1 s2
  have e2 : s2.mem = s.mem := by
    simp -implicitDefEqProofs -proj only [s2, ↓setEnc_mem]
  clear_value s2
  split <;> simp -implicitDefEqProofs -proj only [e2, ↓encFail_mem]

theorem serialEnd_mem (s : State) (c : Nat) : (State.serialEnd s c).mem = s.mem := by
  unfold State.serialEnd
  extract_lets l1 s2
  have e2 : s2.mem = s.mem := by
    simp -implicitDefEqProofs -proj only [s2, ↓setEnc_mem]
  clear_value s2
  split <;> simp -implicitDefEqProofs -proj only [e2, ↓sampleChannel_mem]

theorem serialComplete_mem (s : State) (c : Nat) (d : Nat) : (State.serialComplete s c d).mem = s.mem := by
  unfold State.serialComplete
  extract_lets l1 s2 s3 l4 l5 s6 s7 s8 s9 s10
  have e2 : s2.mem = s.mem := by
    simp -implicitDefEqProofs -proj only [s2, ↓setEnc_mem]
  clear_value s2
  have e3 : s3.mem = s.mem := by
    simp -implicitDefEqProofs -proj only [s3, e2, ↓setFld_mem]
  clear_value s3
  have e6 : s6.mem = s.mem := by
    simp -implicitDefEqProofs -proj only [s6, e3, ↓setEnc_mem]
  clear_value s6
  have e7 : s7.mem = s.mem := by
    dsimp only [s7]; split <;> simp -implicitDefEqProofs -proj only [e6, ↓encFail_mem]
  clear_value s7
  have e8 : s8.mem = s.mem := by
    dsimp only [s8]; split <;> simp -implicitDefEqProofs -proj only [e7, ↓encFail_mem]
  clear_value s8
  have e9 : s9.mem = s.mem := by
    dsimp only [s9]; split <;> simp -implicitDefEqProofs -proj only [e8, ↓setFlag_mem, ↓incSat_mem]
  clear_value s9
  have e10 : s10.mem = s.mem := by
    dsimp only [s10]; (repeat' split) <;> simp -implicitDefEqProofs -proj only [e3, e9, ↓encFail_mem, ↓serialAdvance_mem]
  clear_value s10
  split <;> simp -implicitDefEqProofs -proj only [e10, ↓serialEnd_mem]

theorem serialTimeout_mem (s : State) (c : Nat) : (State.serialTimeout s c).mem = s.mem := by
  unfold State.serialTimeout
  extract_lets l1 l2
  (repeat' split) <;> simp -implicitDefEqProofs -proj only [↓serialEnd_mem, ↓encFail_mem, ↓setEnc_mem]

theorem serialLate_mem (s : State) (c : Nat) : (State.serialLate s c).mem = s.mem := by
  unfold State.serialLate
  extract_lets l1
  split <;> simp -implicitDefEqProofs -proj only [↓sampleChannel_mem, ↓encFail_mem, ↓setEnc_mem]

theorem chkClr_mem (s : State) (n : Nat) : (State.chkClr s n).mem = s.mem := by
  unfold State.chkClr
  extract_lets l1 s2
  have e2 : s2.mem = s.mem := by
    simp -implicitDefEqProofs -proj only [s2, ↓setFb_mem]
  clear_value s2
  simp -implicitDefEqProofs -proj only [e2, ↓setFld_mem]

theorem latchArm_mem (s : State) (c : Nat) (l : Nat) : (State.latchArm s c l).mem = s.mem := by
  simp -implicitDefEqProofs -proj only [State.latchArm, ↓setFlag_mem, ↓setEnc_mem]

theorem latchDisarm_mem (s : State) (c : Nat) (l : Nat) : (State.latchDisarm s c l).mem = s.mem := by
  simp -implicitDefEqProofs -proj only [State.latchDisarm, ↓setFlag_mem, ↓setEnc_mem]

theorem latchCapture_mem (s : State) (c : Nat) (l : Nat) (src : Nat) (rising : Bool) : (State.latchCapture s c l src rising).mem = s.mem := by
  unfold State.latchCapture
  extract_lets l1 l2 l3 s4 s5 l6 s7 s8
  have e4 : s4.mem = s.mem := by
    dsimp only [s4]; split <;> simp -implicitDefEqProofs -proj only [↓setFlag_mem]
  clear_value s4
  have e5 : s5.mem = s.mem := by
    simp -implicitDefEqProofs -proj only [s5, e4, ↓setReg_mem]
  clear_value s5
  have e7 : s7.mem = s.mem := by
    dsimp only [s7]; split <;> simp -implicitDefEqProofs -proj only [e5, ↓setEnc_mem]
  clear_value s7
  have e8 : s8.mem = s.mem := by
    simp -implicitDefEqProofs -proj only [s8, e7, ↓setFlag_mem]
  clear_value s8
  (repeat' split) <;> simp -implicitDefEqProofs -proj only [e8, ↓latchDisarm_mem]

theorem encErrClr_mem (s : State) (c : Nat) : (State.encErrClr s c).mem = s.mem := by
  simp -implicitDefEqProofs -proj only [State.encErrClr, ↓setReg_mem]

theorem applyRecord_mem (s : State) (n : Nat) (r : List Byte) : (State.applyRecord s n r).mem = s.mem := by
  unfold State.applyRecord
  extract_lets l1 l2 l3 l4 l5 s6 s7 s8 s9 l10 l11 l12 s13
  have e6 : s6.mem = s.mem := by
    simp -implicitDefEqProofs -proj only [s6, ↓setFb_mem]
  clear_value s6
  have e7 : s7.mem = s.mem := by
    dsimp only [s7]; split <;> simp -implicitDefEqProofs -proj only [e6, ↓detect_mem]
  clear_value s7
  have e8 : s8.mem = s.mem := by
    dsimp only [s8]; split <;> simp -implicitDefEqProofs -proj only [e7, ↓detect_mem]
  clear_value s8
  have e9 : s9.mem = s.mem := by
    simp -implicitDefEqProofs -proj only [s9, e8, ↓setFld_mem]
  clear_value s9
  have e13 : s13.mem = s.mem := by
    simp -implicitDefEqProofs -proj only [s13, e9, l11, ↓setAxis_mem, ↓fbSample_mem]
  clear_value s13
  split <;> simp -implicitDefEqProofs -proj only [e13, ↓setReg_mem]

/-! ### JetBlocks -/

theorem setStWord_wf (s : State) (n : Nat) (w : Nat) (v : Nat) (h : Memory.wf s.mem = true) : Memory.wf (State.setStWord s n w v).mem = true := by
  simp -implicitDefEqProofs -proj only [State.setStWord, h, ↓store_wf]

theorem showAge_wf (s : State) (n : Nat) (h : Memory.wf s.mem = true) : Memory.wf (State.showAge s n).mem = true := by
  simp -implicitDefEqProofs -proj only [State.showAge, h, ↓setStWord_wf]

theorem setCsFlags_mem (s : State) (n : Nat) (bits : Nat) : (State.setCsFlags s n bits).mem = s.mem := by
  unfold State.setCsFlags
  extract_lets l1 l2
  simp -implicitDefEqProofs -proj only [↓raiseIf_mem, ↓setReg_mem]

theorem fixCoefs_wf (s : State) (n : Nat) (h : Memory.wf s.mem = true) : Memory.wf (State.fixCoefs s n).mem = true := by
  unfold State.fixCoefs
  extract_lets l1 l2
  repeat' first | (simp -implicitDefEqProofs -proj only [h, ↓setCsFlags_mem, ↓store_wf]; done) | with_reducible assumption | split | with_reducible refine each_wf _ _ _ ?_ ?_ | with_reducible refine foldl_wf _ _ _ ?_ ?_ | with_reducible refine store_wf _ _ _ _ ?_ | intro _ | simp -implicitDefEqProofs -proj only [h, ↓setCsFlags_mem, ↓store_wf]

/-! ### PwmOps -/

theorem setPins_mem (s : State) (n : Nat) (a : Bool) (b : Bool) : (State.setPins s n a b).mem = s.mem := by
  unfold State.setPins
  extract_lets l1 l2 l3 l4 l5 l6 l7 s8 l9
  have e8 : s8.mem = s.mem := by
    simp -implicitDefEqProofs -proj only [s8, ↓setTc_mem]
  clear_value s8
  split <;> simp -implicitDefEqProofs -proj only [e8, ↓setSg_mem]

theorem channelOff_mem (s : State) (n : Nat) : (State.channelOff s n).mem = s.mem := by
  unfold State.channelOff
  extract_lets l1 l2 l3 s4 l5
  have e4 : s4.mem = s.mem := by
    dsimp only [s4]; split <;> simp -implicitDefEqProofs -proj only [↓setSg_mem]
  clear_value s4
  split <;> simp -implicitDefEqProofs -proj only [e4, ↓setTc_mem, ↓setPins_mem]

theorem pinsLow_mem (s : State) (g : Nat) : (State.pinsLow s g).mem = s.mem := by
  simp -implicitDefEqProofs -proj only [State.pinsLow, ↓each_mem, ↓channelOff_mem, implies_true]

theorem allPinsLow_mem (s : State) : (State.allPinsLow s).mem = s.mem := by
  simp -implicitDefEqProofs -proj only [State.allPinsLow, ↓each_mem, ↓setPins_mem, implies_true]

theorem guardHs_mem (s : State) (n : Nat) (cA : Bool) (cB : Bool) : (State.guardHs s n cA cB).mem = s.mem := by
  unfold State.guardHs
  extract_lets l1 l2 s3 s4 l5 s6 l7 s8 l9 s10 l11 l12 l13 s14
  have e3 : s3.mem = s.mem := by
    dsimp only [s3]; split <;> simp -implicitDefEqProofs -proj only [↓incSat_mem, ↓setFlag_mem]
  clear_value s3
  have e4 : s4.mem = s.mem := by
    simp -implicitDefEqProofs -proj only [s4, e3, ↓setTc_mem]
  clear_value s4
  have e6 : s6.mem = s.mem := by
    simp -implicitDefEqProofs -proj only [s6, e4, ↓setSg_mem]
  clear_value s6
  have e8 : s8.mem = s.mem := by
    dsimp only [s8]; split <;> simp -implicitDefEqProofs -proj only [↓setSg_mem]
  clear_value s8
  have e10 : s10.mem = s.mem := by
    simp -implicitDefEqProofs -proj only [s10, e8, ↓setTc_mem]
  clear_value s10
  have e14 : s14.mem = s.mem := by
    dsimp only [s14]; split <;> simp -implicitDefEqProofs -proj only [e10, ↓setFlag_mem]
  clear_value s14
  (repeat' split) <;> simp -implicitDefEqProofs -proj only [e6, e10, e14, ↓setPins_mem]

theorem compareEdge_mem (s : State) (n : Nat) : (State.compareEdge s n).mem = s.mem := by
  unfold State.compareEdge
  extract_lets l1 l2 l3 l4 s5 l6 l7 l8 l9
  have e5 : s5.mem = s.mem := by
    dsimp only [s5]; split <;> simp -implicitDefEqProofs -proj only [↓setTc_mem]
  clear_value s5
  (repeat' split) <;> simp -implicitDefEqProofs -proj only [e5, ↓setTc_mem, ↓setPins_mem, ↓guardHs_mem, ↓channelOff_mem]

theorem groupPins_mem (s : State) (g : Nat) : (State.groupPins s g).mem = s.mem := by
  simp -implicitDefEqProofs -proj only [State.groupPins, ↓each_mem, ↓compareEdge_mem, implies_true]

theorem shadowWritten_mem (s : State) (n : Nat) (which : Nat) : (State.shadowWritten s n which).mem = s.mem := by
  unfold State.shadowWritten
  extract_lets l1
  simp -implicitDefEqProofs -proj only [↓setTc_mem]

theorem tcCommit_mem (s : State) (n : Nat) : (State.tcCommit s n).mem = s.mem := by
  unfold State.tcCommit
  extract_lets l1
  split <;> simp -implicitDefEqProofs -proj only [↓setTc_mem]

theorem sgCommit_mem (s : State) (g : Nat) : (State.sgCommit s g).mem = s.mem := by
  simp -implicitDefEqProofs -proj only [State.sgCommit, ↓each_mem, ↓tcCommit_mem, implies_true]

theorem transfer_mem (s : State) (n : Nat) (per : Bool) (cmp : Bool) (cmp2 : Bool) : (State.transfer s n per cmp cmp2).mem = s.mem := by
  unfold State.transfer
  extract_lets l1 l2 l3 l4 s5 s6 l7 s8
  have e5 : s5.mem = s.mem := by
    simp -implicitDefEqProofs -proj only [s5, ↓setTc_mem]
  clear_value s5
  have e6 : s6.mem = s.mem := by
    dsimp only [s6]; split <;> simp -implicitDefEqProofs -proj only [e5, ↓setFlag_mem]
  clear_value s6
  have e8 : s8.mem = s.mem := by
    dsimp only [s8]; split <;> simp -implicitDefEqProofs -proj only [e6, ↓setFlag_mem]
  clear_value s8
  simp -implicitDefEqProofs -proj only [e8, ↓setFld_mem]

theorem boundaryTransfer_mem (s : State) (n : Nat) : (State.boundaryTransfer s n).mem = s.mem := by
  unfold State.boundaryTransfer
  extract_lets l1 s2
  have e2 : s2.mem = s.mem := by
    dsimp only [s2]; split <;> simp -implicitDefEqProofs -proj only [↓setFlag_mem]
  clear_value s2
  (repeat' split) <;> simp -implicitDefEqProofs -proj only [e2, ↓transfer_mem, ↓setTc_mem]

theorem bootCount_mem (s : State) (n : Nat) : (State.bootCount s n).mem = s.mem := by
  unfold State.bootCount
  extract_lets l1 l2 l3 l4 l5
  (repeat' split) <;> simp -implicitDefEqProofs -proj only [↓setTc_mem, ↓incWrap_mem]

theorem periodStart_mem (s : State) (n : Nat) : (State.periodStart s n).mem = s.mem := by
  unfold State.periodStart
  extract_lets s1 l2 s3
  have e1 : s1.mem = s.mem := by
    simp -implicitDefEqProofs -proj only [s1, ↓bootCount_mem]
  clear_value s1
  have e3 : s3.mem = s.mem := by
    simp -implicitDefEqProofs -proj only [s3, e1, ↓setTc_mem]
  clear_value s3
  simp -implicitDefEqProofs -proj only [e3, ↓compareEdge_mem, ↓boundaryTransfer_mem]

theorem sdRestart_mem (s : State) (m : Nat) : (State.sdRestart s m).mem = s.mem := by
  unfold State.sdRestart
  repeat' first | (simp -implicitDefEqProofs -proj only [↓each_mem, ↓setSd_mem, implies_true]; done) | with_reducible assumption | split | with_reducible refine (each_mem _ _ _ ?_).trans ?_ | with_reducible refine (foldl_mem _ _ _ ?_).trans ?_ | intro _ | simp -implicitDefEqProofs -proj only [↓each_mem, ↓setSd_mem, implies_true]

theorem setSgState_mem (s : State) (g : Nat) (st : Nat) : (State.setSgState s g st).mem = s.mem := by
  unfold State.setSgState
  extract_lets l1
  simp -implicitDefEqProofs -proj only [↓setSg_mem, ↓setFld_mem]

theorem unprecharge_mem (s : State) (g : Nat) : (State.unprecharge s g).mem = s.mem := by
  simp -implicitDefEqProofs -proj only [State.unprecharge, ↓setFlag_mem]

theorem sgEnterRun_mem (s : State) (g : Nat) : (State.sgEnterRun s g).mem = s.mem := by
  unfold State.sgEnterRun
  extract_lets s1 l2 s3 s4
  have e1 : s1.mem = s.mem := by
    simp -implicitDefEqProofs -proj only [s1, ↓setFlag_mem, ↓setSgState_mem]
  clear_value s1
  have e3 : s3.mem = s.mem := by
    simp -implicitDefEqProofs -proj only [s3, e1, ↓setSg_mem]
  clear_value s3
  have e4 : s4.mem = s.mem := by
    simp -implicitDefEqProofs -proj only [s4, e3, ↓each_mem, ↓boundaryTransfer_mem, ↓setTc_mem, implies_true]
  clear_value s4
  simp -implicitDefEqProofs -proj only [e4, ↓groupPins_mem]

theorem sgEnterPrecharge_mem (s : State) (g : Nat) : (State.sgEnterPrecharge s g).mem = s.mem := by
  unfold State.sgEnterPrecharge
  split <;> simp -implicitDefEqProofs -proj only [↓sgEnterRun_mem, ↓groupPins_mem, ↓setSgState_mem]

theorem sgEnable_mem (s : State) (g : Nat) : (State.sgEnable s g).mem = s.mem := by
  unfold State.sgEnable
  extract_lets s1 l2
  have e1 : s1.mem = s.mem := by
    simp -implicitDefEqProofs -proj only [s1, ↓setFlag_mem]
  clear_value s1
  (repeat' split) <;> simp -implicitDefEqProofs -proj only [e1, ↓setSgState_mem, ↓sgEnterPrecharge_mem, ↓setFlag_mem, ↓setFld_mem]

theorem sgDisable_mem (s : State) (g : Nat) : (State.sgDisable s g).mem = s.mem := by
  unfold State.sgDisable
  extract_lets s1 l2
  have e1 : s1.mem = s.mem := by
    simp -implicitDefEqProofs -proj only [s1, ↓setFlag_mem]
  clear_value s1
  (repeat' split) <;> simp -implicitDefEqProofs -proj only [e1, ↓pinsLow_mem, ↓unprecharge_mem, ↓setSgState_mem, ↓setFlag_mem, ↓setFld_mem]

theorem sgShutdownEnd_mem (s : State) (g : Nat) : (State.sgShutdownEnd s g).mem = s.mem := by
  unfold State.sgShutdownEnd
  extract_lets s1
  have e1 : s1.mem = s.mem := by
    simp -implicitDefEqProofs -proj only [s1, ↓each_mem, ↓setTc_mem, ↓setFlag_mem, implies_true]
  clear_value s1
  split <;> simp -implicitDefEqProofs -proj only [e1, ↓sgEnterPrecharge_mem, ↓setFlag_mem, ↓setSgState_mem]

theorem sgPrecharge_mem (s : State) (g : Nat) : (State.sgPrecharge s g).mem = s.mem := by
  unfold State.sgPrecharge
  split <;> simp -implicitDefEqProofs -proj only [↓sgEnterPrecharge_mem, ↓unprecharge_mem]

theorem preOnEnd_mem (s : State) (g : Nat) : (State.preOnEnd s g).mem = s.mem := by
  unfold State.preOnEnd
  extract_lets l1
  simp -implicitDefEqProofs -proj only [↓pinsLow_mem, ↓setSg_mem]

theorem showMulti_mem (s : State) (g : Nat) : (State.showMulti s g).mem = s.mem := by
  unfold State.showMulti
  extract_lets l1
  simp -implicitDefEqProofs -proj only [↓setFlag_mem]

theorem snapshot_mem (s : State) (g : Nat) : (State.snapshot s g).mem = s.mem := by
  unfold State.snapshot
  (repeat' split) <;> simp -implicitDefEqProofs -proj only [↓showMulti_mem, ↓setFld_mem]

theorem trip_mem (s : State) (g : Nat) (src : Nat) : (State.trip s g src).mem = s.mem := by
  unfold State.trip
  extract_lets s1 s2 l3 s4 s5 s6 s7 l8 s9 s10 s11 s12
  have e1 : s1.mem = s.mem := by
    dsimp only [s1]; split <;> simp -implicitDefEqProofs -proj only [↓setFld_mem]
  clear_value s1
  have e2 : s2.mem = s.mem := by
    dsimp only [s2]; split <;> simp -implicitDefEqProofs -proj only [↓setFlag_mem]
  clear_value s2
  have e4 : s4.mem = s.mem := by
    simp -implicitDefEqProofs -proj only [s4, e2, ↓pinsLow_mem]
  clear_value s4
  have e5 : s5.mem = s.mem := by
    simp -implicitDefEqProofs -proj only [s5, e4, ↓unprecharge_mem, ↓setFlag_mem]
  clear_value s5
  have e6 : s6.mem = s.mem := by
    simp -implicitDefEqProofs -proj only [s6, e5, ↓setFlag_mem, ↓setSgState_mem]
  clear_value s6
  have e7 : s7.mem = s.mem := by
    simp -implicitDefEqProofs -proj only [s7, e6, ↓incSat_mem]
  clear_value s7
  have e9 : s9.mem = s.mem := by
    simp -implicitDefEqProofs -proj only [s9, e7, ↓setSg_mem]
  clear_value s9
  have e10 : s10.mem = s.mem := by
    simp -implicitDefEqProofs -proj only [s10, e9, ↓setReg_mem, ↓setRegN_mem]
  clear_value s10
  have e11 : s11.mem = s.mem := by
    simp -implicitDefEqProofs -proj only [s11, e10, ↓showMulti_mem]
  clear_value s11
  have e12 : s12.mem = s.mem := by
    dsimp only [s12]; split <;> simp -implicitDefEqProofs -proj only [e11, ↓detect_mem]
  clear_value s12
  split <;> simp -implicitDefEqProofs -proj only [e1, e12, ↓snapshot_mem, ↓raiseIf_mem]

theorem snapClose_mem (s : State) (g : Nat) : (State.snapClose s g).mem = s.mem := by
  unfold State.snapClose
  extract_lets l1
  simp -implicitDefEqProofs -proj only [↓setSg_mem, ↓showMulti_mem]

theorem hardChange_mem (s : State) (h : Nat) (on : Bool) : (State.hardChange s h on).mem = s.mem := by
  unfold State.hardChange
  extract_lets l1 s2 l3 s4 s5
  have e2 : s2.mem = s.mem := by
    simp -implicitDefEqProofs -proj only [s2, ↓setFlag_mem]
  clear_value s2
  have e4 : s4.mem = s.mem := by
    dsimp only [s4]; split <;> simp -implicitDefEqProofs -proj only [e2, ↓setCmp_mem]
  clear_value s4
  have e5 : s5.mem = s.mem := by
    dsimp only [s5]; split <;> simp -implicitDefEqProofs -proj only [e4, ↓snapshot_mem]
  clear_value s5
  split <;> simp -implicitDefEqProofs -proj only [e5, ↓trip_mem]

theorem fastChange_mem (s : State) (h : Nat) (on : Bool) : (State.fastChange s h on).mem = s.mem := by
  unfold State.fastChange
  extract_lets l1 s2 l3 s4
  have e2 : s2.mem = s.mem := by
    simp -implicitDefEqProofs -proj only [s2, ↓setFlag_mem]
  clear_value s2
  have e4 : s4.mem = s.mem := by
    dsimp only [s4]; split <;> simp -implicitDefEqProofs -proj only [e2, ↓setCmp_mem]
  clear_value s4
  split <;> simp -implicitDefEqProofs -proj only [e4, ↓snapshot_mem]

theorem fastTrip_mem (s : State) (h : Nat) : (State.fastTrip s h).mem = s.mem := by
  simp -implicitDefEqProofs -proj only [State.fastTrip, ↓trip_mem]

theorem tripClr_mem (s : State) (g : Nat) : (State.tripClr s g).mem = s.mem := by
  unfold State.tripClr
  extract_lets s1
  have e1 : s1.mem = s.mem := by
    simp -implicitDefEqProofs -proj only [s1, ↓setFlag_mem]
  clear_value s1
  (repeat' split) <;> simp -implicitDefEqProofs -proj only [e1, ↓sgEnterPrecharge_mem, ↓setSgState_mem]

theorem stStart_mem (s : State) (h : Nat) : (State.stStart s h).mem = s.mem := by
  unfold State.stStart
  extract_lets l1
  simp -implicitDefEqProofs -proj only [↓setFlag_mem, ↓setCmp_mem]

theorem stJudged_mem (s : State) (g : Nat) (h : Nat) (pass : Bool) : (State.stJudged s g h pass).mem = s.mem := by
  unfold State.stJudged
  extract_lets l1 l2
  (repeat' split) <;> simp -implicitDefEqProofs -proj only [↓setSg_mem, ↓trip_mem]

theorem stEnd_mem (s : State) (h : Nat) (pass : Bool) : (State.stEnd s h pass).mem = s.mem := by
  unfold State.stEnd
  extract_lets l1 l2 s3 s4
  have e3 : s3.mem = s.mem := by
    simp -implicitDefEqProofs -proj only [s3, ↓setCmp_mem]
  clear_value s3
  have e4 : s4.mem = s.mem := by
    simp -implicitDefEqProofs -proj only [s4, e3, ↓incWrap_mem, ↓setFlag_mem]
  clear_value s4
  split <;> simp -implicitDefEqProofs -proj only [e4, ↓stJudged_mem]

theorem clRelease_mem (s : State) (g : Nat) (n : Nat) : (State.clRelease s g n).mem = s.mem := by
  unfold State.clRelease
  extract_lets l1 s2 l3 l4 l5 l6
  have e2 : s2.mem = s.mem := by
    simp -implicitDefEqProofs -proj only [s2, ↓setSg_mem]
  clear_value s2
  (repeat' split) <;> simp -implicitDefEqProofs -proj only [e2, ↓setJob_mem, ↓arbAdd_mem]

theorem sinc3_mem (s : State) (i : Nat) (sum : Int) : (State.sinc3 s i sum).mem = s.mem := by
  unfold State.sinc3
  extract_lets l1 s2
  have e2 : s2.mem = s.mem := by
    simp -implicitDefEqProofs -proj only [s2, ↓setFld_mem]
  clear_value s2
  repeat' first | (simp -implicitDefEqProofs -proj only [e2, ↓each_mem, ↓setSg_mem, ↓clRelease_mem, implies_true]; done) | with_reducible assumption | split | with_reducible refine (each_mem _ _ _ ?_).trans ?_ | with_reducible refine (foldl_mem _ _ _ ?_).trans ?_ | intro _ | simp -implicitDefEqProofs -proj only [e2, ↓each_mem, ↓setSg_mem, ↓clRelease_mem, implies_true]

theorem sinc2_mem (s : State) (i : Nat) (sum : Int) : (State.sinc2 s i sum).mem = s.mem := by
  unfold State.sinc2
  extract_lets s1 l2 l3 l4 l5 l6 l7 s8 s9 s10
  have e1 : s1.mem = s.mem := by
    simp -implicitDefEqProofs -proj only [s1, ↓setFld_mem]
  clear_value s1
  have e8 : s8.mem = s.mem := by
    simp -implicitDefEqProofs -proj only [s8, e1, ↓setSd_mem]
  clear_value s8
  have e9 : s9.mem = s.mem := by
    simp -implicitDefEqProofs -proj only [s9, e8, ↓setFlag_mem]
  clear_value s9
  have e10 : s10.mem = s.mem := by
    simp -implicitDefEqProofs -proj only [s10, e9, ↓snapshot_mem]
  clear_value s10
  (repeat' split) <;> simp -implicitDefEqProofs -proj only [e9, e10, ↓trip_mem]

theorem sdStuck_mem (s : State) (i : Nat) : (State.sdStuck s i).mem = s.mem := by
  unfold State.sdStuck
  extract_lets s1
  have e1 : s1.mem = s.mem := by
    simp -implicitDefEqProofs -proj only [s1, ↓setFlag_mem]
  clear_value s1
  simp -implicitDefEqProofs -proj only [e1, ↓raiseIf_mem]

theorem tcCntClr_mem (s : State) (n : Nat) : (State.tcCntClr s n).mem = s.mem := by
  simp -implicitDefEqProofs -proj only [State.tcCntClr, ↓setFld_mem]

theorem writeDuties_mem (s : State) (g : Nat) (d : List Int) : (State.writeDuties s g d).mem = s.mem := by
  unfold State.writeDuties
  extract_lets s1
  have e1 : s1.mem = s.mem := by
    dsimp only [s1]; repeat' first | (simp -implicitDefEqProofs -proj only [↓shadowWritten_mem, ↓setFld_mem]; done) | with_reducible assumption | split | with_reducible refine (each_mem _ _ _ ?_).trans ?_ | with_reducible refine (foldl_mem _ _ _ ?_).trans ?_ | intro _ | simp -implicitDefEqProofs -proj only [↓shadowWritten_mem, ↓setFld_mem]
  clear_value s1
  simp -implicitDefEqProofs -proj only [e1, ↓sgCommit_mem]

/-! ### JetOps -/

theorem setJetRole_mem (s : State) (j : Nat) (r : Nat) : (State.setJetRole s j r).mem = s.mem := by
  simp -implicitDefEqProofs -proj only [State.setJetRole, ↓setFld_mem]

theorem setPosJet_mem (s : State) (p : Nat) (j : Nat) : (State.setPosJet s p j).mem = s.mem := by
  unfold State.setPosJet
  split <;> simp -implicitDefEqProofs -proj only [↓setRegN_mem]

theorem showStandby_mem (s : State) : (State.showStandby s).mem = s.mem := by
  simp -implicitDefEqProofs -proj only [State.showStandby, ↓setFld_mem]

theorem showJ_mem (s : State) (j : Nat) : (State.showJ s j).mem = s.mem := by
  unfold State.showJ
  extract_lets s1
  have e1 : s1.mem = s.mem := by
    simp -implicitDefEqProofs -proj only [s1, ↓setFld_mem]
  clear_value s1
  simp -implicitDefEqProofs -proj only [e1, ↓setFld_mem]

theorem jetEnter_mem (s : State) (j : Nat) (p : Nat) : (State.jetEnter s j p).mem = s.mem := by
  unfold State.jetEnter
  extract_lets s1 s2 l3
  have e1 : s1.mem = s.mem := by
    simp -implicitDefEqProofs -proj only [s1, ↓setJetRole_mem, ↓setPosJet_mem]
  clear_value s1
  have e2 : s2.mem = s.mem := by
    simp -implicitDefEqProofs -proj only [s2, e1, ↓setFld_mem]
  clear_value s2
  simp -implicitDefEqProofs -proj only [e2, ↓setJet_mem]

theorem jetStandby_mem (s : State) (j : Nat) : (State.jetStandby s j).mem = s.mem := by
  unfold State.jetStandby
  extract_lets s1 l2
  have e1 : s1.mem = s.mem := by
    simp -implicitDefEqProofs -proj only [s1, ↓setFld_mem, ↓setJetRole_mem]
  clear_value s1
  simp -implicitDefEqProofs -proj only [e1, ↓showStandby_mem, ↓setJet_mem]

theorem swapDrop_mem (s : State) : (State.swapDrop s).mem = s.mem := by
  unfold State.swapDrop
  extract_lets l1
  split <;> simp -implicitDefEqProofs -proj only [↓setFlag_mem, ↓mem_mk]

theorem jetLeave_mem (s : State) (j : Nat) : (State.jetLeave s j).mem = s.mem := by
  unfold State.jetLeave
  extract_lets l1
  split <;> simp -implicitDefEqProofs -proj only [↓setFld_mem, ↓setPosJet_mem]

theorem jetMark_mem (s : State) (j : Nat) : (State.jetMark s j).mem = s.mem := by
  simp -implicitDefEqProofs -proj only [State.jetMark, ↓doIf_mem, ↓abdCritical_mem, implies_true]

theorem jetRetire_mem (s : State) (j : Nat) : (State.jetRetire s j).mem = s.mem := by
  unfold State.jetRetire
  extract_lets s1 s2 s3 l4 s5 s6
  have e1 : s1.mem = s.mem := by
    simp -implicitDefEqProofs -proj only [s1, ↓setJetRole_mem, ↓jetLeave_mem, ↓jetMark_mem]
  clear_value s1
  have e2 : s2.mem = s.mem := by
    simp -implicitDefEqProofs -proj only [s2, e1, ↓setRegN_mem]
  clear_value s2
  have e3 : s3.mem = s.mem := by
    simp -implicitDefEqProofs -proj only [s3, e2, ↓setFld_mem]
  clear_value s3
  have e5 : s5.mem = s.mem := by
    simp -implicitDefEqProofs -proj only [s5, e3, ↓setJet_mem]
  clear_value s5
  have e6 : s6.mem = s.mem := by
    simp -implicitDefEqProofs -proj only [s6, e5, ↓setWeirH_mem, ↓setFld_mem]
  clear_value s6
  simp -implicitDefEqProofs -proj only [e6, ↓raiseIf_mem, ↓showStandby_mem]

theorem placeJets_mem (s : State) : (State.placeJets s).mem = s.mem := by
  unfold State.placeJets
  extract_lets l1 s2 s3 s4 l5 s6
  have e2 : s2.mem = s.mem := by
    dsimp only [s2]; repeat' first | (simp -implicitDefEqProofs -proj only [↓jetEnter_mem]; done) | with_reducible assumption | split | with_reducible refine (each_mem _ _ _ ?_).trans ?_ | with_reducible refine (foldl_mem _ _ _ ?_).trans ?_ | intro _ | simp -implicitDefEqProofs -proj only [↓jetEnter_mem]
  clear_value s2
  have e3 : s3.mem = s.mem := by
    dsimp only [s3]; split <;> simp -implicitDefEqProofs -proj only [e2, ↓jetStandby_mem]
  clear_value s3
  have e4 : s4.mem = s.mem := by
    simp -implicitDefEqProofs -proj only [s4, e3, ↓setJet_mem]
  clear_value s4
  have e6 : s6.mem = s.mem := by
    simp -implicitDefEqProofs -proj only [s6, e4, ↓mem_mk]
  clear_value s6
  simp -implicitDefEqProofs -proj only [e6, ↓showStandby_mem, ↓showJ_mem]

theorem setTk_mem (s : State) (n : Nat) (st : Nat) : (State.setTk s n st).mem = s.mem := by
  unfold State.setTk
  extract_lets l1
  simp -implicitDefEqProofs -proj only [↓setJob_mem]

theorem nodeCheck_mem (s : State) (k : Nat) : (State.nodeCheck s k).mem = s.mem := by
  unfold State.nodeCheck
  extract_lets l1
  split <;> simp -implicitDefEqProofs -proj only [↓setNode_mem]

theorem axisReady_mem (s : State) (n : Nat) : (State.axisReady s n).mem = s.mem := by
  unfold State.axisReady
  split <;> simp -implicitDefEqProofs -proj only [↓nodeCheck_mem]

theorem repeatTask_mem (s : State) (n : Nat) : (State.repeatTask s n).mem = s.mem := by
  unfold State.repeatTask
  extract_lets l1
  simp -implicitDefEqProofs -proj only [↓axisReady_mem, ↓setJob_mem]

theorem showSig_mem (s : State) (n : Nat) : (State.showSig s n).mem = s.mem := by
  simp -implicitDefEqProofs -proj only [State.showSig, ↓each_mem, ↓setFld_mem, implies_true]

theorem stateLoaded_wf (s : State) (n : Nat) (h : Memory.wf s.mem = true) : Memory.wf (State.stateLoaded s n).mem = true := by
  unfold State.stateLoaded
  extract_lets s1 l2 s3
  have e1 : Memory.wf s1.mem = true := by
    dsimp only [s1]; repeat' first | (simp -implicitDefEqProofs -proj only [h, ↓showSig_mem, ↓setStWord_wf]; done) | with_reducible assumption | split | with_reducible refine each_wf _ _ _ ?_ ?_ | with_reducible refine foldl_wf _ _ _ ?_ ?_ | with_reducible refine setStWord_wf _ _ _ _ ?_ | intro _ | simp -implicitDefEqProofs -proj only [h, ↓showSig_mem, ↓setStWord_wf]
  clear_value s1
  have e3 : Memory.wf s3.mem = true := by
    simp -implicitDefEqProofs -proj only [s3, e1, ↓setFld_mem]
  clear_value s3
  simp -implicitDefEqProofs -proj only [e3, ↓setFlag_mem]

theorem commitFlags_mem (s : State) (n : Nat) (sat : Bool) (accSat : Bool) (div0 : Bool) : (State.commitFlags s n sat accSat div0).mem = s.mem := by
  unfold State.commitFlags
  extract_lets s1 s2 s3
  have e1 : s1.mem = s.mem := by
    simp -implicitDefEqProofs -proj only [s1, ↓setCsFlags_mem]
  clear_value s1
  have e2 : s2.mem = s.mem := by
    simp -implicitDefEqProofs -proj only [s2, e1, ↓doIf_mem, ↓incSat_mem, implies_true]
  clear_value s2
  have e3 : s3.mem = s.mem := by
    simp -implicitDefEqProofs -proj only [s3, e2, ↓doIf_mem, ↓incSat_mem, implies_true]
  clear_value s3
  simp -implicitDefEqProofs -proj only [e3, ↓doIf_mem, ↓incSat_mem, implies_true]

theorem commitTask_wf (s : State) (n : Nat) (h : Memory.wf s.mem = true) : Memory.wf (State.commitTask s n).mem = true := by
  unfold State.commitTask
  extract_lets l1
  repeat' first | (simp -implicitDefEqProofs -proj only [h, ↓setStWord_wf, ↓setBytes_wf, ↓commitFlags_mem, ↓setFlag_mem, ↓showSig_mem, ↓setFb_mem, ↓setJob_mem, ↓axisReady_mem]; done) | with_reducible assumption | split | with_reducible refine each_wf _ _ _ ?_ ?_ | with_reducible refine foldl_wf _ _ _ ?_ ?_ | with_reducible refine setStWord_wf _ _ _ _ ?_ | with_reducible refine setBytes_wf _ _ _ ?_ | intro _ | simp -implicitDefEqProofs -proj only [h, ↓setStWord_wf, ↓setBytes_wf, ↓commitFlags_mem, ↓setFlag_mem, ↓showSig_mem, ↓setFb_mem, ↓setJob_mem, ↓axisReady_mem]

theorem finishTask_wf (s : State) (n : Nat) (h : Memory.wf s.mem = true) : Memory.wf (State.finishTask s n).mem = true := by
  unfold State.finishTask
  extract_lets l1 s2
  have e2 : Memory.wf s2.mem = true := by
    simp -implicitDefEqProofs -proj only [s2, h, ↓setJob_mem]
  clear_value s2
  split <;> simp -implicitDefEqProofs -proj only [e2, ↓commitTask_wf]

theorem releaseTask_wf (s : State) (n : Nat) (recompute : Bool) (metered : Bool) (feed : Option Feed) (h : Memory.wf s.mem = true) : Memory.wf (State.releaseTask s n recompute metered feed).mem = true := by
  unfold State.releaseTask
  extract_lets l1 s2 l3
  have e2 : Memory.wf s2.mem = true := by
    simp -implicitDefEqProofs -proj only [s2, h, ↓setJob_mem]
  clear_value s2
  split <;> simp -implicitDefEqProofs -proj only [e2, ↓finishTask_wf, ↓arbAdd_mem]

theorem recordRelease_wf (s : State) (n : Nat) (r : List Byte) (late : Bool) (h : Memory.wf s.mem = true) : Memory.wf (State.recordRelease s n r late).mem = true := by
  unfold State.recordRelease
  extract_lets s1
  have e1 : Memory.wf s1.mem = true := by
    dsimp only [s1]; split <;> simp -implicitDefEqProofs -proj only [h, ↓incSat_mem]
  clear_value s1
  (repeat' split) <;> simp -implicitDefEqProofs -proj only [h, e1, ↓repeatTask_mem, ↓releaseTask_wf]

theorem cancelTask_mem (s : State) (n : Nat) : (State.cancelTask s n).mem = s.mem := by
  unfold State.cancelTask
  extract_lets s1 s2 l3
  have e1 : s1.mem = s.mem := by
    simp -implicitDefEqProofs -proj only [s1, ↓arbWithdraw_mem]
  clear_value s1
  have e2 : s2.mem = s.mem := by
    dsimp only [s2]; repeat' first | (simp -implicitDefEqProofs -proj only [e1, ↓each_mem, ↓setJet_mem, implies_true]; done) | with_reducible assumption | split | with_reducible refine (each_mem _ _ _ ?_).trans ?_ | with_reducible refine (foldl_mem _ _ _ ?_).trans ?_ | intro _ | simp -implicitDefEqProofs -proj only [e1, ↓each_mem, ↓setJet_mem, implies_true]
  clear_value s2
  simp -implicitDefEqProofs -proj only [e2, ↓setJob_mem]

theorem recompute_wf (s : State) (n : Nat) (failed : Bool) (h : Memory.wf s.mem = true) : Memory.wf (State.recompute s n failed).mem = true := by
  unfold State.recompute
  extract_lets l1 s2 s3
  have e2 : Memory.wf s2.mem = true := by
    dsimp only [s2]; split <;> simp -implicitDefEqProofs -proj only [h, ↓incSat_mem, ↓cancelTask_mem]
  clear_value s2
  have e3 : Memory.wf s3.mem = true := by
    simp -implicitDefEqProofs -proj only [s3, e2, ↓incSat_mem]
  clear_value s3
  (repeat' split) <;> simp -implicitDefEqProofs -proj only [h, e3, ↓repeatTask_mem, ↓cancelTask_mem, ↓releaseTask_wf]

theorem recomputeNode_wf (s : State) (k : Nat) (failed : Bool) (h : Memory.wf s.mem = true) : Memory.wf (State.recomputeNode s k failed).mem = true := by
  unfold State.recomputeNode
  extract_lets l1 s2
  have e2 : Memory.wf s2.mem = true := by
    simp -implicitDefEqProofs -proj only [s2, h, ↓setNode_mem]
  clear_value s2
  repeat' first | (simp -implicitDefEqProofs -proj only [h, e2, ↓nodeCheck_mem, ↓each_mem, ↓each_wf, ↓recompute_wf, implies_true]; done) | with_reducible assumption | split | with_reducible refine each_wf _ _ _ ?_ ?_ | with_reducible refine foldl_wf _ _ _ ?_ ?_ | with_reducible refine recompute_wf _ _ _ ?_ | intro _ | simp -implicitDefEqProofs -proj only [h, e2, ↓nodeCheck_mem, ↓each_mem, ↓each_wf, ↓recompute_wf, implies_true]

theorem commitNode_wf (s : State) (k : Nat) (h : Memory.wf s.mem = true) : Memory.wf (State.commitNode s k).mem = true := by
  unfold State.commitNode
  extract_lets l1 s2
  have e2 : Memory.wf s2.mem = true := by
    simp -implicitDefEqProofs -proj only [s2, h, ↓setNode_mem]
  clear_value s2
  repeat' first | (simp -implicitDefEqProofs -proj only [h, e2, ↓nodeCheck_mem, ↓each_mem, ↓each_wf, ↓commitTask_wf, implies_true]; done) | with_reducible assumption | split | with_reducible refine each_wf _ _ _ ?_ ?_ | with_reducible refine foldl_wf _ _ _ ?_ ?_ | with_reducible refine commitTask_wf _ _ ?_ | intro _ | simp -implicitDefEqProofs -proj only [h, e2, ↓nodeCheck_mem, ↓each_mem, ↓each_wf, ↓commitTask_wf, implies_true]

theorem scheduledRelease_wf (s : State) (n : Nat) (h : Memory.wf s.mem = true) : Memory.wf (State.scheduledRelease s n).mem = true := by
  unfold State.scheduledRelease
  extract_lets s1
  have e1 : Memory.wf s1.mem = true := by
    simp -implicitDefEqProofs -proj only [s1, h, ↓serialLate_mem]
  clear_value s1
  (repeat' split) <;> simp -implicitDefEqProofs -proj only [h, e1, ↓repeatTask_mem, ↓releaseTask_wf]

theorem jetGrant_mem (s : State) : (State.jetGrant s).mem = s.mem := by
  unfold State.jetGrant
  split
  · rfl
  · split
    · rfl
    · rename_i e
      have e := arbGrant_mem e
      extract_lets l1 l2 s3
      have e3 : s3.mem = s.mem := by simp -implicitDefEqProofs only [s3, ↓setJet_mem, e]
      clear_value s3
      split <;> simp -implicitDefEqProofs only [↓setJob_mem, ↓setTk_mem, e3]

theorem clLoss_mem (s : State) (n : Nat) : (State.clLoss s n).mem = s.mem := by
  unfold State.clLoss
  extract_lets l1 l2 s3
  have e3 : s3.mem = s.mem := by
    simp -implicitDefEqProofs -proj only [s3, ↓setJob_mem]
  clear_value s3
  split <;> simp -implicitDefEqProofs -proj only [e3, ↓detect_mem]

theorem clCommit_wf (s : State) (n : Nat) (h : Memory.wf s.mem = true) : Memory.wf (State.clCommit s n).mem = true := by
  unfold State.clCommit
  extract_lets l1 s2 l3 s4
  have e2 : Memory.wf s2.mem = true := by
    simp -implicitDefEqProofs -proj only [s2, h, ↓setJob_mem]
  clear_value s2
  have e4 : Memory.wf s4.mem = true := by
    simp -implicitDefEqProofs -proj only [s4, e2, ↓setJob_mem]
  clear_value s4
  repeat' first | (simp -implicitDefEqProofs -proj only [h, e2, e4, ↓setStWord_wf, ↓commitFlags_mem, ↓setRegN_mem, ↓setFld_mem, ↓setFlag_mem, ↓doIf_mem, ↓doIf_wf, ↓incSat_mem, ↓writeDuties_mem, implies_true]; done) | with_reducible assumption | split | with_reducible refine each_wf _ _ _ ?_ ?_ | with_reducible refine foldl_wf _ _ _ ?_ ?_ | with_reducible refine setStWord_wf _ _ _ _ ?_ | with_reducible refine doIf_wf _ _ _ ?_ ?_ | intro _ | simp -implicitDefEqProofs -proj only [h, e2, e4, ↓setStWord_wf, ↓commitFlags_mem, ↓setRegN_mem, ↓setFld_mem, ↓setFlag_mem, ↓doIf_mem, ↓doIf_wf, ↓incSat_mem, ↓writeDuties_mem, implies_true]

theorem taskEnd_wf (s : State) (j : Nat) (ecc : Bool) (h : Memory.wf s.mem = true) : Memory.wf (State.taskEnd s j ecc).mem = true := by
  unfold State.taskEnd
  extract_lets l1
  (repeat' split) <;> simp -implicitDefEqProofs -proj only [h, ↓setJet_mem, ↓detect_mem, ↓incSat_mem, ↓clLoss_mem, ↓clCommit_wf, ↓repeatTask_mem, ↓finishTask_wf]

theorem jetRefuse_mem (s : State) (q : ArbReq) : (State.jetRefuse s q).mem = s.mem := by
  unfold State.jetRefuse
  extract_lets s1 l2
  have e1 : s1.mem = s.mem := by
    simp -implicitDefEqProofs -proj only [s1, ↓arbRefuse_mem]
  clear_value s1
  split <;> simp -implicitDefEqProofs -proj only [e1, ↓setJob_mem, ↓repeatTask_mem]

theorem jobsBoundary_mem (s : State) : (State.jobsBoundary s).mem = s.mem := by
  simp -implicitDefEqProofs -proj only [State.jobsBoundary, ↓each_mem, ↓setJob_mem, implies_true]

theorem reloadTask_mem (s : State) (n : Nat) : (State.reloadTask s n).mem = s.mem := by
  unfold State.reloadTask
  extract_lets l1 s2 l3 s4
  have e2 : s2.mem = s.mem := by
    simp -implicitDefEqProofs -proj only [s2, ↓arbWithdraw_mem]
  clear_value s2
  have e4 : s4.mem = s.mem := by
    simp -implicitDefEqProofs -proj only [s4, e2, ↓setJob_mem]
  clear_value s4
  repeat' first | (simp -implicitDefEqProofs -proj only [e4, ↓repeatTask_mem, ↓cancelTask_mem, ↓each_mem, ↓setJet_mem, implies_true]; done) | with_reducible assumption | split | with_reducible refine (each_mem _ _ _ ?_).trans ?_ | with_reducible refine (foldl_mem _ _ _ ?_).trans ?_ | intro _ | simp -implicitDefEqProofs -proj only [e4, ↓repeatTask_mem, ↓cancelTask_mem, ↓each_mem, ↓setJet_mem, implies_true]

theorem checkFailure_mem (s : State) (j : Nat) (chk : Nat) : (State.checkFailure s j chk).mem = s.mem := by
  unfold State.checkFailure
  extract_lets l1 s2 s3
  have e2 : s2.mem = s.mem := by
    simp -implicitDefEqProofs -proj only [s2, ↓jetLeave_mem]
  clear_value s2
  have e3 : s3.mem = s.mem := by
    simp -implicitDefEqProofs -proj only [s3, e2, ↓setFld_mem, ↓incSat_mem]
  clear_value s3
  (repeat' split) <;> simp -implicitDefEqProofs -proj only [e3, ↓setReg_mem, ↓setFld_mem, ↓setJetRole_mem, ↓setJet_mem, ↓incSat_mem, ↓swapDrop_mem, ↓clLoss_mem, ↓repeatTask_mem, ↓raiseIf_mem]

theorem testEnd_mem (s : State) (j : Nat) (pass : Bool) : (State.testEnd s j pass).mem = s.mem := by
  unfold State.testEnd
  extract_lets s1 s2 l3 l4
  have e1 : s1.mem = s.mem := by
    simp -implicitDefEqProofs -proj only [s1, ↓setFlag_mem, ↓incWrap_mem]
  clear_value s1
  have e2 : s2.mem = s.mem := by
    dsimp only [s2]; split <;> simp -implicitDefEqProofs -proj only [e1, ↓setFld_mem]
  clear_value s2
  (repeat' split) <;> simp -implicitDefEqProofs -proj only [e2, ↓setJet_mem, ↓jetRetire_mem, ↓swapDrop_mem, ↓incSat_mem]

theorem swapSchedule_mem (s : State) : (State.swapSchedule s).mem = s.mem := by
  unfold State.swapSchedule
  extract_lets l1
  simp -implicitDefEqProofs -proj only [↓setFlag_mem, ↓mem_mk]

theorem swapInto_mem (s : State) (p : Nat) : (State.swapInto s p).mem = s.mem := by
  unfold State.swapInto
  extract_lets l1
  (repeat' split) <;> simp -implicitDefEqProofs -proj only [↓jetEnter_mem, ↓showStandby_mem, ↓jetStandby_mem]

theorem swapBoundary_mem (s : State) : (State.swapBoundary s).mem = s.mem := by
  unfold State.swapBoundary
  extract_lets l1 s2
  have e2 : s2.mem = s.mem := by
    simp -implicitDefEqProofs -proj only [s2, ↓setFlag_mem, ↓mem_mk]
  clear_value s2
  (repeat' split) <;> simp -implicitDefEqProofs -proj only [e2, ↓swapInto_mem]

theorem rotate_mem (s : State) : (State.rotate s).mem = s.mem := by
  unfold State.rotate
  extract_lets l1 s2 l3
  have e2 : s2.mem = s.mem := by
    simp -implicitDefEqProofs -proj only [s2, ↓mem_mk]
  clear_value s2
  split <;> simp -implicitDefEqProofs -proj only [e2, ↓setFld_mem, ↓swapInto_mem]

theorem loadBoundary_mem (s : State) : (State.loadBoundary s).mem = s.mem := by
  unfold State.loadBoundary
  repeat' first | (simp -implicitDefEqProofs -proj only [↓each_mem, ↓setJet_mem, ↓setFld_mem, implies_true]; done) | with_reducible assumption | split | with_reducible refine (each_mem _ _ _ ?_).trans ?_ | with_reducible refine (foldl_mem _ _ _ ?_).trans ?_ | intro _ | simp -implicitDefEqProofs -proj only [↓each_mem, ↓setJet_mem, ↓setFld_mem, implies_true]

theorem fillVacated_mem (s : State) : (State.fillVacated s).mem = s.mem := by
  unfold State.fillVacated
  repeat' first | (simp -implicitDefEqProofs -proj only [↓each_mem, ↓showStandby_mem, ↓jetEnter_mem, ↓setJet_mem, implies_true]; done) | with_reducible assumption | split | with_reducible refine (each_mem _ _ _ ?_).trans ?_ | with_reducible refine (foldl_mem _ _ _ ?_).trans ?_ | intro _ | simp -implicitDefEqProofs -proj only [↓each_mem, ↓showStandby_mem, ↓jetEnter_mem, ↓setJet_mem, implies_true]

theorem settleJets_mem (s : State) : (State.settleJets s).mem = s.mem := by
  unfold State.settleJets
  repeat' first | (simp -implicitDefEqProofs -proj only [↓each_mem, ↓jetEnter_mem, ↓jetStandby_mem, ↓setJet_mem, implies_true]; done) | with_reducible assumption | split | with_reducible refine (each_mem _ _ _ ?_).trans ?_ | with_reducible refine (foldl_mem _ _ _ ?_).trans ?_ | intro _ | simp -implicitDefEqProofs -proj only [↓each_mem, ↓jetEnter_mem, ↓jetStandby_mem, ↓setJet_mem, implies_true]

theorem jetCntClr_mem (s : State) : (State.jetCntClr s).mem = s.mem := by
  unfold State.jetCntClr
  extract_lets s1
  have e1 : s1.mem = s.mem := by
    simp -implicitDefEqProofs -proj only [s1, ↓setReg_mem]
  clear_value s1
  simp -implicitDefEqProofs -proj only [e1, ↓each_mem, ↓setFld_mem, implies_true]

theorem jetReopen_mem (s : State) (j : Nat) : (State.jetReopen s j).mem = s.mem := by
  unfold State.jetReopen
  split <;> simp -implicitDefEqProofs -proj only [↓jetEnter_mem, ↓jetStandby_mem]

/-! ### TimeOps -/

theorem setDom_mem (s : State) (d : Nat) (h : DomH) : (State.setDom s d h).mem = s.mem := by
  unfold State.setDom
  extract_lets l1
  simp -implicitDefEqProofs -proj only [↓mem_mk]

theorem replace_mem (s : State) : (State.replace s).mem = s.mem := by
  unfold State.replace
  split <;> simp -implicitDefEqProofs -proj only [↓mem_mk]

theorem setNlt_mem (s : State) : (State.setNlt s).mem = s.mem := by
  unfold State.setNlt
  extract_lets l1 s2 s3 l4
  have e2 : s2.mem = s.mem := by
    simp -implicitDefEqProofs -proj only [s2, ↓setRegI_mem]
  clear_value s2
  have e3 : s3.mem = s.mem := by
    simp -implicitDefEqProofs -proj only [s3, e2, ↓setRegI_mem]
  clear_value s3
  simp -implicitDefEqProofs -proj only [e3, ↓mem_mk]

theorem setLstate_mem (s : State) (st : Nat) : (State.setLstate s st).mem = s.mem := by
  unfold State.setLstate
  extract_lets s1 s2
  have e1 : s1.mem = s.mem := by
    simp -implicitDefEqProofs -proj only [s1, ↓setFld_mem]
  clear_value s1
  have e2 : s2.mem = s.mem := by
    dsimp only [s2]; split <;> simp -implicitDefEqProofs -proj only [e1, ↓setFlag_mem]
  clear_value s2
  split <;> simp -implicitDefEqProofs -proj only [e2, ↓raiseIf_mem]

theorem lostSync_mem (s : State) : (State.lostSync s).mem = s.mem := by
  unfold State.lostSync
  split <;> simp -implicitDefEqProofs -proj only [↓raise_mem, ↓setFlag_mem]

theorem selectDom_mem (s : State) (d : Nat) (lt : Int) : (State.selectDom s d lt).mem = s.mem := by
  unfold State.selectDom
  extract_lets l1 l2 l3 l4 l5 l6 s7 s8 s9 s10 s11 l12
  have e7 : s7.mem = s.mem := by
    simp -implicitDefEqProofs -proj only [s7, ↓mem_mk]
  clear_value s7
  have e8 : s8.mem = s.mem := by
    simp -implicitDefEqProofs -proj only [s8, e7, ↓incSat_mem, ↓setFld_mem]
  clear_value s8
  have e9 : s9.mem = s.mem := by
    dsimp only [s9]; split <;> simp -implicitDefEqProofs -proj only [e8, ↓setFlag_mem]
  clear_value s9
  have e10 : s10.mem = s.mem := by
    simp -implicitDefEqProofs -proj only [s10, e9, ↓setLstate_mem]
  clear_value s10
  have e11 : s11.mem = s.mem := by
    dsimp only [s11]; split <;> simp -implicitDefEqProofs -proj only [e10, ↓lostSync_mem]
  clear_value s11
  split <;> simp -implicitDefEqProofs -proj only [e11, ↓mem_mk]

theorem holdover_mem (s : State) (fr : Int × Int) : (State.holdover s fr).mem = s.mem := by
  unfold State.holdover
  extract_lets l1
  simp -implicitDefEqProofs -proj only [↓setLstate_mem, ↓mem_mk]

theorem reselect_mem (s : State) (lt : Int) (fr : Int × Int) : (State.reselect s lt fr).mem = s.mem := by
  unfold State.reselect
  extract_lets s1
  have e1 : s1.mem = s.mem := by
    dsimp only [s1]; (repeat' split) <;> simp -implicitDefEqProofs -proj only [↓selectDom_mem, ↓holdover_mem]
  clear_value s1
  simp -implicitDefEqProofs -proj only [e1, ↓replace_mem]

theorem setDstate_mem (s : State) (d : Nat) (st : Nat) : (State.setDstate s d st).mem = s.mem := by
  unfold State.setDstate
  extract_lets l1 s2
  have e2 : s2.mem = s.mem := by
    dsimp only [s2]; split <;> simp -implicitDefEqProofs -proj only [↓setDom_mem]
  clear_value s2
  simp -implicitDefEqProofs -proj only [e2, ↓setFld_mem]

theorem domConfigure_mem (s : State) (d : Nat) : (State.domConfigure s d).mem = s.mem := by
  unfold State.domConfigure
  extract_lets l1
  split <;> simp -implicitDefEqProofs -proj only [↓setDstate_mem, ↓setDom_mem]

theorem ptpPost_mem (s : State) (d : Nat) : (State.ptpPost s d).mem = s.mem := by
  unfold State.ptpPost
  extract_lets l1 l2 l3 l4 l5 l6 l7 l8 l9 l10 l11 l12 l13 s14 s15 s16 s17 s18
  have e14 : s14.mem = s.mem := by
    simp -implicitDefEqProofs -proj only [s14, ↓setFld_mem, ↓setDom_mem]
  clear_value s14
  have e15 : s15.mem = s.mem := by
    simp -implicitDefEqProofs -proj only [s15, e14, ↓incWrap_mem]
  clear_value s15
  have e16 : s16.mem = s.mem := by
    dsimp only [s16]; split <;> simp -implicitDefEqProofs -proj only [e15, ↓incSat_mem]
  clear_value s16
  have e17 : s17.mem = s.mem := by
    simp -implicitDefEqProofs -proj only [s17, e16, ↓setRegI_mem]
  clear_value s17
  have e18 : s18.mem = s.mem := by
    dsimp only [s18]; (repeat' split) <;> simp -implicitDefEqProofs -proj only [e17, ↓setDstate_mem]
  clear_value s18
  (repeat' split) <;> simp -implicitDefEqProofs -proj only [e18, ↓setFld_mem, ↓reselect_mem]

theorem domTimeout_mem (s : State) (d : Nat) : (State.domTimeout s d).mem = s.mem := by
  unfold State.domTimeout
  extract_lets l1 l2
  simp -implicitDefEqProofs -proj only [↓reselect_mem, ↓setDstate_mem]

theorem domRevert_mem (s : State) : (State.domRevert s).mem = s.mem := by
  simp -implicitDefEqProofs -proj only [State.domRevert, ↓replace_mem, ↓selectDom_mem]

theorem tsqPush_mem (s : State) (e : TsqE) : (State.tsqPush s e).mem = s.mem := by
  unfold State.tsqPush
  extract_lets s1 l2 s3
  have e1 : s1.mem = s.mem := by
    simp -implicitDefEqProofs -proj only [s1, ↓incSat_mem, ↓setFlag_mem]
  clear_value s1
  have e3 : s3.mem = s.mem := by
    simp -implicitDefEqProofs -proj only [s3, ↓mem_mk]
  clear_value s3
  split <;> simp -implicitDefEqProofs -proj only [e1, e3, ↓raiseIf_mem, ↓setFld_mem]

theorem tsqRead_mem (s : State) : (State.tsqRead s).2.mem = s.mem := by
  unfold State.tsqRead
  extract_lets l1
  split <;> simp -implicitDefEqProofs only [↓setFld_mem, ↓setReg_mem, ↓mem_mk]

theorem setTt_mem (s : State) (i : Nat) (h : TtH) : (State.setTt s i h).mem = s.mem := by
  unfold State.setTt
  extract_lets l1
  simp -implicitDefEqProofs -proj only [↓mem_mk]

theorem ttHold_mem (s : State) (i : Nat) : (State.ttHold s i).mem = s.mem := by
  unfold State.ttHold
  extract_lets l1
  simp -implicitDefEqProofs -proj only [↓setTt_mem]

theorem ttArm_mem (s : State) (i : Nat) : (State.ttArm s i).mem = s.mem := by
  unfold State.ttArm
  extract_lets l1 s2
  have e2 : s2.mem = s.mem := by
    simp -implicitDefEqProofs -proj only [s2, ↓setTt_mem]
  clear_value s2
  simp -implicitDefEqProofs -proj only [e2, ↓setFlag_mem]

theorem ttDisarm_mem (s : State) (i : Nat) : (State.ttDisarm s i).mem = s.mem := by
  simp -implicitDefEqProofs -proj only [State.ttDisarm, ↓setFlag_mem]

theorem setGpio_mem (s : State) (k : Nat) (b : Bool) : (State.setGpio s k b).mem = s.mem := by
  unfold State.setGpio
  extract_lets l1
  simp -implicitDefEqProofs -proj only [↓mem_mk]

theorem ttAct_mem (s : State) (i : Nat) : (State.ttAct s i).mem = s.mem := by
  unfold State.ttAct
  extract_lets l1 l2 l3 l4
  (repeat' split) <;> simp -implicitDefEqProofs -proj only [↓raise_mem, ↓setGpio_mem, ↓setTt_mem, ↓each_mem, ↓periodStart_mem, ↓incSat_mem, ↓sdRestart_mem, implies_true]

theorem ttAfter_mem (s : State) (i : Nat) : (State.ttAfter s i).mem = s.mem := by
  unfold State.ttAfter
  extract_lets l1 l2 l3 l4 l5 s6
  have e6 : s6.mem = s.mem := by
    simp -implicitDefEqProofs -proj only [s6, ↓setReg_mem]
  clear_value s6
  (repeat' split) <;> simp -implicitDefEqProofs -proj only [e6, ↓raiseIf_mem, ↓addSat_mem, ↓setReg_mem, ↓ttDisarm_mem]

theorem ttFire_mem (s : State) (i : Nat) (mirage : Nat → State → State) (hmirage : ∀ a u, (mirage a u).mem = u.mem) : (State.ttFire s i mirage).mem = s.mem := by
  unfold State.ttFire
  extract_lets l1 s2 s3 s4 s5
  have e2 : s2.mem = s.mem := by
    simp -implicitDefEqProofs -proj only [s2, ↓setReg_mem, ↓incWrap_mem]
  clear_value s2
  have e3 : s3.mem = s.mem := by
    dsimp only [s3]; split <;> simp -implicitDefEqProofs -proj only [e2, ↓raiseIf_mem, ↓setFlag_mem]
  clear_value s3
  have e4 : s4.mem = s.mem := by
    simp -implicitDefEqProofs -proj only [s4, e3, ↓setTt_mem]
  clear_value s4
  have e5 : s5.mem = s.mem := by
    dsimp only [s5]; split <;> simp -implicitDefEqProofs -proj only [hmirage, e4, ↓ttAct_mem]
  clear_value s5
  simp -implicitDefEqProofs -proj only [e5, ↓ttAfter_mem]

theorem ttFire_wf (s : State) (i : Nat) (mirage : Nat → State → State) (hmirage : ∀ a u, Memory.wf u.mem = true → Memory.wf (mirage a u).mem = true) (h : Memory.wf s.mem = true) : Memory.wf (State.ttFire s i mirage).mem = true := by
  unfold State.ttFire
  extract_lets l1 s2 s3 s4 s5
  have e2 : Memory.wf s2.mem = true := by
    simp -implicitDefEqProofs -proj only [s2, h, ↓setReg_mem, ↓incWrap_mem]
  clear_value s2
  have e3 : Memory.wf s3.mem = true := by
    dsimp only [s3]; split <;> simp -implicitDefEqProofs -proj only [e2, ↓raiseIf_mem, ↓setFlag_mem]
  clear_value s3
  have e4 : Memory.wf s4.mem = true := by
    simp -implicitDefEqProofs -proj only [s4, e3, ↓setTt_mem]
  clear_value s4
  have e5 : Memory.wf s5.mem = true := by
    dsimp only [s5]; split <;> simp -implicitDefEqProofs -proj only [hmirage, e4, ↓ttAct_mem]
  clear_value s5
  simp -implicitDefEqProofs -proj only [e5, ↓ttAfter_mem]

theorem ttFireAll_mem (s : State) (mirage : Nat → State → State) (hmirage : ∀ a u, (mirage a u).mem = u.mem) : (State.ttFireAll s mirage).mem = s.mem := by
  unfold State.ttFireAll
  repeat' first | (simp -implicitDefEqProofs -proj only [hmirage, ↓each_mem, ↓ttFire_mem, implies_true]; done) | with_reducible assumption | split | with_reducible refine (each_mem _ _ _ ?_).trans ?_ | with_reducible refine (foldl_mem _ _ _ ?_).trans ?_ | intro _ | simp -implicitDefEqProofs -proj only [hmirage, ↓each_mem, ↓ttFire_mem, implies_true]

theorem ttFireAll_wf (s : State) (mirage : Nat → State → State) (hmirage : ∀ a u, Memory.wf u.mem = true → Memory.wf (mirage a u).mem = true) (h : Memory.wf s.mem = true) : Memory.wf (State.ttFireAll s mirage).mem = true := by
  unfold State.ttFireAll
  repeat' first | (simp -implicitDefEqProofs -proj only [hmirage, h, ↓each_mem, ↓each_wf, ↓ttFire_mem, ↓ttFire_wf, implies_true]; done) | with_reducible assumption | split | with_reducible refine each_wf _ _ _ ?_ ?_ | with_reducible refine foldl_wf _ _ _ ?_ ?_ | with_reducible refine ttFire_wf _ _ _ ?_ ?_ | intro _ | simp -implicitDefEqProofs -proj only [hmirage, h, ↓each_mem, ↓each_wf, ↓ttFire_mem, ↓ttFire_wf, implies_true]

theorem pulseEnd_mem (s : State) (i : Nat) : (State.pulseEnd s i).mem = s.mem := by
  unfold State.pulseEnd
  extract_lets l1
  simp -implicitDefEqProofs -proj only [↓setTt_mem, ↓setGpio_mem]

end Sys2Proof.Machine
end

