-- ==== Sys2Proof/Laws/MemNet.lean ====
section
/-! SUPPORT. What every operation of the network and the drive leaves of the memories:
the operations that store nothing leave them as they were (_mem), the others keep their canonical form (_wf). -/
set_option linter.unusedSimpArgs false
namespace Sys2Proof.Machine

/-! ### NetOps -/

theorem setLink_mem (s : State) (p : Nat) (st : Nat) : (State.setLink s p st).mem = s.mem := by
  unfold State.setLink
  extract_lets l1
  simp -implicitDefEqProofs -proj only [↓setFld_mem, ↓setPort_mem]

theorem portErr_mem (s : State) (p : Nat) (r : Reg) (f : Fld) : (State.portErr s p r f).mem = s.mem := by
  simp -implicitDefEqProofs -proj only [State.portErr, ↓raiseIf_mem, ↓incSat_mem]

theorem txCount_mem (s : State) (p : Nat) : (State.txCount s p).mem = s.mem := by
  unfold State.txCount
  extract_lets l1 s2 s3
  have e2 : s2.mem = s.mem := by
    simp -implicitDefEqProofs -proj only [s2, ↓setPort_mem]
  clear_value s2
  have e3 : s3.mem = s.mem := by
    simp -implicitDefEqProofs -proj only [s3, e2, ↓incWrap_mem]
  clear_value s3
  (repeat' split) <;> simp -implicitDefEqProofs -proj only [e3, ↓incWrap_mem]

theorem txSettle_mem (s : State) (p : Nat) : (State.txSettle s p).mem = s.mem := by
  unfold State.txSettle
  split <;> simp -implicitDefEqProofs -proj only [↓txCount_mem]

theorem transmitAt_mem (s : State) (p : Nat) (t : Nat) (b : List Byte) (copy : Option Nat) : (State.transmitAt s p t b copy).mem = s.mem := by
  unfold State.transmitAt
  extract_lets s1 l2
  have e1 : s1.mem = s.mem := by
    dsimp only [s1]; split <;> simp -implicitDefEqProofs -proj only [↓txCount_mem, ↓txSettle_mem]
  clear_value s1
  simp -implicitDefEqProofs -proj only [e1, ↓setPort_mem]

theorem transmit_mem (s : State) (p : Nat) (b : List Byte) (copy : Option Nat) : (State.transmit s p b copy).mem = s.mem := by
  simp -implicitDefEqProofs -proj only [State.transmit, ↓transmitAt_mem]

theorem txEnd_mem (s : State) (p : Nat) : (State.txEnd s p).mem = s.mem := by
  unfold State.txEnd
  extract_lets s1 l2
  have e1 : s1.mem = s.mem := by
    simp -implicitDefEqProofs -proj only [s1, ↓txSettle_mem]
  clear_value s1
  split <;> simp -implicitDefEqProofs -proj only [e1, ↓setPort_mem]

theorem repeatStop_mem (s : State) (p : Nat) : (State.repeatStop s p).mem = s.mem := by
  unfold State.repeatStop
  extract_lets l1 s2 s3 l4
  have e2 : s2.mem = s.mem := by
    simp -implicitDefEqProofs -proj only [s2, ↓setFld_mem]
  clear_value s2
  have e3 : s3.mem = s.mem := by
    simp -implicitDefEqProofs -proj only [s3, e2, ↓txEnd_mem]
  clear_value s3
  (repeat' split) <;> simp -implicitDefEqProofs -proj only [e2, e3, ↓setPort_mem]

theorem txAbort_mem (s : State) (p : Nat) : (State.txAbort s p).mem = s.mem := by
  unfold State.txAbort
  extract_lets l1 s2 s3 l4
  have e2 : s2.mem = s.mem := by
    simp -implicitDefEqProofs -proj only [s2, ↓txEnd_mem, ↓repeatStop_mem]
  clear_value s2
  have e3 : s3.mem = s.mem := by
    dsimp only [s3]; split <;> simp -implicitDefEqProofs -proj only [e2, ↓portErr_mem]
  clear_value s3
  simp -implicitDefEqProofs -proj only [e3, ↓setPort_mem]

theorem leaveUp_mem (s : State) (p : Nat) (cause : Nat) : (State.leaveUp s p cause).mem = s.mem := by
  unfold State.leaveUp
  extract_lets s1 l2 l3 s4 s5
  have e1 : s1.mem = s.mem := by
    simp -implicitDefEqProofs -proj only [s1, ↓txEnd_mem, ↓repeatStop_mem]
  clear_value s1
  have e4 : s4.mem = s.mem := by
    simp -implicitDefEqProofs -proj only [s4, e1, ↓setPort_mem]
  clear_value s4
  have e5 : s5.mem = s.mem := by
    simp -implicitDefEqProofs -proj only [s5, e4, ↓setFld_mem, ↓portErr_mem]
  clear_value s5
  simp -implicitDefEqProofs -proj only [e5, ↓raiseIf_mem]

theorem toDetect_mem (s : State) (p : Nat) (cause : Nat) : (State.toDetect s p cause).mem = s.mem := by
  unfold State.toDetect
  extract_lets s1
  have e1 : s1.mem = s.mem := by
    dsimp only [s1]; split <;> simp -implicitDefEqProofs -proj only [↓leaveUp_mem]
  clear_value s1
  simp -implicitDefEqProofs -proj only [e1, ↓setFlag_mem, ↓setFld_mem, ↓setLink_mem]

theorem signalDetected_mem (s : State) (p : Nat) : (State.signalDetected s p).mem = s.mem := by
  unfold State.signalDetected
  extract_lets s1
  have e1 : s1.mem = s.mem := by
    dsimp only [s1]; split <;> simp -implicitDefEqProofs -proj only [↓setFlag_mem]
  clear_value s1
  split <;> simp -implicitDefEqProofs -proj only [e1, ↓setLink_mem]

theorem setEq_mem (s : State) (p : Nat) (eq : Nat) : (State.setEq s p eq).mem = s.mem := by
  simp -implicitDefEqProofs -proj only [State.setEq, ↓setFld_mem]

theorem linkAcquired_mem (s : State) (p : Nat) (eq : Nat) : (State.linkAcquired s p eq).mem = s.mem := by
  simp -implicitDefEqProofs -proj only [State.linkAcquired, ↓setFlag_mem, ↓setEq_mem, ↓setLink_mem]

theorem retrain_mem (s : State) (p : Nat) : (State.retrain s p).mem = s.mem := by
  unfold State.retrain
  split <;> simp -implicitDefEqProofs -proj only [↓toDetect_mem]

theorem linkUp_mem (s : State) (p : Nat) (eq : Nat) : (State.linkUp s p eq).mem = s.mem := by
  unfold State.linkUp
  extract_lets s1 l2 s3 l4
  have e1 : s1.mem = s.mem := by
    simp -implicitDefEqProofs -proj only [s1, ↓setEq_mem, ↓setLink_mem]
  clear_value s1
  have e3 : s3.mem = s.mem := by
    simp -implicitDefEqProofs -proj only [s3, e1, ↓setPort_mem]
  clear_value s3
  split <;> simp -implicitDefEqProofs -proj only [e3, ↓mem_mk]

theorem adaptTimeout_mem (s : State) (p : Nat) : (State.adaptTimeout s p).mem = s.mem := by
  simp -implicitDefEqProofs -proj only [State.adaptTimeout, ↓incSat_mem, ↓toDetect_mem]

theorem signalLost_mem (s : State) (p : Nat) : (State.signalLost s p).mem = s.mem := by
  unfold State.signalLost
  extract_lets s1
  have e1 : s1.mem = s.mem := by
    simp -implicitDefEqProofs -proj only [s1, ↓setFlag_mem]
  clear_value s1
  split <;> simp -implicitDefEqProofs -proj only [e1, ↓toDetect_mem]

theorem invalidGroup_mem (s : State) (p : Nat) (kind : Nat) : (State.invalidGroup s p kind).mem = s.mem := by
  unfold State.invalidGroup
  extract_lets s1 l2 s3 l4 l5
  have e1 : s1.mem = s.mem := by
    simp -implicitDefEqProofs -proj only [s1, ↓portErr_mem]
  clear_value s1
  have e3 : s3.mem = s.mem := by
    simp -implicitDefEqProofs -proj only [s3, e1, ↓setPort_mem]
  clear_value s3
  (repeat' split) <;> simp -implicitDefEqProofs -proj only [e3, ↓setFlag_mem, ↓incSat_mem, ↓setPort_mem]

theorem portTest_mem (s : State) (p : Nat) (mode : Nat) : (State.portTest s p mode).mem = s.mem := by
  unfold State.portTest
  extract_lets s1 s2
  have e1 : s1.mem = s.mem := by
    dsimp only [s1]; split <;> simp -implicitDefEqProofs -proj only [↓leaveUp_mem]
  clear_value s1
  have e2 : s2.mem = s.mem := by
    simp -implicitDefEqProofs -proj only [s2, e1, ↓setReg_mem, ↓setFld_mem]
  clear_value s2
  split <;> simp -implicitDefEqProofs -proj only [e2, ↓setLink_mem]

theorem portTestExit_mem (s : State) (p : Nat) : (State.portTestExit s p).mem = s.mem := by
  unfold State.portTestExit
  extract_lets s1
  have e1 : s1.mem = s.mem := by
    simp -implicitDefEqProofs -proj only [s1, ↓setFld_mem]
  clear_value s1
  split <;> simp -implicitDefEqProofs -proj only [e1, ↓toDetect_mem]

theorem portCntClr_mem (s : State) (p : Nat) : (State.portCntClr s p).mem = s.mem := by
  unfold State.portCntClr
  extract_lets s1 s2 s3
  have e1 : s1.mem = s.mem := by
    simp -implicitDefEqProofs -proj only [s1, ↓txSettle_mem]
  clear_value s1
  have e2 : s2.mem = s.mem := by
    simp -implicitDefEqProofs -proj only [s2, e1, ↓setReg_mem]
  clear_value s2
  have e3 : s3.mem = s.mem := by
    simp -implicitDefEqProofs -proj only [s3, e2, ↓setReg_mem]
  clear_value s3
  simp -implicitDefEqProofs -proj only [e3, ↓setFld_mem, ↓setReg_mem]

theorem violation_mem (s : State) (k : Nat) (f : Fld) : (State.violation s k f).mem = s.mem := by
  unfold State.violation
  extract_lets s1 l2 l3 s4
  have e1 : s1.mem = s.mem := by
    simp -implicitDefEqProofs -proj only [s1, ↓incSat_mem]
  clear_value s1
  have e4 : s4.mem = s.mem := by
    simp -implicitDefEqProofs -proj only [s4, e1, ↓setNode_mem]
  clear_value s4
  split <;> simp -implicitDefEqProofs -proj only [e4, ↓setFld_mem]

theorem rxIgnore_mem (s : State) (p : Nat) : (State.rxIgnore s p).mem = s.mem := by
  unfold State.rxIgnore
  extract_lets l1
  simp -implicitDefEqProofs -proj only [↓setPort_mem]

theorem unadmitted_mem (s : State) (p : Nat) : (State.unadmitted s p).mem = s.mem := by
  unfold State.unadmitted
  extract_lets l1 s2
  have e2 : s2.mem = s.mem := by
    dsimp only [s2]; (repeat' split) <;> simp -implicitDefEqProofs -proj only [↓portErr_mem, ↓violation_mem]
  clear_value s2
  simp -implicitDefEqProofs -proj only [e2, ↓rxIgnore_mem]

theorem frameStart_mem (s : State) (p : Nat) : (State.frameStart s p).mem = s.mem := by
  unfold State.frameStart
  extract_lets l1
  (repeat' split) <;> simp -implicitDefEqProofs -proj only [↓setPort_mem, ↓unadmitted_mem, ↓rxIgnore_mem, ↓setNode_mem]

theorem frameHeader_mem (s : State) (p : Nat) (h : List Byte) (good : Bool) : (State.frameHeader s p h good).mem = s.mem := by
  unfold State.frameHeader
  extract_lets l1 l2 l3 l4 s5 l6
  have e5 : s5.mem = s.mem := by
    dsimp only [s5]; split <;> simp -implicitDefEqProofs -proj only [↓setFld_mem, ↓setNode_mem]
  clear_value s5
  (repeat' split) <;> simp -implicitDefEqProofs -proj only [e5, l2, ↓portErr_mem, ↓setPort_mem]

theorem recordComplete_wf (s : State) (p : Nat) (b : List Byte) (h : Memory.wf s.mem = true) : Memory.wf (State.recordComplete s p b).mem = true := by
  unfold State.recordComplete
  extract_lets l1 l2 l3 s4 l5 s6 l7 l8
  have e4 : Memory.wf s4.mem = true := by
    simp -implicitDefEqProofs -proj only [s4, h, ↓setPort_mem]
  clear_value s4
  have e6 : Memory.wf s6.mem = true := by
    simp -implicitDefEqProofs -proj only [s6, e4, ↓setNode_mem]
  clear_value s6
  repeat' first | (simp -implicitDefEqProofs -proj only [h, e6, ↓each_mem, ↓each_wf, ↓recordRelease_wf, implies_true]; done) | with_reducible assumption | split | with_reducible refine each_wf _ _ _ ?_ ?_ | with_reducible refine foldl_wf _ _ _ ?_ ?_ | with_reducible refine recordRelease_wf _ _ _ _ ?_ | intro _ | simp -implicitDefEqProofs -proj only [h, e6, ↓each_mem, ↓each_wf, ↓recordRelease_wf, implies_true]

theorem cutCopies_mem (s : State) (k : Nat) : (State.cutCopies s k).mem = s.mem := by
  unfold State.cutCopies
  repeat' first | (simp -implicitDefEqProofs -proj only [↓incSat_mem, ↓txEnd_mem]; done) | with_reducible assumption | split | with_reducible refine (each_mem _ _ _ ?_).trans ?_ | with_reducible refine (foldl_mem _ _ _ ?_).trans ?_ | intro _ | simp -implicitDefEqProofs -proj only [↓incSat_mem, ↓txEnd_mem]

theorem copiesFill_mem (s : State) (k : Nat) : (State.copiesFill s k).mem = s.mem := by
  unfold State.copiesFill
  repeat' first | (simp -implicitDefEqProofs -proj only [↓setPort_mem]; done) | with_reducible assumption | split | with_reducible refine (each_mem _ _ _ ?_).trans ?_ | with_reducible refine (foldl_mem _ _ _ ?_).trans ?_ | intro _ | simp -implicitDefEqProofs -proj only [↓setPort_mem]

theorem fwdStart_mem (s : State) (e : Nat) : (State.fwdStart s e).mem = s.mem := by
  unfold State.fwdStart
  extract_lets l1 s2 l3 l4 l5 l6 s7 l8
  have e2 : s2.mem = s.mem := by
    simp -implicitDefEqProofs -proj only [s2, ↓mem_mk]
  clear_value s2
  have e7 : s7.mem = s.mem := by
    simp -implicitDefEqProofs -proj only [s7, e2, ↓transmit_mem]
  clear_value s7
  (repeat' split) <;> simp -implicitDefEqProofs -proj only [e2, e7, ↓incSat_mem, ↓setPort_mem]

theorem frameFail_wf (s : State) (p : Nat) (h : Memory.wf s.mem = true) : Memory.wf (State.frameFail s p).mem = true := by
  unfold State.frameFail
  extract_lets l1 s2 l3
  have e2 : Memory.wf s2.mem = true := by
    dsimp only [s2]; split <;> simp -implicitDefEqProofs -proj only [h, ↓recomputeNode_wf, ↓cutCopies_mem]
  clear_value s2
  simp -implicitDefEqProofs -proj only [e2, ↓setPort_mem]

theorem contDeliver_mem (s : State) (k : Nat) (l : List (List Byte)) : (State.contDeliver s k l).mem = s.mem := by
  unfold State.contDeliver
  extract_lets l1
  simp -implicitDefEqProofs -proj only [↓mem_mk]

theorem frameAccept_wf (s : State) (p : Nat) (body : List Byte) (whole : Bool) (onRec : Nat → List Byte → State → State) (honRec : ∀ a b u, Memory.wf u.mem = true → Memory.wf (onRec a b u).mem = true) (h : Memory.wf s.mem = true) : Memory.wf (State.frameAccept s p body whole onRec).mem = true := by
  unfold State.frameAccept
  extract_lets l1 l2 l3 l4 l5 l6 s7 s8 s9 l10 l11 s12 l13
  have e7 : Memory.wf s7.mem = true := by
    simp -implicitDefEqProofs -proj only [s7, h, ↓copiesFill_mem, ↓setNode_mem]
  clear_value s7
  have e8 : Memory.wf s8.mem = true := by
    dsimp only [s8]; repeat' first | (simp -implicitDefEqProofs -proj only [honRec, h, e7, ↓each_mem, ↓each_wf, ↓showAge_wf, ↓applyRecord_mem, implies_true]; done) | with_reducible assumption | split | with_reducible refine each_wf _ _ _ ?_ ?_ | with_reducible refine foldl_wf _ _ _ ?_ ?_ | with_reducible refine showAge_wf _ _ ?_ | with_reducible refine honRec _ _ _ ?_ | intro _ | simp -implicitDefEqProofs -proj only [honRec, h, e7, ↓each_mem, ↓each_wf, ↓showAge_wf, ↓applyRecord_mem, implies_true]
  clear_value s8
  have e9 : Memory.wf s9.mem = true := by
    dsimp only [s9]; split <;> simp -implicitDefEqProofs -proj only [e8, ↓contDeliver_mem]
  clear_value s9
  have e12 : Memory.wf s12.mem = true := by
    dsimp only [s12]; split <;> simp -implicitDefEqProofs -proj only [h, ↓contDeliver_mem]
  clear_value s12
  (repeat' split) <;> simp -implicitDefEqProofs -proj only [h, e9, e12, ↓commitNode_wf, ↓setPort_mem, ↓mem_mk]

theorem inTake_mem (s : State) (f : InFrame) : (State.inTake s f).mem = s.mem := by
  unfold State.inTake
  extract_lets l1
  simp -implicitDefEqProofs -proj only [↓mem_mk]

theorem frameCheck_wf (s : State) (p : Nat) (rest : List Byte) (fcs : Nat) (ending : Nat) (onRec : Nat → List Byte → State → State) (honRec : ∀ a b u, Memory.wf u.mem = true → Memory.wf (onRec a b u).mem = true) (h : Memory.wf s.mem = true) : Memory.wf (State.frameCheck s p rest fcs ending onRec).mem = true := by
  unfold State.frameCheck
  extract_lets l1 l2 l3 s4 s5 l6
  have e4 : Memory.wf s4.mem = true := by
    dsimp only [s4]; split <;> simp -implicitDefEqProofs -proj only [h, ↓incWrap_mem, ↓portErr_mem]
  clear_value s4
  have e5 : Memory.wf s5.mem = true := by
    dsimp only [s5]; repeat' first | (simp -implicitDefEqProofs -proj only [honRec, h, e4, ↓frameAccept_wf, implies_true]; done) | with_reducible assumption | split | with_reducible refine each_wf _ _ _ ?_ ?_ | with_reducible refine foldl_wf _ _ _ ?_ ?_ | with_reducible refine frameAccept_wf _ _ _ _ _ ?_ ?_ | with_reducible refine honRec _ _ _ ?_ | intro _ | simp -implicitDefEqProofs -proj only [honRec, h, e4, ↓frameAccept_wf, implies_true]
  clear_value s5
  (repeat' split) <;> simp -implicitDefEqProofs -proj only [h, e5, ↓frameFail_wf, ↓portErr_mem, ↓setPort_mem]

theorem windowClose_wf (s : State) (p : Nat) (kind : Nat) (k : Nat) (h : Memory.wf s.mem = true) : Memory.wf (State.windowClose s p kind k).mem = true := by
  unfold State.windowClose
  extract_lets l1 l2 s3 s4 s5
  have e3 : Memory.wf s3.mem = true := by
    simp -implicitDefEqProofs -proj only [s3, h, ↓violation_mem]
  clear_value s3
  have e4 : Memory.wf s4.mem = true := by
    dsimp only [s4]; split <;> simp -implicitDefEqProofs -proj only [e3, ↓recomputeNode_wf, ↓cutCopies_mem]
  clear_value s4
  have e5 : Memory.wf s5.mem = true := by
    dsimp only [s5]; split <;> simp -implicitDefEqProofs -proj only [h, e4, ↓rxIgnore_mem]
  clear_value s5
  split <;> simp -implicitDefEqProofs -proj only [e5, ↓recomputeNode_wf]

theorem rxLook_mem (s : State) (p : Nat) : (State.rxLook s p).mem = s.mem := by
  unfold State.rxLook
  extract_lets l1 l2
  simp -implicitDefEqProofs -proj only [↓setPort_mem]

theorem turnRecord_mem (s : State) (p : Nat) (ns : Nat) : (State.turnRecord s p ns).mem = s.mem := by
  unfold State.turnRecord
  extract_lets s1 s2
  have e1 : s1.mem = s.mem := by
    simp -implicitDefEqProofs -proj only [s1, ↓setFld_mem]
  clear_value s1
  have e2 : s2.mem = s.mem := by
    dsimp only [s2]; split <;> simp -implicitDefEqProofs -proj only [e1, ↓setFld_mem]
  clear_value s2
  split <;> simp -implicitDefEqProofs -proj only [e2, ↓setFlag_mem]

theorem cmdSend_mem (s : State) (k : Nat) : (State.cmdSend s k).mem = s.mem := by
  unfold State.cmdSend
  extract_lets l1 l2 s3 l4 s5
  have e3 : s3.mem = s.mem := by
    dsimp only [s3]; split <;> simp -implicitDefEqProofs -proj only [↓turnRecord_mem]
  clear_value s3
  have e5 : s5.mem = s.mem := by
    simp -implicitDefEqProofs -proj only [s5, e3, ↓setNode_mem]
  clear_value s5
  simp -implicitDefEqProofs -proj only [e5, ↓transmit_mem]

theorem cmdLaunch_mem (s : State) (k : Nat) : (State.cmdLaunch s k).mem = s.mem := by
  unfold State.cmdLaunch
  extract_lets l1
  (repeat' split) <;> simp -implicitDefEqProofs -proj only [↓setNode_mem, ↓cmdSend_mem]

theorem cmdDelayed_mem (s : State) (k : Nat) : (State.cmdDelayed s k).mem = s.mem := by
  unfold State.cmdDelayed
  extract_lets l1
  split <;> simp -implicitDefEqProofs -proj only [↓cmdSend_mem, ↓incSat_mem, ↓setNode_mem]

theorem rangeAdmit_mem (s : State) (p : Nat) : (State.rangeAdmit s p).mem = s.mem := by
  unfold State.rangeAdmit
  extract_lets l1
  repeat' first | (simp -implicitDefEqProofs -proj only [↓setPort_mem, ↓setFld_mem]; done) | with_reducible assumption | split | with_reducible refine (each_mem _ _ _ ?_).trans ?_ | with_reducible refine (foldl_mem _ _ _ ?_).trans ?_ | intro _ | simp -implicitDefEqProofs -proj only [↓setPort_mem, ↓setFld_mem]

theorem rangeSend_mem (s : State) (p : Nat) : (State.rangeSend s p).mem = s.mem := by
  unfold State.rangeSend
  extract_lets l1 s2
  have e2 : s2.mem = s.mem := by
    simp -implicitDefEqProofs -proj only [s2, ↓setPort_mem]
  clear_value s2
  (repeat' split) <;> simp -implicitDefEqProofs -proj only [e2, ↓incWrap_mem, ↓setFld_mem, ↓setNode_mem, ↓transmit_mem]

theorem flowState_mem (s : State) (f : Nat) (st : Nat) : (State.flowState s f st).mem = s.mem := by
  simp -implicitDefEqProofs -proj only [State.flowState, ↓raiseIf_mem, ↓setFld_mem]

theorem flowPost_mem (s : State) (f : Nat) (v : Word48) : (State.flowPost s f v).mem = s.mem := by
  unfold State.flowPost
  extract_lets s1 s2
  have e1 : s1.mem = s.mem := by
    simp -implicitDefEqProofs -proj only [s1, ↓setReg_mem]
  clear_value s1
  have e2 : s2.mem = s.mem := by
    simp -implicitDefEqProofs -proj only [s2, e1, ↓flowState_mem]
  clear_value s2
  simp -implicitDefEqProofs -proj only [e2, ↓arbAdd_mem]

theorem svcQueue_mem (s : State) (node : Nat) (flow : Nat) (body : List Byte) : (State.svcQueue s node flow body).mem = s.mem := by
  unfold State.svcQueue
  extract_lets l1 l2 s3
  have e3 : s3.mem = s.mem := by
    simp -implicitDefEqProofs -proj only [s3, ↓mem_mk]
  clear_value s3
  simp -implicitDefEqProofs -proj only [e3, ↓arbAdd_mem]

theorem dynGrant_mem (s : State) (p : Nat) (m : Nat) (metered : Bool) (x1 : List Nat) : (State.dynGrant s p m metered x1).mem = s.mem := by
  induction x1 generalizing s m metered with
  | nil => rfl
  | cons x t ih =>
    unfold State.dynGrant
    extract_lets l1
    clear_value l1
    split
    · rfl
    · split
      · split
        · rename_i e
          have e := arbGrant_mem e
          extract_lets l2 s3
          have e3 : s3.mem = s.mem := e
          clear_value s3
          rw [ih, e3]
        · rfl
      · split
        · extract_lets s2 s3
          have e2 : s2.mem = s.mem := by simp -implicitDefEqProofs only [s2, ↓arbRefuse_mem]
          clear_value s2
          have e3 : s3.mem = s.mem := by
            dsimp only [s3]
            split
            · rw [flowState_mem, e2]
            · exact e2
          clear_value s3
          rw [ih, e3]
        · exact ih _ _ _

theorem dynBoundary_mem (s : State) : (State.dynBoundary s).mem = s.mem := by
  unfold State.dynBoundary
  extract_lets l1 s2 l3 l4 l5 s6 l7 s8 l9
  have e2 : s2.mem = s.mem := by
    simp -implicitDefEqProofs -proj only [s2, ↓mem_mk]
  have e6 : s6.mem = s.mem := by
    dsimp only [s6]; split <;> simp -implicitDefEqProofs -proj only [e2, ↓mem_mk]
  clear_value s6
  have e8 : s8.mem = s.mem := by
    dsimp only [s8]; repeat' first | (simp -implicitDefEqProofs -proj only [e6, ↓each_mem, ↓dynGrant_mem, implies_true]; done) | with_reducible assumption | split | with_reducible refine (each_mem _ _ _ ?_).trans ?_ | with_reducible refine (foldl_mem _ _ _ ?_).trans ?_ | intro _ | simp -implicitDefEqProofs -proj only [e6, ↓each_mem, ↓dynGrant_mem, implies_true]
  clear_value s8
  simp -implicitDefEqProofs -proj only [e8, ↓mem_mk]

theorem flowSent_mem (s : State) (f : Nat) : (State.flowSent s f).mem = s.mem := by
  simp -implicitDefEqProofs -proj only [State.flowSent, ↓flowState_mem, ↓incWrap_mem]

theorem dynSend_mem (s : State) (g : DynGrant) : (State.dynSend s g).mem = s.mem := by
  unfold State.dynSend
  extract_lets l1 s2 l3 l4 l5 s6
  have e2 : s2.mem = s.mem := by
    simp -implicitDefEqProofs -proj only [s2, ↓mem_mk]
  clear_value s2
  have e6 : s6.mem = s.mem := by
    simp -implicitDefEqProofs -proj only [s6, e2, ↓mem_mk]
  clear_value s6
  (repeat' split) <;> simp -implicitDefEqProofs -proj only [e2, e6, ↓transmit_mem, ↓flowSent_mem]

theorem ringPut_wf (s : State) (base : Nat) (n : Nat) (off : Nat) (b : List Byte) (h : Memory.wf s.mem = true) : Memory.wf (State.ringPut s base n off b).mem = true := by
  unfold State.ringPut
  repeat' first | (simp -implicitDefEqProofs -proj only [h, ↓setByte_wf]; done) | with_reducible assumption | split | with_reducible refine each_wf _ _ _ ?_ ?_ | with_reducible refine foldl_wf _ _ _ ?_ ?_ | with_reducible refine setByte_wf _ _ _ ?_ | intro _ | simp -implicitDefEqProofs -proj only [h, ↓setByte_wf]

theorem dynStore_wf (s : State) (h : Memory.wf s.mem = true) : Memory.wf (State.dynStore s).mem = true := by
  unfold State.dynStore
  extract_lets l1
  repeat' first | (simp -implicitDefEqProofs -proj only [h, ↓raise_mem, ↓setFld_mem, ↓ringPut_wf, ↓incSat_mem, ↓mem_mk]; done) | with_reducible assumption | split | with_reducible refine each_wf _ _ _ ?_ ?_ | with_reducible refine foldl_wf _ _ _ ?_ ?_ | with_reducible refine ringPut_wf _ _ _ _ _ ?_ | intro _ | simp -implicitDefEqProofs -proj only [h, ↓raise_mem, ↓setFld_mem, ↓ringPut_wf, ↓incSat_mem, ↓mem_mk]

theorem svcReply_mem (s : State) (q : SvcReq) (body : List Byte) : (State.svcReply s q body).mem = s.mem := by
  simp -implicitDefEqProofs -proj only [State.svcReply, ↓svcQueue_mem]

theorem svcArrive_mem (s : State) : (State.svcArrive s).mem = s.mem := by
  unfold State.svcArrive
  extract_lets l1
  split <;> simp -implicitDefEqProofs -proj only [↓mem_mk]

theorem svcRun_mem (access : State → Nat → Option Nat → Nat × Nat × State) (b : List Byte) (x1 : List Nat) (x2 : State) (x3 : Nat) (x4 : List Byte) (haccess : ∀ u b c, (access u b c).2.2.mem = u.mem) : (svcRun access b x1 x2 x3 x4).2.2.2.mem = x2.mem := by
  induction x1 generalizing x2 x3 x4 with
  | nil => rfl
  | cons i t ih =>
    unfold svcRun
    extract_lets l1 p2
    have e2 : p2.2.2.mem = x2.mem := haccess _ _ _
    clear_value p2
    split
    · rw [ih, e2]
    · exact e2

theorem svcRun_wf (access : State → Nat → Option Nat → Nat × Nat × State) (b : List Byte) (x1 : List Nat) (x2 : State) (x3 : Nat) (x4 : List Byte) (haccess : ∀ u b c, Memory.wf u.mem = true → Memory.wf (access u b c).2.2.mem = true) (h : Memory.wf x2.mem = true) : Memory.wf (svcRun access b x1 x2 x3 x4).2.2.2.mem = true := by
  induction x1 generalizing x2 x3 x4 with
  | nil => exact h
  | cons i t ih =>
    unfold svcRun
    extract_lets l1 p2
    have e2 : Memory.wf p2.2.2.mem = true := haccess _ _ _ h
    clear_value p2
    split
    · exact ih _ _ _ e2
    · exact e2

theorem svcPerform_mem (s : State) (access : State → Nat → Option Nat → Nat × Nat × State) (haccess : ∀ u b c, (access u b c).2.2.mem = u.mem) : (State.svcPerform s access).mem = s.mem := by
  unfold State.svcPerform
  extract_lets l1
  (repeat' split) <;> simp -implicitDefEqProofs -proj only [haccess, ↓svcReply_mem, ↓svcRun_mem, ↓mem_mk, implies_true]

theorem svcPerform_wf (s : State) (access : State → Nat → Option Nat → Nat × Nat × State) (haccess : ∀ u b c, Memory.wf u.mem = true → Memory.wf (access u b c).2.2.mem = true) (h : Memory.wf s.mem = true) : Memory.wf (State.svcPerform s access).mem = true := by
  unfold State.svcPerform
  extract_lets l1
  repeat' first | (simp -implicitDefEqProofs -proj only [haccess, h, ↓svcReply_mem, ↓svcRun_mem, ↓svcRun_wf, ↓mem_mk, implies_true]; done) | with_reducible assumption | split | with_reducible refine each_wf _ _ _ ?_ ?_ | with_reducible refine foldl_wf _ _ _ ?_ ?_ | with_reducible refine svcRun_wf _ _ _ _ _ _ ?_ ?_ | with_reducible refine haccess _ _ _ _ ?_ | intro _ | simp -implicitDefEqProofs -proj only [haccess, h, ↓svcReply_mem, ↓svcRun_mem, ↓svcRun_wf, ↓mem_mk, implies_true]

theorem syncSend_mem (s : State) : (State.syncSend s).mem = s.mem := by
  unfold State.syncSend
  extract_lets l1
  repeat' first | (simp -implicitDefEqProofs -proj only [↓each_mem, ↓txSettle_mem, ↓setPort_mem, implies_true]; done) | with_reducible assumption | split | with_reducible refine (each_mem _ _ _ ?_).trans ?_ | with_reducible refine (foldl_mem _ _ _ ?_).trans ?_ | intro _ | simp -implicitDefEqProofs -proj only [↓each_mem, ↓txSettle_mem, ↓setPort_mem, implies_true]

theorem nodeBoundary_mem (s : State) (k : Nat) : (State.nodeBoundary s k).mem = s.mem := by
  unfold State.nodeBoundary
  extract_lets l1 l2 l3 s4 l5 s6
  have e4 : s4.mem = s.mem := by
    dsimp only [s4]; (repeat' split) <;> simp -implicitDefEqProofs -proj only [↓setFld_mem, ↓raiseIf_mem, ↓incSat_mem]
  clear_value s4
  have e6 : s6.mem = s.mem := by
    simp -implicitDefEqProofs -proj only [s6, e4, ↓setFld_mem]
  clear_value s6
  simp -implicitDefEqProofs -proj only [e6, ↓setNode_mem]

theorem netBoundary_mem (s : State) : (State.netBoundary s).mem = s.mem := by
  unfold State.netBoundary
  extract_lets s1 l2 s3
  have e1 : s1.mem = s.mem := by
    simp -implicitDefEqProofs -proj only [s1, ↓each_mem, ↓nodeBoundary_mem, implies_true]
  clear_value s1
  have e3 : s3.mem = s.mem := by
    simp -implicitDefEqProofs -proj only [s3, e1, ↓mem_mk]
  clear_value s3
  split <;> simp -implicitDefEqProofs -proj only [e3, ↓dynBoundary_mem]

theorem netCntClr_mem (s : State) : (State.netCntClr s).mem = s.mem := by
  unfold State.netCntClr
  extract_lets s1 s2 s3
  have e1 : s1.mem = s.mem := by
    simp -implicitDefEqProofs -proj only [s1, ↓each_mem, ↓txSettle_mem, implies_true]
  clear_value s1
  have e2 : s2.mem = s.mem := by
    simp -implicitDefEqProofs -proj only [s2, e1, ↓each_mem, ↓setFld_mem, ↓setReg_mem, implies_true]
  clear_value s2
  have e3 : s3.mem = s.mem := by
    simp -implicitDefEqProofs -proj only [s3, e2, ↓each_mem, ↓setReg_mem, implies_true]
  clear_value s3
  simp -implicitDefEqProofs -proj only [e3, ↓setFld_mem]

/-! ### DriveOps -/

theorem setIstate_mem (s : State) (st : Nat) : (State.setIstate s st).mem = s.mem := by
  simp -implicitDefEqProofs -proj only [State.setIstate, ↓setFld_mem]

theorem driveNext_mem (s : State) : (State.driveNext s).mem = s.mem := by
  unfold State.driveNext
  extract_lets l1
  simp -implicitDefEqProofs -proj only [↓mem_mk]

theorem toListen_mem (s : State) : (State.toListen s).mem = s.mem := by
  unfold State.toListen
  extract_lets l1 s2
  have e2 : s2.mem = s.mem := by
    simp -implicitDefEqProofs -proj only [s2, ↓mem_mk]
  clear_value s2
  simp -implicitDefEqProofs -proj only [e2, ↓setIstate_mem]

theorem setRng_mem (s : State) (b : Bool) (h : RngH) : (State.setRng s b h).mem = s.mem := by
  unfold State.setRng
  extract_lets l1
  simp -implicitDefEqProofs -proj only [↓mem_mk]

theorem selectSync_mem (s : State) : (State.selectSync s).mem = s.mem := by
  unfold State.selectSync
  extract_lets l1 l2
  simp -implicitDefEqProofs -proj only [↓setFlag_mem]

theorem placeNode_mem (s : State) (x : Int) (cycle : Nat) : (State.placeNode s x cycle).mem = s.mem := by
  unfold State.placeNode
  extract_lets l1 s2
  have e2 : s2.mem = s.mem := by
    simp -implicitDefEqProofs -proj only [s2, ↓mem_mk]
  clear_value s2
  simp -implicitDefEqProofs -proj only [e2, ↓driveNext_mem, ↓setRegN_mem]

theorem syncCorrect_mem (s : State) (x : Int) : (State.syncCorrect s x).mem = s.mem := by
  unfold State.syncCorrect
  extract_lets l1 l2 l3 s4 l5 s6 l7
  have e4 : s4.mem = s.mem := by
    simp -implicitDefEqProofs -proj only [s4, ↓setFld_mem]
  clear_value s4
  have e6 : s6.mem = s.mem := by
    simp -implicitDefEqProofs -proj only [s6, e4, ↓incSat_mem]
  clear_value s6
  (repeat' split) <;> simp -implicitDefEqProofs -proj only [e4, e6, ↓driveNext_mem, ↓toListen_mem, ↓mem_mk]

theorem syncState_mem (s : State) (b : Bool) (d : List Byte) (x : Nat) : (State.syncState s b d x).mem = s.mem := by
  unfold State.syncState
  extract_lets l1 l2 l3 s4 l5 s6 l7
  have e4 : s4.mem = s.mem := by
    simp -implicitDefEqProofs -proj only [s4, ↓mem_mk]
  clear_value s4
  have e6 : s6.mem = s.mem := by
    simp -implicitDefEqProofs -proj only [s6, ↓setIstate_mem, ↓placeNode_mem]
  clear_value s6
  (repeat' split) <;> simp -implicitDefEqProofs -proj only [e4, e6, ↓setIstate_mem, ↓placeNode_mem, ↓syncCorrect_mem, ↓mem_mk]

theorem syncReceived_mem (s : State) (p : Nat) (d : List Byte) (good : Bool) (sub : Nat) : (State.syncReceived s p d good sub).mem = s.mem := by
  unfold State.syncReceived
  extract_lets l1 l2 s3 l4 s5 s6 l7 s8
  have e3 : s3.mem = s.mem := by
    simp -implicitDefEqProofs -proj only [s3, ↓setFlag_mem]
  clear_value s3
  have e5 : s5.mem = s.mem := by
    simp -implicitDefEqProofs -proj only [s5, e3, ↓mem_mk]
  clear_value s5
  have e6 : s6.mem = s.mem := by
    simp -implicitDefEqProofs -proj only [s6, e5, ↓selectSync_mem]
  clear_value s6
  have e8 : s8.mem = s.mem := by
    dsimp only [s8]; split <;> simp -implicitDefEqProofs -proj only [e6, ↓mem_mk]
  clear_value s8
  (repeat' split) <;> simp -implicitDefEqProofs -proj only [e8, ↓portErr_mem, ↓syncState_mem]

theorem markMissing_mem (s : State) (b : Bool) : (State.markMissing s b).mem = s.mem := by
  unfold State.markMissing
  extract_lets l1
  simp -implicitDefEqProofs -proj only [↓mem_mk]

theorem setMissRun_mem (s : State) (m : Nat) : (State.setMissRun s m).mem = s.mem := by
  unfold State.setMissRun
  extract_lets l1
  simp -implicitDefEqProofs -proj only [↓mem_mk]

theorem syncMissing_mem (s : State) (b : Bool) : (State.syncMissing s b).mem = s.mem := by
  unfold State.syncMissing
  extract_lets s1 s2 l3 s4
  have e1 : s1.mem = s.mem := by
    simp -implicitDefEqProofs -proj only [s1, ↓setFlag_mem]
  have e2 : s2.mem = s.mem := by
    simp -implicitDefEqProofs -proj only [s2, e1, ↓selectSync_mem, ↓markMissing_mem]
  clear_value s2
  have e4 : s4.mem = s.mem := by
    simp -implicitDefEqProofs -proj only [s4, e2, ↓setMissRun_mem]
  (repeat' split) <;> simp -implicitDefEqProofs -proj only [e2, e4, ↓toListen_mem]

theorem rangeReqSend_mem (s : State) (b : Bool) : (State.rangeReqSend s b).mem = s.mem := by
  unfold State.rangeReqSend
  extract_lets l1 l2 s3
  have e3 : s3.mem = s.mem := by
    simp -implicitDefEqProofs -proj only [s3, ↓setRng_mem]
  clear_value s3
  simp -implicitDefEqProofs -proj only [e3, ↓transmit_mem]

theorem rangeFail_mem (s : State) (b : Bool) : (State.rangeFail s b).mem = s.mem := by
  unfold State.rangeFail
  extract_lets s1
  have e1 : s1.mem = s.mem := by
    simp -implicitDefEqProofs -proj only [s1, ↓incSat_mem]
  clear_value s1
  split <;> simp -implicitDefEqProofs -proj only [e1, ↓toListen_mem, ↓setRng_mem]

theorem rangeDone_mem (s : State) (b : Bool) (d : Int) : (State.rangeDone s b d).mem = s.mem := by
  unfold State.rangeDone
  extract_lets s1 l2 s3 l4 s5
  have e1 : s1.mem = s.mem := by
    simp -implicitDefEqProofs -proj only [s1, ↓setFld_mem]
  clear_value s1
  have e3 : s3.mem = s.mem := by
    simp -implicitDefEqProofs -proj only [s3, e1, ↓setRng_mem]
  clear_value s3
  have e5 : s5.mem = s.mem := by
    simp -implicitDefEqProofs -proj only [s5, e3, ↓mem_mk]
  clear_value s5
  split <;> simp -implicitDefEqProofs -proj only [e3, e5, ↓setIstate_mem]

theorem rangeResponse_mem (s : State) (sub : Nat) : (State.rangeResponse s sub).mem = s.mem := by
  unfold State.rangeResponse
  repeat' first | (simp -implicitDefEqProofs -proj only [↓inTake_mem, ↓rangeDone_mem, ↓setRng_mem, ↓rangeFail_mem]; done) | with_reducible assumption | split | with_reducible refine (each_mem _ _ _ ?_).trans ?_ | with_reducible refine (foldl_mem _ _ _ ?_).trans ?_ | intro _ | simp -implicitDefEqProofs -proj only [↓inTake_mem, ↓rangeDone_mem, ↓setRng_mem, ↓rangeFail_mem]

theorem applyCmd_wf (s : State) (n : Nat) (r : List Byte) (h : Memory.wf s.mem = true) : Memory.wf (State.applyCmd s n r).mem = true := by
  unfold State.applyCmd
  extract_lets l1 s2 l3 s4 l5 l6 s7 l8 s9 s10 s11
  have e2 : Memory.wf s2.mem = true := by
    simp -implicitDefEqProofs -proj only [s2, h, ↓setBytes_wf]
  clear_value s2
  have e4 : Memory.wf s4.mem = true := by
    simp -implicitDefEqProofs -proj only [s4, e2, ↓setAxis_mem]
  clear_value s4
  have e7 : Memory.wf s7.mem = true := by
    dsimp only [s7]; (repeat' split) <;> simp -implicitDefEqProofs -proj only [e4, ↓latchArm_mem, ↓latchDisarm_mem]
  clear_value s7
  have e9 : Memory.wf s9.mem = true := by
    simp -implicitDefEqProofs -proj only [s9, e7, ↓setFlag_mem]
  clear_value s9
  have e10 : Memory.wf s10.mem = true := by
    simp -implicitDefEqProofs -proj only [s10, e9, ↓setRegN_mem]
  clear_value s10
  have e11 : Memory.wf s11.mem = true := by
    simp -implicitDefEqProofs -proj only [s11, e10, ↓setRegI_mem]
  clear_value s11
  (repeat' split) <;> simp -implicitDefEqProofs -proj only [e7, e9, e11, ↓setJob_mem, ↓setRegI_mem]

theorem noCommand_mem (s : State) (n : Nat) : (State.noCommand s n).mem = s.mem := by
  unfold State.noCommand
  extract_lets l1
  simp -implicitDefEqProofs -proj only [↓setAxis_mem]

theorem applyChosen_wf (s : State) (immediate : Bool) (h : Memory.wf s.mem = true) : Memory.wf (State.applyChosen s immediate).mem = true := by
  unfold State.applyChosen
  extract_lets l1
  repeat' first | (simp -implicitDefEqProofs -proj only [h, ↓each_mem, ↓each_wf, ↓applyCmd_wf, ↓mem_mk, implies_true]; done) | with_reducible assumption | split | with_reducible refine each_wf _ _ _ ?_ ?_ | with_reducible refine foldl_wf _ _ _ ?_ ?_ | with_reducible refine applyCmd_wf _ _ _ ?_ | intro _ | simp -implicitDefEqProofs -proj only [h, ↓each_mem, ↓each_wf, ↓applyCmd_wf, ↓mem_mk, implies_true]

theorem cmdReceived_wf (s : State) (h : Memory.wf s.mem = true) : Memory.wf (State.cmdReceived s).mem = true := by
  unfold State.cmdReceived
  repeat' first | (simp -implicitDefEqProofs -proj only [h, ↓inTake_mem, ↓applyChosen_wf, ↓mem_mk]; done) | with_reducible assumption | split | with_reducible refine each_wf _ _ _ ?_ ?_ | with_reducible refine foldl_wf _ _ _ ?_ ?_ | with_reducible refine applyChosen_wf _ _ ?_ | intro _ | simp -implicitDefEqProofs -proj only [h, ↓inTake_mem, ↓applyChosen_wf, ↓mem_mk]

theorem outputInstant_wf (s : State) (h : Memory.wf s.mem = true) : Memory.wf (State.outputInstant s).mem = true := by
  unfold State.outputInstant
  extract_lets l1 s2 s3
  have e2 : Memory.wf s2.mem = true := by
    simp -implicitDefEqProofs -proj only [s2, h, ↓mem_mk]
  clear_value s2
  have e3 : Memory.wf s3.mem = true := by
    dsimp only [s3]; repeat' first | (simp -implicitDefEqProofs -proj only [h, e2, ↓each_mem, ↓each_wf, ↓setJob_mem, implies_true]; done) | with_reducible assumption | split | with_reducible refine each_wf _ _ _ ?_ ?_ | with_reducible refine foldl_wf _ _ _ ?_ ?_ | intro _ | simp -implicitDefEqProofs -proj only [h, e2, ↓each_mem, ↓each_wf, ↓setJob_mem, implies_true]
  clear_value s3
  (repeat' split) <;> simp -implicitDefEqProofs -proj only [e3, ↓applyChosen_wf, ↓each_mem, ↓noCommand_mem, implies_true]

theorem repeatYield_mem (s : State) (o : Nat) : (State.repeatYield s o).mem = s.mem := by
  unfold State.repeatYield
  split <;> simp -implicitDefEqProofs -proj only [↓portErr_mem, ↓txEnd_mem]

theorem ownSend_mem (s : State) (off : Nat) (b : List Byte) : (State.ownSend s off b).mem = s.mem := by
  unfold State.ownSend
  repeat' first | (simp -implicitDefEqProofs -proj only [↓each_mem, ↓transmitAt_mem, ↓repeatYield_mem, implies_true]; done) | with_reducible assumption | split | with_reducible refine (each_mem _ _ _ ?_).trans ?_ | with_reducible refine (foldl_mem _ _ _ ?_).trans ?_ | intro _ | simp -implicitDefEqProofs -proj only [↓each_mem, ↓transmitAt_mem, ↓repeatYield_mem, implies_true]

theorem fbSend_mem (s : State) (limits : Nat → Nat) : (State.fbSend s limits).mem = s.mem := by
  unfold State.fbSend
  extract_lets l1 l2
  simp -implicitDefEqProofs -proj only [↓ownSend_mem, ↓mem_mk]

theorem ownEnd_mem (s : State) (p : Nat) : (State.ownEnd s p).mem = s.mem := by
  unfold State.ownEnd
  extract_lets s1 l2 l3 s4
  have e1 : s1.mem = s.mem := by
    simp -implicitDefEqProofs -proj only [s1, ↓txEnd_mem]
  clear_value s1
  have e4 : s4.mem = s.mem := by
    simp -implicitDefEqProofs -proj only [s4, e1, ↓mem_mk]
  clear_value s4
  split <;> simp -implicitDefEqProofs -proj only [e4, ↓toListen_mem]

theorem upSend_mem (s : State) : (State.upSend s).mem = s.mem := by
  unfold State.upSend
  split
  · rfl
  · extract_lets l1 s2
    have e2 : s2.mem = s.mem := mem_mk
    clear_value s2
    split
    · exact e2
    · rename_i e
      have e := arbGrant_mem e
      extract_lets l3 l4 l5 s5 s6
      have e5 : s5.mem = s.mem := mem_mk.trans (e.trans e2)
      clear_value s5
      have e6 : s6.mem = s.mem := (ownSend_mem ..).trans e5
      clear_value s6
      split
      · rw [flowSent_mem, e6]
      · exact e6

theorem repeatStart_mem (s : State) (p : Nat) (sync : Bool) (res : Nat) (d : List Byte) (len : Nat) : (State.repeatStart s p sync res d len).mem = s.mem := by
  unfold State.repeatStart
  extract_lets l1 s2 s3 l4 l5
  have e2 : s2.mem = s.mem := by
    dsimp only [s2]; split <;> simp -implicitDefEqProofs -proj only [↓setFld_mem]
  clear_value s2
  have e3 : s3.mem = s.mem := by
    simp -implicitDefEqProofs -proj only [s3, e2, ↓txSettle_mem]
  clear_value s3
  (repeat' split) <;> simp -implicitDefEqProofs -proj only [e2, e3, ↓portErr_mem, ↓setPort_mem]

theorem repeatCut_mem (s : State) (o : Nat) : (State.repeatCut s o).mem = s.mem := by
  unfold State.repeatCut
  extract_lets s1 l2 s3
  have e1 : s1.mem = s.mem := by
    simp -implicitDefEqProofs -proj only [s1, ↓txEnd_mem]
  clear_value s1
  have e3 : s3.mem = s.mem := by
    simp -implicitDefEqProofs -proj only [s3, e1, ↓setPort_mem]
  clear_value s3
  simp -implicitDefEqProofs -proj only [e3, ↓portErr_mem]

theorem repeatError_mem (s : State) (p : Nat) : (State.repeatError s p).mem = s.mem := by
  unfold State.repeatError
  extract_lets l1 l2
  split <;> simp -implicitDefEqProofs -proj only [↓setPort_mem, ↓txEnd_mem]

theorem coldEcho_mem (s : State) : (State.coldEcho s).mem = s.mem := by
  unfold State.coldEcho
  repeat' first | (simp -implicitDefEqProofs -proj only [↓inTake_mem, ↓transmit_mem]; done) | with_reducible assumption | split | with_reducible refine (each_mem _ _ _ ?_).trans ?_ | with_reducible refine (foldl_mem _ _ _ ?_).trans ?_ | intro _ | simp -implicitDefEqProofs -proj only [↓inTake_mem, ↓transmit_mem]

theorem driveBoundary_mem (s : State) : (State.driveBoundary s).mem = s.mem := by
  unfold State.driveBoundary
  extract_lets l1 l2 l3 l4 l5 s6
  have e6 : s6.mem = s.mem := by
    simp -implicitDefEqProofs -proj only [s6, ↓mem_mk]
  clear_value s6
  simp -implicitDefEqProofs -proj only [e6, ↓driveNext_mem]

end Sys2Proof.Machine
end

