-- ==== Sys2Proof/Laws/MemMotion.lean ====
section
/-! SUPPORT. What every operation of the moves, followers, stops and the Cascade pass leaves of the memories:
the operations that store nothing leave them as they were (_mem), the others keep their canonical form (_wf). -/
set_option linter.unusedSimpArgs false
namespace Sys2Proof.Machine

/-! ### MoveOps -/

theorem casPut_mem (s : State) (n : Nat) (tick : Nat) (c : CasCmd) : (State.casPut s n tick c).mem = s.mem := by
  unfold State.casPut
  extract_lets l1
  simp -implicitDefEqProofs -proj only [↓setCasH_mem]

theorem queueWords_wf (s : State) (n : Nat) (h : Memory.wf s.mem = true) : Memory.wf (State.queueWords s n).mem = true := by
  unfold State.queueWords
  extract_lets l1 l2
  repeat' first | (simp -implicitDefEqProofs -proj only [h, l2, ↓setBytes_wf, ↓clearMem_wf]; done) | with_reducible assumption | split | with_reducible refine each_wf _ _ _ ?_ ?_ | with_reducible refine foldl_wf _ _ _ ?_ ?_ | with_reducible refine setBytes_wf _ _ _ ?_ | with_reducible refine clearMem_wf _ _ _ ?_ | intro _ | simp -implicitDefEqProofs -proj only [h, l2, ↓setBytes_wf, ↓clearMem_wf]

theorem mvShow_wf (s : State) (n : Nat) (h : Memory.wf s.mem = true) : Memory.wf (State.mvShow s n).mem = true := by
  unfold State.mvShow
  extract_lets l1 s2 s3 s4 s5
  have e2 : Memory.wf s2.mem = true := by
    simp -implicitDefEqProofs -proj only [s2, h, ↓setFld_mem]
  clear_value s2
  have e3 : Memory.wf s3.mem = true := by
    simp -implicitDefEqProofs -proj only [s3, e2, ↓setFld_mem]
  clear_value s3
  have e4 : Memory.wf s4.mem = true := by
    simp -implicitDefEqProofs -proj only [s4, e3, ↓setFlag_mem]
  clear_value s4
  have e5 : Memory.wf s5.mem = true := by
    simp -implicitDefEqProofs -proj only [s5, e4, ↓setFlag_mem]
  clear_value s5
  simp -implicitDefEqProofs -proj only [e5, ↓queueWords_wf, ↓setFld_mem]

theorem pushRes_mem (s : State) (n : Nat) (r : Nat) : (State.pushRes s n r).mem = s.mem := by
  simp -implicitDefEqProofs -proj only [State.pushRes, ↓setFld_mem]

theorem movePush_wf (s : State) (n : Nat) (h : Memory.wf s.mem = true) : Memory.wf (State.movePush s n).mem = true := by
  unfold State.movePush
  extract_lets l1
  split <;> simp -implicitDefEqProofs -proj only [h, ↓pushRes_mem, ↓mvShow_wf, ↓casPut_mem]

theorem moveFlush_mem (s : State) (n : Nat) : (State.moveFlush s n).mem = s.mem := by
  unfold State.moveFlush
  extract_lets l1
  split <;> simp -implicitDefEqProofs -proj only [↓pushRes_mem, ↓casPut_mem]

theorem changeApply_mem (s : State) (n : Nat) : (State.changeApply s n).mem = s.mem := by
  unfold State.changeApply
  extract_lets l1
  split <;> simp -implicitDefEqProofs -proj only [↓setFld_mem, ↓casPut_mem]

theorem flushQueue_mem (s : State) (n : Nat) : (State.flushQueue s n).mem = s.mem := by
  unfold State.flushQueue
  extract_lets l1
  split <;> simp -implicitDefEqProofs -proj only [↓setCasH_mem, ↓addSat_mem]

theorem limRefused_mem (s : State) (n : Nat) (r : Nat) : (State.limRefused s n r).mem = s.mem := by
  simp -implicitDefEqProofs -proj only [State.limRefused, ↓incSat_mem, ↓setFld_mem]

theorem superPush_mem (s : State) (n : Nat) (k : Nat) (e : QEnt) : (State.superPush s n k e).mem = s.mem := by
  unfold State.superPush
  extract_lets l1 l2
  simp -implicitDefEqProofs -proj only [↓setCasH_mem]

theorem superPlan_mem (s : State) (n : Nat) : (State.superPlan s n).mem = s.mem := by
  unfold State.superPlan
  extract_lets l1 l2 l3 l4
  split <;> simp -implicitDefEqProofs -proj only [↓setCasH_mem]

theorem blendPush_mem (s : State) (n : Nat) (k : Nat) (e : QEnt) : (State.blendPush s n k e).mem = s.mem := by
  unfold State.blendPush
  extract_lets l1 s2 l3 l4
  have e2 : s2.mem = s.mem := by
    simp -implicitDefEqProofs -proj only [s2, ↓pushRes_mem, ↓setCasH_mem]
  clear_value s2
  repeat' first | (simp -implicitDefEqProofs -proj only [e2, ↓setCasH_mem]; done) | with_reducible assumption | split | with_reducible refine (each_mem _ _ _ ?_).trans ?_ | with_reducible refine (foldl_mem _ _ _ ?_).trans ?_ | intro _ | simp -implicitDefEqProofs -proj only [e2, ↓setCasH_mem]

theorem pushAct_mem (s : State) (n : Nat) (k : Nat) (e : QEnt) : (State.pushAct s n k e).mem = s.mem := by
  unfold State.pushAct
  extract_lets l1 l2 l3 l4 l5 l6 s7 l8
  have e7 : s7.mem = s.mem := by
    dsimp only [s7]; split <;> simp -implicitDefEqProofs -proj only [↓flushQueue_mem]
  clear_value s7
  (repeat' split) <;> simp -implicitDefEqProofs -proj only [e7, ↓pushRes_mem, ↓limRefused_mem, ↓superPush_mem, ↓blendPush_mem, ↓setCasH_mem]

theorem flushAct_mem (s : State) (n : Nat) (k : Nat) : (State.flushAct s n k).mem = s.mem := by
  unfold State.flushAct
  extract_lets s1 l2
  have e1 : s1.mem = s.mem := by
    simp -implicitDefEqProofs -proj only [s1, ↓flushQueue_mem]
  clear_value s1
  (repeat' split) <;> simp -implicitDefEqProofs -proj only [e1, ↓setCasH_mem]

theorem chgRes_mem (s : State) (n : Nat) (r : Nat) : (State.chgRes s n r).mem = s.mem := by
  simp -implicitDefEqProofs -proj only [State.chgRes, ↓setFld_mem]

theorem changeMove_mem (s : State) (n : Nat) (k : Nat) (m : Move) (en : Nat) (vm : Nat) (am : Nat) (dm : Nat) : (State.changeMove s n k m en vm am dm).mem = s.mem := by
  unfold State.changeMove
  extract_lets l1 l2 l3 l4 l5 l6 l7 l8 l9 l10 l11 l12 l13 l14 l15 l16 l17 s18 s19
  have e18 : s18.mem = s.mem := by
    simp -implicitDefEqProofs -proj only [s18, ↓setCasH_mem]
  clear_value s18
  have e19 : s19.mem = s.mem := by
    dsimp only [s19]; split <;> simp -implicitDefEqProofs -proj only [e18, ↓setFlag_mem]
  clear_value s19
  simp -implicitDefEqProofs -proj only [e19, ↓chgRes_mem]

theorem changeAct_mem (s : State) (n : Nat) (k : Nat) (en : Nat) (vm : Nat) (am : Nat) (dm : Nat) : (State.changeAct s n k en vm am dm).mem = s.mem := by
  unfold State.changeAct
  extract_lets l1
  (repeat' split) <;> simp -implicitDefEqProofs -proj only [↓chgRes_mem, ↓setCasH_mem, ↓changeMove_mem]

theorem headRequest_mem (s : State) (n : Nat) (k : Nat) : (State.headRequest s n k).mem = s.mem := by
  unfold State.headRequest
  extract_lets l1
  (repeat' split) <;> simp -implicitDefEqProofs -proj only [↓setCasH_mem]

theorem planHead_mem (s : State) (n : Nat) : (State.planHead s n).mem = s.mem := by
  unfold State.planHead
  extract_lets l1
  (repeat' split) <;> simp -implicitDefEqProofs -proj only [↓setCasH_mem]

theorem planActive_mem (s : State) (n : Nat) (k : Nat) : (State.planActive s n k).mem = s.mem := by
  unfold State.planActive
  extract_lets l1 l2 l3
  repeat' first | (simp -implicitDefEqProofs -proj only [↓setCasH_mem, ↓chgRes_mem]; done) | with_reducible assumption | split | with_reducible refine (each_mem _ _ _ ?_).trans ?_ | with_reducible refine (foldl_mem _ _ _ ?_).trans ?_ | intro _ | simp -implicitDefEqProofs -proj only [↓setCasH_mem, ↓chgRes_mem]

theorem disengagePlan_mem (s : State) (n : Nat) : (State.disengagePlan s n).mem = s.mem := by
  unfold State.disengagePlan
  extract_lets s1 l2 l3 l4 l5 s6
  have e1 : s1.mem = s.mem := by
    simp -implicitDefEqProofs -proj only [s1, ↓flushQueue_mem]
  clear_value s1
  have e6 : s6.mem = s.mem := by
    simp -implicitDefEqProofs -proj only [s6, e1, ↓setCasH_mem]
  clear_value s6
  simp -implicitDefEqProofs -proj only [e6, ↓setFld_mem, ↓setReg_mem]

theorem planOne_mem (k : Nat) (s : State) (x : Nat × Nat × Nat) : (State.planOne k s x).mem = s.mem := by
  unfold State.planOne
  split <;> simp -implicitDefEqProofs -proj only [↓planActive_mem, ↓planHead_mem, ↓superPlan_mem, ↓disengagePlan_mem]

theorem planDefer_mem (s : State) (d : Nat) : (State.planDefer s d).mem = s.mem := by
  simp -implicitDefEqProofs -proj only [State.planDefer, ↓raiseIf_mem, ↓addSat_mem]

theorem stageP_mem (s : State) (k : Nat) : (State.stageP s k).mem = s.mem := by
  unfold State.stageP
  extract_lets l1 l2 s3 l4 s5
  have e3 : s3.mem = s.mem := by
    dsimp only [s3]; repeat' first | (simp -implicitDefEqProofs -proj only [↓planOne_mem]; done) | with_reducible assumption | split | with_reducible refine (each_mem _ _ _ ?_).trans ?_ | with_reducible refine (foldl_mem _ _ _ ?_).trans ?_ | intro _ | simp -implicitDefEqProofs -proj only [↓planOne_mem]
  clear_value s3
  have e5 : s5.mem = s.mem := by
    simp -implicitDefEqProofs -proj only [s5, e3, ↓mem_mk]
  clear_value s5
  simp -implicitDefEqProofs -proj only [e5, ↓planDefer_mem]

theorem disengageNow_mem (s : State) (n : Nat) (k : Nat) : (State.disengageNow s n k).mem = s.mem := by
  unfold State.disengageNow
  extract_lets s1 l2 l3
  have e1 : s1.mem = s.mem := by
    simp -implicitDefEqProofs -proj only [s1, ↓disengagePlan_mem]
  clear_value s1
  split <;> simp -implicitDefEqProofs -proj only [e1, ↓planDefer_mem, ↓setCasH_mem, ↓mem_mk]

theorem showArmed_mem (s : State) : (State.showArmed s).mem = s.mem := by
  simp -implicitDefEqProofs -proj only [State.showArmed, ↓each_mem, ↓setFld_mem, implies_true]

theorem groupGo_mem (s : State) (g : Nat) : (State.groupGo s g).mem = s.mem := by
  unfold State.groupGo
  extract_lets l1
  split <;> simp -implicitDefEqProofs -proj only [↓setFld_mem, ↓setGrp_mem]

theorem groupWait_mem (s : State) (g : Nat) : (State.groupWait s g).mem = s.mem := by
  unfold State.groupWait
  extract_lets l1
  split <;> simp -implicitDefEqProofs -proj only [↓setFld_mem, ↓setGrp_mem]

theorem setGo_mem (s : State) (n : Nat) (k : Nat) (b : Bool) : (State.setGo s n k b).mem = s.mem := by
  unfold State.setGo
  extract_lets l1
  split <;> simp -implicitDefEqProofs -proj only [↓setCasH_mem]

theorem groupAct_mem (s : State) (g : Nat) (k : Nat) : (State.groupAct s g k).mem = s.mem := by
  unfold State.groupAct
  extract_lets l1 l2 l3
  repeat' first | (simp -implicitDefEqProofs -proj only [↓groupWait_mem, ↓setGrp_mem, ↓setGo_mem]; done) | with_reducible assumption | split | with_reducible refine (each_mem _ _ _ ?_).trans ?_ | with_reducible refine (foldl_mem _ _ _ ?_).trans ?_ | intro _ | simp -implicitDefEqProofs -proj only [↓groupWait_mem, ↓setGrp_mem, ↓setGo_mem]

theorem groupStart_mem (s : State) (g : Nat) (k : Nat) : (State.groupStart s g k).mem = s.mem := by
  unfold State.groupStart
  extract_lets l1 s2
  have e2 : s2.mem = s.mem := by
    simp -implicitDefEqProofs -proj only [s2, ↓setFld_mem, ↓setGrp_mem]
  clear_value s2
  repeat' first | (simp -implicitDefEqProofs -proj only [e2, ↓groupWait_mem, ↓setGo_mem, ↓incWrap_mem, ↓setFld_mem]; done) | with_reducible assumption | split | with_reducible refine (each_mem _ _ _ ?_).trans ?_ | with_reducible refine (foldl_mem _ _ _ ?_).trans ?_ | intro _ | simp -implicitDefEqProofs -proj only [e2, ↓groupWait_mem, ↓setGo_mem, ↓incWrap_mem, ↓setFld_mem]

theorem startHead_mem (s : State) (n : Nat) (k : Nat) : (State.startHead s n k).mem = s.mem := by
  unfold State.startHead
  extract_lets l1 l2
  repeat' first | (simp -implicitDefEqProofs -proj only [↓setCasH_mem, ↓chgRes_mem]; done) | with_reducible assumption | split | with_reducible refine (each_mem _ _ _ ?_).trans ?_ | with_reducible refine (foldl_mem _ _ _ ?_).trans ?_ | intro _ | simp -implicitDefEqProofs -proj only [↓setCasH_mem, ↓chgRes_mem]

theorem moveStep_mem (s : State) (n : Nat) (k : Nat) : (State.moveStep s n k).mem = s.mem := by
  unfold State.moveStep
  extract_lets s1 l2 l3 l4 l5
  have e1 : s1.mem = s.mem := by
    simp -implicitDefEqProofs -proj only [s1, ↓startHead_mem]
  clear_value s1
  simp -implicitDefEqProofs -proj only [e1, ↓setCasH_mem]

theorem showSet_mem (s : State) (n : Nat) (p : Rat) (v : Rat) (a : Rat) : (State.showSet s n p v a).mem = s.mem := by
  simp -implicitDefEqProofs -proj only [State.showSet, ↓setReg_mem]

theorem casClear_mem (s : State) (n : Nat) (q : Prof) : (State.casClear s n q).mem = s.mem := by
  unfold State.casClear
  extract_lets s1 l2 s3 s4
  have e1 : s1.mem = s.mem := by
    simp -implicitDefEqProofs -proj only [s1, ↓flushQueue_mem]
  clear_value s1
  have e3 : s3.mem = s.mem := by
    simp -implicitDefEqProofs -proj only [s3, e1, ↓setCasH_mem]
  clear_value s3
  have e4 : s4.mem = s.mem := by
    simp -implicitDefEqProofs -proj only [s4, e3, ↓setReg_mem]
  clear_value s4
  simp -implicitDefEqProofs -proj only [e4, ↓setFlag_mem, ↓setFld_mem]

/-! ### FollowOps -/

theorem lmTake_mem (s : State) (l : Nat) (t : Int) : (State.lmTake s l t).mem = s.mem := by
  unfold State.lmTake
  extract_lets l1 l2 s3 l4 l5
  have e3 : s3.mem = s.mem := by
    dsimp only [s3]; repeat' first | (simp -implicitDefEqProofs -proj only [↓setLm_mem, ↓setFlag_mem, ↓incWrap_mem]; done) | with_reducible assumption | split | with_reducible refine (each_mem _ _ _ ?_).trans ?_ | with_reducible refine (foldl_mem _ _ _ ?_).trans ?_ | intro _ | simp -implicitDefEqProofs -proj only [↓setLm_mem, ↓setFlag_mem, ↓incWrap_mem]
  clear_value s3
  simp -implicitDefEqProofs -proj only [e3, ↓setFld_mem, ↓setLm_mem]

theorem lmPass_mem (s : State) (l : Nat) : (State.lmPass s l).mem = s.mem := by
  unfold State.lmPass
  extract_lets l1 s2 l3 l4 l5 l6 l7 s8 s9
  have e2 : s2.mem = s.mem := by
    simp -implicitDefEqProofs -proj only [s2, ↓lmTake_mem]
  clear_value s2
  have e8 : s8.mem = s.mem := by
    simp -implicitDefEqProofs -proj only [s8, e2, ↓setLm_mem]
  clear_value s8
  have e9 : s9.mem = s.mem := by
    simp -implicitDefEqProofs -proj only [s9, e8, ↓setFlag_mem]
  clear_value s9
  simp -implicitDefEqProofs -proj only [e9, ↓setRegI_mem]

theorem lmPush_mem (s : State) (l : Nat) (re : Bool) : (State.lmPush s l re).mem = s.mem := by
  unfold State.lmPush
  extract_lets l1 l2 s3 l4
  have e3 : s3.mem = s.mem := by
    simp -implicitDefEqProofs -proj only [s3, ↓setFld_mem]
  clear_value s3
  split <;> simp -implicitDefEqProofs -proj only [e3, ↓setFld_mem, ↓setLm_mem]

theorem lmClear_mem (s : State) (l : Nat) : (State.lmClear s l).mem = s.mem := by
  unfold State.lmClear
  extract_lets l1
  simp -implicitDefEqProofs -proj only [↓setFld_mem, ↓setLm_mem]

theorem lmPredict_mem (s : State) (l : Nat) : (State.lmPredict s l).mem = s.mem := by
  unfold State.lmPredict
  extract_lets l1
  simp -implicitDefEqProofs -proj only [↓setFlag_mem, ↓setLm_mem]

theorem lmPredicted_mem (s : State) (l : Nat) : (State.lmPredicted s l).mem = s.mem := by
  unfold State.lmPredicted
  extract_lets l1 l2 l3 l4 s5 s6
  have e5 : s5.mem = s.mem := by
    simp -implicitDefEqProofs -proj only [s5, ↓setLm_mem]
  clear_value s5
  have e6 : s6.mem = s.mem := by
    simp -implicitDefEqProofs -proj only [s6, e5, ↓setFld_mem, ↓setRegN_mem]
  clear_value s6
  simp -implicitDefEqProofs -proj only [e6, ↓setRegI_mem, ↓setFlag_mem]

theorem camCheckStart_mem (s : State) (t : Nat) : (State.camCheckStart s t).mem = s.mem := by
  unfold State.camCheckStart
  extract_lets s1 l2
  have e1 : s1.mem = s.mem := by
    simp -implicitDefEqProofs -proj only [s1, ↓setFlag_mem]
  clear_value s1
  simp -implicitDefEqProofs -proj only [e1, ↓mem_mk]

theorem camChecked_mem (s : State) (t : Nat) : (State.camChecked s t).mem = s.mem := by
  unfold State.camChecked
  extract_lets l1 l2 s3 s4
  have e3 : s3.mem = s.mem := by
    simp -implicitDefEqProofs -proj only [s3, ↓mem_mk]
  clear_value s3
  have e4 : s4.mem = s.mem := by
    simp -implicitDefEqProofs -proj only [s4, e3, ↓setFld_mem, ↓setFlag_mem]
  clear_value s4
  simp -implicitDefEqProofs -proj only [e4, ↓setFlag_mem]

theorem folRes_mem (s : State) (n : Nat) (r : Nat) : (State.folRes s n r).mem = s.mem := by
  simp -implicitDefEqProofs -proj only [State.folRes, ↓setFld_mem]

theorem folShow_mem (s : State) (n : Nat) : (State.folShow s n).mem = s.mem := by
  unfold State.folShow
  extract_lets l1 l2 s3 s4
  have e3 : s3.mem = s.mem := by
    simp -implicitDefEqProofs -proj only [s3, ↓setFld_mem]
  clear_value s3
  have e4 : s4.mem = s.mem := by
    simp -implicitDefEqProofs -proj only [s4, e3, ↓setFlag_mem]
  clear_value s4
  (repeat' split) <;> simp -implicitDefEqProofs -proj only [e4, ↓setFld_mem]

theorem engageUndo_mem (s : State) (n : Nat) : (State.engageUndo s n).mem = s.mem := by
  unfold State.engageUndo
  extract_lets l1 l2 s3 s4 s5
  have e3 : s3.mem = s.mem := by
    simp -implicitDefEqProofs -proj only [s3, ↓addSat_mem]
  clear_value s3
  have e4 : s4.mem = s.mem := by
    dsimp only [s4]; split <;> simp -implicitDefEqProofs -proj only [e3, ↓pushRes_mem]
  clear_value s4
  have e5 : s5.mem = s.mem := by
    dsimp only [s5]; split <;> simp -implicitDefEqProofs -proj only [e4, ↓setCasH_mem, ↓setFlag_mem, ↓chgRes_mem]
  clear_value s5
  (repeat' split) <;> simp -implicitDefEqProofs -proj only [e5, ↓setFld_mem]

theorem engageNow_mem (s : State) (n : Nat) (mv : Int × Int × Int) (rel : Bool) : (State.engageNow s n mv rel).mem = s.mem := by
  unfold State.engageNow
  extract_lets l1 l2 l3 l4 l5 s6 l7 s8 l9 l10 s11
  have e6 : s6.mem = s.mem := by
    simp -implicitDefEqProofs -proj only [s6, ↓setCasH_mem]
  clear_value s6
  have e8 : s8.mem = s.mem := by
    simp -implicitDefEqProofs -proj only [s8, e6, ↓engageUndo_mem]
  clear_value s8
  have e11 : s11.mem = s.mem := by
    simp -implicitDefEqProofs -proj only [s11, e8, ↓setCasH_mem]
  clear_value s11
  split <;> simp -implicitDefEqProofs -proj only [e6, e11, ↓folRes_mem, ↓setFld_mem]

theorem engageAct_mem (s : State) (n : Nat) (mv : Int × Int × Int) (atPos : Bool) (x : Nat) (rel : Bool) : (State.engageAct s n mv atPos x rel).mem = s.mem := by
  unfold State.engageAct
  extract_lets l1 l2
  (repeat' split) <;> simp -implicitDefEqProofs -proj only [↓folRes_mem, ↓limRefused_mem, ↓setCasH_mem, ↓engageNow_mem]

theorem engageCrossing_mem (s : State) (n : Nat) (mv : Int × Int × Int) : (State.engageCrossing s n mv).mem = s.mem := by
  unfold State.engageCrossing
  extract_lets l1
  (repeat' split) <;> simp -implicitDefEqProofs -proj only [↓engageNow_mem]

theorem switchAct_mem (s : State) (n : Nat) (x : Nat) (tb : Nat) (force : Bool) : (State.switchAct s n x tb force).mem = s.mem := by
  unfold State.switchAct
  extract_lets l1 l2 l3
  repeat' first | (simp -implicitDefEqProofs -proj only [↓folRes_mem, ↓setCasH_mem]; done) | with_reducible assumption | split | with_reducible refine (each_mem _ _ _ ?_).trans ?_ | with_reducible refine (foldl_mem _ _ _ ?_).trans ?_ | intro _ | simp -implicitDefEqProofs -proj only [↓folRes_mem, ↓setCasH_mem]

theorem folCancel_mem (s : State) (n : Nat) : (State.folCancel s n).mem = s.mem := by
  unfold State.folCancel
  extract_lets l1
  split <;> simp -implicitDefEqProofs -proj only [↓folRes_mem, ↓setCasH_mem]

theorem switchCrossing_mem (s : State) (n : Nat) (m : Int) : (State.switchCrossing s n m).mem = s.mem := by
  unfold State.switchCrossing
  extract_lets l1
  repeat' first | (simp -implicitDefEqProofs -proj only [↓folRes_mem, ↓setCasH_mem]; done) | with_reducible assumption | split | with_reducible refine (each_mem _ _ _ ?_).trans ?_ | with_reducible refine (foldl_mem _ _ _ ?_).trans ?_ | intro _ | simp -implicitDefEqProofs -proj only [↓folRes_mem, ↓setCasH_mem]

theorem disengageAct_mem (s : State) (n : Nat) (k : Nat) (atPos : Bool) (x : Nat) : (State.disengageAct s n k atPos x).mem = s.mem := by
  unfold State.disengageAct
  extract_lets l1
  (repeat' split) <;> simp -implicitDefEqProofs -proj only [↓folRes_mem, ↓setCasH_mem, ↓disengageNow_mem]

theorem disengageCrossing_mem (s : State) (n : Nat) (k : Nat) (m : Int) : (State.disengageCrossing s n k m).mem = s.mem := by
  unfold State.disengageCrossing
  extract_lets l1
  repeat' first | (simp -implicitDefEqProofs -proj only [↓disengageNow_mem, ↓setCasH_mem]; done) | with_reducible assumption | split | with_reducible refine (each_mem _ _ _ ?_).trans ?_ | with_reducible refine (foldl_mem _ _ _ ?_).trans ?_ | intro _ | simp -implicitDefEqProofs -proj only [↓disengageNow_mem, ↓setCasH_mem]

theorem followStep_mem (s : State) (n : Nat) (e : EngH) (mv : Int × Int × Int) : (State.followStep s n e mv).mem = s.mem := by
  unfold State.followStep
  extract_lets l1 l2 l3 l4 l5 l6 l7 s8 s9 l10 l11 s12
  have e8 : s8.mem = s.mem := by
    simp -implicitDefEqProofs -proj only [s8, ↓setFld_mem]
  clear_value s8
  have e9 : s9.mem = s.mem := by
    simp -implicitDefEqProofs -proj only [s9, e8, ↓setFlag_mem]
  clear_value s9
  have e12 : s12.mem = s.mem := by
    simp -implicitDefEqProofs -proj only [s12, e9, ↓setCasH_mem]
  clear_value s12
  simp -implicitDefEqProofs -proj only [e12, ↓setReg_mem]

theorem pullTailPut_mem (s : State) (off : Nat) (l : List Byte) : (State.pullTailPut s off l).mem = s.mem := by
  unfold State.pullTailPut
  extract_lets l1 l2 s3 l4
  have e3 : s3.mem = s.mem := by
    simp -implicitDefEqProofs -proj only [s3, ↓each_mem, ↓setRegN_mem, implies_true]
  clear_value s3
  simp -implicitDefEqProofs -proj only [e3, ↓each_mem, ↓setFld_mem, ↓setLm_mem, implies_true]

/-! ### StopOps -/

theorem stopRequest_mem (s : State) (n : Nat) (cls : Nat) (fault : Bool) (ready : Bool) (sto : Bool) : (State.stopRequest s n cls fault ready sto).mem = s.mem := by
  unfold State.stopRequest
  extract_lets l1 l2 s3 s4
  have e3 : s3.mem = s.mem := by
    simp -implicitDefEqProofs -proj only [s3, ↓setAx_mem, ↓homeAbort_mem]
  clear_value s3
  have e4 : s4.mem = s.mem := by
    simp -implicitDefEqProofs -proj only [s4, e3, ↓setFld_mem]
  clear_value s4
  (repeat' split) <;> simp -implicitDefEqProofs -proj only [e4, ↓setStop_mem]

theorem stoRequest_mem (s : State) (n : Nat) : (State.stoRequest s n).mem = s.mem := by
  unfold State.stoRequest
  extract_lets l1 l2
  split <;> simp -implicitDefEqProofs -proj only [↓setZone_mem]

theorem axRest_mem (s : State) (n : Nat) (st : Nat) : (State.axRest s n st).mem = s.mem := by
  unfold State.axRest
  extract_lets s1 l2
  have e1 : s1.mem = s.mem := by
    simp -implicitDefEqProofs -proj only [s1, ↓setAx_mem, ↓homeAbort_mem]
  clear_value s1
  simp -implicitDefEqProofs -proj only [e1, ↓setStop_mem]

theorem groupFault_mem (s : State) (n : Nat) : (State.groupFault s n).mem = s.mem := by
  unfold State.groupFault
  split <;> simp -implicitDefEqProofs -proj only [↓each_mem, ↓setAxis_mem, implies_true]

theorem rampEnd_mem (s : State) (n : Nat) : (State.rampEnd s n).mem = s.mem := by
  unfold State.rampEnd
  extract_lets l1 l2 l3 s4 s5 s6
  have e4 : s4.mem = s.mem := by
    simp -implicitDefEqProofs -proj only [s4, ↓setCasH_mem]
  clear_value s4
  have e5 : s5.mem = s.mem := by
    simp -implicitDefEqProofs -proj only [s5, e4, ↓groupFault_mem, ↓axRest_mem]
  clear_value s5
  have e6 : s6.mem = s.mem := by
    simp -implicitDefEqProofs -proj only [s6, e4, ↓setAx_mem]
  clear_value s6
  (repeat' split) <;> simp -implicitDefEqProofs -proj only [e4, e5, e6, ↓stoRequest_mem, ↓axRest_mem, ↓setStop_mem]

theorem rampPlan_mem (s : State) (n : Nat) : (State.rampPlan s n).mem = s.mem := by
  unfold State.rampPlan
  extract_lets l1 l2 l3 l4 l5 s6
  have e6 : s6.mem = s.mem := by
    simp -implicitDefEqProofs -proj only [s6, ↓setCasH_mem]
  clear_value s6
  split <;> simp -implicitDefEqProofs -proj only [e6, ↓setStop_mem]

theorem rampStep_mem (s : State) (n : Nat) : (State.rampStep s n).mem = s.mem := by
  unfold State.rampStep
  extract_lets s1 l2 l3 s4 l5
  have e1 : s1.mem = s.mem := by
    simp -implicitDefEqProofs -proj only [s1, ↓rampPlan_mem]
  clear_value s1
  have e4 : s4.mem = s.mem := by
    simp -implicitDefEqProofs -proj only [s4, e1, ↓setCasH_mem]
  clear_value s4
  simp -implicitDefEqProofs -proj only [e4, ↓setStop_mem]

theorem stopTimeout_mem (s : State) (n : Nat) : (State.stopTimeout s n).mem = s.mem := by
  unfold State.stopTimeout
  extract_lets l1
  simp -implicitDefEqProofs -proj only [↓detect_mem, ↓setStop_mem]

theorem restBoundary_mem (s : State) (n : Nat) : (State.restBoundary s n).mem = s.mem := by
  unfold State.restBoundary
  extract_lets l1 l2 l3 s4 l5 s6
  have e4 : s4.mem = s.mem := by
    dsimp only [s4]; split <;> simp -implicitDefEqProofs -proj only [↓setFlag_mem]
  clear_value s4
  have e6 : s6.mem = s.mem := by
    simp -implicitDefEqProofs -proj only [s6, e4, ↓setStop_mem]
  clear_value s6
  split <;> simp -implicitDefEqProofs -proj only [e6, ↓incSat_mem]

theorem crBoundary_mem (s : State) (n : Nat) : (State.crBoundary s n).mem = s.mem := by
  unfold State.crBoundary
  split <;> simp -implicitDefEqProofs -proj only [↓setFlag_mem]

theorem restSet_mem (s : State) (n : Nat) : (State.restSet s n).mem = s.mem := by
  unfold State.restSet
  extract_lets l1
  simp -implicitDefEqProofs -proj only [↓setStop_mem, ↓setFlag_mem]

theorem crSet_mem (s : State) (n : Nat) : (State.crSet s n).mem = s.mem := by
  simp -implicitDefEqProofs -proj only [State.crSet, ↓setFlag_mem]

theorem homeArm_mem (s : State) (n : Nat) : (State.homeArm s n).mem = s.mem := by
  unfold State.homeArm
  extract_lets l1 s2 l3 l4
  have e2 : s2.mem = s.mem := by
    simp -implicitDefEqProofs -proj only [s2, ↓setHome_mem]
  clear_value s2
  (repeat' split) <;> simp -implicitDefEqProofs -proj only [e2, ↓setFb_mem, ↓latchArm_mem]

theorem homeCapture_mem (s : State) (n : Nat) : (State.homeCapture s n).mem = s.mem := by
  unfold State.homeCapture
  extract_lets l1 s2
  have e2 : s2.mem = s.mem := by
    simp -implicitDefEqProofs -proj only [s2, ↓setReg_mem]
  clear_value s2
  split <;> simp -implicitDefEqProofs -proj only [e2, ↓latchDisarm_mem, ↓setFlag_mem]

theorem toggle_mem (s : State) (n : Nat) : (State.toggle s n).mem = s.mem := by
  simp -implicitDefEqProofs -proj only [State.toggle, ↓incSat_mem]

theorem homeAccept_mem (s : State) (n : Nat) (p : Word48) : (State.homeAccept s n p).mem = s.mem := by
  unfold State.homeAccept
  extract_lets l1 s2
  have e2 : s2.mem = s.mem := by
    simp -implicitDefEqProofs -proj only [s2, ↓setHome_mem]
  clear_value s2
  simp -implicitDefEqProofs -proj only [e2, ↓setFld_mem]

theorem homeStop_mem (s : State) (n : Nat) (res : Nat) : (State.homeStop s n res).mem = s.mem := by
  unfold State.homeStop
  extract_lets l1 s2
  have e2 : s2.mem = s.mem := by
    simp -implicitDefEqProofs -proj only [s2, ↓setHome_mem]
  clear_value s2
  simp -implicitDefEqProofs -proj only [e2, ↓setFld_mem]

theorem refEdge_mem (s : State) (n : Nat) (active : Bool) (p : Word48) : (State.refEdge s n active p).mem = s.mem := by
  unfold State.refEdge
  extract_lets l1 s2 s3
  have e2 : s2.mem = s.mem := by
    simp -implicitDefEqProofs -proj only [s2, ↓setHome_mem]
  clear_value s2
  have e3 : s3.mem = s.mem := by
    simp -implicitDefEqProofs -proj only [s3, ↓toggle_mem]
  clear_value s3
  (repeat' split) <;> simp -implicitDefEqProofs -proj only [e2, e3, ↓homeCapture_mem, ↓setFld_mem, ↓homeStop_mem]

theorem rawChange_mem (s : State) (n : Nat) (i : Nat) (active : Bool) : (State.rawChange s n i active).mem = s.mem := by
  unfold State.rawChange
  extract_lets s1 s2
  have e1 : s1.mem = s.mem := by
    simp -implicitDefEqProofs -proj only [s1, ↓setFlag_mem]
  clear_value s1
  have e2 : s2.mem = s.mem := by
    simp -implicitDefEqProofs -proj only [s2, e1, ↓setStop_mem]
  clear_value s2
  (repeat' split) <;> simp -implicitDefEqProofs -proj only [e2, ↓refEdge_mem]

theorem gpioEdge_mem (s : State) (n : Nat) (i : Nat) (level : Bool) : (State.gpioEdge s n i level).mem = s.mem := by
  unfold State.gpioEdge
  extract_lets l1
  split <;> simp -implicitDefEqProofs -proj only [↓rawChange_mem]

theorem recordInputs_mem (s : State) (n : Nat) (r : List Byte) : (State.recordInputs s n r).mem = s.mem := by
  unfold State.recordInputs
  repeat' first | (simp -implicitDefEqProofs -proj only [↓each_mem, ↓rawChange_mem, ↓setStop_mem, implies_true]; done) | with_reducible assumption | split | with_reducible refine (each_mem _ _ _ ?_).trans ?_ | with_reducible refine (foldl_mem _ _ _ ?_).trans ?_ | intro _ | simp -implicitDefEqProofs -proj only [↓each_mem, ↓rawChange_mem, ↓setStop_mem, implies_true]

theorem recordLatch_mem (s : State) (n : Nat) (r : List Byte) : (State.recordLatch s n r).mem = s.mem := by
  unfold State.recordLatch
  extract_lets l1 l2 l3 s4 l5 l6
  have e4 : s4.mem = s.mem := by
    simp -implicitDefEqProofs -proj only [s4, ↓setFb_mem]
  clear_value s4
  (repeat' split) <;> simp -implicitDefEqProofs -proj only [e4, ↓homeAccept_mem, ↓setFld_mem, ↓setHome_mem]

theorem recordStop_mem (s : State) (n : Nat) (r : List Byte) : (State.recordStop s n r).mem = s.mem := by
  unfold State.recordStop
  extract_lets s1
  have e1 : s1.mem = s.mem := by
    simp -implicitDefEqProofs -proj only [s1, ↓recordInputs_mem]
  clear_value s1
  split <;> simp -implicitDefEqProofs -proj only [e1, ↓recordLatch_mem]

theorem limitHit_mem (s : State) (n : Nat) (i : Nat) : (State.limitHit s n i).mem = s.mem := by
  unfold State.limitHit
  extract_lets l1 l2 s3 s4
  have e3 : s3.mem = s.mem := by
    simp -implicitDefEqProofs -proj only [s3, ↓setFld_mem]
  clear_value s3
  have e4 : s4.mem = s.mem := by
    simp -implicitDefEqProofs -proj only [s4, e3, ↓setHome_mem]
  clear_value s4
  (repeat' split) <;> simp -implicitDefEqProofs -proj only [e3, e4, ↓setFld_mem, ↓setFlag_mem, ↓homeStop_mem]

theorem homeDebounce_mem (s : State) (n : Nat) (i : Nat) (active : Bool) : (State.homeDebounce s n i active).mem = s.mem := by
  unfold State.homeDebounce
  extract_lets l1
  (repeat' split) <;> simp -implicitDefEqProofs -proj only [↓setFld_mem, ↓setHome_mem, ↓homeAccept_mem, ↓homeArm_mem, ↓limitHit_mem]

theorem debounce_mem (s : State) (n : Nat) (i : Nat) : (State.debounce s n i).mem = s.mem := by
  unfold State.debounce
  extract_lets l1 s2 l3 s4
  have e2 : s2.mem = s.mem := by
    simp -implicitDefEqProofs -proj only [s2, ↓setFlag_mem]
  clear_value s2
  have e4 : s4.mem = s.mem := by
    dsimp only [s4]; split <;> simp -implicitDefEqProofs -proj only [e2, ↓setStop_mem]
  clear_value s4
  (repeat' split) <;> simp -implicitDefEqProofs -proj only [e4, ↓homeDebounce_mem, ↓detect_mem, ↓setFlag_mem]

theorem blockEnd_mem (s : State) (n : Nat) (i : Nat) : (State.blockEnd s n i).mem = s.mem := by
  simp -implicitDefEqProofs -proj only [State.blockEnd, ↓setFlag_mem]

theorem limClr_mem (s : State) (n : Nat) : (State.limClr s n).mem = s.mem := by
  simp -implicitDefEqProofs -proj only [State.limClr, ↓setFld_mem]

theorem homeOrder_mem (s : State) (n : Nat) : (State.homeOrder s n).mem = s.mem := by
  unfold State.homeOrder
  extract_lets l1
  split <;> simp -implicitDefEqProofs -proj only [↓setFld_mem, ↓casPut_mem]

theorem homeStart_mem (s : State) (n : Nat) : (State.homeStart s n).mem = s.mem := by
  unfold State.homeStart
  extract_lets l1 l2 l3 l4 l5 l6 s7 s8 s9 l10 s11 s12 l13 s14
  have e7 : s7.mem = s.mem := by
    simp -implicitDefEqProofs -proj only [s7, ↓setFlag_mem, ↓setFld_mem]
  clear_value s7
  have e8 : s8.mem = s.mem := by
    simp -implicitDefEqProofs -proj only [s8, e7, ↓setFld_mem, ↓setFlag_mem]
  clear_value s8
  have e9 : s9.mem = s.mem := by
    simp -implicitDefEqProofs -proj only [s9, e8, ↓setFld_mem]
  clear_value s9
  have e11 : s11.mem = s.mem := by
    simp -implicitDefEqProofs -proj only [s11, e9, ↓setCasH_mem]
  clear_value s11
  have e12 : s12.mem = s.mem := by
    simp -implicitDefEqProofs -proj only [s12, e11, ↓setHome_mem]
  clear_value s12
  have e14 : s14.mem = s.mem := by
    simp -implicitDefEqProofs -proj only [s14, e11, ↓setHome_mem]
  clear_value s14
  (repeat' split) <;> simp -implicitDefEqProofs -proj only [e11, e12, e14, ↓setFld_mem, ↓setFlag_mem, ↓setHome_mem, ↓homeAccept_mem, ↓homeArm_mem]

theorem homeAbortOrder_mem (s : State) (n : Nat) : (State.homeAbortOrder s n).mem = s.mem := by
  unfold State.homeAbortOrder
  extract_lets l1
  split <;> simp -implicitDefEqProofs -proj only [↓setFld_mem, ↓casPut_mem]

theorem homeCancel_mem (s : State) (n : Nat) : (State.homeCancel s n).mem = s.mem := by
  unfold State.homeCancel
  split <;> simp -implicitDefEqProofs -proj only [↓homeStop_mem]

theorem homeAtRest_mem (s : State) (n : Nat) : (State.homeAtRest s n).mem = s.mem := by
  unfold State.homeAtRest
  extract_lets l1 l2 l3 s4
  have e4 : s4.mem = s.mem := by
    simp -implicitDefEqProofs -proj only [s4, ↓setHome_mem]
  clear_value s4
  (repeat' split) <;> simp -implicitDefEqProofs -proj only [e4, ↓homeFinish_mem, ↓setFlag_mem, ↓setHome_mem, ↓setFld_mem, ↓homeArm_mem]

theorem homeStep_mem (s : State) (n : Nat) : (State.homeStep s n).mem = s.mem := by
  unfold State.homeStep
  extract_lets l1 l2 l3 l4 l5 l6 l7 s8 l9 s10
  have e8 : s8.mem = s.mem := by
    simp -implicitDefEqProofs -proj only [s8, ↓setCasH_mem]
  clear_value s8
  have e10 : s10.mem = s.mem := by
    simp -implicitDefEqProofs -proj only [s10, e8, ↓setHome_mem]
  clear_value s10
  (repeat' split) <;> simp -implicitDefEqProofs -proj only [e10, ↓homeStop_mem, ↓homeAtRest_mem, ↓setFld_mem, ↓homeArm_mem]

theorem winReject_mem (s : State) (n : Nat) : (State.winReject s n).mem = s.mem := by
  simp -implicitDefEqProofs -proj only [State.winReject, ↓homeArm_mem, ↓incSat_mem]

theorem homeIndex_mem (s : State) (c : Nat) : (State.homeIndex s c).mem = s.mem := by
  unfold State.homeIndex
  repeat' first | (simp -implicitDefEqProofs -proj only [↓homeAccept_mem, ↓setFld_mem, ↓homeCapture_mem]; done) | with_reducible assumption | split | with_reducible refine (each_mem _ _ _ ?_).trans ?_ | with_reducible refine (foldl_mem _ _ _ ?_).trans ?_ | intro _ | simp -implicitDefEqProofs -proj only [↓homeAccept_mem, ↓setFld_mem, ↓homeCapture_mem]

theorem homeLatched_mem (s : State) (c : Nat) (l : Nat) : (State.homeLatched s c l).mem = s.mem := by
  unfold State.homeLatched
  repeat' first | (simp -implicitDefEqProofs -proj only [↓setHome_mem]; done) | with_reducible assumption | split | with_reducible refine (each_mem _ _ _ ?_).trans ?_ | with_reducible refine (foldl_mem _ _ _ ?_).trans ?_ | intro _ | simp -implicitDefEqProofs -proj only [↓setHome_mem]

theorem dwellBoundary_mem (s : State) (n : Nat) : (State.dwellBoundary s n).mem = s.mem := by
  unfold State.dwellBoundary
  extract_lets l1
  (repeat' split) <;> simp -implicitDefEqProofs -proj only [↓setFld_mem, ↓setHome_mem]

theorem dwellEnd_mem (s : State) (n : Nat) : (State.dwellEnd s n).mem = s.mem := by
  unfold State.dwellEnd
  extract_lets l1 l2 l3 s4 s5 l6 s7
  have e4 : s4.mem = s.mem := by
    simp -implicitDefEqProofs -proj only [s4, ↓setCasH_mem]
  clear_value s4
  have e5 : s5.mem = s.mem := by
    simp -implicitDefEqProofs -proj only [s5, e4, ↓showSet_mem]
  clear_value s5
  have e7 : s7.mem = s.mem := by
    simp -implicitDefEqProofs -proj only [s7, e5, ↓setHome_mem]
  clear_value s7
  simp -implicitDefEqProofs -proj only [e7, ↓homeAccept_mem]

theorem homeShift_mem (s : State) (n : Nat) : (State.homeShift s n).mem = s.mem := by
  unfold State.homeShift
  extract_lets l1
  (repeat' split) <;> simp -implicitDefEqProofs -proj only [↓homeFinish_mem, ↓setRegI_mem, ↓setCasH_mem, ↓setReg_mem, ↓setHome_mem]

theorem showActive_mem (s : State) (n : Nat) : (State.showActive s n).mem = s.mem := by
  unfold State.showActive
  extract_lets l1 s2
  have e2 : s2.mem = s.mem := by
    simp -implicitDefEqProofs -proj only [s2, ↓setFld_mem]
  clear_value s2
  simp -implicitDefEqProofs -proj only [e2, ↓setFlag_mem]

theorem boundaryCauses_mem (s : State) (n : Nat) : (State.boundaryCauses s n).mem = s.mem := by
  unfold State.boundaryCauses
  extract_lets l1 l2 l3 s4 s5 l6 l7 l8 l9 l10 l11 s12 s13
  have e4 : s4.mem = s.mem := by
    dsimp only [s4]; split <;> simp -implicitDefEqProofs -proj only [↓setAxis_mem, ↓doIf_mem, ↓detect_mem, ↓setAgeFault_mem, implies_true]
  clear_value s4
  have e5 : s5.mem = s.mem := by
    dsimp only [s5]; split <;> simp -implicitDefEqProofs -proj only [e4, ↓detect_mem]
  clear_value s5
  have e12 : s12.mem = s.mem := by
    simp -implicitDefEqProofs -proj only [s12, e5, ↓setStop_mem]
  clear_value s12
  have e13 : s13.mem = s.mem := by
    dsimp only [s13]; split <;> simp -implicitDefEqProofs -proj only [e12, ↓detect_mem]
  clear_value s13
  split <;> simp -implicitDefEqProofs -proj only [e13, ↓detect_mem]

theorem latchCauses_mem (s : State) (n : Nat) : (State.latchCauses s n).2.mem = s.mem := by
  unfold State.latchCauses
  extract_lets l1 l2 s3 l4 l5 s6 s7 s8
  have e3 : s3.mem = s.mem := by
    simp -implicitDefEqProofs -proj only [s3, ↓setAxis_mem]
  clear_value s3
  have e6 : s6.mem = s.mem := by
    simp -implicitDefEqProofs -proj only [s6, e3, ↓setFld_mem]
  clear_value s6
  have e7 : s7.mem = s.mem := by
    dsimp only [s7]; split <;> simp -implicitDefEqProofs -proj only [e6, ↓setReg_mem, ↓setFld_mem]
  clear_value s7
  have e8 : s8.mem = s.mem := by
    dsimp only [s8]; split <;> simp -implicitDefEqProofs -proj only [e7, ↓setFlag_mem]
  clear_value s8
  split <;> simp -implicitDefEqProofs only [e3, e8, ↓raiseIf_mem]

theorem react_mem (s : State) (n : Nat) (r : Nat) (sto : Bool) : (State.react s n r sto).mem = s.mem := by
  unfold State.react
  extract_lets l1 s2 l3 l4 s5 l6 s7
  have e2 : s2.mem = s.mem := by
    dsimp only [s2]; split <;> simp -implicitDefEqProofs -proj only [↓setFld_mem]
  clear_value s2
  have e5 : s5.mem = s.mem := by
    simp -implicitDefEqProofs -proj only [s5, e2, ↓groupFault_mem, ↓axRest_mem]
  clear_value s5
  have e7 : s7.mem = s.mem := by
    simp -implicitDefEqProofs -proj only [s7, e2, ↓stopRequest_mem]
  clear_value s7
  (repeat' split) <;> simp -implicitDefEqProofs -proj only [e2, e5, e7, ↓stoRequest_mem, ↓groupFault_mem]

theorem faultBoundary_mem (s : State) (n : Nat) : (State.faultBoundary s n).mem = s.mem := by
  unfold State.faultBoundary
  extract_lets s1 l2 s3
  have e1 : s1.mem = s.mem := by
    simp -implicitDefEqProofs -proj only [s1, ↓boundaryCauses_mem]
  clear_value s1
  have e3 : s3.mem = s.mem := by
    simp -implicitDefEqProofs -proj only [s3, e1, l2, ↓latchCauses_mem]
  clear_value s3
  (repeat' split) <;> simp -implicitDefEqProofs -proj only [e3, ↓react_mem]

theorem zoneBoundary_mem (s : State) (n : Nat) : (State.zoneBoundary s n).mem = s.mem := by
  unfold State.zoneBoundary
  extract_lets l1 s2 s3 s4
  have e2 : s2.mem = s.mem := by
    simp -implicitDefEqProofs -proj only [s2, ↓setFlag_mem]
  clear_value s2
  have e3 : s3.mem = s.mem := by
    dsimp only [s3]; split <;> simp -implicitDefEqProofs -proj only [e2, ↓axRest_mem]
  clear_value s3
  have e4 : s4.mem = s.mem := by
    dsimp only [s4]; split <;> simp -implicitDefEqProofs -proj only [e3, ↓stopRequest_mem]
  clear_value s4
  simp -implicitDefEqProofs -proj only [e4, ↓setFlag_mem]

theorem groupBoundary_mem (s : State) (n : Nat) : (State.groupBoundary s n).mem = s.mem := by
  unfold State.groupBoundary
  extract_lets l1 s2 s3
  have e2 : s2.mem = s.mem := by
    simp -implicitDefEqProofs -proj only [s2, ↓setAxis_mem]
  clear_value s2
  have e3 : s3.mem = s.mem := by
    simp -implicitDefEqProofs -proj only [s3, e2, ↓stopRequest_mem]
  clear_value s3
  (repeat' split) <;> simp -implicitDefEqProofs -proj only [e2, e3, ↓setFld_mem]

theorem resetCauses_mem (s : State) (n : Nat) : (State.resetCauses s n).mem = s.mem := by
  unfold State.resetCauses
  extract_lets l1 l2 l3 s4
  have e4 : s4.mem = s.mem := by
    simp -implicitDefEqProofs -proj only [s4, ↓setFld_mem]
  clear_value s4
  split <;> simp -implicitDefEqProofs -proj only [e4, ↓setFld_mem]

theorem enable_mem (s : State) (n : Nat) : (State.enable s n).mem = s.mem := by
  unfold State.enable
  extract_lets s1 l2 l3 s4 l5 s6
  have e1 : s1.mem = s.mem := by
    simp -implicitDefEqProofs -proj only [s1, ↓setAx_mem]
  clear_value s1
  have e4 : s4.mem = s.mem := by
    simp -implicitDefEqProofs -proj only [s4, e1, ↓setCasH_mem]
  clear_value s4
  have e6 : s6.mem = s.mem := by
    simp -implicitDefEqProofs -proj only [s6, e4, ↓setStop_mem]
  clear_value s6
  simp -implicitDefEqProofs -proj only [e6, ↓showSet_mem]

theorem cmdBoundary_mem (s : State) (n : Nat) : (State.cmdBoundary s n).mem = s.mem := by
  unfold State.cmdBoundary
  extract_lets l1 l2 l3 l4 s5
  have e5 : s5.mem = s.mem := by
    simp -implicitDefEqProofs -proj only [s5, ↓showActive_mem, ↓resetCauses_mem]
  clear_value s5
  (repeat' split) <;> simp -implicitDefEqProofs -proj only [e5, ↓cmdDone_mem, ↓enable_mem, ↓axRest_mem, ↓stopRequest_mem, ↓logViolation_mem, ↓setAx_mem]

theorem moveBoundary_mem (s : State) (n : Nat) : (State.moveBoundary s n).mem = s.mem := by
  unfold State.moveBoundary
  extract_lets l1 l2 l3
  repeat' first | (simp -implicitDefEqProofs -proj only [l3, ↓setAx_mem, ↓setCasH_mem, ↓setFlag_mem]; done) | with_reducible assumption | split | with_reducible refine (each_mem _ _ _ ?_).trans ?_ | with_reducible refine (foldl_mem _ _ _ ?_).trans ?_ | intro _ | simp -implicitDefEqProofs -proj only [l3, ↓setAx_mem, ↓setCasH_mem, ↓setFlag_mem]

theorem axisBoundary_mem (s : State) (n : Nat) : (State.axisBoundary s n).mem = s.mem := by
  unfold State.axisBoundary
  extract_lets s1 l2 s3 l4 s5 s6 s7 s8 s9 s10 s11
  have e1 : s1.mem = s.mem := by
    dsimp only [s1]; split <;> simp -implicitDefEqProofs -proj only [↓setAx_mem]
  clear_value s1
  have e3 : s3.mem = s.mem := by
    simp -implicitDefEqProofs -proj only [s3, e1, ↓setAxis_mem]
  clear_value s3
  have e5 : s5.mem = s.mem := by
    simp -implicitDefEqProofs -proj only [s5, e3, ↓setStop_mem]
  clear_value s5
  have e6 : s6.mem = s.mem := by
    simp -implicitDefEqProofs -proj only [s6, e1, ↓homeShift_mem, ↓rampEnd_mem]
  clear_value s6
  have e7 : s7.mem = s.mem := by
    simp -implicitDefEqProofs -proj only [s7, e6, ↓dwellBoundary_mem, ↓restBoundary_mem]
  clear_value s7
  have e8 : s8.mem = s.mem := by
    simp -implicitDefEqProofs -proj only [s8, e7, ↓faultBoundary_mem]
  clear_value s8
  have e9 : s9.mem = s.mem := by
    simp -implicitDefEqProofs -proj only [s9, e8, ↓groupBoundary_mem, ↓zoneBoundary_mem]
  clear_value s9
  have e10 : s10.mem = s.mem := by
    simp -implicitDefEqProofs -proj only [s10, e9, ↓showActive_mem]
  clear_value s10
  have e11 : s11.mem = s.mem := by
    simp -implicitDefEqProofs -proj only [s11, e10, ↓cmdBoundary_mem]
  clear_value s11
  (repeat' split) <;> simp -implicitDefEqProofs -proj only [e1, e5, e11, ↓crBoundary_mem, ↓restBoundary_mem, ↓showActive_mem, ↓moveBoundary_mem]

theorem fixField_wf (s : State) (n : Nat) (off : Nat) (lo : Nat) (w : Nat) (sg : Bool) (mn : Int) (mx : Int) (h : Memory.wf s.mem = true) : Memory.wf (State.fixField s n off lo w sg mn mx).mem = true := by
  unfold State.fixField
  extract_lets l1 l2 l3
  split <;> simp -implicitDefEqProofs -proj only [h, ↓setCsFlags_mem, ↓setBank_wf]

theorem fixReact_wf (s : State) (n : Nat) (off : Nat) (lo : Nat) (noZero : Bool) (h : Memory.wf s.mem = true) : Memory.wf (State.fixReact s n off lo noZero).mem = true := by
  unfold State.fixReact
  extract_lets l1
  split <;> simp -implicitDefEqProofs -proj only [h, ↓setFlag_mem, ↓setBank_wf]

theorem fixParams_wf (s : State) (n : Nat) (h : Memory.wf s.mem = true) : Memory.wf (State.fixParams s n).mem = true := by
  unfold State.fixParams
  extract_lets s1 s2 s3 s4 s5
  have e1 : Memory.wf s1.mem = true := by
    dsimp only [s1]; repeat' first | (simp -implicitDefEqProofs -proj only [h, ↓fixField_wf]; done) | with_reducible assumption | split | with_reducible refine each_wf _ _ _ ?_ ?_ | with_reducible refine foldl_wf _ _ _ ?_ ?_ | with_reducible refine fixField_wf _ _ _ _ _ _ _ _ ?_ | intro _ | simp -implicitDefEqProofs -proj only [h, ↓fixField_wf]
  clear_value s1
  have e2 : Memory.wf s2.mem = true := by
    simp -implicitDefEqProofs -proj only [s2, e1, ↓fixField_wf]
  clear_value s2
  have e3 : Memory.wf s3.mem = true := by
    dsimp only [s3]; split <;> simp -implicitDefEqProofs -proj only [e2, ↓setCsFlags_mem, ↓setBank_wf]
  clear_value s3
  have e4 : Memory.wf s4.mem = true := by
    simp -implicitDefEqProofs -proj only [s4, e3, ↓fixReact_wf]
  clear_value s4
  have e5 : Memory.wf s5.mem = true := by
    dsimp only [s5]; repeat' first | (simp -implicitDefEqProofs -proj only [h, e4, ↓each_mem, ↓each_wf, ↓fixReact_wf, implies_true]; done) | with_reducible assumption | split | with_reducible refine each_wf _ _ _ ?_ ?_ | with_reducible refine foldl_wf _ _ _ ?_ ?_ | with_reducible refine fixReact_wf _ _ _ _ _ ?_ | intro _ | simp -implicitDefEqProofs -proj only [h, e4, ↓each_mem, ↓each_wf, ↓fixReact_wf, implies_true]
  clear_value s5
  simp -implicitDefEqProofs -proj only [e5, ↓mirrorCfg_mem, ↓fixCoefs_wf]

/-! ### CascadeOps -/

theorem passState_mem (s : State) (n : Nat) : (State.passState s n).mem = s.mem := by
  unfold State.passState
  extract_lets l1 l2 l3 s4 l5 l6 l7
  have e4 : s4.mem = s.mem := by
    simp -implicitDefEqProofs -proj only [s4, ↓casClear_mem]
  clear_value s4
  (repeat' split) <;> simp -implicitDefEqProofs -proj only [e4, ↓casClear_mem, ↓showSet_mem, ↓setCasH_mem]

theorem queueCmd_mem (n : Nat) (k : Nat) (s : State) (c : CasCmd) : (State.queueCmd n k s c).mem = s.mem := by
  unfold State.queueCmd
  split <;> simp -implicitDefEqProofs -proj only [↓flushAct_mem, ↓pushAct_mem, ↓homeStart_mem, ↓homeCancel_mem]

theorem changeCmd_mem (n : Nat) (k : Nat) (s : State) (c : CasCmd) : (State.changeCmd n k s c).mem = s.mem := by
  unfold State.changeCmd
  split <;> simp -implicitDefEqProofs -proj only [↓changeAct_mem]

theorem followCmd_mem (n : Nat) (k : Nat) (mv : Int × Int × Int) (s : State) (c : CasCmd) : (State.followCmd n k mv s c).mem = s.mem := by
  unfold State.followCmd
  split <;> simp -implicitDefEqProofs -proj only [↓engageAct_mem, ↓disengageAct_mem, ↓switchAct_mem, ↓folCancel_mem]

theorem passQueue_mem (s : State) (n : Nat) (k : Nat) : (State.passQueue s n k).mem = s.mem := by
  unfold State.passQueue
  extract_lets l1 l2 l3 s4 s5 s6
  have e4 : s4.mem = s.mem := by
    simp -implicitDefEqProofs -proj only [s4, ↓setCasH_mem]
  clear_value s4
  have e5 : s5.mem = s.mem := by
    dsimp only [s5]; repeat' first | (simp -implicitDefEqProofs -proj only [e4, ↓queueCmd_mem]; done) | with_reducible assumption | split | with_reducible refine (each_mem _ _ _ ?_).trans ?_ | with_reducible refine (foldl_mem _ _ _ ?_).trans ?_ | intro _ | simp -implicitDefEqProofs -proj only [e4, ↓queueCmd_mem]
  clear_value s5
  have e6 : s6.mem = s.mem := by
    dsimp only [s6]; repeat' first | (simp -implicitDefEqProofs -proj only [e5, ↓changeCmd_mem]; done) | with_reducible assumption | split | with_reducible refine (each_mem _ _ _ ?_).trans ?_ | with_reducible refine (foldl_mem _ _ _ ?_).trans ?_ | intro _ | simp -implicitDefEqProofs -proj only [e5, ↓changeCmd_mem]
  clear_value s6
  split <;> simp -implicitDefEqProofs -proj only [e6, ↓headRequest_mem]

theorem passMove_mem (s : State) (n : Nat) (k : Nat) (mv : Int × Int × Int) : (State.passMove s n k mv).mem = s.mem := by
  unfold State.passMove
  (repeat' split) <;> simp -implicitDefEqProofs -proj only [↓rampStep_mem, ↓homeStep_mem, ↓followStep_mem, ↓moveStep_mem]

theorem passMaster_mem (s : State) (n : Nat) : (State.passMaster s n).mem = s.mem := by
  unfold State.passMaster
  (repeat' split) <;> simp -implicitDefEqProofs -proj only [↓folRes_mem, ↓detect_mem]

theorem passVirtual_mem (s : State) (n : Nat) : (State.passVirtual s n).mem = s.mem := by
  unfold State.passVirtual
  split <;> simp -implicitDefEqProofs -proj only [↓setReg_mem]

theorem passAxis_wf (s : State) (n : Nat) (k : Nat) (h : Memory.wf s.mem = true) : Memory.wf (State.passAxis s n k).mem = true := by
  unfold State.passAxis
  extract_lets l1 l2 s3 s4 s5 l6 s7 l8 l9 s10 l11 s12
  have e3 : Memory.wf s3.mem = true := by
    simp -implicitDefEqProofs -proj only [s3, h, ↓passMaster_mem]
  clear_value s3
  have e4 : Memory.wf s4.mem = true := by
    simp -implicitDefEqProofs -proj only [s4, e3, ↓switchCrossing_mem, ↓disengageCrossing_mem, ↓engageCrossing_mem]
  clear_value s4
  have e5 : Memory.wf s5.mem = true := by
    dsimp only [s5]; repeat' first | (simp -implicitDefEqProofs -proj only [h, e4, ↓followCmd_mem]; done) | with_reducible assumption | split | with_reducible refine each_wf _ _ _ ?_ ?_ | with_reducible refine foldl_wf _ _ _ ?_ ?_ | intro _ | simp -implicitDefEqProofs -proj only [h, e4, ↓followCmd_mem]
  clear_value s5
  have e7 : Memory.wf s7.mem = true := by
    simp -implicitDefEqProofs -proj only [s7, e5, ↓setCasH_mem]
  clear_value s7
  have e10 : Memory.wf s10.mem = true := by
    simp -implicitDefEqProofs -proj only [s10, e7, ↓passMove_mem]
  clear_value s10
  have e12 : Memory.wf s12.mem = true := by
    dsimp only [s12]; (repeat' split) <;> simp -implicitDefEqProofs -proj only [e7, e10, ↓setCasH_mem, ↓showSet_mem]
  clear_value s12
  simp -implicitDefEqProofs -proj only [e12, ↓mvShow_wf, ↓folShow_mem, ↓passVirtual_mem]

theorem passKeep_mem (s : State) (n : Nat) : (State.passKeep s n).mem = s.mem := by
  unfold State.passKeep
  extract_lets l1 s2 l3
  have e2 : s2.mem = s.mem := by
    simp -implicitDefEqProofs -proj only [s2, ↓setCasH_mem]
  clear_value s2
  split <;> simp -implicitDefEqProofs -proj only [e2, ↓setJob_mem]

theorem cascadePass_wf (s : State) (h : Memory.wf s.mem = true) : Memory.wf (State.cascadePass s).mem = true := by
  unfold State.cascadePass
  extract_lets l1 s2 l3 s4 s5 s6 s7 s8 s9 s10
  have e2 : Memory.wf s2.mem = true := by
    simp -implicitDefEqProofs -proj only [s2, h, ↓each_mem, ↓passKeep_mem, implies_true]
  clear_value s2
  have e4 : Memory.wf s4.mem = true := by
    simp -implicitDefEqProofs -proj only [s4, e2, ↓mem_mk]
  clear_value s4
  have e5 : Memory.wf s5.mem = true := by
    simp -implicitDefEqProofs -proj only [s5, e4, ↓each_mem, ↓passState_mem, implies_true]
  clear_value s5
  have e6 : Memory.wf s6.mem = true := by
    simp -implicitDefEqProofs -proj only [s6, e5, ↓each_mem, ↓groupAct_mem, implies_true]
  clear_value s6
  have e7 : Memory.wf s7.mem = true := by
    simp -implicitDefEqProofs -proj only [s7, e6, ↓each_mem, ↓passQueue_mem, implies_true]
  clear_value s7
  have e8 : Memory.wf s8.mem = true := by
    simp -implicitDefEqProofs -proj only [s8, e7, ↓each_mem, ↓stageP_mem, ↓groupStart_mem, implies_true]
  clear_value s8
  have e9 : Memory.wf s9.mem = true := by
    simp -implicitDefEqProofs -proj only [s9, e8, ↓each_mem, ↓lmPass_mem, implies_true]
  clear_value s9
  have e10 : Memory.wf s10.mem = true := by
    dsimp only [s10]; repeat' first | (simp -implicitDefEqProofs -proj only [h, e9, ↓each_mem, ↓each_wf, ↓passAxis_wf, implies_true]; done) | with_reducible assumption | split | with_reducible refine each_wf _ _ _ ?_ ?_ | with_reducible refine foldl_wf _ _ _ ?_ ?_ | with_reducible refine passAxis_wf _ _ _ ?_ | intro _ | simp -implicitDefEqProofs -proj only [h, e9, ↓each_mem, ↓each_wf, ↓passAxis_wf, implies_true]
  clear_value s10
  simp -implicitDefEqProofs -proj only [e10, ↓showArmed_mem]

theorem passEnd_mem (s : State) : (State.passEnd s).mem = s.mem := by
  unfold State.passEnd
  extract_lets l1 l2 s3
  have e3 : s3.mem = s.mem := by
    simp -implicitDefEqProofs -proj only [s3, ↓mem_mk]
  clear_value s3
  split <;> simp -implicitDefEqProofs -proj only [e3, ↓setFld_mem]

end Sys2Proof.Machine
end

