-- ==== Sys2Proof/Laws/MemUnits.lean ====
section
/-! SUPPORT. What every operation of the DMA rings, the Sluice, the ports, power, images and twin heads leaves of the memories:
the operations that store nothing leave them as they were (_mem), the others keep their canonical form (_wf). -/
set_option linter.unusedSimpArgs false
namespace Sys2Proof.Machine

/-! ### DmaOps -/

theorem dmaShow_mem (s : State) (c : Nat) : (State.dmaShow s c).mem = s.mem := by
  simp -implicitDefEqProofs -proj only [State.dmaShow, ↓setFld_mem]

theorem dmaAdd_mem (s : State) (c : Nat) (q : DmaReq) : (State.dmaAdd s c q).mem = s.mem := by
  unfold State.dmaAdd
  extract_lets l1
  simp -implicitDefEqProofs -proj only [↓dmaShow_mem, ↓setDmaH_mem]

theorem dmaPost_mem (s : State) (c : Nat) (v : Word48) : (State.dmaPost s c v).mem = s.mem := by
  simp -implicitDefEqProofs -proj only [State.dmaPost, ↓dmaAdd_mem]

theorem dmaCtlWrite_mem (s : State) (c : Nat) (v : Word48) : (State.dmaCtlWrite s c v).mem = s.mem := by
  unfold State.dmaCtlWrite
  extract_lets l1 s2
  have e2 : s2.mem = s.mem := by
    dsimp only [s2]; split <;> simp -implicitDefEqProofs -proj only [↓setFld_mem]
  clear_value s2
  simp -implicitDefEqProofs -proj only [e2, ↓setFld_mem, ↓setFlag_mem]

theorem dmaStarve_mem (s : State) (c : Nat) : (State.dmaStarve s c).mem = s.mem := by
  unfold State.dmaStarve
  extract_lets l1
  split <;> simp -implicitDefEqProofs -proj only [↓raise_mem, ↓incSat_mem, ↓setDmaH_mem]

theorem dmaStart_mem (s : State) (c : Nat) (own : Bool) : (State.dmaStart s c own).mem = s.mem := by
  unfold State.dmaStart
  extract_lets l1
  (repeat' split) <;> simp -implicitDefEqProofs -proj only [↓dmaShow_mem, ↓setDmaH_mem, ↓dmaStarve_mem]

theorem dmaReturn_mem (s : State) (c : Nat) (addr : Nat) (len : Nat) (irq : Bool) (own : Bool) : (State.dmaReturn s c addr len irq own).mem = s.mem := by
  unfold State.dmaReturn
  extract_lets l1 l2 l3 l4 s5 l6 l7 l8 l9 s10 s11 s12 s13
  have e5 : s5.mem = s.mem := by
    dsimp only [s5]; repeat' first | (simp -implicitDefEqProofs -proj only [l3, ↓takeFree_mem]; done) | with_reducible assumption | split | with_reducible refine (each_mem _ _ _ ?_).trans ?_ | with_reducible refine (foldl_mem _ _ _ ?_).trans ?_ | intro _ | simp -implicitDefEqProofs -proj only [l3, ↓takeFree_mem]
  clear_value s5
  have e10 : s10.mem = s.mem := by
    simp -implicitDefEqProofs -proj only [s10, e5, ↓setDmaH_mem]
  clear_value s10
  have e11 : s11.mem = s.mem := by
    simp -implicitDefEqProofs -proj only [s11, e10, ↓setFld_mem]
  clear_value s11
  have e12 : s12.mem = s.mem := by
    dsimp only [s12]; split <;> simp -implicitDefEqProofs -proj only [e11, ↓sendVector_mem]
  clear_value s12
  have e13 : s13.mem = s.mem := by
    simp -implicitDefEqProofs -proj only [s13, e12, ↓incWrap_mem]
  clear_value s13
  (repeat' split) <;> simp -implicitDefEqProofs -proj only [e12, e13, ↓setMir_mem, ↓dmaStarve_mem]

theorem dmaReset_mem (s : State) : (State.dmaReset s).mem = s.mem := by
  unfold State.dmaReset
  extract_lets s1
  have e1 : s1.mem = s.mem := by
    simp -implicitDefEqProofs -proj only [s1, ↓each_mem, ↓setFlag_mem, ↓dmaShow_mem, ↓setDmaH_mem, implies_true]
  clear_value s1
  simp -implicitDefEqProofs -proj only [e1, ↓each_mem, ↓setMir_mem, ↓setFlag_mem, implies_true]

theorem dmaCut_mem (s : State) (m : Nat) : (State.dmaCut s m).mem = s.mem := by
  unfold State.dmaCut
  extract_lets s1
  have e1 : s1.mem = s.mem := by
    simp -implicitDefEqProofs -proj only [s1, ↓each_mem, ↓setDmaH_mem, implies_true]
  clear_value s1
  simp -implicitDefEqProofs -proj only [e1, ↓setFlag_mem]

/-! ### SluiceOps -/

theorem caravanAdvance_mem (s : State) : (State.caravanAdvance s).mem = s.mem := by
  unfold State.caravanAdvance
  extract_lets l1 l2 s3 l4 l5 l6 s7 s8
  have e3 : s3.mem = s.mem := by
    simp -implicitDefEqProofs -proj only [s3, ↓setFld_mem]
  clear_value s3
  have e7 : s7.mem = s.mem := by
    simp -implicitDefEqProofs -proj only [s7, e3, ↓setFlag_mem, ↓setFld_mem]
  clear_value s7
  have e8 : s8.mem = s.mem := by
    dsimp only [s8]; split <;> simp -implicitDefEqProofs -proj only [e7, ↓setFld_mem]
  clear_value s8
  (repeat' split) <;> simp -implicitDefEqProofs -proj only [e3, e8, ↓setFld_mem, ↓raise_mem, ↓setFlag_mem]

theorem caravan_wf (s : State) (kind : Nat) (ag : Nat) (t : Nat) (flow : Option Nat) (wake : Bool) (data : Nat) (h : Memory.wf s.mem = true) : Memory.wf (State.caravan s kind ag t flow wake data).mem = true := by
  unfold State.caravan
  extract_lets l1 l2 l3 l4 l5 s6 l7 s8 l9 l10 s11 l12
  have e6 : Memory.wf s6.mem = true := by
    simp -implicitDefEqProofs -proj only [s6, h, ↓incSat_mem]
  clear_value s6
  have e8 : Memory.wf s8.mem = true := by
    dsimp only [s8]; split <;> simp -implicitDefEqProofs -proj only [h, ↓incSat_mem, ↓setFld_mem]
  clear_value s8
  have e11 : Memory.wf s11.mem = true := by
    simp -implicitDefEqProofs -proj only [s11, e8, ↓setBytes_wf]
  clear_value s11
  (repeat' split) <;> simp -implicitDefEqProofs -proj only [h, e6, e11, ↓raise_mem, ↓caravanAdvance_mem, ↓mem_mk]

theorem countItems_mem (s : State) (t : Nat) : (State.countItems s t).mem = s.mem := by
  unfold State.countItems
  extract_lets s1 l2 s3
  have e1 : s1.mem = s.mem := by
    simp -implicitDefEqProofs -proj only [s1, ↓setFld_mem]
  clear_value s1
  have e3 : s3.mem = s.mem := by
    simp -implicitDefEqProofs -proj only [s3, e1, ↓setFld_mem]
  clear_value s3
  split <;> simp -implicitDefEqProofs -proj only [e3, ↓setFld_mem]

theorem unready_mem (s : State) (t : Nat) : (State.unready s t).mem = s.mem := by
  simp -implicitDefEqProofs -proj only [State.unready, ↓arbWithdraw_mem]

theorem refreshTask_mem (s : State) (t : Nat) : (State.refreshTask s t).mem = s.mem := by
  unfold State.refreshTask
  extract_lets l1 l2
  (repeat' split) <;> simp -implicitDefEqProofs -proj only [↓makeReady_mem, ↓setFld_mem, ↓unready_mem]

theorem refreshTasks_mem (s : State) : (State.refreshTasks s).mem = s.mem := by
  simp -implicitDefEqProofs -proj only [State.refreshTasks, ↓each_mem, ↓refreshTask_mem, implies_true]

theorem takeFlow_mem (s : State) (f : Option Nat) : (State.takeFlow s f).mem = s.mem := by
  unfold State.takeFlow
  extract_lets l1
  split <;> simp -implicitDefEqProofs -proj only [↓mem_mk]

theorem freeFlow_mem (s : State) (f : Option Nat) : (State.freeFlow s f).mem = s.mem := by
  unfold State.freeFlow
  extract_lets l1
  split <;> simp -implicitDefEqProofs -proj only [↓mem_mk]

theorem returnItem_mem (s : State) (w : WorkItem) : (State.returnItem s w).mem = s.mem := by
  unfold State.returnItem
  extract_lets l1
  simp -implicitDefEqProofs -proj only [↓countItems_mem, ↓mem_mk]

theorem post_mem (s : State) (t : Nat) (flow : Option Nat) (arg : Nat) : (State.post s t flow arg).mem = s.mem := by
  unfold State.post
  extract_lets l1 l2 s3
  have e3 : s3.mem = s.mem := by
    simp -implicitDefEqProofs -proj only [s3, ↓mem_mk]
  clear_value s3
  simp -implicitDefEqProofs -proj only [e3, ↓refreshTask_mem, ↓countItems_mem]

theorem dispatchReturn_mem (s : State) (k : Nat) (word : Nat) : (State.dispatchReturn s k word).mem = s.mem := by
  unfold State.dispatchReturn
  extract_lets l1
  simp -implicitDefEqProofs -proj only [↓answer_mem, ↓noteEpoch_mem, ↓setCore_mem]

theorem dispatchTo_wf (s : State) (k : Nat) (t : Nat) (h : Memory.wf s.mem = true) : Memory.wf (State.dispatchTo s k t).mem = true := by
  unfold State.dispatchTo
  extract_lets l1 l2 l3 s4 l5 l6 s7 l8 s9 s10 s11 s12 s13 l14 s15 s16
  clear_value l2
  have e4 : Memory.wf s4.mem = true := by
    dsimp only [s4]; (repeat' split) <;> simp -implicitDefEqProofs -proj only [h, ↓takeFlow_mem, ↓mem_mk]
  clear_value s4
  have e7 : Memory.wf s7.mem = true := by
    dsimp only [s7]; split <;> simp -implicitDefEqProofs -proj only [e4, ↓setFld_mem]
  clear_value s7
  have e9 : Memory.wf s9.mem = true := by
    simp -implicitDefEqProofs -proj only [s9, e7, ↓setRegN_mem, ↓setFld_mem]
  clear_value s9
  have e10 : Memory.wf s10.mem = true := by
    simp -implicitDefEqProofs -proj only [s10, e9, ↓setTask_mem]
  clear_value s10
  have e11 : Memory.wf s11.mem = true := by
    simp -implicitDefEqProofs -proj only [s11, e10, ↓setFld_mem]
  clear_value s11
  have e12 : Memory.wf s12.mem = true := by
    simp -implicitDefEqProofs -proj only [s12, e11, ↓setFlag_mem, ↓setFld_mem]
  clear_value s12
  have e13 : Memory.wf s13.mem = true := by
    simp -implicitDefEqProofs -proj only [s13, e12, ↓countItems_mem]
  clear_value s13
  have e15 : Memory.wf s15.mem = true := by
    simp -implicitDefEqProofs -proj only [s15, e13, ↓setCore_mem]
  clear_value s15
  have e16 : Memory.wf s16.mem = true := by
    simp -implicitDefEqProofs -proj only [s16, e15, ↓caravan_wf]
  clear_value s16
  simp -implicitDefEqProofs -proj only [e16, ↓refreshTasks_mem, ↓dispatchReturn_mem]

theorem dispatchGrant_wf (s : State) (k : Nat) (h : Memory.wf s.mem = true) : Memory.wf (State.dispatchGrant s k).mem = true := by
  unfold State.dispatchGrant
  extract_lets l1
  clear_value l1
  split
  · exact h
  · split
    · exact h
    · rename_i e
      have e := arbGrant_mem e
      refine dispatchTo_wf _ _ _ (foldl_wf _ _ _ ?_ ?_)
      · intro u a hu
        simp -implicitDefEqProofs only [↓arbAdd_mem, ↓arbRefuse_mem, hu]
      · rw [e]; exact h

theorem dispatchRead_mem (s : State) (k : Nat) : (State.dispatchRead s k).mem = s.mem := by
  unfold State.dispatchRead
  extract_lets l1 s2
  have e2 : s2.mem = s.mem := by
    simp -implicitDefEqProofs -proj only [s2, ↓setCore_mem]
  clear_value s2
  repeat' first | (simp -implicitDefEqProofs -proj only [e2, ↓each_mem, ↓arbAdd_mem, implies_true]; done) | with_reducible assumption | split | with_reducible refine (each_mem _ _ _ ?_).trans ?_ | with_reducible refine (foldl_mem _ _ _ ?_).trans ?_ | intro _ | simp -implicitDefEqProofs -proj only [e2, ↓each_mem, ↓arbAdd_mem, implies_true]

theorem coreDrop_mem (s : State) (k : Nat) : (State.coreDrop s k).mem = s.mem := by
  simp -implicitDefEqProofs -proj only [State.coreDrop, ↓setFld_mem, ↓setFlag_mem]

theorem doneCancelled_mem (s : State) (k : Nat) : (State.doneCancelled s k).mem = s.mem := by
  unfold State.doneCancelled
  extract_lets l1
  simp -implicitDefEqProofs -proj only [↓coreDrop_mem, ↓setCore_mem]

theorem doneComplete_wf (s : State) (k : Nat) (h : Memory.wf s.mem = true) : Memory.wf (State.doneComplete s k).mem = true := by
  unfold State.doneComplete
  extract_lets l1 l2 l3 s4 s5 s6
  have e4 : Memory.wf s4.mem = true := by
    simp -implicitDefEqProofs -proj only [s4, h, ↓caravan_wf]
  clear_value s4
  have e5 : Memory.wf s5.mem = true := by
    simp -implicitDefEqProofs -proj only [s5, e4, ↓setTask_mem, ↓freeFlow_mem]
  clear_value s5
  have e6 : Memory.wf s6.mem = true := by
    simp -implicitDefEqProofs -proj only [s6, e5, ↓setFld_mem, ↓coreDrop_mem]
  clear_value s6
  simp -implicitDefEqProofs -proj only [e6, ↓refreshTasks_mem, ↓refreshTask_mem]

theorem doneBlock_wf (s : State) (k : Nat) (mask : Nat) (all : Bool) (h : Memory.wf s.mem = true) : Memory.wf (State.doneBlock s k mask all).mem = true := by
  unfold State.doneBlock
  extract_lets l1 l2 l3 l4 s5 s6
  have e5 : Memory.wf s5.mem = true := by
    simp -implicitDefEqProofs -proj only [s5, h, ↓caravan_wf]
  clear_value s5
  have e6 : Memory.wf s6.mem = true := by
    simp -implicitDefEqProofs -proj only [s6, e5, ↓setFld_mem, ↓coreDrop_mem, ↓setTask_mem]
  clear_value s6
  split <;> simp -implicitDefEqProofs -proj only [e6, ↓wake_mem]

theorem doneYield_wf (s : State) (k : Nat) (h : Memory.wf s.mem = true) : Memory.wf (State.doneYield s k).mem = true := by
  unfold State.doneYield
  extract_lets l1 l2
  split <;> simp -implicitDefEqProofs -proj only [h, ↓doneComplete_wf, ↓caravan_wf, ↓setTask_mem, ↓freeFlow_mem, ↓setFld_mem, ↓coreDrop_mem, ↓refreshTasks_mem, ↓refreshTask_mem, ↓returnItem_mem]

theorem doneAct_wf (s : State) (k : Nat) (v : Word48) (h : Memory.wf s.mem = true) : Memory.wf (State.doneAct s k v).mem = true := by
  unfold State.doneAct
  split <;> simp -implicitDefEqProofs -proj only [h, ↓doneComplete_wf, ↓doneBlock_wf, ↓doneYield_wf]

theorem waitTimeout_mem (s : State) (t : Nat) : (State.waitTimeout s t).mem = s.mem := by
  unfold State.waitTimeout
  extract_lets l1
  (repeat' split) <;> simp -implicitDefEqProofs -proj only [↓wake_mem]

theorem coreRequeue_wf (s : State) (k : Nat) (h : Memory.wf s.mem = true) : Memory.wf (State.coreRequeue s k).mem = true := by
  unfold State.coreRequeue
  extract_lets l1 s2 l3 s4 l5 l6 l7 s8 s9 s10 s11
  have e2 : Memory.wf s2.mem = true := by
    simp -implicitDefEqProofs -proj only [s2, h, ↓setCore_mem]
  clear_value s2
  have e4 : Memory.wf s4.mem = true := by
    simp -implicitDefEqProofs -proj only [s4, e2, ↓coreDrop_mem]
  clear_value s4
  have e8 : Memory.wf s8.mem = true := by
    simp -implicitDefEqProofs -proj only [s8, e4, ↓caravan_wf]
  clear_value s8
  have e9 : Memory.wf s9.mem = true := by
    simp -implicitDefEqProofs -proj only [s9, e8, ↓setTask_mem, ↓freeFlow_mem]
  clear_value s9
  have e10 : Memory.wf s10.mem = true := by
    dsimp only [s10]; split <;> simp -implicitDefEqProofs -proj only [e9, ↓returnItem_mem]
  clear_value s10
  have e11 : Memory.wf s11.mem = true := by
    simp -implicitDefEqProofs -proj only [s11, e10, ↓setFld_mem]
  clear_value s11
  (repeat' split) <;> simp -implicitDefEqProofs -proj only [e2, e4, e11, ↓setCore_mem, ↓refreshTasks_mem, ↓refreshTask_mem]

theorem taskCancel_wf (s : State) (t : Nat) (h : Memory.wf s.mem = true) : Memory.wf (State.taskCancel s t).mem = true := by
  unfold State.taskCancel
  extract_lets l1 l2 l3 l4 l5 l6 s7 s8 s9 s10 l11 s12 s13
  have e7 : Memory.wf s7.mem = true := by
    simp -implicitDefEqProofs -proj only [s7, h, ↓mem_mk]
  clear_value s7
  have e8 : Memory.wf s8.mem = true := by
    simp -implicitDefEqProofs -proj only [s8, e7, ↓unready_mem, ↓addSat_mem]
  clear_value s8
  have e9 : Memory.wf s9.mem = true := by
    simp -implicitDefEqProofs -proj only [s9, e8, ↓caravan_wf]
  clear_value s9
  have e10 : Memory.wf s10.mem = true := by
    simp -implicitDefEqProofs -proj only [s10, e9, ↓setFlag_mem]
  clear_value s10
  have e12 : Memory.wf s12.mem = true := by
    dsimp only [s12]; split <;> simp -implicitDefEqProofs -proj only [e8, e10, ↓setCore_mem]
  clear_value s12
  have e13 : Memory.wf s13.mem = true := by
    simp -implicitDefEqProofs -proj only [s13, e12, ↓setTask_mem, ↓freeFlow_mem]
  clear_value s13
  simp -implicitDefEqProofs -proj only [e13, ↓refreshTasks_mem, ↓countItems_mem, ↓setFld_mem]

theorem taskOpen_mem (s : State) (t : Nat) : (State.taskOpen s t).mem = s.mem := by
  simp -implicitDefEqProofs -proj only [State.taskOpen, ↓setFld_mem, ↓setTask_mem]

theorem coreStart_mem (s : State) (k : Nat) : (State.coreStart s k).mem = s.mem := by
  simp -implicitDefEqProofs -proj only [State.coreStart, ↓setCore_mem]

/-! ### HostOps -/

theorem pcieUp_mem (s : State) (speed : Nat) (width : Nat) : (State.pcieUp s speed width).mem = s.mem := by
  simp -implicitDefEqProofs -proj only [State.pcieUp, ↓setFld_mem]

theorem pcieReset_mem (s : State) (linkStays : Bool) : (State.pcieReset s linkStays).mem = s.mem := by
  unfold State.pcieReset
  extract_lets s1 s2 s3 s4 s5 l6
  have e1 : s1.mem = s.mem := by
    simp -implicitDefEqProofs -proj only [s1, ↓each_mem, ↓arbWithdraw_mem, implies_true]
  clear_value s1
  have e2 : s2.mem = s.mem := by
    simp -implicitDefEqProofs -proj only [s2, e1, ↓mem_mk]
  clear_value s2
  have e3 : s3.mem = s.mem := by
    simp -implicitDefEqProofs -proj only [s3, e2, ↓dmaReset_mem]
  clear_value s3
  have e4 : s4.mem = s.mem := by
    simp -implicitDefEqProofs -proj only [s4, e3, ↓setFlag_mem, ↓incSat_mem]
  clear_value s4
  have e5 : s5.mem = s.mem := by
    simp -implicitDefEqProofs -proj only [s5, e4, ↓setFld_mem]
  clear_value s5
  split <;> simp -implicitDefEqProofs -proj only [e4, e5, ↓mem_mk]

theorem perstPin_mem (s : State) (level : Bool) : (State.perstPin s level).mem = s.mem := by
  unfold State.perstPin
  extract_lets l1 s2 l3
  have e2 : s2.mem = s.mem := by
    dsimp only [s2]; split <;> simp -implicitDefEqProofs -proj only [↓pcieReset_mem]
  clear_value s2
  (repeat' split) <;> simp -implicitDefEqProofs -proj only [e2, ↓mem_mk]

theorem perstEnd_mem (s : State) : (State.perstEnd s).mem = s.mem := by
  unfold State.perstEnd
  extract_lets l1
  simp -implicitDefEqProofs -proj only [↓mem_mk]

theorem msixMask_mem (s : State) (v : Nat) : (State.msixMask s v).mem = s.mem := by
  unfold State.msixMask
  extract_lets l1
  split <;> simp -implicitDefEqProofs -proj only [↓mem_mk]

theorem msixUnmask_mem (s : State) (v : Nat) : (State.msixUnmask s v).mem = s.mem := by
  unfold State.msixUnmask
  extract_lets l1 l2 s3
  have e3 : s3.mem = s.mem := by
    simp -implicitDefEqProofs -proj only [s3, ↓mem_mk]
  clear_value s3
  split <;> simp -implicitDefEqProofs -proj only [e3, ↓sendVector_mem]

theorem setEthH_mem (s : State) (p : Nat) (h : EthPort) : (State.setEthH s p h).mem = s.mem := by
  unfold State.setEthH
  extract_lets l1
  simp -implicitDefEqProofs -proj only [↓mem_mk]

theorem ethStore_wf (s : State) (p : Nat) (stamp : Word48) (f : List Byte) (h : Memory.wf s.mem = true) : Memory.wf (State.ethStore s p stamp f).mem = true := by
  unfold State.ethStore
  extract_lets l1 l2 l3 l4 s5
  have e5 : Memory.wf s5.mem = true := by
    simp -implicitDefEqProofs -proj only [s5, h, ↓ringPut_wf]
  clear_value s5
  split <;> simp -implicitDefEqProofs -proj only [h, e5, ↓raiseIf_mem, ↓setFld_mem, ↓incSat_mem]

theorem ethReceived_wf (s : State) (p : Nat) (ago : Nat) (bytes : List Byte) (h : Memory.wf s.mem = true) : Memory.wf (State.ethReceived s p ago bytes).mem = true := by
  unfold State.ethReceived
  extract_lets l1 l2 l3
  (repeat' split) <;> simp -implicitDefEqProofs -proj only [h, ↓incSat_mem, ↓ethStore_wf]

theorem ethPost_mem (s : State) (p : Nat) (v : Word48) : (State.ethPost s p v).mem = s.mem := by
  unfold State.ethPost
  extract_lets l1
  split <;> simp -implicitDefEqProofs -proj only [↓setEthH_mem, ↓incSat_mem]

theorem ethStampId_mem (s : State) (p : Nat) (f : List Byte) : (State.ethStampId s p f).2.mem = s.mem := by
  unfold State.ethStampId
  extract_lets l1
  split <;> simp -implicitDefEqProofs only [l1, ↓takeFree_mem]

theorem ethSent_mem (s : State) (p : Nat) (ago : Nat) : (State.ethSent s p ago).mem = s.mem := by
  unfold State.ethSent
  extract_lets l1
  (repeat' split) <;> simp -implicitDefEqProofs -proj only [↓setEthH_mem, ↓ethStampId_mem, ↓tsqPush_mem]

theorem ethLink_mem (s : State) (p : Nat) (up : Bool) : (State.ethLink s p up).mem = s.mem := by
  simp -implicitDefEqProofs -proj only [State.ethLink, ↓setFlag_mem]

theorem ethCntClr_mem (s : State) (p : Nat) : (State.ethCntClr s p).mem = s.mem := by
  unfold State.ethCntClr
  repeat' first | (simp -implicitDefEqProofs -proj only [↓setFld_mem]; done) | with_reducible assumption | split | with_reducible refine (each_mem _ _ _ ?_).trans ?_ | with_reducible refine (foldl_mem _ _ _ ?_).trans ?_ | intro _ | simp -implicitDefEqProofs -proj only [↓setFld_mem]

theorem tapTake_mem (s : State) (op : Nat) : (State.tapTake s op).mem = s.mem := by
  unfold State.tapTake
  extract_lets l1
  simp -implicitDefEqProofs -proj only [↓mem_mk]

theorem tapPins_mem (s : State) (op : Nat) (mode : Nat) : (State.tapPins s op mode).mem = s.mem := by
  unfold State.tapPins
  extract_lets l1
  split <;> simp -implicitDefEqProofs -proj only [↓setFlag_mem, ↓tapTake_mem, ↓mem_mk]

theorem tapPreload_mem (s : State) (pat : Nat) : (State.tapPreload s pat).mem = s.mem := by
  unfold State.tapPreload
  extract_lets s1 l2
  have e1 : s1.mem = s.mem := by
    simp -implicitDefEqProofs -proj only [s1, ↓tapTake_mem]
  clear_value s1
  simp -implicitDefEqProofs -proj only [e1, ↓mem_mk]

theorem tapReset_mem (s : State) : (State.tapReset s).mem = s.mem := by
  simp -implicitDefEqProofs -proj only [State.tapReset, ↓tapTake_mem]

theorem fuseProg_mem (s : State) (hash : Nat) (back : Nat) : (State.fuseProg s hash back).mem = s.mem := by
  unfold State.fuseProg
  extract_lets s1 l2 s3 s4
  have e1 : s1.mem = s.mem := by
    simp -implicitDefEqProofs -proj only [s1, ↓tapTake_mem]
  clear_value s1
  have e3 : s3.mem = s.mem := by
    simp -implicitDefEqProofs -proj only [s3, e1, ↓mem_mk]
  clear_value s3
  have e4 : s4.mem = s.mem := by
    simp -implicitDefEqProofs -proj only [s4, e1, ↓mem_mk]
  clear_value s4
  (repeat' split) <;> simp -implicitDefEqProofs -proj only [e1, e3, e4, ↓setFld_mem, ↓setFlag_mem]

/-! ### PowerOps -/

theorem flashCut_mem (s : State) (power : Bool) : (State.flashCut s power).mem = s.mem := by
  unfold State.flashCut
  (repeat' split) <;> simp -implicitDefEqProofs -proj only [↓mem_mk]

theorem chipReset_wf (s : State) (cause : Nat) (h : Memory.wf s.mem = true) : Memory.wf (State.chipReset s cause).mem = true := by
  have e : ∀ r t : State, Memory.wf t.mem = true → Memory.wf (if cause == rstPOR then t else ((t.setReg .sysPwrStat (BitVec.ofNat 48 (putBits (r.regN .sysPwrStat) 16 7 0))).setReg .sysJetRetired (r.reg .sysJetRetired))).mem = true := by
    intro r t ht
    split
    · exact ht
    · simp -implicitDefEqProofs only [↓setReg_mem, ht]
  unfold State.chipReset
  extract_lets l1 s2 t3 t4 t5 l6
  have e2 : Memory.wf s2.mem = true := by
    rw [show s2.mem = s.mem from flashCut_mem ..]
    exact h
  clear_value s2
  have e4 : Memory.wf t4.mem = true := by
    dsimp only [t4]
    split
    · rfl
    · exact e2
  clear_value t4
  rw [setRegN_mem]
  exact e s2 t4 e4

theorem unitsReset_mem (s : State) : (State.unitsReset s).mem = s.mem := by
  rw [State.unitsReset, mem_mk]

theorem pllLock_mem (s : State) : (State.pllLock s).mem = s.mem := by
  unfold State.pllLock
  extract_lets s1 s2 s3 s4 l5
  have e1 : s1.mem = s.mem := by
    simp -implicitDefEqProofs -proj only [s1, ↓unitsReset_mem]
  clear_value s1
  have e2 : s2.mem = s.mem := by
    simp -implicitDefEqProofs -proj only [s2, e1, ↓setFlag_mem]
  clear_value s2
  have e3 : s3.mem = s.mem := by
    simp -implicitDefEqProofs -proj only [s3, e2, ↓setFld_mem]
  clear_value s3
  have e4 : s4.mem = s.mem := by
    simp -implicitDefEqProofs -proj only [s4, e3, ↓setFld_mem]
  clear_value s4
  simp -implicitDefEqProofs -proj only [e4, ↓mem_mk]

theorem clockFault_wf (s : State) (h : Memory.wf s.mem = true) : Memory.wf (State.clockFault s).mem = true := by
  simp -implicitDefEqProofs -proj only [State.clockFault, h, ↓chipReset_wf]

theorem clockWindow_wf (s : State) (n : Nat) (h : Memory.wf s.mem = true) : Memory.wf (State.clockWindow s n).mem = true := by
  unfold State.clockWindow
  extract_lets s1 l2
  have e1 : Memory.wf s1.mem = true := by
    simp -implicitDefEqProofs -proj only [s1, h, ↓setFlag_mem, ↓setFld_mem]
  clear_value s1
  split <;> simp -implicitDefEqProofs -proj only [e1, ↓clockFault_wf, ↓mem_mk]

theorem setSeq_mem (s : State) (st : Nat) : (State.setSeq s st).mem = s.mem := by
  unfold State.setSeq
  extract_lets s1 l2
  have e1 : s1.mem = s.mem := by
    simp -implicitDefEqProofs -proj only [s1, ↓setFld_mem]
  clear_value s1
  simp -implicitDefEqProofs -proj only [e1, ↓mem_mk]

theorem setEnables_mem (s : State) (n : Nat) : (State.setEnables s n).mem = s.mem := by
  simp -implicitDefEqProofs -proj only [State.setEnables, ↓setFld_mem]

theorem powerOn_wf (s : State) (h : Memory.wf s.mem = true) : Memory.wf (State.powerOn s).mem = true := by
  unfold State.powerOn
  extract_lets s1 s2
  have e1 : Memory.wf s1.mem = true := by
    simp -implicitDefEqProofs -proj only [s1, h, ↓chipReset_wf]
  clear_value s1
  have e2 : Memory.wf s2.mem = true := by
    simp -implicitDefEqProofs -proj only [s2, e1, ↓tapTake_mem]
  clear_value s2
  simp -implicitDefEqProofs -proj only [e2, ↓mem_mk]

theorem seqStart_mem (s : State) : (State.seqStart s).mem = s.mem := by
  simp -implicitDefEqProofs -proj only [State.seqStart, ↓setSeq_mem, ↓setEnables_mem, ↓setFld_mem]

theorem seqStep_mem (s : State) : (State.seqStep s).mem = s.mem := by
  unfold State.seqStep
  extract_lets l1 s2
  have e2 : s2.mem = s.mem := by
    simp -implicitDefEqProofs -proj only [s2, ↓setFld_mem]
  clear_value s2
  split <;> simp -implicitDefEqProofs -proj only [e2, ↓setSeq_mem, ↓setEnables_mem]

theorem powerDown_mem (s : State) (dest : Nat) : (State.powerDown s dest).mem = s.mem := by
  unfold State.powerDown
  extract_lets l1 s2 l3 s4
  have e2 : s2.mem = s.mem := by
    simp -implicitDefEqProofs -proj only [s2, ↓setEnables_mem]
  clear_value s2
  have e4 : s4.mem = s.mem := by
    simp -implicitDefEqProofs -proj only [s4, e2, ↓mem_mk]
  clear_value s4
  simp -implicitDefEqProofs -proj only [e4, ↓setSeq_mem]

theorem pgTimeout_wf (s : State) (h : Memory.wf s.mem = true) : Memory.wf (State.pgTimeout s).mem = true := by
  unfold State.pgTimeout
  extract_lets s1
  have e1 : Memory.wf s1.mem = true := by
    simp -implicitDefEqProofs -proj only [s1, h, ↓setFld_mem]
  clear_value s1
  simp -implicitDefEqProofs -proj only [e1, ↓powerDown_mem, ↓chipReset_wf]

theorem downStep_mem (s : State) : (State.downStep s).mem = s.mem := by
  simp -implicitDefEqProofs -proj only [State.downStep, ↓powerDown_mem]

theorem railMeasure_mem (s : State) (k : Nat) (mv : Nat) (pg : Nat) : (State.railMeasure s k mv pg).mem = s.mem := by
  unfold State.railMeasure
  extract_lets s1 l2
  have e1 : s1.mem = s.mem := by
    simp -implicitDefEqProofs -proj only [s1, ↓setFld_mem]
  clear_value s1
  split <;> simp -implicitDefEqProofs -proj only [e1, ↓raise_mem, ↓setFld_mem]

theorem railFault_wf (s : State) (k : Nat) (h : Memory.wf s.mem = true) : Memory.wf (State.railFault s k).mem = true := by
  unfold State.railFault
  extract_lets l1 s2
  have e2 : Memory.wf s2.mem = true := by
    simp -implicitDefEqProofs -proj only [s2, h, ↓setFld_mem]
  clear_value s2
  split <;> simp -implicitDefEqProofs -proj only [h, e2, ↓powerOn_wf, ↓powerDown_mem, ↓chipReset_wf]

theorem waitEnd_mem (s : State) : (State.waitEnd s).mem = s.mem := by
  unfold State.waitEnd
  extract_lets s1 l2
  have e1 : s1.mem = s.mem := by
    simp -implicitDefEqProofs -proj only [s1, ↓seqStart_mem]
  clear_value s1
  simp -implicitDefEqProofs -proj only [e1, ↓mem_mk]

theorem setRstLow_mem (s : State) (low : Bool) : (State.setRstLow s low).mem = s.mem := by
  unfold State.setRstLow
  extract_lets l1
  simp -implicitDefEqProofs -proj only [↓mem_mk]

theorem resetPin_wf (s : State) (low : Nat) (still : Bool) (h : Memory.wf s.mem = true) : Memory.wf (State.resetPin s low still).mem = true := by
  unfold State.resetPin
  extract_lets l1 l2
  repeat' first | (simp -implicitDefEqProofs -proj only [h, l1, l2, ↓setRstLow_mem, ↓chipReset_wf, ↓setSeq_mem, ↓takeFree_mem]; done) | with_reducible assumption | split | with_reducible refine each_wf _ _ _ ?_ ?_ | with_reducible refine foldl_wf _ _ _ ?_ ?_ | with_reducible refine chipReset_wf _ _ ?_ | intro _ | simp -implicitDefEqProofs -proj only [h, l1, l2, ↓setRstLow_mem, ↓chipReset_wf, ↓setSeq_mem, ↓takeFree_mem]

theorem release_mem (s : State) : (State.release s).mem = s.mem := by
  unfold State.release
  extract_lets l1 s2 s3
  have e2 : s2.mem = s.mem := by
    simp -implicitDefEqProofs -proj only [s2, ↓mem_mk]
  clear_value s2
  have e3 : s3.mem = s.mem := by
    simp -implicitDefEqProofs -proj only [s3, e2, ↓setFlag_mem]
  clear_value s3
  simp -implicitDefEqProofs -proj only [e3, ↓setFld_mem]

theorem rstRequest_mem (s : State) : (State.rstRequest s).mem = s.mem := by
  unfold State.rstRequest
  extract_lets l1
  simp -implicitDefEqProofs -proj only [↓mem_mk]

theorem poll_mem (s : State) : (State.poll s).mem = s.mem := by
  unfold State.poll
  extract_lets l1
  split <;> simp -implicitDefEqProofs -proj only [↓mem_mk]

theorem pollReply_mem (s : State) (n : Nat) (c : Nat) (data : Nat) (pec : Nat) (ack : Bool) : (State.pollReply s n c data pec ack).mem = s.mem := by
  unfold State.pollReply
  extract_lets l1 l2 s3
  have e3 : s3.mem = s.mem := by
    simp -implicitDefEqProofs -proj only [s3, ↓mem_mk]
  clear_value s3
  split <;> simp -implicitDefEqProofs -proj only [e3, ↓setFlag_mem, ↓setFld_mem]

theorem temperature_mem (s : State) (tj : Int) : (State.temperature s tj).mem = s.mem := by
  unfold State.temperature
  extract_lets s1
  have e1 : s1.mem = s.mem := by
    simp -implicitDefEqProofs -proj only [s1, ↓setFlag_mem, ↓setFld_mem]
  clear_value s1
  split <;> simp -implicitDefEqProofs -proj only [e1, ↓setFld_mem]

theorem tjMaxClr_mem (s : State) : (State.tjMaxClr s).mem = s.mem := by
  simp -implicitDefEqProofs -proj only [State.tjMaxClr, ↓setFld_mem]

/-! ### ImageOps -/

theorem setFlashH_mem (s : State) (k : Nat) (h : FlashH) : (State.setFlashH s k h).mem = s.mem := by
  simp -implicitDefEqProofs -proj only [State.setFlashH, ↓mem_mk]

theorem flashStart_mem (s : State) (op : Nat) (slot : Nat) (addr : Nat) : (State.flashStart s op slot addr).mem = s.mem := by
  unfold State.flashStart
  extract_lets s1 l2
  have e1 : s1.mem = s.mem := by
    simp -implicitDefEqProofs -proj only [s1, ↓setFlag_mem]
  clear_value s1
  split <;> simp -implicitDefEqProofs -proj only [e1, ↓mem_mk]

theorem setFlashBuf_mem (s : State) (l : List Byte) : (State.setFlashBuf s l).mem = s.mem := by
  simp -implicitDefEqProofs -proj only [State.setFlashBuf, ↓each_mem, ↓setRegN_mem, implies_true]

theorem flashDone_mem (s : State) (err : Bool) : (State.flashDone s err).mem = s.mem := by
  unfold State.flashDone
  extract_lets s1 l2 s3
  have e1 : s1.mem = s.mem := by
    simp -implicitDefEqProofs -proj only [s1, ↓setFlag_mem]
  clear_value s1
  have e3 : s3.mem = s.mem := by
    simp -implicitDefEqProofs -proj only [s3, e1, ↓mem_mk]
  clear_value s3
  (repeat' split) <;> simp -implicitDefEqProofs -proj only [e3, ↓setFlashBuf_mem, ↓setFlag_mem, ↓setFlashH_mem, ↓mem_mk]

/-! ### TwinOps -/

theorem setCs_mem (s : State) (st : Nat) : (State.setCs s st).mem = s.mem := by
  unfold State.setCs
  extract_lets l1 s2
  have e2 : s2.mem = s.mem := by
    simp -implicitDefEqProofs -proj only [s2, ↓mem_mk]
  clear_value s2
  split <;> simp -implicitDefEqProofs -proj only [e2, ↓raiseIf_mem, ↓setFld_mem]

theorem setTstate_mem (s : State) (t : Nat) : (State.setTstate s t).mem = s.mem := by
  unfold State.setTstate
  split <;> simp -implicitDefEqProofs -proj only [↓raiseIf_mem, ↓setFld_mem]

theorem enterLeader_mem (s : State) : (State.enterLeader s).mem = s.mem := by
  unfold State.enterLeader
  extract_lets l1 s2
  have e2 : s2.mem = s.mem := by
    simp -implicitDefEqProofs -proj only [s2, ↓setCs_mem, ↓setTstate_mem, ↓mem_mk]
  clear_value s2
  simp -implicitDefEqProofs -proj only [e2, ↓replace_mem, ↓setReg_mem]

theorem listenFrom_mem (s : State) : (State.listenFrom s).mem = s.mem := by
  unfold State.listenFrom
  extract_lets l1
  simp -implicitDefEqProofs -proj only [↓mem_mk]

theorem enterCold_mem (s : State) : (State.enterCold s).mem = s.mem := by
  unfold State.enterCold
  extract_lets s1 l2 s3 l4 s5
  have e1 : s1.mem = s.mem := by
    simp -implicitDefEqProofs -proj only [s1, ↓setCs_mem]
  clear_value s1
  have e3 : s3.mem = s.mem := by
    simp -implicitDefEqProofs -proj only [s3, e1, ↓mem_mk]
  clear_value s3
  have e5 : s5.mem = s.mem := by
    simp -implicitDefEqProofs -proj only [s5, e3, ↓mem_mk]
  clear_value s5
  simp -implicitDefEqProofs -proj only [e5, ↓replace_mem]

theorem enterRun_mem (s : State) : (State.enterRun s).mem = s.mem := by
  unfold State.enterRun
  extract_lets s1
  have e1 : s1.mem = s.mem := by
    simp -implicitDefEqProofs -proj only [s1, ↓setCs_mem]
  clear_value s1
  split <;> simp -implicitDefEqProofs -proj only [e1, ↓enterLeader_mem]

theorem collide_mem (s : State) : (State.collide s).mem = s.mem := by
  unfold State.collide
  extract_lets s1 l2
  have e1 : s1.mem = s.mem := by
    simp -implicitDefEqProofs -proj only [s1, ↓setCs_mem, ↓incSat_mem]
  clear_value s1
  simp -implicitDefEqProofs -proj only [e1, ↓mem_mk]

theorem backoffEnd_mem (s : State) : (State.backoffEnd s).mem = s.mem := by
  unfold State.backoffEnd
  extract_lets l1
  split <;> simp -implicitDefEqProofs -proj only [↓raiseIf_mem, ↓setCs_mem, ↓listenFrom_mem, ↓setFld_mem]

theorem coldRetry_mem (s : State) : (State.coldRetry s).mem = s.mem := by
  unfold State.coldRetry
  extract_lets s1
  have e1 : s1.mem = s.mem := by
    simp -implicitDefEqProofs -proj only [s1, ↓setFlag_mem]
  clear_value s1
  split <;> simp -implicitDefEqProofs -proj only [e1, ↓listenFrom_mem, ↓setCs_mem, ↓setFld_mem]

theorem foreign_mem (s : State) : (State.foreign s).mem = s.mem := by
  unfold State.foreign
  extract_lets s1 s2
  have e1 : s1.mem = s.mem := by
    simp -implicitDefEqProofs -proj only [s1, ↓setCs_mem]
  clear_value s1
  have e2 : s2.mem = s.mem := by
    simp -implicitDefEqProofs -proj only [s2, e1, ↓setFlag_mem]
  clear_value s2
  simp -implicitDefEqProofs -proj only [e2, ↓mem_mk]

theorem hlAt_mem (s : State) (p : Nat) (t : Nat) (type : Nat) (body : List Byte) : (State.hlAt s p t type body).mem = s.mem := by
  simp -implicitDefEqProofs -proj only [State.hlAt, ↓transmitAt_mem]

theorem hlSend_mem (s : State) (ports : List Nat) (type : Nat) (body : List Byte) : (State.hlSend s ports type body).mem = s.mem := by
  unfold State.hlSend
  repeat' first | (simp -implicitDefEqProofs -proj only [↓each_mem, ↓hlAt_mem, implies_true]; done) | with_reducible assumption | split | with_reducible refine (each_mem _ _ _ ?_).trans ?_ | with_reducible refine (foldl_mem _ _ _ ?_).trans ?_ | intro _ | simp -implicitDefEqProofs -proj only [↓each_mem, ↓hlAt_mem, implies_true]

theorem statusSend_mem (s : State) : (State.statusSend s).mem = s.mem := by
  unfold State.statusSend
  extract_lets l1 l2 s3
  have e3 : s3.mem = s.mem := by
    simp -implicitDefEqProofs -proj only [s3, ↓mem_mk]
  clear_value s3
  simp -implicitDefEqProofs -proj only [e3, ↓hlSend_mem]

theorem abdicate_mem (s : State) (c : Nat) : (State.abdicate s c).mem = s.mem := by
  unfold State.abdicate
  extract_lets s1 l2 s3 s4 s5 l6 s7
  have e1 : s1.mem = s.mem := by
    simp -implicitDefEqProofs -proj only [s1, ↓setFld_mem]
  clear_value s1
  have e3 : s3.mem = s.mem := by
    simp -implicitDefEqProofs -proj only [s3, e1, ↓mem_mk]
  clear_value s3
  have e4 : s4.mem = s.mem := by
    simp -implicitDefEqProofs -proj only [s4, e3, ↓setReg_mem, ↓setTstate_mem]
  clear_value s4
  have e5 : s5.mem = s.mem := by
    simp -implicitDefEqProofs -proj only [s5, e4, ↓setIstate_mem, ↓setCs_mem]
  clear_value s5
  have e7 : s7.mem = s.mem := by
    simp -implicitDefEqProofs -proj only [s7, e5, ↓mem_mk]
  clear_value s7
  simp -implicitDefEqProofs -proj only [e7, ↓hlSend_mem]

theorem abdSuppress_mem (s : State) : (State.abdSuppress s).mem = s.mem := by
  unfold State.abdSuppress
  extract_lets l1
  simp -implicitDefEqProofs -proj only [↓incSat_mem, ↓mem_mk]

theorem abdication_mem (s : State) (c : Nat) : (State.abdication s c).mem = s.mem := by
  unfold State.abdication
  split <;> simp -implicitDefEqProofs -proj only [↓abdicate_mem, ↓abdSuppress_mem]

theorem enterPulling_mem (s : State) : (State.enterPulling s).mem = s.mem := by
  unfold State.enterPulling
  extract_lets l1 s2 s3
  have e2 : s2.mem = s.mem := by
    simp -implicitDefEqProofs -proj only [s2, ↓mem_mk]
  clear_value s2
  have e3 : s3.mem = s.mem := by
    simp -implicitDefEqProofs -proj only [s3, e2, ↓setFld_mem]
  clear_value s3
  simp -implicitDefEqProofs -proj only [e3, ↓setTstate_mem]

theorem hlSeen_mem (s : State) (p : Nat) : (State.hlSeen s p).mem = s.mem := by
  unfold State.hlSeen
  extract_lets l1 s2 s3
  have e2 : s2.mem = s.mem := by
    simp -implicitDefEqProofs -proj only [s2, ↓mem_mk]
  clear_value s2
  have e3 : s3.mem = s.mem := by
    simp -implicitDefEqProofs -proj only [s3, e2, ↓setFlag_mem]
  clear_value s3
  simp -implicitDefEqProofs -proj only [e3, ↓setFlag_mem]

theorem statusJoin_mem (s : State) (p : PStat) : (State.statusJoin s p).mem = s.mem := by
  unfold State.statusJoin
  extract_lets l1 s2 s3
  have e2 : s2.mem = s.mem := by
    simp -implicitDefEqProofs -proj only [s2, ↓mem_mk]
  clear_value s2
  have e3 : s3.mem = s.mem := by
    dsimp only [s3]; (repeat' split) <;> simp -implicitDefEqProofs -proj only [e2, ↓enterPulling_mem]
  clear_value s3
  (repeat' split) <;> simp -implicitDefEqProofs -proj only [e3, ↓enterPulling_mem, ↓setFlag_mem]

theorem statusLead_mem (s : State) (was : Bool) (p : PStat) : (State.statusLead s was p).mem = s.mem := by
  unfold State.statusLead
  extract_lets l1 s2 s3 s4 l5 s6
  have e2 : s2.mem = s.mem := by
    simp -implicitDefEqProofs -proj only [s2, ↓mem_mk]
  clear_value s2
  have e3 : s3.mem = s.mem := by
    simp -implicitDefEqProofs -proj only [s3, e2, ↓enterLeader_mem]
  clear_value s3
  have e4 : s4.mem = s.mem := by
    simp -implicitDefEqProofs -proj only [s4, ↓mem_mk]
  clear_value s4
  have e6 : s6.mem = s.mem := by
    simp -implicitDefEqProofs -proj only [s6, e4, ↓mem_mk]
  clear_value s6
  (repeat' split) <;> simp -implicitDefEqProofs -proj only [e3, e4, e6, ↓hlSend_mem, ↓incSat_mem]

theorem statusReceived_mem (s : State) : (State.statusReceived s).mem = s.mem := by
  unfold State.statusReceived
  repeat' first | (simp -implicitDefEqProofs -proj only [↓inTake_mem, ↓setFld_mem, ↓hlSeen_mem, ↓setFlag_mem, ↓statusLead_mem, ↓statusJoin_mem, ↓mem_mk]; done) | with_reducible assumption | split | with_reducible refine (each_mem _ _ _ ?_).trans ?_ | with_reducible refine (foldl_mem _ _ _ ?_).trans ?_ | intro _ | simp -implicitDefEqProofs -proj only [↓inTake_mem, ↓setFld_mem, ↓hlSeen_mem, ↓setFlag_mem, ↓statusLead_mem, ↓statusJoin_mem, ↓mem_mk]

theorem followerJoins_mem (s : State) : (State.followerJoins s).mem = s.mem := by
  unfold State.followerJoins
  split <;> simp -implicitDefEqProofs -proj only [↓setTstate_mem, ↓setCs_mem]

theorem hlLoss_mem (s : State) : (State.hlLoss s).mem = s.mem := by
  unfold State.hlLoss
  extract_lets l1 s2 s3 s4
  have e2 : s2.mem = s.mem := by
    simp -implicitDefEqProofs -proj only [s2, ↓mem_mk]
  clear_value s2
  have e3 : s3.mem = s.mem := by
    simp -implicitDefEqProofs -proj only [s3, e2, ↓setFlag_mem]
  clear_value s3
  have e4 : s4.mem = s.mem := by
    simp -implicitDefEqProofs -proj only [s4, e3, ↓setFlag_mem]
  clear_value s4
  split <;> simp -implicitDefEqProofs -proj only [e4, ↓setTstate_mem]

theorem makeDigests_mem (s : State) : (State.makeDigests s).mem = s.mem := by
  unfold State.makeDigests
  extract_lets l1
  split <;> simp -implicitDefEqProofs -proj only [↓mem_mk]

theorem loadSnapshot_wf (s : State) (n : Nat) (b : List Byte) (h : Memory.wf s.mem = true) : Memory.wf (State.loadSnapshot s n b).mem = true := by
  unfold State.loadSnapshot
  extract_lets s1 s2 s3 s4 l5 s6
  have e1 : Memory.wf s1.mem = true := by
    simp -implicitDefEqProofs -proj only [s1, h, ↓setBytes_wf]
  clear_value s1
  have e2 : Memory.wf s2.mem = true := by
    simp -implicitDefEqProofs -proj only [s2, e1, ↓loadCascade_mem, ↓setBytes_wf]
  clear_value s2
  have e3 : Memory.wf s3.mem = true := by
    simp -implicitDefEqProofs -proj only [s3, e2, ↓setRegN_mem]
  clear_value s3
  have e4 : Memory.wf s4.mem = true := by
    simp -implicitDefEqProofs -proj only [s4, e3, ↓setFld_mem, ↓stateLoaded_wf]
  clear_value s4
  have e6 : Memory.wf s6.mem = true := by
    simp -implicitDefEqProofs -proj only [s6, e4, ↓setFb_mem]
  clear_value s6
  repeat' first | (simp -implicitDefEqProofs -proj only [h, e6, ↓each_mem, ↓each_wf, ↓setRegN_mem, implies_true]; done) | with_reducible assumption | split | with_reducible refine each_wf _ _ _ ?_ ?_ | with_reducible refine foldl_wf _ _ _ ?_ ?_ | intro _ | simp -implicitDefEqProofs -proj only [h, e6, ↓each_mem, ↓each_wf, ↓setRegN_mem, implies_true]

theorem digestSend_mem (s : State) : (State.digestSend s).mem = s.mem := by
  unfold State.digestSend
  extract_lets l1 s2
  have e2 : s2.mem = s.mem := by
    simp -implicitDefEqProofs -proj only [s2, ↓mem_mk]
  clear_value s2
  simp -implicitDefEqProofs -proj only [e2, ↓hlSend_mem]

theorem setMis_mem (s : State) (n : Nat) (b : Bool) : (State.setMis s n b).mem = s.mem := by
  simp -implicitDefEqProofs -proj only [State.setMis, ↓setRegN_mem]

theorem compareAxis_mem (s : State) (n : Nat) (mine : Nat) (theirs : Nat) : (State.compareAxis s n mine theirs).2.mem = s.mem := by
  unfold State.compareAxis
  extract_lets s1 l2 l3
  have e1 : s1.mem = s.mem := by
    simp -implicitDefEqProofs -proj only [s1, ↓setMis_mem]
  clear_value s1
  (repeat' split) <;> simp -implicitDefEqProofs only [e1, ↓incSat_mem, ↓setMis_mem]

theorem digestReceived_mem (s : State) : (State.digestReceived s).mem = s.mem := by
  unfold State.digestReceived
  split
  · rfl
  · extract_lets s1 p2 l3 l4 s5 s6 l7 s8
    have e1 : s1.mem = s.mem := inTake_mem ..
    clear_value s1
    have e2 : p2.2.2.mem = s.mem := by
      refine foldl_keeps (fun b : Bool × Bool × State => b.2.2.mem = s.mem) _ _ ?_ _ e1
      intro b a hb
      exact (compareAxis_mem ..).trans hb
    clear_value p2
    have e5 : s5.mem = s.mem := mem_mk.trans e2
    clear_value s5
    have e6 : s6.mem = s.mem := (raiseIf_mem ..).trans e5
    clear_value s6
    have e8 : s8.mem = s.mem := by
      dsimp only [s8]
      split
      · exact mem_mk.trans e6
      · exact e6
    clear_value s8
    split
    · exact e1
    · split
      · exact (setTstate_mem ..).trans e8
      · exact e8

theorem digestMiss_mem (s : State) : (State.digestMiss s).mem = s.mem := by
  unfold State.digestMiss
  extract_lets l1
  simp -implicitDefEqProofs -proj only [↓incSat_mem, ↓mem_mk]

theorem copySend_mem (s : State) : (State.copySend s).mem = s.mem := by
  unfold State.copySend
  split
  · rfl
  · extract_lets l1 s2 l3 l4 s5 s6
    have e2 : s2.mem = s.mem := rfl
    clear_value s2
    have e5 : s5.mem = s.mem := e2
    clear_value s5
    have e6 : s6.mem = s.mem := by simp -implicitDefEqProofs only [s6, ↓setFld_mem, ↓incSat_mem, e5]
    clear_value s6
    split
    · simp -implicitDefEqProofs only [↓hlSend_mem, e6]
    · simp -implicitDefEqProofs only [↓incSat_mem, e2]

theorem takeCopies_mem (s : State) : (State.takeCopies s).mem = s.mem := by
  unfold State.takeCopies
  extract_lets l1 l2 l3 s4 l5
  have e4 : s4.mem = s.mem := by
    simp -implicitDefEqProofs -proj only [s4, ↓mem_mk]
  clear_value s4
  simp -implicitDefEqProofs -proj only [e4, ↓mem_mk]

theorem copyLoad_wf (s : State) (h : Memory.wf s.mem = true) : Memory.wf (State.copyLoad s).mem = true := by
  unfold State.copyLoad
  extract_lets s1 l2 l3 l4 s5
  have e1 : Memory.wf s1.mem = true := by
    simp -implicitDefEqProofs -proj only [s1, h, ↓takeCopies_mem]
  clear_value s1
  have e5 : Memory.wf s5.mem = true := by
    simp -implicitDefEqProofs -proj only [s5, e1, ↓mem_mk]
  clear_value s5
  (repeat' split) <;> simp -implicitDefEqProofs -proj only [e5, ↓setFld_mem, ↓loadSnapshot_wf]

theorem mirrorFrame_mem (s : State) (b : List Byte) : (State.mirrorFrame s b).mem = s.mem := by
  unfold State.mirrorFrame
  extract_lets l1 l2
  (repeat' split) <;> simp -implicitDefEqProofs -proj only [↓hlAt_mem]

theorem mirrorFrames_mem (s : State) (x1 : List Nat) (x2 : List (List Byte)) : (State.mirrorFrames s x1 x2).mem = s.mem := by
  induction x1 generalizing s x2 with
  | nil => rfl
  | cons i t ih =>
    unfold State.mirrorFrames
    split
    · rfl
    · rw [ih, mirrorFrame_mem]

theorem mirrorOrder_mem (s : State) (ag : Nat) (n : Nat) (es : List (Nat × Nat × Nat)) : (State.mirrorOrder s ag n es).mem = s.mem := by
  unfold State.mirrorOrder
  extract_lets l1 l2 l3 l4 s5
  have e5 : s5.mem = s.mem := by
    simp -implicitDefEqProofs -proj only [s5, ↓mem_mk]
  clear_value s5
  split <;> simp -implicitDefEqProofs -proj only [e5, ↓mirrorFrame_mem, ↓incSat_mem]

theorem mirrorAgain_mem (s : State) : (State.mirrorAgain s).mem = s.mem := by
  unfold State.mirrorAgain
  extract_lets l1 l2 s3
  have e3 : s3.mem = s.mem := by
    simp -implicitDefEqProofs -proj only [s3, ↓mem_mk]
  clear_value s3
  repeat' first | (simp -implicitDefEqProofs -proj only [e3, ↓mirrorFrame_mem]; done) | with_reducible assumption | split | with_reducible refine (each_mem _ _ _ ?_).trans ?_ | with_reducible refine (foldl_mem _ _ _ ?_).trans ?_ | intro _ | simp -implicitDefEqProofs -proj only [e3, ↓mirrorFrame_mem]

theorem orderPerform_mem (s : State) (access : State → Nat → Nat → Nat → Nat × State) (b : List Byte) (haccess : ∀ u b c d, (access u b c d).2.mem = u.mem) : (State.orderPerform s access b).2.mem = s.mem := by
  unfold State.orderPerform
  refine foldl_keeps (fun r : Nat × State => r.2.mem = s.mem) _ _ ?_ _ mem_mk
  intro r i hr
  exact (haccess ..).trans hr

theorem orderPerform_wf (s : State) (access : State → Nat → Nat → Nat → Nat × State) (b : List Byte) (haccess : ∀ u b c d, Memory.wf u.mem = true → Memory.wf (access u b c d).2.mem = true) (h : Memory.wf s.mem = true) : Memory.wf (State.orderPerform s access b).2.mem = true := by
  unfold State.orderPerform
  refine foldl_keeps (fun r : Nat × State => Memory.wf r.2.mem = true) _ _ ?_ _ ?_
  · intro r i hr
    exact haccess _ _ _ _ hr
  · exact (congrArg Memory.wf mem_mk).trans h

theorem orderResult_mem (s : State) (a : Nat) (f : State → Nat × State) (hf : ∀ u, (f u).2.mem = u.mem) : (State.orderResult s a f).2.2.mem = s.mem := by
  unfold State.orderResult
  extract_lets l1
  repeat' first | (simp -implicitDefEqProofs only [hf, l1, ↓setFld_mem]; done) | with_reducible assumption | split | with_reducible refine (each_mem _ _ _ ?_).trans ?_ | with_reducible refine (foldl_mem _ _ _ ?_).trans ?_ | intro _ | simp -implicitDefEqProofs only [hf, l1, ↓setFld_mem]

theorem orderResult_wf (s : State) (a : Nat) (f : State → Nat × State) (hf : ∀ u, Memory.wf u.mem = true → Memory.wf (f u).2.mem = true) (h : Memory.wf s.mem = true) : Memory.wf (State.orderResult s a f).2.2.mem = true := by
  unfold State.orderResult
  extract_lets l1
  repeat' first | (simp -implicitDefEqProofs only [hf, h, l1, ↓setFld_mem]; done) | with_reducible assumption | split | with_reducible refine each_wf _ _ _ ?_ ?_ | with_reducible refine foldl_wf _ _ _ ?_ ?_ | intro _ | simp -implicitDefEqProofs only [hf, h, l1, ↓setFld_mem]

theorem ordersRun_mem (s : State) (access : State → Nat → Nat → Nat → Nat × State) (x1 : List Nat) (haccess : ∀ u b c d, (access u b c d).2.mem = u.mem) : (State.ordersRun s access x1).mem = s.mem := by
  induction x1 generalizing s with
  | nil => rfl
  | cons i t ih =>
    unfold State.ordersRun
    extract_lets l1
    clear_value l1
    split
    · rfl
    · extract_lets l2 p4
      have e4 : p4.2.2.mem = s.mem := (orderResult_mem _ _ _ (fun u => orderPerform_mem u access _ haccess)).trans mem_mk
      clear_value p4
      exact (ih _).trans e4

theorem ordersRun_wf (s : State) (access : State → Nat → Nat → Nat → Nat × State) (x1 : List Nat) (haccess : ∀ u b c d, Memory.wf u.mem = true → Memory.wf (access u b c d).2.mem = true) (h : Memory.wf s.mem = true) : Memory.wf (State.ordersRun s access x1).mem = true := by
  induction x1 generalizing s with
  | nil => exact h
  | cons i t ih =>
    unfold State.ordersRun
    extract_lets l1
    clear_value l1
    split
    · exact h
    · extract_lets l2 p4
      have e4 : Memory.wf p4.2.2.mem = true := orderResult_wf _ _ _ (fun u hu => orderPerform_wf u access _ haccess hu) h
      clear_value p4
      exact ih _ e4

theorem mirrorTake_mem (s : State) (b : List Byte) : (State.mirrorTake s b).mem = s.mem := by
  unfold State.mirrorTake
  extract_lets l1 l2 s3
  have e3 : s3.mem = s.mem := by
    simp -implicitDefEqProofs -proj only [s3, ↓mem_mk]
  clear_value s3
  (repeat' split) <;> simp -implicitDefEqProofs -proj only [e3, ↓incSat_mem, ↓mem_mk]

theorem mirrorReceived_mem (s : State) (access : State → Nat → Nat → Nat → Nat × State) (haccess : ∀ u b c d, (access u b c d).2.mem = u.mem) : (State.mirrorReceived s access).mem = s.mem := by
  unfold State.mirrorReceived
  repeat' first | (simp -implicitDefEqProofs -proj only [haccess, ↓inTake_mem, ↓mirrorTake_mem, ↓ordersRun_mem, ↓mirrorFrames_mem, ↓mem_mk, implies_true]; done) | with_reducible assumption | split | with_reducible refine (each_mem _ _ _ ?_).trans ?_ | with_reducible refine (foldl_mem _ _ _ ?_).trans ?_ | intro _ | simp -implicitDefEqProofs -proj only [haccess, ↓inTake_mem, ↓mirrorTake_mem, ↓ordersRun_mem, ↓mirrorFrames_mem, ↓mem_mk, implies_true]

theorem mirrorReceived_wf (s : State) (access : State → Nat → Nat → Nat → Nat × State) (haccess : ∀ u b c d, Memory.wf u.mem = true → Memory.wf (access u b c d).2.mem = true) (h : Memory.wf s.mem = true) : Memory.wf (State.mirrorReceived s access).mem = true := by
  unfold State.mirrorReceived
  repeat' first | (simp -implicitDefEqProofs -proj only [haccess, h, ↓inTake_mem, ↓mirrorTake_mem, ↓ordersRun_mem, ↓ordersRun_wf, ↓mirrorFrames_mem, ↓mem_mk, implies_true]; done) | with_reducible assumption | split | with_reducible refine each_wf _ _ _ ?_ ?_ | with_reducible refine foldl_wf _ _ _ ?_ ?_ | with_reducible refine ordersRun_wf _ _ _ ?_ ?_ | with_reducible refine haccess _ _ _ _ ?_ | intro _ | simp -implicitDefEqProofs -proj only [haccess, h, ↓inTake_mem, ↓mirrorTake_mem, ↓ordersRun_mem, ↓ordersRun_wf, ↓mirrorFrames_mem, ↓mem_mk, implies_true]

theorem handoverArm_mem (s : State) : (State.handoverArm s).mem = s.mem := by
  unfold State.handoverArm
  extract_lets l1 l2
  split <;> simp -implicitDefEqProofs -proj only [↓setFld_mem, ↓mem_mk]

theorem handoverBoundary_mem (s : State) : (State.handoverBoundary s).mem = s.mem := by
  unfold State.handoverBoundary
  extract_lets l1 l2 s3 s4
  have e3 : s3.mem = s.mem := by
    simp -implicitDefEqProofs -proj only [s3, ↓mem_mk]
  clear_value s3
  have e4 : s4.mem = s.mem := by
    simp -implicitDefEqProofs -proj only [s4, e3, ↓incSat_mem, ↓setFld_mem]
  clear_value s4
  repeat' first | (simp -implicitDefEqProofs -proj only [e3, e4, ↓setFld_mem, ↓abdicate_mem, ↓enterLeader_mem]; done) | with_reducible assumption | split | with_reducible refine (each_mem _ _ _ ?_).trans ?_ | with_reducible refine (foldl_mem _ _ _ ?_).trans ?_ | intro _ | simp -implicitDefEqProofs -proj only [e3, e4, ↓setFld_mem, ↓abdicate_mem, ↓enterLeader_mem]

theorem deafEval_mem (s : State) : (State.deafEval s).mem = s.mem := by
  unfold State.deafEval
  extract_lets l1 l2 l3 l4 l5 s6 l7 s8 l9 s10 l11
  have e6 : s6.mem = s.mem := by
    simp -implicitDefEqProofs -proj only [s6, ↓setFld_mem]
  clear_value s6
  have e8 : s8.mem = s.mem := by
    simp -implicitDefEqProofs -proj only [s8, e6, ↓mem_mk]
  clear_value s8
  have e10 : s10.mem = s.mem := by
    simp -implicitDefEqProofs -proj only [s10, e8, ↓setFld_mem]
  clear_value s10
  split <;> simp -implicitDefEqProofs -proj only [e10, ↓incSat_mem, ↓mem_mk]

theorem resync_mem (s : State) : (State.resync s).mem = s.mem := by
  unfold State.resync
  split <;> simp -implicitDefEqProofs -proj only [↓enterPulling_mem]

theorem pullSend_mem (s : State) (p : Nat) : (State.pullSend s p).mem = s.mem := by
  unfold State.pullSend
  extract_lets l1 l2 s3
  have e3 : s3.mem = s.mem := by
    simp -implicitDefEqProofs -proj only [s3, ↓mem_mk]
  clear_value s3
  simp -implicitDefEqProofs -proj only [e3, ↓hlSend_mem]

theorem pullReceived_wf (s : State) (h : Memory.wf s.mem = true) : Memory.wf (State.pullReceived s).mem = true := by
  unfold State.pullReceived
  repeat' first | (simp -implicitDefEqProofs -proj only [h, ↓inTake_mem, ↓setByte_wf, ↓pullTailPut_mem, ↓setFld_mem, ↓each_mem, ↓each_wf, ↓clearMem_wf, ↓loadCascade_mem, ↓setTstate_mem, ↓mem_mk, implies_true]; done) | with_reducible assumption | split | with_reducible refine each_wf _ _ _ ?_ ?_ | with_reducible refine foldl_wf _ _ _ ?_ ?_ | with_reducible refine setByte_wf _ _ _ ?_ | with_reducible refine clearMem_wf _ _ _ ?_ | intro _ | simp -implicitDefEqProofs -proj only [h, ↓inTake_mem, ↓setByte_wf, ↓pullTailPut_mem, ↓setFld_mem, ↓each_mem, ↓each_wf, ↓clearMem_wf, ↓loadCascade_mem, ↓setTstate_mem, ↓mem_mk, implies_true]

theorem standbyEnter_mem (s : State) : (State.standbyEnter s).mem = s.mem := by
  unfold State.standbyEnter
  extract_lets l1
  simp -implicitDefEqProofs -proj only [↓setTstate_mem, ↓setFld_mem]

theorem twinCntClr_mem (s : State) : (State.twinCntClr s).mem = s.mem := by
  simp -implicitDefEqProofs -proj only [State.twinCntClr, ↓setReg_mem]

theorem twinBoundary_mem (s : State) : (State.twinBoundary s).mem = s.mem := by
  unfold State.twinBoundary
  extract_lets s1 l2 s3 l4 s5 s6 l7 s8 l9
  have e1 : s1.mem = s.mem := by
    simp -implicitDefEqProofs -proj only [s1, ↓handoverBoundary_mem]
  clear_value s1
  have e3 : s3.mem = s.mem := by
    dsimp only [s3]; (repeat' split) <;> simp -implicitDefEqProofs -proj only [e1, ↓enterLeader_mem, ↓mem_mk]
  clear_value s3
  have e5 : s5.mem = s.mem := by
    simp -implicitDefEqProofs -proj only [s5, e3, ↓mem_mk]
  clear_value s5
  have e6 : s6.mem = s.mem := by
    dsimp only [s6]; (repeat' split) <;> simp -implicitDefEqProofs -proj only [e3, e5, ↓enterLeader_mem]
  clear_value s6
  have e8 : s8.mem = s.mem := by
    dsimp only [s8]; split <;> simp -implicitDefEqProofs -proj only [e6, ↓mem_mk]
  clear_value s8
  split <;> simp -implicitDefEqProofs -proj only [e8, ↓mem_mk]

theorem coldBoundary_mem (s : State) : (State.coldBoundary s).mem = s.mem := by
  unfold State.coldBoundary
  extract_lets l1 l2
  simp -implicitDefEqProofs -proj only [↓mem_mk]

/-! ### LoadOps -/

theorem loadTag_mem (s : State) (cls : Nat) (i : Nat) (b : List Byte) : (State.loadTag s cls i b).mem = s.mem := by
  simp -implicitDefEqProofs -proj only [State.loadTag, ↓each_mem, ↓setRegN_mem, implies_true]

theorem loadReg_mem (s : State) (addr : Nat) (v : Nat) : (State.loadReg s addr v).mem = s.mem := by
  unfold State.loadReg
  split <;> simp -implicitDefEqProofs -proj only [↓setRegN_mem]

theorem applyLoad_wf (s : State) (x1 : Load) (h : Memory.wf s.mem = true) : Memory.wf (State.applyLoad s x1).mem = true := by
  unfold State.applyLoad
  extract_lets l1 l2 l3 l4 l5 l6 l7
  repeat' first | (simp -implicitDefEqProofs -proj only [h, ↓loadReg_mem, ↓setBytes_wf, ↓loadTag_mem, ↓setSg_mem, ↓mem_mk]; done) | with_reducible assumption | split | with_reducible refine each_wf _ _ _ ?_ ?_ | with_reducible refine foldl_wf _ _ _ ?_ ?_ | with_reducible refine setBytes_wf _ _ _ ?_ | intro _ | simp -implicitDefEqProofs -proj only [h, ↓loadReg_mem, ↓setBytes_wf, ↓loadTag_mem, ↓setSg_mem, ↓mem_mk]

theorem applyLoads_wf (s : State) (l : List Load) (h : Memory.wf s.mem = true) : Memory.wf (State.applyLoads s l).mem = true := by
  unfold State.applyLoads
  repeat' first | (simp -implicitDefEqProofs -proj only [h, ↓applyLoad_wf]; done) | with_reducible assumption | split | with_reducible refine each_wf _ _ _ ?_ ?_ | with_reducible refine foldl_wf _ _ _ ?_ ?_ | with_reducible refine applyLoad_wf _ _ ?_ | intro _ | simp -implicitDefEqProofs -proj only [h, ↓applyLoad_wf]

theorem keepClosure_wf (s : State) (was : State) (bank : Nat → Nat) (h : Memory.wf s.mem = true) : Memory.wf (State.keepClosure s was bank).mem = true := by
  unfold State.keepClosure
  repeat' first | (simp -implicitDefEqProofs -proj only [h, ↓each_mem, ↓each_wf, ↓store_wf, implies_true]; done) | with_reducible assumption | split | with_reducible refine each_wf _ _ _ ?_ ?_ | with_reducible refine foldl_wf _ _ _ ?_ ?_ | with_reducible refine store_wf _ _ _ _ ?_ | intro _ | simp -implicitDefEqProofs -proj only [h, ↓each_mem, ↓each_wf, ↓store_wf, implies_true]

/-! ### AdmOps -/

theorem showUnit_mem (s : State) (j : Nat) (rm : List Nat) (u : Nat) : (State.showUnit s j rm u).mem = s.mem := by
  unfold State.showUnit
  extract_lets l1 l2 s3 s4
  have e3 : s3.mem = s.mem := by
    simp -implicitDefEqProofs -proj only [s3, ↓setFld_mem]
  clear_value s3
  have e4 : s4.mem = s.mem := by
    simp -implicitDefEqProofs -proj only [s4, e3, ↓setFld_mem]
  clear_value s4
  simp -implicitDefEqProofs -proj only [e4, ↓setFld_mem]

theorem showUnits_mem (s : State) (j : Nat) (rm : List Nat) : (State.showUnits s j rm).mem = s.mem := by
  simp -implicitDefEqProofs -proj only [State.showUnits, ↓each_mem, ↓showUnit_mem, implies_true]

theorem setPledge_mem (s : State) (u : Nat) (r : Nat) (cls : Nat) (p : Nat) : (State.setPledge s u r cls p).mem = s.mem := by
  simp -implicitDefEqProofs -proj only [State.setPledge, ↓setFld_mem]

theorem defaultClass_mem (s : State) (u : Nat) (r : Nat) : (State.defaultClass s u r).mem = s.mem := by
  unfold State.defaultClass
  extract_lets l1
  (repeat' split) <;> simp -implicitDefEqProofs -proj only [↓setPledge_mem]

theorem otherPledges_mem (s : State) : (State.otherPledges s).mem = s.mem := by
  unfold State.otherPledges
  extract_lets s1
  have e1 : s1.mem = s.mem := by
    dsimp only [s1]; repeat' first | (simp -implicitDefEqProofs -proj only [↓each_mem, ↓setPledge_mem, implies_true]; done) | with_reducible assumption | split | with_reducible refine (each_mem _ _ _ ?_).trans ?_ | with_reducible refine (foldl_mem _ _ _ ?_).trans ?_ | intro _ | simp -implicitDefEqProofs -proj only [↓each_mem, ↓setPledge_mem, implies_true]
  clear_value s1
  simp -implicitDefEqProofs -proj only [e1, ↓each_mem, ↓defaultClass_mem, implies_true]

theorem axisPledge_mem (s : State) (n : Nat) : (State.axisPledge s n).mem = s.mem := by
  unfold State.axisPledge
  split <;> simp -implicitDefEqProofs -proj only [↓setPledge_mem]

theorem repledge_mem (s : State) (n : Nat) : (State.repledge s n).mem = s.mem := by
  unfold State.repledge
  (repeat' split) <;> simp -implicitDefEqProofs -proj only [↓showUnit_mem, ↓axisPledge_mem]

theorem pledgeDefaults_mem (s : State) : (State.pledgeDefaults s).mem = s.mem := by
  simp -implicitDefEqProofs -proj only [State.pledgeDefaults, ↓otherPledges_mem, ↓each_mem, ↓axisPledge_mem, implies_true]

theorem admReport_mem (s : State) (f : Option AdmFail) : (State.admReport s f).mem = s.mem := by
  unfold State.admReport
  extract_lets l1 s2 s3 s4 s5
  have e2 : s2.mem = s.mem := by
    simp -implicitDefEqProofs -proj only [s2, ↓setFlag_mem]
  clear_value s2
  have e3 : s3.mem = s.mem := by
    simp -implicitDefEqProofs -proj only [s3, e2, ↓setFld_mem]
  clear_value s3
  have e4 : s4.mem = s.mem := by
    simp -implicitDefEqProofs -proj only [s4, e3, ↓setFld_mem]
  clear_value s4
  have e5 : s5.mem = s.mem := by
    simp -implicitDefEqProofs -proj only [s5, e4, ↓setFld_mem]
  clear_value s5
  simp -implicitDefEqProofs -proj only [e5, ↓raise_mem, ↓setFld_mem]

theorem showShed_mem (s : State) : (State.showShed s).mem = s.mem := by
  simp -implicitDefEqProofs -proj only [State.showShed, ↓setFld_mem]

theorem setShedSet_mem (s : State) (l : List Nat) : (State.setShedSet s l).mem = s.mem := by
  unfold State.setShedSet
  extract_lets l1
  simp -implicitDefEqProofs -proj only [↓showShed_mem, ↓mem_mk]

theorem admBegin_mem (s : State) (kind : Nat) (jets : Nat) : (State.admBegin s kind jets).mem = s.mem := by
  unfold State.admBegin
  extract_lets l1
  simp -implicitDefEqProofs -proj only [↓setFlag_mem, ↓mem_mk]

theorem admAfterJ_mem (s : State) : (State.admAfterJ s).mem = s.mem := by
  unfold State.admAfterJ
  extract_lets l1
  split <;> simp -implicitDefEqProofs -proj only [↓admBegin_mem, ↓mem_mk]

theorem admCheck_mem (s : State) : (State.admCheck s).mem = s.mem := by
  simp -implicitDefEqProofs -proj only [State.admCheck, ↓admBegin_mem]

theorem shedAxis_mem (s : State) (n : Nat) : (State.shedAxis s n).mem = s.mem := by
  unfold State.shedAxis
  extract_lets s1 s2 l3 s4 s5 l6
  have e1 : s1.mem = s.mem := by
    simp -implicitDefEqProofs -proj only [s1, ↓setFlag_mem]
  clear_value s1
  have e2 : s2.mem = s.mem := by
    simp -implicitDefEqProofs -proj only [s2, e1, ↓setPledge_mem]
  clear_value s2
  have e4 : s4.mem = s.mem := by
    simp -implicitDefEqProofs -proj only [s4, e2, ↓mem_mk]
  clear_value s4
  have e5 : s5.mem = s.mem := by
    simp -implicitDefEqProofs -proj only [s5, e4, ↓homeAbort_mem, ↓reloadTask_mem, ↓cmdDrop_mem]
  clear_value s5
  split <;> simp -implicitDefEqProofs -proj only [e4, e5, ↓setAx_mem, ↓setStop_mem]

theorem readmitAxis_mem (s : State) (n : Nat) : (State.readmitAxis s n).mem = s.mem := by
  unfold State.readmitAxis
  extract_lets l1 s2 s3
  have e2 : s2.mem = s.mem := by
    simp -implicitDefEqProofs -proj only [s2, ↓mem_mk]
  clear_value s2
  have e3 : s3.mem = s.mem := by
    simp -implicitDefEqProofs -proj only [s3, e2, ↓setPledge_mem]
  clear_value s3
  split <;> simp -implicitDefEqProofs -proj only [e3, ↓setAx_mem]

theorem shedRecheck_mem (s : State) (was : Nat) (j : Nat) : (State.shedRecheck s was j).mem = s.mem := by
  unfold State.shedRecheck
  extract_lets l1 s2
  have e2 : s2.mem = s.mem := by
    simp -implicitDefEqProofs -proj only [s2, ↓mem_mk]
  clear_value s2
  (repeat' split) <;> simp -implicitDefEqProofs -proj only [e2, ↓admAfterJ_mem, ↓setShedSet_mem, ↓admBegin_mem]

theorem shedBoundary_mem (s : State) (was : Nat) (j : Nat) : (State.shedBoundary s was j).mem = s.mem := by
  unfold State.shedBoundary
  extract_lets l1 l2 l3 l4 s5 s6 s7 s8 s9
  clear_value l1 l2 l3
  have e5 : s5.mem = s.mem := mem_mk
  clear_value s5
  have e6 : s6.mem = s.mem := by
    dsimp only [s6]
    split
    · exact e5
    · exact (abdMark_mem ..).trans e5
  clear_value s6
  have e7 : s7.mem = s.mem := (eachCall_mem _ _ State.shedAxis shedAxis_mem).trans e6
  clear_value s7
  have e8 : s8.mem = s.mem := (eachCall_mem _ _ State.readmitAxis readmitAxis_mem).trans e7
  clear_value s8
  have e9 : s9.mem = s.mem := (shedRecheck_mem ..).trans e8
  clear_value s9
  exact (doIf_mem _ _ _ (fun u => (showShed_mem _).trans (showUnits_mem u _ _))).trans e9

theorem admNext_mem (s : State) : (State.admNext s).mem = s.mem := by
  unfold State.admNext
  extract_lets l1 s2 l3
  have e2 : s2.mem = s.mem := by
    simp -implicitDefEqProofs -proj only [s2, ↓setFlag_mem, ↓mem_mk]
  clear_value s2
  (repeat' split) <;> simp -implicitDefEqProofs -proj only [e2, ↓admBegin_mem, ↓mem_mk]

theorem admDoneJ_mem (s : State) : (State.admDoneJ s).mem = s.mem := by
  unfold State.admDoneJ
  extract_lets l1 l2 l3 l4 s5
  have e5 : s5.mem = s.mem := by
    simp -implicitDefEqProofs -proj only [s5, ↓mem_mk]
  clear_value s5
  split <;> simp -implicitDefEqProofs -proj only [e5, ↓admReport_mem, ↓setShedSet_mem]

theorem admBackIn_mem (s : State) (n : Nat) (j : Nat) (rm : List Nat) : (State.admBackIn s n j rm).mem = s.mem := by
  unfold State.admBackIn
  extract_lets l1 s2
  have e2 : s2.mem = s.mem := by
    simp -implicitDefEqProofs -proj only [s2, ↓mem_mk]
  clear_value s2
  simp -implicitDefEqProofs -proj only [e2, ↓admReport_mem, ↓setShedSet_mem]

theorem admBackTests_mem (s : State) (n : Nat) : (State.admBackTests s n).mem = s.mem := by
  unfold State.admBackTests
  extract_lets l1
  split <;> simp -implicitDefEqProofs -proj only [↓admReport_mem, ↓admBackIn_mem]

theorem admDoneBack_mem (s : State) : (State.admDoneBack s).mem = s.mem := by
  unfold State.admDoneBack
  extract_lets l1
  split <;> simp -implicitDefEqProofs -proj only [↓admBackTests_mem, ↓mem_mk]

theorem admDoneCheck_mem (s : State) (jets : Nat) : (State.admDoneCheck s jets).mem = s.mem := by
  simp -implicitDefEqProofs -proj only [State.admDoneCheck, ↓admReport_mem]

end Sys2Proof.Machine
end

