-- ==== Sys2Proof/Laws/MemEngines.lean ====
section
/-! SUPPORT. What every operation of the mirages, the safety unit, the Spout and the mailboxes leaves of the memories:
the operations that store nothing leave them as they were (_mem), the others keep their canonical form (_wf). -/
set_option linter.unusedSimpArgs false
namespace Sys2Proof.Machine

/-! ### MirageOps -/

theorem setMirState_mem (s : State) (c : Nat) (st : Nat) : (State.setMirState s c st).mem = s.mem := by
  simp -implicitDefEqProofs -proj only [State.setMirState, ↓setFld_mem]

theorem xtlShow_mem (s : State) : (State.xtlShow s).mem = s.mem := by
  simp -implicitDefEqProofs -proj only [State.xtlShow, ↓each_mem, ↓setFld_mem, implies_true]

theorem setBalls_mem (s : State) (p : Nat) : (State.setBalls s p).mem = s.mem := by
  simp -implicitDefEqProofs -proj only [State.setBalls, ↓xtlShow_mem, ↓mem_mk]

theorem mirCount_mem (s : State) (c : Nat) (f : Fld) : (State.mirCount s c f).mem = s.mem := by
  simp -implicitDefEqProofs -proj only [State.mirCount, ↓incSat_mem]

theorem mirAccept_mem (s : State) (c : Nat) (tick : Nat) (time : Word48) (short : Bool) : (State.mirAccept s c tick time short).mem = s.mem := by
  unfold State.mirAccept
  extract_lets l1 l2 l3 s4
  have e4 : s4.mem = s.mem := by
    simp -implicitDefEqProofs -proj only [s4, ↓setMir_mem]
  clear_value s4
  simp -implicitDefEqProofs -proj only [e4, ↓xtlShow_mem, ↓setMirState_mem]

theorem mirTrigger1_mem (s : State) (c : Nat) (tick : Nat) (time : Word48) : (State.mirTrigger1 s c tick time).mem = s.mem := by
  unfold State.mirTrigger1
  extract_lets l1 l2 s3 l4
  have e3 : s3.mem = s.mem := by
    simp -implicitDefEqProofs -proj only [s3, ↓setMir_mem]
  clear_value s3
  (repeat' split) <;> simp -implicitDefEqProofs -proj only [e3, ↓mirCount_mem, ↓mirAccept_mem, ↓setMir_mem, ↓incSat_mem]

theorem mirTrigger_mem (s : State) (x1 : Nat) (x2 : Nat) (x3 : Nat) (x4 : Word48) : (State.mirTrigger s x1 x2 x3 x4).mem = s.mem := by
  induction x1 generalizing s x2 with
  | zero => rfl
  | succ d ih =>
    unfold State.mirTrigger
    split
    · rfl
    · refine (foldl_mem _ _ _ ?_).trans (mirTrigger1_mem ..)
      intro u a
      exact ih _ _

theorem mirTrigNow_mem (s : State) (c : Nat) : (State.mirTrigNow s c).mem = s.mem := by
  simp -implicitDefEqProofs -proj only [State.mirTrigNow, ↓mirTrigger_mem]

theorem mirFire_mem (i : Nat) (s : State) : (mirFire i s).mem = s.mem := by
  unfold mirFire
  repeat' first | (simp -implicitDefEqProofs -proj only [↓mirTrigNow_mem]; done) | with_reducible assumption | split | with_reducible refine (each_mem _ _ _ ?_).trans ?_ | with_reducible refine (foldl_mem _ _ _ ?_).trans ?_ | intro _ | simp -implicitDefEqProofs -proj only [↓mirTrigNow_mem]

theorem mirFault_mem (s : State) (n : Nat) : (State.mirFault s n).mem = s.mem := by
  unfold State.mirFault
  repeat' first | (simp -implicitDefEqProofs -proj only [↓mirTrigNow_mem]; done) | with_reducible assumption | split | with_reducible refine (each_mem _ _ _ ?_).trans ?_ | with_reducible refine (foldl_mem _ _ _ ?_).trans ?_ | intro _ | simp -implicitDefEqProofs -proj only [↓mirTrigNow_mem]

theorem mirWrap_mem (s : State) (c : Nat) : (State.mirWrap s c).mem = s.mem := by
  unfold State.mirWrap
  extract_lets s1 l2 l3 l4 l5 s6 s7 s8
  have e1 : s1.mem = s.mem := by
    simp -implicitDefEqProofs -proj only [s1, ↓setFld_mem]
  clear_value s1
  have e6 : s6.mem = s.mem := by
    simp -implicitDefEqProofs -proj only [s6, e1, ↓setFlag_mem, ↓setFld_mem]
  clear_value s6
  have e7 : s7.mem = s.mem := by
    dsimp only [s7]; split <;> simp -implicitDefEqProofs -proj only [e6, ↓setFld_mem]
  clear_value s7
  have e8 : s8.mem = s.mem := by
    simp -implicitDefEqProofs -proj only [s8, e7, ↓setFld_mem, ↓setFlag_mem]
  clear_value s8
  (repeat' split) <;> simp -implicitDefEqProofs -proj only [e1, e7, e8, ↓raiseIf_mem]

theorem mirNext_mem (s : State) (c : Nat) (i : Nat) : (State.mirNext s c i).mem = s.mem := by
  unfold State.mirNext
  split <;> simp -implicitDefEqProofs -proj only [↓mirWrap_mem, ↓setFld_mem]

theorem mirLost_mem (s : State) (c : Nat) : (State.mirLost s c).mem = s.mem := by
  unfold State.mirLost
  extract_lets s1 l2 s3
  have e1 : s1.mem = s.mem := by
    simp -implicitDefEqProofs -proj only [s1, ↓mirCount_mem]
  clear_value s1
  have e3 : s3.mem = s.mem := by
    simp -implicitDefEqProofs -proj only [s3, e1, ↓setMir_mem]
  clear_value s3
  simp -implicitDefEqProofs -proj only [e3, ↓raiseIf_mem]

theorem mirDead_mem (s : State) (c : Nat) : (State.mirDead s c).mem = s.mem := by
  unfold State.mirDead
  extract_lets l1
  split <;> simp -implicitDefEqProofs -proj only [↓setFld_mem, ↓setMir_mem]

theorem mirToReady_mem (s : State) (c : Nat) : (State.mirToReady s c).mem = s.mem := by
  unfold State.mirToReady
  extract_lets s1
  have e1 : s1.mem = s.mem := by
    simp -implicitDefEqProofs -proj only [s1, ↓setMirState_mem]
  clear_value s1
  split <;> simp -implicitDefEqProofs -proj only [e1, ↓mirDead_mem]

theorem mirToPre_mem (s : State) (c : Nat) : (State.mirToPre s c).mem = s.mem := by
  unfold State.mirToPre
  extract_lets l1 s2 s3 s4
  have e2 : s2.mem = s.mem := by
    simp -implicitDefEqProofs -proj only [s2, ↓setMir_mem]
  clear_value s2
  have e3 : s3.mem = s.mem := by
    simp -implicitDefEqProofs -proj only [s3, e2, ↓setMirState_mem]
  clear_value s3
  have e4 : s4.mem = s.mem := by
    dsimp only [s4]; split <;> simp -implicitDefEqProofs -proj only [e3, ↓mirDead_mem]
  clear_value s4
  split <;> simp -implicitDefEqProofs -proj only [e4, ↓mirToReady_mem]

theorem mirWithdraw_mem (s : State) (c : Nat) : (State.mirWithdraw s c).mem = s.mem := by
  unfold State.mirWithdraw
  extract_lets l1
  simp -implicitDefEqProofs -proj only [↓setMir_mem, ↓arbWithdraw_mem]

theorem mirUpload_mem (s : State) (c : Nat) (rd : Nat) (b : List Byte) : (State.mirUpload s c rd b).mem = s.mem := by
  simp -implicitDefEqProofs -proj only [State.mirUpload, ↓dmaAdd_mem, ↓setFlag_mem]

theorem mirEnd_mem (s : State) (c : Nat) (timeout : Bool) (mask : Bool) : (State.mirEnd s c timeout mask).mem = s.mem := by
  unfold State.mirEnd
  extract_lets s1 l2 l3 l4 l5 l6 s7 s8 s9 s10 s11 s12 s13 s14 l15 s16 l17 s18 s19 l20 s21
  have e1 : s1.mem = s.mem := by
    simp -implicitDefEqProofs -proj only [s1, ↓mirWithdraw_mem]
  clear_value s1
  have e7 : s7.mem = s.mem := by
    simp -implicitDefEqProofs -proj only [s7, e1, ↓setFld_mem]
  clear_value s7
  have e8 : s8.mem = s.mem := by
    simp -implicitDefEqProofs -proj only [s8, e7, ↓setFld_mem]
  clear_value s8
  have e9 : s9.mem = s.mem := by
    simp -implicitDefEqProofs -proj only [s9, e8, ↓setFlag_mem]
  clear_value s9
  have e10 : s10.mem = s.mem := by
    simp -implicitDefEqProofs -proj only [s10, e9, ↓setFld_mem, ↓setFlag_mem]
  clear_value s10
  have e11 : s11.mem = s.mem := by
    simp -implicitDefEqProofs -proj only [s11, e10, ↓setFld_mem]
  clear_value s11
  have e12 : s12.mem = s.mem := by
    simp -implicitDefEqProofs -proj only [s12, e11, ↓setReg_mem]
  clear_value s12
  have e13 : s13.mem = s.mem := by
    simp -implicitDefEqProofs -proj only [s13, e12, ↓setReg_mem]
  clear_value s13
  have e14 : s14.mem = s.mem := by
    simp -implicitDefEqProofs -proj only [s14, e13, ↓incWrap_mem]
  clear_value s14
  have e16 : s16.mem = s.mem := by
    dsimp only [s16]; split <;> simp -implicitDefEqProofs -proj only [e14, ↓mirUpload_mem]
  clear_value s16
  have e18 : s18.mem = s.mem := by
    simp -implicitDefEqProofs -proj only [s18, e16, ↓setMirState_mem]
  clear_value s18
  have e19 : s19.mem = s.mem := by
    dsimp only [s19]; split <;> simp -implicitDefEqProofs -proj only [e18, ↓setFlag_mem]
  clear_value s19
  have e21 : s21.mem = s.mem := by
    simp -implicitDefEqProofs -proj only [s21, e19, ↓setMir_mem]
  clear_value s21
  simp -implicitDefEqProofs -proj only [e21, ↓raiseIf_mem]

theorem mirWrite_wf (s : State) (c : Nat) (r : MirRec) (slot : Nat) (h : Memory.wf s.mem = true) : Memory.wf (State.mirWrite s c r slot).mem = true := by
  unfold State.mirWrite
  extract_lets l1 l2 l3 s4 s5
  have e4 : Memory.wf s4.mem = true := by
    simp -implicitDefEqProofs -proj only [s4, h, ↓setBytes_wf]
  clear_value s4
  have e5 : Memory.wf s5.mem = true := by
    simp -implicitDefEqProofs -proj only [s5, e4, ↓setMir_mem]
  clear_value s5
  simp -implicitDefEqProofs -proj only [e5, ↓mirNext_mem]

theorem mirPut_wf (s : State) (c : Nat) (r : MirRec) (h : Memory.wf s.mem = true) : Memory.wf (State.mirPut s c r).mem = true := by
  unfold State.mirPut
  extract_lets l1 s2 l3 l4 s5 l6 s7 l8 s9
  have e2 : Memory.wf s2.mem = true := by
    simp -implicitDefEqProofs -proj only [s2, h, ↓incSat_mem, ↓setFld_mem]
  clear_value s2
  have e5 : Memory.wf s5.mem = true := by
    simp -implicitDefEqProofs -proj only [s5, h, ↓mirWrite_wf]
  clear_value s5
  have e7 : Memory.wf s7.mem = true := by
    simp -implicitDefEqProofs -proj only [s7, h, ↓mirWrite_wf]
  clear_value s7
  have e9 : Memory.wf s9.mem = true := by
    simp -implicitDefEqProofs -proj only [s9, e7, ↓setMir_mem]
  clear_value s9
  (repeat' split) <;> simp -implicitDefEqProofs -proj only [h, e2, e5, e9, ↓mirWrite_wf, ↓mirLost_mem, ↓setMir_mem, ↓mirToReady_mem]

theorem mirStore_wf (s : State) (c : Nat) (r : MirRec) (h : Memory.wf s.mem = true) : Memory.wf (State.mirStore s c r).mem = true := by
  unfold State.mirStore
  extract_lets s1
  have e1 : Memory.wf s1.mem = true := by
    simp -implicitDefEqProofs -proj only [s1, h, ↓mirPut_wf]
  clear_value s1
  split <;> simp -implicitDefEqProofs -proj only [e1, ↓mirEnd_mem]

theorem mirGrant_wf (q : ArbReq) (s : State) (h : Memory.wf s.mem = true) : Memory.wf (mirGrant q s).mem = true := by
  unfold mirGrant
  extract_lets l1 l2
  split <;> simp -implicitDefEqProofs -proj only [h, ↓mirStore_wf, ↓setMir_mem]

theorem mirRefused_mem (s : State) (q : ArbReq) : (State.mirRefused s q).mem = s.mem := by
  unfold State.mirRefused
  extract_lets l1 l2
  split <;> simp -implicitDefEqProofs -proj only [↓mirLost_mem, ↓setMir_mem, ↓mirCount_mem, ↓raiseIf_mem]

theorem mirRequest_mem (s : State) (c : Nat) (r : MirRec) : (State.mirRequest s c r).mem = s.mem := by
  unfold State.mirRequest
  extract_lets l1 l2 s3 l4
  have e3 : s3.mem = s.mem := by
    simp -implicitDefEqProofs -proj only [s3, ↓setMir_mem]
  clear_value s3
  split <;> simp -implicitDefEqProofs -proj only [e3, ↓mirLost_mem, ↓arbAdd_mem]

theorem mirAbs_mem (s : State) (c : Nat) : (State.mirAbs s c).mem = s.mem := by
  simp -implicitDefEqProofs -proj only [State.mirAbs, ↓mirRequest_mem]

theorem mirArm_mem (s : State) (c : Nat) (t : Nat) : (State.mirArm s c t).mem = s.mem := by
  unfold State.mirArm
  extract_lets l1 l2 l3 s4
  have e4 : s4.mem = s.mem := by
    simp -implicitDefEqProofs -proj only [s4, ↓setMir_mem]
  clear_value s4
  split <;> simp -implicitDefEqProofs -proj only [e4, ↓setMirState_mem]

theorem mirDisarm_mem (s : State) (c : Nat) : (State.mirDisarm s c).mem = s.mem := by
  unfold State.mirDisarm
  extract_lets s1 l2
  have e1 : s1.mem = s.mem := by
    simp -implicitDefEqProofs -proj only [s1, ↓mirWithdraw_mem]
  clear_value s1
  simp -implicitDefEqProofs -proj only [e1, ↓setMirState_mem, ↓setMir_mem]

theorem mirSettle_mem (s : State) (c : Nat) : (State.mirSettle s c).mem = s.mem := by
  unfold State.mirSettle
  extract_lets l1 l2 l3 s4 s5 l6 s7 l8
  have e4 : s4.mem = s.mem := by
    simp -implicitDefEqProofs -proj only [s4, ↓setMir_mem]
  clear_value s4
  have e5 : s5.mem = s.mem := by
    dsimp only [s5]; (repeat' split) <;> simp -implicitDefEqProofs -proj only [e4, ↓mirTrigger_mem]
  clear_value s5
  have e7 : s7.mem = s.mem := by
    dsimp only [s7]; split <;> simp -implicitDefEqProofs -proj only [e5, ↓mirArm_mem, ↓setMir_mem]
  clear_value s7
  split <;> simp -implicitDefEqProofs -proj only [e7, ↓mirDisarm_mem, ↓setMir_mem]

theorem mirOrder_mem (s : State) (c : Nat) (arm : Bool) (disarm : Bool) (force : Bool) : (State.mirOrder s c arm disarm force).mem = s.mem := by
  unfold State.mirOrder
  extract_lets s1 l2
  have e1 : s1.mem = s.mem := by
    simp -implicitDefEqProofs -proj only [s1, ↓mirSettle_mem]
  clear_value s1
  simp -implicitDefEqProofs -proj only [e1, ↓setMir_mem]

theorem mirCntClr_mem (s : State) (c : Nat) : (State.mirCntClr s c).mem = s.mem := by
  unfold State.mirCntClr
  extract_lets s1 l2
  have e1 : s1.mem = s.mem := by
    simp -implicitDefEqProofs -proj only [s1, ↓setReg_mem]
  clear_value s1
  simp -implicitDefEqProofs -proj only [e1, ↓setMir_mem]

theorem mirCurrent_mem (s : State) (n : Nat) : (State.mirCurrent s n).mem = s.mem := by
  simp -implicitDefEqProofs -proj only [State.mirCurrent, ↓each_mem, ↓setMir_mem, implies_true]

theorem mirSdResult_mem (s : State) (i : Nat) (sinc2 : Bool) : (State.mirSdResult s i sinc2).mem = s.mem := by
  simp -implicitDefEqProofs -proj only [State.mirSdResult, ↓each_mem, ↓setMir_mem, implies_true]

theorem mirMaskTest_mem (s : State) (c : Nat) (v : Word48) : (State.mirMaskTest s c v).2.mem = s.mem := by
  unfold State.mirMaskTest
  extract_lets l1
  repeat' first | (simp -implicitDefEqProofs only [↓setMir_mem, ↓setFlag_mem, ↓setFld_mem, ↓raiseIf_mem, ↓setReg_mem, ↓mirTrigger_mem, ↓mirTrigNow_mem]; done) | with_reducible assumption | split | with_reducible refine (each_mem _ _ _ ?_).trans ?_ | with_reducible refine (foldl_mem _ _ _ ?_).trans ?_ | intro _ | simp -implicitDefEqProofs only [↓setMir_mem, ↓setFlag_mem, ↓setFld_mem, ↓raiseIf_mem, ↓setReg_mem, ↓mirTrigger_mem, ↓mirTrigNow_mem]

theorem mirLevels_mem (s : State) (c : Nat) (v : Word48) : (State.mirLevels s c v).mem = s.mem := by
  unfold State.mirLevels
  extract_lets l1 l2 s3
  have e3 : s3.mem = s.mem := by
    simp -implicitDefEqProofs -proj only [s3, ↓setMir_mem]
  clear_value s3
  repeat' first | (simp -implicitDefEqProofs -proj only [e3, ↓mirTrigNow_mem]; done) | with_reducible assumption | split | with_reducible refine (each_mem _ _ _ ?_).trans ?_ | with_reducible refine (foldl_mem _ _ _ ?_).trans ?_ | intro _ | simp -implicitDefEqProofs -proj only [e3, ↓mirTrigNow_mem]

theorem mirMaskStop_wf (s : State) (c : Nat) (h : Memory.wf s.mem = true) : Memory.wf (State.mirMaskStop s c).mem = true := by
  unfold State.mirMaskStop
  extract_lets s1 s2 s3 s4
  have e1 : Memory.wf s1.mem = true := by
    dsimp only [s1]; repeat' first | (simp -implicitDefEqProofs -proj only [h, ↓mirPut_wf]; done) | with_reducible assumption | split | with_reducible refine each_wf _ _ _ ?_ ?_ | with_reducible refine foldl_wf _ _ _ ?_ ?_ | with_reducible refine mirPut_wf _ _ _ ?_ | intro _ | simp -implicitDefEqProofs -proj only [h, ↓mirPut_wf]
  clear_value s1
  have e2 : Memory.wf s2.mem = true := by
    simp -implicitDefEqProofs -proj only [s2, e1, ↓mirWithdraw_mem]
  clear_value s2
  have e3 : Memory.wf s3.mem = true := by
    simp -implicitDefEqProofs -proj only [s3, e2, ↓setFlag_mem, ↓setMirState_mem]
  clear_value s3
  have e4 : Memory.wf s4.mem = true := by
    simp -implicitDefEqProofs -proj only [s4, e3, ↓incWrap_mem, ↓setFlag_mem]
  clear_value s4
  split <;> simp -implicitDefEqProofs -proj only [e1, e4, ↓raiseIf_mem, ↓mirEnd_mem]

theorem mirSample_wf (s : State) (c : Nat) (h : Memory.wf s.mem = true) : Memory.wf (State.mirSample s c).mem = true := by
  unfold State.mirSample
  extract_lets l1 l2 l3 l4 s5 s6 l7 s8 l9 l10 l11 l12 s13 l14 s15 s16
  have e5 : Memory.wf s5.mem = true := by
    simp -implicitDefEqProofs -proj only [s5, h, ↓setMir_mem]
  clear_value s5
  have e6 : Memory.wf s6.mem = true := by
    simp -implicitDefEqProofs -proj only [s6, e5, ↓mirLevels_mem]
  clear_value s6
  have e8 : Memory.wf s8.mem = true := by
    simp -implicitDefEqProofs -proj only [s8, e6, l7, ↓mirMaskTest_mem]
  clear_value s8
  have e13 : Memory.wf s13.mem = true := by
    dsimp only [s13]; split <;> simp -implicitDefEqProofs -proj only [e8, ↓setMir_mem]
  clear_value s13
  have e15 : Memory.wf s15.mem = true := by
    dsimp only [s15]; split <;> simp -implicitDefEqProofs -proj only [e13, ↓mirAbs_mem]
  clear_value s15
  have e16 : Memory.wf s16.mem = true := by
    dsimp only [s16]; split <;> simp -implicitDefEqProofs -proj only [e13, e15, ↓mirRequest_mem]
  clear_value s16
  (repeat' split) <;> simp -implicitDefEqProofs -proj only [e6, e16, ↓mirMaskStop_wf]

theorem mirEdgeAct_mem (s : State) (c : Nat) (rise : Bool) : (State.mirEdgeAct s c rise).mem = s.mem := by
  unfold State.mirEdgeAct
  extract_lets l1
  split <;> simp -implicitDefEqProofs -proj only [↓mirTrigger_mem]

theorem mirStream_mem (s : State) (c : Nat) : (State.mirStream s c).mem = s.mem := by
  unfold State.mirStream
  extract_lets l1 l2 l3 l4 s5
  have e5 : s5.mem = s.mem := by
    simp -implicitDefEqProofs -proj only [s5, ↓setMir_mem]
  clear_value s5
  simp -implicitDefEqProofs -proj only [e5, ↓mirUpload_mem]

theorem mirUploaded_mem (s : State) (c : Nat) : (State.mirUploaded s c).mem = s.mem := by
  unfold State.mirUploaded
  extract_lets l1 s2
  have e2 : s2.mem = s.mem := by
    simp -implicitDefEqProofs -proj only [s2, ↓setMir_mem]
  clear_value s2
  split <;> simp -implicitDefEqProofs -proj only [e2, ↓setFlag_mem, ↓setFld_mem]

theorem ringStage_mem (s : State) (c : Nat) (len : Nat) : (State.ringStage s c len).mem = s.mem := by
  unfold State.ringStage
  extract_lets l1 s2
  have e2 : s2.mem = s.mem := by
    simp -implicitDefEqProofs -proj only [s2, ↓setMir_mem]
  clear_value s2
  simp -implicitDefEqProofs -proj only [e2, ↓setFlag_mem, ↓setFld_mem]

theorem mirClose_mem (s : State) (c : Nat) : (State.mirClose s c).mem = s.mem := by
  simp -implicitDefEqProofs -proj only [State.mirClose, ↓xtlShow_mem, ↓setMirState_mem, ↓setMir_mem, ↓dmaCut_mem, ↓mirWithdraw_mem]

theorem mirReopen_mem (s : State) (c : Nat) : (State.mirReopen s c).mem = s.mem := by
  unfold State.mirReopen
  extract_lets s1 s2
  have e1 : s1.mem = s.mem := by
    simp -implicitDefEqProofs -proj only [s1, ↓setMir_mem]
  clear_value s1
  have e2 : s2.mem = s.mem := by
    dsimp only [s2]; repeat' first | (simp -implicitDefEqProofs -proj only [e1, ↓setReg_mem]; done) | with_reducible assumption | split | with_reducible refine (each_mem _ _ _ ?_).trans ?_ | with_reducible refine (foldl_mem _ _ _ ?_).trans ?_ | intro _ | simp -implicitDefEqProofs -proj only [e1, ↓setReg_mem]
  clear_value s2
  simp -implicitDefEqProofs -proj only [e2, ↓xtlShow_mem]

/-! ### OasisOps -/

theorem zoneEvent_mem (s : State) (z : Nat) : (State.zoneEvent s z).mem = s.mem := by
  simp -implicitDefEqProofs -proj only [State.zoneEvent, ↓raiseIf_mem]

theorem soSet_mem (s : State) (o : Nat) (on : Bool) : (State.soSet s o on).mem = s.mem := by
  unfold State.soSet
  extract_lets s1
  have e1 : s1.mem = s.mem := by
    simp -implicitDefEqProofs -proj only [s1, ↓setFlag_mem]
  clear_value s1
  split <;> simp -implicitDefEqProofs -proj only [e1, ↓setSo_mem]

theorem soFollow_mem (s : State) : (State.soFollow s).mem = s.mem := by
  simp -implicitDefEqProofs -proj only [State.soFollow, ↓each_mem, ↓soSet_mem, implies_true]

theorem soOff_mem (s : State) : (State.soOff s).mem = s.mem := by
  simp -implicitDefEqProofs -proj only [State.soOff, ↓each_mem, ↓soSet_mem, implies_true]

theorem zoneShow_mem (s : State) : (State.zoneShow s).mem = s.mem := by
  unfold State.zoneShow
  extract_lets l1
  simp -implicitDefEqProofs -proj only [↓setFld_mem]

theorem zoneEnter_mem (s : State) (z : Nat) (st : Nat) : (State.zoneEnter s z st).mem = s.mem := by
  unfold State.zoneEnter
  extract_lets s1 l2 s3 s4 s5
  have e1 : s1.mem = s.mem := by
    simp -implicitDefEqProofs -proj only [s1, ↓setFld_mem]
  clear_value s1
  have e3 : s3.mem = s.mem := by
    simp -implicitDefEqProofs -proj only [s3, e1, ↓setZone_mem]
  clear_value s3
  have e4 : s4.mem = s.mem := by
    dsimp only [s4]; split <;> simp -implicitDefEqProofs -proj only [e3, ↓incSat_mem]
  clear_value s4
  have e5 : s5.mem = s.mem := by
    dsimp only [s5]; split <;> simp -implicitDefEqProofs -proj only [e4, ↓each_mem, ↓unprecharge_mem, ↓pinsLow_mem, ↓groupPins_mem, implies_true]
  clear_value s5
  split <;> simp -implicitDefEqProofs -proj only [e5, ↓zoneEvent_mem, ↓zoneShow_mem, ↓soFollow_mem]

theorem zoneFault_mem (s : State) (z : Nat) (det : Nat) : (State.zoneFault s z det).mem = s.mem := by
  unfold State.zoneFault
  extract_lets l1 l2 l3 l4 l5 s6 s7 s8
  have e6 : s6.mem = s.mem := by
    simp -implicitDefEqProofs -proj only [s6, ↓setFld_mem]
  clear_value s6
  have e7 : s7.mem = s.mem := by
    dsimp only [s7]; (repeat' split) <;> simp -implicitDefEqProofs -proj only [e6, ↓setZone_mem, ↓setReg_mem, ↓setFld_mem]
  clear_value s7
  have e8 : s8.mem = s.mem := by
    dsimp only [s8]; repeat' first | (simp -implicitDefEqProofs -proj only [e7, ↓zoneEvent_mem]; done) | with_reducible assumption | split | with_reducible refine (each_mem _ _ _ ?_).trans ?_ | with_reducible refine (foldl_mem _ _ _ ?_).trans ?_ | intro _ | simp -implicitDefEqProofs -proj only [e7, ↓zoneEvent_mem]
  clear_value s8
  split <;> simp -implicitDefEqProofs -proj only [e8, ↓zoneEnter_mem]

theorem allFault_mem (s : State) (c : Nat) : (State.allFault s c).mem = s.mem := by
  simp -implicitDefEqProofs -proj only [State.allFault, ↓each_mem, ↓zoneFault_mem, implies_true]

theorem setCst_mem (s : State) (c : Nat) (st : Nat) : (State.setCst s c st).mem = s.mem := by
  unfold State.setCst
  split <;> simp -implicitDefEqProofs -proj only [↓zoneEvent_mem, ↓setFld_mem]

theorem connFail_mem (s : State) (c : Nat) : (State.connFail s c).mem = s.mem := by
  unfold State.connFail
  extract_lets s1
  have e1 : s1.mem = s.mem := by
    simp -implicitDefEqProofs -proj only [s1, ↓setCst_mem]
  clear_value s1
  split <;> simp -implicitDefEqProofs -proj only [e1, ↓zoneFault_mem]

theorem contJudge_mem (s : State) (c : Nat) (b : List Byte) : (State.contJudge s c b).mem = s.mem := by
  unfold State.contJudge
  extract_lets l1 l2 l3 l4 s5 s6 l7 l8 l9
  have e5 : s5.mem = s.mem := by
    simp -implicitDefEqProofs -proj only [s5, ↓setConn_mem, ↓incSat_mem]
  clear_value s5
  have e6 : s6.mem = s.mem := by
    simp -implicitDefEqProofs -proj only [s6, ↓incWrap_mem, ↓setFld_mem]
  clear_value s6
  (repeat' split) <;> simp -implicitDefEqProofs -proj only [e5, e6, ↓connFail_mem, ↓incSat_mem, ↓setConn_mem]

theorem contReceived_mem (s : State) : (State.contReceived s).mem = s.mem := by
  unfold State.contReceived
  extract_lets l1
  repeat' first | (simp -implicitDefEqProofs -proj only [↓contJudge_mem, ↓mem_mk]; done) | with_reducible assumption | split | with_reducible refine (each_mem _ _ _ ?_).trans ?_ | with_reducible refine (foldl_mem _ _ _ ?_).trans ?_ | intro _ | simp -implicitDefEqProofs -proj only [↓contJudge_mem, ↓mem_mk]

theorem watchdog_mem (s : State) (c : Nat) : (State.watchdog s c).mem = s.mem := by
  simp -implicitDefEqProofs -proj only [State.watchdog, ↓connFail_mem, ↓incSat_mem]

theorem contMake_mem (s : State) (c : Nat) : (State.contMake s c).2.mem = s.mem := by
  unfold State.contMake
  extract_lets l1 l2 l3
  simp -implicitDefEqProofs only [↓setConn_mem]

theorem contSupply_mem (s : State) : (State.contSupply s).mem = s.mem := by
  simp -implicitDefEqProofs -proj only [State.contSupply, ↓each_mem, ↓contMake_mem, ↓mem_mk, implies_true]

theorem siSample_mem (s : State) (i : Nat) (a : Bool) (b : Bool) : (State.siSample s i a b).mem = s.mem := by
  unfold State.siSample
  extract_lets s1 l2 l3 l4 l5 l6 l7 l8 l9 l10 l11 l12 s13 s14 s15 s16 s17
  have e1 : s1.mem = s.mem := by
    simp -implicitDefEqProofs -proj only [s1, ↓setFlag_mem]
  clear_value s1
  have e13 : s13.mem = s.mem := by
    simp -implicitDefEqProofs -proj only [s13, e1, ↓setSi_mem]
  clear_value s13
  have e14 : s14.mem = s.mem := by
    simp -implicitDefEqProofs -proj only [s14, e13, ↓setFld_mem, ↓setFlag_mem]
  clear_value s14
  have e15 : s15.mem = s.mem := by
    simp -implicitDefEqProofs -proj only [s15, e14, ↓setFlag_mem]
  clear_value s15
  have e16 : s16.mem = s.mem := by
    dsimp only [s16]; split <;> simp -implicitDefEqProofs -proj only [e15, ↓setFlag_mem]
  clear_value s16
  have e17 : s17.mem = s.mem := by
    dsimp only [s17]; split <;> simp -implicitDefEqProofs -proj only [e16, ↓setFlag_mem]
  clear_value s17
  (repeat' split) <;> simp -implicitDefEqProofs -proj only [e1, e17, ↓zoneEvent_mem, ↓incSat_mem]

theorem discFault_mem (s : State) (i : Nat) : (State.discFault s i).mem = s.mem := by
  simp -implicitDefEqProofs -proj only [State.discFault, ↓zoneFault_mem, ↓setFlag_mem]

theorem edmFault_mem (s : State) (o : Nat) : (State.edmFault s o).mem = s.mem := by
  simp -implicitDefEqProofs -proj only [State.edmFault, ↓zoneFault_mem]

theorem zoneReset_mem (s : State) (z : Nat) : (State.zoneReset s z).mem = s.mem := by
  unfold State.zoneReset
  extract_lets l1 s2 l3 s4 l5
  have e2 : s2.mem = s.mem := by
    simp -implicitDefEqProofs -proj only [s2, ↓setFld_mem]
  clear_value s2
  have e4 : s4.mem = s.mem := by
    simp -implicitDefEqProofs -proj only [s4, e2, ↓setZone_mem]
  clear_value s4
  (repeat' split) <;> simp -implicitDefEqProofs -proj only [e4, ↓zoneEvent_mem, ↓incSat_mem, ↓setFld_mem, ↓zoneEnter_mem]

theorem zoneTick_mem (s : State) (z : Nat) (det : Nat) : (State.zoneTick s z det).mem = s.mem := by
  unfold State.zoneTick
  extract_lets l1 l2 l3 s4 s5 s6 s7
  have e4 : s4.mem = s.mem := by
    simp -implicitDefEqProofs -proj only [s4, ↓setZone_mem]
  clear_value s4
  have e5 : s5.mem = s.mem := by
    simp -implicitDefEqProofs -proj only [s5, e4, ↓setFld_mem]
  clear_value s5
  have e6 : s6.mem = s.mem := by
    dsimp only [s6]; split <;> simp -implicitDefEqProofs -proj only [e5, ↓setFlag_mem]
  clear_value s6
  have e7 : s7.mem = s.mem := by
    simp -implicitDefEqProofs -proj only [s7, e6, ↓setFlag_mem]
  clear_value s7
  (repeat' split) <;> simp -implicitDefEqProofs -proj only [e7, ↓zoneFault_mem, ↓zoneEnter_mem]

theorem zoneStatus_mem (s : State) (z : Nat) : (State.zoneStatus s z).mem = s.mem := by
  unfold State.zoneStatus
  extract_lets l1 l2 s3 s4 l5
  have e3 : s3.mem = s.mem := by
    simp -implicitDefEqProofs -proj only [s3, ↓setFlag_mem]
  clear_value s3
  have e4 : s4.mem = s.mem := by
    simp -implicitDefEqProofs -proj only [s4, e3, ↓setFlag_mem]
  clear_value s4
  simp -implicitDefEqProofs -proj only [e4, ↓setFld_mem]

theorem oasStatus_mem (s : State) : (State.oasStatus s).mem = s.mem := by
  unfold State.oasStatus
  extract_lets s1 s2 s3
  have e1 : s1.mem = s.mem := by
    simp -implicitDefEqProofs -proj only [s1, ↓each_mem, ↓zoneStatus_mem, implies_true]
  clear_value s1
  have e2 : s2.mem = s.mem := by
    simp -implicitDefEqProofs -proj only [s2, e1, ↓setFlag_mem]
  clear_value s2
  have e3 : s3.mem = s.mem := by
    simp -implicitDefEqProofs -proj only [s3, e2, ↓setFlag_mem]
  clear_value s3
  simp -implicitDefEqProofs -proj only [e3, ↓zoneShow_mem, ↓setFlag_mem]

theorem srstSample_mem (s : State) (a : Bool) (b : Bool) : (State.srstSample s a b).mem = s.mem := by
  unfold State.srstSample
  extract_lets l1 s2 l3 s4 l5 l6 l7
  have e2 : s2.mem = s.mem := by
    simp -implicitDefEqProofs -proj only [s2, ↓setFlag_mem]
  clear_value s2
  have e4 : s4.mem = s.mem := by
    dsimp only [s4]; split <;> simp -implicitDefEqProofs -proj only [e2, ↓setFlag_mem]
  clear_value s4
  split <;> simp -implicitDefEqProofs -proj only [e2, e4, ↓mem_mk]

theorem srstStuck_mem (s : State) : (State.srstStuck s).mem = s.mem := by
  unfold State.srstStuck
  extract_lets s1 l2
  have e1 : s1.mem = s.mem := by
    simp -implicitDefEqProofs -proj only [s1, ↓setFlag_mem]
  clear_value s1
  simp -implicitDefEqProofs -proj only [e1, ↓mem_mk]

theorem srstEdge_mem (s : State) : (State.srstEdge s).mem = s.mem := by
  unfold State.srstEdge
  extract_lets s1 l2 s3
  have e1 : s1.mem = s.mem := by
    simp -implicitDefEqProofs -proj only [s1, ↓incSat_mem]
  clear_value s1
  have e3 : s3.mem = s.mem := by
    simp -implicitDefEqProofs -proj only [s3, e1, ↓mem_mk]
  clear_value s3
  simp -implicitDefEqProofs -proj only [e3, ↓oasStatus_mem, ↓each_mem, ↓zoneReset_mem, implies_true]

theorem soSample_mem (s : State) (o : Nat) (hs : Bool) (ls : Bool) (edm : Nat) : (State.soSample s o hs ls edm).mem = s.mem := by
  unfold State.soSample
  extract_lets s1 s2
  have e1 : s1.mem = s.mem := by
    simp -implicitDefEqProofs -proj only [s1, ↓setFlag_mem]
  clear_value s1
  have e2 : s2.mem = s.mem := by
    dsimp only [s2]; split <;> simp -implicitDefEqProofs -proj only [e1, ↓setFlag_mem]
  clear_value s2
  simp -implicitDefEqProofs -proj only [e2, ↓setFlag_mem]

theorem connTick_mem (s : State) (c : Nat) : (State.connTick s c).mem = s.mem := by
  unfold State.connTick
  extract_lets l1
  split <;> simp -implicitDefEqProofs -proj only [↓setCst_mem, ↓setConn_mem]

theorem orderTick_mem (s : State) (z : Nat) : (State.orderTick s z).mem = s.mem := by
  unfold State.orderTick
  extract_lets l1 s2
  have e2 : s2.mem = s.mem := by
    simp -implicitDefEqProofs -proj only [s2, ↓each_mem, ↓setConn_mem, implies_true]
  clear_value s2
  (repeat' split) <;> simp -implicitDefEqProofs -proj only [e2, ↓zoneReset_mem]

theorem safetyTick_mem (s : State) (si : Nat) (rb : Nat) (edm : Nat) (srst : Nat) (mis : Bool) : (State.safetyTick s si rb edm srst mis).mem = s.mem := by
  unfold State.safetyTick
  extract_lets s1 l2 s3 l4 s5 s6 s7 s8 s9 s10 s11 s12
  have e1 : s1.mem = s.mem := by
    dsimp only [s1]; split <;> simp -implicitDefEqProofs -proj only [↓each_mem, ↓setSo_mem, implies_true]
  clear_value s1
  have e3 : s3.mem = s.mem := by
    simp -implicitDefEqProofs -proj only [s3, e1, ↓mem_mk]
  clear_value s3
  have e5 : s5.mem = s.mem := by
    simp -implicitDefEqProofs -proj only [s5, e3, ↓each_mem, ↓siSample_mem, implies_true]
  clear_value s5
  have e6 : s6.mem = s.mem := by
    simp -implicitDefEqProofs -proj only [s6, e5, ↓each_mem, ↓soSample_mem, implies_true]
  clear_value s6
  have e7 : s7.mem = s.mem := by
    simp -implicitDefEqProofs -proj only [s7, e6, ↓srstSample_mem]
  clear_value s7
  have e8 : s8.mem = s.mem := by
    simp -implicitDefEqProofs -proj only [s8, e7, ↓each_mem, ↓connTick_mem, implies_true]
  clear_value s8
  have e9 : s9.mem = s.mem := by
    dsimp only [s9]; split <;> simp -implicitDefEqProofs -proj only [e8, ↓setFlag_mem]
  clear_value s9
  have e10 : s10.mem = s.mem := by
    simp -implicitDefEqProofs -proj only [s10, e9, ↓each_mem, ↓zoneTick_mem, implies_true]
  clear_value s10
  have e11 : s11.mem = s.mem := by
    simp -implicitDefEqProofs -proj only [s11, e10, ↓soFollow_mem]
  clear_value s11
  have e12 : s12.mem = s.mem := by
    simp -implicitDefEqProofs -proj only [s12, e11, ↓each_mem, ↓orderTick_mem, implies_true]
  clear_value s12
  simp -implicitDefEqProofs -proj only [e12, ↓oasStatus_mem]

theorem ss1End_mem (s : State) (z : Nat) : (State.ss1End s z).mem = s.mem := by
  simp -implicitDefEqProofs -proj only [State.ss1End, ↓oasStatus_mem, ↓zoneEnter_mem]

theorem testPulse_mem (s : State) (o : Nat) (high : Bool) (pass : Bool) : (State.testPulse s o high pass).mem = s.mem := by
  unfold State.testPulse
  extract_lets l1 l2 s3 s4
  have e3 : s3.mem = s.mem := by
    simp -implicitDefEqProofs -proj only [s3, ↓setSo_mem]
  clear_value s3
  have e4 : s4.mem = s.mem := by
    simp -implicitDefEqProofs -proj only [s4, e3, ↓incWrap_mem]
  clear_value s4
  split <;> simp -implicitDefEqProofs -proj only [e4, ↓oasStatus_mem, ↓zoneFault_mem]

theorem slsStart_mem (s : State) (z : Nat) : (State.slsStart s z).mem = s.mem := by
  unfold State.slsStart
  extract_lets s1
  have e1 : s1.mem = s.mem := by
    simp -implicitDefEqProofs -proj only [s1, ↓setFlag_mem]
  clear_value s1
  repeat' first | (simp -implicitDefEqProofs -proj only [e1, ↓mem_mk]; done) | with_reducible assumption | split | with_reducible refine (each_mem _ _ _ ?_).trans ?_ | with_reducible refine (foldl_mem _ _ _ ?_).trans ?_ | intro _ | simp -implicitDefEqProofs -proj only [e1, ↓mem_mk]

theorem slsWindow_mem (s : State) (c : Nat) : (State.slsWindow s c).mem = s.mem := by
  unfold State.slsWindow
  extract_lets l1 l2 l3 l4 l5 l6 s7 s8 l9 s10
  have e7 : s7.mem = s.mem := by
    simp -implicitDefEqProofs -proj only [s7, ↓mem_mk]
  clear_value s7
  have e8 : s8.mem = s.mem := by
    simp -implicitDefEqProofs -proj only [s8, e7, ↓setFld_mem]
  clear_value s8
  have e10 : s10.mem = s.mem := by
    simp -implicitDefEqProofs -proj only [s10, e8, ↓setZone_mem]
  clear_value s10
  split <;> simp -implicitDefEqProofs -proj only [e10, ↓oasStatus_mem, ↓zoneFault_mem]

theorem slsPeakClr_mem (s : State) (c : Nat) : (State.slsPeakClr s c).mem = s.mem := by
  simp -implicitDefEqProofs -proj only [State.slsPeakClr, ↓setFld_mem]

theorem oasRail_mem (s : State) (out : Bool) : (State.oasRail s out).mem = s.mem := by
  unfold State.oasRail
  extract_lets l1 s2
  have e2 : s2.mem = s.mem := by
    simp -implicitDefEqProofs -proj only [s2, ↓mem_mk]
  clear_value s2
  split <;> simp -implicitDefEqProofs -proj only [e2, ↓oasStatus_mem, ↓allFault_mem, ↓soOff_mem, ↓allPinsLow_mem]

theorem zoneCtlWrite_mem (s : State) (z : Nat) (v : Word48) : (State.zoneCtlWrite s z v).mem = s.mem := by
  simp -implicitDefEqProofs -proj only [State.zoneCtlWrite, ↓setRegN_mem]

theorem setPwdOk_mem (s : State) (b : Bool) : (State.setPwdOk s b).mem = s.mem := by
  unfold State.setPwdOk
  extract_lets l1 s2
  have e2 : s2.mem = s.mem := by
    simp -implicitDefEqProofs -proj only [s2, ↓mem_mk]
  clear_value s2
  simp -implicitDefEqProofs -proj only [e2, ↓setFlag_mem]

theorem pwdPresent_mem (s : State) (len : Nat) : (State.pwdPresent s len).mem = s.mem := by
  unfold State.pwdPresent
  extract_lets l1 s2 s3 l4
  have e2 : s2.mem = s.mem := by
    simp -implicitDefEqProofs -proj only [s2, ↓each_mem, ↓setReg_mem, implies_true]
  clear_value s2
  have e3 : s3.mem = s.mem := by
    simp -implicitDefEqProofs -proj only [s3, e2, ↓incSat_mem]
  clear_value s3
  (repeat' split) <;> simp -implicitDefEqProofs -proj only [e2, e3, ↓setPwdOk_mem, ↓setFld_mem, ↓mem_mk]

theorem lockEnd_mem (s : State) : (State.lockEnd s).mem = s.mem := by
  unfold State.lockEnd
  extract_lets l1
  simp -implicitDefEqProofs -proj only [↓mem_mk]

theorem logAppend_mem (s : State) (ag : Nat) (pwd : Bool) (unordered : Bool) (newCrc : Nat) (ok : Bool) : (State.logAppend s ag pwd unordered newCrc ok).mem = s.mem := by
  unfold State.logAppend
  extract_lets l1 l2 l3 s4
  have e4 : s4.mem = s.mem := by
    simp -implicitDefEqProofs -proj only [s4, ↓mem_mk]
  clear_value s4
  split <;> simp -implicitDefEqProofs -proj only [e4, ↓raise_mem, ↓setFlag_mem, ↓setFld_mem]

/-! ### SpoutOps -/

theorem sptWrite_wf (s : State) (space : Nat) (a : Nat) (v : Int) (h : Memory.wf s.mem = true) : Memory.wf (State.sptWrite s space a v).mem = true := by
  unfold State.sptWrite
  extract_lets s1
  have e1 : Memory.wf s1.mem = true := by
    simp -implicitDefEqProofs -proj only [s1, h, ↓store_wf]
  clear_value s1
  simp -implicitDefEqProofs -proj only [e1, ↓mem_mk]

theorem sptEccMark_mem (s : State) (j : SptJob) (w : Nat) : (State.sptEccMark s j w).mem = s.mem := by
  unfold State.sptEccMark
  split <;> simp -implicitDefEqProofs -proj only [↓mem_mk]

theorem sptShow_mem (s : State) : (State.sptShow s).mem = s.mem := by
  unfold State.sptShow
  extract_lets l1 l2 s3 s4
  have e3 : s3.mem = s.mem := by
    simp -implicitDefEqProofs -proj only [s3, ↓setFlag_mem]
  clear_value s3
  have e4 : s4.mem = s.mem := by
    simp -implicitDefEqProofs -proj only [s4, e3, ↓setFld_mem]
  clear_value s4
  simp -implicitDefEqProofs -proj only [e4, ↓setFld_mem]

theorem setSpout_mem (s : State) (h : SpoutH) : (State.setSpout s h).mem = s.mem := by
  simp -implicitDefEqProofs -proj only [State.setSpout, ↓sptShow_mem, ↓mem_mk]

theorem sptCharge_mem (s : State) (t : Nat) (n : Nat) : (State.sptCharge s t n).mem = s.mem := by
  unfold State.sptCharge
  extract_lets l1
  simp -implicitDefEqProofs -proj only [↓setArb_mem]

theorem sptReport_mem (s : State) (j : SptJob) (outcome : Nat) (err : Nat) (res : Nat) : (State.sptReport s j outcome err res).mem = s.mem := by
  unfold State.sptReport
  extract_lets l1 s2 s3 s4
  have e2 : s2.mem = s.mem := by
    simp -implicitDefEqProofs -proj only [s2, ↓setFld_mem]
  clear_value s2
  have e3 : s3.mem = s.mem := by
    simp -implicitDefEqProofs -proj only [s3, e2, ↓setFlag_mem, ↓setFld_mem]
  clear_value s3
  have e4 : s4.mem = s.mem := by
    simp -implicitDefEqProofs -proj only [s4, e3, ↓setFlag_mem, ↓setFld_mem]
  clear_value s4
  (repeat' split) <;> simp -implicitDefEqProofs -proj only [e4, ↓incSat_mem, ↓setTaskFlags_mem]

theorem sptResume_mem (s : State) : (State.sptResume s).mem = s.mem := by
  unfold State.sptResume
  extract_lets l1 l2
  (repeat' split) <;> simp -implicitDefEqProofs -proj only [↓setSpout_mem, ↓sptCharge_mem]

theorem sptWake_mem (s : State) : (State.sptWake s).mem = s.mem := by
  unfold State.sptWake
  split <;> simp -implicitDefEqProofs -proj only [↓sptResume_mem]

theorem sptEnd_mem (s : State) (j : SptJob) (outcome : Nat) (err : Nat) (res : Nat) (addr : Nat) : (State.sptEnd s j outcome err res addr).mem = s.mem := by
  unfold State.sptEnd
  extract_lets l1 s2 s3 l4
  have e2 : s2.mem = s.mem := by
    dsimp only [s2]; split <;> simp -implicitDefEqProofs -proj only [↓incSat_mem, ↓setFld_mem]
  clear_value s2
  have e3 : s3.mem = s.mem := by
    simp -implicitDefEqProofs -proj only [s3, e2, ↓sptReport_mem]
  clear_value s3
  split <;> simp -implicitDefEqProofs -proj only [e3, ↓setSpout_mem, ↓sptResume_mem]

theorem sptPoint_mem (s : State) : (State.sptPoint s).mem = s.mem := by
  unfold State.sptPoint
  extract_lets l1
  (repeat' split) <;> simp -implicitDefEqProofs -proj only [↓setSpout_mem, ↓sptEnd_mem]

theorem sptTake_wf (s : State) (ticks : Nat) (r : SptRes) (h : Memory.wf s.mem = true) : Memory.wf (State.sptTake s ticks r).mem = true := by
  unfold State.sptTake
  repeat' first | (simp -implicitDefEqProofs -proj only [h, ↓sptEnd_mem, ↓sptCharge_mem, ↓sptWrite_wf, ↓setSpout_mem, ↓sptPoint_mem]; done) | with_reducible assumption | split | with_reducible refine each_wf _ _ _ ?_ ?_ | with_reducible refine foldl_wf _ _ _ ?_ ?_ | with_reducible refine sptWrite_wf _ _ _ _ ?_ | intro _ | simp -implicitDefEqProofs -proj only [h, ↓sptEnd_mem, ↓sptCharge_mem, ↓sptWrite_wf, ↓setSpout_mem, ↓sptPoint_mem]

theorem sptRunData_wf (s : State) (op : Nat) (ecc : Bool) (h : Memory.wf s.mem = true) : Memory.wf (State.sptRunData s op ecc).mem = true := by
  unfold State.sptRunData
  extract_lets l1
  (repeat' split) <;> simp -implicitDefEqProofs -proj only [h, l1, ↓sptTake_wf, ↓sptEccMark_mem, ↓takeFree_mem]

theorem sptRunRep_wf (s : State) (ecc : Bool) (h : Memory.wf s.mem = true) : Memory.wf (State.sptRunRep s ecc).mem = true := by
  unfold State.sptRunRep
  extract_lets l1
  (repeat' split) <;> simp -implicitDefEqProofs -proj only [h, ↓sptTake_wf, ↓sptEccMark_mem, ↓setSpout_mem, ↓sptCharge_mem]

theorem sptRunDo_wf (s : State) (ecc : Bool) (h : Memory.wf s.mem = true) : Memory.wf (State.sptRunDo s ecc).mem = true := by
  unfold State.sptRunDo
  extract_lets l1
  (repeat' split) <;> simp -implicitDefEqProofs -proj only [h, ↓sptTake_wf, ↓sptEccMark_mem, ↓sptPoint_mem, ↓setSpout_mem, ↓sptCharge_mem]

theorem sptRunB_wf (s : State) (ecc : Bool) (h : Memory.wf s.mem = true) : Memory.wf (State.sptRunB s ecc).mem = true := by
  unfold State.sptRunB
  extract_lets l1
  repeat' first | (simp -implicitDefEqProofs -proj only [h, ↓sptTake_wf, ↓sptEccMark_mem, ↓sptPoint_mem, ↓setSpout_mem, ↓sptCharge_mem]; done) | with_reducible assumption | split | with_reducible refine each_wf _ _ _ ?_ ?_ | with_reducible refine foldl_wf _ _ _ ?_ ?_ | with_reducible refine sptTake_wf _ _ _ ?_ | intro _ | simp -implicitDefEqProofs -proj only [h, ↓sptTake_wf, ↓sptEccMark_mem, ↓sptPoint_mem, ↓setSpout_mem, ↓sptCharge_mem]

theorem sptRunHalt_wf (s : State) (ecc : Bool) (h : Memory.wf s.mem = true) : Memory.wf (State.sptRunHalt s ecc).mem = true := by
  unfold State.sptRunHalt
  (repeat' split) <;> simp -implicitDefEqProofs -proj only [h, ↓sptTake_wf, ↓sptEccMark_mem]

theorem sptRunIllegal_wf (s : State) (ecc : Bool) (h : Memory.wf s.mem = true) : Memory.wf (State.sptRunIllegal s ecc).mem = true := by
  unfold State.sptRunIllegal
  (repeat' split) <;> simp -implicitDefEqProofs -proj only [h, ↓sptTake_wf, ↓sptEccMark_mem]

theorem sptIssue_wf (s : State) (load : Bool) (ecc : Bool) (h : Memory.wf s.mem = true) : Memory.wf (State.sptIssue s load ecc).mem = true := by
  unfold State.sptIssue
  extract_lets l1
  repeat' first | (simp -implicitDefEqProofs -proj only [h, ↓sptTake_wf, ↓sptEccMark_mem, ↓setSpout_mem]; done) | with_reducible assumption | split | with_reducible refine each_wf _ _ _ ?_ ?_ | with_reducible refine foldl_wf _ _ _ ?_ ?_ | with_reducible refine sptTake_wf _ _ _ ?_ | intro _ | simp -implicitDefEqProofs -proj only [h, ↓sptTake_wf, ↓sptEccMark_mem, ↓setSpout_mem]

theorem sptPut_mem (s : State) (j : SptJob) : (State.sptPut s j).mem = s.mem := by
  unfold State.sptPut
  extract_lets l1
  (repeat' split) <;> simp -implicitDefEqProofs -proj only [↓setSpout_mem]

theorem sptAccessFails_mem (s : State) (j : SptJob) (addr : Nat) (run : Bool) (code : Nat) : (State.sptAccessFails s j addr run code).mem = s.mem := by
  unfold State.sptAccessFails
  extract_lets l1 s2 s3
  have e2 : s2.mem = s.mem := by
    simp -implicitDefEqProofs -proj only [s2, ↓setSpout_mem]
  clear_value s2
  have e3 : s3.mem = s.mem := by
    simp -implicitDefEqProofs -proj only [s3, e2, ↓incSat_mem, ↓setFld_mem]
  clear_value s3
  split <;> simp -implicitDefEqProofs -proj only [e3, ↓sptEnd_mem, ↓sptReport_mem]

theorem sptAccessDone_wf (s : State) (j : SptJob) (e : SptExt) (run : Bool) (data : Nat) (h : Memory.wf s.mem = true) : Memory.wf (State.sptAccessDone s j e run data).mem = true := by
  unfold State.sptAccessDone
  extract_lets s1 l2 s3 l4
  have e1 : Memory.wf s1.mem = true := by
    dsimp only [s1]; split <;> simp -implicitDefEqProofs -proj only [h, ↓sptWrite_wf]
  clear_value s1
  have e3 : Memory.wf s3.mem = true := by
    simp -implicitDefEqProofs -proj only [s3, e1, ↓sptPut_mem]
  clear_value s3
  split <;> simp -implicitDefEqProofs -proj only [e3, ↓sptPoint_mem, ↓setSpout_mem, ↓sptCharge_mem]

theorem sptRespond_wf (s : State) (t : Nat) (code : Nat) (data : Nat) (h : Memory.wf s.mem = true) : Memory.wf (State.sptRespond s t code data).mem = true := by
  unfold State.sptRespond
  extract_lets l1 l2 s3
  have e3 : Memory.wf s3.mem = true := by
    simp -implicitDefEqProofs -proj only [s3, h, ↓sptCharge_mem]
  clear_value s3
  (repeat' split) <;> simp -implicitDefEqProofs -proj only [h, e3, ↓sptAccessFails_mem, ↓sptAccessDone_wf]

theorem sptTimeout_mem (s : State) : (State.sptTimeout s).mem = s.mem := by
  unfold State.sptTimeout
  extract_lets l1
  split <;> simp -implicitDefEqProofs -proj only [↓sptEnd_mem, ↓sptCharge_mem]

theorem sptSuspend_mem (s : State) : (State.sptSuspend s).mem = s.mem := by
  unfold State.sptSuspend
  split <;> simp -implicitDefEqProofs -proj only [↓incSat_mem, ↓sptCharge_mem, ↓setSpout_mem]

theorem sptStart_mem (q : ArbReq) (s : State) : (sptStart q s).mem = s.mem := by
  unfold sptStart
  extract_lets l1
  split <;> simp -implicitDefEqProofs -proj only [↓incSat_mem, ↓setSpout_mem]

theorem sptGrant_mem (s : State) : (State.sptGrant s).mem = s.mem := by
  unfold State.sptGrant
  split
  · rename_i e
    rw [sptStart_mem, arbGrant_mem e]
  · rfl

theorem sptRefused_mem (s : State) (q : ArbReq) (code : Nat) : (State.sptRefused s q code).mem = s.mem := by
  unfold State.sptRefused
  extract_lets l1 s2
  have e2 : s2.mem = s.mem := by
    simp -implicitDefEqProofs -proj only [s2, ↓setSpout_mem]
  clear_value s2
  split <;> simp -implicitDefEqProofs -proj only [e2, ↓sptWake_mem, ↓sptReport_mem]

theorem setSptSub_mem (s : State) (ag : Nat) (x : Word48 × Word48 × Word48) : (State.setSptSub s ag x).mem = s.mem := by
  unfold State.setSptSub
  extract_lets l1
  simp -implicitDefEqProofs -proj only [↓mem_mk]

theorem sptPost_mem (s : State) (ag : Nat) : (State.sptPost s ag).mem = s.mem := by
  unfold State.sptPost
  extract_lets l1 l2
  repeat' first | (simp -implicitDefEqProofs -proj only [↓setSpout_mem, ↓arbAdd_mem, ↓sptRefused_mem, ↓arbRefuse_mem]; done) | with_reducible assumption | split | with_reducible refine (each_mem _ _ _ ?_).trans ?_ | with_reducible refine (foldl_mem _ _ _ ?_).trans ?_ | intro _ | simp -implicitDefEqProofs -proj only [↓setSpout_mem, ↓arbAdd_mem, ↓sptRefused_mem, ↓arbRefuse_mem]

theorem sptClose_mem (s : State) : (State.sptClose s).mem = s.mem := by
  unfold State.sptClose
  extract_lets l1 l2 s3 s4 l5 l6
  have e3 : s3.mem = s.mem := by
    dsimp only [s3]; repeat' first | (simp -implicitDefEqProofs -proj only [↓sptReport_mem]; done) | with_reducible assumption | split | with_reducible refine (each_mem _ _ _ ?_).trans ?_ | with_reducible refine (foldl_mem _ _ _ ?_).trans ?_ | intro _ | simp -implicitDefEqProofs -proj only [↓sptReport_mem]
  clear_value s3
  have e4 : s4.mem = s.mem := by
    simp -implicitDefEqProofs -proj only [s4, e3, ↓arbWithdraw_mem]
  clear_value s4
  simp -implicitDefEqProofs -proj only [e4, ↓setSpout_mem]

theorem sptTaskClose_mem (s : State) (t : Nat) : (State.sptTaskClose s t).mem = s.mem := by
  unfold State.sptTaskClose
  extract_lets l1 s2 l3 s4 l5
  have e2 : s2.mem = s.mem := by
    dsimp only [s2]; split <;> simp -implicitDefEqProofs -proj only [↓setSpout_mem, ↓arbWithdraw_mem, ↓sptReport_mem]
  clear_value s2
  have e4 : s4.mem = s.mem := by
    dsimp only [s4]; split <;> simp -implicitDefEqProofs -proj only [e2, ↓setSpout_mem, ↓sptReport_mem]
  clear_value s4
  (repeat' split) <;> simp -implicitDefEqProofs -proj only [e4, ↓sptPoint_mem, ↓setSpout_mem, ↓sptWake_mem]

/-! ### ConfigCheck -/

theorem showCost_mem (s : State) (n : Nat) : (State.showCost s n).mem = s.mem := by
  unfold State.showCost
  extract_lets s1
  have e1 : s1.mem = s.mem := by
    simp -implicitDefEqProofs -proj only [s1, ↓setFld_mem]
  clear_value s1
  simp -implicitDefEqProofs -proj only [e1, ↓setFld_mem]

/-! ### MailboxOps -/

theorem withMap_mem (s : State) (f : State → State) (hf : ∀ u, (f u).mem = u.mem) : (State.withMap s f).mem = s.mem := by
  unfold State.withMap
  extract_lets s1
  have e1 : s1.mem = s.mem := by
    simp -implicitDefEqProofs -proj only [s1, hf]
  clear_value s1
  split <;> simp -implicitDefEqProofs -proj only [e1, ↓sendVector_mem]

theorem withMap_wf (s : State) (f : State → State) (hf : ∀ u, Memory.wf u.mem = true → Memory.wf (f u).mem = true) (h : Memory.wf s.mem = true) : Memory.wf (State.withMap s f).mem = true := by
  unfold State.withMap
  extract_lets s1
  have e1 : Memory.wf s1.mem = true := by
    simp -implicitDefEqProofs -proj only [s1, hf, h]
  clear_value s1
  split <;> simp -implicitDefEqProofs -proj only [e1, ↓sendVector_mem]

theorem dispatchDeadline_mem (s : State) (k : Nat) : (State.dispatchDeadline s k).mem = s.mem := by
  unfold State.dispatchDeadline
  extract_lets l1
  (repeat' split) <;> simp -implicitDefEqProofs -proj only [↓dispatchReturn_mem]

theorem boxWrite_mem (s : State) (ag : Nat) (n : Nat) (v : Word48) : (State.boxWrite s ag n v).mem = s.mem := by
  unfold State.boxWrite
  simp -implicitDefEqProofs -proj only [↓withMap_mem, ↓incSat_mem, ↓setFlag_mem, ↓setReg_mem, ↓setBox_mem, ↓setFld_mem, implies_true, ↓mem_ite, ite_self]

theorem endWait_mem (s : State) (n : Nat) : (State.endWait s n).mem = s.mem := by
  unfold State.endWait
  extract_lets s1
  have e1 : s1.mem = s.mem := by
    simp -implicitDefEqProofs -proj only [s1, ↓setFld_mem]
  clear_value s1
  simp -implicitDefEqProofs -proj only [e1, ↓mem_mk]

theorem boxRead_mem (s : State) (n : Nat) : (State.boxRead s n).mem = s.mem := by
  unfold State.boxRead
  split <;> simp -implicitDefEqProofs -proj only [↓withMap_mem, ↓endWait_mem, ↓setFlag_mem, implies_true]

theorem boxTimeout_mem (s : State) (n : Nat) : (State.boxTimeout s n).mem = s.mem := by
  unfold State.boxTimeout
  extract_lets l1
  split <;> simp -implicitDefEqProofs -proj only [↓withMap_mem, ↓setBox_mem, ↓incSat_mem, ↓setFlag_mem, implies_true]

theorem boxWait_mem (s : State) (ag : Nat) (n : Nat) (wait : Bool) : (State.boxWait s ag n wait).mem = s.mem := by
  unfold State.boxWait
  (repeat' split) <;> simp -implicitDefEqProofs -proj only [↓setFld_mem, ↓endWait_mem]

theorem boxStatClear_mem (s : State) (ag : Nat) (n : Nat) (v : Word48) : (State.boxStatClear s ag n v).mem = s.mem := by
  simp -implicitDefEqProofs -proj only [State.boxStatClear, ↓withMap_mem, ↓doIf_mem, ↓setFlag_mem, implies_true]

theorem reportCycle_mem (s : State) (c : List (Nat × Nat × Nat)) : (State.reportCycle s c).mem = s.mem := by
  unfold State.reportCycle
  extract_lets s1 l2 l3
  have e1 : s1.mem = s.mem := by
    dsimp only [s1]; repeat' first | (simp -implicitDefEqProofs -proj only [↓setBox_mem, ↓setFlag_mem]; done) | with_reducible assumption | split | with_reducible refine (each_mem _ _ _ ?_).trans ?_ | with_reducible refine (foldl_mem _ _ _ ?_).trans ?_ | intro _ | simp -implicitDefEqProofs -proj only [↓setBox_mem, ↓setFlag_mem]
  clear_value s1
  simp -implicitDefEqProofs -proj only [e1, ↓incSat_mem, ↓setFld_mem]

theorem crossWait_mem (s : State) : (State.crossWait s).mem = s.mem := by
  unfold State.crossWait
  extract_lets l1 l2 l3 p4 s5
  have e4 : p4.2.mem = s.mem := by
    refine foldl_keeps (fun b : List Nat × State => b.2.mem = s.mem) _ _ ?_ _ rfl
    intro b a hb
    split
    · exact hb
    · dsimp only
      rw [withMap_mem _ _ (fun u => reportCycle_mem ..), hb]
  clear_value p4
  split
  · rfl
  · exact e4

theorem lockRead_mem (s : State) (ag : Nat) (n : Nat) : (State.lockRead s ag n).2.mem = s.mem := by
  unfold State.lockRead
  extract_lets l1
  (repeat' split) <;> simp -implicitDefEqProofs only [↓setFld_mem, ↓incSat_mem]

theorem lockForce_mem (s : State) (n : Nat) : (State.lockForce s n).mem = s.mem := by
  simp -implicitDefEqProofs -proj only [State.lockForce, ↓incSat_mem, ↓setFld_mem]

theorem lockFree_mem (s : State) (n : Nat) : (State.lockFree s n).mem = s.mem := by
  simp -implicitDefEqProofs -proj only [State.lockFree, ↓setFld_mem]

theorem freeLocks_mem (s : State) (ag : Nat) : (State.freeLocks s ag).mem = s.mem := by
  unfold State.freeLocks
  repeat' first | (simp -implicitDefEqProofs -proj only [↓each_mem, ↓lockForce_mem, implies_true]; done) | with_reducible assumption | split | with_reducible refine (each_mem _ _ _ ?_).trans ?_ | with_reducible refine (foldl_mem _ _ _ ?_).trans ?_ | intro _ | simp -implicitDefEqProofs -proj only [↓each_mem, ↓lockForce_mem, implies_true]

theorem endWaitsOf_mem (s : State) (ag : Nat) : (State.endWaitsOf s ag).mem = s.mem := by
  unfold State.endWaitsOf
  repeat' first | (simp -implicitDefEqProofs -proj only [↓each_mem, ↓endWait_mem, implies_true]; done) | with_reducible assumption | split | with_reducible refine (each_mem _ _ _ ?_).trans ?_ | with_reducible refine (foldl_mem _ _ _ ?_).trans ?_ | intro _ | simp -implicitDefEqProofs -proj only [↓each_mem, ↓endWait_mem, implies_true]

theorem boxLose_mem (s : State) (n : Nat) : (State.boxLose s n).mem = s.mem := by
  unfold State.boxLose
  extract_lets s1 s2
  have e1 : s1.mem = s.mem := by
    simp -implicitDefEqProofs -proj only [s1, ↓endWait_mem]
  clear_value s1
  have e2 : s2.mem = s.mem := by
    dsimp only [s2]; repeat' first | (simp -implicitDefEqProofs -proj only [e1, ↓setFlag_mem]; done) | with_reducible assumption | split | with_reducible refine (each_mem _ _ _ ?_).trans ?_ | with_reducible refine (foldl_mem _ _ _ ?_).trans ?_ | intro _ | simp -implicitDefEqProofs -proj only [e1, ↓setFlag_mem]
  clear_value s2
  simp -implicitDefEqProofs -proj only [e2, ↓setBox_mem, ↓setReg_mem]

theorem boxOpen_mem (s : State) (n : Nat) : (State.boxOpen s n).mem = s.mem := by
  simp -implicitDefEqProofs -proj only [State.boxOpen, ↓setReg_mem, ↓boxLose_mem]

theorem ring_mem (s : State) (a : Nat) (bits : Nat) : (State.ring s a bits).mem = s.mem := by
  unfold State.ring
  extract_lets l1 s2
  have e2 : s2.mem = s.mem := by
    simp -implicitDefEqProofs -proj only [s2, ↓setFld_mem]
  clear_value s2
  split <;> simp -implicitDefEqProofs -proj only [e2, ↓sendVector_mem]

theorem unring_mem (s : State) (a : Nat) (bits : Nat) : (State.unring s a bits).mem = s.mem := by
  unfold State.unring
  extract_lets l1
  simp -implicitDefEqProofs -proj only [↓setFld_mem]

end Sys2Proof.Machine
end

