-- ==== Sys2Proof/Laws/MemBoot.lean ====
section
/-! SUPPORT. What every operation of the weirs and the start-up leaves of the memories:
the operations that store nothing leave them as they were (_mem), the others keep their canonical form (_wf). -/
set_option linter.unusedSimpArgs false
namespace Sys2Proof.Machine

/-! ### WeirOps -/

theorem weirPhase_mem (s : State) (k : Nat) (ph : Nat) : (State.weirPhase s k ph).mem = s.mem := by
  unfold State.weirPhase
  extract_lets l1
  simp -implicitDefEqProofs -proj only [↓setWeirH_mem]

theorem setWeir_mem (s : State) (k : Nat) (st : Nat) : (State.setWeir s k st).mem = s.mem := by
  simp -implicitDefEqProofs -proj only [State.setWeir, ↓setFld_mem]

theorem weirPend_mem (s : State) (k : Nat) (b : Bool) : (State.weirPend s k b).mem = s.mem := by
  simp -implicitDefEqProofs -proj only [State.weirPend, ↓setFlag_mem]

theorem weirPowerOff_mem (s : State) (k : Nat) (b : Bool) : (State.weirPowerOff s k b).mem = s.mem := by
  unfold State.weirPowerOff
  extract_lets l1
  simp -implicitDefEqProofs -proj only [↓setWeirH_mem]

theorem markStaged_mem (s : State) (k : Nat) : (State.markStaged s k).mem = s.mem := by
  simp -implicitDefEqProofs -proj only [State.markStaged, ↓mem_mk]

theorem jetClose_mem (s : State) (j : Nat) : (State.jetClose s j).mem = s.mem := by
  unfold State.jetClose
  extract_lets l1 l2 s3
  have e3 : s3.mem = s.mem := by
    simp -implicitDefEqProofs -proj only [s3, ↓setJet_mem]
  clear_value s3
  simp -implicitDefEqProofs -proj only [e3, ↓swapDrop_mem, ↓showStandby_mem, ↓setJetRole_mem, ↓jetLeave_mem]

theorem unitLeaves_wf (s : State) (x1 : UnitK) (h : Memory.wf s.mem = true) : Memory.wf (State.unitLeaves s x1).mem = true := by
  unfold State.unitLeaves
  extract_lets s1
  have e1 : Memory.wf s1.mem = true := by
    simp -implicitDefEqProofs -proj only [s1, h, ↓endWaitsOf_mem, ↓sptClose_mem]
  clear_value s1
  split <;> simp -implicitDefEqProofs -proj only [h, e1, ↓abdCritical_mem, ↓setAx_mem, ↓homeAbort_mem, ↓cmdDrop_mem, ↓reloadTask_mem, ↓txAbort_mem, ↓jetClose_mem, ↓jetMark_mem, ↓endWaitsOf_mem, ↓freeLocks_mem, ↓coreRequeue_wf, ↓each_mem, ↓arbWithdraw_mem, ↓mirClose_mem, ↓sptTaskClose_mem, ↓taskCancel_wf, ↓boxLose_mem, implies_true]

theorem arbOffline_mem (s : State) (k : Nat) (u : Nat) : (State.arbOffline s k u).mem = s.mem := by
  unfold State.arbOffline
  extract_lets l1 s2
  have e2 : s2.mem = s.mem := by
    simp -implicitDefEqProofs -proj only [s2, ↓arbWithdraw_mem]
  clear_value s2
  repeat' first | (simp -implicitDefEqProofs -proj only [e2, ↓answer_mem]; done) | with_reducible assumption | split | with_reducible refine (each_mem _ _ _ ?_).trans ?_ | with_reducible refine (foldl_mem _ _ _ ?_).trans ?_ | intro _ | simp -implicitDefEqProofs -proj only [e2, ↓answer_mem]

theorem abortAccepted_wf (s : State) (k : Nat) (h : Memory.wf s.mem = true) : Memory.wf (State.abortAccepted s k).mem = true := by
  unfold State.abortAccepted
  extract_lets l1 s2 s3
  have e2 : Memory.wf s2.mem = true := by
    dsimp only [s2]; repeat' first | (simp -implicitDefEqProofs -proj only [h, ↓incSat_mem, ↓answer_mem]; done) | with_reducible assumption | split | with_reducible refine each_wf _ _ _ ?_ ?_ | with_reducible refine foldl_wf _ _ _ ?_ ?_ | intro _ | simp -implicitDefEqProofs -proj only [h, ↓incSat_mem, ↓answer_mem]
  clear_value s2
  have e3 : Memory.wf s3.mem = true := by
    dsimp only [s3]; (repeat' split) <;> simp -implicitDefEqProofs -proj only [e2, ↓incSat_mem, ↓sptRespond_wf]
  clear_value s3
  split <;> simp -implicitDefEqProofs -proj only [e3, ↓mem_mk]

theorem weirLeaves_wf (s : State) (k : Nat) (owed : Nat) (h : Memory.wf s.mem = true) : Memory.wf (State.weirLeaves s k owed).mem = true := by
  unfold State.weirLeaves
  extract_lets s1 s2
  have e1 : Memory.wf s1.mem = true := by
    simp -implicitDefEqProofs -proj only [s1, h, ↓setWeirH_mem, ↓setWeir_mem]
  clear_value s1
  have e2 : Memory.wf s2.mem = true := by
    simp -implicitDefEqProofs -proj only [s2, e1, ↓abortAccepted_wf, ↓markStaged_mem]
  clear_value s2
  simp -implicitDefEqProofs -proj only [e2, ↓unitLeaves_wf, ↓each_mem, ↓arbOffline_mem, implies_true]

theorem unitLosesMem_wf (s : State) (x1 : UnitK) (h : Memory.wf s.mem = true) : Memory.wf (State.unitLosesMem s x1).mem = true := by
  unfold State.unitLosesMem
  extract_lets s1
  have e1 : Memory.wf s1.mem = true := by
    simp -implicitDefEqProofs -proj only [s1, h, ↓clearMem_wf]
  clear_value s1
  split <;> simp -implicitDefEqProofs -proj only [h, e1, ↓clearMem_wf, ↓mem_mk]

theorem loseReg_mem (s : State) (r : Reg) (keep : List Fld) : (State.loseReg s r keep).mem = s.mem := by
  unfold State.loseReg
  repeat' first | (simp -implicitDefEqProofs -proj only [↓setFld_mem]; done) | with_reducible assumption | split | with_reducible refine (each_mem _ _ _ ?_).trans ?_ | with_reducible refine (foldl_mem _ _ _ ?_).trans ?_ | intro _ | simp -implicitDefEqProofs -proj only [↓setFld_mem]

theorem portOff_mem (s : State) (p : Nat) : (State.portOff s p).mem = s.mem := by
  unfold State.portOff
  split <;> simp -implicitDefEqProofs -proj only [↓setLink_mem, ↓leaveUp_mem]

theorem loseRegs_mem (s : State) (l : List Reg) : (State.loseRegs s l).mem = s.mem := by
  unfold State.loseRegs
  repeat' first | (simp -implicitDefEqProofs -proj only [↓loseReg_mem]; done) | with_reducible assumption | split | with_reducible refine (each_mem _ _ _ ?_).trans ?_ | with_reducible refine (foldl_mem _ _ _ ?_).trans ?_ | intro _ | simp -implicitDefEqProofs -proj only [↓loseReg_mem]

theorem unitLosesRegs_mem (s : State) (x1 : UnitK) : (State.unitLosesRegs s x1).mem = s.mem := by
  unfold State.unitLosesRegs
  split <;> simp -implicitDefEqProofs -proj only [↓loseRegs_mem, ↓portOff_mem, ↓setPort_mem, ↓loseReg_mem, ↓setCore_mem, ↓setSpout_mem]

theorem unitOff_wf (s : State) (k : Nat) (h : Memory.wf s.mem = true) : Memory.wf (State.unitOff s k).mem = true := by
  unfold State.unitOff
  extract_lets l1 s2
  have e2 : Memory.wf s2.mem = true := by
    simp -implicitDefEqProofs -proj only [s2, h, ↓setWeirH_mem, ↓setFlag_mem]
  clear_value s2
  simp -implicitDefEqProofs -proj only [e2, ↓unitLosesRegs_mem, ↓unitLosesMem_wf]

theorem unitOn_mem (s : State) (k : Nat) : (State.unitOn s k).mem = s.mem := by
  unfold State.unitOn
  extract_lets s1
  have e1 : s1.mem = s.mem := by
    simp -implicitDefEqProofs -proj only [s1, ↓setFlag_mem]
  clear_value s1
  (repeat' split) <;> simp -implicitDefEqProofs -proj only [e1, ↓setLink_mem]

theorem resetStatus_mem (s : State) (r : Reg) (keep : List Fld) : (State.resetStatus s r keep).mem = s.mem := by
  unfold State.resetStatus
  repeat' first | (simp -implicitDefEqProofs -proj only [↓setFld_mem]; done) | with_reducible assumption | split | with_reducible refine (each_mem _ _ _ ?_).trans ?_ | with_reducible refine (foldl_mem _ _ _ ?_).trans ?_ | intro _ | simp -implicitDefEqProofs -proj only [↓setFld_mem]

theorem axisReset_mem (s : State) (n : Nat) : (State.axisReset s n).mem = s.mem := by
  unfold State.axisReset
  extract_lets s1 s2 s3 s4 l5 s6 l7 s8
  have e1 : s1.mem = s.mem := by
    dsimp only [s1]; repeat' first | (simp -implicitDefEqProofs -proj only [↓resetStatus_mem]; done) | with_reducible assumption | split | with_reducible refine (each_mem _ _ _ ?_).trans ?_ | with_reducible refine (foldl_mem _ _ _ ?_).trans ?_ | intro _ | simp -implicitDefEqProofs -proj only [↓resetStatus_mem]
  clear_value s1
  have e2 : s2.mem = s.mem := by
    simp -implicitDefEqProofs -proj only [s2, e1, ↓resetStatus_mem]
  clear_value s2
  have e3 : s3.mem = s.mem := by
    simp -implicitDefEqProofs -proj only [s3, e2, ↓resetStatus_mem]
  clear_value s3
  have e4 : s4.mem = s.mem := by
    simp -implicitDefEqProofs -proj only [s4, e3, ↓resetStatus_mem]
  clear_value s4
  have e6 : s6.mem = s.mem := by
    simp -implicitDefEqProofs -proj only [s6, e4, ↓setStop_mem]
  clear_value s6
  have e8 : s8.mem = s.mem := by
    simp -implicitDefEqProofs -proj only [s8, e6, ↓setAxis_mem]
  clear_value s8
  simp -implicitDefEqProofs -proj only [e8, ↓setCasH_mem, ↓setHome_mem]

theorem loadDue_wf (s : State) (k : Nat) (h : Memory.wf s.mem = true) : Memory.wf (State.loadDue s k).mem = true := by
  unfold State.loadDue
  extract_lets l1 l2 s3
  have e3 : Memory.wf s3.mem = true := by
    simp -implicitDefEqProofs -proj only [s3, h, ↓mem_mk]
  clear_value s3
  simp -implicitDefEqProofs -proj only [e3, ↓applyLoads_wf]

theorem unitReset_mem (s : State) (x1 : UnitK) : (State.unitReset s x1).mem = s.mem := by
  unfold State.unitReset
  repeat' first | (simp -implicitDefEqProofs -proj only [↓axisReset_mem, ↓setReg_mem, ↓setFld_mem, ↓setPort_mem, ↓resetStatus_mem, ↓setSpout_mem, ↓mirReopen_mem]; done) | with_reducible assumption | split | with_reducible refine (each_mem _ _ _ ?_).trans ?_ | with_reducible refine (foldl_mem _ _ _ ?_).trans ?_ | intro _ | simp -implicitDefEqProofs -proj only [↓axisReset_mem, ↓setReg_mem, ↓setFld_mem, ↓setPort_mem, ↓resetStatus_mem, ↓setSpout_mem, ↓mirReopen_mem]

theorem unitOpens_mem (s : State) (x1 : UnitK) : (State.unitOpens s x1).mem = s.mem := by
  unfold State.unitOpens
  split <;> simp -implicitDefEqProofs -proj only [↓coreStart_mem, ↓mirReopen_mem, ↓taskOpen_mem, ↓boxOpen_mem]

theorem weirOpens_mem (s : State) (k : Nat) : (State.weirOpens s k).mem = s.mem := by
  unfold State.weirOpens
  extract_lets s1 s2 l3 s4
  have e1 : s1.mem = s.mem := by
    simp -implicitDefEqProofs -proj only [s1, ↓weirPend_mem, ↓setWeir_mem]
  clear_value s1
  have e2 : s2.mem = s.mem := by
    simp -implicitDefEqProofs -proj only [s2, e1, ↓setFld_mem]
  clear_value s2
  have e4 : s4.mem = s.mem := by
    simp -implicitDefEqProofs -proj only [s4, e2, ↓setWeirH_mem]
  clear_value s4
  simp -implicitDefEqProofs -proj only [e4, ↓unitOpens_mem]

theorem weirResets_wf (s : State) (k : Nat) (h : Memory.wf s.mem = true) : Memory.wf (State.weirResets s k).mem = true := by
  simp -implicitDefEqProofs -proj only [State.weirResets, h, ↓weirPhase_mem, ↓loadDue_wf]

theorem weirCloses_wf (s : State) (k : Nat) (h : Memory.wf s.mem = true) : Memory.wf (State.weirCloses s k).mem = true := by
  unfold State.weirCloses
  extract_lets l1 s2
  have e2 : Memory.wf s2.mem = true := by
    simp -implicitDefEqProofs -proj only [s2, h, ↓weirPhase_mem, ↓weirPend_mem, ↓setWeir_mem]
  clear_value s2
  split <;> simp -implicitDefEqProofs -proj only [e2, ↓unitOff_wf]

theorem weirClose_wf (s : State) (k : Nat) (owed : Nat) (h : Memory.wf s.mem = true) : Memory.wf (State.weirClose s k owed).mem = true := by
  unfold State.weirClose
  extract_lets s1
  have e1 : Memory.wf s1.mem = true := by
    simp -implicitDefEqProofs -proj only [s1, h, ↓weirPowerOff_mem, ↓weirPend_mem]
  clear_value s1
  (repeat' split) <;> simp -implicitDefEqProofs -proj only [h, e1, ↓weirLeaves_wf, ↓weirPowerOff_mem, ↓weirCloses_wf, ↓setWeir_mem]

theorem weirOpenCmd_wf (s : State) (k : Nat) (h : Memory.wf s.mem = true) : Memory.wf (State.weirOpenCmd s k).mem = true := by
  unfold State.weirOpenCmd
  extract_lets l1 s2
  have e2 : Memory.wf s2.mem = true := by
    simp -implicitDefEqProofs -proj only [s2, h, ↓weirPend_mem, ↓setWeir_mem]
  clear_value s2
  (repeat' split) <;> simp -implicitDefEqProofs -proj only [h, e2, ↓weirPowerOff_mem, ↓weirPend_mem, ↓setWeir_mem, ↓weirResets_wf, ↓weirPhase_mem]

theorem weirCycle_wf (s : State) (k : Nat) (owed : Nat) (h : Memory.wf s.mem = true) : Memory.wf (State.weirCycle s k owed).mem = true := by
  simp -implicitDefEqProofs -proj only [State.weirCycle, h, ↓weirOpenCmd_wf, ↓weirClose_wf]

theorem weirOff_wf (s : State) (k : Nat) (owed : Nat) (h : Memory.wf s.mem = true) : Memory.wf (State.weirOff s k owed).mem = true := by
  unfold State.weirOff
  extract_lets s1
  have e1 : Memory.wf s1.mem = true := by
    simp -implicitDefEqProofs -proj only [s1, h, ↓weirPowerOff_mem, ↓weirPend_mem]
  clear_value s1
  (repeat' split) <;> simp -implicitDefEqProofs -proj only [h, e1, ↓weirPowerOff_mem, ↓weirLeaves_wf, ↓unitOff_wf, ↓weirCloses_wf, ↓setWeir_mem]

theorem weirOn_mem (s : State) (k : Nat) : (State.weirOn s k).mem = s.mem := by
  unfold State.weirOn
  split <;> simp -implicitDefEqProofs -proj only [↓weirPhase_mem]

theorem weirCmd_wf (s : State) (k : Nat) (c : Nat) (owed : Nat) (h : Memory.wf s.mem = true) : Memory.wf (State.weirCmd s k c owed).mem = true := by
  unfold State.weirCmd
  (repeat' split) <;> simp -implicitDefEqProofs -proj only [h, ↓weirClose_wf, ↓weirOpenCmd_wf, ↓weirCycle_wf, ↓weirOff_wf, ↓weirOn_mem]

theorem weirCntClr_mem (s : State) (k : Nat) : (State.weirCntClr s k).mem = s.mem := by
  simp -implicitDefEqProofs -proj only [State.weirCntClr, ↓setFld_mem]

theorem abortOwed_mem (s : State) (k : Nat) : (State.abortOwed s k).mem = s.mem := by
  unfold State.abortOwed
  extract_lets s1 l2
  have e1 : s1.mem = s.mem := by
    simp -implicitDefEqProofs -proj only [s1, ↓addSat_mem]
  clear_value s1
  simp -implicitDefEqProofs -proj only [e1, ↓setWeirH_mem]

theorem afterDrain_wf (s : State) (k : Nat) (h : Memory.wf s.mem = true) : Memory.wf (State.afterDrain s k).mem = true := by
  unfold State.afterDrain
  split <;> simp -implicitDefEqProofs -proj only [h, ↓weirResets_wf, ↓weirCloses_wf]

theorem drainEnd_wf (s : State) (k : Nat) (h : Memory.wf s.mem = true) : Memory.wf (State.drainEnd s k).mem = true := by
  simp -implicitDefEqProofs -proj only [State.drainEnd, h, ↓afterDrain_wf, ↓abortOwed_mem]

theorem drainForced_wf (s : State) (k : Nat) (h : Memory.wf s.mem = true) : Memory.wf (State.drainForced s k).mem = true := by
  unfold State.drainForced
  extract_lets s1 s2
  have e1 : Memory.wf s1.mem = true := by
    simp -implicitDefEqProofs -proj only [s1, h, ↓setFlag_mem, ↓abortOwed_mem]
  clear_value s1
  have e2 : Memory.wf s2.mem = true := by
    simp -implicitDefEqProofs -proj only [s2, e1, ↓weirPhase_mem]
  clear_value s2
  (repeat' split) <;> simp -implicitDefEqProofs -proj only [e1, e2, ↓afterDrain_wf, ↓setWeir_mem]

theorem powerUpEnd_wf (s : State) (k : Nat) (h : Memory.wf s.mem = true) : Memory.wf (State.powerUpEnd s k).mem = true := by
  unfold State.powerUpEnd
  extract_lets s1
  have e1 : Memory.wf s1.mem = true := by
    simp -implicitDefEqProofs -proj only [s1, h, ↓unitOn_mem]
  clear_value s1
  split <;> simp -implicitDefEqProofs -proj only [e1, ↓weirResets_wf, ↓weirPhase_mem]

theorem jetOpeningTest_mem (s : State) (j : Nat) (pass : Bool) : (State.jetOpeningTest s j pass).mem = s.mem := by
  unfold State.jetOpeningTest
  extract_lets s1 s2 s3
  have e1 : s1.mem = s.mem := by
    simp -implicitDefEqProofs -proj only [s1, ↓setFlag_mem, ↓incWrap_mem]
  clear_value s1
  have e2 : s2.mem = s.mem := by
    simp -implicitDefEqProofs -proj only [s2, e1, ↓setFld_mem]
  clear_value s2
  have e3 : s3.mem = s.mem := by
    simp -implicitDefEqProofs -proj only [s3, e2, ↓setRegN_mem]
  clear_value s3
  split <;> simp -implicitDefEqProofs -proj only [e1, e3, ↓setFld_mem, ↓setJetRole_mem]

theorem resetEnd_wf (s : State) (k : Nat) (pass : Bool) (h : Memory.wf s.mem = true) : Memory.wf (State.resetEnd s k pass).mem = true := by
  unfold State.resetEnd
  extract_lets s1
  have e1 : Memory.wf s1.mem = true := by
    simp -implicitDefEqProofs -proj only [s1, h, ↓unitReset_mem]
  clear_value s1
  (repeat' split) <;> simp -implicitDefEqProofs -proj only [e1, ↓weirCloses_wf, ↓weirPhase_mem, ↓jetOpeningTest_mem, ↓weirOpens_mem]

theorem replyDiscard_mem (s : State) (k : Nat) : (State.replyDiscard s k).mem = s.mem := by
  simp -implicitDefEqProofs -proj only [State.replyDiscard, ↓incSat_mem]

theorem axisReopen_wf (s : State) (n : Nat) (h : Memory.wf s.mem = true) : Memory.wf (State.axisReopen s n).mem = true := by
  unfold State.axisReopen
  extract_lets l1 l2 s3 s4 s5 s6 l7 s8 l9 s10
  have e3 : Memory.wf s3.mem = true := by
    dsimp only [s3]; (repeat' split) <;> simp -implicitDefEqProofs -proj only [h, l2, ↓repledge_mem, ↓showCost_mem, ↓fixParams_wf, ↓performSwap_wf]
  clear_value s3
  have e4 : Memory.wf s4.mem = true := by
    dsimp only [s4]; split <;> simp -implicitDefEqProofs -proj only [e3, ↓setReg_mem, ↓setFlag_mem, ↓clearMem_wf]
  clear_value s4
  have e5 : Memory.wf s5.mem = true := by
    simp -implicitDefEqProofs -proj only [s5, e4, ↓stateLoaded_wf]
  clear_value s5
  have e6 : Memory.wf s6.mem = true := by
    simp -implicitDefEqProofs -proj only [s6, e5, ↓weirOpens_mem]
  clear_value s6
  have e8 : Memory.wf s8.mem = true := by
    simp -implicitDefEqProofs -proj only [s8, e6, ↓setAxis_mem]
  clear_value s8
  have e10 : Memory.wf s10.mem = true := by
    simp -implicitDefEqProofs -proj only [s10, e8, ↓setStop_mem]
  clear_value s10
  simp -implicitDefEqProofs -proj only [e10, ↓setAx_mem]

theorem jetsReopen_mem (s : State) : (State.jetsReopen s).mem = s.mem := by
  unfold State.jetsReopen
  repeat' first | (simp -implicitDefEqProofs -proj only [↓each_mem, ↓jetReopen_mem, ↓weirOpens_mem, implies_true]; done) | with_reducible assumption | split | with_reducible refine (each_mem _ _ _ ?_).trans ?_ | with_reducible refine (foldl_mem _ _ _ ?_).trans ?_ | intro _ | simp -implicitDefEqProofs -proj only [↓each_mem, ↓jetReopen_mem, ↓weirOpens_mem, implies_true]

/-! ### BootOps -/

theorem setStage_mem (s : State) (n : Nat) : (State.setStage s n).mem = s.mem := by
  simp -implicitDefEqProofs -proj only [State.setStage, ↓setFld_mem]

theorem bootCode_mem (s : State) (slot : Nat) (code : Nat) : (State.bootCode s slot code).mem = s.mem := by
  simp -implicitDefEqProofs -proj only [State.bootCode, ↓setFld_mem]

theorem enableLink_mem (s : State) : (State.enableLink s).mem = s.mem := by
  unfold State.enableLink
  extract_lets l1
  simp -implicitDefEqProofs -proj only [↓mem_mk]

theorem recovery_mem (s : State) : (State.recovery s).mem = s.mem := by
  simp -implicitDefEqProofs -proj only [State.recovery, ↓enableLink_mem, ↓setStage_mem, ↓setRegN_mem]

theorem nextCandidate_mem (s : State) : (State.nextCandidate s).mem = s.mem := by
  unfold State.nextCandidate
  extract_lets l1
  split <;> simp -implicitDefEqProofs -proj only [↓recovery_mem, ↓setStage_mem, ↓mem_mk]

theorem bootFail_mem (s : State) (code : Nat) : (State.bootFail s code).mem = s.mem := by
  simp -implicitDefEqProofs -proj only [State.bootFail, ↓nextCandidate_mem, ↓bootCode_mem]

theorem bootHeaders_mem (s : State) : (State.bootHeaders s).mem = s.mem := by
  unfold State.bootHeaders
  extract_lets s1 l2
  have e1 : s1.mem = s.mem := by
    simp -implicitDefEqProofs -proj only [s1, ↓bootCode_mem]
  clear_value s1
  split <;> simp -implicitDefEqProofs -proj only [e1, ↓recovery_mem, ↓setStage_mem, ↓mem_mk]

theorem imageRead_mem (s : State) (reread : List Byte) : (State.imageRead s reread).mem = s.mem := by
  unfold State.imageRead
  extract_lets l1 l2 l3 s4 s5
  have e4 : s4.mem = s.mem := by
    simp -implicitDefEqProofs -proj only [s4, ↓mem_mk]
  clear_value s4
  have e5 : s5.mem = s.mem := by
    simp -implicitDefEqProofs -proj only [s5, e4, ↓setFlag_mem]
  clear_value s5
  split <;> simp -implicitDefEqProofs -proj only [e5, ↓setStage_mem, ↓bootFail_mem]

theorem clearBasin_wf (s : State) (h : Memory.wf s.mem = true) : Memory.wf (State.clearBasin s).mem = true := by
  simp -implicitDefEqProofs -proj only [State.clearBasin, h, ↓clearMem_wf]

theorem axisConfigure_wf (s : State) (n : Nat) (h : Memory.wf s.mem = true) : Memory.wf (State.axisConfigure s n).mem = true := by
  unfold State.axisConfigure
  extract_lets s1 s2 s3
  have e1 : Memory.wf s1.mem = true := by
    simp -implicitDefEqProofs -proj only [s1, h, ↓clearMem_wf]
  clear_value s1
  have e2 : Memory.wf s2.mem = true := by
    simp -implicitDefEqProofs -proj only [s2, e1, ↓clearMem_wf, ↓copyMem_wf]
  clear_value s2
  have e3 : Memory.wf s3.mem = true := by
    simp -implicitDefEqProofs -proj only [s3, e2, ↓showCost_mem, ↓mirrorCfg_mem]
  clear_value s3
  simp -implicitDefEqProofs -proj only [e3, ↓setRegN_mem]

theorem portPower_wf (s : State) (h : Memory.wf s.mem = true) : Memory.wf (State.portPower s).mem = true := by
  unfold State.portPower
  repeat' first | (simp -implicitDefEqProofs -proj only [h, ↓each_mem, ↓each_wf, ↓unitOff_wf, ↓setFlag_mem, implies_true]; done) | with_reducible assumption | split | with_reducible refine each_wf _ _ _ ?_ ?_ | with_reducible refine foldl_wf _ _ _ ?_ ?_ | with_reducible refine unitOff_wf _ _ ?_ | intro _ | simp -implicitDefEqProofs -proj only [h, ↓each_mem, ↓each_wf, ↓unitOff_wf, ↓setFlag_mem, implies_true]

theorem ownGroups_mem (s : State) : (State.ownGroups s).mem = s.mem := by
  unfold State.ownGroups
  extract_lets s1
  have e1 : s1.mem = s.mem := by
    simp -implicitDefEqProofs -proj only [s1, ↓each_mem, ↓setFld_mem, implies_true]
  clear_value s1
  simp -implicitDefEqProofs -proj only [e1, ↓each_mem, ↓setFlag_mem, implies_true]

theorem netConfigure_mem (s : State) : (State.netConfigure s).mem = s.mem := by
  unfold State.netConfigure
  extract_lets s1
  have e1 : s1.mem = s.mem := by
    dsimp only [s1]; split <;> simp -implicitDefEqProofs -proj only [↓setFld_mem, ↓each_mem, implies_true]
  clear_value s1
  simp -implicitDefEqProofs -proj only [e1, ↓each_mem, ↓domConfigure_mem, implies_true]

theorem configure_wf (s : State) (l : List Load) (h : Memory.wf s.mem = true) : Memory.wf (State.configure s l).mem = true := by
  unfold State.configure
  extract_lets l1 s2 s3 s4 s5
  have e2 : Memory.wf s2.mem = true := by
    simp -implicitDefEqProofs -proj only [s2, h, ↓mem_mk]
  clear_value s2
  have e3 : Memory.wf s3.mem = true := by
    simp -implicitDefEqProofs -proj only [s3, e2, ↓netConfigure_mem, ↓applyLoads_wf, ↓clearBasin_wf]
  clear_value s3
  have e4 : Memory.wf s4.mem = true := by
    dsimp only [s4]; repeat' first | (simp -implicitDefEqProofs -proj only [h, e3, ↓ownGroups_mem, ↓each_mem, ↓each_wf, ↓axisConfigure_wf, implies_true]; done) | with_reducible assumption | split | with_reducible refine each_wf _ _ _ ?_ ?_ | with_reducible refine foldl_wf _ _ _ ?_ ?_ | with_reducible refine axisConfigure_wf _ _ ?_ | intro _ | simp -implicitDefEqProofs -proj only [h, e3, ↓ownGroups_mem, ↓each_mem, ↓each_wf, ↓axisConfigure_wf, implies_true]
  clear_value s4
  have e5 : Memory.wf s5.mem = true := by
    dsimp only [s5]; repeat' first | (simp -implicitDefEqProofs -proj only [h, e4, ↓each_mem, ↓each_wf, ↓transfer_mem, implies_true]; done) | with_reducible assumption | split | with_reducible refine each_wf _ _ _ ?_ ?_ | with_reducible refine foldl_wf _ _ _ ?_ ?_ | intro _ | simp -implicitDefEqProofs -proj only [h, e4, ↓each_mem, ↓each_wf, ↓transfer_mem, implies_true]
  clear_value s5
  simp -implicitDefEqProofs -proj only [e5, ↓enableLink_mem, ↓pledgeDefaults_mem, ↓portPower_wf]

theorem safetyLog_mem (s : State) (ok : Bool) : (State.safetyLog s ok).mem = s.mem := by
  unfold State.safetyLog
  extract_lets l1 s2
  have e2 : s2.mem = s.mem := by
    simp -implicitDefEqProofs -proj only [s2, ↓setFld_mem]
  clear_value s2
  split <;> simp -implicitDefEqProofs -proj only [e2, ↓logAppend_mem]

theorem unitConfig_wf (s : State) (l : List Load) (bad : Bool) (logOk : Bool) (h : Memory.wf s.mem = true) : Memory.wf (State.unitConfig s l bad logOk).mem = true := by
  unfold State.unitConfig
  extract_lets s1
  have e1 : Memory.wf s1.mem = true := by
    simp -implicitDefEqProofs -proj only [s1, h, ↓configure_wf]
  clear_value s1
  split <;> simp -implicitDefEqProofs -proj only [h, e1, ↓bootFail_mem, ↓setStage_mem, ↓safetyLog_mem]

theorem undoConfig_wf (s : State) (h : Memory.wf s.mem = true) : Memory.wf (State.undoConfig s).mem = true := by
  unfold State.undoConfig
  rw [mem_mk]
  exact Memory.wf_filter _ _ (Memory.wf_filter _ s.mem h)

theorem startupAdmission_wf (s : State) (h : Memory.wf s.mem = true) : Memory.wf (State.startupAdmission s).mem = true := by
  unfold State.startupAdmission
  extract_lets l1 l2
  split <;> simp -implicitDefEqProofs -proj only [h, ↓bootFail_mem, ↓undoConfig_wf, ↓bootCode_mem, ↓admReport_mem, ↓setShedSet_mem, ↓showUnits_mem, ↓setFld_mem, ↓setFlag_mem, ↓setStage_mem]

theorem jetBootTest_mem (s : State) (bad : List Nat) (j : Nat) : (State.jetBootTest s bad j).mem = s.mem := by
  unfold State.jetBootTest
  extract_lets l1 s2 s3 s4
  have e2 : s2.mem = s.mem := by
    simp -implicitDefEqProofs -proj only [s2, ↓setFlag_mem, ↓incWrap_mem]
  clear_value s2
  have e3 : s3.mem = s.mem := by
    simp -implicitDefEqProofs -proj only [s3, e2, ↓setRegN_mem]
  clear_value s3
  have e4 : s4.mem = s.mem := by
    simp -implicitDefEqProofs -proj only [s4, e3, ↓setFld_mem]
  clear_value s4
  split <;> simp -implicitDefEqProofs -proj only [e4, ↓raiseIf_mem, ↓setJetRole_mem, ↓setFld_mem]

theorem bootReadmit_mem {s t : State} {was : Nat} (e : s.bootReadmit was = some t) : t.mem = s.mem := by
  unfold State.bootReadmit at e
  extract_lets l1 at e
  split at e
  · obtain rfl := Option.some.inj e
    rfl
  · split at e
    · exact absurd e (by simp)
    · obtain rfl := Option.some.inj e
      rw [admReport_mem, setShedSet_mem, showUnits_mem]

theorem cmpBootTest_mem (s : State) (bad : List Nat) (c : Nat) : (State.cmpBootTest s bad c).mem = s.mem := by
  unfold State.cmpBootTest
  split <;> simp -implicitDefEqProofs -proj only [↓stEnd_mem]

theorem halt_mem (s : State) : (State.halt s).mem = s.mem := by
  unfold State.halt
  extract_lets l1 s2
  have e2 : s2.mem = s.mem := by
    simp -implicitDefEqProofs -proj only [s2, ↓mem_mk]
  clear_value s2
  simp -implicitDefEqProofs -proj only [e2, ↓setStage_mem]

theorem networkStage_mem (s : State) : (State.networkStage s).mem = s.mem := by
  unfold State.networkStage
  extract_lets s1 s2 s3 s4 s5
  have e1 : s1.mem = s.mem := by
    simp -implicitDefEqProofs -proj only [s1, ↓setStage_mem]
  clear_value s1
  have e2 : s2.mem = s.mem := by
    dsimp only [s2]; repeat' first | (simp -implicitDefEqProofs -proj only [e1, ↓each_mem, ↓setLink_mem, ↓weirOpens_mem, implies_true]; done) | with_reducible assumption | split | with_reducible refine (each_mem _ _ _ ?_).trans ?_ | with_reducible refine (foldl_mem _ _ _ ?_).trans ?_ | intro _ | simp -implicitDefEqProofs -proj only [e1, ↓each_mem, ↓setLink_mem, ↓weirOpens_mem, implies_true]
  clear_value s2
  have e3 : s3.mem = s.mem := by
    simp -implicitDefEqProofs -proj only [s3, e2, ↓each_mem, ↓weirOpens_mem, implies_true]
  clear_value s3
  have e4 : s4.mem = s.mem := by
    dsimp only [s4]; repeat' first | (simp -implicitDefEqProofs -proj only [e3, ↓each_mem, ↓setFlag_mem, implies_true]; done) | with_reducible assumption | split | with_reducible refine (each_mem _ _ _ ?_).trans ?_ | with_reducible refine (foldl_mem _ _ _ ?_).trans ?_ | intro _ | simp -implicitDefEqProofs -proj only [e3, ↓each_mem, ↓setFlag_mem, implies_true]
  clear_value s4
  have e5 : s5.mem = s.mem := by
    dsimp only [s5]; repeat' first | (simp -implicitDefEqProofs -proj only [e4, ↓each_mem, ↓sgEnable_mem, implies_true]; done) | with_reducible assumption | split | with_reducible refine (each_mem _ _ _ ?_).trans ?_ | with_reducible refine (foldl_mem _ _ _ ?_).trans ?_ | intro _ | simp -implicitDefEqProofs -proj only [e4, ↓each_mem, ↓sgEnable_mem, implies_true]
  clear_value s5
  split <;> simp -implicitDefEqProofs -proj only [e5, ↓setCs_mem, ↓toListen_mem]

theorem selfTests_mem (s : State) (sram : Nat) (jets : List Nat) (cmps : List Nat) (zones : Nat) : (State.selfTests s sram jets cmps zones).mem = s.mem := by
  unfold State.selfTests
  extract_lets l1 l2 s3 l4 s5 s6 s7 l8
  have e3 : s3.mem = s.mem := each_mem _ _ _ (fun a u => jetBootTest_mem u jets a)
  clear_value s3
  have e5 : s5.mem = s.mem := (each_mem _ _ _ (fun a u => cmpBootTest_mem u cmps a)).trans e3
  clear_value s5
  have e6 : s6.mem = s.mem := (each_mem _ _ _ (fun a u => zoneFault_mem u a _)).trans e5
  clear_value s6
  have e7 : s7.mem = s.mem := (setFlag_mem ..).trans e6
  clear_value s7
  split
  · rw [halt_mem, e7]
  · split
    · rw [halt_mem, e7]
    · rename_i e
      rw [networkStage_mem, setFlag_mem, bootReadmit_mem e, e7]

theorem bootBoundary_mem (s : State) : (State.bootBoundary s).mem = s.mem := by
  unfold State.bootBoundary
  extract_lets l1 s2 s3 s4
  have e2 : s2.mem = s.mem := by
    simp -implicitDefEqProofs -proj only [s2, ↓mem_mk]
  clear_value s2
  have e3 : s3.mem = s.mem := by
    simp -implicitDefEqProofs -proj only [s3, e2, ↓placeJets_mem]
  clear_value s3
  have e4 : s4.mem = s.mem := by
    simp -implicitDefEqProofs -proj only [s4, ↓each_mem, ↓setAx_mem, ↓weirOpens_mem, implies_true]
  clear_value s4
  repeat' first | (simp -implicitDefEqProofs -proj only [e3, e4, ↓each_mem, ↓weirOpens_mem, ↓setStage_mem, ↓setFld_mem, implies_true]; done) | with_reducible assumption | split | with_reducible refine (each_mem _ _ _ ?_).trans ?_ | with_reducible refine (foldl_mem _ _ _ ?_).trans ?_ | intro _ | simp -implicitDefEqProofs -proj only [e3, e4, ↓each_mem, ↓weirOpens_mem, ↓setStage_mem, ↓setFld_mem, implies_true]

theorem setImg_mem (s : State) (st : Nat) : (State.setImg s st).mem = s.mem := by
  simp -implicitDefEqProofs -proj only [State.setImg, ↓raiseIf_mem, ↓setFld_mem]

theorem imgRefuse_wf (s : State) (r : Nat) (code : Nat) (h : Memory.wf s.mem = true) : Memory.wf (State.imgRefuse s r code).mem = true := by
  unfold State.imgRefuse
  extract_lets l1 s2 l3 s4
  have e2 : Memory.wf s2.mem = true := by
    dsimp only [s2]; repeat' first | (simp -implicitDefEqProofs -proj only [h, ↓each_mem, ↓each_wf, ↓copyMem_wf, ↓setAxis_mem, implies_true]; done) | with_reducible assumption | split | with_reducible refine each_wf _ _ _ ?_ ?_ | with_reducible refine foldl_wf _ _ _ ?_ ?_ | with_reducible refine copyMem_wf _ _ _ _ ?_ | intro _ | simp -implicitDefEqProofs -proj only [h, ↓each_mem, ↓each_wf, ↓copyMem_wf, ↓setAxis_mem, implies_true]
  clear_value s2
  have e4 : Memory.wf s4.mem = true := by
    simp -implicitDefEqProofs -proj only [s4, e2, ↓mem_mk]
  clear_value s4
  simp -implicitDefEqProofs -proj only [e4, ↓setImg_mem, ↓setFld_mem]

theorem imgGo_wf (s : State) (ag : Nat) (h : Memory.wf s.mem = true) : Memory.wf (State.imgGo s ag).mem = true := by
  unfold State.imgGo
  extract_lets l1 l2 l3 s4 s5
  have e4 : Memory.wf s4.mem = true := by
    simp -implicitDefEqProofs -proj only [s4, h, ↓mem_mk]
  clear_value s4
  have e5 : Memory.wf s5.mem = true := by
    simp -implicitDefEqProofs -proj only [s5, e4, ↓setFld_mem]
  clear_value s5
  (repeat' split) <;> simp -implicitDefEqProofs -proj only [e5, ↓imgRefuse_wf, ↓setImg_mem]

theorem imgCancel_wf (s : State) (h : Memory.wf s.mem = true) : Memory.wf (State.imgCancel s).mem = true := by
  unfold State.imgCancel
  (repeat' split) <;> simp -implicitDefEqProofs -proj only [h, ↓imgRefuse_wf]

theorem imgLate_wf (s : State) (h : Memory.wf s.mem = true) : Memory.wf (State.imgLate s).mem = true := by
  unfold State.imgLate
  split <;> simp -implicitDefEqProofs -proj only [h, ↓imgRefuse_wf]

theorem imgReady_mem (s : State) : (State.imgReady s).mem = s.mem := by
  unfold State.imgReady
  extract_lets l1
  repeat' first | (simp -implicitDefEqProofs -proj only [↓setImg_mem, ↓mem_mk]; done) | with_reducible assumption | split | with_reducible refine (each_mem _ _ _ ?_).trans ?_ | with_reducible refine (foldl_mem _ _ _ ?_).trans ?_ | intro _ | simp -implicitDefEqProofs -proj only [↓setImg_mem, ↓mem_mk]

theorem partnerArmed_mem (s : State) (n : Nat) (digest : Nat) : (State.partnerArmed s n digest).mem = s.mem := by
  unfold State.partnerArmed
  extract_lets l1 s2
  have e2 : s2.mem = s.mem := by
    simp -implicitDefEqProofs -proj only [s2, ↓mem_mk]
  clear_value s2
  (repeat' split) <;> simp -implicitDefEqProofs -proj only [e2, ↓imgReady_mem]

theorem imgAdmit_mem (s : State) : (State.imgAdmit s).mem = s.mem := by
  unfold State.imgAdmit
  split <;> simp -implicitDefEqProofs -proj only [↓admBegin_mem]

theorem imgLogged_wf (s : State) (o : ImgH) (logOk : Bool) (h : Memory.wf s.mem = true) : Memory.wf (State.imgLogged s o logOk).mem = true := by
  unfold State.imgLogged
  extract_lets s1
  have e1 : Memory.wf s1.mem = true := by
    simp -implicitDefEqProofs -proj only [s1, h, ↓logAppend_mem]
  clear_value s1
  split <;> simp -implicitDefEqProofs -proj only [e1, ↓imgReady_mem, ↓imgRefuse_wf]

theorem imgJudged_wf (s : State) (o : ImgH) (gen : Nat) (code : Nat) (differ : List Nat) (l : List Load) (logOk : Bool) (h : Memory.wf s.mem = true) : Memory.wf (State.imgJudged s o gen code differ l logOk).mem = true := by
  unfold State.imgJudged
  (repeat' split) <;> simp -implicitDefEqProofs -proj only [h, ↓imgLate_wf, ↓imgRefuse_wf, ↓imgAdmit_mem, ↓setImg_mem, ↓imgReady_mem, ↓imgLogged_wf]

theorem imgNoted_mem (s : State) (o : ImgH) (f : FlashH) (l : List Load) : (State.imgNoted s o f l).mem = s.mem := by
  unfold State.imgNoted
  extract_lets l1
  simp -implicitDefEqProofs -proj only [↓mem_mk]

theorem imgVerified_wf (s : State) (l : List Load) (logOk : Bool) (h : Memory.wf s.mem = true) : Memory.wf (State.imgVerified s l logOk).mem = true := by
  delta State.imgVerified
  dsimp only
  cases s.boot.order with
  | none => exact h
  | some o =>
    refine imgJudged_wf _ _ _ _ _ _ _ ?_
    rw [imgNoted_mem]
    exact h

theorem imgConfig_wf (s : State) (l : List Load) (h : Memory.wf s.mem = true) : Memory.wf (State.imgConfig s l).mem = true := by
  simp -implicitDefEqProofs -proj only [State.imgConfig, h, ↓pledgeDefaults_mem, ↓keepClosure_wf, ↓applyLoads_wf]

theorem imgAdmitted_wf (s : State) (h : Memory.wf s.mem = true) : Memory.wf (State.imgAdmitted s).mem = true := by
  unfold State.imgAdmitted
  repeat' first | (simp -implicitDefEqProofs -proj only [h, ↓imgConfig_wf, ↓admReport_mem, ↓imgLate_wf, ↓imgRefuse_wf, ↓setImg_mem, ↓mem_mk]; done) | with_reducible assumption | split | with_reducible refine each_wf _ _ _ ?_ ?_ | with_reducible refine foldl_wf _ _ _ ?_ ?_ | with_reducible refine imgConfig_wf _ _ ?_ | with_reducible refine imgLate_wf _ ?_ | with_reducible refine imgRefuse_wf _ _ _ ?_ | intro _ | simp -implicitDefEqProofs -proj only [h, ↓imgConfig_wf, ↓admReport_mem, ↓imgLate_wf, ↓imgRefuse_wf, ↓setImg_mem, ↓mem_mk]

theorem admDone_wf (s : State) (h : Memory.wf s.mem = true) : Memory.wf (State.admDone s).mem = true := by
  unfold State.admDone
  (repeat' split) <;> simp -implicitDefEqProofs -proj only [h, ↓admDoneCheck_mem, ↓admDoneJ_mem, ↓admDoneBack_mem, ↓imgAdmitted_wf, ↓imgAdmit_mem, ↓admNext_mem]

theorem stageAxis_wf (s : State) (at_ : Nat) (n : Nat) (h : Memory.wf s.mem = true) : Memory.wf (State.stageAxis s at_ n).mem = true := by
  unfold State.stageAxis
  extract_lets s1 s2 l3
  have e1 : Memory.wf s1.mem = true := by
    dsimp only [s1]; split <;> simp -implicitDefEqProofs -proj only [h, ↓stageDrop_mem]
  clear_value s1
  have e2 : Memory.wf s2.mem = true := by
    simp -implicitDefEqProofs -proj only [s2, e1, ↓copyMem_wf]
  clear_value s2
  simp -implicitDefEqProofs -proj only [e2, ↓setAxis_mem]

theorem imgStaged_wf (s : State) (h : Memory.wf s.mem = true) : Memory.wf (State.imgStaged s).mem = true := by
  unfold State.imgStaged
  repeat' first | (simp -implicitDefEqProofs -proj only [h, ↓imgLate_wf, ↓each_mem, ↓each_wf, ↓stageAxis_wf, ↓applyLoads_wf, ↓keepClosure_wf, ↓imgReady_mem, ↓mem_mk, implies_true]; done) | with_reducible assumption | split | with_reducible refine each_wf _ _ _ ?_ ?_ | with_reducible refine foldl_wf _ _ _ ?_ ?_ | with_reducible refine imgLate_wf _ ?_ | with_reducible refine stageAxis_wf _ _ _ ?_ | with_reducible refine applyLoads_wf _ _ ?_ | with_reducible refine keepClosure_wf _ _ _ ?_ | intro _ | simp -implicitDefEqProofs -proj only [h, ↓imgLate_wf, ↓each_mem, ↓each_wf, ↓stageAxis_wf, ↓applyLoads_wf, ↓keepClosure_wf, ↓imgReady_mem, ↓mem_mk, implies_true]

theorem imgLinkLoss_wf (s : State) (h : Memory.wf s.mem = true) : Memory.wf (State.imgLinkLoss s).mem = true := by
  unfold State.imgLinkLoss
  split <;> simp -implicitDefEqProofs -proj only [h, ↓imgRefuse_wf]

theorem imgTakes_wf (s : State) (o : ImgH) (h : Memory.wf s.mem = true) : Memory.wf (State.imgTakes s o).mem = true := by
  unfold State.imgTakes
  extract_lets l1 l2 s3 s4 s5 s6 s7
  have e3 : Memory.wf s3.mem = true := by
    simp -implicitDefEqProofs -proj only [s3, h, ↓mem_mk]
  clear_value s3
  have e4 : Memory.wf s4.mem = true := by
    dsimp only [s4]; repeat' first | (simp -implicitDefEqProofs -proj only [h, e3, ↓each_mem, ↓each_wf, ↓weirCycle_wf, implies_true]; done) | with_reducible assumption | split | with_reducible refine each_wf _ _ _ ?_ ?_ | with_reducible refine foldl_wf _ _ _ ?_ ?_ | with_reducible refine weirCycle_wf _ _ _ ?_ | intro _ | simp -implicitDefEqProofs -proj only [h, e3, ↓each_mem, ↓each_wf, ↓weirCycle_wf, implies_true]
  clear_value s4
  have e5 : Memory.wf s5.mem = true := by
    simp -implicitDefEqProofs -proj only [s5, e4, ↓otherPledges_mem, ↓applyLoads_wf]
  clear_value s5
  have e6 : Memory.wf s6.mem = true := by
    simp -implicitDefEqProofs -proj only [s6, e5, ↓showUnits_mem, ↓setShedSet_mem]
  clear_value s6
  have e7 : Memory.wf s7.mem = true := by
    simp -implicitDefEqProofs -proj only [s7, e6, ↓setFld_mem]
  clear_value s7
  simp -implicitDefEqProofs -proj only [e7, ↓setImg_mem, ↓setFld_mem]

theorem imgBoundary_wf (s : State) (h : Memory.wf s.mem = true) : Memory.wf (State.imgBoundary s).mem = true := by
  unfold State.imgBoundary
  (repeat' split) <;> simp -implicitDefEqProofs -proj only [h, ↓chipReset_wf, ↓imgTakes_wf]

end Sys2Proof.Machine
end

