-- ==== Sys2Proof/Laws/MemBus.lean ====
section
/-! SUPPORT. What every operation of the bus, the cycle and the remaining operations leaves of the memories:
the operations that store nothing leave them as they were (_mem), the others keep their canonical form (_wf). -/
set_option linter.unusedSimpArgs false
namespace Sys2Proof.Machine

/-! ### Bus -/

theorem readAct_mem (s : State) (ag : Nat) (r : Reg) : (State.readAct s ag r).2.mem = s.mem := by
  unfold State.readAct
  extract_lets l1 l2 l3 l4
  (repeat' split) <;> simp -implicitDefEqProofs only [l2, l3, ↓boxRead_mem, ↓setAgent_mem, ↓dispatchRead_mem, ↓lockRead_mem, ↓tsqRead_mem]

theorem unitRefuse_wf (s : State) (u : Nat) (q : ArbReq) (code : Nat) (h : Memory.wf s.mem = true) : Memory.wf (State.unitRefuse s u q code).mem = true := by
  unfold State.unitRefuse
  extract_lets s1
  have e1 : Memory.wf s1.mem = true := by
    simp -implicitDefEqProofs -proj only [s1, h, ↓arbRefuse_mem]
  clear_value s1
  (repeat' split) <;> simp -implicitDefEqProofs -proj only [h, e1, ↓jetRefuse_mem, ↓sptRefused_mem, ↓flowState_mem, ↓mirRefused_mem, ↓sptRespond_wf]

theorem arbSettle_wf (s : State) (u : Nat) (h : Memory.wf s.mem = true) : Memory.wf (State.arbSettle s u).mem = true := by
  unfold State.arbSettle
  repeat' first | (simp -implicitDefEqProofs -proj only [h, ↓unitRefuse_wf]; done) | with_reducible assumption | split | with_reducible refine each_wf _ _ _ ?_ ?_ | with_reducible refine foldl_wf _ _ _ ?_ ?_ | with_reducible refine unitRefuse_wf _ _ _ _ ?_ | intro _ | simp -implicitDefEqProofs -proj only [h, ↓unitRefuse_wf]

theorem settleReg_wf (s : State) (r : Reg) (h : Memory.wf s.mem = true) : Memory.wf (State.settleReg s r).mem = true := by
  unfold State.settleReg
  split <;> simp -implicitDefEqProofs -proj only [h, ↓mirSettle_mem, ↓txSettle_mem, ↓doIf_wf, ↓arbSettle_wf, ↓ttFireAll_mem, ↓mirFire_mem, implies_true]

theorem regRead_wf (s : State) (ag : Nat) (r : Reg) (h : Memory.wf s.mem = true) : Memory.wf (State.regRead s ag r).2.2.mem = true := by
  unfold State.regRead
  extract_lets s1 l2 l3
  have e1 : Memory.wf s1.mem = true := by
    simp -implicitDefEqProofs -proj only [s1, h, ↓settleReg_wf]
  clear_value s1
  (repeat' split) <;> simp -implicitDefEqProofs only [e1, l3, ↓noteEpoch_mem, ↓readAct_mem]

theorem writeRefused_mem (s : State) (ag : Nat) (r : Reg) (code : Nat) : (State.writeRefused s ag r code).mem = s.mem := by
  unfold State.writeRefused
  (repeat' split) <;> simp -implicitDefEqProofs -proj only [↓incSat_mem, ↓doneCancelled_mem]

theorem plain_mem (s : State) (r : Reg) (v : Word48) : (State.plain s r v).mem = s.mem := by
  unfold State.plain
  split <;> simp -implicitDefEqProofs -proj only [↓setReg_mem]

theorem atOrder_mem (s : State) (ag : Nat) (c : Reg) (f : State → State) (hf : ∀ u, (f u).mem = u.mem) : (State.atOrder s ag c f).mem = s.mem := by
  unfold State.atOrder
  extract_lets l1
  split <;> simp -implicitDefEqProofs -proj only [hf, ↓setReg_mem, ↓setRegN_mem]

theorem atOrder_wf (s : State) (ag : Nat) (c : Reg) (f : State → State) (hf : ∀ u, Memory.wf u.mem = true → Memory.wf (f u).mem = true) (h : Memory.wf s.mem = true) : Memory.wf (State.atOrder s ag c f).mem = true := by
  unfold State.atOrder
  extract_lets l1
  split <;> simp -implicitDefEqProofs -proj only [hf, h, ↓setReg_mem, ↓setRegN_mem]

theorem mvCtlAct_wf (s : State) (n : Nat) (v : Word48) (h : Memory.wf s.mem = true) : Memory.wf (State.mvCtlAct s n v).mem = true := by
  exact doIf_wf _ _ _ (movePush_wf _ _ (doIf_wf _ _ _ (by rw [moveFlush_mem]; exact h) h)) (doIf_wf _ _ _ (by rw [moveFlush_mem]; exact h) h)

theorem folPut_mem (s : State) (n : Nat) (c : CasCmd) : (State.folPut s n c).mem = s.mem := by
  unfold State.folPut
  extract_lets l1
  split <;> simp -implicitDefEqProofs -proj only [↓casPut_mem]

theorem folCtlAct_mem (s : State) (n : Nat) (v : Word48) : (State.folCtlAct s n v).mem = s.mem := by
  unfold State.folCtlAct
  extract_lets s1 l2
  have e1 : s1.mem = s.mem := by
    simp -implicitDefEqProofs -proj only [s1, ↓doIf_mem, ↓folPut_mem, implies_true]
  clear_value s1
  split <;> simp -implicitDefEqProofs -proj only [e1, ↓folPut_mem]

theorem hmCtlAct_mem (s : State) (n : Nat) (v : Word48) : (State.hmCtlAct s n v).mem = s.mem := by
  unfold State.hmCtlAct
  extract_lets s1
  have e1 : s1.mem = s.mem := by
    simp -implicitDefEqProofs -proj only [s1, ↓doIf_mem, ↓homeAbortOrder_mem, implies_true]
  clear_value s1
  simp -implicitDefEqProofs -proj only [e1, ↓doIf_mem, ↓homeOrder_mem, implies_true]

theorem stageAct_mem (s : State) (n : Nat) (v : Word48) : (State.stageAct s n v).mem = s.mem := by
  unfold State.stageAct
  extract_lets s1
  have e1 : s1.mem = s.mem := by
    simp -implicitDefEqProofs -proj only [s1, ↓doIf_mem, ↓stageCancel_mem, implies_true]
  clear_value s1
  simp -implicitDefEqProofs -proj only [e1, ↓doIf_mem, ↓stageRequest_mem, implies_true]

theorem cmdAct_mem (s : State) (ag : Nat) (n : Nat) (c : Nat) : (State.cmdAct s ag n c).mem = s.mem := by
  unfold State.cmdAct
  split <;> simp -implicitDefEqProofs -proj only [↓cmdDefer_mem, ↓cmdPlace_mem]

theorem weirAct_wf (s : State) (ag : Nat) (k : Nat) (v : Word48) (owed : Nat) (h : Memory.wf s.mem = true) : Memory.wf (State.weirAct s ag k v owed).mem = true := by
  unfold State.weirAct
  extract_lets s1 l2 l3
  have e1 : Memory.wf s1.mem = true := by
    simp -implicitDefEqProofs -proj only [s1, h, ↓doIf_wf, ↓weirCntClr_mem]
  clear_value s1
  (repeat' split) <;> simp -implicitDefEqProofs -proj only [e1, ↓weirCmd_wf, ↓mem_mk]

theorem sgCtlAct_mem (s : State) (g : Nat) (was : Bool) (v : Word48) : (State.sgCtlAct s g was v).mem = s.mem := by
  unfold State.sgCtlAct
  extract_lets l1 s2 s3 s4
  have e2 : s2.mem = s.mem := by
    simp -implicitDefEqProofs -proj only [s2, ↓doIf_mem, ↓tripClr_mem, implies_true]
  clear_value s2
  have e3 : s3.mem = s.mem := by
    dsimp only [s3]; (repeat' split) <;> simp -implicitDefEqProofs -proj only [e2, ↓sgEnable_mem, ↓sgDisable_mem]
  clear_value s3
  have e4 : s4.mem = s.mem := by
    simp -implicitDefEqProofs -proj only [s4, e3, ↓doIf_mem, ↓sgCommit_mem, implies_true]
  clear_value s4
  simp -implicitDefEqProofs -proj only [e4, ↓doIf_mem, ↓sgPrecharge_mem, implies_true]

theorem portCtlAct_mem (s : State) (p : Nat) (v : Word48) : (State.portCtlAct s p v).mem = s.mem := by
  unfold State.portCtlAct
  extract_lets l1 l2 s3 s4
  have e3 : s3.mem = s.mem := by
    simp -implicitDefEqProofs -proj only [s3, ↓setFld_mem]
  clear_value s3
  have e4 : s4.mem = s.mem := by
    dsimp only [s4]; (repeat' split) <;> simp -implicitDefEqProofs -proj only [e3, ↓portTestExit_mem, ↓portTest_mem]
  clear_value s4
  simp -implicitDefEqProofs -proj only [e4, ↓doIf_mem, ↓retrain_mem, implies_true]

theorem twnCtlAct_mem (s : State) (v : Word48) : (State.twnCtlAct s v).mem = s.mem := by
  unfold State.twnCtlAct
  extract_lets l1 s2 s3
  have e2 : s2.mem = s.mem := by
    simp -implicitDefEqProofs -proj only [s2, ↓doIf_mem, ↓twinCntClr_mem, implies_true]
  clear_value s2
  have e3 : s3.mem = s.mem := by
    simp -implicitDefEqProofs -proj only [s3, e2, ↓doIf_mem, ↓handoverArm_mem, implies_true]
  clear_value s3
  simp -implicitDefEqProofs -proj only [e3, ↓doIf_mem, ↓resync_mem, implies_true]

theorem latCtlAct_mem (s : State) (c : Nat) (v : Word48) : (State.latCtlAct s c v).mem = s.mem := by
  simp -implicitDefEqProofs -proj only [State.latCtlAct, ↓each_mem, ↓doIf_mem, ↓latchArm_mem, ↓latchDisarm_mem, implies_true]

theorem ttCtlAct_mem (s : State) (i : Nat) (v : Word48) : (State.ttCtlAct s i v).mem = s.mem := by
  unfold State.ttCtlAct
  extract_lets s1
  have e1 : s1.mem = s.mem := by
    simp -implicitDefEqProofs -proj only [s1, ↓doIf_mem, ↓ttHold_mem, ↓ttArm_mem, implies_true]
  clear_value s1
  simp -implicitDefEqProofs -proj only [e1, ↓doIf_mem, ↓ttDisarm_mem, implies_true]

theorem mirCtlAct_mem (s : State) (c : Nat) (v : Word48) : (State.mirCtlAct s c v).mem = s.mem := by
  unfold State.mirCtlAct
  extract_lets l1 s2
  have e2 : s2.mem = s.mem := by
    simp -implicitDefEqProofs -proj only [s2, ↓doIf_mem, ↓mirCntClr_mem, implies_true]
  clear_value s2
  split <;> simp -implicitDefEqProofs -proj only [e2, ↓mirOrder_mem]

theorem lmCtlAct_mem (s : State) (l : Nat) (c : Nat) : (State.lmCtlAct s l c).mem = s.mem := by
  unfold State.lmCtlAct
  extract_lets s1
  have e1 : s1.mem = s.mem := by
    simp -implicitDefEqProofs -proj only [s1, ↓doIf_mem, ↓lmClear_mem, implies_true]
  clear_value s1
  simp -implicitDefEqProofs -proj only [e1, ↓doIf_mem, ↓lmPush_mem, implies_true]

theorem pwdCtlAct_mem (s : State) (v : Word48) : (State.pwdCtlAct s v).mem = s.mem := by
  unfold State.pwdCtlAct
  extract_lets s1
  have e1 : s1.mem = s.mem := by
    simp -implicitDefEqProofs -proj only [s1, ↓doIf_mem, ↓setPwdOk_mem, implies_true]
  clear_value s1
  simp -implicitDefEqProofs -proj only [e1, ↓doIf_mem, ↓pwdPresent_mem, implies_true]

theorem lkStatAct_mem (s : State) (n : Nat) : (State.lkStatAct s n).mem = s.mem := by
  simp -implicitDefEqProofs -proj only [State.lkStatAct, ↓lockForce_mem]

theorem reqWaitClr_mem (s : State) (u : Nat) (r : Nat) : (State.reqWaitClr s u r).mem = s.mem := by
  unfold State.reqWaitClr
  extract_lets s1 s2 l3
  have e1 : s1.mem = s.mem := by
    dsimp only [s1]; split <;> simp -implicitDefEqProofs -proj only [↓setFld_mem]
  clear_value s1
  have e2 : s2.mem = s.mem := by
    simp -implicitDefEqProofs -proj only [s2, e1, ↓setReg_mem]
  clear_value s2
  simp -implicitDefEqProofs -proj only [e2, ↓setArb_mem]

theorem vlogClr_mem (s : State) : (State.vlogClr s).mem = s.mem := by
  unfold State.vlogClr
  extract_lets s1
  have e1 : s1.mem = s.mem := by
    simp -implicitDefEqProofs -proj only [s1, ↓each_mem, ↓setFlag_mem, implies_true]
  clear_value s1
  simp -implicitDefEqProofs -proj only [e1, ↓setFld_mem]

theorem ageStatClr_mem (s : State) (n : Nat) : (State.ageStatClr s n).mem = s.mem := by
  simp -implicitDefEqProofs -proj only [State.ageStatClr, ↓setFld_mem]

theorem writeAct_wf (s : State) (was : State) (ag : Nat) (r : Reg) (v : Word48) (owed : Nat) (h : Memory.wf s.mem = true) : Memory.wf (State.writeAct s was ag r v owed).mem = true := by
  unfold State.writeAct
  extract_lets l1 l2 s3 s4 l5
  have e3 : Memory.wf s3.mem = true := by
    simp -implicitDefEqProofs -proj only [s3, h, ↓doIf_wf, ↓imgCancel_wf]
  clear_value s3
  have e4 : Memory.wf s4.mem = true := by
    simp -implicitDefEqProofs -proj only [s4, h, ↓doIf_wf, ↓mem_mk]
  clear_value s4
  repeat' first | (simp -implicitDefEqProofs -proj only [h, e3, e4, ↓rstRequest_mem, ↓doIf_mem, ↓doIf_wf, ↓imgGo_wf, ↓flashStart_mem, ↓vlogClr_mem, ↓tjMaxClr_mem, ↓weirAct_wf, ↓setFld_mem, ↓admCheck_mem, ↓reqWaitClr_mem, ↓cmdAct_mem, ↓ageStatClr_mem, ↓atOrder_mem, ↓atOrder_wf, ↓mvCtlAct_wf, ↓changeApply_mem, ↓folCtlAct_mem, ↓limClr_mem, ↓hmCtlAct_mem, ↓chkClr_mem, ↓stageAct_mem, ↓swapSchedule_mem, ↓jetCntClr_mem, ↓groupGo_mem, ↓camCheckStart_mem, ↓lmCtlAct_mem, ↓lmPredict_mem, ↓encErrClr_mem, ↓latCtlAct_mem, ↓shadowWritten_mem, ↓tcCommit_mem, ↓tcCntClr_mem, ↓sgCtlAct_mem, ↓stStart_mem, ↓portCtlAct_mem, ↓portCntClr_mem, ↓coldRetry_mem, ↓netCntClr_mem, ↓flowPost_mem, ↓twnCtlAct_mem, ↓reselect_mem, ↓ptpPost_mem, ↓ttCtlAct_mem, ↓ttHold_mem, ↓ringStage_mem, ↓mirCtlAct_mem, ↓setSptSub_mem, ↓sptPost_mem, ↓setReg_mem, ↓setTaskFlags_mem, ↓post_mem, ↓setFlag_mem, ↓doneAct_wf, ↓setCore_mem, ↓boxWrite_mem, ↓boxStatClear_mem, ↓boxWait_mem, ↓lockFree_mem, ↓lkStatAct_mem, ↓ring_mem, ↓unring_mem, ↓pwdCtlAct_mem, ↓zoneCtlWrite_mem, ↓slsPeakClr_mem, ↓dmaCtlWrite_mem, ↓dmaPost_mem, ↓ethPost_mem, ↓ethCntClr_mem, ↓mem_mk, implies_true]; done) | with_reducible assumption | split | with_reducible refine each_wf _ _ _ ?_ ?_ | with_reducible refine foldl_wf _ _ _ ?_ ?_ | with_reducible refine imgGo_wf _ _ ?_ | with_reducible refine weirAct_wf _ _ _ _ _ ?_ | with_reducible refine atOrder_wf _ _ _ _ ?_ ?_ | with_reducible refine mvCtlAct_wf _ _ _ ?_ | with_reducible refine doneAct_wf _ _ _ ?_ | with_reducible refine doIf_wf _ _ _ ?_ ?_ | intro _ | simp -implicitDefEqProofs -proj only [h, e3, e4, ↓rstRequest_mem, ↓doIf_mem, ↓doIf_wf, ↓imgGo_wf, ↓flashStart_mem, ↓vlogClr_mem, ↓tjMaxClr_mem, ↓weirAct_wf, ↓setFld_mem, ↓admCheck_mem, ↓reqWaitClr_mem, ↓cmdAct_mem, ↓ageStatClr_mem, ↓atOrder_mem, ↓atOrder_wf, ↓mvCtlAct_wf, ↓changeApply_mem, ↓folCtlAct_mem, ↓limClr_mem, ↓hmCtlAct_mem, ↓chkClr_mem, ↓stageAct_mem, ↓swapSchedule_mem, ↓jetCntClr_mem, ↓groupGo_mem, ↓camCheckStart_mem, ↓lmCtlAct_mem, ↓lmPredict_mem, ↓encErrClr_mem, ↓latCtlAct_mem, ↓shadowWritten_mem, ↓tcCommit_mem, ↓tcCntClr_mem, ↓sgCtlAct_mem, ↓stStart_mem, ↓portCtlAct_mem, ↓portCntClr_mem, ↓coldRetry_mem, ↓netCntClr_mem, ↓flowPost_mem, ↓twnCtlAct_mem, ↓reselect_mem, ↓ptpPost_mem, ↓ttCtlAct_mem, ↓ttHold_mem, ↓ringStage_mem, ↓mirCtlAct_mem, ↓setSptSub_mem, ↓sptPost_mem, ↓setReg_mem, ↓setTaskFlags_mem, ↓post_mem, ↓setFlag_mem, ↓doneAct_wf, ↓setCore_mem, ↓boxWrite_mem, ↓boxStatClear_mem, ↓boxWait_mem, ↓lockFree_mem, ↓lkStatAct_mem, ↓ring_mem, ↓unring_mem, ↓pwdCtlAct_mem, ↓zoneCtlWrite_mem, ↓slsPeakClr_mem, ↓dmaCtlWrite_mem, ↓dmaPost_mem, ↓ethPost_mem, ↓ethCntClr_mem, ↓mem_mk, implies_true]

theorem mirrorReg_mem (s : State) (ag : Nat) (r : Reg) (v : Word48) : (State.mirrorReg s ag r v).mem = s.mem := by
  unfold State.mirrorReg
  split <;> simp -implicitDefEqProofs -proj only [↓mirrorOrder_mem]

theorem regWrite_wf (s : State) (ag : Nat) (r : Reg) (v : Word48) (owed : Nat) (h : Memory.wf s.mem = true) : Memory.wf (State.regWrite s ag r v owed).2.mem = true := by
  unfold State.regWrite
  extract_lets s1 l2
  have e1 : Memory.wf s1.mem = true := by
    simp -implicitDefEqProofs -proj only [s1, h, ↓settleReg_wf]
  clear_value s1
  (repeat' split) <;> simp -implicitDefEqProofs only [e1, ↓writeRefused_mem, ↓mirrorReg_mem, ↓writeAct_wf, ↓plain_mem]

theorem mirrorMem_mem (s : State) (ag : Nat) (x1 : List Nat) (x2 : List (Nat × Nat × Nat)) : (State.mirrorMem s ag x1 x2).mem = s.mem := by
  induction x1 generalizing s x2 with
  | nil => rfl
  | cons i t ih =>
    unfold State.mirrorMem
    split
    · rfl
    · rw [ih, mirrorOrder_mem]

theorem memWrite_wf (s : State) (ag : Nat) (a : Nat) (b : List Byte) (h : Memory.wf s.mem = true) : Memory.wf (State.memWrite s ag a b).2.mem = true := by
  unfold State.memWrite
  extract_lets l1 s2 s3
  have e2 : Memory.wf s2.mem = true := by
    simp -implicitDefEqProofs -proj only [s2, h, ↓setBytes_wf]
  clear_value s2
  have e3 : Memory.wf s3.mem = true := by
    simp -implicitDefEqProofs -proj only [s3, e2, ↓mem_mk]
  clear_value s3
  (repeat' split) <;> simp -implicitDefEqProofs only [h, e3, ↓mirrorMem_mem]

theorem access8_wf (s : State) (ag : Nat) (a : Nat) (w : Option Nat) (owed : Nat) (h : Memory.wf s.mem = true) : Memory.wf (State.access8 s ag a w owed).2.2.mem = true := by
  unfold State.access8
  extract_lets l1
  repeat' first | (simp -implicitDefEqProofs -proj only [h, ↓regWrite_wf, ↓regRead_wf, ↓memWrite_wf]; done) | with_reducible assumption | split | with_reducible refine each_wf _ _ _ ?_ ?_ | with_reducible refine foldl_wf _ _ _ ?_ ?_ | with_reducible refine regWrite_wf _ _ _ _ _ ?_ | with_reducible refine regRead_wf _ _ _ ?_ | with_reducible refine memWrite_wf _ _ _ _ ?_ | intro _ | simp -implicitDefEqProofs -proj only [h, ↓regWrite_wf, ↓regRead_wf, ↓memWrite_wf]

theorem slot_wf (s : State) (ag : Nat) (a : Nat) (w : Option Nat) (owed : Nat) (h : Memory.wf s.mem = true) : Memory.wf (State.slot s ag a w owed).mem = true := by
  unfold State.slot
  extract_lets l1
  (repeat' split) <;> simp -implicitDefEqProofs -proj only [h, l1, ↓misaligned_mem, ↓answer_mem, ↓access8_wf]

theorem busWrite_wf (s : State) (ag : Nat) (a : Nat) (v : Word48) (h : Memory.wf s.mem = true) : Memory.wf (State.busWrite s ag a v).mem = true := by
  simp -implicitDefEqProofs -proj only [State.busWrite, h, ↓slot_wf]

theorem slotFor_wf (ag : Nat) (s : State) (a : Nat) (w : Option Nat) (h : Memory.wf s.mem = true) : Memory.wf (State.slotFor ag s a w).2.2.mem = true := by
  unfold State.slotFor
  extract_lets s1
  have e1 : Memory.wf s1.mem = true := by
    simp -implicitDefEqProofs -proj only [s1, h, ↓slot_wf]
  clear_value s1
  simp -implicitDefEqProofs -proj only [e1]

theorem lowRead_wf (s : State) (ag : Nat) (a : Nat) (h : Memory.wf s.mem = true) : Memory.wf (State.lowRead s ag a).mem = true := by
  unfold State.lowRead
  extract_lets l1 s2 l3
  have e2 : Memory.wf s2.mem = true := by
    simp -implicitDefEqProofs -proj only [s2, h, l1, ↓access8_wf]
  clear_value s2
  (repeat' split) <;> simp -implicitDefEqProofs -proj only [h, e2, l1, ↓answer_mem, ↓setAgent_mem, ↓access8_wf]

theorem highRead_wf (s : State) (ag : Nat) (a : Nat) (h : Memory.wf s.mem = true) : Memory.wf (State.highRead s ag a).mem = true := by
  unfold State.highRead
  extract_lets l1 l2
  repeat' first | (simp -implicitDefEqProofs -proj only [h, l1, ↓answer_mem, ↓setAgent_mem, ↓settleReg_wf, ↓noteEpoch_mem]; done) | with_reducible assumption | split | with_reducible refine each_wf _ _ _ ?_ ?_ | with_reducible refine foldl_wf _ _ _ ?_ ?_ | with_reducible refine settleReg_wf _ _ ?_ | intro _ | simp -implicitDefEqProofs -proj only [h, l1, ↓answer_mem, ↓setAgent_mem, ↓settleReg_wf, ↓noteEpoch_mem]

theorem lowWrite_mem (s : State) (ag : Nat) (a : Nat) (w : Nat) : (State.lowWrite s ag a w).mem = s.mem := by
  unfold State.lowWrite
  extract_lets l1
  split <;> simp -implicitDefEqProofs -proj only [↓answer_mem, ↓setAgent_mem]

theorem highWrite_wf (s : State) (ag : Nat) (a : Nat) (w : Nat) (h : Memory.wf s.mem = true) : Memory.wf (State.highWrite s ag a w).mem = true := by
  unfold State.highWrite
  extract_lets l1 s2
  have e2 : Memory.wf s2.mem = true := by
    simp -implicitDefEqProofs -proj only [s2, h, ↓setAgent_mem]
  clear_value s2
  (repeat' split) <;> simp -implicitDefEqProofs -proj only [h, e2, ↓answer_mem, ↓regWrite_wf]

theorem narrow_mem (s : State) (ag : Nat) (a : Nat) (n : Nat) (ty : Nat) : (State.narrow s ag a n ty).mem = s.mem := by
  unfold State.narrow
  (repeat' split) <;> simp -implicitDefEqProofs -proj only [↓misaligned_mem, ↓answer_mem]

theorem memSlot_wf (s : State) (ag : Nat) (a : Nat) (b : List Byte) (h : Memory.wf s.mem = true) : Memory.wf (State.memSlot s ag a b).mem = true := by
  unfold State.memSlot
  extract_lets l1
  split <;> simp -implicitDefEqProofs -proj only [h, l1, ↓answer_mem, ↓memWrite_wf]

theorem memGet_mem (s : State) (ag : Nat) (a : Nat) (n : Nat) : (State.memGet s ag a n).mem = s.mem := by
  unfold State.memGet
  extract_lets l1
  split <;> simp -implicitDefEqProofs -proj only [↓answer_mem]

theorem fetch_mem (s : State) (ag : Nat) (a : Nat) : (State.fetch s ag a).mem = s.mem := by
  unfold State.fetch
  split <;> simp -implicitDefEqProofs -proj only [↓answer_mem]

theorem atomic_wf (s : State) (ag : Nat) (a : Nat) (n : Nat) (w : Option Nat) (h : Memory.wf s.mem = true) : Memory.wf (State.atomic s ag a n w).mem = true := by
  unfold State.atomic
  extract_lets l1
  (repeat' split) <;> simp -implicitDefEqProofs -proj only [h, ↓misaligned_mem, ↓answer_mem, ↓memWrite_wf]

theorem order_wf (s : State) (ag : Nat) (r : Reg) (f : Fld) (n : Nat) (h : Memory.wf s.mem = true) : Memory.wf (State.order s ag r f n).mem = true := by
  simp -implicitDefEqProofs -proj only [State.order, h, ↓busWrite_wf]

/-! ### Access -/

theorem read32_wf (s : State) (ag : Nat) (a : Nat) (h : Memory.wf s.mem = true) : Memory.wf (State.read32 s ag a).mem = true := by
  unfold State.read32
  (repeat' split) <;> simp -implicitDefEqProofs -proj only [h, ↓narrow_mem, ↓lowRead_wf, ↓highRead_wf, ↓memGet_mem]

theorem write32_wf (s : State) (ag : Nat) (a : Nat) (w : Nat) (h : Memory.wf s.mem = true) : Memory.wf (State.write32 s ag a w).mem = true := by
  unfold State.write32
  (repeat' split) <;> simp -implicitDefEqProofs -proj only [h, ↓narrow_mem, ↓lowWrite_mem, ↓highWrite_wf, ↓memSlot_wf]

theorem sized_wf (s : State) (ag : Nat) (a : Nat) (n : Nat) (ty : Nat) (v : Nat) (h : Memory.wf s.mem = true) : Memory.wf (State.sized s ag a n ty v).mem = true := by
  unfold State.sized
  (repeat' split) <;> simp -implicitDefEqProofs -proj only [h, ↓fetch_mem, ↓atomic_wf, ↓narrow_mem, ↓read32_wf, ↓write32_wf, ↓slot_wf, ↓memGet_mem, ↓memSlot_wf]

theorem mirrorAccess_wf (s : State) (a : Nat) (mask : Nat) (v : Nat) (h : Memory.wf s.mem = true) : Memory.wf (State.mirrorAccess s a mask v).2.mem = true := by
  unfold State.mirrorAccess
  extract_lets l1 l2 s3
  have e3 : Memory.wf s3.mem = true := by
    dsimp only [s3]; repeat' first | (simp -implicitDefEqProofs -proj only [h, ↓each_mem, ↓each_wf, ↓setByte_wf, implies_true]; done) | with_reducible assumption | split | with_reducible refine each_wf _ _ _ ?_ ?_ | with_reducible refine foldl_wf _ _ _ ?_ ?_ | with_reducible refine setByte_wf _ _ _ ?_ | intro _ | simp -implicitDefEqProofs -proj only [h, ↓each_mem, ↓each_wf, ↓setByte_wf, implies_true]
  clear_value s3
  (repeat' split) <;> simp -implicitDefEqProofs only [h, e3, ↓regWrite_wf, ↓answer_mem]

theorem pciePart_wf (s : State) (a : Nat) (n : Nat) (w : Option (List Byte)) (h : Memory.wf s.mem = true) : Memory.wf (State.pciePart s a n w).2.2.mem = true := by
  unfold State.pciePart
  extract_lets s1 s2
  have e1 : Memory.wf s1.mem = true := by
    dsimp only [s1]; (repeat' split) <;> simp -implicitDefEqProofs -proj only [h, ↓slot_wf, ↓write32_wf, ↓narrow_mem, ↓read32_wf]
  clear_value s1
  have e2 : Memory.wf s2.mem = true := by
    simp -implicitDefEqProofs -proj only [s2, h, ↓memGet_mem]
  clear_value s2
  repeat' first | (simp -implicitDefEqProofs -proj only [h, e1, e2, ↓memSlot_wf]; done) | with_reducible assumption | split | with_reducible refine each_wf _ _ _ ?_ ?_ | with_reducible refine foldl_wf _ _ _ ?_ ?_ | with_reducible refine memSlot_wf _ _ _ _ ?_ | intro _ | simp -implicitDefEqProofs -proj only [h, e1, e2, ↓memSlot_wf]

theorem pcieAccess_wf (s : State) (a : Nat) (len : Nat) (w : Option (List Byte)) (h : Memory.wf s.mem = true) : Memory.wf (State.pcieAccess s a len w).mem = true := by
  unfold State.pcieAccess
  extract_lets p1 l2
  have e1 : Memory.wf p1.2.2.mem = true := by
    refine foldl_keeps (fun x : List Nat × List Byte × State => Memory.wf x.2.2.mem = true) _ _ ?_ _ h
    intro x p hx
    exact pciePart_wf _ _ _ _ hx
  clear_value p1 l2
  rw [setAgent_mem]
  exact e1

theorem barAccess_wf (s : State) (bar2 : Bool) (offset : Nat) (len : Nat) (w : Option (List Byte)) (h : Memory.wf s.mem = true) : Memory.wf (State.barAccess s bar2 offset len w).mem = true := by
  unfold State.barAccess
  (repeat' split) <;> simp -implicitDefEqProofs -proj only [h, ↓pcieAccess_wf]

theorem pcieRequest_wf (s : State) (op : Nat) (addr : Nat) (len : Nat) (data : List Byte) (h : Memory.wf s.mem = true) : Memory.wf (State.pcieRequest s op addr len data).mem = true := by
  unfold State.pcieRequest
  split <;> simp -implicitDefEqProofs -proj only [h, ↓barAccess_wf, ↓msixMask_mem, ↓msixUnmask_mem, ↓setFlag_mem]

theorem spiSlots_wf (s : State) (addr : Nat) (l : List (Option Nat)) (h : Memory.wf s.mem = true) : Memory.wf (State.spiSlots s addr l).2.2.2.mem = true := by
  unfold State.spiSlots
  refine foldl_keeps (fun x : Nat × Nat × List Byte × State => Memory.wf x.2.2.2.mem = true) _ _ ?_ _ h
  intro x w hx
  split
  · exact hx
  · extract_lets y
    have ey : Memory.wf y.2.2.mem = true := slotFor_wf _ _ _ _ hx
    clear_value y
    split <;> exact ey

theorem spiCount_mem (s : State) : (State.spiCount s).mem = s.mem := by
  simp -implicitDefEqProofs -proj only [State.spiCount, ↓incWrap_mem]

theorem spiSend_mem (s : State) (b : List Byte) : (State.spiSend s b).mem = s.mem := by
  unfold State.spiSend
  extract_lets l1
  simp -implicitDefEqProofs -proj only [↓mem_mk]

theorem spiRead_wf (s : State) (count : Nat) (addr : Nat) (h : Memory.wf s.mem = true) : Memory.wf (State.spiRead s count addr).mem = true := by
  unfold State.spiRead
  extract_lets l1
  split <;> simp -implicitDefEqProofs -proj only [h, l1, ↓spiSend_mem, ↓spiCount_mem, ↓spiSlots_wf]

theorem spiWrite_wf (s : State) (addr : Nat) (data : List Nat) (h : Memory.wf s.mem = true) : Memory.wf (State.spiWrite s addr data).mem = true := by
  unfold State.spiWrite
  extract_lets l1
  split <;> simp -implicitDefEqProofs -proj only [h, l1, ↓spiSend_mem, ↓spiCount_mem, ↓spiSlots_wf]

theorem spiAbort_wf (s : State) (write : Bool) (count : Nat) (addr : Nat) (data : List Nat) (h : Memory.wf s.mem = true) : Memory.wf (State.spiAbort s write count addr data).mem = true := by
  unfold State.spiAbort
  extract_lets l1
  split <;> simp -implicitDefEqProofs -proj only [h, l1, ↓spiSend_mem, ↓raise_mem, ↓incSat_mem, ↓spiCount_mem, ↓spiSlots_wf]

theorem debugAccess_wf (s : State) (op : Nat) (addr : Nat) (v : Word48) (h : Memory.wf s.mem = true) : Memory.wf (State.debugAccess s op addr v).mem = true := by
  unfold State.debugAccess
  extract_lets l1 s2 l3
  have e2 : Memory.wf s2.mem = true := by
    simp -implicitDefEqProofs -proj only [s2, h, l1, ↓slotFor_wf]
  clear_value s2
  split <;> simp -implicitDefEqProofs -proj only [h, e2, ↓mem_mk]

/-! ### Cycle -/

theorem nextCycle_mem (s : State) : (State.nextCycle s).mem = s.mem := by
  unfold State.nextCycle
  extract_lets l1 s2 s3 s4
  have e2 : s2.mem = s.mem := by
    simp -implicitDefEqProofs -proj only [s2, ↓setReg_mem, ↓setRegN_mem]
  clear_value s2
  have e3 : s3.mem = s.mem := by
    simp -implicitDefEqProofs -proj only [s3, e2, ↓mem_mk]
  clear_value s3
  have e4 : s4.mem = s.mem := by
    dsimp only [s4]; split <;> simp -implicitDefEqProofs -proj only [e3, ↓setNlt_mem]
  clear_value s4
  split <;> simp -implicitDefEqProofs -proj only [e4, ↓driveBoundary_mem, ↓replace_mem]

theorem syncOutRise_mem (s : State) : (State.syncOutRise s).mem = s.mem := by
  unfold State.syncOutRise
  extract_lets l1
  split <;> simp -implicitDefEqProofs -proj only [↓mem_mk]

theorem syncOutFall_mem (s : State) : (State.syncOutFall s).mem = s.mem := by
  unfold State.syncOutFall
  extract_lets l1
  simp -implicitDefEqProofs -proj only [↓mem_mk]

theorem markSwapped_wf (s : State) (n : Nat) (load : Bool) (h : Memory.wf s.mem = true) : Memory.wf (State.markSwapped s n load).mem = true := by
  unfold State.markSwapped
  extract_lets l1 l2 s3
  have e3 : Memory.wf s3.mem = true := by
    simp -implicitDefEqProofs -proj only [s3, h, ↓setJob_mem]
  clear_value s3
  simp -implicitDefEqProofs -proj only [e3, ↓setFlag_mem, ↓setStWord_wf]

theorem swapAt_wf (s : State) (n : Nat) (h : Memory.wf s.mem = true) : Memory.wf (State.swapAt s n).mem = true := by
  unfold State.swapAt
  extract_lets l1 l2 s3
  have e3 : Memory.wf s3.mem = true := by
    dsimp only [s3]; repeat' first | (simp -implicitDefEqProofs -proj only [h, l2, ↓repledge_mem, ↓showCost_mem, ↓markSwapped_wf, ↓fixParams_wf, ↓performSwap_wf]; done) | with_reducible assumption | split | with_reducible refine each_wf _ _ _ ?_ ?_ | with_reducible refine foldl_wf _ _ _ ?_ ?_ | with_reducible refine markSwapped_wf _ _ _ ?_ | with_reducible refine fixParams_wf _ _ ?_ | with_reducible refine performSwap_wf _ _ ?_ | intro _ | simp -implicitDefEqProofs -proj only [h, l2, ↓repledge_mem, ↓showCost_mem, ↓markSwapped_wf, ↓fixParams_wf, ↓performSwap_wf]
  clear_value s3
  (repeat' split) <;> simp -implicitDefEqProofs -proj only [h, e3, l2, ↓stateLoaded_wf, ↓performSwap_wf]

theorem focIdle_wf (s : State) (n : Nat) (h : Memory.wf s.mem = true) : Memory.wf (State.focIdle s n).mem = true := by
  unfold State.focIdle
  extract_lets s1
  have e1 : Memory.wf s1.mem = true := by
    dsimp only [s1]; split <;> simp -implicitDefEqProofs -proj only [h, ↓clearMem_wf]
  clear_value s1
  split <;> simp -implicitDefEqProofs -proj only [h, e1, ↓each_mem, ↓groupPins_mem, implies_true]

theorem axisCycle_wf (s : State) (n : Nat) (h : Memory.wf s.mem = true) : Memory.wf (State.axisCycle s n).mem = true := by
  unfold State.axisCycle
  extract_lets s1 s2 l3 s4 s5 s6
  have e1 : Memory.wf s1.mem = true := by
    simp -implicitDefEqProofs -proj only [s1, h, ↓axisReopen_wf]
  clear_value s1
  have e2 : Memory.wf s2.mem = true := by
    dsimp only [s2]; split <;> simp -implicitDefEqProofs -proj only [h, ↓ageUpdate_mem]
  clear_value s2
  have e4 : Memory.wf s4.mem = true := by
    simp -implicitDefEqProofs -proj only [s4, e2, ↓showPending_mem, ↓axisBoundary_mem, ↓cmdsDue_mem]
  clear_value s4
  have e5 : Memory.wf s5.mem = true := by
    simp -implicitDefEqProofs -proj only [s5, e4, ↓focIdle_wf]
  clear_value s5
  have e6 : Memory.wf s6.mem = true := by
    dsimp only [s6]; split <;> simp -implicitDefEqProofs -proj only [e5, ↓showAge_wf]
  clear_value s6
  (repeat' split) <;> simp -implicitDefEqProofs -proj only [h, e1, e6, ↓showAge_wf, ↓ageUpdate_mem, ↓mirFault_mem]

theorem weirsDue_wf (s : State) (h : Memory.wf s.mem = true) : Memory.wf (State.weirsDue s).mem = true := by
  unfold State.weirsDue
  extract_lets l1 l2 s3
  have e3 : Memory.wf s3.mem = true := by
    simp -implicitDefEqProofs -proj only [s3, h, ↓mem_mk]
  clear_value s3
  repeat' first | (simp -implicitDefEqProofs -proj only [h, e3, ↓weirCmd_wf, ↓mem_mk]; done) | with_reducible assumption | split | with_reducible refine each_wf _ _ _ ?_ ?_ | with_reducible refine foldl_wf _ _ _ ?_ ?_ | with_reducible refine weirCmd_wf _ _ _ _ ?_ | intro _ | simp -implicitDefEqProofs -proj only [h, e3, ↓weirCmd_wf, ↓mem_mk]

theorem jetsCycle_mem (s : State) : (State.jetsCycle s).mem = s.mem := by
  unfold State.jetsCycle
  extract_lets l1 s2 l3
  have e2 : s2.mem = s.mem := by
    simp -implicitDefEqProofs -proj only [s2, ↓jetsReopen_mem, ↓swapBoundary_mem, ↓settleJets_mem, ↓fillVacated_mem, ↓loadBoundary_mem]
  clear_value s2
  simp -implicitDefEqProofs -proj only [e2, ↓shedBoundary_mem, ↓showJ_mem]

theorem jetRotate_mem (s : State) : (State.jetRotate s).mem = s.mem := by
  unfold State.jetRotate
  extract_lets l1 s2 l3
  have e2 : s2.mem = s.mem := by
    simp -implicitDefEqProofs -proj only [s2, ↓rotate_mem]
  clear_value s2
  split <;> simp -implicitDefEqProofs -proj only [e2, ↓shedBoundary_mem, ↓showJ_mem]

theorem arbsCycle_mem (s : State) : (State.arbsCycle s).mem = s.mem := by
  unfold State.arbsCycle
  extract_lets s1
  have e1 : s1.mem = s.mem := by
    dsimp only [s1]; repeat' first | (simp -implicitDefEqProofs -proj only [↓each_mem, ↓setArb_mem, implies_true]; done) | with_reducible assumption | split | with_reducible refine (each_mem _ _ _ ?_).trans ?_ | with_reducible refine (foldl_mem _ _ _ ?_).trans ?_ | intro _ | simp -implicitDefEqProofs -proj only [↓each_mem, ↓setArb_mem, implies_true]
  clear_value s1
  simp -implicitDefEqProofs -proj only [e1, ↓setFld_mem]

theorem marksTaken_mem (s : State) : (State.marksTaken s).mem = s.mem := by
  unfold State.marksTaken
  repeat' first | (simp -implicitDefEqProofs -proj only [↓each_mem, ↓setZone_mem, implies_true]; done) | with_reducible assumption | split | with_reducible refine (each_mem _ _ _ ?_).trans ?_ | with_reducible refine (foldl_mem _ _ _ ?_).trans ?_ | intro _ | simp -implicitDefEqProofs -proj only [↓each_mem, ↓setZone_mem, implies_true]

theorem cycleRest_wf (s : State) (h : Memory.wf s.mem = true) : Memory.wf (State.cycleRest s).mem = true := by
  unfold State.cycleRest
  extract_lets s1 s2 l3 s4 s5 s6 s7 s8
  have e1 : Memory.wf s1.mem = true := by
    simp -implicitDefEqProofs -proj only [s1, h, ↓syncOutRise_mem, ↓syncSend_mem]
  clear_value s1
  have e2 : Memory.wf s2.mem = true := by
    simp -implicitDefEqProofs -proj only [s2, e1, ↓netBoundary_mem, ↓twinBoundary_mem, ↓coldBoundary_mem]
  clear_value s2
  have e4 : Memory.wf s4.mem = true := by
    simp -implicitDefEqProofs -proj only [s4, e2, ↓mem_mk]
  clear_value s4
  have e5 : Memory.wf s5.mem = true := by
    simp -implicitDefEqProofs -proj only [s5, e4, ↓weirsDue_wf]
  clear_value s5
  have e6 : Memory.wf s6.mem = true := by
    simp -implicitDefEqProofs -proj only [s6, e5, ↓arbsCycle_mem, ↓jobsBoundary_mem]
  clear_value s6
  have e7 : Memory.wf s7.mem = true := by
    dsimp only [s7]; repeat' first | (simp -implicitDefEqProofs -proj only [h, e6, ↓jetsCycle_mem, ↓each_mem, ↓each_wf, ↓swapAt_wf, implies_true]; done) | with_reducible assumption | split | with_reducible refine each_wf _ _ _ ?_ ?_ | with_reducible refine foldl_wf _ _ _ ?_ ?_ | with_reducible refine swapAt_wf _ _ ?_ | intro _ | simp -implicitDefEqProofs -proj only [h, e6, ↓jetsCycle_mem, ↓each_mem, ↓each_wf, ↓swapAt_wf, implies_true]
  clear_value s7
  have e8 : Memory.wf s8.mem = true := by
    dsimp only [s8]; repeat' first | (simp -implicitDefEqProofs -proj only [h, e7, ↓marksTaken_mem, ↓each_mem, ↓each_wf, ↓axisCycle_wf, implies_true]; done) | with_reducible assumption | split | with_reducible refine each_wf _ _ _ ?_ ?_ | with_reducible refine foldl_wf _ _ _ ?_ ?_ | with_reducible refine axisCycle_wf _ _ ?_ | intro _ | simp -implicitDefEqProofs -proj only [h, e7, ↓marksTaken_mem, ↓each_mem, ↓each_wf, ↓axisCycle_wf, implies_true]
  clear_value s8
  simp -implicitDefEqProofs -proj only [e8, ↓bootBoundary_mem, ↓contSupply_mem, ↓sampleAll_mem]

theorem cycleBoundary_wf (s : State) (h : Memory.wf s.mem = true) : Memory.wf (State.cycleBoundary s).mem = true := by
  unfold State.cycleBoundary
  extract_lets s1 s2
  have e1 : Memory.wf s1.mem = true := by
    simp -implicitDefEqProofs -proj only [s1, h, ↓nextCycle_mem]
  clear_value s1
  have e2 : Memory.wf s2.mem = true := by
    simp -implicitDefEqProofs -proj only [s2, e1, ↓imgBoundary_wf]
  clear_value s2
  split <;> simp -implicitDefEqProofs -proj only [e2, ↓cycleRest_wf]

/-! ### UnitOps -/

theorem when_mem (s : State) (can : State → Bool) (f : State → State) (hf : ∀ u, (f u).mem = u.mem) : (State.when s can f).mem = s.mem := by
  unfold State.when
  split <;> simp -implicitDefEqProofs -proj only [hf]

theorem when_wf (s : State) (can : State → Bool) (f : State → State) (hf : ∀ u, Memory.wf u.mem = true → Memory.wf (f u).mem = true) (h : Memory.wf s.mem = true) : Memory.wf (State.when s can f).mem = true := by
  unfold State.when
  split <;> simp -implicitDefEqProofs -proj only [hf, h]

theorem jetTaskEnd_wf (s : State) (j : Nat) (ecc : Bool) (h : Memory.wf s.mem = true) : Memory.wf (State.jetTaskEnd s j ecc).mem = true := by
  unfold State.jetTaskEnd
  extract_lets s1
  have e1 : Memory.wf s1.mem = true := by
    simp -implicitDefEqProofs -proj only [s1, h, ↓taskEnd_wf]
  clear_value s1
  (repeat' split) <;> simp -implicitDefEqProofs -proj only [h, e1, ↓mirCurrent_mem]

theorem jetTimeRefusal_mem (s : State) (n : Nat) : (State.jetTimeRefusal s n).mem = s.mem := by
  unfold State.jetTimeRefusal
  split <;> simp -implicitDefEqProofs -proj only [↓jetRefuse_mem]

theorem coldHeard_mem (s : State) : (State.coldHeard s).mem = s.mem := by
  unfold State.coldHeard
  repeat' first | (simp -implicitDefEqProofs -proj only [↓inTake_mem, ↓setFlag_mem]; done) | with_reducible assumption | split | with_reducible refine (each_mem _ _ _ ?_).trans ?_ | with_reducible refine (foldl_mem _ _ _ ?_).trans ?_ | intro _ | simp -implicitDefEqProofs -proj only [↓inTake_mem, ↓setFlag_mem]

theorem frameChecked_wf (s : State) (p : Nat) (rest : List Byte) (fcs : Nat) (ending : Nat) (h : Memory.wf s.mem = true) : Memory.wf (State.frameChecked s p rest fcs ending).mem = true := by
  unfold State.frameChecked
  extract_lets s1
  have e1 : Memory.wf s1.mem = true := by
    dsimp only [s1]; repeat' first | (simp -implicitDefEqProofs -proj only [h, ↓frameCheck_wf, ↓recordStop_mem, implies_true]; done) | with_reducible assumption | split | with_reducible refine each_wf _ _ _ ?_ ?_ | with_reducible refine foldl_wf _ _ _ ?_ ?_ | with_reducible refine frameCheck_wf _ _ _ _ _ _ ?_ ?_ | intro _ | simp -implicitDefEqProofs -proj only [h, ↓frameCheck_wf, ↓recordStop_mem, implies_true]
  clear_value s1
  split <;> simp -implicitDefEqProofs -proj only [e1, ↓coldHeard_mem]

theorem dynFrameSend_mem (s : State) (f : Nat) : (State.dynFrameSend s f).mem = s.mem := by
  unfold State.dynFrameSend
  split <;> simp -implicitDefEqProofs -proj only [↓dynSend_mem]

theorem codeError_mem (s : State) (p : Nat) (kind : Nat) : (State.codeError s p kind).mem = s.mem := by
  unfold State.codeError
  extract_lets s1
  have e1 : s1.mem = s.mem := by
    simp -implicitDefEqProofs -proj only [s1, ↓invalidGroup_mem]
  clear_value s1
  split <;> simp -implicitDefEqProofs -proj only [e1, ↓repeatError_mem]

theorem weirOrder_wf (s : State) (ag : Nat) (k : Nat) (c : Nat) (owed : Nat) (h : Memory.wf s.mem = true) : Memory.wf (State.weirOrder s ag k c owed).mem = true := by
  simp -implicitDefEqProofs -proj only [State.weirOrder, h, ↓slot_wf]

theorem flashOrder_wf (s : State) (ag : Nat) (op : Nat) (slot : Nat) (addr : Nat) (h : Memory.wf s.mem = true) : Memory.wf (State.flashOrder s ag op slot addr).mem = true := by
  simp -implicitDefEqProofs -proj only [State.flashOrder, h, ↓busWrite_wf]

theorem outstanding_mem (s : State) (q : ArbReq) : (State.outstanding s q).mem = s.mem := by
  unfold State.outstanding
  split <;> simp -implicitDefEqProofs -proj only [↓mem_mk]

theorem busRequest_wf (s : State) (u : Nat) (r : Nat) (cost : Nat) (serverFree : Bool) (posted : Bool) (ag : Nat) (addr : Nat) (h : Memory.wf s.mem = true) : Memory.wf (State.busRequest s u r cost serverFree posted ag addr).mem = true := by
  unfold State.busRequest
  extract_lets l1 s2
  have e2 : Memory.wf s2.mem = true := by
    simp -implicitDefEqProofs -proj only [s2, h, ↓arbAdd_mem, ↓arbSettle_wf]
  clear_value s2
  (repeat' split) <;> simp -implicitDefEqProofs -proj only [h, e2, ↓arbRefuse_mem]

theorem unitGrant_wf (s : State) (u : Nat) (h : Memory.wf s.mem = true) : Memory.wf (State.unitGrant s u).mem = true := by
  unfold State.unitGrant
  split
  · rw [jetGrant_mem]; exact h
  · extract_lets s1
    have e1 : Memory.wf s1.mem = true := arbSettle_wf _ _ h
    clear_value s1
    split
    · rw [sptGrant_mem]; exact e1
    · exact e1
  · split
    · rw [upSend_mem]; exact h
    · exact h
  · extract_lets s1
    have e1 : Memory.wf s1.mem = true := arbSettle_wf _ _ h
    clear_value s1
    split
    · rename_i e
      refine mirGrant_wf _ _ ?_
      rw [arbGrant_mem e]; exact e1
    · exact e1
  all_goals first
    | exact h
    | (extract_lets s1
       have e1 : Memory.wf s1.mem = true := arbSettle_wf _ _ h
       clear_value s1
       split
       · rename_i e
         rw [outstanding_mem, arbGrant_mem e]; exact e1
       · exact e1)

theorem unitAged_wf (s : State) (u : Nat) (h : Memory.wf s.mem = true) : Memory.wf (State.unitAged s u).mem = true := by
  unfold State.unitAged
  extract_lets s1
  have e1 : Memory.wf s1.mem = true := by
    dsimp only [s1]; split <;> simp -implicitDefEqProofs -proj only [h, ↓arbSettle_wf]
  clear_value s1
  split <;> simp -implicitDefEqProofs -proj only [e1, ↓unitRefuse_wf]

theorem blockCold_mem (s : State) : (State.blockCold s).mem = s.mem := by
  unfold State.blockCold
  extract_lets l1
  simp -implicitDefEqProofs -proj only [↓mem_mk]

theorem mirSampled_wf (s : State) (c : Nat) (pins : Nat) (h : Memory.wf s.mem = true) : Memory.wf (State.mirSampled s c pins).mem = true := by
  unfold State.mirSampled
  extract_lets s1
  have e1 : Memory.wf s1.mem = true := by
    simp -implicitDefEqProofs -proj only [s1, h, ↓mirSettle_mem, ↓setBalls_mem]
  clear_value s1
  split <;> simp -implicitDefEqProofs -proj only [e1, ↓mirSample_wf]

theorem mirHoldEnd_mem (s : State) (c : Nat) : (State.mirHoldEnd s c).mem = s.mem := by
  unfold State.mirHoldEnd
  extract_lets l1
  (repeat' split) <;> simp -implicitDefEqProofs -proj only [↓when_mem, ↓setMir_mem, ↓mirToPre_mem, implies_true]

theorem xtlRelease_mem (s : State) : (State.xtlRelease s).mem = s.mem := by
  simp -implicitDefEqProofs -proj only [State.xtlRelease, ↓xtlShow_mem]

theorem sptExtAnswer_wf (s : State) (t : Nat) (deny : Bool) (h : Memory.wf s.mem = true) : Memory.wf (State.sptExtAnswer s t deny).mem = true := by
  unfold State.sptExtAnswer
  (repeat' split) <;> simp -implicitDefEqProofs -proj only [h, ↓sptRespond_wf, ↓read32_wf, ↓write32_wf]

theorem wdogExpire_wf (s : State) (k : Nat) (h : Memory.wf s.mem = true) : Memory.wf (State.wdogExpire s k).mem = true := by
  simp -implicitDefEqProofs -proj only [State.wdogExpire, h, ↓raise_mem, ↓incSat_mem, ↓weirCycle_wf]

/-! ### Step -/

theorem withFetchWord_mem (s : State) (nbits : Nat) (w : Nat) : (State.withFetchWord s nbits w).mem = s.mem := by
  unfold State.withFetchWord
  split <;> simp -implicitDefEqProofs -proj only [↓mem_mk]

end Sys2Proof.Machine
end

