-- ==== Sys2Proof/Laws/Commands.lean ====
section
/-! SUPPORT. Every command keeps the canonical form of the memories. -/
set_option linter.unusedSimpArgs false
namespace Sys2Proof.Machine

/-- A command keeps the canonical form if its effect does. -/
theorem row_wf (s : State) (dt : Nat) (f : State → State) (s₂ : State)
    (hf : ∀ u v, f u = v → Memory.wf u.mem = true → Memory.wf v.mem = true) (h : Memory.wf s.mem = true)
    (e : s.row dt f = .next s₂) : Memory.wf s₂.mem = true := by
  unfold State.row at e
  obtain rfl := Host.Outcome.next.inj e
  have e2 : Memory.wf (f (s.elapse dt)).mem = true := hf (s.elapse dt) _ rfl h
  exact e2

/-- A reported event keeps the canonical form if its effect does. -/
theorem rowIf_wf (s : State) (dt : Nat) (c : State → Bool) (f : State → State) (s₂ : State)
    (hf : ∀ u v, f u = v → Memory.wf u.mem = true → Memory.wf v.mem = true) (h : Memory.wf s.mem = true)
    (e : s.rowIf dt c f = .next s₂) : Memory.wf s₂.mem = true := by
  refine row_wf s dt _ s₂ (fun u v ev hu => ?_) h e
  subst ev
  unfold State.when
  split
  · exact hf u _ rfl hu
  · exact hu

theorem execRegisterWrite_wf (dt ag addr : Nat) (v : Word48) (s s₂ : State) (h : Memory.wf s.mem = true) (e : execRegisterWrite dt ag addr v s = .next s₂) :
    Memory.wf s₂.mem = true := by
  refine row_wf _ _ _ _ (fun u v ev hu => ?_) h e
  subst ev
  simp -implicitDefEqProofs -proj only [↓busWrite_wf, hu]

theorem execLowWordRead_wf (dt ag addr : Nat) (s s₂ : State) (h : Memory.wf s.mem = true) (e : execLowWordRead dt ag addr s = .next s₂) :
    Memory.wf s₂.mem = true := by
  refine row_wf _ _ _ _ (fun u v ev hu => ?_) h e
  subst ev
  simp -implicitDefEqProofs -proj only [↓read32_wf, hu]

theorem execHighWordRead_wf (dt ag addr : Nat) (s s₂ : State) (h : Memory.wf s.mem = true) (e : execHighWordRead dt ag addr s = .next s₂) :
    Memory.wf s₂.mem = true := by
  refine row_wf _ _ _ _ (fun u v ev hu => ?_) h e
  subst ev
  simp -implicitDefEqProofs -proj only [↓read32_wf, hu]

theorem execLowWordWrite_wf (dt ag addr w : Nat) (s s₂ : State) (h : Memory.wf s.mem = true) (e : execLowWordWrite dt ag addr w s = .next s₂) :
    Memory.wf s₂.mem = true := by
  refine row_wf _ _ _ _ (fun u v ev hu => ?_) h e
  subst ev
  simp -implicitDefEqProofs -proj only [↓write32_wf, hu]

theorem execHighWordWrite_wf (dt ag addr w : Nat) (s s₂ : State) (h : Memory.wf s.mem = true) (e : execHighWordWrite dt ag addr w s = .next s₂) :
    Memory.wf s₂.mem = true := by
  refine row_wf _ _ _ _ (fun u v ev hu => ?_) h e
  subst ev
  simp -implicitDefEqProofs -proj only [↓write32_wf, hu]

theorem execNarrowAccess_wf (dt ag addr n ty v : Nat) (s s₂ : State) (h : Memory.wf s.mem = true) (e : execNarrowAccess dt ag addr n ty v s = .next s₂) :
    Memory.wf s₂.mem = true := by
  refine row_wf _ _ _ _ (fun u v ev hu => ?_) h e
  subst ev
  simp -implicitDefEqProofs -proj only [↓sized_wf, hu]

theorem execBasinLiveBankWrite_wf (dt ag addr : Nat) (v : BitVec 64) (s s₂ : State) (h : Memory.wf s.mem = true) (e : execBasinLiveBankWrite dt ag addr v s = .next s₂) :
    Memory.wf s₂.mem = true := by
  refine row_wf _ _ _ _ (fun u v ev hu => ?_) h e
  subst ev
  simp -implicitDefEqProofs -proj only [↓slot_wf, hu]

theorem execStageRequest_wf (dt ag n : Nat) (v : Word48) (s s₂ : State) (h : Memory.wf s.mem = true) (e : execStageRequest dt ag n v s = .next s₂) :
    Memory.wf s₂.mem = true := by
  refine row_wf _ _ _ _ (fun u v ev hu => ?_) h e
  subst ev
  simp -implicitDefEqProofs -proj only [↓busWrite_wf, hu]

theorem execStageCancel_wf (dt ag n : Nat) (s s₂ : State) (h : Memory.wf s.mem = true) (e : execStageCancel dt ag n s = .next s₂) :
    Memory.wf s₂.mem = true := by
  refine row_wf _ _ _ _ (fun u v ev hu => ?_) h e
  subst ev
  simp -implicitDefEqProofs -proj only [↓order_wf, hu]

theorem execStagedBankWrite_wf (dt ag addr : Nat) (v : BitVec 64) (s s₂ : State) (h : Memory.wf s.mem = true) (e : execStagedBankWrite dt ag addr v s = .next s₂) :
    Memory.wf s₂.mem = true := by
  refine row_wf _ _ _ _ (fun u v ev hu => ?_) h e
  subst ev
  simp -implicitDefEqProofs -proj only [↓slot_wf, hu]

theorem execEnable_wf (dt ag n : Nat) (s s₂ : State) (h : Memory.wf s.mem = true) (e : execEnable dt ag n s = .next s₂) :
    Memory.wf s₂.mem = true := by
  refine row_wf _ _ _ _ (fun u v ev hu => ?_) h e
  subst ev
  simp -implicitDefEqProofs -proj only [↓order_wf, hu]

theorem execDisable_wf (dt ag n : Nat) (s s₂ : State) (h : Memory.wf s.mem = true) (e : execDisable dt ag n s = .next s₂) :
    Memory.wf s₂.mem = true := by
  refine row_wf _ _ _ _ (fun u v ev hu => ?_) h e
  subst ev
  simp -implicitDefEqProofs -proj only [↓order_wf, hu]

theorem execStop_wf (dt ag n : Nat) (s s₂ : State) (h : Memory.wf s.mem = true) (e : execStop dt ag n s = .next s₂) :
    Memory.wf s₂.mem = true := by
  refine row_wf _ _ _ _ (fun u v ev hu => ?_) h e
  subst ev
  simp -implicitDefEqProofs -proj only [↓order_wf, hu]

theorem execQuickStop_wf (dt ag n : Nat) (s s₂ : State) (h : Memory.wf s.mem = true) (e : execQuickStop dt ag n s = .next s₂) :
    Memory.wf s₂.mem = true := by
  refine row_wf _ _ _ _ (fun u v ev hu => ?_) h e
  subst ev
  simp -implicitDefEqProofs -proj only [↓order_wf, hu]

theorem execFaultReset_wf (dt ag n : Nat) (s s₂ : State) (h : Memory.wf s.mem = true) (e : execFaultReset dt ag n s = .next s₂) :
    Memory.wf s₂.mem = true := by
  refine row_wf _ _ _ _ (fun u v ev hu => ?_) h e
  subst ev
  simp -implicitDefEqProofs -proj only [↓order_wf, hu]

theorem execAgeStatClr_wf (dt ag n : Nat) (s s₂ : State) (h : Memory.wf s.mem = true) (e : execAgeStatClr dt ag n s = .next s₂) :
    Memory.wf s₂.mem = true := by
  refine row_wf _ _ _ _ (fun u v ev hu => ?_) h e
  subst ev
  simp -implicitDefEqProofs -proj only [↓order_wf, hu]

theorem execVlimCntClr_wf (dt ag n : Nat) (s s₂ : State) (h : Memory.wf s.mem = true) (e : execVlimCntClr dt ag n s = .next s₂) :
    Memory.wf s₂.mem = true := by
  refine row_wf _ _ _ _ (fun u v ev hu => ?_) h e
  subst ev
  simp -implicitDefEqProofs -proj only [↓order_wf, hu]

theorem execBootHeaders_wf (dt : Nat) (s s₂ : State) (h : Memory.wf s.mem = true) (e : execBootHeaders dt s = .next s₂) :
    Memory.wf s₂.mem = true := by
  refine rowIf_wf _ _ _ _ _ (fun u v ev hu => ?_) h e
  subst ev
  simp -implicitDefEqProofs -proj only [↓bootHeaders_mem, hu]

theorem execImageReadComplete_wf (dt : Nat) (reread : List Byte) (s s₂ : State) (h : Memory.wf s.mem = true) (e : execImageReadComplete dt reread s = .next s₂) :
    Memory.wf s₂.mem = true := by
  refine rowIf_wf _ _ _ _ _ (fun u v ev hu => ?_) h e
  subst ev
  simp -implicitDefEqProofs -proj only [↓imageRead_mem, hu]

theorem execUnitConfigurationComplete_wf (dt : Nat) (loads : List Load) (bad logOk : Bool) (s s₂ : State) (h : Memory.wf s.mem = true) (e : execUnitConfigurationComplete dt loads bad logOk s = .next s₂) :
    Memory.wf s₂.mem = true := by
  refine rowIf_wf _ _ _ _ _ (fun u v ev hu => ?_) h e
  subst ev
  simp -implicitDefEqProofs -proj only [↓unitConfig_wf, hu]

theorem execStartupAdmissionComplete_wf (dt : Nat) (s s₂ : State) (h : Memory.wf s.mem = true) (e : execStartupAdmissionComplete dt s = .next s₂) :
    Memory.wf s₂.mem = true := by
  refine rowIf_wf _ _ _ _ _ (fun u v ev hu => ?_) h e
  subst ev
  simp -implicitDefEqProofs -proj only [↓startupAdmission_wf, hu]

theorem execSelfTestsComplete_wf (dt sram : Nat) (jets cmps : List Nat) (zones : Nat) (s s₂ : State) (h : Memory.wf s.mem = true) (e : execSelfTestsComplete dt sram jets cmps zones s = .next s₂) :
    Memory.wf s₂.mem = true := by
  refine rowIf_wf _ _ _ _ _ (fun u v ev hu => ?_) h e
  subst ev
  simp -implicitDefEqProofs -proj only [↓selfTests_mem, hu]

theorem execImageSwitchGo_wf (dt ag : Nat) (v : Word48) (s s₂ : State) (h : Memory.wf s.mem = true) (e : execImageSwitchGo dt ag v s = .next s₂) :
    Memory.wf s₂.mem = true := by
  refine row_wf _ _ _ _ (fun u v ev hu => ?_) h e
  subst ev
  simp -implicitDefEqProofs -proj only [↓busWrite_wf, hu]

theorem execImageSwitchCancel_wf (dt ag : Nat) (s s₂ : State) (h : Memory.wf s.mem = true) (e : execImageSwitchCancel dt ag s = .next s₂) :
    Memory.wf s₂.mem = true := by
  refine row_wf _ _ _ _ (fun u v ev hu => ?_) h e
  subst ev
  simp -implicitDefEqProofs -proj only [↓order_wf, hu]

theorem execImageVerifyComplete_wf (dt : Nat) (loads : List Load) (logOk : Bool) (s s₂ : State) (h : Memory.wf s.mem = true) (e : execImageVerifyComplete dt loads logOk s = .next s₂) :
    Memory.wf s₂.mem = true := by
  refine rowIf_wf _ _ _ _ _ (fun u v ev hu => ?_) h e
  subst ev
  simp -implicitDefEqProofs -proj only [↓imgVerified_wf, hu]

theorem execImageStagingComplete_wf (dt : Nat) (s s₂ : State) (h : Memory.wf s.mem = true) (e : execImageStagingComplete dt s = .next s₂) :
    Memory.wf s₂.mem = true := by
  refine rowIf_wf _ _ _ _ _ (fun u v ev hu => ?_) h e
  subst ev
  simp -implicitDefEqProofs -proj only [↓imgStaged_wf, hu]

theorem execImageSwitchDeadline_wf (dt : Nat) (s s₂ : State) (h : Memory.wf s.mem = true) (e : execImageSwitchDeadline dt s = .next s₂) :
    Memory.wf s₂.mem = true := by
  refine rowIf_wf _ _ _ _ _ (fun u v ev hu => ?_) h e
  subst ev
  simp -implicitDefEqProofs -proj only [↓imgLate_wf, hu]

theorem execPartnerArmed_wf (dt n digest : Nat) (s s₂ : State) (h : Memory.wf s.mem = true) (e : execPartnerArmed dt n digest s = .next s₂) :
    Memory.wf s₂.mem = true := by
  refine row_wf _ _ _ _ (fun u v ev hu => ?_) h e
  subst ev
  simp -implicitDefEqProofs -proj only [↓partnerArmed_mem, hu]

theorem execFlashRead_wf (dt ag slot addr : Nat) (s s₂ : State) (h : Memory.wf s.mem = true) (e : execFlashRead dt ag slot addr s = .next s₂) :
    Memory.wf s₂.mem = true := by
  refine row_wf _ _ _ _ (fun u v ev hu => ?_) h e
  subst ev
  simp -implicitDefEqProofs -proj only [↓flashOrder_wf, hu]

theorem execFlashProgram_wf (dt ag slot addr : Nat) (s s₂ : State) (h : Memory.wf s.mem = true) (e : execFlashProgram dt ag slot addr s = .next s₂) :
    Memory.wf s₂.mem = true := by
  refine row_wf _ _ _ _ (fun u v ev hu => ?_) h e
  subst ev
  simp -implicitDefEqProofs -proj only [↓flashOrder_wf, hu]

theorem execFlashErase_wf (dt ag slot addr : Nat) (s s₂ : State) (h : Memory.wf s.mem = true) (e : execFlashErase dt ag slot addr s = .next s₂) :
    Memory.wf s₂.mem = true := by
  refine row_wf _ _ _ _ (fun u v ev hu => ?_) h e
  subst ev
  simp -implicitDefEqProofs -proj only [↓flashOrder_wf, hu]

theorem execFlashOpComplete_wf (dt : Nat) (err : Bool) (s s₂ : State) (h : Memory.wf s.mem = true) (e : execFlashOpComplete dt err s = .next s₂) :
    Memory.wf s₂.mem = true := by
  refine rowIf_wf _ _ _ _ _ (fun u v ev hu => ?_) h e
  subst ev
  simp -implicitDefEqProofs -proj only [↓flashDone_mem, hu]

theorem execFlashBufWrite_wf (dt ag i : Nat) (v : Word48) (s s₂ : State) (h : Memory.wf s.mem = true) (e : execFlashBufWrite dt ag i v s = .next s₂) :
    Memory.wf s₂.mem = true := by
  refine row_wf _ _ _ _ (fun u v ev hu => ?_) h e
  subst ev
  simp -implicitDefEqProofs -proj only [↓busWrite_wf, hu]

theorem execCycleBoundary_wf (dt : Nat) (s s₂ : State) (h : Memory.wf s.mem = true) (e : execCycleBoundary dt s = .next s₂) :
    Memory.wf s₂.mem = true := by
  refine rowIf_wf _ _ _ _ _ (fun u v ev hu => ?_) h e
  subst ev
  simp -implicitDefEqProofs -proj only [↓cycleBoundary_wf, hu]

theorem execSyncOutPulseEnd_wf (dt : Nat) (s s₂ : State) (h : Memory.wf s.mem = true) (e : execSyncOutPulseEnd dt s = .next s₂) :
    Memory.wf s₂.mem = true := by
  refine rowIf_wf _ _ _ _ _ (fun u v ev hu => ?_) h e
  subst ev
  simp -implicitDefEqProofs -proj only [↓syncOutFall_mem, hu]

theorem execOutputInstant_wf (dt : Nat) (s s₂ : State) (h : Memory.wf s.mem = true) (e : execOutputInstant dt s = .next s₂) :
    Memory.wf s₂.mem = true := by
  refine rowIf_wf _ _ _ _ _ (fun u v ev hu => ?_) h e
  subst ev
  simp -implicitDefEqProofs -proj only [↓outputInstant_wf, hu]

theorem execCommandFrameReceived_wf (dt : Nat) (s s₂ : State) (h : Memory.wf s.mem = true) (e : execCommandFrameReceived dt s = .next s₂) :
    Memory.wf s₂.mem = true := by
  refine row_wf _ _ _ _ (fun u v ev hu => ?_) h e
  subst ev
  simp -implicitDefEqProofs -proj only [↓cmdReceived_wf, hu]

theorem execCascadePass_wf (dt : Nat) (s s₂ : State) (h : Memory.wf s.mem = true) (e : execCascadePass dt s = .next s₂) :
    Memory.wf s₂.mem = true := by
  refine rowIf_wf _ _ _ _ _ (fun u v ev hu => ?_) h e
  subst ev
  simp -implicitDefEqProofs -proj only [↓cascadePass_wf, hu]

theorem execCascadePassEnd_wf (dt : Nat) (s s₂ : State) (h : Memory.wf s.mem = true) (e : execCascadePassEnd dt s = .next s₂) :
    Memory.wf s₂.mem = true := by
  refine rowIf_wf _ _ _ _ _ (fun u v ev hu => ?_) h e
  subst ev
  simp -implicitDefEqProofs -proj only [↓makeDigests_mem, ↓passEnd_mem, hu]

theorem execEncoderEdge_wf (dt c : Nat) (a b : Bool) (s s₂ : State) (h : Memory.wf s.mem = true) (e : execEncoderEdge dt c a b s = .next s₂) :
    Memory.wf s₂.mem = true := by
  refine row_wf _ _ _ _ (fun u v ev hu => ?_) h e
  subst ev
  simp -implicitDefEqProofs -proj only [↓encoderEdge_mem, hu]

theorem execHallCodeChange_wf (dt c code : Nat) (s s₂ : State) (h : Memory.wf s.mem = true) (e : execHallCodeChange dt c code s = .next s₂) :
    Memory.wf s₂.mem = true := by
  refine row_wf _ _ _ _ (fun u v ev hu => ?_) h e
  subst ev
  simp -implicitDefEqProofs -proj only [↓hallChange_mem, hu]

theorem execIndexEvent_wf (dt c : Nat) (s s₂ : State) (h : Memory.wf s.mem = true) (e : execIndexEvent dt c s = .next s₂) :
    Memory.wf s₂.mem = true := by
  refine rowIf_wf _ _ _ _ _ (fun u v ev hu => ?_) h e
  subst ev
  simp -implicitDefEqProofs -proj only [↓homeIndex_mem, ↓indexEvent_mem, hu]

theorem execSerialFrameStart_wf (dt c : Nat) (datLow : Bool) (s s₂ : State) (h : Memory.wf s.mem = true) (e : execSerialFrameStart dt c datLow s = .next s₂) :
    Memory.wf s₂.mem = true := by
  refine rowIf_wf _ _ _ _ _ (fun u v ev hu => ?_) h e
  subst ev
  simp -implicitDefEqProofs -proj only [↓serialStart_mem, hu]

theorem execSerialFrameComplete_wf (dt c d : Nat) (s s₂ : State) (h : Memory.wf s.mem = true) (e : execSerialFrameComplete dt c d s = .next s₂) :
    Memory.wf s₂.mem = true := by
  refine row_wf _ _ _ _ (fun u v ev hu => ?_) h e
  subst ev
  simp -implicitDefEqProofs -proj only [↓serialComplete_mem, hu]

theorem execSerialTimeout_wf (dt c : Nat) (s s₂ : State) (h : Memory.wf s.mem = true) (e : execSerialTimeout dt c s = .next s₂) :
    Memory.wf s₂.mem = true := by
  refine row_wf _ _ _ _ (fun u v ev hu => ?_) h e
  subst ev
  simp -implicitDefEqProofs -proj only [↓serialTimeout_mem, hu]

theorem execStandstillTimeout_wf (dt c : Nat) (s s₂ : State) (h : Memory.wf s.mem = true) (e : execStandstillTimeout dt c s = .next s₂) :
    Memory.wf s₂.mem = true := by
  refine row_wf _ _ _ _ (fun u v ev hu => ?_) h e
  subst ev
  simp -implicitDefEqProofs -proj only [↓standstillTimeout_mem, hu]

theorem execChkClr_wf (dt ag n : Nat) (s s₂ : State) (h : Memory.wf s.mem = true) (e : execChkClr dt ag n s = .next s₂) :
    Memory.wf s₂.mem = true := by
  refine row_wf _ _ _ _ (fun u v ev hu => ?_) h e
  subst ev
  simp -implicitDefEqProofs -proj only [↓order_wf, hu]

theorem execLatchArm_wf (dt ag c l : Nat) (s s₂ : State) (h : Memory.wf s.mem = true) (e : execLatchArm dt ag c l s = .next s₂) :
    Memory.wf s₂.mem = true := by
  refine row_wf _ _ _ _ (fun u v ev hu => ?_) h e
  subst ev
  simp -implicitDefEqProofs -proj only [↓order_wf, hu]

theorem execLatchDisarm_wf (dt ag c l : Nat) (s s₂ : State) (h : Memory.wf s.mem = true) (e : execLatchDisarm dt ag c l s = .next s₂) :
    Memory.wf s₂.mem = true := by
  refine row_wf _ _ _ _ (fun u v ev hu => ?_) h e
  subst ev
  simp -implicitDefEqProofs -proj only [↓order_wf, hu]

theorem execLatchCapture_wf (dt c l src : Nat) (rising : Bool) (s s₂ : State) (h : Memory.wf s.mem = true) (e : execLatchCapture dt c l src rising s = .next s₂) :
    Memory.wf s₂.mem = true := by
  refine rowIf_wf _ _ _ _ _ (fun u v ev hu => ?_) h e
  subst ev
  simp -implicitDefEqProofs -proj only [↓homeLatched_mem, ↓latchCapture_mem, hu]

theorem execEncErrClr_wf (dt ag c : Nat) (s s₂ : State) (h : Memory.wf s.mem = true) (e : execEncErrClr dt ag c s = .next s₂) :
    Memory.wf s₂.mem = true := by
  refine row_wf _ _ _ _ (fun u v ev hu => ?_) h e
  subst ev
  simp -implicitDefEqProofs -proj only [↓order_wf, hu]

theorem execFrameStart_wf (dt p : Nat) (s s₂ : State) (h : Memory.wf s.mem = true) (e : execFrameStart dt p s = .next s₂) :
    Memory.wf s₂.mem = true := by
  refine row_wf _ _ _ _ (fun u v ev hu => ?_) h e
  subst ev
  simp -implicitDefEqProofs -proj only [↓frameStart_mem, hu]

theorem execFrameHeader_wf (dt p : Nat) (hdr : BitVec 64) (good : Bool) (s s₂ : State) (h : Memory.wf s.mem = true) (e : execFrameHeader dt p hdr good s = .next s₂) :
    Memory.wf s₂.mem = true := by
  refine rowIf_wf _ _ _ _ _ (fun u v ev hu => ?_) h e
  subst ev
  simp -implicitDefEqProofs -proj only [↓frameHeader_mem, hu]

theorem execFrameCheck_wf (dt p : Nat) (rest : List Byte) (fcs ending : Nat) (s s₂ : State) (h : Memory.wf s.mem = true) (e : execFrameCheck dt p rest fcs ending s = .next s₂) :
    Memory.wf s₂.mem = true := by
  refine rowIf_wf _ _ _ _ _ (fun u v ev hu => ?_) h e
  subst ev
  simp -implicitDefEqProofs -proj only [↓frameChecked_wf, hu]

theorem execGuardianWindowClose_wf (dt p kind k : Nat) (s s₂ : State) (h : Memory.wf s.mem = true) (e : execGuardianWindowClose dt p kind k s = .next s₂) :
    Memory.wf s₂.mem = true := by
  refine rowIf_wf _ _ _ _ _ (fun u v ev hu => ?_) h e
  subst ev
  simp -implicitDefEqProofs -proj only [↓windowClose_wf, hu]

theorem execGuardianWindowOpen_wf (dt p : Nat) (s s₂ : State) (h : Memory.wf s.mem = true) (e : execGuardianWindowOpen dt p s = .next s₂) :
    Memory.wf s₂.mem = true := by
  refine rowIf_wf _ _ _ _ _ (fun u v ev hu => ?_) h e
  subst ev
  simp -implicitDefEqProofs -proj only [↓rxLook_mem, hu]

theorem execIdleReceived_wf (dt p : Nat) (s s₂ : State) (h : Memory.wf s.mem = true) (e : execIdleReceived dt p s = .next s₂) :
    Memory.wf s₂.mem = true := by
  refine rowIf_wf _ _ _ _ _ (fun u v ev hu => ?_) h e
  subst ev
  simp -implicitDefEqProofs -proj only [↓rxLook_mem, hu]

theorem execForwardCopyStart_wf (dt e : Nat) (s s₂ : State) (h : Memory.wf s.mem = true) (e : execForwardCopyStart dt e s = .next s₂) :
    Memory.wf s₂.mem = true := by
  refine rowIf_wf _ _ _ _ _ (fun u v ev hu => ?_) h e
  subst ev
  simp -implicitDefEqProofs -proj only [↓fwdStart_mem, hu]

theorem execRepeatStart_wf (dt p : Nat) (sync : Bool) (res : Nat) (d : List Byte) (len : Nat) (s s₂ : State) (h : Memory.wf s.mem = true) (e : execRepeatStart dt p sync res d len s = .next s₂) :
    Memory.wf s₂.mem = true := by
  refine rowIf_wf _ _ _ _ _ (fun u v ev hu => ?_) h e
  subst ev
  simp -implicitDefEqProofs -proj only [↓repeatStart_mem, hu]

theorem execRepeatCut_wf (dt o : Nat) (s s₂ : State) (h : Memory.wf s.mem = true) (e : execRepeatCut dt o s = .next s₂) :
    Memory.wf s₂.mem = true := by
  refine rowIf_wf _ _ _ _ _ (fun u v ev hu => ?_) h e
  subst ev
  simp -implicitDefEqProofs -proj only [↓repeatCut_mem, hu]

theorem execFeedbackFrameSend_wf (dt : Nat) (s s₂ : State) (h : Memory.wf s.mem = true) (e : execFeedbackFrameSend dt s = .next s₂) :
    Memory.wf s₂.mem = true := by
  refine rowIf_wf _ _ _ _ _ (fun u v ev hu => ?_) h e
  subst ev
  simp -implicitDefEqProofs -proj only [↓fbSend_mem, hu]

theorem execOwnFrameEnd_wf (dt p : Nat) (s s₂ : State) (h : Memory.wf s.mem = true) (e : execOwnFrameEnd dt p s = .next s₂) :
    Memory.wf s₂.mem = true := by
  refine rowIf_wf _ _ _ _ _ (fun u v ev hu => ?_) h e
  subst ev
  simp -implicitDefEqProofs -proj only [↓ownEnd_mem, hu]

theorem execRangeRequestSend_wf (dt : Nat) (b : Bool) (s s₂ : State) (h : Memory.wf s.mem = true) (e : execRangeRequestSend dt b s = .next s₂) :
    Memory.wf s₂.mem = true := by
  refine rowIf_wf _ _ _ _ _ (fun u v ev hu => ?_) h e
  subst ev
  simp -implicitDefEqProofs -proj only [↓rangeReqSend_mem, hu]

theorem execRangeRequestAdmit_wf (dt p : Nat) (s s₂ : State) (h : Memory.wf s.mem = true) (e : execRangeRequestAdmit dt p s = .next s₂) :
    Memory.wf s₂.mem = true := by
  refine row_wf _ _ _ _ (fun u v ev hu => ?_) h e
  subst ev
  simp -implicitDefEqProofs -proj only [↓rangeAdmit_mem, hu]

theorem execRangeResponseSend_wf (dt p : Nat) (s s₂ : State) (h : Memory.wf s.mem = true) (e : execRangeResponseSend dt p s = .next s₂) :
    Memory.wf s₂.mem = true := by
  refine rowIf_wf _ _ _ _ _ (fun u v ev hu => ?_) h e
  subst ev
  simp -implicitDefEqProofs -proj only [↓rangeSend_mem, hu]

theorem execRangeResponseReceived_wf (dt sub : Nat) (s s₂ : State) (h : Memory.wf s.mem = true) (e : execRangeResponseReceived dt sub s = .next s₂) :
    Memory.wf s₂.mem = true := by
  refine row_wf _ _ _ _ (fun u v ev hu => ?_) h e
  subst ev
  simp -implicitDefEqProofs -proj only [↓followerJoins_mem, ↓rangeResponse_mem, hu]

theorem execRangingTimeout_wf (dt : Nat) (b : Bool) (s s₂ : State) (h : Memory.wf s.mem = true) (e : execRangingTimeout dt b s = .next s₂) :
    Memory.wf s₂.mem = true := by
  refine rowIf_wf _ _ _ _ _ (fun u v ev hu => ?_) h e
  subst ev
  simp -implicitDefEqProofs -proj only [↓rangeFail_mem, hu]

theorem execCommandLoss_wf (dt : Nat) (s s₂ : State) (h : Memory.wf s.mem = true) (e : execCommandLoss dt s = .next s₂) :
    Memory.wf s₂.mem = true := by
  refine rowIf_wf _ _ _ _ _ (fun u v ev hu => ?_) h e
  subst ev
  simp -implicitDefEqProofs -proj only [↓toListen_mem, hu]

theorem execFlowPost_wf (dt ag f : Nat) (v : Word48) (s s₂ : State) (h : Memory.wf s.mem = true) (e : execFlowPost dt ag f v s = .next s₂) :
    Memory.wf s₂.mem = true := by
  refine row_wf _ _ _ _ (fun u v ev hu => ?_) h e
  subst ev
  simp -implicitDefEqProofs -proj only [↓busWrite_wf, hu]

theorem execDynamicFrameSend_wf (dt f : Nat) (s s₂ : State) (h : Memory.wf s.mem = true) (e : execDynamicFrameSend dt f s = .next s₂) :
    Memory.wf s₂.mem = true := by
  refine row_wf _ _ _ _ (fun u v ev hu => ?_) h e
  subst ev
  simp -implicitDefEqProofs -proj only [↓dynFrameSend_mem, hu]

theorem execUplinkFrameSend_wf (dt : Nat) (s s₂ : State) (h : Memory.wf s.mem = true) (e : execUplinkFrameSend dt s = .next s₂) :
    Memory.wf s₂.mem = true := by
  refine rowIf_wf _ _ _ _ _ (fun u v ev hu => ?_) h e
  subst ev
  simp -implicitDefEqProofs -proj only [↓upSend_mem, hu]

theorem execDynamicFrameStore_wf (dt : Nat) (s s₂ : State) (h : Memory.wf s.mem = true) (e : execDynamicFrameStore dt s = .next s₂) :
    Memory.wf s₂.mem = true := by
  refine row_wf _ _ _ _ (fun u v ev hu => ?_) h e
  subst ev
  simp -implicitDefEqProofs -proj only [↓dynStore_wf, hu]

theorem execServiceRequest_wf (dt : Nat) (s s₂ : State) (h : Memory.wf s.mem = true) (e : execServiceRequest dt s = .next s₂) :
    Memory.wf s₂.mem = true := by
  refine row_wf _ _ _ _ (fun u v ev hu => ?_) h e
  subst ev
  simp -implicitDefEqProofs -proj only [↓svcArrive_mem, hu]

theorem execServiceResponse_wf (dt : Nat) (s s₂ : State) (h : Memory.wf s.mem = true) (e : execServiceResponse dt s = .next s₂) :
    Memory.wf s₂.mem = true := by
  refine row_wf _ _ _ _ (fun u v ev hu => ?_) h e
  subst ev
  exact svcPerform_wf _ _ (fun u b c hu => slotFor_wf 14 u b c hu) hu

theorem execSyncReceived_wf (dt p : Nat) (d : List Byte) (good : Bool) (sub : Nat) (s s₂ : State) (h : Memory.wf s.mem = true) (e : execSyncReceived dt p d good sub s = .next s₂) :
    Memory.wf s₂.mem = true := by
  refine row_wf _ _ _ _ (fun u v ev hu => ?_) h e
  subst ev
  simp -implicitDefEqProofs -proj only [↓followerJoins_mem, ↓syncReceived_mem, hu]

theorem execSyncMissing_wf (dt : Nat) (b : Bool) (s s₂ : State) (h : Memory.wf s.mem = true) (e : execSyncMissing dt b s = .next s₂) :
    Memory.wf s₂.mem = true := by
  refine rowIf_wf _ _ _ _ _ (fun u v ev hu => ?_) h e
  subst ev
  simp -implicitDefEqProofs -proj only [↓syncMissing_mem, hu]

theorem execNetCntClr_wf (dt ag : Nat) (s s₂ : State) (h : Memory.wf s.mem = true) (e : execNetCntClr dt ag s = .next s₂) :
    Memory.wf s₂.mem = true := by
  refine row_wf _ _ _ _ (fun u v ev hu => ?_) h e
  subst ev
  simp -implicitDefEqProofs -proj only [↓order_wf, hu]

theorem execFeedbackRecordComplete_wf (dt p : Nat) (data : BitVec 128) (s s₂ : State) (h : Memory.wf s.mem = true) (e : execFeedbackRecordComplete dt p data s = .next s₂) :
    Memory.wf s₂.mem = true := by
  refine rowIf_wf _ _ _ _ _ (fun u v ev hu => ?_) h e
  subst ev
  simp -implicitDefEqProofs -proj only [↓recordComplete_wf, hu]

theorem execScheduledTaskRelease_wf (dt n : Nat) (s s₂ : State) (h : Memory.wf s.mem = true) (e : execScheduledTaskRelease dt n s = .next s₂) :
    Memory.wf s₂.mem = true := by
  refine row_wf _ _ _ _ (fun u v ev hu => ?_) h e
  subst ev
  simp -implicitDefEqProofs -proj only [↓scheduledRelease_wf, hu]

theorem execJetGrant_wf (dt : Nat) (s s₂ : State) (h : Memory.wf s.mem = true) (e : execJetGrant dt s = .next s₂) :
    Memory.wf s₂.mem = true := by
  refine row_wf _ _ _ _ (fun u v ev hu => ?_) h e
  subst ev
  simp -implicitDefEqProofs -proj only [↓jetGrant_mem, hu]

theorem execJetTaskEnd_wf (dt j : Nat) (ecc : Bool) (s s₂ : State) (h : Memory.wf s.mem = true) (e : execJetTaskEnd dt j ecc s = .next s₂) :
    Memory.wf s₂.mem = true := by
  refine rowIf_wf _ _ _ _ _ (fun u v ev hu => ?_) h e
  subst ev
  simp -implicitDefEqProofs -proj only [↓jetTaskEnd_wf, hu]

theorem execJetTimeRefusal_wf (dt n : Nat) (s s₂ : State) (h : Memory.wf s.mem = true) (e : execJetTimeRefusal dt n s = .next s₂) :
    Memory.wf s₂.mem = true := by
  refine row_wf _ _ _ _ (fun u v ev hu => ?_) h e
  subst ev
  simp -implicitDefEqProofs -proj only [↓jetTimeRefusal_mem, hu]

theorem execCommandFrameLaunch_wf (dt k : Nat) (s s₂ : State) (h : Memory.wf s.mem = true) (e : execCommandFrameLaunch dt k s = .next s₂) :
    Memory.wf s₂.mem = true := by
  refine rowIf_wf _ _ _ _ _ (fun u v ev hu => ?_) h e
  subst ev
  simp -implicitDefEqProofs -proj only [↓cmdLaunch_mem, hu]

theorem execDelayedCommandLaunch_wf (dt k : Nat) (s s₂ : State) (h : Memory.wf s.mem = true) (e : execDelayedCommandLaunch dt k s = .next s₂) :
    Memory.wf s₂.mem = true := by
  refine rowIf_wf _ _ _ _ _ (fun u v ev hu => ?_) h e
  subst ev
  simp -implicitDefEqProofs -proj only [↓cmdDelayed_mem, hu]

theorem execJetCheckFailure_wf (dt j chk : Nat) (s s₂ : State) (h : Memory.wf s.mem = true) (e : execJetCheckFailure dt j chk s = .next s₂) :
    Memory.wf s₂.mem = true := by
  refine row_wf _ _ _ _ (fun u v ev hu => ?_) h e
  subst ev
  simp -implicitDefEqProofs -proj only [↓checkFailure_mem, hu]

theorem execJetSelfTestEnd_wf (dt j : Nat) (pass : Bool) (s s₂ : State) (h : Memory.wf s.mem = true) (e : execJetSelfTestEnd dt j pass s = .next s₂) :
    Memory.wf s₂.mem = true := by
  refine rowIf_wf _ _ _ _ _ (fun u v ev hu => ?_) h e
  subst ev
  simp -implicitDefEqProofs -proj only [↓testEnd_mem, hu]

theorem execJetSwap_wf (dt ag : Nat) (s s₂ : State) (h : Memory.wf s.mem = true) (e : execJetSwap dt ag s = .next s₂) :
    Memory.wf s₂.mem = true := by
  refine row_wf _ _ _ _ (fun u v ev hu => ?_) h e
  subst ev
  simp -implicitDefEqProofs -proj only [↓order_wf, hu]

theorem execJetRotation_wf (dt : Nat) (s s₂ : State) (h : Memory.wf s.mem = true) (e : execJetRotation dt s = .next s₂) :
    Memory.wf s₂.mem = true := by
  refine rowIf_wf _ _ _ _ _ (fun u v ev hu => ?_) h e
  subst ev
  simp -implicitDefEqProofs -proj only [↓jetRotate_mem, hu]

theorem execJetCntClr_wf (dt ag : Nat) (s s₂ : State) (h : Memory.wf s.mem = true) (e : execJetCntClr dt ag s = .next s₂) :
    Memory.wf s₂.mem = true := by
  refine row_wf _ _ _ _ (fun u v ev hu => ?_) h e
  subst ev
  simp -implicitDefEqProofs -proj only [↓order_wf, hu]

theorem execSignalDetected_wf (dt p : Nat) (s s₂ : State) (h : Memory.wf s.mem = true) (e : execSignalDetected dt p s = .next s₂) :
    Memory.wf s₂.mem = true := by
  refine row_wf _ _ _ _ (fun u v ev hu => ?_) h e
  subst ev
  simp -implicitDefEqProofs -proj only [↓signalDetected_mem, hu]

theorem execLinkAcquired_wf (dt p eq : Nat) (s s₂ : State) (h : Memory.wf s.mem = true) (e : execLinkAcquired dt p eq s = .next s₂) :
    Memory.wf s₂.mem = true := by
  refine rowIf_wf _ _ _ _ _ (fun u v ev hu => ?_) h e
  subst ev
  simp -implicitDefEqProofs -proj only [↓linkAcquired_mem, hu]

theorem execAcquireTimeout_wf (dt p : Nat) (s s₂ : State) (h : Memory.wf s.mem = true) (e : execAcquireTimeout dt p s = .next s₂) :
    Memory.wf s₂.mem = true := by
  refine rowIf_wf _ _ _ _ _ (fun u v ev hu => ?_) h e
  subst ev
  simp -implicitDefEqProofs -proj only [↓toDetect_mem, hu]

theorem execLinkUp_wf (dt p eq : Nat) (s s₂ : State) (h : Memory.wf s.mem = true) (e : execLinkUp dt p eq s = .next s₂) :
    Memory.wf s₂.mem = true := by
  refine rowIf_wf _ _ _ _ _ (fun u v ev hu => ?_) h e
  subst ev
  simp -implicitDefEqProofs -proj only [↓linkUp_mem, hu]

theorem execAdaptTimeout_wf (dt p : Nat) (s s₂ : State) (h : Memory.wf s.mem = true) (e : execAdaptTimeout dt p s = .next s₂) :
    Memory.wf s₂.mem = true := by
  refine rowIf_wf _ _ _ _ _ (fun u v ev hu => ?_) h e
  subst ev
  simp -implicitDefEqProofs -proj only [↓adaptTimeout_mem, hu]

theorem execSignalLost_wf (dt p : Nat) (s s₂ : State) (h : Memory.wf s.mem = true) (e : execSignalLost dt p s = .next s₂) :
    Memory.wf s₂.mem = true := by
  refine row_wf _ _ _ _ (fun u v ev hu => ?_) h e
  subst ev
  simp -implicitDefEqProofs -proj only [↓signalLost_mem, hu]

theorem execCodeErrorLimit_wf (dt p : Nat) (s s₂ : State) (h : Memory.wf s.mem = true) (e : execCodeErrorLimit dt p s = .next s₂) :
    Memory.wf s₂.mem = true := by
  refine rowIf_wf _ _ _ _ _ (fun u v ev hu => ?_) h e
  subst ev
  simp -implicitDefEqProofs -proj only [↓toDetect_mem, hu]

theorem execRetrain_wf (dt ag p : Nat) (s s₂ : State) (h : Memory.wf s.mem = true) (e : execRetrain dt ag p s = .next s₂) :
    Memory.wf s₂.mem = true := by
  refine row_wf _ _ _ _ (fun u v ev hu => ?_) h e
  subst ev
  simp -implicitDefEqProofs -proj only [↓order_wf, hu]

theorem execPortTest_wf (dt ag p mode : Nat) (s s₂ : State) (h : Memory.wf s.mem = true) (e : execPortTest dt ag p mode s = .next s₂) :
    Memory.wf s₂.mem = true := by
  refine row_wf _ _ _ _ (fun u v ev hu => ?_) h e
  subst ev
  simp -implicitDefEqProofs -proj only [↓order_wf, hu]

theorem execPortTestExit_wf (dt ag p : Nat) (s s₂ : State) (h : Memory.wf s.mem = true) (e : execPortTestExit dt ag p s = .next s₂) :
    Memory.wf s₂.mem = true := by
  refine row_wf _ _ _ _ (fun u v ev hu => ?_) h e
  subst ev
  simp -implicitDefEqProofs -proj only [↓order_wf, hu]

theorem execInvalidCodeGroup_wf (dt p kind : Nat) (s s₂ : State) (h : Memory.wf s.mem = true) (e : execInvalidCodeGroup dt p kind s = .next s₂) :
    Memory.wf s₂.mem = true := by
  refine row_wf _ _ _ _ (fun u v ev hu => ?_) h e
  subst ev
  simp -implicitDefEqProofs -proj only [↓codeError_mem, hu]

theorem execPortCntClr_wf (dt ag p : Nat) (s s₂ : State) (h : Memory.wf s.mem = true) (e : execPortCntClr dt ag p s = .next s₂) :
    Memory.wf s₂.mem = true := by
  refine row_wf _ _ _ _ (fun u v ev hu => ?_) h e
  subst ev
  simp -implicitDefEqProofs -proj only [↓order_wf, hu]

theorem execMirageSample_wf (dt c pins : Nat) (s s₂ : State) (h : Memory.wf s.mem = true) (e : execMirageSample dt c pins s = .next s₂) :
    Memory.wf s₂.mem = true := by
  refine row_wf _ _ _ _ (fun u v ev hu => ?_) h e
  subst ev
  simp -implicitDefEqProofs -proj only [↓mirSampled_wf, hu]

theorem execAbsRecord_wf (dt c : Nat) (s s₂ : State) (h : Memory.wf s.mem = true) (e : execAbsRecord dt c s = .next s₂) :
    Memory.wf s₂.mem = true := by
  refine row_wf _ _ _ _ (fun u v ev hu => ?_) h e
  subst ev
  rw [when_mem _ _ _ (fun w => mirAbs_mem w _), mirSettle_mem]
  exact hu

theorem execRingStage_wf (dt ag c len : Nat) (s s₂ : State) (h : Memory.wf s.mem = true) (e : execRingStage dt ag c len s = .next s₂) :
    Memory.wf s₂.mem = true := by
  refine row_wf _ _ _ _ (fun u v ev hu => ?_) h e
  subst ev
  simp -implicitDefEqProofs -proj only [↓busWrite_wf, hu]

theorem execMirageArm_wf (dt ag c : Nat) (s s₂ : State) (h : Memory.wf s.mem = true) (e : execMirageArm dt ag c s = .next s₂) :
    Memory.wf s₂.mem = true := by
  refine row_wf _ _ _ _ (fun u v ev hu => ?_) h e
  subst ev
  simp -implicitDefEqProofs -proj only [↓order_wf, hu]

theorem execMirageDisarm_wf (dt ag c : Nat) (s s₂ : State) (h : Memory.wf s.mem = true) (e : execMirageDisarm dt ag c s = .next s₂) :
    Memory.wf s₂.mem = true := by
  refine row_wf _ _ _ _ (fun u v ev hu => ?_) h e
  subst ev
  simp -implicitDefEqProofs -proj only [↓order_wf, hu]

theorem execForceTrig_wf (dt ag c : Nat) (s s₂ : State) (h : Memory.wf s.mem = true) (e : execForceTrig dt ag c s = .next s₂) :
    Memory.wf s₂.mem = true := by
  refine row_wf _ _ _ _ (fun u v ev hu => ?_) h e
  subst ev
  simp -implicitDefEqProofs -proj only [↓order_wf, hu]

theorem execRearmHoldEnd_wf (dt c : Nat) (s s₂ : State) (h : Memory.wf s.mem = true) (e : execRearmHoldEnd dt c s = .next s₂) :
    Memory.wf s₂.mem = true := by
  refine row_wf _ _ _ _ (fun u v ev hu => ?_) h e
  subst ev
  simp -implicitDefEqProofs -proj only [↓mirHoldEnd_mem, ↓mirSettle_mem, hu]

theorem execPreEntry_wf (dt c : Nat) (s s₂ : State) (h : Memory.wf s.mem = true) (e : execPreEntry dt c s = .next s₂) :
    Memory.wf s₂.mem = true := by
  refine row_wf _ _ _ _ (fun u v ev hu => ?_) h e
  subst ev
  simp -implicitDefEqProofs -proj only [↓when_mem, ↓when_wf, ↓mirSettle_mem, ↓mirToPre_mem, implies_true, hu]

theorem execTriggerAct_wf (dt c : Nat) (rise : Bool) (s s₂ : State) (h : Memory.wf s.mem = true) (e : execTriggerAct dt c rise s = .next s₂) :
    Memory.wf s₂.mem = true := by
  refine row_wf _ _ _ _ (fun u v ev hu => ?_) h e
  subst ev
  simp -implicitDefEqProofs -proj only [↓when_mem, ↓when_wf, ↓mirSettle_mem, ↓mirEdgeAct_mem, implies_true, hu]

theorem execPostTimeout_wf (dt c : Nat) (s s₂ : State) (h : Memory.wf s.mem = true) (e : execPostTimeout dt c s = .next s₂) :
    Memory.wf s₂.mem = true := by
  refine row_wf _ _ _ _ (fun u v ev hu => ?_) h e
  subst ev
  simp -implicitDefEqProofs -proj only [↓when_mem, ↓when_wf, ↓mirSettle_mem, ↓mirEnd_mem, implies_true, hu]

theorem execXtlRelease_wf (dt c : Nat) (s s₂ : State) (h : Memory.wf s.mem = true) (e : execXtlRelease dt c s = .next s₂) :
    Memory.wf s₂.mem = true := by
  refine rowIf_wf _ _ _ _ _ (fun u v ev hu => ?_) h e
  subst ev
  simp -implicitDefEqProofs -proj only [↓xtlRelease_mem, hu]

theorem execStreamUpload_wf (dt c : Nat) (s s₂ : State) (h : Memory.wf s.mem = true) (e : execStreamUpload dt c s = .next s₂) :
    Memory.wf s₂.mem = true := by
  refine row_wf _ _ _ _ (fun u v ev hu => ?_) h e
  subst ev
  simp -implicitDefEqProofs -proj only [↓when_mem, ↓when_wf, ↓mirSettle_mem, ↓mirStream_mem, implies_true, hu]

theorem execUploadComplete_wf (dt c : Nat) (s s₂ : State) (h : Memory.wf s.mem = true) (e : execUploadComplete dt c s = .next s₂) :
    Memory.wf s₂.mem = true := by
  refine row_wf _ _ _ _ (fun u v ev hu => ?_) h e
  subst ev
  simp -implicitDefEqProofs -proj only [↓mirUploaded_mem, hu]

theorem execMirageCntClr_wf (dt ag c : Nat) (s s₂ : State) (h : Memory.wf s.mem = true) (e : execMirageCntClr dt ag c s = .next s₂) :
    Memory.wf s₂.mem = true := by
  refine row_wf _ _ _ _ (fun u v ev hu => ?_) h e
  subst ev
  simp -implicitDefEqProofs -proj only [↓order_wf, hu]

theorem execMaskCfgWrite_wf (dt ag m : Nat) (v : Word48) (s s₂ : State) (h : Memory.wf s.mem = true) (e : execMaskCfgWrite dt ag m v s = .next s₂) :
    Memory.wf s₂.mem = true := by
  refine row_wf _ _ _ _ (fun u v ev hu => ?_) h e
  subst ev
  simp -implicitDefEqProofs -proj only [↓busWrite_wf, hu]

theorem execMovePush_wf (dt ag n : Nat) (s s₂ : State) (h : Memory.wf s.mem = true) (e : execMovePush dt ag n s = .next s₂) :
    Memory.wf s₂.mem = true := by
  refine row_wf _ _ _ _ (fun u v ev hu => ?_) h e
  subst ev
  simp -implicitDefEqProofs -proj only [↓order_wf, hu]

theorem execMoveFlush_wf (dt ag n : Nat) (s s₂ : State) (h : Memory.wf s.mem = true) (e : execMoveFlush dt ag n s = .next s₂) :
    Memory.wf s₂.mem = true := by
  refine row_wf _ _ _ _ (fun u v ev hu => ?_) h e
  subst ev
  simp -implicitDefEqProofs -proj only [↓order_wf, hu]

theorem execChangeApply_wf (dt ag n : Nat) (s s₂ : State) (h : Memory.wf s.mem = true) (e : execChangeApply dt ag n s = .next s₂) :
    Memory.wf s₂.mem = true := by
  refine row_wf _ _ _ _ (fun u v ev hu => ?_) h e
  subst ev
  simp -implicitDefEqProofs -proj only [↓order_wf, hu]

theorem execEngage_wf (dt ag n : Nat) (s s₂ : State) (h : Memory.wf s.mem = true) (e : execEngage dt ag n s = .next s₂) :
    Memory.wf s₂.mem = true := by
  refine row_wf _ _ _ _ (fun u v ev hu => ?_) h e
  subst ev
  simp -implicitDefEqProofs -proj only [↓order_wf, hu]

theorem execDisengage_wf (dt ag n : Nat) (s s₂ : State) (h : Memory.wf s.mem = true) (e : execDisengage dt ag n s = .next s₂) :
    Memory.wf s₂.mem = true := by
  refine row_wf _ _ _ _ (fun u v ev hu => ?_) h e
  subst ev
  simp -implicitDefEqProofs -proj only [↓order_wf, hu]

theorem execCamSwitch_wf (dt ag n : Nat) (s s₂ : State) (h : Memory.wf s.mem = true) (e : execCamSwitch dt ag n s = .next s₂) :
    Memory.wf s₂.mem = true := by
  refine row_wf _ _ _ _ (fun u v ev hu => ?_) h e
  subst ev
  simp -implicitDefEqProofs -proj only [↓order_wf, hu]

theorem execFollowCancel_wf (dt ag n : Nat) (s s₂ : State) (h : Memory.wf s.mem = true) (e : execFollowCancel dt ag n s = .next s₂) :
    Memory.wf s₂.mem = true := by
  refine row_wf _ _ _ _ (fun u v ev hu => ?_) h e
  subst ev
  simp -implicitDefEqProofs -proj only [↓order_wf, hu]

theorem execGroupGo_wf (dt ag g : Nat) (s s₂ : State) (h : Memory.wf s.mem = true) (e : execGroupGo dt ag g s = .next s₂) :
    Memory.wf s₂.mem = true := by
  refine row_wf _ _ _ _ (fun u v ev hu => ?_) h e
  subst ev
  simp -implicitDefEqProofs -proj only [↓busWrite_wf, hu]

theorem execCamDescriptorWrite_wf (dt ag t : Nat) (v : Word48) (s s₂ : State) (h : Memory.wf s.mem = true) (e : execCamDescriptorWrite dt ag t v s = .next s₂) :
    Memory.wf s₂.mem = true := by
  refine row_wf _ _ _ _ (fun u v ev hu => ?_) h e
  subst ev
  simp -implicitDefEqProofs -proj only [↓busWrite_wf, hu]

theorem execCamCheckComplete_wf (dt t : Nat) (s s₂ : State) (h : Memory.wf s.mem = true) (e : execCamCheckComplete dt t s = .next s₂) :
    Memory.wf s₂.mem = true := by
  refine rowIf_wf _ _ _ _ _ (fun u v ev hu => ?_) h e
  subst ev
  simp -implicitDefEqProofs -proj only [↓camChecked_mem, hu]

theorem execCamStoreWrite_wf (dt ag addr : Nat) (v : BitVec 64) (s s₂ : State) (h : Memory.wf s.mem = true) (e : execCamStoreWrite dt ag addr v s = .next s₂) :
    Memory.wf s₂.mem = true := by
  refine row_wf _ _ _ _ (fun u v ev hu => ?_) h e
  subst ev
  simp -implicitDefEqProofs -proj only [↓slot_wf, hu]

theorem execLineMasterPush_wf (dt ag l : Nat) (s s₂ : State) (h : Memory.wf s.mem = true) (e : execLineMasterPush dt ag l s = .next s₂) :
    Memory.wf s₂.mem = true := by
  refine row_wf _ _ _ _ (fun u v ev hu => ?_) h e
  subst ev
  simp -implicitDefEqProofs -proj only [↓order_wf, hu]

theorem execLineMasterReanchor_wf (dt ag l : Nat) (s s₂ : State) (h : Memory.wf s.mem = true) (e : execLineMasterReanchor dt ag l s = .next s₂) :
    Memory.wf s₂.mem = true := by
  refine row_wf _ _ _ _ (fun u v ev hu => ?_) h e
  subst ev
  simp -implicitDefEqProofs -proj only [↓order_wf, hu]

theorem execLineMasterClear_wf (dt ag l : Nat) (s s₂ : State) (h : Memory.wf s.mem = true) (e : execLineMasterClear dt ag l s = .next s₂) :
    Memory.wf s₂.mem = true := by
  refine row_wf _ _ _ _ (fun u v ev hu => ?_) h e
  subst ev
  simp -implicitDefEqProofs -proj only [↓order_wf, hu]

theorem execLineMasterPredict_wf (dt ag l : Nat) (v : Word48) (s s₂ : State) (h : Memory.wf s.mem = true) (e : execLineMasterPredict dt ag l v s = .next s₂) :
    Memory.wf s₂.mem = true := by
  refine row_wf _ _ _ _ (fun u v ev hu => ?_) h e
  subst ev
  simp -implicitDefEqProofs -proj only [↓busWrite_wf, hu]

theorem execPredictionDone_wf (dt l : Nat) (s s₂ : State) (h : Memory.wf s.mem = true) (e : execPredictionDone dt l s = .next s₂) :
    Memory.wf s₂.mem = true := by
  refine rowIf_wf _ _ _ _ _ (fun u v ev hu => ?_) h e
  subst ev
  simp -implicitDefEqProofs -proj only [↓lmPredicted_mem, hu]

theorem execSafetyTick_wf (dt si rb edm srst : Nat) (mis : Bool) (s s₂ : State) (h : Memory.wf s.mem = true) (e : execSafetyTick dt si rb edm srst mis s = .next s₂) :
    Memory.wf s₂.mem = true := by
  refine rowIf_wf _ _ _ _ _ (fun u v ev hu => ?_) h e
  subst ev
  simp -implicitDefEqProofs -proj only [↓safetyTick_mem, hu]

theorem execDiscrepancyFault_wf (dt i : Nat) (s s₂ : State) (h : Memory.wf s.mem = true) (e : execDiscrepancyFault dt i s = .next s₂) :
    Memory.wf s₂.mem = true := by
  refine rowIf_wf _ _ _ _ _ (fun u v ev hu => ?_) h e
  subst ev
  simp -implicitDefEqProofs -proj only [↓discFault_mem, hu]

theorem execSs1Timeout_wf (dt z : Nat) (s s₂ : State) (h : Memory.wf s.mem = true) (e : execSs1Timeout dt z s = .next s₂) :
    Memory.wf s₂.mem = true := by
  refine rowIf_wf _ _ _ _ _ (fun u v ev hu => ?_) h e
  subst ev
  simp -implicitDefEqProofs -proj only [↓ss1End_mem, hu]

theorem execTestPulse_wf (dt o : Nat) (high pass : Bool) (s s₂ : State) (h : Memory.wf s.mem = true) (e : execTestPulse dt o high pass s = .next s₂) :
    Memory.wf s₂.mem = true := by
  refine rowIf_wf _ _ _ _ _ (fun u v ev hu => ?_) h e
  subst ev
  simp -implicitDefEqProofs -proj only [↓testPulse_mem, hu]

theorem execEdmTimeout_wf (dt o : Nat) (s s₂ : State) (h : Memory.wf s.mem = true) (e : execEdmTimeout dt o s = .next s₂) :
    Memory.wf s₂.mem = true := by
  refine rowIf_wf _ _ _ _ _ (fun u v ev hu => ?_) h e
  subst ev
  simp -implicitDefEqProofs -proj only [↓edmFault_mem, hu]

theorem execSlsDelayEnd_wf (dt z : Nat) (s s₂ : State) (h : Memory.wf s.mem = true) (e : execSlsDelayEnd dt z s = .next s₂) :
    Memory.wf s₂.mem = true := by
  refine rowIf_wf _ _ _ _ _ (fun u v ev hu => ?_) h e
  subst ev
  simp -implicitDefEqProofs -proj only [↓slsStart_mem, hu]

theorem execSlsWindowEnd_wf (dt c : Nat) (s s₂ : State) (h : Memory.wf s.mem = true) (e : execSlsWindowEnd dt c s = .next s₂) :
    Memory.wf s₂.mem = true := by
  refine rowIf_wf _ _ _ _ _ (fun u v ev hu => ?_) h e
  subst ev
  simp -implicitDefEqProofs -proj only [↓slsWindow_mem, hu]

theorem execSrstEdge_wf (dt : Nat) (s s₂ : State) (h : Memory.wf s.mem = true) (e : execSrstEdge dt s = .next s₂) :
    Memory.wf s₂.mem = true := by
  refine rowIf_wf _ _ _ _ _ (fun u v ev hu => ?_) h e
  subst ev
  simp -implicitDefEqProofs -proj only [↓srstEdge_mem, hu]

theorem execSrstStuck_wf (dt : Nat) (s s₂ : State) (h : Memory.wf s.mem = true) (e : execSrstStuck dt s = .next s₂) :
    Memory.wf s₂.mem = true := by
  refine rowIf_wf _ _ _ _ _ (fun u v ev hu => ?_) h e
  subst ev
  simp -implicitDefEqProofs -proj only [↓srstStuck_mem, hu]

theorem execOasisRailFault_wf (dt : Nat) (out : Bool) (s s₂ : State) (h : Memory.wf s.mem = true) (e : execOasisRailFault dt out s = .next s₂) :
    Memory.wf s₂.mem = true := by
  refine row_wf _ _ _ _ (fun u v ev hu => ?_) h e
  subst ev
  simp -implicitDefEqProofs -proj only [↓oasRail_mem, hu]

theorem execContainerReceived_wf (dt : Nat) (s s₂ : State) (h : Memory.wf s.mem = true) (e : execContainerReceived dt s = .next s₂) :
    Memory.wf s₂.mem = true := by
  refine row_wf _ _ _ _ (fun u v ev hu => ?_) h e
  subst ev
  simp -implicitDefEqProofs -proj only [↓contReceived_mem, hu]

theorem execConnectionWatchdog_wf (dt c : Nat) (s s₂ : State) (h : Memory.wf s.mem = true) (e : execConnectionWatchdog dt c s = .next s₂) :
    Memory.wf s₂.mem = true := by
  refine rowIf_wf _ _ _ _ _ (fun u v ev hu => ?_) h e
  subst ev
  simp -implicitDefEqProofs -proj only [↓watchdog_mem, hu]

theorem execZoneRequest_wf (dt ag z : Nat) (v : Word48) (s s₂ : State) (h : Memory.wf s.mem = true) (e : execZoneRequest dt ag z v s = .next s₂) :
    Memory.wf s₂.mem = true := by
  refine row_wf _ _ _ _ (fun u v ev hu => ?_) h e
  subst ev
  simp -implicitDefEqProofs -proj only [↓busWrite_wf, hu]

theorem execPasswordPresent_wf (dt ag : Nat) (v : Word48) (s s₂ : State) (h : Memory.wf s.mem = true) (e : execPasswordPresent dt ag v s = .next s₂) :
    Memory.wf s₂.mem = true := by
  refine row_wf _ _ _ _ (fun u v ev hu => ?_) h e
  subst ev
  simp -implicitDefEqProofs -proj only [↓busWrite_wf, hu]

theorem execPasswordClear_wf (dt ag : Nat) (s s₂ : State) (h : Memory.wf s.mem = true) (e : execPasswordClear dt ag s = .next s₂) :
    Memory.wf s₂.mem = true := by
  refine row_wf _ _ _ _ (fun u v ev hu => ?_) h e
  subst ev
  simp -implicitDefEqProofs -proj only [↓order_wf, hu]

theorem execPasswordExpiry_wf (dt : Nat) (s s₂ : State) (h : Memory.wf s.mem = true) (e : execPasswordExpiry dt s = .next s₂) :
    Memory.wf s₂.mem = true := by
  refine rowIf_wf _ _ _ _ _ (fun u v ev hu => ?_) h e
  subst ev
  simp -implicitDefEqProofs -proj only [↓setPwdOk_mem, hu]

theorem execPresentLockEnd_wf (dt : Nat) (s s₂ : State) (h : Memory.wf s.mem = true) (e : execPresentLockEnd dt s = .next s₂) :
    Memory.wf s₂.mem = true := by
  refine rowIf_wf _ _ _ _ _ (fun u v ev hu => ?_) h e
  subst ev
  simp -implicitDefEqProofs -proj only [↓lockEnd_mem, hu]

theorem execSlsPeakClr_wf (dt ag c : Nat) (s s₂ : State) (h : Memory.wf s.mem = true) (e : execSlsPeakClr dt ag c s = .next s₂) :
    Memory.wf s₂.mem = true := by
  refine row_wf _ _ _ _ (fun u v ev hu => ?_) h e
  subst ev
  simp -implicitDefEqProofs -proj only [↓order_wf, hu]

theorem execPcieRequest_wf (dt op addr len : Nat) (data : List Byte) (s s₂ : State) (h : Memory.wf s.mem = true) (e : execPcieRequest dt op addr len data s = .next s₂) :
    Memory.wf s₂.mem = true := by
  refine rowIf_wf _ _ _ _ _ (fun u v ev hu => ?_) h e
  subst ev
  simp -implicitDefEqProofs -proj only [↓pcieRequest_wf, hu]

theorem execPcieLinkReset_wf (dt kind : Nat) (s s₂ : State) (h : Memory.wf s.mem = true) (e : execPcieLinkReset dt kind s = .next s₂) :
    Memory.wf s₂.mem = true := by
  refine rowIf_wf _ _ _ _ _ (fun u v ev hu => ?_) h e
  subst ev
  simp -implicitDefEqProofs -proj only [↓pcieReset_mem, hu]

theorem execPerst_wf (dt : Nat) (level : Bool) (s s₂ : State) (h : Memory.wf s.mem = true) (e : execPerst dt level s = .next s₂) :
    Memory.wf s₂.mem = true := by
  refine row_wf _ _ _ _ (fun u v ev hu => ?_) h e
  subst ev
  simp -implicitDefEqProofs -proj only [↓perstPin_mem, hu]

theorem execPerstRelease_wf (dt : Nat) (s s₂ : State) (h : Memory.wf s.mem = true) (e : execPerstRelease dt s = .next s₂) :
    Memory.wf s₂.mem = true := by
  refine rowIf_wf _ _ _ _ _ (fun u v ev hu => ?_) h e
  subst ev
  simp -implicitDefEqProofs -proj only [↓perstEnd_mem, hu]

theorem execPcieLinkUp_wf (dt speed width : Nat) (s s₂ : State) (h : Memory.wf s.mem = true) (e : execPcieLinkUp dt speed width s = .next s₂) :
    Memory.wf s₂.mem = true := by
  refine rowIf_wf _ _ _ _ _ (fun u v ev hu => ?_) h e
  subst ev
  simp -implicitDefEqProofs -proj only [↓pcieUp_mem, hu]

theorem execDmaPost_wf (dt ag c : Nat) (v : Word48) (s s₂ : State) (h : Memory.wf s.mem = true) (e : execDmaPost dt ag c v s = .next s₂) :
    Memory.wf s₂.mem = true := by
  refine row_wf _ _ _ _ (fun u v ev hu => ?_) h e
  subst ev
  simp -implicitDefEqProofs -proj only [↓busWrite_wf, hu]

theorem execDmaEnable_wf (dt ag c : Nat) (v : Word48) (s s₂ : State) (h : Memory.wf s.mem = true) (e : execDmaEnable dt ag c v s = .next s₂) :
    Memory.wf s₂.mem = true := by
  refine row_wf _ _ _ _ (fun u v ev hu => ?_) h e
  subst ev
  simp -implicitDefEqProofs -proj only [↓busWrite_wf, hu]

theorem execDmaTransferStart_wf (dt c : Nat) (own : Bool) (s s₂ : State) (h : Memory.wf s.mem = true) (e : execDmaTransferStart dt c own s = .next s₂) :
    Memory.wf s₂.mem = true := by
  refine rowIf_wf _ _ _ _ _ (fun u v ev hu => ?_) h e
  subst ev
  simp -implicitDefEqProofs -proj only [↓dmaStart_mem, hu]

theorem execDmaBufferReturn_wf (dt c addr len : Nat) (irq own : Bool) (s s₂ : State) (h : Memory.wf s.mem = true) (e : execDmaBufferReturn dt c addr len irq own s = .next s₂) :
    Memory.wf s₂.mem = true := by
  refine rowIf_wf _ _ _ _ _ (fun u v ev hu => ?_) h e
  subst ev
  simp -implicitDefEqProofs -proj only [↓dmaReturn_mem, hu]

theorem execBufferLent_wf (dt c : Nat) (s s₂ : State) (h : Memory.wf s.mem = true) (e : execBufferLent dt c s = .next s₂) :
    Memory.wf s₂.mem = true := by
  refine rowIf_wf _ _ _ _ _ (fun u v ev hu => ?_) h e
  subst ev
  simp -implicitDefEqProofs -proj only [↓setDmaH_mem, hu]

theorem execSpiRead_wf (dt count addr : Nat) (s s₂ : State) (h : Memory.wf s.mem = true) (e : execSpiRead dt count addr s = .next s₂) :
    Memory.wf s₂.mem = true := by
  refine row_wf _ _ _ _ (fun u v ev hu => ?_) h e
  subst ev
  simp -implicitDefEqProofs -proj only [↓spiRead_wf, hu]

theorem execSpiQread_wf (dt count addr : Nat) (s s₂ : State) (h : Memory.wf s.mem = true) (e : execSpiQread dt count addr s = .next s₂) :
    Memory.wf s₂.mem = true := by
  refine row_wf _ _ _ _ (fun u v ev hu => ?_) h e
  subst ev
  simp -implicitDefEqProofs -proj only [↓spiRead_wf, hu]

theorem execSpiWrite_wf (dt addr : Nat) (data : List Nat) (s s₂ : State) (h : Memory.wf s.mem = true) (e : execSpiWrite dt addr data s = .next s₂) :
    Memory.wf s₂.mem = true := by
  refine row_wf _ _ _ _ (fun u v ev hu => ?_) h e
  subst ev
  simp -implicitDefEqProofs -proj only [↓spiWrite_wf, hu]

theorem execSpiQwrite_wf (dt addr : Nat) (data : List Nat) (s s₂ : State) (h : Memory.wf s.mem = true) (e : execSpiQwrite dt addr data s = .next s₂) :
    Memory.wf s₂.mem = true := by
  refine row_wf _ _ _ _ (fun u v ev hu => ?_) h e
  subst ev
  simp -implicitDefEqProofs -proj only [↓spiWrite_wf, hu]

theorem execSpiUnknownCommand_wf (dt : Nat) (s s₂ : State) (h : Memory.wf s.mem = true) (e : execSpiUnknownCommand dt s = .next s₂) :
    Memory.wf s₂.mem = true := by
  refine row_wf _ _ _ _ (fun u v ev hu => ?_) h e
  subst ev
  simp -implicitDefEqProofs -proj only [↓spiCount_mem, hu]

theorem execSpiCsAbort_wf (dt : Nat) (write : Bool) (count addr : Nat) (data : List Nat) (s s₂ : State) (h : Memory.wf s.mem = true) (e : execSpiCsAbort dt write count addr data s = .next s₂) :
    Memory.wf s₂.mem = true := by
  refine row_wf _ _ _ _ (fun u v ev hu => ?_) h e
  subst ev
  simp -implicitDefEqProofs -proj only [↓spiAbort_wf, hu]

theorem execSpiVlogClr_wf (dt ag : Nat) (s s₂ : State) (h : Memory.wf s.mem = true) (e : execSpiVlogClr dt ag s = .next s₂) :
    Memory.wf s₂.mem = true := by
  refine row_wf _ _ _ _ (fun u v ev hu => ?_) h e
  subst ev
  simp -implicitDefEqProofs -proj only [↓order_wf, hu]

theorem execEthFrameReceived_wf (dt p ago : Nat) (data : List Byte) (s s₂ : State) (h : Memory.wf s.mem = true) (e : execEthFrameReceived dt p ago data s = .next s₂) :
    Memory.wf s₂.mem = true := by
  refine rowIf_wf _ _ _ _ _ (fun u v ev hu => ?_) h e
  subst ev
  simp -implicitDefEqProofs -proj only [↓ethReceived_wf, hu]

theorem execEthTxPost_wf (dt ag p : Nat) (v : Word48) (s s₂ : State) (h : Memory.wf s.mem = true) (e : execEthTxPost dt ag p v s = .next s₂) :
    Memory.wf s₂.mem = true := by
  refine row_wf _ _ _ _ (fun u v ev hu => ?_) h e
  subst ev
  simp -implicitDefEqProofs -proj only [↓busWrite_wf, hu]

theorem execEthFrameSent_wf (dt p ago : Nat) (s s₂ : State) (h : Memory.wf s.mem = true) (e : execEthFrameSent dt p ago s = .next s₂) :
    Memory.wf s₂.mem = true := by
  refine rowIf_wf _ _ _ _ _ (fun u v ev hu => ?_) h e
  subst ev
  simp -implicitDefEqProofs -proj only [↓ethSent_mem, hu]

theorem execEthLinkChange_wf (dt p : Nat) (up : Bool) (s s₂ : State) (h : Memory.wf s.mem = true) (e : execEthLinkChange dt p up s = .next s₂) :
    Memory.wf s₂.mem = true := by
  refine row_wf _ _ _ _ (fun u v ev hu => ?_) h e
  subst ev
  simp -implicitDefEqProofs -proj only [↓ethLink_mem, hu]

theorem execEthCntClr_wf (dt ag p : Nat) (s s₂ : State) (h : Memory.wf s.mem = true) (e : execEthCntClr dt ag p s = .next s₂) :
    Memory.wf s₂.mem = true := by
  refine row_wf _ _ _ _ (fun u v ev hu => ?_) h e
  subst ev
  simp -implicitDefEqProofs -proj only [↓order_wf, hu]

theorem execIdcode_wf (dt : Nat) (s s₂ : State) (h : Memory.wf s.mem = true) (e : execIdcode dt s = .next s₂) :
    Memory.wf s₂.mem = true := by
  refine row_wf _ _ _ _ (fun u v ev hu => ?_) h e
  subst ev
  simp -implicitDefEqProofs -proj only [↓tapTake_mem, hu]

theorem execSamplePreload_wf (dt pattern : Nat) (s s₂ : State) (h : Memory.wf s.mem = true) (e : execSamplePreload dt pattern s = .next s₂) :
    Memory.wf s₂.mem = true := by
  refine row_wf _ _ _ _ (fun u v ev hu => ?_) h e
  subst ev
  simp -implicitDefEqProofs -proj only [↓tapPreload_mem, hu]

theorem execExtest_wf (dt : Nat) (s s₂ : State) (h : Memory.wf s.mem = true) (e : execExtest dt s = .next s₂) :
    Memory.wf s₂.mem = true := by
  refine row_wf _ _ _ _ (fun u v ev hu => ?_) h e
  subst ev
  simp -implicitDefEqProofs -proj only [↓tapPins_mem, hu]

theorem execExtestPulse_wf (dt : Nat) (s s₂ : State) (h : Memory.wf s.mem = true) (e : execExtestPulse dt s = .next s₂) :
    Memory.wf s₂.mem = true := by
  refine row_wf _ _ _ _ (fun u v ev hu => ?_) h e
  subst ev
  simp -implicitDefEqProofs -proj only [↓tapPins_mem, hu]

theorem execExtestTrain_wf (dt : Nat) (s s₂ : State) (h : Memory.wf s.mem = true) (e : execExtestTrain dt s = .next s₂) :
    Memory.wf s₂.mem = true := by
  refine row_wf _ _ _ _ (fun u v ev hu => ?_) h e
  subst ev
  simp -implicitDefEqProofs -proj only [↓tapPins_mem, hu]

theorem execClamp_wf (dt : Nat) (s s₂ : State) (h : Memory.wf s.mem = true) (e : execClamp dt s = .next s₂) :
    Memory.wf s₂.mem = true := by
  refine row_wf _ _ _ _ (fun u v ev hu => ?_) h e
  subst ev
  simp -implicitDefEqProofs -proj only [↓tapPins_mem, hu]

theorem execHighz_wf (dt : Nat) (s s₂ : State) (h : Memory.wf s.mem = true) (e : execHighz dt s = .next s₂) :
    Memory.wf s₂.mem = true := by
  refine row_wf _ _ _ _ (fun u v ev hu => ?_) h e
  subst ev
  simp -implicitDefEqProofs -proj only [↓tapPins_mem, hu]

theorem execDbgAccess_wf (dt : Nat) (s s₂ : State) (h : Memory.wf s.mem = true) (e : execDbgAccess dt s = .next s₂) :
    Memory.wf s₂.mem = true := by
  refine row_wf _ _ _ _ (fun u v ev hu => ?_) h e
  subst ev
  simp -implicitDefEqProofs -proj only [↓tapTake_mem, hu]

theorem execDebugSlotAccess_wf (dt op addr : Nat) (v : Word48) (s s₂ : State) (h : Memory.wf s.mem = true) (e : execDebugSlotAccess dt op addr v s = .next s₂) :
    Memory.wf s₂.mem = true := by
  refine rowIf_wf _ _ _ _ _ (fun u v ev hu => ?_) h e
  subst ev
  simp -implicitDefEqProofs -proj only [↓debugAccess_wf, hu]

theorem execFuseProg_wf (dt hash back : Nat) (s s₂ : State) (h : Memory.wf s.mem = true) (e : execFuseProg dt hash back s = .next s₂) :
    Memory.wf s₂.mem = true := by
  refine row_wf _ _ _ _ (fun u v ev hu => ?_) h e
  subst ev
  simp -implicitDefEqProofs -proj only [↓fuseProg_mem, hu]

theorem execBypass_wf (dt : Nat) (s s₂ : State) (h : Memory.wf s.mem = true) (e : execBypass dt s = .next s₂) :
    Memory.wf s₂.mem = true := by
  refine row_wf _ _ _ _ (fun u v ev hu => ?_) h e
  subst ev
  simp -implicitDefEqProofs -proj only [↓tapTake_mem, hu]

theorem execTapReset_wf (dt : Nat) (s s₂ : State) (h : Memory.wf s.mem = true) (e : execTapReset dt s = .next s₂) :
    Memory.wf s₂.mem = true := by
  refine row_wf _ _ _ _ (fun u v ev hu => ?_) h e
  subst ev
  simp -implicitDefEqProofs -proj only [↓tapReset_mem, hu]

theorem execPllLock_wf (dt : Nat) (s s₂ : State) (h : Memory.wf s.mem = true) (e : execPllLock dt s = .next s₂) :
    Memory.wf s₂.mem = true := by
  refine rowIf_wf _ _ _ _ _ (fun u v ev hu => ?_) h e
  subst ev
  simp -implicitDefEqProofs -proj only [↓pllLock_mem, hu]

theorem execPllLossOfLock_wf (dt : Nat) (ref : Bool) (s s₂ : State) (h : Memory.wf s.mem = true) (e : execPllLossOfLock dt ref s = .next s₂) :
    Memory.wf s₂.mem = true := by
  refine rowIf_wf _ _ _ _ _ (fun u v ev hu => ?_) h e
  subst ev
  simp -implicitDefEqProofs -proj only [↓setFlag_mem, ↓clockFault_wf, hu]

theorem execClockWindowEnd_wf (dt count : Nat) (s s₂ : State) (h : Memory.wf s.mem = true) (e : execClockWindowEnd dt count s = .next s₂) :
    Memory.wf s₂.mem = true := by
  refine row_wf _ _ _ _ (fun u v ev hu => ?_) h e
  subst ev
  simp -implicitDefEqProofs -proj only [↓clockWindow_wf, hu]

theorem execPowerOnReset_wf (dt : Nat) (s s₂ : State) (h : Memory.wf s.mem = true) (e : execPowerOnReset dt s = .next s₂) :
    Memory.wf s₂.mem = true := by
  refine row_wf _ _ _ _ (fun u v ev hu => ?_) h e
  subst ev
  simp -implicitDefEqProofs -proj only [↓powerOn_wf, hu]

theorem execSequencerStart_wf (dt inside : Nat) (s s₂ : State) (h : Memory.wf s.mem = true) (e : execSequencerStart dt inside s = .next s₂) :
    Memory.wf s₂.mem = true := by
  refine rowIf_wf _ _ _ _ _ (fun u v ev hu => ?_) h e
  subst ev
  simp -implicitDefEqProofs -proj only [↓seqStart_mem, hu]

theorem execSequencerStep_wf (dt good : Nat) (s s₂ : State) (h : Memory.wf s.mem = true) (e : execSequencerStep dt good s = .next s₂) :
    Memory.wf s₂.mem = true := by
  refine rowIf_wf _ _ _ _ _ (fun u v ev hu => ?_) h e
  subst ev
  simp -implicitDefEqProofs -proj only [↓seqStep_mem, hu]

theorem execPgTimeout_wf (dt : Nat) (s s₂ : State) (h : Memory.wf s.mem = true) (e : execPgTimeout dt s = .next s₂) :
    Memory.wf s₂.mem = true := by
  refine rowIf_wf _ _ _ _ _ (fun u v ev hu => ?_) h e
  subst ev
  simp -implicitDefEqProofs -proj only [↓pgTimeout_wf, hu]

theorem execPowerDownStep_wf (dt : Nat) (s s₂ : State) (h : Memory.wf s.mem = true) (e : execPowerDownStep dt s = .next s₂) :
    Memory.wf s₂.mem = true := by
  refine rowIf_wf _ _ _ _ _ (fun u v ev hu => ?_) h e
  subst ev
  simp -implicitDefEqProofs -proj only [↓downStep_mem, hu]

theorem execRailMeasurement_wf (dt k mv pg : Nat) (s s₂ : State) (h : Memory.wf s.mem = true) (e : execRailMeasurement dt k mv pg s = .next s₂) :
    Memory.wf s₂.mem = true := by
  refine row_wf _ _ _ _ (fun u v ev hu => ?_) h e
  subst ev
  simp -implicitDefEqProofs -proj only [↓railMeasure_mem, hu]

theorem execRailFault_wf (dt k : Nat) (s s₂ : State) (h : Memory.wf s.mem = true) (e : execRailFault dt k s = .next s₂) :
    Memory.wf s₂.mem = true := by
  refine rowIf_wf _ _ _ _ _ (fun u v ev hu => ?_) h e
  subst ev
  simp -implicitDefEqProofs -proj only [↓railFault_wf, hu]

theorem execFaultWaitEnd_wf (dt : Nat) (s s₂ : State) (h : Memory.wf s.mem = true) (e : execFaultWaitEnd dt s = .next s₂) :
    Memory.wf s₂.mem = true := by
  refine rowIf_wf _ _ _ _ _ (fun u v ev hu => ?_) h e
  subst ev
  simp -implicitDefEqProofs -proj only [↓waitEnd_mem, hu]

theorem execPmbusPoll_wf (dt : Nat) (s s₂ : State) (h : Memory.wf s.mem = true) (e : execPmbusPoll dt s = .next s₂) :
    Memory.wf s₂.mem = true := by
  refine rowIf_wf _ _ _ _ _ (fun u v ev hu => ?_) h e
  subst ev
  simp -implicitDefEqProofs -proj only [↓poll_mem, hu]

theorem execPmbusReply_wf (dt n c data pec : Nat) (ack : Bool) (s s₂ : State) (h : Memory.wf s.mem = true) (e : execPmbusReply dt n c data pec ack s = .next s₂) :
    Memory.wf s₂.mem = true := by
  refine rowIf_wf _ _ _ _ _ (fun u v ev hu => ?_) h e
  subst ev
  simp -implicitDefEqProofs -proj only [↓pollReply_mem, hu]

theorem execPmbAlert_wf (dt : Nat) (s s₂ : State) (h : Memory.wf s.mem = true) (e : execPmbAlert dt s = .next s₂) :
    Memory.wf s₂.mem = true := by
  refine row_wf _ _ _ _ (fun u v ev hu => ?_) h e
  subst ev
  simp -implicitDefEqProofs -proj only [↓raise_mem, hu]

theorem execResetNLow_wf (dt low : Nat) (still : Bool) (s s₂ : State) (h : Memory.wf s.mem = true) (e : execResetNLow dt low still s = .next s₂) :
    Memory.wf s₂.mem = true := by
  refine row_wf _ _ _ _ (fun u v ev hu => ?_) h e
  subst ev
  simp -implicitDefEqProofs -proj only [↓resetPin_wf, hu]

theorem execResetRelease_wf (dt : Nat) (s s₂ : State) (h : Memory.wf s.mem = true) (e : execResetRelease dt s = .next s₂) :
    Memory.wf s₂.mem = true := by
  refine rowIf_wf _ _ _ _ _ (fun u v ev hu => ?_) h e
  subst ev
  simp -implicitDefEqProofs -proj only [↓release_mem, hu]

theorem execSoftwareResetRequest_wf (dt ag : Nat) (s s₂ : State) (h : Memory.wf s.mem = true) (e : execSoftwareResetRequest dt ag s = .next s₂) :
    Memory.wf s₂.mem = true := by
  refine row_wf _ _ _ _ (fun u v ev hu => ?_) h e
  subst ev
  simp -implicitDefEqProofs -proj only [↓busWrite_wf, hu]

theorem execSoftwareChipReset_wf (dt : Nat) (s s₂ : State) (h : Memory.wf s.mem = true) (e : execSoftwareChipReset dt s = .next s₂) :
    Memory.wf s₂.mem = true := by
  refine rowIf_wf _ _ _ _ _ (fun u v ev hu => ?_) h e
  subst ev
  simp -implicitDefEqProofs -proj only [↓chipReset_wf, hu]

theorem execTemperatureReading_wf (dt : Nat) (tj : Int) (s s₂ : State) (h : Memory.wf s.mem = true) (e : execTemperatureReading dt tj s = .next s₂) :
    Memory.wf s₂.mem = true := by
  refine row_wf _ _ _ _ (fun u v ev hu => ?_) h e
  subst ev
  simp -implicitDefEqProofs -proj only [↓temperature_mem, hu]

theorem execTjMaxClr_wf (dt ag : Nat) (s s₂ : State) (h : Memory.wf s.mem = true) (e : execTjMaxClr dt ag s = .next s₂) :
    Memory.wf s₂.mem = true := by
  refine row_wf _ _ _ _ (fun u v ev hu => ?_) h e
  subst ev
  simp -implicitDefEqProofs -proj only [↓order_wf, hu]

theorem execPwmPeriodBoundary_wf (dt n : Nat) (s s₂ : State) (h : Memory.wf s.mem = true) (e : execPwmPeriodBoundary dt n s = .next s₂) :
    Memory.wf s₂.mem = true := by
  refine rowIf_wf _ _ _ _ _ (fun u v ev hu => ?_) h e
  subst ev
  simp -implicitDefEqProofs -proj only [↓periodStart_mem, hu]

theorem execShadowWrite_wf (dt ag n which : Nat) (v : Word48) (s s₂ : State) (h : Memory.wf s.mem = true) (e : execShadowWrite dt ag n which v s = .next s₂) :
    Memory.wf s₂.mem = true := by
  refine row_wf _ _ _ _ (fun u v ev hu => ?_) h e
  subst ev
  simp -implicitDefEqProofs -proj only [↓busWrite_wf, hu]

theorem execChannelCommit_wf (dt ag n : Nat) (s s₂ : State) (h : Memory.wf s.mem = true) (e : execChannelCommit dt ag n s = .next s₂) :
    Memory.wf s₂.mem = true := by
  refine row_wf _ _ _ _ (fun u v ev hu => ?_) h e
  subst ev
  simp -implicitDefEqProofs -proj only [↓order_wf, hu]

theorem execGroupCommit_wf (dt ag g : Nat) (s s₂ : State) (h : Memory.wf s.mem = true) (e : execGroupCommit dt ag g s = .next s₂) :
    Memory.wf s₂.mem = true := by
  refine row_wf _ _ _ _ (fun u v ev hu => ?_) h e
  subst ev
  simp -implicitDefEqProofs -proj only [↓order_wf, hu]

theorem execCompareEdge_wf (dt n : Nat) (s s₂ : State) (h : Memory.wf s.mem = true) (e : execCompareEdge dt n s = .next s₂) :
    Memory.wf s₂.mem = true := by
  refine row_wf _ _ _ _ (fun u v ev hu => ?_) h e
  subst ev
  simp -implicitDefEqProofs -proj only [↓compareEdge_mem, hu]

theorem execShootThroughTrip_wf (dt n : Nat) (s s₂ : State) (h : Memory.wf s.mem = true) (e : execShootThroughTrip dt n s = .next s₂) :
    Memory.wf s₂.mem = true := by
  refine rowIf_wf _ _ _ _ _ (fun u v ev hu => ?_) h e
  subst ev
  simp -implicitDefEqProofs -proj only [↓trip_mem, hu]

theorem execGroupEnable_wf (dt ag g : Nat) (s s₂ : State) (h : Memory.wf s.mem = true) (e : execGroupEnable dt ag g s = .next s₂) :
    Memory.wf s₂.mem = true := by
  refine row_wf _ _ _ _ (fun u v ev hu => ?_) h e
  subst ev
  simp -implicitDefEqProofs -proj only [↓order_wf, hu]

theorem execGroupDisable_wf (dt ag g : Nat) (s s₂ : State) (h : Memory.wf s.mem = true) (e : execGroupDisable dt ag g s = .next s₂) :
    Memory.wf s₂.mem = true := by
  refine row_wf _ _ _ _ (fun u v ev hu => ?_) h e
  subst ev
  simp -implicitDefEqProofs -proj only [↓order_wf, hu]

theorem execShutdownEnd_wf (dt g : Nat) (s s₂ : State) (h : Memory.wf s.mem = true) (e : execShutdownEnd dt g s = .next s₂) :
    Memory.wf s₂.mem = true := by
  refine rowIf_wf _ _ _ _ _ (fun u v ev hu => ?_) h e
  subst ev
  simp -implicitDefEqProofs -proj only [↓sgShutdownEnd_mem, hu]

theorem execPrechargeCmd_wf (dt ag g : Nat) (s s₂ : State) (h : Memory.wf s.mem = true) (e : execPrechargeCmd dt ag g s = .next s₂) :
    Memory.wf s₂.mem = true := by
  refine row_wf _ _ _ _ (fun u v ev hu => ?_) h e
  subst ev
  simp -implicitDefEqProofs -proj only [↓order_wf, hu]

theorem execPrechargeOnEnd_wf (dt g : Nat) (s s₂ : State) (h : Memory.wf s.mem = true) (e : execPrechargeOnEnd dt g s = .next s₂) :
    Memory.wf s₂.mem = true := by
  refine rowIf_wf _ _ _ _ _ (fun u v ev hu => ?_) h e
  subst ev
  simp -implicitDefEqProofs -proj only [↓preOnEnd_mem, hu]

theorem execPrechargeComplete_wf (dt g : Nat) (s s₂ : State) (h : Memory.wf s.mem = true) (e : execPrechargeComplete dt g s = .next s₂) :
    Memory.wf s₂.mem = true := by
  refine rowIf_wf _ _ _ _ _ (fun u v ev hu => ?_) h e
  subst ev
  simp -implicitDefEqProofs -proj only [↓sgEnterRun_mem, hu]

theorem execPrechargeExpiry_wf (dt g : Nat) (s s₂ : State) (h : Memory.wf s.mem = true) (e : execPrechargeExpiry dt g s = .next s₂) :
    Memory.wf s₂.mem = true := by
  refine rowIf_wf _ _ _ _ _ (fun u v ev hu => ?_) h e
  subst ev
  simp -implicitDefEqProofs -proj only [↓unprecharge_mem, hu]

theorem execHardTrip_wf (dt k : Nat) (on : Bool) (s s₂ : State) (h : Memory.wf s.mem = true) (e : execHardTrip dt k on s = .next s₂) :
    Memory.wf s₂.mem = true := by
  refine row_wf _ _ _ _ (fun u v ev hu => ?_) h e
  subst ev
  simp -implicitDefEqProofs -proj only [↓hardChange_mem, hu]

theorem execFastQualified_wf (dt k : Nat) (on : Bool) (s s₂ : State) (h : Memory.wf s.mem = true) (e : execFastQualified dt k on s = .next s₂) :
    Memory.wf s₂.mem = true := by
  refine row_wf _ _ _ _ (fun u v ev hu => ?_) h e
  subst ev
  simp -implicitDefEqProofs -proj only [↓fastChange_mem, hu]

theorem execFastTrip_wf (dt k : Nat) (s s₂ : State) (h : Memory.wf s.mem = true) (e : execFastTrip dt k s = .next s₂) :
    Memory.wf s₂.mem = true := by
  refine rowIf_wf _ _ _ _ _ (fun u v ev hu => ?_) h e
  subst ev
  simp -implicitDefEqProofs -proj only [↓fastTrip_mem, hu]

theorem execTripSnapshotClose_wf (dt g : Nat) (s s₂ : State) (h : Memory.wf s.mem = true) (e : execTripSnapshotClose dt g s = .next s₂) :
    Memory.wf s₂.mem = true := by
  refine rowIf_wf _ _ _ _ _ (fun u v ev hu => ?_) h e
  subst ev
  simp -implicitDefEqProofs -proj only [↓snapClose_mem, hu]

theorem execTripClr_wf (dt ag g : Nat) (s s₂ : State) (h : Memory.wf s.mem = true) (e : execTripClr dt ag g s = .next s₂) :
    Memory.wf s₂.mem = true := by
  refine row_wf _ _ _ _ (fun u v ev hu => ?_) h e
  subst ev
  simp -implicitDefEqProofs -proj only [↓order_wf, hu]

theorem execSinc3Result_wf (dt i : Nat) (sum : Int) (s s₂ : State) (h : Memory.wf s.mem = true) (e : execSinc3Result dt i sum s = .next s₂) :
    Memory.wf s₂.mem = true := by
  refine rowIf_wf _ _ _ _ _ (fun u v ev hu => ?_) h e
  subst ev
  simp -implicitDefEqProofs -proj only [↓mirSdResult_mem, ↓sinc3_mem, hu]

theorem execSinc2Result_wf (dt i : Nat) (sum : Int) (s s₂ : State) (h : Memory.wf s.mem = true) (e : execSinc2Result dt i sum s = .next s₂) :
    Memory.wf s₂.mem = true := by
  refine rowIf_wf _ _ _ _ _ (fun u v ev hu => ?_) h e
  subst ev
  simp -implicitDefEqProofs -proj only [↓mirSdResult_mem, ↓sinc2_mem, hu]

theorem execSdStuck_wf (dt i : Nat) (s s₂ : State) (h : Memory.wf s.mem = true) (e : execSdStuck dt i s = .next s₂) :
    Memory.wf s₂.mem = true := by
  refine row_wf _ _ _ _ (fun u v ev hu => ?_) h e
  subst ev
  simp -implicitDefEqProofs -proj only [↓sdStuck_mem, hu]

theorem execComparatorSelfTest_wf (dt ag k : Nat) (s s₂ : State) (h : Memory.wf s.mem = true) (e : execComparatorSelfTest dt ag k s = .next s₂) :
    Memory.wf s₂.mem = true := by
  refine row_wf _ _ _ _ (fun u v ev hu => ?_) h e
  subst ev
  simp -implicitDefEqProofs -proj only [↓order_wf, hu]

theorem execComparatorSelfTestEnd_wf (dt k : Nat) (pass : Bool) (s s₂ : State) (h : Memory.wf s.mem = true) (e : execComparatorSelfTestEnd dt k pass s = .next s₂) :
    Memory.wf s₂.mem = true := by
  refine rowIf_wf _ _ _ _ _ (fun u v ev hu => ?_) h e
  subst ev
  simp -implicitDefEqProofs -proj only [↓stEnd_mem, hu]

theorem execTcCntClr_wf (dt ag n : Nat) (s s₂ : State) (h : Memory.wf s.mem = true) (e : execTcCntClr dt ag n s = .next s₂) :
    Memory.wf s₂.mem = true := by
  refine row_wf _ _ _ _ (fun u v ev hu => ?_) h e
  subst ev
  simp -implicitDefEqProofs -proj only [↓order_wf, hu]

theorem execArbitrationRequest_wf (dt u r cost : Nat) (serverFree posted : Bool) (ag addr : Nat) (s s₂ : State) (h : Memory.wf s.mem = true) (e : execArbitrationRequest dt u r cost serverFree posted ag addr s = .next s₂) :
    Memory.wf s₂.mem = true := by
  refine rowIf_wf _ _ _ _ _ (fun u v ev hu => ?_) h e
  subst ev
  simp -implicitDefEqProofs -proj only [↓busRequest_wf, hu]

theorem execArbitrationGrant_wf (dt u : Nat) (s s₂ : State) (h : Memory.wf s.mem = true) (e : execArbitrationGrant dt u s = .next s₂) :
    Memory.wf s₂.mem = true := by
  refine row_wf _ _ _ _ (fun u v ev hu => ?_) h e
  subst ev
  simp -implicitDefEqProofs -proj only [↓unitGrant_wf, hu]

theorem execAgeLimitRefusal_wf (dt u : Nat) (s s₂ : State) (h : Memory.wf s.mem = true) (e : execAgeLimitRefusal dt u s = .next s₂) :
    Memory.wf s₂.mem = true := by
  refine row_wf _ _ _ _ (fun u v ev hu => ?_) h e
  subst ev
  simp -implicitDefEqProofs -proj only [↓unitAged_wf, hu]

theorem execAdmissionCheckCmd_wf (dt ag : Nat) (v : Word48) (s s₂ : State) (h : Memory.wf s.mem = true) (e : execAdmissionCheckCmd dt ag v s = .next s₂) :
    Memory.wf s₂.mem = true := by
  refine row_wf _ _ _ _ (fun u v ev hu => ?_) h e
  subst ev
  simp -implicitDefEqProofs -proj only [↓busWrite_wf, hu]

theorem execAdmissionCheckComplete_wf (dt : Nat) (s s₂ : State) (h : Memory.wf s.mem = true) (e : execAdmissionCheckComplete dt s = .next s₂) :
    Memory.wf s₂.mem = true := by
  refine rowIf_wf _ _ _ _ _ (fun u v ev hu => ?_) h e
  subst ev
  simp -implicitDefEqProofs -proj only [↓admDone_wf, hu]

theorem execReqWaitClr_wf (dt ag u r : Nat) (s s₂ : State) (h : Memory.wf s.mem = true) (e : execReqWaitClr dt ag u r s = .next s₂) :
    Memory.wf s₂.mem = true := by
  refine row_wf _ _ _ _ (fun u v ev hu => ?_) h e
  subst ev
  simp -implicitDefEqProofs -proj only [↓order_wf, hu]

theorem execBoundMissClr_wf (dt ag u : Nat) (s s₂ : State) (h : Memory.wf s.mem = true) (e : execBoundMissClr dt ag u s = .next s₂) :
    Memory.wf s₂.mem = true := by
  refine row_wf _ _ _ _ (fun u v ev hu => ?_) h e
  subst ev
  simp -implicitDefEqProofs -proj only [↓order_wf, hu]

theorem execVlogClr_wf (dt ag : Nat) (s s₂ : State) (h : Memory.wf s.mem = true) (e : execVlogClr dt ag s = .next s₂) :
    Memory.wf s₂.mem = true := by
  refine row_wf _ _ _ _ (fun u v ev hu => ?_) h e
  subst ev
  simp -implicitDefEqProofs -proj only [↓order_wf, hu]

theorem execDispatchRead_wf (dt ag k : Nat) (s s₂ : State) (h : Memory.wf s.mem = true) (e : execDispatchRead dt ag k s = .next s₂) :
    Memory.wf s₂.mem = true := by
  refine row_wf _ _ _ _ (fun u v ev hu => ?_) h e
  subst ev
  simp -implicitDefEqProofs -proj only [↓slot_wf, hu]

theorem execDispatchGrant_wf (dt k : Nat) (s s₂ : State) (h : Memory.wf s.mem = true) (e : execDispatchGrant dt k s = .next s₂) :
    Memory.wf s₂.mem = true := by
  refine row_wf _ _ _ _ (fun u v ev hu => ?_) h e
  subst ev
  simp -implicitDefEqProofs -proj only [↓dispatchGrant_wf, hu]

theorem execDispatchDeadline_wf (dt k : Nat) (s s₂ : State) (h : Memory.wf s.mem = true) (e : execDispatchDeadline dt k s = .next s₂) :
    Memory.wf s₂.mem = true := by
  refine row_wf _ _ _ _ (fun u v ev hu => ?_) h e
  subst ev
  simp -implicitDefEqProofs -proj only [↓dispatchDeadline_mem, hu]

theorem execComplete_wf (dt ag k : Nat) (s s₂ : State) (h : Memory.wf s.mem = true) (e : execComplete dt ag k s = .next s₂) :
    Memory.wf s₂.mem = true := by
  refine row_wf _ _ _ _ (fun u v ev hu => ?_) h e
  subst ev
  simp -implicitDefEqProofs -proj only [↓order_wf, hu]

theorem execBlock_wf (dt ag k mask : Nat) (all : Bool) (s s₂ : State) (h : Memory.wf s.mem = true) (e : execBlock dt ag k mask all s = .next s₂) :
    Memory.wf s₂.mem = true := by
  refine row_wf _ _ _ _ (fun u v ev hu => ?_) h e
  subst ev
  simp -implicitDefEqProofs -proj only [↓busWrite_wf, hu]

theorem execYield_wf (dt ag k : Nat) (s s₂ : State) (h : Memory.wf s.mem = true) (e : execYield dt ag k s = .next s₂) :
    Memory.wf s₂.mem = true := by
  refine row_wf _ _ _ _ (fun u v ev hu => ?_) h e
  subst ev
  simp -implicitDefEqProofs -proj only [↓order_wf, hu]

theorem execWaitTimeout_wf (dt t : Nat) (s s₂ : State) (h : Memory.wf s.mem = true) (e : execWaitTimeout dt t s = .next s₂) :
    Memory.wf s₂.mem = true := by
  refine row_wf _ _ _ _ (fun u v ev hu => ?_) h e
  subst ev
  simp -implicitDefEqProofs -proj only [↓waitTimeout_mem, hu]

theorem execFlagSet_wf (dt ag t bits : Nat) (s s₂ : State) (h : Memory.wf s.mem = true) (e : execFlagSet dt ag t bits s = .next s₂) :
    Memory.wf s₂.mem = true := by
  refine row_wf _ _ _ _ (fun u v ev hu => ?_) h e
  subst ev
  simp -implicitDefEqProofs -proj only [↓order_wf, hu]

theorem execFlagClr_wf (dt ag t bits : Nat) (s s₂ : State) (h : Memory.wf s.mem = true) (e : execFlagClr dt ag t bits s = .next s₂) :
    Memory.wf s₂.mem = true := by
  refine row_wf _ _ _ _ (fun u v ev hu => ?_) h e
  subst ev
  simp -implicitDefEqProofs -proj only [↓order_wf, hu]

theorem execWorkPost_wf (dt ag : Nat) (v : Word48) (s s₂ : State) (h : Memory.wf s.mem = true) (e : execWorkPost dt ag v s = .next s₂) :
    Memory.wf s₂.mem = true := by
  refine row_wf _ _ _ _ (fun u v ev hu => ?_) h e
  subst ev
  simp -implicitDefEqProofs -proj only [↓busWrite_wf, hu]

theorem execCaravanStage_wf (dt ag : Nat) (v : Word48) (s s₂ : State) (h : Memory.wf s.mem = true) (e : execCaravanStage dt ag v s = .next s₂) :
    Memory.wf s₂.mem = true := by
  refine row_wf _ _ _ _ (fun u v ev hu => ?_) h e
  subst ev
  simp -implicitDefEqProofs -proj only [↓busWrite_wf, hu]

theorem execMachineTimerInterrupt_wf (dt k : Nat) (s s₂ : State) (h : Memory.wf s.mem = true) (e : execMachineTimerInterrupt dt k s = .next s₂) :
    Memory.wf s₂.mem = true := by
  refine rowIf_wf _ _ _ _ _ (fun u v ev hu => ?_) h e
  subst ev
  simp -implicitDefEqProofs -proj only [↓dispatchDeadline_mem, hu]

theorem execWatchdogExpiry_wf (dt k : Nat) (s s₂ : State) (h : Memory.wf s.mem = true) (e : execWatchdogExpiry dt k s = .next s₂) :
    Memory.wf s₂.mem = true := by
  refine rowIf_wf _ _ _ _ _ (fun u v ev hu => ?_) h e
  subst ev
  simp -implicitDefEqProofs -proj only [↓wdogExpire_wf, hu]

theorem execWatchdogKick_wf (dt ag k : Nat) (v : Word48) (s s₂ : State) (h : Memory.wf s.mem = true) (e : execWatchdogKick dt ag k v s = .next s₂) :
    Memory.wf s₂.mem = true := by
  refine row_wf _ _ _ _ (fun u v ev hu => ?_) h e
  subst ev
  simp -implicitDefEqProofs -proj only [↓busWrite_wf, hu]

theorem execMailboxWrite_wf (dt ag n : Nat) (v : Word48) (s s₂ : State) (h : Memory.wf s.mem = true) (e : execMailboxWrite dt ag n v s = .next s₂) :
    Memory.wf s₂.mem = true := by
  refine row_wf _ _ _ _ (fun u v ev hu => ?_) h e
  subst ev
  simp -implicitDefEqProofs -proj only [↓busWrite_wf, hu]

theorem execSharedMailboxWrite_wf (dt ag n : Nat) (v : Word48) (s s₂ : State) (h : Memory.wf s.mem = true) (e : execSharedMailboxWrite dt ag n v s = .next s₂) :
    Memory.wf s₂.mem = true := by
  refine row_wf _ _ _ _ (fun u v ev hu => ?_) h e
  subst ev
  simp -implicitDefEqProofs -proj only [↓busWrite_wf, hu]

theorem execMailboxRead_wf (dt ag n : Nat) (s s₂ : State) (h : Memory.wf s.mem = true) (e : execMailboxRead dt ag n s = .next s₂) :
    Memory.wf s₂.mem = true := by
  refine row_wf _ _ _ _ (fun u v ev hu => ?_) h e
  subst ev
  simp -implicitDefEqProofs -proj only [↓slot_wf, hu]

theorem execMailboxTimeout_wf (dt n : Nat) (s s₂ : State) (h : Memory.wf s.mem = true) (e : execMailboxTimeout dt n s = .next s₂) :
    Memory.wf s₂.mem = true := by
  refine row_wf _ _ _ _ (fun u v ev hu => ?_) h e
  subst ev
  simp -implicitDefEqProofs -proj only [↓boxTimeout_mem, hu]

theorem execMailboxWait_wf (dt ag n : Nat) (wait : Bool) (s s₂ : State) (h : Memory.wf s.mem = true) (e : execMailboxWait dt ag n wait s = .next s₂) :
    Memory.wf s₂.mem = true := by
  refine row_wf _ _ _ _ (fun u v ev hu => ?_) h e
  subst ev
  simp -implicitDefEqProofs -proj only [↓order_wf, hu]

theorem execCrosswaitDetection_wf (dt : Nat) (s s₂ : State) (h : Memory.wf s.mem = true) (e : execCrosswaitDetection dt s = .next s₂) :
    Memory.wf s₂.mem = true := by
  refine row_wf _ _ _ _ (fun u v ev hu => ?_) h e
  subst ev
  simp -implicitDefEqProofs -proj only [↓crossWait_mem, hu]

theorem execLockRead_wf (dt ag n : Nat) (s s₂ : State) (h : Memory.wf s.mem = true) (e : execLockRead dt ag n s = .next s₂) :
    Memory.wf s₂.mem = true := by
  refine row_wf _ _ _ _ (fun u v ev hu => ?_) h e
  subst ev
  simp -implicitDefEqProofs -proj only [↓slot_wf, hu]

theorem execLockWrite_wf (dt ag n : Nat) (v : Word48) (s s₂ : State) (h : Memory.wf s.mem = true) (e : execLockWrite dt ag n v s = .next s₂) :
    Memory.wf s₂.mem = true := by
  refine row_wf _ _ _ _ (fun u v ev hu => ?_) h e
  subst ev
  simp -implicitDefEqProofs -proj only [↓busWrite_wf, hu]

theorem execLockForce_wf (dt ag n : Nat) (v : Word48) (s s₂ : State) (h : Memory.wf s.mem = true) (e : execLockForce dt ag n v s = .next s₂) :
    Memory.wf s₂.mem = true := by
  refine row_wf _ _ _ _ (fun u v ev hu => ?_) h e
  subst ev
  simp -implicitDefEqProofs -proj only [↓busWrite_wf, hu]

theorem execDoorbellSet_wf (dt ag a bits : Nat) (s s₂ : State) (h : Memory.wf s.mem = true) (e : execDoorbellSet dt ag a bits s = .next s₂) :
    Memory.wf s₂.mem = true := by
  refine row_wf _ _ _ _ (fun u v ev hu => ?_) h e
  subst ev
  simp -implicitDefEqProofs -proj only [↓order_wf, hu]

theorem execDoorbellClear_wf (dt ag a bits : Nat) (s s₂ : State) (h : Memory.wf s.mem = true) (e : execDoorbellClear dt ag a bits s = .next s₂) :
    Memory.wf s₂.mem = true := by
  refine row_wf _ _ _ _ (fun u v ev hu => ?_) h e
  subst ev
  simp -implicitDefEqProofs -proj only [↓order_wf, hu]

theorem execSpoutPost_wf (dt ag : Nat) (s s₂ : State) (h : Memory.wf s.mem = true) (e : execSpoutPost dt ag s = .next s₂) :
    Memory.wf s₂.mem = true := by
  refine row_wf _ _ _ _ (fun u v ev hu => ?_) h e
  subst ev
  simp -implicitDefEqProofs -proj only [↓order_wf, hu]

theorem execSpoutJobStart_wf (dt : Nat) (s s₂ : State) (h : Memory.wf s.mem = true) (e : execSpoutJobStart dt s = .next s₂) :
    Memory.wf s₂.mem = true := by
  refine rowIf_wf _ _ _ _ _ (fun u v ev hu => ?_) h e
  subst ev
  simp -implicitDefEqProofs -proj only [↓sptGrant_mem, hu]

theorem execSpoutPreemption_wf (dt : Nat) (s s₂ : State) (h : Memory.wf s.mem = true) (e : execSpoutPreemption dt s = .next s₂) :
    Memory.wf s₂.mem = true := by
  refine rowIf_wf _ _ _ _ _ (fun u v ev hu => ?_) h e
  subst ev
  simp -implicitDefEqProofs -proj only [↓sptSuspend_mem, hu]

theorem execSpoutJobTimeout_wf (dt : Nat) (s s₂ : State) (h : Memory.wf s.mem = true) (e : execSpoutJobTimeout dt s = .next s₂) :
    Memory.wf s₂.mem = true := by
  refine rowIf_wf _ _ _ _ _ (fun u v ev hu => ?_) h e
  subst ev
  simp -implicitDefEqProofs -proj only [↓sptTimeout_mem, hu]

theorem execExtResponse_wf (dt t : Nat) (deny : Bool) (s s₂ : State) (h : Memory.wf s.mem = true) (e : execExtResponse dt t deny s = .next s₂) :
    Memory.wf s₂.mem = true := by
  refine row_wf _ _ _ _ (fun u v ev hu => ?_) h e
  subst ev
  simp -implicitDefEqProofs -proj only [↓sptExtAnswer_wf, hu]

theorem execSpoutCntClr_wf (dt ag : Nat) (s s₂ : State) (h : Memory.wf s.mem = true) (e : execSpoutCntClr dt ag s = .next s₂) :
    Memory.wf s₂.mem = true := by
  refine row_wf _ _ _ _ (fun u v ev hu => ?_) h e
  subst ev
  simp -implicitDefEqProofs -proj only [↓order_wf, hu]

theorem execProgramWordWrite_wf (dt ag addr : Nat) (v : BitVec 64) (s s₂ : State) (h : Memory.wf s.mem = true) (e : execProgramWordWrite dt ag addr v s = .next s₂) :
    Memory.wf s₂.mem = true := by
  refine row_wf _ _ _ _ (fun u v ev hu => ?_) h e
  subst ev
  simp -implicitDefEqProofs -proj only [↓slot_wf, hu]

theorem execNop_wf (dt : Nat) (ecc : Bool) (s s₂ : State) (h : Memory.wf s.mem = true) (e : execNop dt ecc s = .next s₂) :
    Memory.wf s₂.mem = true := by
  refine row_wf _ _ _ _ (fun u v ev hu => ?_) h e
  subst ev
  simp -implicitDefEqProofs -proj only [↓sptRunData_wf, hu]

theorem execLd_wf (dt : Nat) (ecc : Bool) (s s₂ : State) (h : Memory.wf s.mem = true) (e : execLd dt ecc s = .next s₂) :
    Memory.wf s₂.mem = true := by
  refine row_wf _ _ _ _ (fun u v ev hu => ?_) h e
  subst ev
  simp -implicitDefEqProofs -proj only [↓sptRunData_wf, hu]

theorem execSt_wf (dt : Nat) (ecc : Bool) (s s₂ : State) (h : Memory.wf s.mem = true) (e : execSt dt ecc s = .next s₂) :
    Memory.wf s₂.mem = true := by
  refine row_wf _ _ _ _ (fun u v ev hu => ?_) h e
  subst ev
  simp -implicitDefEqProofs -proj only [↓sptRunData_wf, hu]

theorem execLdi_wf (dt : Nat) (ecc : Bool) (s s₂ : State) (h : Memory.wf s.mem = true) (e : execLdi dt ecc s = .next s₂) :
    Memory.wf s₂.mem = true := by
  refine row_wf _ _ _ _ (fun u v ev hu => ?_) h e
  subst ev
  simp -implicitDefEqProofs -proj only [↓sptRunData_wf, hu]

theorem execLpi_wf (dt : Nat) (ecc : Bool) (s s₂ : State) (h : Memory.wf s.mem = true) (e : execLpi dt ecc s = .next s₂) :
    Memory.wf s₂.mem = true := by
  refine row_wf _ _ _ _ (fun u v ev hu => ?_) h e
  subst ev
  simp -implicitDefEqProofs -proj only [↓sptRunData_wf, hu]

theorem execLdc_wf (dt : Nat) (ecc : Bool) (s s₂ : State) (h : Memory.wf s.mem = true) (e : execLdc dt ecc s = .next s₂) :
    Memory.wf s₂.mem = true := by
  refine row_wf _ _ _ _ (fun u v ev hu => ?_) h e
  subst ev
  simp -implicitDefEqProofs -proj only [↓sptRunData_wf, hu]

theorem execAddp_wf (dt : Nat) (ecc : Bool) (s s₂ : State) (h : Memory.wf s.mem = true) (e : execAddp dt ecc s = .next s₂) :
    Memory.wf s₂.mem = true := by
  refine row_wf _ _ _ _ (fun u v ev hu => ?_) h e
  subst ev
  simp -implicitDefEqProofs -proj only [↓sptRunData_wf, hu]

theorem execMpy_wf (dt : Nat) (ecc : Bool) (s s₂ : State) (h : Memory.wf s.mem = true) (e : execMpy dt ecc s = .next s₂) :
    Memory.wf s₂.mem = true := by
  refine row_wf _ _ _ _ (fun u v ev hu => ?_) h e
  subst ev
  simp -implicitDefEqProofs -proj only [↓sptRunData_wf, hu]

theorem execMac_wf (dt : Nat) (ecc : Bool) (s s₂ : State) (h : Memory.wf s.mem = true) (e : execMac dt ecc s = .next s₂) :
    Memory.wf s₂.mem = true := by
  refine row_wf _ _ _ _ (fun u v ev hu => ?_) h e
  subst ev
  simp -implicitDefEqProofs -proj only [↓sptRunData_wf, hu]

theorem execMsu_wf (dt : Nat) (ecc : Bool) (s s₂ : State) (h : Memory.wf s.mem = true) (e : execMsu dt ecc s = .next s₂) :
    Memory.wf s₂.mem = true := by
  refine row_wf _ _ _ _ (fun u v ev hu => ?_) h e
  subst ev
  simp -implicitDefEqProofs -proj only [↓sptRunData_wf, hu]

theorem execMxy_wf (dt : Nat) (ecc : Bool) (s s₂ : State) (h : Memory.wf s.mem = true) (e : execMxy dt ecc s = .next s₂) :
    Memory.wf s₂.mem = true := by
  refine row_wf _ _ _ _ (fun u v ev hu => ?_) h e
  subst ev
  simp -implicitDefEqProofs -proj only [↓sptRunData_wf, hu]

theorem execMxp_wf (dt : Nat) (ecc : Bool) (s s₂ : State) (h : Memory.wf s.mem = true) (e : execMxp dt ecc s = .next s₂) :
    Memory.wf s₂.mem = true := by
  refine row_wf _ _ _ _ (fun u v ev hu => ?_) h e
  subst ev
  simp -implicitDefEqProofs -proj only [↓sptRunData_wf, hu]

theorem execClr_wf (dt : Nat) (ecc : Bool) (s s₂ : State) (h : Memory.wf s.mem = true) (e : execClr dt ecc s = .next s₂) :
    Memory.wf s₂.mem = true := by
  refine row_wf _ _ _ _ (fun u v ev hu => ?_) h e
  subst ev
  simp -implicitDefEqProofs -proj only [↓sptRunData_wf, hu]

theorem execSeta_wf (dt : Nat) (ecc : Bool) (s s₂ : State) (h : Memory.wf s.mem = true) (e : execSeta dt ecc s = .next s₂) :
    Memory.wf s₂.mem = true := by
  refine row_wf _ _ _ _ (fun u v ev hu => ?_) h e
  subst ev
  simp -implicitDefEqProofs -proj only [↓sptRunData_wf, hu]

theorem execAdda_wf (dt : Nat) (ecc : Bool) (s s₂ : State) (h : Memory.wf s.mem = true) (e : execAdda dt ecc s = .next s₂) :
    Memory.wf s₂.mem = true := by
  refine row_wf _ _ _ _ (fun u v ev hu => ?_) h e
  subst ev
  simp -implicitDefEqProofs -proj only [↓sptRunData_wf, hu]

theorem execSuba_wf (dt : Nat) (ecc : Bool) (s s₂ : State) (h : Memory.wf s.mem = true) (e : execSuba dt ecc s = .next s₂) :
    Memory.wf s₂.mem = true := by
  refine row_wf _ _ _ _ (fun u v ev hu => ?_) h e
  subst ev
  simp -implicitDefEqProofs -proj only [↓sptRunData_wf, hu]

theorem execAsh_wf (dt : Nat) (ecc : Bool) (s s₂ : State) (h : Memory.wf s.mem = true) (e : execAsh dt ecc s = .next s₂) :
    Memory.wf s₂.mem = true := by
  refine row_wf _ _ _ _ (fun u v ev hu => ?_) h e
  subst ev
  simp -implicitDefEqProofs -proj only [↓sptRunData_wf, hu]

theorem execAbsa_wf (dt : Nat) (ecc : Bool) (s s₂ : State) (h : Memory.wf s.mem = true) (e : execAbsa dt ecc s = .next s₂) :
    Memory.wf s₂.mem = true := by
  refine row_wf _ _ _ _ (fun u v ev hu => ?_) h e
  subst ev
  simp -implicitDefEqProofs -proj only [↓sptRunData_wf, hu]

theorem execRnd_wf (dt : Nat) (ecc : Bool) (s s₂ : State) (h : Memory.wf s.mem = true) (e : execRnd dt ecc s = .next s₂) :
    Memory.wf s₂.mem = true := by
  refine row_wf _ _ _ _ (fun u v ev hu => ?_) h e
  subst ev
  simp -implicitDefEqProofs -proj only [↓sptRunData_wf, hu]

theorem execRnds_wf (dt : Nat) (ecc : Bool) (s s₂ : State) (h : Memory.wf s.mem = true) (e : execRnds dt ecc s = .next s₂) :
    Memory.wf s₂.mem = true := by
  refine row_wf _ _ _ _ (fun u v ev hu => ?_) h e
  subst ev
  simp -implicitDefEqProofs -proj only [↓sptRunData_wf, hu]

theorem execPkd_wf (dt : Nat) (ecc : Bool) (s s₂ : State) (h : Memory.wf s.mem = true) (e : execPkd dt ecc s = .next s₂) :
    Memory.wf s₂.mem = true := by
  refine row_wf _ _ _ _ (fun u v ev hu => ?_) h e
  subst ev
  simp -implicitDefEqProofs -proj only [↓sptRunData_wf, hu]

theorem execBfly_wf (dt : Nat) (ecc : Bool) (s s₂ : State) (h : Memory.wf s.mem = true) (e : execBfly dt ecc s = .next s₂) :
    Memory.wf s₂.mem = true := by
  refine row_wf _ _ _ _ (fun u v ev hu => ?_) h e
  subst ev
  simp -implicitDefEqProofs -proj only [↓sptRunData_wf, hu]

theorem execBscl_wf (dt : Nat) (ecc : Bool) (s s₂ : State) (h : Memory.wf s.mem = true) (e : execBscl dt ecc s = .next s₂) :
    Memory.wf s₂.mem = true := by
  refine row_wf _ _ _ _ (fun u v ev hu => ?_) h e
  subst ev
  simp -implicitDefEqProofs -proj only [↓sptRunData_wf, hu]

theorem execBclr_wf (dt : Nat) (ecc : Bool) (s s₂ : State) (h : Memory.wf s.mem = true) (e : execBclr dt ecc s = .next s₂) :
    Memory.wf s₂.mem = true := by
  refine row_wf _ _ _ _ (fun u v ev hu => ?_) h e
  subst ev
  simp -implicitDefEqProofs -proj only [↓sptRunData_wf, hu]

theorem execRepeatNext_wf (dt : Nat) (ecc : Bool) (s s₂ : State) (h : Memory.wf s.mem = true) (e : execRepeatNext dt ecc s = .next s₂) :
    Memory.wf s₂.mem = true := by
  refine row_wf _ _ _ _ (fun u v ev hu => ?_) h e
  subst ev
  simp -implicitDefEqProofs -proj only [↓sptRunRep_wf, hu]

theorem execDoLoop_wf (dt : Nat) (ecc : Bool) (s s₂ : State) (h : Memory.wf s.mem = true) (e : execDoLoop dt ecc s = .next s₂) :
    Memory.wf s₂.mem = true := by
  refine row_wf _ _ _ _ (fun u v ev hu => ?_) h e
  subst ev
  simp -implicitDefEqProofs -proj only [↓sptRunDo_wf, hu]

theorem execBranch_wf (dt : Nat) (ecc : Bool) (s s₂ : State) (h : Memory.wf s.mem = true) (e : execBranch dt ecc s = .next s₂) :
    Memory.wf s₂.mem = true := by
  refine row_wf _ _ _ _ (fun u v ev hu => ?_) h e
  subst ev
  simp -implicitDefEqProofs -proj only [↓sptRunB_wf, hu]

theorem execHalt_wf (dt : Nat) (ecc : Bool) (s s₂ : State) (h : Memory.wf s.mem = true) (e : execHalt dt ecc s = .next s₂) :
    Memory.wf s₂.mem = true := by
  refine row_wf _ _ _ _ (fun u v ev hu => ?_) h e
  subst ev
  simp -implicitDefEqProofs -proj only [↓sptRunHalt_wf, hu]

theorem execLde_wf (dt : Nat) (ecc : Bool) (s s₂ : State) (h : Memory.wf s.mem = true) (e : execLde dt ecc s = .next s₂) :
    Memory.wf s₂.mem = true := by
  refine row_wf _ _ _ _ (fun u v ev hu => ?_) h e
  subst ev
  simp -implicitDefEqProofs -proj only [↓sptIssue_wf, hu]

theorem execSte_wf (dt : Nat) (ecc : Bool) (s s₂ : State) (h : Memory.wf s.mem = true) (e : execSte dt ecc s = .next s₂) :
    Memory.wf s₂.mem = true := by
  refine row_wf _ _ _ _ (fun u v ev hu => ?_) h e
  subst ev
  simp -implicitDefEqProofs -proj only [↓sptIssue_wf, hu]

theorem execIllegal_wf (dt : Nat) (ecc : Bool) (s s₂ : State) (h : Memory.wf s.mem = true) (e : execIllegal dt ecc s = .next s₂) :
    Memory.wf s₂.mem = true := by
  refine row_wf _ _ _ _ (fun u v ev hu => ?_) h e
  subst ev
  simp -implicitDefEqProofs -proj only [↓sptRunIllegal_wf, hu]

theorem execStopTimeout_wf (dt n : Nat) (s s₂ : State) (h : Memory.wf s.mem = true) (e : execStopTimeout dt n s = .next s₂) :
    Memory.wf s₂.mem = true := by
  refine rowIf_wf _ _ _ _ _ (fun u v ev hu => ?_) h e
  subst ev
  simp -implicitDefEqProofs -proj only [↓stopTimeout_mem, hu]

theorem execAtRestSet_wf (dt n : Nat) (s s₂ : State) (h : Memory.wf s.mem = true) (e : execAtRestSet dt n s = .next s₂) :
    Memory.wf s₂.mem = true := by
  refine rowIf_wf _ _ _ _ _ (fun u v ev hu => ?_) h e
  subst ev
  simp -implicitDefEqProofs -proj only [↓restSet_mem, hu]

theorem execCurrentReduction_wf (dt n : Nat) (s s₂ : State) (h : Memory.wf s.mem = true) (e : execCurrentReduction dt n s = .next s₂) :
    Memory.wf s₂.mem = true := by
  refine rowIf_wf _ _ _ _ _ (fun u v ev hu => ?_) h e
  subst ev
  simp -implicitDefEqProofs -proj only [↓crSet_mem, hu]

theorem execDebounceChange_wf (dt n i : Nat) (s s₂ : State) (h : Memory.wf s.mem = true) (e : execDebounceChange dt n i s = .next s₂) :
    Memory.wf s₂.mem = true := by
  refine rowIf_wf _ _ _ _ _ (fun u v ev hu => ?_) h e
  subst ev
  simp -implicitDefEqProofs -proj only [↓debounce_mem, hu]

theorem execLimitBlockRelease_wf (dt n i : Nat) (s s₂ : State) (h : Memory.wf s.mem = true) (e : execLimitBlockRelease dt n i s = .next s₂) :
    Memory.wf s₂.mem = true := by
  refine rowIf_wf _ _ _ _ _ (fun u v ev hu => ?_) h e
  subst ev
  simp -implicitDefEqProofs -proj only [↓blockEnd_mem, hu]

theorem execLimitStatClr_wf (dt ag n : Nat) (s s₂ : State) (h : Memory.wf s.mem = true) (e : execLimitStatClr dt ag n s = .next s₂) :
    Memory.wf s₂.mem = true := by
  refine row_wf _ _ _ _ (fun u v ev hu => ?_) h e
  subst ev
  simp -implicitDefEqProofs -proj only [↓order_wf, hu]

theorem execHomingStart_wf (dt ag n : Nat) (s s₂ : State) (h : Memory.wf s.mem = true) (e : execHomingStart dt ag n s = .next s₂) :
    Memory.wf s₂.mem = true := by
  refine row_wf _ _ _ _ (fun u v ev hu => ?_) h e
  subst ev
  simp -implicitDefEqProofs -proj only [↓order_wf, hu]

theorem execHomingAbort_wf (dt ag n : Nat) (s s₂ : State) (h : Memory.wf s.mem = true) (e : execHomingAbort dt ag n s = .next s₂) :
    Memory.wf s₂.mem = true := by
  refine row_wf _ _ _ _ (fun u v ev hu => ?_) h e
  subst ev
  simp -implicitDefEqProofs -proj only [↓order_wf, hu]

theorem execReferenceEdge_wf (dt n i : Nat) (level : Bool) (s s₂ : State) (h : Memory.wf s.mem = true) (e : execReferenceEdge dt n i level s = .next s₂) :
    Memory.wf s₂.mem = true := by
  refine row_wf _ _ _ _ (fun u v ev hu => ?_) h e
  subst ev
  simp -implicitDefEqProofs -proj only [↓gpioEdge_mem, hu]

theorem execCaptureWindowEnd_wf (dt n : Nat) (s s₂ : State) (h : Memory.wf s.mem = true) (e : execCaptureWindowEnd dt n s = .next s₂) :
    Memory.wf s₂.mem = true := by
  refine rowIf_wf _ _ _ _ _ (fun u v ev hu => ?_) h e
  subst ev
  simp -implicitDefEqProofs -proj only [↓winReject_mem, hu]

theorem execHardStopDwellEnd_wf (dt n : Nat) (s s₂ : State) (h : Memory.wf s.mem = true) (e : execHardStopDwellEnd dt n s = .next s₂) :
    Memory.wf s₂.mem = true := by
  refine rowIf_wf _ _ _ _ _ (fun u v ev hu => ?_) h e
  subst ev
  simp -implicitDefEqProofs -proj only [↓dwellEnd_mem, hu]

theorem execPtpPost_wf (dt ag d : Nat) (s s₂ : State) (h : Memory.wf s.mem = true) (e : execPtpPost dt ag d s = .next s₂) :
    Memory.wf s₂.mem = true := by
  refine row_wf _ _ _ _ (fun u v ev hu => ?_) h e
  subst ev
  simp -implicitDefEqProofs -proj only [↓order_wf, hu]

theorem execDomainTimeout_wf (dt d : Nat) (s s₂ : State) (h : Memory.wf s.mem = true) (e : execDomainTimeout dt d s = .next s₂) :
    Memory.wf s₂.mem = true := by
  refine rowIf_wf _ _ _ _ _ (fun u v ev hu => ?_) h e
  subst ev
  simp -implicitDefEqProofs -proj only [↓domTimeout_mem, hu]

theorem execDomainRevert_wf (dt : Nat) (s s₂ : State) (h : Memory.wf s.mem = true) (e : execDomainRevert dt s = .next s₂) :
    Memory.wf s₂.mem = true := by
  refine rowIf_wf _ _ _ _ _ (fun u v ev hu => ?_) h e
  subst ev
  simp -implicitDefEqProofs -proj only [↓domRevert_mem, hu]

theorem execHoldoverLimit_wf (dt : Nat) (s s₂ : State) (h : Memory.wf s.mem = true) (e : execHoldoverLimit dt s = .next s₂) :
    Memory.wf s₂.mem = true := by
  refine rowIf_wf _ _ _ _ _ (fun u v ev hu => ?_) h e
  subst ev
  simp -implicitDefEqProofs -proj only [↓lostSync_mem, hu]

theorem execLineTimeLocked_wf (dt : Nat) (s s₂ : State) (h : Memory.wf s.mem = true) (e : execLineTimeLocked dt s = .next s₂) :
    Memory.wf s₂.mem = true := by
  refine rowIf_wf _ _ _ _ _ (fun u v ev hu => ?_) h e
  subst ev
  simp -implicitDefEqProofs -proj only [↓setLstate_mem, hu]

theorem execTimestampRead_wf (dt ag : Nat) (s s₂ : State) (h : Memory.wf s.mem = true) (e : execTimestampRead dt ag s = .next s₂) :
    Memory.wf s₂.mem = true := by
  refine row_wf _ _ _ _ (fun u v ev hu => ?_) h e
  subst ev
  simp -implicitDefEqProofs -proj only [↓slot_wf, hu]

theorem execTsqClr_wf (dt ag : Nat) (s s₂ : State) (h : Memory.wf s.mem = true) (e : execTsqClr dt ag s = .next s₂) :
    Memory.wf s₂.mem = true := by
  refine row_wf _ _ _ _ (fun u v ev hu => ?_) h e
  subst ev
  simp -implicitDefEqProofs -proj only [↓order_wf, hu]

theorem execComparatorArm_wf (dt ag i : Nat) (s s₂ : State) (h : Memory.wf s.mem = true) (e : execComparatorArm dt ag i s = .next s₂) :
    Memory.wf s₂.mem = true := by
  refine row_wf _ _ _ _ (fun u v ev hu => ?_) h e
  subst ev
  simp -implicitDefEqProofs -proj only [↓order_wf, hu]

theorem execComparatorDisarm_wf (dt ag i : Nat) (s s₂ : State) (h : Memory.wf s.mem = true) (e : execComparatorDisarm dt ag i s = .next s₂) :
    Memory.wf s₂.mem = true := by
  refine row_wf _ _ _ _ (fun u v ev hu => ?_) h e
  subst ev
  simp -implicitDefEqProofs -proj only [↓order_wf, hu]

theorem execComparatorFire_wf (dt : Nat) (s s₂ : State) (h : Memory.wf s.mem = true) (e : execComparatorFire dt s = .next s₂) :
    Memory.wf s₂.mem = true := by
  refine row_wf _ _ _ _ (fun u v ev hu => ?_) h e
  subst ev
  simp -implicitDefEqProofs -proj only [↓ttFireAll_mem, ↓ttFireAll_wf, ↓mirFire_mem, implies_true, hu]

theorem execPulseEnd_wf (dt i : Nat) (s s₂ : State) (h : Memory.wf s.mem = true) (e : execPulseEnd dt i s = .next s₂) :
    Memory.wf s₂.mem = true := by
  refine rowIf_wf _ _ _ _ _ (fun u v ev hu => ?_) h e
  subst ev
  simp -implicitDefEqProofs -proj only [↓pulseEnd_mem, hu]

theorem execListenEnd_wf (dt : Nat) (s s₂ : State) (h : Memory.wf s.mem = true) (e : execListenEnd dt s = .next s₂) :
    Memory.wf s₂.mem = true := by
  refine rowIf_wf _ _ _ _ _ (fun u v ev hu => ?_) h e
  subst ev
  simp -implicitDefEqProofs -proj only [↓enterCold_mem, hu]

theorem execColdStartComplete_wf (dt : Nat) (s s₂ : State) (h : Memory.wf s.mem = true) (e : execColdStartComplete dt s = .next s₂) :
    Memory.wf s₂.mem = true := by
  refine rowIf_wf _ _ _ _ _ (fun u v ev hu => ?_) h e
  subst ev
  simp -implicitDefEqProofs -proj only [↓enterRun_mem, hu]

theorem execCollision_wf (dt id : Nat) (s s₂ : State) (h : Memory.wf s.mem = true) (e : execCollision dt id s = .next s₂) :
    Memory.wf s₂.mem = true := by
  refine rowIf_wf _ _ _ _ _ (fun u v ev hu => ?_) h e
  subst ev
  simp -implicitDefEqProofs -proj only [↓collide_mem, hu]

theorem execBackoffEnd_wf (dt : Nat) (s s₂ : State) (h : Memory.wf s.mem = true) (e : execBackoffEnd dt s = .next s₂) :
    Memory.wf s₂.mem = true := by
  refine rowIf_wf _ _ _ _ _ (fun u v ev hu => ?_) h e
  subst ev
  simp -implicitDefEqProofs -proj only [↓backoffEnd_mem, hu]

theorem execColdStartRetry_wf (dt ag : Nat) (s s₂ : State) (h : Memory.wf s.mem = true) (e : execColdStartRetry dt ag s = .next s₂) :
    Memory.wf s₂.mem = true := by
  refine row_wf _ _ _ _ (fun u v ev hu => ?_) h e
  subst ev
  simp -implicitDefEqProofs -proj only [↓order_wf, hu]

theorem execColdStartEcho_wf (dt : Nat) (s s₂ : State) (h : Memory.wf s.mem = true) (e : execColdStartEcho dt s = .next s₂) :
    Memory.wf s₂.mem = true := by
  refine row_wf _ _ _ _ (fun u v ev hu => ?_) h e
  subst ev
  simp -implicitDefEqProofs -proj only [↓coldEcho_mem, hu]

theorem execColdStartBlock_wf (dt id : Nat) (s s₂ : State) (h : Memory.wf s.mem = true) (e : execColdStartBlock dt id s = .next s₂) :
    Memory.wf s₂.mem = true := by
  refine rowIf_wf _ _ _ _ _ (fun u v ev hu => ?_) h e
  subst ev
  simp -implicitDefEqProofs -proj only [↓blockCold_mem, hu]

theorem execForeignHead_wf (dt id : Nat) (s s₂ : State) (h : Memory.wf s.mem = true) (e : execForeignHead dt id s = .next s₂) :
    Memory.wf s₂.mem = true := by
  refine rowIf_wf _ _ _ _ _ (fun u v ev hu => ?_) h e
  subst ev
  simp -implicitDefEqProofs -proj only [↓foreign_mem, hu]

theorem execHeadBlocked_wf (dt : Nat) (s s₂ : State) (h : Memory.wf s.mem = true) (e : execHeadBlocked dt s = .next s₂) :
    Memory.wf s₂.mem = true := by
  refine rowIf_wf _ _ _ _ _ (fun u v ev hu => ?_) h e
  subst ev
  simp -implicitDefEqProofs -proj only [↓setFlag_mem, hu]

theorem execStatusSend_wf (dt : Nat) (s s₂ : State) (h : Memory.wf s.mem = true) (e : execStatusSend dt s = .next s₂) :
    Memory.wf s₂.mem = true := by
  refine rowIf_wf _ _ _ _ _ (fun u v ev hu => ?_) h e
  subst ev
  simp -implicitDefEqProofs -proj only [↓statusSend_mem, hu]

theorem execStatusReceived_wf (dt : Nat) (s s₂ : State) (h : Memory.wf s.mem = true) (e : execStatusReceived dt s = .next s₂) :
    Memory.wf s₂.mem = true := by
  refine row_wf _ _ _ _ (fun u v ev hu => ?_) h e
  subst ev
  simp -implicitDefEqProofs -proj only [↓statusReceived_mem, hu]

theorem execDigestSend_wf (dt : Nat) (s s₂ : State) (h : Memory.wf s.mem = true) (e : execDigestSend dt s = .next s₂) :
    Memory.wf s₂.mem = true := by
  refine rowIf_wf _ _ _ _ _ (fun u v ev hu => ?_) h e
  subst ev
  simp -implicitDefEqProofs -proj only [↓digestSend_mem, hu]

theorem execDigestReceived_wf (dt : Nat) (s s₂ : State) (h : Memory.wf s.mem = true) (e : execDigestReceived dt s = .next s₂) :
    Memory.wf s₂.mem = true := by
  refine row_wf _ _ _ _ (fun u v ev hu => ?_) h e
  subst ev
  simp -implicitDefEqProofs -proj only [↓digestReceived_mem, hu]

theorem execDigestMiss_wf (dt : Nat) (s s₂ : State) (h : Memory.wf s.mem = true) (e : execDigestMiss dt s = .next s₂) :
    Memory.wf s₂.mem = true := by
  refine rowIf_wf _ _ _ _ _ (fun u v ev hu => ?_) h e
  subst ev
  simp -implicitDefEqProofs -proj only [↓digestMiss_mem, hu]

theorem execStandbyEntry_wf (dt : Nat) (s s₂ : State) (h : Memory.wf s.mem = true) (e : execStandbyEntry dt s = .next s₂) :
    Memory.wf s₂.mem = true := by
  refine rowIf_wf _ _ _ _ _ (fun u v ev hu => ?_) h e
  subst ev
  simp -implicitDefEqProofs -proj only [↓standbyEnter_mem, hu]

theorem execCopySend_wf (dt : Nat) (s s₂ : State) (h : Memory.wf s.mem = true) (e : execCopySend dt s = .next s₂) :
    Memory.wf s₂.mem = true := by
  refine rowIf_wf _ _ _ _ _ (fun u v ev hu => ?_) h e
  subst ev
  simp -implicitDefEqProofs -proj only [↓copySend_mem, hu]

theorem execCopyLoad_wf (dt : Nat) (s s₂ : State) (h : Memory.wf s.mem = true) (e : execCopyLoad dt s = .next s₂) :
    Memory.wf s₂.mem = true := by
  refine rowIf_wf _ _ _ _ _ (fun u v ev hu => ?_) h e
  subst ev
  simp -implicitDefEqProofs -proj only [↓copyLoad_wf, hu]

theorem execMirrorReceived_wf (dt : Nat) (s s₂ : State) (h : Memory.wf s.mem = true) (e : execMirrorReceived dt s = .next s₂) :
    Memory.wf s₂.mem = true := by
  refine row_wf _ _ _ _ (fun u v ev hu => ?_) h e
  subst ev
  exact mirrorReceived_wf _ _ mirrorAccess_wf hu

theorem execMirrorRetransmit_wf (dt : Nat) (s s₂ : State) (h : Memory.wf s.mem = true) (e : execMirrorRetransmit dt s = .next s₂) :
    Memory.wf s₂.mem = true := by
  refine row_wf _ _ _ _ (fun u v ev hu => ?_) h e
  subst ev
  simp -implicitDefEqProofs -proj only [↓mirrorAgain_mem, hu]

theorem execAbdication_wf (dt c : Nat) (s s₂ : State) (h : Memory.wf s.mem = true) (e : execAbdication dt c s = .next s₂) :
    Memory.wf s₂.mem = true := by
  refine rowIf_wf _ _ _ _ _ (fun u v ev hu => ?_) h e
  subst ev
  simp -implicitDefEqProofs -proj only [↓abdication_mem, hu]

theorem execHandoverArm_wf (dt ag : Nat) (s s₂ : State) (h : Memory.wf s.mem = true) (e : execHandoverArm dt ag s = .next s₂) :
    Memory.wf s₂.mem = true := by
  refine row_wf _ _ _ _ (fun u v ev hu => ?_) h e
  subst ev
  simp -implicitDefEqProofs -proj only [↓order_wf, hu]

theorem execDeafnessEvaluation_wf (dt : Nat) (s s₂ : State) (h : Memory.wf s.mem = true) (e : execDeafnessEvaluation dt s = .next s₂) :
    Memory.wf s₂.mem = true := by
  refine rowIf_wf _ _ _ _ _ (fun u v ev hu => ?_) h e
  subst ev
  simp -implicitDefEqProofs -proj only [↓deafEval_mem, hu]

theorem execHeadLinkLoss_wf (dt : Nat) (s s₂ : State) (h : Memory.wf s.mem = true) (e : execHeadLinkLoss dt s = .next s₂) :
    Memory.wf s₂.mem = true := by
  refine rowIf_wf _ _ _ _ _ (fun u v ev hu => ?_) h e
  subst ev
  simp -implicitDefEqProofs -proj only [↓imgLinkLoss_wf, ↓hlLoss_mem, hu]

theorem execResync_wf (dt ag : Nat) (s s₂ : State) (h : Memory.wf s.mem = true) (e : execResync dt ag s = .next s₂) :
    Memory.wf s₂.mem = true := by
  refine row_wf _ _ _ _ (fun u v ev hu => ?_) h e
  subst ev
  simp -implicitDefEqProofs -proj only [↓order_wf, hu]

theorem execPullSend_wf (dt p : Nat) (s s₂ : State) (h : Memory.wf s.mem = true) (e : execPullSend dt p s = .next s₂) :
    Memory.wf s₂.mem = true := by
  refine rowIf_wf _ _ _ _ _ (fun u v ev hu => ?_) h e
  subst ev
  simp -implicitDefEqProofs -proj only [↓pullSend_mem, hu]

theorem execPullReceived_wf (dt : Nat) (s s₂ : State) (h : Memory.wf s.mem = true) (e : execPullReceived dt s = .next s₂) :
    Memory.wf s₂.mem = true := by
  refine row_wf _ _ _ _ (fun u v ev hu => ?_) h e
  subst ev
  simp -implicitDefEqProofs -proj only [↓pullReceived_wf, hu]

theorem execTwinCntClr_wf (dt ag : Nat) (s s₂ : State) (h : Memory.wf s.mem = true) (e : execTwinCntClr dt ag s = .next s₂) :
    Memory.wf s₂.mem = true := by
  refine row_wf _ _ _ _ (fun u v ev hu => ?_) h e
  subst ev
  simp -implicitDefEqProofs -proj only [↓order_wf, hu]

theorem execWeirClose_wf (dt ag k owed : Nat) (s s₂ : State) (h : Memory.wf s.mem = true) (e : execWeirClose dt ag k owed s = .next s₂) :
    Memory.wf s₂.mem = true := by
  refine row_wf _ _ _ _ (fun u v ev hu => ?_) h e
  subst ev
  simp -implicitDefEqProofs -proj only [↓weirOrder_wf, hu]

theorem execWeirOpen_wf (dt ag k : Nat) (s s₂ : State) (h : Memory.wf s.mem = true) (e : execWeirOpen dt ag k s = .next s₂) :
    Memory.wf s₂.mem = true := by
  refine row_wf _ _ _ _ (fun u v ev hu => ?_) h e
  subst ev
  simp -implicitDefEqProofs -proj only [↓weirOrder_wf, hu]

theorem execWeirCycle_wf (dt ag k owed : Nat) (s s₂ : State) (h : Memory.wf s.mem = true) (e : execWeirCycle dt ag k owed s = .next s₂) :
    Memory.wf s₂.mem = true := by
  refine row_wf _ _ _ _ (fun u v ev hu => ?_) h e
  subst ev
  simp -implicitDefEqProofs -proj only [↓weirOrder_wf, hu]

theorem execWeirPowerOff_wf (dt ag k owed : Nat) (s s₂ : State) (h : Memory.wf s.mem = true) (e : execWeirPowerOff dt ag k owed s = .next s₂) :
    Memory.wf s₂.mem = true := by
  refine row_wf _ _ _ _ (fun u v ev hu => ?_) h e
  subst ev
  simp -implicitDefEqProofs -proj only [↓weirOrder_wf, hu]

theorem execWeirPowerOn_wf (dt ag k : Nat) (s s₂ : State) (h : Memory.wf s.mem = true) (e : execWeirPowerOn dt ag k s = .next s₂) :
    Memory.wf s₂.mem = true := by
  refine row_wf _ _ _ _ (fun u v ev hu => ?_) h e
  subst ev
  simp -implicitDefEqProofs -proj only [↓weirOrder_wf, hu]

theorem execWeirCntClr_wf (dt ag k : Nat) (s s₂ : State) (h : Memory.wf s.mem = true) (e : execWeirCntClr dt ag k s = .next s₂) :
    Memory.wf s₂.mem = true := by
  refine row_wf _ _ _ _ (fun u v ev hu => ?_) h e
  subst ev
  simp -implicitDefEqProofs -proj only [↓order_wf, hu]

theorem execDrainComplete_wf (dt k : Nat) (s s₂ : State) (h : Memory.wf s.mem = true) (e : execDrainComplete dt k s = .next s₂) :
    Memory.wf s₂.mem = true := by
  refine rowIf_wf _ _ _ _ _ (fun u v ev hu => ?_) h e
  subst ev
  simp -implicitDefEqProofs -proj only [↓drainEnd_wf, hu]

theorem execDrainTimeout_wf (dt k : Nat) (s s₂ : State) (h : Memory.wf s.mem = true) (e : execDrainTimeout dt k s = .next s₂) :
    Memory.wf s₂.mem = true := by
  refine rowIf_wf _ _ _ _ _ (fun u v ev hu => ?_) h e
  subst ev
  simp -implicitDefEqProofs -proj only [↓drainForced_wf, hu]

theorem execUnitPowerUpComplete_wf (dt k : Nat) (s s₂ : State) (h : Memory.wf s.mem = true) (e : execUnitPowerUpComplete dt k s = .next s₂) :
    Memory.wf s₂.mem = true := by
  refine rowIf_wf _ _ _ _ _ (fun u v ev hu => ?_) h e
  subst ev
  simp -implicitDefEqProofs -proj only [↓powerUpEnd_wf, hu]

theorem execUnitResetComplete_wf (dt k : Nat) (pass : Bool) (s s₂ : State) (h : Memory.wf s.mem = true) (e : execUnitResetComplete dt k pass s = .next s₂) :
    Memory.wf s₂.mem = true := by
  refine rowIf_wf _ _ _ _ _ (fun u v ev hu => ?_) h e
  subst ev
  simp -implicitDefEqProofs -proj only [↓resetEnd_wf, hu]

theorem execLateReplyDiscard_wf (dt k age : Nat) (s s₂ : State) (h : Memory.wf s.mem = true) (e : execLateReplyDiscard dt k age s = .next s₂) :
    Memory.wf s₂.mem = true := by
  refine rowIf_wf _ _ _ _ _ (fun u v ev hu => ?_) h e
  subst ev
  simp -implicitDefEqProofs -proj only [↓replyDiscard_mem, hu]

end Sys2Proof.Machine
end

