-- ==== Sys2Proof/Laws/Frames.lean ====
section
/-! SUPPORT. Frames of the memories: which effects leave every byte as it was. -/
set_option linter.unusedSimpArgs false
namespace Sys2Proof.Machine

/-- A command changes no memory if its effect changes none. -/
theorem row_same (s : State) (dt : Nat) (f : State → State) (s₂ : State)
    (hf : ∀ u v, f u = v → v.mem = u.mem) (e : s.row dt f = .next s₂) : s₂.mem = s.mem := by
  unfold State.row at e
  obtain rfl := Host.Outcome.next.inj e
  have e2 : (f (s.elapse dt)).mem = (s.elapse dt).mem := hf (s.elapse dt) _ rfl
  exact e2

/-- A reported event changes no memory if its effect changes none. -/
theorem rowIf_same (s : State) (dt : Nat) (c : State → Bool) (f : State → State) (s₂ : State)
    (hf : ∀ u v, f u = v → v.mem = u.mem) (e : s.rowIf dt c f = .next s₂) : s₂.mem = s.mem := by
  refine row_same s dt _ s₂ (fun u v ev => ?_) e
  subst ev
  unfold State.when
  split
  · exact hf u _ rfl
  · rfl

/-- States with one memory read every byte alike. -/
theorem sameMemory_of_mem {s t : State} (h : t.mem = s.mem) : sameMemory s t := fun b => by
  unfold State.byte
  rw [h]

/-- An access of the Spout that fails stores nothing. -/
theorem sptRespond_fails (s : State) (t code data : Nat) (h : code ≠ 0) : (s.sptRespond t code data).mem = s.mem := by
  unfold State.sptRespond
  split
  · rfl
  · split
    · rfl
    · extract_lets l1 l2 s3 j4
      have e3 : s3.mem = s.mem := sptCharge_mem ..
      clear_value s3
      rw [if_pos h, sptAccessFails_mem, e3]

/-- A refused request stores nothing. -/
theorem unitRefuse_fails (s : State) (u : Nat) (q : ArbReq) (code : Nat) (h : code ≠ 0) : (s.unitRefuse u q code).mem = s.mem := by
  unfold State.unitRefuse
  extract_lets s1
  have e1 : s1.mem = s.mem := arbRefuse_mem ..
  clear_value s1
  repeat' split
  all_goals first
    | exact e1
    | (rw [sptRespond_fails _ _ _ _ h]; exact e1)
    | (simp -implicitDefEqProofs -proj only [e1, ↓jetRefuse_mem, ↓sptRefused_mem, ↓flowState_mem, ↓mirRefused_mem]; done)

/-- Settling what a tick left ungranted stores nothing. -/
theorem arbSettle_mem (s : State) (u : Nat) : (s.arbSettle u).mem = s.mem :=
  foldl_mem _ _ _ (fun v q => unitRefuse_fails v u q cREFUSED (by decide))

/-- A refusal at the age limit stores nothing. -/
theorem unitAged_mem (s : State) (u : Nat) : (s.unitAged u).mem = s.mem := by
  unfold State.unitAged
  extract_lets s1
  have e1 : s1.mem = s.mem := by
    dsimp only [s1]
    split
    · exact arbSettle_mem ..
    · rfl
  clear_value s1
  split
  · exact e1
  · exact (unitRefuse_fails _ _ _ _ (by decide)).trans e1

/-- What is due before an access to a register stores nothing. -/
theorem settleReg_mem (s : State) (r : Reg) : (s.settleReg r).mem = s.mem := by
  unfold State.settleReg
  split
  all_goals first
    | exact mirSettle_mem ..
    | exact txSettle_mem ..
    | exact doIf_mem _ _ _ (fun u => arbSettle_mem u _)
    | exact arbSettle_mem ..
    | exact ttFireAll_mem _ _ mirFire_mem
    | rfl

/-- The action of a write stores nothing, but for DONE, SYS.WEIR, SYS.IMG_CTL and MV_CTL. -/
theorem writeAct_mem (s was : State) (ag : Nat) (r : Reg) (v : Word48) (owed : Nat) (h1 : r.name ≠ .coreDone)
    (h2 : r.name ≠ .sysWeir) (h3 : r.name ≠ .axsMvCtl) (h4 : r.name ≠ .sysImgCtl) : (State.writeAct s was ag r v owed).mem = s.mem := by
  unfold State.writeAct
  extract_lets l1 l2 s3 s4
  have e4 : s4.mem = s.mem := doIf_mem _ _ _ (fun _ => mem_mk)
  clear_value s3 s4
  split
  all_goals first
    | contradiction
    | (simp -implicitDefEqProofs -proj only [e4, implies_true, ↓mem_mk,
      ↓admCheck_mem, ↓ageStatClr_mem, ↓atOrder_mem, ↓boxStatClear_mem, ↓boxWait_mem, ↓boxWrite_mem,
      ↓camCheckStart_mem, ↓changeApply_mem, ↓chkClr_mem, ↓cmdAct_mem, ↓coldRetry_mem, ↓dmaCtlWrite_mem,
      ↓dmaPost_mem, ↓doIf_mem, ↓encErrClr_mem, ↓ethCntClr_mem, ↓ethPost_mem, ↓flashStart_mem, ↓flowPost_mem,
      ↓folCtlAct_mem, ↓groupGo_mem, ↓hmCtlAct_mem, ↓jetCntClr_mem, ↓latCtlAct_mem,
      ↓limClr_mem, ↓lkStatAct_mem, ↓lmCtlAct_mem, ↓lmPredict_mem, ↓lockFree_mem, ↓mirCtlAct_mem, ↓netCntClr_mem,
      ↓portCntClr_mem, ↓portCtlAct_mem, ↓post_mem, ↓ptpPost_mem, ↓pwdCtlAct_mem, ↓reqWaitClr_mem, ↓reselect_mem,
      ↓ringStage_mem, ↓ring_mem, ↓rstRequest_mem, ↓setCore_mem, ↓setFlag_mem, ↓setFld_mem, ↓setReg_mem,
      ↓setSptSub_mem, ↓setTaskFlags_mem, ↓sgCtlAct_mem, ↓shadowWritten_mem, ↓slsPeakClr_mem, ↓sptPost_mem,
      ↓stStart_mem, ↓stageAct_mem, ↓swapSchedule_mem, ↓tcCntClr_mem, ↓tcCommit_mem, ↓tjMaxClr_mem,
      ↓ttCtlAct_mem, ↓ttHold_mem, ↓twnCtlAct_mem, ↓unring_mem, ↓vlogClr_mem, ↓zoneCtlWrite_mem]
       done)

/-- A register write stores nothing, but for DONE, SYS.WEIR, SYS.IMG_CTL and MV_CTL. -/
theorem regWrite_mem (s : State) (ag : Nat) (r : Reg) (v : Word48) (owed : Nat) (h1 : r.name ≠ .coreDone)
    (h2 : r.name ≠ .sysWeir) (h3 : r.name ≠ .axsMvCtl) (h4 : r.name ≠ .sysImgCtl) : (State.regWrite s ag r v owed).2.mem = s.mem := by
  unfold State.regWrite
  extract_lets s1 l2
  have e1 : s1.mem = s.mem := settleReg_mem s r
  clear_value s1
  (repeat' split) <;> simp -implicitDefEqProofs only [e1, ↓writeRefused_mem, ↓mirrorReg_mem, ↓plain_mem,
    ↓writeAct_mem _ _ _ _ _ _ h1 h2 h3 h4]

/-- The slot of a mapped register, written: the memories as regWrite leaves them. -/
theorem slot_mem (s : State) (ag : Nat) (r : Reg) (v : Word48) (owed : Nat) (h : r.mapped) (h1 : r.name ≠ .coreDone)
    (h2 : r.name ≠ .sysWeir) (h3 : r.name ≠ .axsMvCtl) (h4 : r.name ≠ .sysImgCtl) : (s.slot ag r.addr (some v.toNat) owed).mem = s.mem := by
  unfold State.slot
  extract_lets l1
  split
  · rfl
  · split
    · exact misaligned_mem ..
    · simp -implicitDefEqProofs only [l1, access8_write s ag r v owed h, Option.isNone_some, Bool.false_and, Bool.false_eq_true,
        if_false, ↓answer_mem, ↓regWrite_mem s ag r v owed h1 h2 h3 h4]

end Sys2Proof.Machine
end

