-- ==== Sys2Proof/Laws/Quiet.lean ====
section
/-! SUPPORT. Commands that store nothing, one lemma each. -/
set_option linter.unusedSimpArgs false
namespace Sys2Proof.Machine

theorem execBootHeaders_same (dt : Nat) (s s₂ : State) (e : execBootHeaders dt s = .next s₂) :
    s₂.mem = s.mem := by
  refine rowIf_same _ _ _ _ _ (fun u v ev => ?_) e
  subst ev
  simp -implicitDefEqProofs -proj only [↓bootHeaders_mem, implies_true]

theorem execImageReadComplete_same (dt : Nat) (reread : List Byte) (s s₂ : State) (e : execImageReadComplete dt reread s = .next s₂) :
    s₂.mem = s.mem := by
  refine rowIf_same _ _ _ _ _ (fun u v ev => ?_) e
  subst ev
  simp -implicitDefEqProofs -proj only [↓imageRead_mem, implies_true]

theorem execSelfTestsComplete_same (dt sram : Nat) (jets cmps : List Nat) (zones : Nat) (s s₂ : State) (e : execSelfTestsComplete dt sram jets cmps zones s = .next s₂) :
    s₂.mem = s.mem := by
  refine rowIf_same _ _ _ _ _ (fun u v ev => ?_) e
  subst ev
  simp -implicitDefEqProofs -proj only [↓selfTests_mem, implies_true]

theorem execPartnerArmed_same (dt n digest : Nat) (s s₂ : State) (e : execPartnerArmed dt n digest s = .next s₂) :
    s₂.mem = s.mem := by
  refine row_same _ _ _ _ (fun u v ev => ?_) e
  subst ev
  simp -implicitDefEqProofs -proj only [↓partnerArmed_mem, implies_true]

theorem execFlashOpComplete_same (dt : Nat) (err : Bool) (s s₂ : State) (e : execFlashOpComplete dt err s = .next s₂) :
    s₂.mem = s.mem := by
  refine rowIf_same _ _ _ _ _ (fun u v ev => ?_) e
  subst ev
  simp -implicitDefEqProofs -proj only [↓flashDone_mem, implies_true]

theorem execSyncOutPulseEnd_same (dt : Nat) (s s₂ : State) (e : execSyncOutPulseEnd dt s = .next s₂) :
    s₂.mem = s.mem := by
  refine rowIf_same _ _ _ _ _ (fun u v ev => ?_) e
  subst ev
  simp -implicitDefEqProofs -proj only [↓syncOutFall_mem, implies_true]

theorem execCascadePassEnd_same (dt : Nat) (s s₂ : State) (e : execCascadePassEnd dt s = .next s₂) :
    s₂.mem = s.mem := by
  refine rowIf_same _ _ _ _ _ (fun u v ev => ?_) e
  subst ev
  simp -implicitDefEqProofs -proj only [↓makeDigests_mem, ↓passEnd_mem, implies_true]

theorem execEncoderEdge_same (dt c : Nat) (a b : Bool) (s s₂ : State) (e : execEncoderEdge dt c a b s = .next s₂) :
    s₂.mem = s.mem := by
  refine row_same _ _ _ _ (fun u v ev => ?_) e
  subst ev
  simp -implicitDefEqProofs -proj only [↓encoderEdge_mem, implies_true]

theorem execHallCodeChange_same (dt c code : Nat) (s s₂ : State) (e : execHallCodeChange dt c code s = .next s₂) :
    s₂.mem = s.mem := by
  refine row_same _ _ _ _ (fun u v ev => ?_) e
  subst ev
  simp -implicitDefEqProofs -proj only [↓hallChange_mem, implies_true]

theorem execIndexEvent_same (dt c : Nat) (s s₂ : State) (e : execIndexEvent dt c s = .next s₂) :
    s₂.mem = s.mem := by
  refine rowIf_same _ _ _ _ _ (fun u v ev => ?_) e
  subst ev
  simp -implicitDefEqProofs -proj only [↓homeIndex_mem, ↓indexEvent_mem, implies_true]

theorem execSerialFrameStart_same (dt c : Nat) (datLow : Bool) (s s₂ : State) (e : execSerialFrameStart dt c datLow s = .next s₂) :
    s₂.mem = s.mem := by
  refine rowIf_same _ _ _ _ _ (fun u v ev => ?_) e
  subst ev
  simp -implicitDefEqProofs -proj only [↓serialStart_mem, implies_true]

theorem execSerialFrameComplete_same (dt c d : Nat) (s s₂ : State) (e : execSerialFrameComplete dt c d s = .next s₂) :
    s₂.mem = s.mem := by
  refine row_same _ _ _ _ (fun u v ev => ?_) e
  subst ev
  simp -implicitDefEqProofs -proj only [↓serialComplete_mem, implies_true]

theorem execSerialTimeout_same (dt c : Nat) (s s₂ : State) (e : execSerialTimeout dt c s = .next s₂) :
    s₂.mem = s.mem := by
  refine row_same _ _ _ _ (fun u v ev => ?_) e
  subst ev
  simp -implicitDefEqProofs -proj only [↓serialTimeout_mem, implies_true]

theorem execStandstillTimeout_same (dt c : Nat) (s s₂ : State) (e : execStandstillTimeout dt c s = .next s₂) :
    s₂.mem = s.mem := by
  refine row_same _ _ _ _ (fun u v ev => ?_) e
  subst ev
  simp -implicitDefEqProofs -proj only [↓standstillTimeout_mem, implies_true]

theorem execLatchCapture_same (dt c l src : Nat) (rising : Bool) (s s₂ : State) (e : execLatchCapture dt c l src rising s = .next s₂) :
    s₂.mem = s.mem := by
  refine rowIf_same _ _ _ _ _ (fun u v ev => ?_) e
  subst ev
  simp -implicitDefEqProofs -proj only [↓homeLatched_mem, ↓latchCapture_mem, implies_true]

theorem execFrameStart_same (dt p : Nat) (s s₂ : State) (e : execFrameStart dt p s = .next s₂) :
    s₂.mem = s.mem := by
  refine row_same _ _ _ _ (fun u v ev => ?_) e
  subst ev
  simp -implicitDefEqProofs -proj only [↓frameStart_mem, implies_true]

theorem execFrameHeader_same (dt p : Nat) (hdr : BitVec 64) (good : Bool) (s s₂ : State) (e : execFrameHeader dt p hdr good s = .next s₂) :
    s₂.mem = s.mem := by
  refine rowIf_same _ _ _ _ _ (fun u v ev => ?_) e
  subst ev
  simp -implicitDefEqProofs -proj only [↓frameHeader_mem, implies_true]

theorem execGuardianWindowOpen_same (dt p : Nat) (s s₂ : State) (e : execGuardianWindowOpen dt p s = .next s₂) :
    s₂.mem = s.mem := by
  refine rowIf_same _ _ _ _ _ (fun u v ev => ?_) e
  subst ev
  simp -implicitDefEqProofs -proj only [↓rxLook_mem, implies_true]

theorem execIdleReceived_same (dt p : Nat) (s s₂ : State) (e : execIdleReceived dt p s = .next s₂) :
    s₂.mem = s.mem := by
  refine rowIf_same _ _ _ _ _ (fun u v ev => ?_) e
  subst ev
  simp -implicitDefEqProofs -proj only [↓rxLook_mem, implies_true]

theorem execForwardCopyStart_same (dt e : Nat) (s s₂ : State) (e : execForwardCopyStart dt e s = .next s₂) :
    s₂.mem = s.mem := by
  refine rowIf_same _ _ _ _ _ (fun u v ev => ?_) e
  subst ev
  simp -implicitDefEqProofs -proj only [↓fwdStart_mem, implies_true]

theorem execRepeatStart_same (dt p : Nat) (sync : Bool) (res : Nat) (d : List Byte) (len : Nat) (s s₂ : State) (e : execRepeatStart dt p sync res d len s = .next s₂) :
    s₂.mem = s.mem := by
  refine rowIf_same _ _ _ _ _ (fun u v ev => ?_) e
  subst ev
  simp -implicitDefEqProofs -proj only [↓repeatStart_mem, implies_true]

theorem execRepeatCut_same (dt o : Nat) (s s₂ : State) (e : execRepeatCut dt o s = .next s₂) :
    s₂.mem = s.mem := by
  refine rowIf_same _ _ _ _ _ (fun u v ev => ?_) e
  subst ev
  simp -implicitDefEqProofs -proj only [↓repeatCut_mem, implies_true]

theorem execFeedbackFrameSend_same (dt : Nat) (s s₂ : State) (e : execFeedbackFrameSend dt s = .next s₂) :
    s₂.mem = s.mem := by
  refine rowIf_same _ _ _ _ _ (fun u v ev => ?_) e
  subst ev
  simp -implicitDefEqProofs -proj only [↓fbSend_mem, implies_true]

theorem execOwnFrameEnd_same (dt p : Nat) (s s₂ : State) (e : execOwnFrameEnd dt p s = .next s₂) :
    s₂.mem = s.mem := by
  refine rowIf_same _ _ _ _ _ (fun u v ev => ?_) e
  subst ev
  simp -implicitDefEqProofs -proj only [↓ownEnd_mem, implies_true]

theorem execRangeRequestSend_same (dt : Nat) (b : Bool) (s s₂ : State) (e : execRangeRequestSend dt b s = .next s₂) :
    s₂.mem = s.mem := by
  refine rowIf_same _ _ _ _ _ (fun u v ev => ?_) e
  subst ev
  simp -implicitDefEqProofs -proj only [↓rangeReqSend_mem, implies_true]

theorem execRangeRequestAdmit_same (dt p : Nat) (s s₂ : State) (e : execRangeRequestAdmit dt p s = .next s₂) :
    s₂.mem = s.mem := by
  refine row_same _ _ _ _ (fun u v ev => ?_) e
  subst ev
  simp -implicitDefEqProofs -proj only [↓rangeAdmit_mem, implies_true]

theorem execRangeResponseSend_same (dt p : Nat) (s s₂ : State) (e : execRangeResponseSend dt p s = .next s₂) :
    s₂.mem = s.mem := by
  refine rowIf_same _ _ _ _ _ (fun u v ev => ?_) e
  subst ev
  simp -implicitDefEqProofs -proj only [↓rangeSend_mem, implies_true]

theorem execRangeResponseReceived_same (dt sub : Nat) (s s₂ : State) (e : execRangeResponseReceived dt sub s = .next s₂) :
    s₂.mem = s.mem := by
  refine row_same _ _ _ _ (fun u v ev => ?_) e
  subst ev
  simp -implicitDefEqProofs -proj only [↓followerJoins_mem, ↓rangeResponse_mem, implies_true]

theorem execRangingTimeout_same (dt : Nat) (b : Bool) (s s₂ : State) (e : execRangingTimeout dt b s = .next s₂) :
    s₂.mem = s.mem := by
  refine rowIf_same _ _ _ _ _ (fun u v ev => ?_) e
  subst ev
  simp -implicitDefEqProofs -proj only [↓rangeFail_mem, implies_true]

theorem execCommandLoss_same (dt : Nat) (s s₂ : State) (e : execCommandLoss dt s = .next s₂) :
    s₂.mem = s.mem := by
  refine rowIf_same _ _ _ _ _ (fun u v ev => ?_) e
  subst ev
  simp -implicitDefEqProofs -proj only [↓toListen_mem, implies_true]

theorem execDynamicFrameSend_same (dt f : Nat) (s s₂ : State) (e : execDynamicFrameSend dt f s = .next s₂) :
    s₂.mem = s.mem := by
  refine row_same _ _ _ _ (fun u v ev => ?_) e
  subst ev
  simp -implicitDefEqProofs -proj only [↓dynFrameSend_mem, implies_true]

theorem execUplinkFrameSend_same (dt : Nat) (s s₂ : State) (e : execUplinkFrameSend dt s = .next s₂) :
    s₂.mem = s.mem := by
  refine rowIf_same _ _ _ _ _ (fun u v ev => ?_) e
  subst ev
  simp -implicitDefEqProofs -proj only [↓upSend_mem, implies_true]

theorem execServiceRequest_same (dt : Nat) (s s₂ : State) (e : execServiceRequest dt s = .next s₂) :
    s₂.mem = s.mem := by
  refine row_same _ _ _ _ (fun u v ev => ?_) e
  subst ev
  simp -implicitDefEqProofs -proj only [↓svcArrive_mem, implies_true]

theorem execSyncReceived_same (dt p : Nat) (d : List Byte) (good : Bool) (sub : Nat) (s s₂ : State) (e : execSyncReceived dt p d good sub s = .next s₂) :
    s₂.mem = s.mem := by
  refine row_same _ _ _ _ (fun u v ev => ?_) e
  subst ev
  simp -implicitDefEqProofs -proj only [↓followerJoins_mem, ↓syncReceived_mem, implies_true]

theorem execSyncMissing_same (dt : Nat) (b : Bool) (s s₂ : State) (e : execSyncMissing dt b s = .next s₂) :
    s₂.mem = s.mem := by
  refine rowIf_same _ _ _ _ _ (fun u v ev => ?_) e
  subst ev
  simp -implicitDefEqProofs -proj only [↓syncMissing_mem, implies_true]

theorem execJetGrant_same (dt : Nat) (s s₂ : State) (e : execJetGrant dt s = .next s₂) :
    s₂.mem = s.mem := by
  refine row_same _ _ _ _ (fun u v ev => ?_) e
  subst ev
  simp -implicitDefEqProofs -proj only [↓jetGrant_mem, implies_true]

theorem execJetTimeRefusal_same (dt n : Nat) (s s₂ : State) (e : execJetTimeRefusal dt n s = .next s₂) :
    s₂.mem = s.mem := by
  refine row_same _ _ _ _ (fun u v ev => ?_) e
  subst ev
  simp -implicitDefEqProofs -proj only [↓jetTimeRefusal_mem, implies_true]

theorem execCommandFrameLaunch_same (dt k : Nat) (s s₂ : State) (e : execCommandFrameLaunch dt k s = .next s₂) :
    s₂.mem = s.mem := by
  refine rowIf_same _ _ _ _ _ (fun u v ev => ?_) e
  subst ev
  simp -implicitDefEqProofs -proj only [↓cmdLaunch_mem, implies_true]

theorem execDelayedCommandLaunch_same (dt k : Nat) (s s₂ : State) (e : execDelayedCommandLaunch dt k s = .next s₂) :
    s₂.mem = s.mem := by
  refine rowIf_same _ _ _ _ _ (fun u v ev => ?_) e
  subst ev
  simp -implicitDefEqProofs -proj only [↓cmdDelayed_mem, implies_true]

theorem execJetCheckFailure_same (dt j chk : Nat) (s s₂ : State) (e : execJetCheckFailure dt j chk s = .next s₂) :
    s₂.mem = s.mem := by
  refine row_same _ _ _ _ (fun u v ev => ?_) e
  subst ev
  simp -implicitDefEqProofs -proj only [↓checkFailure_mem, implies_true]

theorem execJetSelfTestEnd_same (dt j : Nat) (pass : Bool) (s s₂ : State) (e : execJetSelfTestEnd dt j pass s = .next s₂) :
    s₂.mem = s.mem := by
  refine rowIf_same _ _ _ _ _ (fun u v ev => ?_) e
  subst ev
  simp -implicitDefEqProofs -proj only [↓testEnd_mem, implies_true]

theorem execJetRotation_same (dt : Nat) (s s₂ : State) (e : execJetRotation dt s = .next s₂) :
    s₂.mem = s.mem := by
  refine rowIf_same _ _ _ _ _ (fun u v ev => ?_) e
  subst ev
  simp -implicitDefEqProofs -proj only [↓jetRotate_mem, implies_true]

theorem execSignalDetected_same (dt p : Nat) (s s₂ : State) (e : execSignalDetected dt p s = .next s₂) :
    s₂.mem = s.mem := by
  refine row_same _ _ _ _ (fun u v ev => ?_) e
  subst ev
  simp -implicitDefEqProofs -proj only [↓signalDetected_mem, implies_true]

theorem execLinkAcquired_same (dt p eq : Nat) (s s₂ : State) (e : execLinkAcquired dt p eq s = .next s₂) :
    s₂.mem = s.mem := by
  refine rowIf_same _ _ _ _ _ (fun u v ev => ?_) e
  subst ev
  simp -implicitDefEqProofs -proj only [↓linkAcquired_mem, implies_true]

theorem execAcquireTimeout_same (dt p : Nat) (s s₂ : State) (e : execAcquireTimeout dt p s = .next s₂) :
    s₂.mem = s.mem := by
  refine rowIf_same _ _ _ _ _ (fun u v ev => ?_) e
  subst ev
  simp -implicitDefEqProofs -proj only [↓toDetect_mem, implies_true]

theorem execLinkUp_same (dt p eq : Nat) (s s₂ : State) (e : execLinkUp dt p eq s = .next s₂) :
    s₂.mem = s.mem := by
  refine rowIf_same _ _ _ _ _ (fun u v ev => ?_) e
  subst ev
  simp -implicitDefEqProofs -proj only [↓linkUp_mem, implies_true]

theorem execAdaptTimeout_same (dt p : Nat) (s s₂ : State) (e : execAdaptTimeout dt p s = .next s₂) :
    s₂.mem = s.mem := by
  refine rowIf_same _ _ _ _ _ (fun u v ev => ?_) e
  subst ev
  simp -implicitDefEqProofs -proj only [↓adaptTimeout_mem, implies_true]

theorem execSignalLost_same (dt p : Nat) (s s₂ : State) (e : execSignalLost dt p s = .next s₂) :
    s₂.mem = s.mem := by
  refine row_same _ _ _ _ (fun u v ev => ?_) e
  subst ev
  simp -implicitDefEqProofs -proj only [↓signalLost_mem, implies_true]

theorem execCodeErrorLimit_same (dt p : Nat) (s s₂ : State) (e : execCodeErrorLimit dt p s = .next s₂) :
    s₂.mem = s.mem := by
  refine rowIf_same _ _ _ _ _ (fun u v ev => ?_) e
  subst ev
  simp -implicitDefEqProofs -proj only [↓toDetect_mem, implies_true]

theorem execInvalidCodeGroup_same (dt p kind : Nat) (s s₂ : State) (e : execInvalidCodeGroup dt p kind s = .next s₂) :
    s₂.mem = s.mem := by
  refine row_same _ _ _ _ (fun u v ev => ?_) e
  subst ev
  simp -implicitDefEqProofs -proj only [↓codeError_mem, implies_true]

theorem execAbsRecord_same (dt c : Nat) (s s₂ : State) (e : execAbsRecord dt c s = .next s₂) :
    s₂.mem = s.mem := by
  refine row_same _ _ _ _ (fun u v ev => ?_) e
  subst ev
  rw [when_mem _ _ _ (fun w => mirAbs_mem w _), mirSettle_mem]

theorem execRearmHoldEnd_same (dt c : Nat) (s s₂ : State) (e : execRearmHoldEnd dt c s = .next s₂) :
    s₂.mem = s.mem := by
  refine row_same _ _ _ _ (fun u v ev => ?_) e
  subst ev
  simp -implicitDefEqProofs -proj only [↓mirHoldEnd_mem, ↓mirSettle_mem, implies_true]

theorem execXtlRelease_same (dt c : Nat) (s s₂ : State) (e : execXtlRelease dt c s = .next s₂) :
    s₂.mem = s.mem := by
  refine rowIf_same _ _ _ _ _ (fun u v ev => ?_) e
  subst ev
  simp -implicitDefEqProofs -proj only [↓xtlRelease_mem, implies_true]

theorem execUploadComplete_same (dt c : Nat) (s s₂ : State) (e : execUploadComplete dt c s = .next s₂) :
    s₂.mem = s.mem := by
  refine row_same _ _ _ _ (fun u v ev => ?_) e
  subst ev
  simp -implicitDefEqProofs -proj only [↓mirUploaded_mem, implies_true]

theorem execCamCheckComplete_same (dt t : Nat) (s s₂ : State) (e : execCamCheckComplete dt t s = .next s₂) :
    s₂.mem = s.mem := by
  refine rowIf_same _ _ _ _ _ (fun u v ev => ?_) e
  subst ev
  simp -implicitDefEqProofs -proj only [↓camChecked_mem, implies_true]

theorem execPredictionDone_same (dt l : Nat) (s s₂ : State) (e : execPredictionDone dt l s = .next s₂) :
    s₂.mem = s.mem := by
  refine rowIf_same _ _ _ _ _ (fun u v ev => ?_) e
  subst ev
  simp -implicitDefEqProofs -proj only [↓lmPredicted_mem, implies_true]

theorem execSafetyTick_same (dt si rb edm srst : Nat) (mis : Bool) (s s₂ : State) (e : execSafetyTick dt si rb edm srst mis s = .next s₂) :
    s₂.mem = s.mem := by
  refine rowIf_same _ _ _ _ _ (fun u v ev => ?_) e
  subst ev
  simp -implicitDefEqProofs -proj only [↓safetyTick_mem, implies_true]

theorem execDiscrepancyFault_same (dt i : Nat) (s s₂ : State) (e : execDiscrepancyFault dt i s = .next s₂) :
    s₂.mem = s.mem := by
  refine rowIf_same _ _ _ _ _ (fun u v ev => ?_) e
  subst ev
  simp -implicitDefEqProofs -proj only [↓discFault_mem, implies_true]

theorem execSs1Timeout_same (dt z : Nat) (s s₂ : State) (e : execSs1Timeout dt z s = .next s₂) :
    s₂.mem = s.mem := by
  refine rowIf_same _ _ _ _ _ (fun u v ev => ?_) e
  subst ev
  simp -implicitDefEqProofs -proj only [↓ss1End_mem, implies_true]

theorem execTestPulse_same (dt o : Nat) (high pass : Bool) (s s₂ : State) (e : execTestPulse dt o high pass s = .next s₂) :
    s₂.mem = s.mem := by
  refine rowIf_same _ _ _ _ _ (fun u v ev => ?_) e
  subst ev
  simp -implicitDefEqProofs -proj only [↓testPulse_mem, implies_true]

theorem execEdmTimeout_same (dt o : Nat) (s s₂ : State) (e : execEdmTimeout dt o s = .next s₂) :
    s₂.mem = s.mem := by
  refine rowIf_same _ _ _ _ _ (fun u v ev => ?_) e
  subst ev
  simp -implicitDefEqProofs -proj only [↓edmFault_mem, implies_true]

theorem execSlsDelayEnd_same (dt z : Nat) (s s₂ : State) (e : execSlsDelayEnd dt z s = .next s₂) :
    s₂.mem = s.mem := by
  refine rowIf_same _ _ _ _ _ (fun u v ev => ?_) e
  subst ev
  simp -implicitDefEqProofs -proj only [↓slsStart_mem, implies_true]

theorem execSlsWindowEnd_same (dt c : Nat) (s s₂ : State) (e : execSlsWindowEnd dt c s = .next s₂) :
    s₂.mem = s.mem := by
  refine rowIf_same _ _ _ _ _ (fun u v ev => ?_) e
  subst ev
  simp -implicitDefEqProofs -proj only [↓slsWindow_mem, implies_true]

theorem execSrstEdge_same (dt : Nat) (s s₂ : State) (e : execSrstEdge dt s = .next s₂) :
    s₂.mem = s.mem := by
  refine rowIf_same _ _ _ _ _ (fun u v ev => ?_) e
  subst ev
  simp -implicitDefEqProofs -proj only [↓srstEdge_mem, implies_true]

theorem execSrstStuck_same (dt : Nat) (s s₂ : State) (e : execSrstStuck dt s = .next s₂) :
    s₂.mem = s.mem := by
  refine rowIf_same _ _ _ _ _ (fun u v ev => ?_) e
  subst ev
  simp -implicitDefEqProofs -proj only [↓srstStuck_mem, implies_true]

theorem execOasisRailFault_same (dt : Nat) (out : Bool) (s s₂ : State) (e : execOasisRailFault dt out s = .next s₂) :
    s₂.mem = s.mem := by
  refine row_same _ _ _ _ (fun u v ev => ?_) e
  subst ev
  simp -implicitDefEqProofs -proj only [↓oasRail_mem, implies_true]

theorem execContainerReceived_same (dt : Nat) (s s₂ : State) (e : execContainerReceived dt s = .next s₂) :
    s₂.mem = s.mem := by
  refine row_same _ _ _ _ (fun u v ev => ?_) e
  subst ev
  simp -implicitDefEqProofs -proj only [↓contReceived_mem, implies_true]

theorem execConnectionWatchdog_same (dt c : Nat) (s s₂ : State) (e : execConnectionWatchdog dt c s = .next s₂) :
    s₂.mem = s.mem := by
  refine rowIf_same _ _ _ _ _ (fun u v ev => ?_) e
  subst ev
  simp -implicitDefEqProofs -proj only [↓watchdog_mem, implies_true]

theorem execPasswordExpiry_same (dt : Nat) (s s₂ : State) (e : execPasswordExpiry dt s = .next s₂) :
    s₂.mem = s.mem := by
  refine rowIf_same _ _ _ _ _ (fun u v ev => ?_) e
  subst ev
  simp -implicitDefEqProofs -proj only [↓setPwdOk_mem, implies_true]

theorem execPresentLockEnd_same (dt : Nat) (s s₂ : State) (e : execPresentLockEnd dt s = .next s₂) :
    s₂.mem = s.mem := by
  refine rowIf_same _ _ _ _ _ (fun u v ev => ?_) e
  subst ev
  simp -implicitDefEqProofs -proj only [↓lockEnd_mem, implies_true]

theorem execPcieLinkReset_same (dt kind : Nat) (s s₂ : State) (e : execPcieLinkReset dt kind s = .next s₂) :
    s₂.mem = s.mem := by
  refine rowIf_same _ _ _ _ _ (fun u v ev => ?_) e
  subst ev
  simp -implicitDefEqProofs -proj only [↓pcieReset_mem, implies_true]

theorem execPerst_same (dt : Nat) (level : Bool) (s s₂ : State) (e : execPerst dt level s = .next s₂) :
    s₂.mem = s.mem := by
  refine row_same _ _ _ _ (fun u v ev => ?_) e
  subst ev
  simp -implicitDefEqProofs -proj only [↓perstPin_mem, implies_true]

theorem execPerstRelease_same (dt : Nat) (s s₂ : State) (e : execPerstRelease dt s = .next s₂) :
    s₂.mem = s.mem := by
  refine rowIf_same _ _ _ _ _ (fun u v ev => ?_) e
  subst ev
  simp -implicitDefEqProofs -proj only [↓perstEnd_mem, implies_true]

theorem execPcieLinkUp_same (dt speed width : Nat) (s s₂ : State) (e : execPcieLinkUp dt speed width s = .next s₂) :
    s₂.mem = s.mem := by
  refine rowIf_same _ _ _ _ _ (fun u v ev => ?_) e
  subst ev
  simp -implicitDefEqProofs -proj only [↓pcieUp_mem, implies_true]

theorem execDmaTransferStart_same (dt c : Nat) (own : Bool) (s s₂ : State) (e : execDmaTransferStart dt c own s = .next s₂) :
    s₂.mem = s.mem := by
  refine rowIf_same _ _ _ _ _ (fun u v ev => ?_) e
  subst ev
  simp -implicitDefEqProofs -proj only [↓dmaStart_mem, implies_true]

theorem execDmaBufferReturn_same (dt c addr len : Nat) (irq own : Bool) (s s₂ : State) (e : execDmaBufferReturn dt c addr len irq own s = .next s₂) :
    s₂.mem = s.mem := by
  refine rowIf_same _ _ _ _ _ (fun u v ev => ?_) e
  subst ev
  simp -implicitDefEqProofs -proj only [↓dmaReturn_mem, implies_true]

theorem execBufferLent_same (dt c : Nat) (s s₂ : State) (e : execBufferLent dt c s = .next s₂) :
    s₂.mem = s.mem := by
  refine rowIf_same _ _ _ _ _ (fun u v ev => ?_) e
  subst ev
  simp -implicitDefEqProofs -proj only [↓setDmaH_mem, implies_true]

theorem execSpiUnknownCommand_same (dt : Nat) (s s₂ : State) (e : execSpiUnknownCommand dt s = .next s₂) :
    s₂.mem = s.mem := by
  refine row_same _ _ _ _ (fun u v ev => ?_) e
  subst ev
  simp -implicitDefEqProofs -proj only [↓spiCount_mem, implies_true]

theorem execEthFrameSent_same (dt p ago : Nat) (s s₂ : State) (e : execEthFrameSent dt p ago s = .next s₂) :
    s₂.mem = s.mem := by
  refine rowIf_same _ _ _ _ _ (fun u v ev => ?_) e
  subst ev
  simp -implicitDefEqProofs -proj only [↓ethSent_mem, implies_true]

theorem execEthLinkChange_same (dt p : Nat) (up : Bool) (s s₂ : State) (e : execEthLinkChange dt p up s = .next s₂) :
    s₂.mem = s.mem := by
  refine row_same _ _ _ _ (fun u v ev => ?_) e
  subst ev
  simp -implicitDefEqProofs -proj only [↓ethLink_mem, implies_true]

theorem execIdcode_same (dt : Nat) (s s₂ : State) (e : execIdcode dt s = .next s₂) :
    s₂.mem = s.mem := by
  refine row_same _ _ _ _ (fun u v ev => ?_) e
  subst ev
  simp -implicitDefEqProofs -proj only [↓tapTake_mem, implies_true]

theorem execSamplePreload_same (dt pattern : Nat) (s s₂ : State) (e : execSamplePreload dt pattern s = .next s₂) :
    s₂.mem = s.mem := by
  refine row_same _ _ _ _ (fun u v ev => ?_) e
  subst ev
  simp -implicitDefEqProofs -proj only [↓tapPreload_mem, implies_true]

theorem execExtest_same (dt : Nat) (s s₂ : State) (e : execExtest dt s = .next s₂) :
    s₂.mem = s.mem := by
  refine row_same _ _ _ _ (fun u v ev => ?_) e
  subst ev
  simp -implicitDefEqProofs -proj only [↓tapPins_mem, implies_true]

theorem execExtestPulse_same (dt : Nat) (s s₂ : State) (e : execExtestPulse dt s = .next s₂) :
    s₂.mem = s.mem := by
  refine row_same _ _ _ _ (fun u v ev => ?_) e
  subst ev
  simp -implicitDefEqProofs -proj only [↓tapPins_mem, implies_true]

theorem execExtestTrain_same (dt : Nat) (s s₂ : State) (e : execExtestTrain dt s = .next s₂) :
    s₂.mem = s.mem := by
  refine row_same _ _ _ _ (fun u v ev => ?_) e
  subst ev
  simp -implicitDefEqProofs -proj only [↓tapPins_mem, implies_true]

theorem execClamp_same (dt : Nat) (s s₂ : State) (e : execClamp dt s = .next s₂) :
    s₂.mem = s.mem := by
  refine row_same _ _ _ _ (fun u v ev => ?_) e
  subst ev
  simp -implicitDefEqProofs -proj only [↓tapPins_mem, implies_true]

theorem execHighz_same (dt : Nat) (s s₂ : State) (e : execHighz dt s = .next s₂) :
    s₂.mem = s.mem := by
  refine row_same _ _ _ _ (fun u v ev => ?_) e
  subst ev
  simp -implicitDefEqProofs -proj only [↓tapPins_mem, implies_true]

theorem execDbgAccess_same (dt : Nat) (s s₂ : State) (e : execDbgAccess dt s = .next s₂) :
    s₂.mem = s.mem := by
  refine row_same _ _ _ _ (fun u v ev => ?_) e
  subst ev
  simp -implicitDefEqProofs -proj only [↓tapTake_mem, implies_true]

theorem execFuseProg_same (dt hash back : Nat) (s s₂ : State) (e : execFuseProg dt hash back s = .next s₂) :
    s₂.mem = s.mem := by
  refine row_same _ _ _ _ (fun u v ev => ?_) e
  subst ev
  simp -implicitDefEqProofs -proj only [↓fuseProg_mem, implies_true]

theorem execBypass_same (dt : Nat) (s s₂ : State) (e : execBypass dt s = .next s₂) :
    s₂.mem = s.mem := by
  refine row_same _ _ _ _ (fun u v ev => ?_) e
  subst ev
  simp -implicitDefEqProofs -proj only [↓tapTake_mem, implies_true]

theorem execTapReset_same (dt : Nat) (s s₂ : State) (e : execTapReset dt s = .next s₂) :
    s₂.mem = s.mem := by
  refine row_same _ _ _ _ (fun u v ev => ?_) e
  subst ev
  simp -implicitDefEqProofs -proj only [↓tapReset_mem, implies_true]

theorem execPllLock_same (dt : Nat) (s s₂ : State) (e : execPllLock dt s = .next s₂) :
    s₂.mem = s.mem := by
  refine rowIf_same _ _ _ _ _ (fun u v ev => ?_) e
  subst ev
  simp -implicitDefEqProofs -proj only [↓pllLock_mem, implies_true]

theorem execSequencerStart_same (dt inside : Nat) (s s₂ : State) (e : execSequencerStart dt inside s = .next s₂) :
    s₂.mem = s.mem := by
  refine rowIf_same _ _ _ _ _ (fun u v ev => ?_) e
  subst ev
  simp -implicitDefEqProofs -proj only [↓seqStart_mem, implies_true]

theorem execSequencerStep_same (dt good : Nat) (s s₂ : State) (e : execSequencerStep dt good s = .next s₂) :
    s₂.mem = s.mem := by
  refine rowIf_same _ _ _ _ _ (fun u v ev => ?_) e
  subst ev
  simp -implicitDefEqProofs -proj only [↓seqStep_mem, implies_true]

theorem execPowerDownStep_same (dt : Nat) (s s₂ : State) (e : execPowerDownStep dt s = .next s₂) :
    s₂.mem = s.mem := by
  refine rowIf_same _ _ _ _ _ (fun u v ev => ?_) e
  subst ev
  simp -implicitDefEqProofs -proj only [↓downStep_mem, implies_true]

theorem execRailMeasurement_same (dt k mv pg : Nat) (s s₂ : State) (e : execRailMeasurement dt k mv pg s = .next s₂) :
    s₂.mem = s.mem := by
  refine row_same _ _ _ _ (fun u v ev => ?_) e
  subst ev
  simp -implicitDefEqProofs -proj only [↓railMeasure_mem, implies_true]

theorem execFaultWaitEnd_same (dt : Nat) (s s₂ : State) (e : execFaultWaitEnd dt s = .next s₂) :
    s₂.mem = s.mem := by
  refine rowIf_same _ _ _ _ _ (fun u v ev => ?_) e
  subst ev
  simp -implicitDefEqProofs -proj only [↓waitEnd_mem, implies_true]

theorem execPmbusPoll_same (dt : Nat) (s s₂ : State) (e : execPmbusPoll dt s = .next s₂) :
    s₂.mem = s.mem := by
  refine rowIf_same _ _ _ _ _ (fun u v ev => ?_) e
  subst ev
  simp -implicitDefEqProofs -proj only [↓poll_mem, implies_true]

theorem execPmbusReply_same (dt n c data pec : Nat) (ack : Bool) (s s₂ : State) (e : execPmbusReply dt n c data pec ack s = .next s₂) :
    s₂.mem = s.mem := by
  refine rowIf_same _ _ _ _ _ (fun u v ev => ?_) e
  subst ev
  simp -implicitDefEqProofs -proj only [↓pollReply_mem, implies_true]

theorem execPmbAlert_same (dt : Nat) (s s₂ : State) (e : execPmbAlert dt s = .next s₂) :
    s₂.mem = s.mem := by
  refine row_same _ _ _ _ (fun u v ev => ?_) e
  subst ev
  simp -implicitDefEqProofs -proj only [↓raise_mem, implies_true]

theorem execResetRelease_same (dt : Nat) (s s₂ : State) (e : execResetRelease dt s = .next s₂) :
    s₂.mem = s.mem := by
  refine rowIf_same _ _ _ _ _ (fun u v ev => ?_) e
  subst ev
  simp -implicitDefEqProofs -proj only [↓release_mem, implies_true]

theorem execTemperatureReading_same (dt : Nat) (tj : Int) (s s₂ : State) (e : execTemperatureReading dt tj s = .next s₂) :
    s₂.mem = s.mem := by
  refine row_same _ _ _ _ (fun u v ev => ?_) e
  subst ev
  simp -implicitDefEqProofs -proj only [↓temperature_mem, implies_true]

theorem execPwmPeriodBoundary_same (dt n : Nat) (s s₂ : State) (e : execPwmPeriodBoundary dt n s = .next s₂) :
    s₂.mem = s.mem := by
  refine rowIf_same _ _ _ _ _ (fun u v ev => ?_) e
  subst ev
  simp -implicitDefEqProofs -proj only [↓periodStart_mem, implies_true]

theorem execCompareEdge_same (dt n : Nat) (s s₂ : State) (e : execCompareEdge dt n s = .next s₂) :
    s₂.mem = s.mem := by
  refine row_same _ _ _ _ (fun u v ev => ?_) e
  subst ev
  simp -implicitDefEqProofs -proj only [↓compareEdge_mem, implies_true]

theorem execShootThroughTrip_same (dt n : Nat) (s s₂ : State) (e : execShootThroughTrip dt n s = .next s₂) :
    s₂.mem = s.mem := by
  refine rowIf_same _ _ _ _ _ (fun u v ev => ?_) e
  subst ev
  simp -implicitDefEqProofs -proj only [↓trip_mem, implies_true]

theorem execShutdownEnd_same (dt g : Nat) (s s₂ : State) (e : execShutdownEnd dt g s = .next s₂) :
    s₂.mem = s.mem := by
  refine rowIf_same _ _ _ _ _ (fun u v ev => ?_) e
  subst ev
  simp -implicitDefEqProofs -proj only [↓sgShutdownEnd_mem, implies_true]

theorem execPrechargeOnEnd_same (dt g : Nat) (s s₂ : State) (e : execPrechargeOnEnd dt g s = .next s₂) :
    s₂.mem = s.mem := by
  refine rowIf_same _ _ _ _ _ (fun u v ev => ?_) e
  subst ev
  simp -implicitDefEqProofs -proj only [↓preOnEnd_mem, implies_true]

theorem execPrechargeComplete_same (dt g : Nat) (s s₂ : State) (e : execPrechargeComplete dt g s = .next s₂) :
    s₂.mem = s.mem := by
  refine rowIf_same _ _ _ _ _ (fun u v ev => ?_) e
  subst ev
  simp -implicitDefEqProofs -proj only [↓sgEnterRun_mem, implies_true]

theorem execPrechargeExpiry_same (dt g : Nat) (s s₂ : State) (e : execPrechargeExpiry dt g s = .next s₂) :
    s₂.mem = s.mem := by
  refine rowIf_same _ _ _ _ _ (fun u v ev => ?_) e
  subst ev
  simp -implicitDefEqProofs -proj only [↓unprecharge_mem, implies_true]

theorem execHardTrip_same (dt k : Nat) (on : Bool) (s s₂ : State) (e : execHardTrip dt k on s = .next s₂) :
    s₂.mem = s.mem := by
  refine row_same _ _ _ _ (fun u v ev => ?_) e
  subst ev
  simp -implicitDefEqProofs -proj only [↓hardChange_mem, implies_true]

theorem execFastQualified_same (dt k : Nat) (on : Bool) (s s₂ : State) (e : execFastQualified dt k on s = .next s₂) :
    s₂.mem = s.mem := by
  refine row_same _ _ _ _ (fun u v ev => ?_) e
  subst ev
  simp -implicitDefEqProofs -proj only [↓fastChange_mem, implies_true]

theorem execFastTrip_same (dt k : Nat) (s s₂ : State) (e : execFastTrip dt k s = .next s₂) :
    s₂.mem = s.mem := by
  refine rowIf_same _ _ _ _ _ (fun u v ev => ?_) e
  subst ev
  simp -implicitDefEqProofs -proj only [↓fastTrip_mem, implies_true]

theorem execTripSnapshotClose_same (dt g : Nat) (s s₂ : State) (e : execTripSnapshotClose dt g s = .next s₂) :
    s₂.mem = s.mem := by
  refine rowIf_same _ _ _ _ _ (fun u v ev => ?_) e
  subst ev
  simp -implicitDefEqProofs -proj only [↓snapClose_mem, implies_true]

theorem execSinc3Result_same (dt i : Nat) (sum : Int) (s s₂ : State) (e : execSinc3Result dt i sum s = .next s₂) :
    s₂.mem = s.mem := by
  refine rowIf_same _ _ _ _ _ (fun u v ev => ?_) e
  subst ev
  simp -implicitDefEqProofs -proj only [↓mirSdResult_mem, ↓sinc3_mem, implies_true]

theorem execSinc2Result_same (dt i : Nat) (sum : Int) (s s₂ : State) (e : execSinc2Result dt i sum s = .next s₂) :
    s₂.mem = s.mem := by
  refine rowIf_same _ _ _ _ _ (fun u v ev => ?_) e
  subst ev
  simp -implicitDefEqProofs -proj only [↓mirSdResult_mem, ↓sinc2_mem, implies_true]

theorem execSdStuck_same (dt i : Nat) (s s₂ : State) (e : execSdStuck dt i s = .next s₂) :
    s₂.mem = s.mem := by
  refine row_same _ _ _ _ (fun u v ev => ?_) e
  subst ev
  simp -implicitDefEqProofs -proj only [↓sdStuck_mem, implies_true]

theorem execComparatorSelfTestEnd_same (dt k : Nat) (pass : Bool) (s s₂ : State) (e : execComparatorSelfTestEnd dt k pass s = .next s₂) :
    s₂.mem = s.mem := by
  refine rowIf_same _ _ _ _ _ (fun u v ev => ?_) e
  subst ev
  simp -implicitDefEqProofs -proj only [↓stEnd_mem, implies_true]

theorem execAgeLimitRefusal_same (dt u : Nat) (s s₂ : State) (e : execAgeLimitRefusal dt u s = .next s₂) :
    s₂.mem = s.mem := by
  refine row_same _ _ _ _ (fun u v ev => ?_) e
  subst ev
  simp -implicitDefEqProofs -proj only [↓unitAged_mem, implies_true]

theorem execDispatchDeadline_same (dt k : Nat) (s s₂ : State) (e : execDispatchDeadline dt k s = .next s₂) :
    s₂.mem = s.mem := by
  refine row_same _ _ _ _ (fun u v ev => ?_) e
  subst ev
  simp -implicitDefEqProofs -proj only [↓dispatchDeadline_mem, implies_true]

theorem execWaitTimeout_same (dt t : Nat) (s s₂ : State) (e : execWaitTimeout dt t s = .next s₂) :
    s₂.mem = s.mem := by
  refine row_same _ _ _ _ (fun u v ev => ?_) e
  subst ev
  simp -implicitDefEqProofs -proj only [↓waitTimeout_mem, implies_true]

theorem execMachineTimerInterrupt_same (dt k : Nat) (s s₂ : State) (e : execMachineTimerInterrupt dt k s = .next s₂) :
    s₂.mem = s.mem := by
  refine rowIf_same _ _ _ _ _ (fun u v ev => ?_) e
  subst ev
  simp -implicitDefEqProofs -proj only [↓dispatchDeadline_mem, implies_true]

theorem execMailboxTimeout_same (dt n : Nat) (s s₂ : State) (e : execMailboxTimeout dt n s = .next s₂) :
    s₂.mem = s.mem := by
  refine row_same _ _ _ _ (fun u v ev => ?_) e
  subst ev
  simp -implicitDefEqProofs -proj only [↓boxTimeout_mem, implies_true]

theorem execCrosswaitDetection_same (dt : Nat) (s s₂ : State) (e : execCrosswaitDetection dt s = .next s₂) :
    s₂.mem = s.mem := by
  refine row_same _ _ _ _ (fun u v ev => ?_) e
  subst ev
  simp -implicitDefEqProofs -proj only [↓crossWait_mem, implies_true]

theorem execSpoutJobStart_same (dt : Nat) (s s₂ : State) (e : execSpoutJobStart dt s = .next s₂) :
    s₂.mem = s.mem := by
  refine rowIf_same _ _ _ _ _ (fun u v ev => ?_) e
  subst ev
  simp -implicitDefEqProofs -proj only [↓sptGrant_mem, implies_true]

theorem execSpoutPreemption_same (dt : Nat) (s s₂ : State) (e : execSpoutPreemption dt s = .next s₂) :
    s₂.mem = s.mem := by
  refine rowIf_same _ _ _ _ _ (fun u v ev => ?_) e
  subst ev
  simp -implicitDefEqProofs -proj only [↓sptSuspend_mem, implies_true]

theorem execSpoutJobTimeout_same (dt : Nat) (s s₂ : State) (e : execSpoutJobTimeout dt s = .next s₂) :
    s₂.mem = s.mem := by
  refine rowIf_same _ _ _ _ _ (fun u v ev => ?_) e
  subst ev
  simp -implicitDefEqProofs -proj only [↓sptTimeout_mem, implies_true]

theorem execStopTimeout_same (dt n : Nat) (s s₂ : State) (e : execStopTimeout dt n s = .next s₂) :
    s₂.mem = s.mem := by
  refine rowIf_same _ _ _ _ _ (fun u v ev => ?_) e
  subst ev
  simp -implicitDefEqProofs -proj only [↓stopTimeout_mem, implies_true]

theorem execAtRestSet_same (dt n : Nat) (s s₂ : State) (e : execAtRestSet dt n s = .next s₂) :
    s₂.mem = s.mem := by
  refine rowIf_same _ _ _ _ _ (fun u v ev => ?_) e
  subst ev
  simp -implicitDefEqProofs -proj only [↓restSet_mem, implies_true]

theorem execCurrentReduction_same (dt n : Nat) (s s₂ : State) (e : execCurrentReduction dt n s = .next s₂) :
    s₂.mem = s.mem := by
  refine rowIf_same _ _ _ _ _ (fun u v ev => ?_) e
  subst ev
  simp -implicitDefEqProofs -proj only [↓crSet_mem, implies_true]

theorem execDebounceChange_same (dt n i : Nat) (s s₂ : State) (e : execDebounceChange dt n i s = .next s₂) :
    s₂.mem = s.mem := by
  refine rowIf_same _ _ _ _ _ (fun u v ev => ?_) e
  subst ev
  simp -implicitDefEqProofs -proj only [↓debounce_mem, implies_true]

theorem execLimitBlockRelease_same (dt n i : Nat) (s s₂ : State) (e : execLimitBlockRelease dt n i s = .next s₂) :
    s₂.mem = s.mem := by
  refine rowIf_same _ _ _ _ _ (fun u v ev => ?_) e
  subst ev
  simp -implicitDefEqProofs -proj only [↓blockEnd_mem, implies_true]

theorem execReferenceEdge_same (dt n i : Nat) (level : Bool) (s s₂ : State) (e : execReferenceEdge dt n i level s = .next s₂) :
    s₂.mem = s.mem := by
  refine row_same _ _ _ _ (fun u v ev => ?_) e
  subst ev
  simp -implicitDefEqProofs -proj only [↓gpioEdge_mem, implies_true]

theorem execCaptureWindowEnd_same (dt n : Nat) (s s₂ : State) (e : execCaptureWindowEnd dt n s = .next s₂) :
    s₂.mem = s.mem := by
  refine rowIf_same _ _ _ _ _ (fun u v ev => ?_) e
  subst ev
  simp -implicitDefEqProofs -proj only [↓winReject_mem, implies_true]

theorem execHardStopDwellEnd_same (dt n : Nat) (s s₂ : State) (e : execHardStopDwellEnd dt n s = .next s₂) :
    s₂.mem = s.mem := by
  refine rowIf_same _ _ _ _ _ (fun u v ev => ?_) e
  subst ev
  simp -implicitDefEqProofs -proj only [↓dwellEnd_mem, implies_true]

theorem execDomainTimeout_same (dt d : Nat) (s s₂ : State) (e : execDomainTimeout dt d s = .next s₂) :
    s₂.mem = s.mem := by
  refine rowIf_same _ _ _ _ _ (fun u v ev => ?_) e
  subst ev
  simp -implicitDefEqProofs -proj only [↓domTimeout_mem, implies_true]

theorem execDomainRevert_same (dt : Nat) (s s₂ : State) (e : execDomainRevert dt s = .next s₂) :
    s₂.mem = s.mem := by
  refine rowIf_same _ _ _ _ _ (fun u v ev => ?_) e
  subst ev
  simp -implicitDefEqProofs -proj only [↓domRevert_mem, implies_true]

theorem execHoldoverLimit_same (dt : Nat) (s s₂ : State) (e : execHoldoverLimit dt s = .next s₂) :
    s₂.mem = s.mem := by
  refine rowIf_same _ _ _ _ _ (fun u v ev => ?_) e
  subst ev
  simp -implicitDefEqProofs -proj only [↓lostSync_mem, implies_true]

theorem execLineTimeLocked_same (dt : Nat) (s s₂ : State) (e : execLineTimeLocked dt s = .next s₂) :
    s₂.mem = s.mem := by
  refine rowIf_same _ _ _ _ _ (fun u v ev => ?_) e
  subst ev
  simp -implicitDefEqProofs -proj only [↓setLstate_mem, implies_true]

theorem execPulseEnd_same (dt i : Nat) (s s₂ : State) (e : execPulseEnd dt i s = .next s₂) :
    s₂.mem = s.mem := by
  refine rowIf_same _ _ _ _ _ (fun u v ev => ?_) e
  subst ev
  simp -implicitDefEqProofs -proj only [↓pulseEnd_mem, implies_true]

theorem execListenEnd_same (dt : Nat) (s s₂ : State) (e : execListenEnd dt s = .next s₂) :
    s₂.mem = s.mem := by
  refine rowIf_same _ _ _ _ _ (fun u v ev => ?_) e
  subst ev
  simp -implicitDefEqProofs -proj only [↓enterCold_mem, implies_true]

theorem execColdStartComplete_same (dt : Nat) (s s₂ : State) (e : execColdStartComplete dt s = .next s₂) :
    s₂.mem = s.mem := by
  refine rowIf_same _ _ _ _ _ (fun u v ev => ?_) e
  subst ev
  simp -implicitDefEqProofs -proj only [↓enterRun_mem, implies_true]

theorem execCollision_same (dt id : Nat) (s s₂ : State) (e : execCollision dt id s = .next s₂) :
    s₂.mem = s.mem := by
  refine rowIf_same _ _ _ _ _ (fun u v ev => ?_) e
  subst ev
  simp -implicitDefEqProofs -proj only [↓collide_mem, implies_true]

theorem execBackoffEnd_same (dt : Nat) (s s₂ : State) (e : execBackoffEnd dt s = .next s₂) :
    s₂.mem = s.mem := by
  refine rowIf_same _ _ _ _ _ (fun u v ev => ?_) e
  subst ev
  simp -implicitDefEqProofs -proj only [↓backoffEnd_mem, implies_true]

theorem execColdStartEcho_same (dt : Nat) (s s₂ : State) (e : execColdStartEcho dt s = .next s₂) :
    s₂.mem = s.mem := by
  refine row_same _ _ _ _ (fun u v ev => ?_) e
  subst ev
  simp -implicitDefEqProofs -proj only [↓coldEcho_mem, implies_true]

theorem execColdStartBlock_same (dt id : Nat) (s s₂ : State) (e : execColdStartBlock dt id s = .next s₂) :
    s₂.mem = s.mem := by
  refine rowIf_same _ _ _ _ _ (fun u v ev => ?_) e
  subst ev
  simp -implicitDefEqProofs -proj only [↓blockCold_mem, implies_true]

theorem execForeignHead_same (dt id : Nat) (s s₂ : State) (e : execForeignHead dt id s = .next s₂) :
    s₂.mem = s.mem := by
  refine rowIf_same _ _ _ _ _ (fun u v ev => ?_) e
  subst ev
  simp -implicitDefEqProofs -proj only [↓foreign_mem, implies_true]

theorem execHeadBlocked_same (dt : Nat) (s s₂ : State) (e : execHeadBlocked dt s = .next s₂) :
    s₂.mem = s.mem := by
  refine rowIf_same _ _ _ _ _ (fun u v ev => ?_) e
  subst ev
  simp -implicitDefEqProofs -proj only [↓setFlag_mem, implies_true]

theorem execStatusSend_same (dt : Nat) (s s₂ : State) (e : execStatusSend dt s = .next s₂) :
    s₂.mem = s.mem := by
  refine rowIf_same _ _ _ _ _ (fun u v ev => ?_) e
  subst ev
  simp -implicitDefEqProofs -proj only [↓statusSend_mem, implies_true]

theorem execStatusReceived_same (dt : Nat) (s s₂ : State) (e : execStatusReceived dt s = .next s₂) :
    s₂.mem = s.mem := by
  refine row_same _ _ _ _ (fun u v ev => ?_) e
  subst ev
  simp -implicitDefEqProofs -proj only [↓statusReceived_mem, implies_true]

theorem execDigestSend_same (dt : Nat) (s s₂ : State) (e : execDigestSend dt s = .next s₂) :
    s₂.mem = s.mem := by
  refine rowIf_same _ _ _ _ _ (fun u v ev => ?_) e
  subst ev
  simp -implicitDefEqProofs -proj only [↓digestSend_mem, implies_true]

theorem execDigestReceived_same (dt : Nat) (s s₂ : State) (e : execDigestReceived dt s = .next s₂) :
    s₂.mem = s.mem := by
  refine row_same _ _ _ _ (fun u v ev => ?_) e
  subst ev
  simp -implicitDefEqProofs -proj only [↓digestReceived_mem, implies_true]

theorem execDigestMiss_same (dt : Nat) (s s₂ : State) (e : execDigestMiss dt s = .next s₂) :
    s₂.mem = s.mem := by
  refine rowIf_same _ _ _ _ _ (fun u v ev => ?_) e
  subst ev
  simp -implicitDefEqProofs -proj only [↓digestMiss_mem, implies_true]

theorem execStandbyEntry_same (dt : Nat) (s s₂ : State) (e : execStandbyEntry dt s = .next s₂) :
    s₂.mem = s.mem := by
  refine rowIf_same _ _ _ _ _ (fun u v ev => ?_) e
  subst ev
  simp -implicitDefEqProofs -proj only [↓standbyEnter_mem, implies_true]

theorem execCopySend_same (dt : Nat) (s s₂ : State) (e : execCopySend dt s = .next s₂) :
    s₂.mem = s.mem := by
  refine rowIf_same _ _ _ _ _ (fun u v ev => ?_) e
  subst ev
  simp -implicitDefEqProofs -proj only [↓copySend_mem, implies_true]

theorem execMirrorRetransmit_same (dt : Nat) (s s₂ : State) (e : execMirrorRetransmit dt s = .next s₂) :
    s₂.mem = s.mem := by
  refine row_same _ _ _ _ (fun u v ev => ?_) e
  subst ev
  simp -implicitDefEqProofs -proj only [↓mirrorAgain_mem, implies_true]

theorem execAbdication_same (dt c : Nat) (s s₂ : State) (e : execAbdication dt c s = .next s₂) :
    s₂.mem = s.mem := by
  refine rowIf_same _ _ _ _ _ (fun u v ev => ?_) e
  subst ev
  simp -implicitDefEqProofs -proj only [↓abdication_mem, implies_true]

theorem execDeafnessEvaluation_same (dt : Nat) (s s₂ : State) (e : execDeafnessEvaluation dt s = .next s₂) :
    s₂.mem = s.mem := by
  refine rowIf_same _ _ _ _ _ (fun u v ev => ?_) e
  subst ev
  simp -implicitDefEqProofs -proj only [↓deafEval_mem, implies_true]

theorem execPullSend_same (dt p : Nat) (s s₂ : State) (e : execPullSend dt p s = .next s₂) :
    s₂.mem = s.mem := by
  refine rowIf_same _ _ _ _ _ (fun u v ev => ?_) e
  subst ev
  simp -implicitDefEqProofs -proj only [↓pullSend_mem, implies_true]

theorem execLateReplyDiscard_same (dt k age : Nat) (s s₂ : State) (e : execLateReplyDiscard dt k age s = .next s₂) :
    s₂.mem = s.mem := by
  refine rowIf_same _ _ _ _ _ (fun u v ev => ?_) e
  subst ev
  simp -implicitDefEqProofs -proj only [↓replyDiscard_mem, implies_true]


end Sys2Proof.Machine
end

