-- ==== Sys2Proof/Laws/Answers.lean ====
section
/-! SUPPORT. What an access answers, the lowest code of a list of grounds, and the fields of a register after an update. -/
namespace Sys2Proof.Machine

/-- What an agent last read stays as the clock is put back. -/
@[simp] theorem agent_inTimeOf (s t : State) (a : Nat) : (s.inTimeOf t).agent a = s.agent a := rfl

/-- Registers stay as the clock is put back. -/
@[simp] theorem reg_inTimeOf (s t : State) (a : Reg) : (s.inTimeOf t).reg a = s.reg a := rfl

/-- Fields stay as the clock is put back. -/
@[simp] theorem fld_inTimeOf (s t : State) (a : Reg) (f : Fld) : (s.inTimeOf t).fld a f = s.fld a f := rfl

/-- An agent's record, after it is set. -/
theorem agent_setAgent (s : State) (a : Nat) (h : AgentH) : (s.setAgent a h).agent a = h := tabGet_tabSet_self _ _ _ _

/-- The code an answer gives the agent. -/
theorem answer_code (s : State) (ag addr ty code data : Nat) : ((s.answer ag addr ty code data).agent ag).code = code := by
  unfold State.answer State.setAgent State.agent
  simp [tabGet_tabSet_self]

/-- The data an answer gives the agent. -/
theorem answer_data (s : State) (ag addr ty code data : Nat) : ((s.answer ag addr ty code data).agent ag).data = data := by
  unfold State.answer State.setAgent State.agent
  simp [tabGet_tabSet_self]

/-- An answer OK logs nothing (R152): the agent has its code and data, and a response buffer is free again (R150). -/
theorem answer_ok (s : State) (ag addr ty data : Nat) : s.answer ag addr ty cOK data =
    { s.setAgent ag { s.agent ag with code := cOK, data := data } with outst := s.outst.erase (ag, addr) } := by
  unfold State.answer
  have h1 : (loggedCode cOK || (ty == tyPosted && (cOK == cDEFERRED || cOK == cREFUSED))) = false := by
    simp [loggedCode, cOK, cDEFERRED, cREFUSED]
  have h2 : ∀ a b : Bool, (a && b && cOK != cOK) = false := by simp
  extract_lets s1 s2 c s3
  have e1 : s1 = s := if_neg (by rw [h1]; simp)
  have e2 : s2 = s1 := if_neg (by rw [h2]; simp)
  have e3 : s3 = s2 := if_neg (by rw [h2]; simp)
  have e : s3 = s := e3.trans (e2.trans e1)
  clear_value s3
  subst e
  rfl

/-- The agent's record after an answer OK. -/
theorem answer_ok_agent (s : State) (ag addr ty data : Nat) :
    (s.answer ag addr ty cOK data).agent ag = { s.agent ag with code := cOK, data := data } := by
  rw [answer_ok]; exact agent_setAgent s ag _

/-- An answer OK leaves every register. -/
theorem answer_ok_regs (s : State) (ag addr ty data : Nat) : (s.answer ag addr ty cOK data).regs = s.regs := by
  rw [answer_ok]; rfl

/-- An answer OK leaves every register, one by one. -/
theorem answer_ok_reg (s : State) (ag addr ty data : Nat) (r : Reg) : (s.answer ag addr ty cOK data).reg r = s.reg r := by
  unfold State.reg; rw [answer_ok_regs]

/-- An answer OK leaves every field. -/
theorem answer_ok_fld (s : State) (ag addr ty data : Nat) (r : Reg) (f : Fld) : (s.answer ag addr ty cOK data).fld r f = s.fld r f := by
  unfold State.fld; rw [answer_ok_reg]

/-- A field, after it is set. -/
theorem fld_setFld_self (s : State) (r : Reg) (f : Fld) (n : Nat) (h : f.lo + f.w ≤ 48) : (s.setFld r f n).fld r f = n % 2 ^ f.w := by
  unfold State.setFld; rw [fld_setReg]; exact wordFld_wordPut_self _ _ _ h

/-- A field apart from the one set. -/
theorem fld_setFld_apart (s : State) (r : Reg) (f g : Fld) (n : Nat) (h : f.apart g = true) : (s.setFld r f n).fld r g = s.fld r g := by
  unfold State.setFld; rw [fld_setReg]; exact wordFld_wordPut_apart _ _ _ _ h

/-- A field of another register than the one set. -/
theorem fld_setFld_ne (s : State) (r q : Reg) (f g : Fld) (n : Nat) (h : q.addr ≠ r.addr) : (s.setFld r f n).fld q g = s.fld q g := by
  unfold State.fld; rw [reg_setFld_ne _ _ _ _ _ h]

/-- A field is below its width's bound. -/
theorem wordFld_lt (v : Word48) (f : Fld) : wordFld v f < 2 ^ f.w := by
  unfold wordFld bitsOf; exact Nat.mod_lt _ (Nat.two_pow_pos _)

/-- Fields stay as an agent's record is set. -/
theorem fld_setAgent (s : State) (a : Nat) (h : AgentH) (r : Reg) (f : Fld) : (s.setAgent a h).fld r f = s.fld r f := rfl

/-- Registers stay as an agent's record is set. -/
theorem reg_setAgent (s : State) (a : Nat) (h : AgentH) (r : Reg) : (s.setAgent a h).reg r = s.reg r := rfl

/-- A ground that does not hold gives no code. -/
theorem refuseIf_false {b : Bool} (c : Nat) (h : b = false) : refuseIf b c = [] := by simp [refuseIf, h]

/-- A ground that holds gives its code. -/
theorem refuseIf_true {b : Bool} (c : Nat) (h : b = true) : refuseIf b c = [c] := by simp [refuseIf, h]

/-- The lowest code, ground by ground (R12). -/
theorem lowestCode_cons (c : Nat) (l : List Nat) : lowestCode (c :: l) = if lowestCode l = cOK then c else if c = cOK then lowestCode l else min c (lowestCode l) := rfl

/-- No code of the list is below the lowest one. -/
theorem lowestCode_le (l : List Nat) (k : Nat) (hk : k ∈ l) (h0 : k ≠ cOK) : lowestCode l ≤ k ∧ lowestCode l ≠ cOK := by
  induction l with
  | nil => simp at hk
  | cons c t ih =>
    rw [lowestCode_cons]
    simp only [cOK] at *
    by_cases a : lowestCode t = 0 <;> by_cases b : c = 0 <;> simp only [a, b, if_true, if_false] <;>
      rcases List.mem_cons.1 hk with rfl | h <;> (try have := ih h) <;> omega

/-- The lowest code is one of the list. -/
theorem lowestCode_mem (l : List Nat) (h : l ≠ []) : lowestCode l ∈ l := by
  induction l with
  | nil => exact absurd rfl h
  | cons c t ih =>
    rw [lowestCode_cons]
    simp only [cOK] at *
    by_cases e : t = []
    · subst e; simp [lowestCode, cOK]
    · have := ih e
      by_cases a : lowestCode t = 0 <;> by_cases b : c = 0 <;> simp only [a, b, if_true, if_false]
      · simp
      · simp
      · simp [this]
      · rw [Nat.min_def]; by_cases d : c ≤ lowestCode t <;> simp [d, this]

/-- A code that no other of the list undercuts is the lowest. -/
theorem lowestCode_eq (l : List Nat) (k : Nat) (hk : k ∈ l) (h0 : k ≠ cOK) (h : ∀ c ∈ l, k ≤ c) : lowestCode l = k := by
  have h1 := (lowestCode_le l k hk h0).1
  have h2 := h _ (lowestCode_mem l (fun e => by rw [e] at hk; cases hk))
  omega

/-- A ground gives no code but its own. -/
theorem refuseIf_mem {b : Bool} {c k : Nat} (h : k ∈ refuseIf b c) : k = c := by
  unfold refuseIf at h; split at h <;> simp_all

/-- A value of n bytes is n bytes long. -/
theorem leBytes_length (n x : Nat) : (leBytes n x).length = n := by
  induction n generalizing x with
  | zero => rfl
  | succ n ih => show (leBytes n (x / 256)).length + 1 = _; rw [ih]

/-- Noting a weir epoch changes only the reader's epoch register (R80). -/
theorem noteEpoch_reg (s : State) (ag : Nat) (r q : Reg) (h : q.addr ≠ (Reg.sysRspEpoch ag).addr) : (s.noteEpoch ag r).reg q = s.reg q := by
  unfold State.noteEpoch State.setRegN
  split
  · exact reg_setReg_ne _ _ _ _ h
  · rfl

/-- The epoch registers stand below 0x10000. -/
theorem rsp_low (ag : Nat) (h : ag < 32) : (Reg.sysRspEpoch ag).addr < 0x10000 := by
  show 0x808 + (ag - 1) * 8 < _; omega

/-- A refused read. -/
theorem slot_read_refused (s : State) (ag : Nat) (r : Reg) (owed c : Nat) (hi : s.issues ag = true) (hm : r.mapped) (hc : c ≠ cOK)
    (h : lowestCode ((s.settleReg r).readRefuse ag r) = c) :
    s.slot ag r.addr none owed = (s.settleReg r).answer ag r.addr tyRead c 0 := by
  have e : s.regRead ag r = (c, 0, s.settleReg r) := by
    unfold State.regRead
    simp [h, hc]
  rw [slot_eq s ag r _ owed hi hm, access8_read s ag r owed hm, e]
  simp [hc]

/-- An accepted read of a register other than DISPATCH. -/
theorem regRead_ok (s : State) (ag : Nat) (r : Reg) (h : lowestCode ((s.settleReg r).readRefuse ag r) = cOK)
    (hd : r.name ≠ .coreDispatch) :
    s.regRead ag r = (cOK, slotBits r ((s.settleReg r).readAct ag r).1, ((s.settleReg r).readAct ag r).2.noteEpoch ag r) := by
  unfold State.regRead; simp [h, hd]

/-- Sending a message vector writes no register. -/
theorem sendVector_regs (s : State) (v : Nat) : (s.sendVector v).regs = s.regs := by
  unfold State.sendVector; split <;> rfl

/-- A change under the interrupt map changes the registers it changes. -/
theorem withMap_reg (s : State) (f : State → State) (r : Reg) : (s.withMap f).reg r = (f s).reg r := by
  unfold State.withMap State.reg; dsimp only; split
  · rw [sendVector_regs]
  · rfl

/-- What each step keeps, the loop keeps. -/
theorem each_pres {α : Type} (p : State → α) (l : List Nat) (f : Nat → State → State) (hf : ∀ i u, p (f i u) = p u) (s : State) : p (s.each l f) = p s := by
  unfold State.each
  induction l generalizing s with
  | nil => rfl
  | cons i t ih => exact (ih (f i s)).trans (hf i s)

/-- Noting a weir epoch touches registers only. -/
theorem noteEpoch_pres (s : State) (ag : Nat) (r : Reg) : (s.noteEpoch ag r).agents = s.agents ∧ (s.noteEpoch ag r).cores = s.cores ∧ (s.noteEpoch ag r).mem = s.mem := by
  unfold State.noteEpoch; split <;> exact ⟨rfl, rfl, rfl⟩

/-- Every command that is a register write is one access of the register's slot. -/
theorem exec_writes (c : Instr) (s : State) (ag : Nat) (r : Reg) (v : Word48)
    (hw : c.writes (s.elapse c.ticks) = some (ag, r, v)) :
    ∃ owed, exec c s = .next (((s.elapse c.ticks).slot ag r.addr (some v.toNat) owed).inTimeOf (s.elapse c.ticks)) := by
  cases c <;> first | (cases hw; done) | (cases hw; exact ⟨_, rfl⟩) | skip
  unfold Instr.writes at hw
  obtain ⟨q, hq, he⟩ := Option.bind_eq_some_iff.1 hw
  split at he
  · rename_i ha
    cases he
    subst ha
    exact ⟨0, rfl⟩
  · cases he

/-- A single head mirrors nothing (R478). -/
theorem mirrorReg_single (s : State) (ag : Nat) (r : Reg) (v : Word48) (h : s.twin = false) : s.mirrorReg ag r v = s := by
  unfold State.mirrorReg State.mirrors
  rw [h]
  simp

end Sys2Proof.Machine
end

