-- ==== Sys2Proof/Laws/PerInstr.lean ====
section
/-! SUPPORT. Statements made of every command, one lemma per command. -/
namespace Sys2Proof.Laws.Agents
open Sys2Proof

/-- A well-formed command that an agent makes is made by one of the agents 1 to 16 (R9). -/
def Statement (i : Instr) : Prop := ∀ a, i.agent = some a → i.wf = true → agentOk a = true

/-- The first of two checks that both hold. -/
theorem first {a b : Bool} (h : (a && b) = true) : a = true := ((Bool.and_eq_true a b) ▸ h).1

/-- The second of two checks that both hold. -/
theorem second {a b : Bool} (h : (a && b) = true) : b = true := ((Bool.and_eq_true a b) ▸ h).2

/-- A command that no agent makes. -/
theorem made_by_none {i : Instr} (h : i.agent = none) : Statement i := fun _ e _ => by rw [h] at e; cases e

/-- A command that agent ag makes. -/
theorem made_by {i : Instr} {ag : Nat} (h : i.agent = some ag) (k : i.wf = true → agentOk ag = true) : Statement i :=
  fun _ e w => by rw [h] at e; cases e; exact k w

theorem registerWrite (dt ag addr : Nat) (v : Word48) : Statement (.registerWrite dt ag addr v) := made_by rfl id
theorem lowWordRead (dt ag addr : Nat) : Statement (.lowWordRead dt ag addr) := made_by rfl id
theorem highWordRead (dt ag addr : Nat) : Statement (.highWordRead dt ag addr) := made_by rfl id
theorem lowWordWrite (dt ag addr w : Nat) : Statement (.lowWordWrite dt ag addr w) := made_by rfl id
theorem highWordWrite (dt ag addr w : Nat) : Statement (.highWordWrite dt ag addr w) := made_by rfl id
theorem narrowAccess (dt ag addr n ty v : Nat) : Statement (.narrowAccess dt ag addr n ty v) :=
  made_by rfl (fun w => first (first w))
theorem basinLiveBankWrite (dt ag addr : Nat) (v : BitVec 64) : Statement (.basinLiveBankWrite dt ag addr v) :=
  made_by rfl id
theorem cycleBoundary (dt : Nat) : Statement (.cycleBoundary dt) := made_by_none rfl
theorem syncOutPulseEnd (dt : Nat) : Statement (.syncOutPulseEnd dt) := made_by_none rfl
theorem feedbackRecordComplete (dt p : Nat) (data : BitVec 128) : Statement (.feedbackRecordComplete dt p data) :=
  made_by_none rfl
theorem scheduledTaskRelease (dt n : Nat) : Statement (.scheduledTaskRelease dt n) := made_by_none rfl
theorem jetGrant (dt : Nat) : Statement (.jetGrant dt) := made_by_none rfl
theorem jetTaskEnd (dt j : Nat) (ecc : Bool) : Statement (.jetTaskEnd dt j ecc) := made_by_none rfl
theorem jetTimeRefusal (dt n : Nat) : Statement (.jetTimeRefusal dt n) := made_by_none rfl
theorem commandFrameLaunch (dt k : Nat) : Statement (.commandFrameLaunch dt k) := made_by_none rfl
theorem delayedCommandLaunch (dt k : Nat) : Statement (.delayedCommandLaunch dt k) := made_by_none rfl
theorem jetCheckFailure (dt j chk : Nat) : Statement (.jetCheckFailure dt j chk) := made_by_none rfl
theorem jetSelfTestEnd (dt j : Nat) (pass : Bool) : Statement (.jetSelfTestEnd dt j pass) := made_by_none rfl
theorem jetSwap (dt ag : Nat) : Statement (.jetSwap dt ag) := made_by rfl id
theorem jetRotation (dt : Nat) : Statement (.jetRotation dt) := made_by_none rfl
theorem jetCntClr (dt ag : Nat) : Statement (.jetCntClr dt ag) := made_by rfl id
theorem frameStart (dt p : Nat) : Statement (.frameStart dt p) := made_by_none rfl
theorem frameHeader (dt p : Nat) (hdr : BitVec 64) (good : Bool) : Statement (.frameHeader dt p hdr good) :=
  made_by_none rfl
theorem frameCheck (dt p : Nat) (rest : List Byte) (fcs ending : Nat) : Statement (.frameCheck dt p rest fcs ending) :=
  made_by_none rfl
theorem guardianWindowClose (dt p kind k : Nat) : Statement (.guardianWindowClose dt p kind k) := made_by_none rfl
theorem forwardCopyStart (dt e : Nat) : Statement (.forwardCopyStart dt e) := made_by_none rfl
theorem outputInstant (dt : Nat) : Statement (.outputInstant dt) := made_by_none rfl
theorem commandFrameReceived (dt : Nat) : Statement (.commandFrameReceived dt) := made_by_none rfl
theorem cascadePass (dt : Nat) : Statement (.cascadePass dt) := made_by_none rfl
theorem cascadePassEnd (dt : Nat) : Statement (.cascadePassEnd dt) := made_by_none rfl
theorem pllLock (dt : Nat) : Statement (.pllLock dt) := made_by_none rfl
theorem pllLossOfLock (dt : Nat) (ref : Bool) : Statement (.pllLossOfLock dt ref) := made_by_none rfl
theorem clockWindowEnd (dt count : Nat) : Statement (.clockWindowEnd dt count) := made_by_none rfl
theorem powerOnReset (dt : Nat) : Statement (.powerOnReset dt) := made_by_none rfl
theorem sequencerStart (dt inside : Nat) : Statement (.sequencerStart dt inside) := made_by_none rfl
theorem sequencerStep (dt good : Nat) : Statement (.sequencerStep dt good) := made_by_none rfl
theorem pgTimeout (dt : Nat) : Statement (.pgTimeout dt) := made_by_none rfl
theorem powerDownStep (dt : Nat) : Statement (.powerDownStep dt) := made_by_none rfl
theorem railMeasurement (dt k mv pg : Nat) : Statement (.railMeasurement dt k mv pg) := made_by_none rfl
theorem railFault (dt k : Nat) : Statement (.railFault dt k) := made_by_none rfl
theorem faultWaitEnd (dt : Nat) : Statement (.faultWaitEnd dt) := made_by_none rfl
theorem pmbusPoll (dt : Nat) : Statement (.pmbusPoll dt) := made_by_none rfl
theorem pmbusReply (dt n c data pec : Nat) (ack : Bool) : Statement (.pmbusReply dt n c data pec ack) := made_by_none rfl
theorem pmbAlert (dt : Nat) : Statement (.pmbAlert dt) := made_by_none rfl
theorem resetNLow (dt low : Nat) (still : Bool) : Statement (.resetNLow dt low still) := made_by_none rfl
theorem resetRelease (dt : Nat) : Statement (.resetRelease dt) := made_by_none rfl
theorem softwareResetRequest (dt ag : Nat) : Statement (.softwareResetRequest dt ag) := made_by rfl id
theorem softwareChipReset (dt : Nat) : Statement (.softwareChipReset dt) := made_by_none rfl
theorem weirClose (dt ag k owed : Nat) : Statement (.weirClose dt ag k owed) := made_by rfl (fun w => first w)
theorem weirOpen (dt ag k : Nat) : Statement (.weirOpen dt ag k) := made_by rfl (fun w => first w)
theorem weirCycle (dt ag k owed : Nat) : Statement (.weirCycle dt ag k owed) := made_by rfl (fun w => first w)
theorem weirPowerOff (dt ag k owed : Nat) : Statement (.weirPowerOff dt ag k owed) := made_by rfl (fun w => first w)
theorem weirPowerOn (dt ag k : Nat) : Statement (.weirPowerOn dt ag k) := made_by rfl (fun w => first w)
theorem weirCntClr (dt ag k : Nat) : Statement (.weirCntClr dt ag k) := made_by rfl (fun w => first w)
theorem drainComplete (dt k : Nat) : Statement (.drainComplete dt k) := made_by_none rfl
theorem drainTimeout (dt k : Nat) : Statement (.drainTimeout dt k) := made_by_none rfl
theorem unitPowerUpComplete (dt k : Nat) : Statement (.unitPowerUpComplete dt k) := made_by_none rfl
theorem unitResetComplete (dt k : Nat) (pass : Bool) : Statement (.unitResetComplete dt k pass) := made_by_none rfl
theorem lateReplyDiscard (dt k age : Nat) : Statement (.lateReplyDiscard dt k age) := made_by_none rfl
theorem bootHeaders (dt : Nat) : Statement (.bootHeaders dt) := made_by_none rfl
theorem imageReadComplete (dt : Nat) (reread : List Byte) : Statement (.imageReadComplete dt reread) := made_by_none rfl
theorem unitConfigurationComplete (dt : Nat) (loads : List Machine.Load) (bad logOk : Bool) : Statement (.unitConfigurationComplete dt loads bad logOk) :=
  made_by_none rfl
theorem startupAdmissionComplete (dt : Nat) : Statement (.startupAdmissionComplete dt) := made_by_none rfl
theorem selfTestsComplete (dt sram : Nat) (jets cmps : List Nat) (zones : Nat) : Statement (.selfTestsComplete dt sram jets cmps zones) :=
  made_by_none rfl
theorem imageSwitchGo (dt ag : Nat) (v : Word48) : Statement (.imageSwitchGo dt ag v) := made_by rfl id
theorem imageSwitchCancel (dt ag : Nat) : Statement (.imageSwitchCancel dt ag) := made_by rfl id
theorem imageVerifyComplete (dt : Nat) (loads : List Machine.Load) (logOk : Bool) : Statement (.imageVerifyComplete dt loads logOk) :=
  made_by_none rfl
theorem imageStagingComplete (dt : Nat) : Statement (.imageStagingComplete dt) := made_by_none rfl
theorem imageSwitchDeadline (dt : Nat) : Statement (.imageSwitchDeadline dt) := made_by_none rfl
theorem partnerArmed (dt n digest : Nat) : Statement (.partnerArmed dt n digest) := made_by_none rfl
theorem flashRead (dt ag slot addr : Nat) : Statement (.flashRead dt ag slot addr) := made_by rfl (fun w => first w)
theorem flashProgram (dt ag slot addr : Nat) : Statement (.flashProgram dt ag slot addr) :=
  made_by rfl (fun w => first w)
theorem flashErase (dt ag slot addr : Nat) : Statement (.flashErase dt ag slot addr) := made_by rfl (fun w => first w)
theorem flashOpComplete (dt : Nat) (err : Bool) : Statement (.flashOpComplete dt err) := made_by_none rfl
theorem flashBufWrite (dt ag i : Nat) (v : Word48) : Statement (.flashBufWrite dt ag i v) :=
  made_by rfl (fun w => first w)
theorem arbitrationRequest (dt u r cost : Nat) (serverFree posted : Bool) (ag addr : Nat) : Statement (.arbitrationRequest dt u r cost serverFree posted ag addr) :=
  made_by_none rfl
theorem arbitrationGrant (dt u : Nat) : Statement (.arbitrationGrant dt u) := made_by_none rfl
theorem ageLimitRefusal (dt u : Nat) : Statement (.ageLimitRefusal dt u) := made_by_none rfl
theorem admissionCheckCmd (dt ag : Nat) (v : Word48) : Statement (.admissionCheckCmd dt ag v) := made_by rfl id
theorem admissionCheckComplete (dt : Nat) : Statement (.admissionCheckComplete dt) := made_by_none rfl
theorem reqWaitClr (dt ag u r : Nat) : Statement (.reqWaitClr dt ag u r) := made_by rfl (fun w => first (first w))
theorem boundMissClr (dt ag u : Nat) : Statement (.boundMissClr dt ag u) := made_by rfl (fun w => first w)
theorem vlogClr (dt ag : Nat) : Statement (.vlogClr dt ag) := made_by rfl id
theorem stageRequest (dt ag n : Nat) (v : Word48) : Statement (.stageRequest dt ag n v) :=
  made_by rfl (fun w => first w)
theorem stageCancel (dt ag n : Nat) : Statement (.stageCancel dt ag n) := made_by rfl (fun w => first w)
theorem enable (dt ag n : Nat) : Statement (.enable dt ag n) := made_by rfl (fun w => first w)
theorem disable (dt ag n : Nat) : Statement (.disable dt ag n) := made_by rfl (fun w => first w)
theorem stop (dt ag n : Nat) : Statement (.stop dt ag n) := made_by rfl (fun w => first w)
theorem quickStop (dt ag n : Nat) : Statement (.quickStop dt ag n) := made_by rfl (fun w => first w)
theorem faultReset (dt ag n : Nat) : Statement (.faultReset dt ag n) := made_by rfl (fun w => first w)
theorem ageStatClr (dt ag n : Nat) : Statement (.ageStatClr dt ag n) := made_by rfl (fun w => first w)
theorem vlimCntClr (dt ag n : Nat) : Statement (.vlimCntClr dt ag n) := made_by rfl (fun w => first w)
theorem movePush (dt ag n : Nat) : Statement (.movePush dt ag n) := made_by rfl (fun w => first w)
theorem moveFlush (dt ag n : Nat) : Statement (.moveFlush dt ag n) := made_by rfl (fun w => first w)
theorem changeApply (dt ag n : Nat) : Statement (.changeApply dt ag n) := made_by rfl (fun w => first w)
theorem engage (dt ag n : Nat) : Statement (.engage dt ag n) := made_by rfl (fun w => first w)
theorem disengage (dt ag n : Nat) : Statement (.disengage dt ag n) := made_by rfl (fun w => first w)
theorem camSwitch (dt ag n : Nat) : Statement (.camSwitch dt ag n) := made_by rfl (fun w => first w)
theorem followCancel (dt ag n : Nat) : Statement (.followCancel dt ag n) := made_by rfl (fun w => first w)
theorem groupGo (dt ag g : Nat) : Statement (.groupGo dt ag g) := made_by rfl (fun w => first w)
theorem camDescriptorWrite (dt ag t : Nat) (v : Word48) : Statement (.camDescriptorWrite dt ag t v) :=
  made_by rfl (fun w => first w)
theorem camCheckComplete (dt t : Nat) : Statement (.camCheckComplete dt t) := made_by_none rfl
theorem camStoreWrite (dt ag addr : Nat) (v : BitVec 64) : Statement (.camStoreWrite dt ag addr v) := made_by rfl id
theorem lineMasterPush (dt ag l : Nat) : Statement (.lineMasterPush dt ag l) := made_by rfl (fun w => first w)
theorem lineMasterReanchor (dt ag l : Nat) : Statement (.lineMasterReanchor dt ag l) := made_by rfl (fun w => first w)
theorem lineMasterClear (dt ag l : Nat) : Statement (.lineMasterClear dt ag l) := made_by rfl (fun w => first w)
theorem lineMasterPredict (dt ag l : Nat) (v : Word48) : Statement (.lineMasterPredict dt ag l v) :=
  made_by rfl (fun w => first w)
theorem predictionDone (dt l : Nat) : Statement (.predictionDone dt l) := made_by_none rfl
theorem stopTimeout (dt n : Nat) : Statement (.stopTimeout dt n) := made_by_none rfl
theorem atRestSet (dt n : Nat) : Statement (.atRestSet dt n) := made_by_none rfl
theorem currentReduction (dt n : Nat) : Statement (.currentReduction dt n) := made_by_none rfl
theorem debounceChange (dt n i : Nat) : Statement (.debounceChange dt n i) := made_by_none rfl
theorem limitBlockRelease (dt n i : Nat) : Statement (.limitBlockRelease dt n i) := made_by_none rfl
theorem limitStatClr (dt ag n : Nat) : Statement (.limitStatClr dt ag n) := made_by rfl (fun w => first w)
theorem homingStart (dt ag n : Nat) : Statement (.homingStart dt ag n) := made_by rfl (fun w => first w)
theorem homingAbort (dt ag n : Nat) : Statement (.homingAbort dt ag n) := made_by rfl (fun w => first w)
theorem referenceEdge (dt n i : Nat) (level : Bool) : Statement (.referenceEdge dt n i level) := made_by_none rfl
theorem captureWindowEnd (dt n : Nat) : Statement (.captureWindowEnd dt n) := made_by_none rfl
theorem hardStopDwellEnd (dt n : Nat) : Statement (.hardStopDwellEnd dt n) := made_by_none rfl
theorem encoderEdge (dt c : Nat) (a b : Bool) : Statement (.encoderEdge dt c a b) := made_by_none rfl
theorem hallCodeChange (dt c code : Nat) : Statement (.hallCodeChange dt c code) := made_by_none rfl
theorem indexEvent (dt c : Nat) : Statement (.indexEvent dt c) := made_by_none rfl
theorem serialFrameStart (dt c : Nat) (datLow : Bool) : Statement (.serialFrameStart dt c datLow) := made_by_none rfl
theorem serialFrameComplete (dt c d : Nat) : Statement (.serialFrameComplete dt c d) := made_by_none rfl
theorem serialTimeout (dt c : Nat) : Statement (.serialTimeout dt c) := made_by_none rfl
theorem standstillTimeout (dt c : Nat) : Statement (.standstillTimeout dt c) := made_by_none rfl
theorem chkClr (dt ag n : Nat) : Statement (.chkClr dt ag n) := made_by rfl (fun w => first w)
theorem latchArm (dt ag c l : Nat) : Statement (.latchArm dt ag c l) := made_by rfl (fun w => first (first w))
theorem latchDisarm (dt ag c l : Nat) : Statement (.latchDisarm dt ag c l) := made_by rfl (fun w => first (first w))
theorem latchCapture (dt c l src : Nat) (rising : Bool) : Statement (.latchCapture dt c l src rising) :=
  made_by_none rfl
theorem encErrClr (dt ag c : Nat) : Statement (.encErrClr dt ag c) := made_by rfl (fun w => first w)
theorem pwmPeriodBoundary (dt n : Nat) : Statement (.pwmPeriodBoundary dt n) := made_by_none rfl
theorem shadowWrite (dt ag n which : Nat) (v : Word48) : Statement (.shadowWrite dt ag n which v) :=
  made_by rfl (fun w => first (first w))
theorem channelCommit (dt ag n : Nat) : Statement (.channelCommit dt ag n) := made_by rfl (fun w => first w)
theorem groupCommit (dt ag g : Nat) : Statement (.groupCommit dt ag g) := made_by rfl (fun w => first w)
theorem compareEdge (dt n : Nat) : Statement (.compareEdge dt n) := made_by_none rfl
theorem shootThroughTrip (dt n : Nat) : Statement (.shootThroughTrip dt n) := made_by_none rfl
theorem groupEnable (dt ag g : Nat) : Statement (.groupEnable dt ag g) := made_by rfl (fun w => first w)
theorem groupDisable (dt ag g : Nat) : Statement (.groupDisable dt ag g) := made_by rfl (fun w => first w)
theorem shutdownEnd (dt g : Nat) : Statement (.shutdownEnd dt g) := made_by_none rfl
theorem prechargeCmd (dt ag g : Nat) : Statement (.prechargeCmd dt ag g) := made_by rfl (fun w => first w)
theorem prechargeOnEnd (dt g : Nat) : Statement (.prechargeOnEnd dt g) := made_by_none rfl
theorem prechargeComplete (dt g : Nat) : Statement (.prechargeComplete dt g) := made_by_none rfl
theorem prechargeExpiry (dt g : Nat) : Statement (.prechargeExpiry dt g) := made_by_none rfl
theorem hardTrip (dt k : Nat) (on : Bool) : Statement (.hardTrip dt k on) := made_by_none rfl
theorem fastQualified (dt k : Nat) (on : Bool) : Statement (.fastQualified dt k on) := made_by_none rfl
theorem fastTrip (dt k : Nat) : Statement (.fastTrip dt k) := made_by_none rfl
theorem tripSnapshotClose (dt g : Nat) : Statement (.tripSnapshotClose dt g) := made_by_none rfl
theorem tripClr (dt ag g : Nat) : Statement (.tripClr dt ag g) := made_by rfl (fun w => first w)
theorem sinc3Result (dt i : Nat) (sum : Int) : Statement (.sinc3Result dt i sum) := made_by_none rfl
theorem sinc2Result (dt i : Nat) (sum : Int) : Statement (.sinc2Result dt i sum) := made_by_none rfl
theorem sdStuck (dt i : Nat) : Statement (.sdStuck dt i) := made_by_none rfl
theorem comparatorSelfTest (dt ag k : Nat) : Statement (.comparatorSelfTest dt ag k) := made_by rfl (fun w => first w)
theorem comparatorSelfTestEnd (dt k : Nat) (pass : Bool) : Statement (.comparatorSelfTestEnd dt k pass) :=
  made_by_none rfl
theorem tcCntClr (dt ag n : Nat) : Statement (.tcCntClr dt ag n) := made_by rfl (fun w => first w)
theorem signalDetected (dt p : Nat) : Statement (.signalDetected dt p) := made_by_none rfl
theorem linkAcquired (dt p eq : Nat) : Statement (.linkAcquired dt p eq) := made_by_none rfl
theorem acquireTimeout (dt p : Nat) : Statement (.acquireTimeout dt p) := made_by_none rfl
theorem linkUp (dt p eq : Nat) : Statement (.linkUp dt p eq) := made_by_none rfl
theorem adaptTimeout (dt p : Nat) : Statement (.adaptTimeout dt p) := made_by_none rfl
theorem signalLost (dt p : Nat) : Statement (.signalLost dt p) := made_by_none rfl
theorem codeErrorLimit (dt p : Nat) : Statement (.codeErrorLimit dt p) := made_by_none rfl
theorem retrain (dt ag p : Nat) : Statement (.retrain dt ag p) := made_by rfl (fun w => first w)
theorem portTest (dt ag p mode : Nat) : Statement (.portTest dt ag p mode) := made_by rfl (fun w => first w)
theorem portTestExit (dt ag p : Nat) : Statement (.portTestExit dt ag p) := made_by rfl (fun w => first w)
theorem invalidCodeGroup (dt p kind : Nat) : Statement (.invalidCodeGroup dt p kind) := made_by_none rfl
theorem syncReceived (dt p : Nat) (d : List Byte) (good : Bool) (sub : Nat) : Statement (.syncReceived dt p d good sub) :=
  made_by_none rfl
theorem syncMissing (dt : Nat) (b : Bool) : Statement (.syncMissing dt b) := made_by_none rfl
theorem repeatStart (dt p : Nat) (sync : Bool) (res : Nat) (d : List Byte) (len : Nat) : Statement (.repeatStart dt p sync res d len) :=
  made_by_none rfl
theorem repeatCut (dt o : Nat) : Statement (.repeatCut dt o) := made_by_none rfl
theorem portCntClr (dt ag p : Nat) : Statement (.portCntClr dt ag p) := made_by rfl (fun w => first w)
theorem feedbackFrameSend (dt : Nat) : Statement (.feedbackFrameSend dt) := made_by_none rfl
theorem ownFrameEnd (dt p : Nat) : Statement (.ownFrameEnd dt p) := made_by_none rfl
theorem rangeRequestSend (dt : Nat) (b : Bool) : Statement (.rangeRequestSend dt b) := made_by_none rfl
theorem rangeRequestAdmit (dt p : Nat) : Statement (.rangeRequestAdmit dt p) := made_by_none rfl
theorem rangeResponseSend (dt p : Nat) : Statement (.rangeResponseSend dt p) := made_by_none rfl
theorem rangeResponseReceived (dt sub : Nat) : Statement (.rangeResponseReceived dt sub) := made_by_none rfl
theorem rangingTimeout (dt : Nat) (b : Bool) : Statement (.rangingTimeout dt b) := made_by_none rfl
theorem commandLoss (dt : Nat) : Statement (.commandLoss dt) := made_by_none rfl
theorem flowPost (dt ag f : Nat) (v : Word48) : Statement (.flowPost dt ag f v) := made_by rfl (fun w => first w)
theorem dynamicFrameSend (dt f : Nat) : Statement (.dynamicFrameSend dt f) := made_by_none rfl
theorem uplinkFrameSend (dt : Nat) : Statement (.uplinkFrameSend dt) := made_by_none rfl
theorem dynamicFrameStore (dt : Nat) : Statement (.dynamicFrameStore dt) := made_by_none rfl
theorem serviceRequest (dt : Nat) : Statement (.serviceRequest dt) := made_by_none rfl
theorem serviceResponse (dt : Nat) : Statement (.serviceResponse dt) := made_by_none rfl
theorem netCntClr (dt ag : Nat) : Statement (.netCntClr dt ag) := made_by rfl id
theorem listenEnd (dt : Nat) : Statement (.listenEnd dt) := made_by_none rfl
theorem coldStartComplete (dt : Nat) : Statement (.coldStartComplete dt) := made_by_none rfl
theorem collision (dt id : Nat) : Statement (.collision dt id) := made_by_none rfl
theorem backoffEnd (dt : Nat) : Statement (.backoffEnd dt) := made_by_none rfl
theorem coldStartRetry (dt ag : Nat) : Statement (.coldStartRetry dt ag) := made_by rfl id
theorem coldStartEcho (dt : Nat) : Statement (.coldStartEcho dt) := made_by_none rfl
theorem coldStartBlock (dt id : Nat) : Statement (.coldStartBlock dt id) := made_by_none rfl
theorem foreignHead (dt id : Nat) : Statement (.foreignHead dt id) := made_by_none rfl
theorem statusSend (dt : Nat) : Statement (.statusSend dt) := made_by_none rfl
theorem statusReceived (dt : Nat) : Statement (.statusReceived dt) := made_by_none rfl
theorem digestSend (dt : Nat) : Statement (.digestSend dt) := made_by_none rfl
theorem digestReceived (dt : Nat) : Statement (.digestReceived dt) := made_by_none rfl
theorem digestMiss (dt : Nat) : Statement (.digestMiss dt) := made_by_none rfl
theorem standbyEntry (dt : Nat) : Statement (.standbyEntry dt) := made_by_none rfl
theorem copySend (dt : Nat) : Statement (.copySend dt) := made_by_none rfl
theorem copyLoad (dt : Nat) : Statement (.copyLoad dt) := made_by_none rfl
theorem mirrorReceived (dt : Nat) : Statement (.mirrorReceived dt) := made_by_none rfl
theorem mirrorRetransmit (dt : Nat) : Statement (.mirrorRetransmit dt) := made_by_none rfl
theorem abdication (dt c : Nat) : Statement (.abdication dt c) := made_by_none rfl
theorem handoverArm (dt ag : Nat) : Statement (.handoverArm dt ag) := made_by rfl id
theorem deafnessEvaluation (dt : Nat) : Statement (.deafnessEvaluation dt) := made_by_none rfl
theorem headLinkLoss (dt : Nat) : Statement (.headLinkLoss dt) := made_by_none rfl
theorem resync (dt ag : Nat) : Statement (.resync dt ag) := made_by rfl id
theorem pullSend (dt p : Nat) : Statement (.pullSend dt p) := made_by_none rfl
theorem pullReceived (dt : Nat) : Statement (.pullReceived dt) := made_by_none rfl
theorem twinCntClr (dt ag : Nat) : Statement (.twinCntClr dt ag) := made_by rfl id
theorem ptpPost (dt ag d : Nat) : Statement (.ptpPost dt ag d) := made_by rfl (fun w => first w)
theorem domainTimeout (dt d : Nat) : Statement (.domainTimeout dt d) := made_by_none rfl
theorem domainRevert (dt : Nat) : Statement (.domainRevert dt) := made_by_none rfl
theorem holdoverLimit (dt : Nat) : Statement (.holdoverLimit dt) := made_by_none rfl
theorem timestampRead (dt ag : Nat) : Statement (.timestampRead dt ag) := made_by rfl id
theorem tsqClr (dt ag : Nat) : Statement (.tsqClr dt ag) := made_by rfl id
theorem comparatorArm (dt ag i : Nat) : Statement (.comparatorArm dt ag i) := made_by rfl (fun w => first w)
theorem comparatorDisarm (dt ag i : Nat) : Statement (.comparatorDisarm dt ag i) := made_by rfl (fun w => first w)
theorem comparatorFire (dt : Nat) : Statement (.comparatorFire dt) := made_by_none rfl
theorem pulseEnd (dt i : Nat) : Statement (.pulseEnd dt i) := made_by_none rfl
theorem mirageSample (dt c pins : Nat) : Statement (.mirageSample dt c pins) := made_by_none rfl
theorem absRecord (dt c : Nat) : Statement (.absRecord dt c) := made_by_none rfl
theorem ringStage (dt ag c len : Nat) : Statement (.ringStage dt ag c len) := made_by rfl (fun w => first w)
theorem mirageArm (dt ag c : Nat) : Statement (.mirageArm dt ag c) := made_by rfl (fun w => first w)
theorem mirageDisarm (dt ag c : Nat) : Statement (.mirageDisarm dt ag c) := made_by rfl (fun w => first w)
theorem forceTrig (dt ag c : Nat) : Statement (.forceTrig dt ag c) := made_by rfl (fun w => first w)
theorem rearmHoldEnd (dt c : Nat) : Statement (.rearmHoldEnd dt c) := made_by_none rfl
theorem preEntry (dt c : Nat) : Statement (.preEntry dt c) := made_by_none rfl
theorem triggerAct (dt c : Nat) (rise : Bool) : Statement (.triggerAct dt c rise) := made_by_none rfl
theorem postTimeout (dt c : Nat) : Statement (.postTimeout dt c) := made_by_none rfl
theorem xtlRelease (dt c : Nat) : Statement (.xtlRelease dt c) := made_by_none rfl
theorem streamUpload (dt c : Nat) : Statement (.streamUpload dt c) := made_by_none rfl
theorem uploadComplete (dt c : Nat) : Statement (.uploadComplete dt c) := made_by_none rfl
theorem mirageCntClr (dt ag c : Nat) : Statement (.mirageCntClr dt ag c) := made_by rfl (fun w => first w)
theorem maskCfgWrite (dt ag m : Nat) (v : Word48) : Statement (.maskCfgWrite dt ag m v) :=
  made_by rfl (fun w => first w)
theorem spoutPost (dt ag : Nat) : Statement (.spoutPost dt ag) := made_by rfl id
theorem spoutJobStart (dt : Nat) : Statement (.spoutJobStart dt) := made_by_none rfl
theorem spoutPreemption (dt : Nat) : Statement (.spoutPreemption dt) := made_by_none rfl
theorem spoutJobTimeout (dt : Nat) : Statement (.spoutJobTimeout dt) := made_by_none rfl
theorem extResponse (dt t : Nat) (deny : Bool) : Statement (.extResponse dt t deny) := made_by_none rfl
theorem spoutCntClr (dt ag : Nat) : Statement (.spoutCntClr dt ag) := made_by rfl id
theorem programWordWrite (dt ag addr : Nat) (v : BitVec 64) : Statement (.programWordWrite dt ag addr v) :=
  made_by rfl id
theorem nop (dt : Nat) (ecc : Bool) : Statement (.nop dt ecc) := made_by_none rfl
theorem ld (dt : Nat) (ecc : Bool) : Statement (.ld dt ecc) := made_by_none rfl
theorem st (dt : Nat) (ecc : Bool) : Statement (.st dt ecc) := made_by_none rfl
theorem ldi (dt : Nat) (ecc : Bool) : Statement (.ldi dt ecc) := made_by_none rfl
theorem lpi (dt : Nat) (ecc : Bool) : Statement (.lpi dt ecc) := made_by_none rfl
theorem ldc (dt : Nat) (ecc : Bool) : Statement (.ldc dt ecc) := made_by_none rfl
theorem addp (dt : Nat) (ecc : Bool) : Statement (.addp dt ecc) := made_by_none rfl
theorem mpy (dt : Nat) (ecc : Bool) : Statement (.mpy dt ecc) := made_by_none rfl
theorem mac (dt : Nat) (ecc : Bool) : Statement (.mac dt ecc) := made_by_none rfl
theorem msu (dt : Nat) (ecc : Bool) : Statement (.msu dt ecc) := made_by_none rfl
theorem mxy (dt : Nat) (ecc : Bool) : Statement (.mxy dt ecc) := made_by_none rfl
theorem mxp (dt : Nat) (ecc : Bool) : Statement (.mxp dt ecc) := made_by_none rfl
theorem clr (dt : Nat) (ecc : Bool) : Statement (.clr dt ecc) := made_by_none rfl
theorem seta (dt : Nat) (ecc : Bool) : Statement (.seta dt ecc) := made_by_none rfl
theorem adda (dt : Nat) (ecc : Bool) : Statement (.adda dt ecc) := made_by_none rfl
theorem suba (dt : Nat) (ecc : Bool) : Statement (.suba dt ecc) := made_by_none rfl
theorem ash (dt : Nat) (ecc : Bool) : Statement (.ash dt ecc) := made_by_none rfl
theorem absa (dt : Nat) (ecc : Bool) : Statement (.absa dt ecc) := made_by_none rfl
theorem rnd (dt : Nat) (ecc : Bool) : Statement (.rnd dt ecc) := made_by_none rfl
theorem rnds (dt : Nat) (ecc : Bool) : Statement (.rnds dt ecc) := made_by_none rfl
theorem pkd (dt : Nat) (ecc : Bool) : Statement (.pkd dt ecc) := made_by_none rfl
theorem bfly (dt : Nat) (ecc : Bool) : Statement (.bfly dt ecc) := made_by_none rfl
theorem bscl (dt : Nat) (ecc : Bool) : Statement (.bscl dt ecc) := made_by_none rfl
theorem bclr (dt : Nat) (ecc : Bool) : Statement (.bclr dt ecc) := made_by_none rfl
theorem repeatNext (dt : Nat) (ecc : Bool) : Statement (.repeatNext dt ecc) := made_by_none rfl
theorem doLoop (dt : Nat) (ecc : Bool) : Statement (.doLoop dt ecc) := made_by_none rfl
theorem branch (dt : Nat) (ecc : Bool) : Statement (.branch dt ecc) := made_by_none rfl
theorem halt (dt : Nat) (ecc : Bool) : Statement (.halt dt ecc) := made_by_none rfl
theorem lde (dt : Nat) (ecc : Bool) : Statement (.lde dt ecc) := made_by_none rfl
theorem ste (dt : Nat) (ecc : Bool) : Statement (.ste dt ecc) := made_by_none rfl
theorem illegal (dt : Nat) (ecc : Bool) : Statement (.illegal dt ecc) := made_by_none rfl
theorem dispatchRead (dt ag k : Nat) : Statement (.dispatchRead dt ag k) := made_by rfl (fun w => first w)
theorem dispatchGrant (dt k : Nat) : Statement (.dispatchGrant dt k) := made_by_none rfl
theorem dispatchDeadline (dt k : Nat) : Statement (.dispatchDeadline dt k) := made_by_none rfl
theorem complete (dt ag k : Nat) : Statement (.complete dt ag k) := made_by rfl (fun w => first w)
theorem block (dt ag k mask : Nat) (all : Bool) : Statement (.block dt ag k mask all) :=
  made_by rfl (fun w => first w)
theorem yield (dt ag k : Nat) : Statement (.yield dt ag k) := made_by rfl (fun w => first w)
theorem waitTimeout (dt t : Nat) : Statement (.waitTimeout dt t) := made_by_none rfl
theorem flagSet (dt ag t bits : Nat) : Statement (.flagSet dt ag t bits) := made_by rfl (fun w => first w)
theorem flagClr (dt ag t bits : Nat) : Statement (.flagClr dt ag t bits) := made_by rfl (fun w => first w)
theorem workPost (dt ag : Nat) (v : Word48) : Statement (.workPost dt ag v) := made_by rfl id
theorem caravanStage (dt ag : Nat) (v : Word48) : Statement (.caravanStage dt ag v) := made_by rfl id
theorem machineTimerInterrupt (dt k : Nat) : Statement (.machineTimerInterrupt dt k) := made_by_none rfl
theorem watchdogExpiry (dt k : Nat) : Statement (.watchdogExpiry dt k) := made_by_none rfl
theorem watchdogKick (dt ag k : Nat) (v : Word48) : Statement (.watchdogKick dt ag k v) :=
  made_by rfl (fun w => first w)
theorem mailboxWrite (dt ag n : Nat) (v : Word48) : Statement (.mailboxWrite dt ag n v) :=
  made_by rfl (fun w => first w)
theorem sharedMailboxWrite (dt ag n : Nat) (v : Word48) : Statement (.sharedMailboxWrite dt ag n v) :=
  made_by rfl (fun w => first w)
theorem mailboxRead (dt ag n : Nat) : Statement (.mailboxRead dt ag n) := made_by rfl (fun w => first w)
theorem mailboxTimeout (dt n : Nat) : Statement (.mailboxTimeout dt n) := made_by_none rfl
theorem mailboxWait (dt ag n : Nat) (wait : Bool) : Statement (.mailboxWait dt ag n wait) :=
  made_by rfl (fun w => first w)
theorem crosswaitDetection (dt : Nat) : Statement (.crosswaitDetection dt) := made_by_none rfl
theorem lockRead (dt ag n : Nat) : Statement (.lockRead dt ag n) := made_by rfl (fun w => first w)
theorem lockWrite (dt ag n : Nat) (v : Word48) : Statement (.lockWrite dt ag n v) := made_by rfl (fun w => first w)
theorem lockForce (dt ag n : Nat) (v : Word48) : Statement (.lockForce dt ag n v) := made_by rfl (fun w => first w)
theorem doorbellSet (dt ag a bits : Nat) : Statement (.doorbellSet dt ag a bits) := made_by rfl (fun w => first w)
theorem doorbellClear (dt ag a bits : Nat) : Statement (.doorbellClear dt ag a bits) := made_by rfl (fun w => first w)
theorem safetyTick (dt si rb edm srst : Nat) (mis : Bool) : Statement (.safetyTick dt si rb edm srst mis) :=
  made_by_none rfl
theorem discrepancyFault (dt i : Nat) : Statement (.discrepancyFault dt i) := made_by_none rfl
theorem ss1Timeout (dt z : Nat) : Statement (.ss1Timeout dt z) := made_by_none rfl
theorem testPulse (dt o : Nat) (high pass : Bool) : Statement (.testPulse dt o high pass) := made_by_none rfl
theorem edmTimeout (dt o : Nat) : Statement (.edmTimeout dt o) := made_by_none rfl
theorem slsDelayEnd (dt z : Nat) : Statement (.slsDelayEnd dt z) := made_by_none rfl
theorem slsWindowEnd (dt c : Nat) : Statement (.slsWindowEnd dt c) := made_by_none rfl
theorem srstEdge (dt : Nat) : Statement (.srstEdge dt) := made_by_none rfl
theorem srstStuck (dt : Nat) : Statement (.srstStuck dt) := made_by_none rfl
theorem oasisRailFault (dt : Nat) (out : Bool) : Statement (.oasisRailFault dt out) := made_by_none rfl
theorem containerReceived (dt : Nat) : Statement (.containerReceived dt) := made_by_none rfl
theorem connectionWatchdog (dt c : Nat) : Statement (.connectionWatchdog dt c) := made_by_none rfl
theorem zoneRequest (dt ag z : Nat) (v : Word48) : Statement (.zoneRequest dt ag z v) :=
  made_by rfl (fun w => first w)
theorem passwordPresent (dt ag : Nat) (v : Word48) : Statement (.passwordPresent dt ag v) := made_by rfl id
theorem passwordClear (dt ag : Nat) : Statement (.passwordClear dt ag) := made_by rfl id
theorem passwordExpiry (dt : Nat) : Statement (.passwordExpiry dt) := made_by_none rfl
theorem presentLockEnd (dt : Nat) : Statement (.presentLockEnd dt) := made_by_none rfl
theorem slsPeakClr (dt ag c : Nat) : Statement (.slsPeakClr dt ag c) := made_by rfl (fun w => first w)
theorem pcieRequest (dt op addr len : Nat) (data : List Byte) : Statement (.pcieRequest dt op addr len data) :=
  made_by_none rfl
theorem pcieLinkReset (dt kind : Nat) : Statement (.pcieLinkReset dt kind) := made_by_none rfl
theorem perst (dt : Nat) (level : Bool) : Statement (.perst dt level) := made_by_none rfl
theorem dmaPost (dt ag c : Nat) (v : Word48) : Statement (.dmaPost dt ag c v) := made_by rfl (fun w => first w)
theorem dmaEnable (dt ag c : Nat) (v : Word48) : Statement (.dmaEnable dt ag c v) := made_by rfl (fun w => first w)
theorem dmaTransferStart (dt c : Nat) (own : Bool) : Statement (.dmaTransferStart dt c own) := made_by_none rfl
theorem dmaBufferReturn (dt c addr len : Nat) (irq own : Bool) : Statement (.dmaBufferReturn dt c addr len irq own) :=
  made_by_none rfl
theorem spiRead (dt count addr : Nat) : Statement (.spiRead dt count addr) := made_by_none rfl
theorem spiQread (dt count addr : Nat) : Statement (.spiQread dt count addr) := made_by_none rfl
theorem spiWrite (dt addr : Nat) (data : List Nat) : Statement (.spiWrite dt addr data) := made_by_none rfl
theorem spiQwrite (dt addr : Nat) (data : List Nat) : Statement (.spiQwrite dt addr data) := made_by_none rfl
theorem spiUnknownCommand (dt : Nat) : Statement (.spiUnknownCommand dt) := made_by_none rfl
theorem spiCsAbort (dt : Nat) (write : Bool) (count addr : Nat) (data : List Nat) : Statement (.spiCsAbort dt write count addr data) :=
  made_by_none rfl
theorem spiVlogClr (dt ag : Nat) : Statement (.spiVlogClr dt ag) := made_by rfl id
theorem ethFrameReceived (dt p ago : Nat) (data : List Byte) : Statement (.ethFrameReceived dt p ago data) :=
  made_by_none rfl
theorem ethTxPost (dt ag p : Nat) (v : Word48) : Statement (.ethTxPost dt ag p v) := made_by rfl (fun w => first w)
theorem ethFrameSent (dt p ago : Nat) : Statement (.ethFrameSent dt p ago) := made_by_none rfl
theorem ethLinkChange (dt p : Nat) (up : Bool) : Statement (.ethLinkChange dt p up) := made_by_none rfl
theorem ethCntClr (dt ag p : Nat) : Statement (.ethCntClr dt ag p) := made_by rfl (fun w => first w)
theorem idcode (dt : Nat) : Statement (.idcode dt) := made_by_none rfl
theorem samplePreload (dt pattern : Nat) : Statement (.samplePreload dt pattern) := made_by_none rfl
theorem extest (dt : Nat) : Statement (.extest dt) := made_by_none rfl
theorem extestPulse (dt : Nat) : Statement (.extestPulse dt) := made_by_none rfl
theorem extestTrain (dt : Nat) : Statement (.extestTrain dt) := made_by_none rfl
theorem clamp (dt : Nat) : Statement (.clamp dt) := made_by_none rfl
theorem highz (dt : Nat) : Statement (.highz dt) := made_by_none rfl
theorem dbgAccess (dt : Nat) : Statement (.dbgAccess dt) := made_by_none rfl
theorem debugSlotAccess (dt op addr : Nat) (v : Word48) : Statement (.debugSlotAccess dt op addr v) :=
  made_by_none rfl
theorem fuseProg (dt hash back : Nat) : Statement (.fuseProg dt hash back) := made_by_none rfl
theorem bypass (dt : Nat) : Statement (.bypass dt) := made_by_none rfl
theorem tapReset (dt : Nat) : Statement (.tapReset dt) := made_by_none rfl
theorem temperatureReading (dt : Nat) (tj : Int) : Statement (.temperatureReading dt tj) := made_by_none rfl
theorem tjMaxClr (dt ag : Nat) : Statement (.tjMaxClr dt ag) := made_by rfl id
theorem stagedBankWrite (dt ag addr : Nat) (v : BitVec 64) : Statement (.stagedBankWrite dt ag addr v) :=
  made_by rfl id
theorem lineTimeLocked (dt : Nat) : Statement (.lineTimeLocked dt) := made_by_none rfl
theorem idleReceived (dt p : Nat) : Statement (.idleReceived dt p) := made_by_none rfl
theorem guardianWindowOpen (dt p : Nat) : Statement (.guardianWindowOpen dt p) := made_by_none rfl
theorem headBlocked (dt : Nat) : Statement (.headBlocked dt) := made_by_none rfl
theorem perstRelease (dt : Nat) : Statement (.perstRelease dt) := made_by_none rfl
theorem pcieLinkUp (dt speed width : Nat) : Statement (.pcieLinkUp dt speed width) := made_by_none rfl
theorem bufferLent (dt c : Nat) : Statement (.bufferLent dt c) := made_by_none rfl

end Sys2Proof.Laws.Agents
end

