-- ==== Sys2Proof/Tests/Slice0.lean ====
section
/-! SUPPORT. Tests: ill-formed commands, the decoder's refusal, one step of a few commands with values worked out from the
spec, and for every statement with hypotheses a concrete case that meets them (proof witnesses; no statement of their own). -/
namespace Sys2Proof.Tests
open Sys2Proof Sys2Proof.Machine

section
set_option Elab.async false
set_option maxRecDepth 10000

/-- The state after reset, out of reset and with the root PLL locked. -/
def awake : State :=
  { State.reset with power := { State.reset.power with inReset := false } }.setFlag .sysClkStat fSysClkStat_LOCK true

/-- The chip awake, with the weir of a register open. -/
def opened (r : Reg) : State :=
  match r.weir with
  | some k => awake.setFld (.sysWeir k) fSysWeir_STATE 0
  | none => awake

/-- Whether a register stands in the map. -/
def mappedB (r : Reg) : Bool := decide (r.addr < 0x1000000) && r.addr % 8 == 0 && decide (Reg.ofAddr r.addr = some r)

theorem mapped_of {r : Reg} (h : mappedB r = true) : r.mapped := by
  simpa [mappedB, Reg.mapped, and_assoc] using h

theorem accepts_of {s : State} {ag : Nat} {r : Reg} {v : Word48}
    (h : (s.issues ag && mappedB r && !(s.settleReg r).regAbsent r &&
      decide ((s.settleReg r).writeRefuse ag r v = [])) = true) : s.accepts ag r v := by
  simp only [Bool.and_eq_true, Bool.not_eq_true', decide_eq_true_eq] at h
  exact ⟨h.1.1.1, mapped_of h.1.1.2, h.1.2, h.2⟩

theorem refuses_of {s : State} {ag : Nat} {r : Reg} {v : Word48} {c : Nat}
    (h : (s.issues ag && mappedB r && decide (c ≠ cOK) && decide (lowestCode ((s.settleReg r).writeRefuse ag r v) = c)) = true) :
    s.refuses ag r v c := by
  simp only [Bool.and_eq_true, decide_eq_true_eq] at h
  exact ⟨h.1.1.1, mapped_of h.1.1.2, h.1.2, h.2⟩

theorem readable_of {s : State} {ag : Nat} {r : Reg}
    (h : (s.issues ag && mappedB r && decide ((s.settleReg r).readRefuse ag r = [])) = true) : s.readable ag r := by
  simp only [Bool.and_eq_true, decide_eq_true_eq] at h
  exact ⟨h.1.1, mapped_of h.1.2, h.2⟩

/-! ### Ill-formed commands and the decoder -/

/-- One ill-formed command for each index check: the first value outside its range. -/
theorem test_ill_formed : ([
    .registerWrite 0 17 0 0,
    .spiRead 0 33 0,
    .scheduledTaskRelease 0 192,
    .mailboxWrite 0 1 64 0,
    .flashBufWrite 0 1 64 0,
    .camDescriptorWrite 0 1 64 0,
    .hardTrip 0 36 false,
    .connectionWatchdog 0 192,
    .dispatchRead 0 1 8,
    .dmaPost 0 1 4 0,
    .ptpPost 0 1 2,
    .repeatStart 0 4 false 0 [] 0,
    .encoderEdge 0 12 false false,
    .ethFrameReceived 0 2 0 [],
    .flowPost 0 1 192 0,
    .forwardCopyStart 0 192,
    .groupCommit 0 1 12,
    .discrepancyFault 0 16,
    .jetTaskEnd 0 17 false,
    .latchArm 0 1 0 2,
    .debounceChange 0 0 3,
    .pmbusReply 0 0 4 0 0 true,
    .lockRead 0 1 64,
    .maskCfgWrite 0 1 8 0,
    .mirageSample 0 32 0,
    .groupGo 0 1 32,
    .commandFrameLaunch 0 128,
    .testPulse 0 8 false false,
    .feedbackRecordComplete 0 66 0,
    .railMeasurement 0 7 0 1,
    .pmbusReply 0 8 0 0 0 true,
    .arbitrationRequest 0 0 192 0 false false 0 0,
    .sinc3Result 0 48 0,
    .flashRead 0 1 2 0,
    .slsWindowEnd 0 12,
    .extResponse 0 128 false,
    .pwmPeriodBoundary 0 48,
    .comparatorArm 0 1 32,
    .arbitrationRequest 0 9 0 0 false false 0 0,
    .weirClose 0 1 508 0,
    .doorbellSet 0 1 17 0,
    .narrowAccess 0 1 0 3 0 0,
    .narrowAccess 0 1 0 2 5 0,
    .ss1Timeout 0 8] : List Instr).any Instr.wf = false := by decide +kernel

/-- A transaction of more bytes than its COUNT may give. -/
theorem test_ill_formed_count : Instr.wf (.spiWrite 0 0 (List.replicate 33 0)) = false := by decide

/-- The same commands with the index in range are well formed. -/
theorem test_well_formed : ([
    .registerWrite 0 1 0 0,
    .spiRead 0 1 0,
    .scheduledTaskRelease 0 0,
    .mailboxWrite 0 1 0 0,
    .flashBufWrite 0 1 0 0,
    .camDescriptorWrite 0 1 0 0,
    .hardTrip 0 0 false,
    .connectionWatchdog 0 0,
    .dispatchRead 0 1 0,
    .dmaPost 0 1 0 0,
    .ptpPost 0 1 0,
    .repeatStart 0 0 false 0 [] 0,
    .encoderEdge 0 0 false false,
    .ethFrameReceived 0 0 0 [],
    .flowPost 0 1 0 0,
    .forwardCopyStart 0 0,
    .groupCommit 0 1 0,
    .discrepancyFault 0 0,
    .jetTaskEnd 0 0 false,
    .latchArm 0 1 0 0,
    .debounceChange 0 0 0,
    .pmbusReply 0 0 0 0 0 true,
    .lockRead 0 1 0,
    .maskCfgWrite 0 1 0 0,
    .mirageSample 0 0 0,
    .groupGo 0 1 0,
    .commandFrameLaunch 0 0,
    .testPulse 0 0 false false,
    .feedbackRecordComplete 0 0 0,
    .railMeasurement 0 0 0 1,
    .pmbusReply 0 0 0 0 0 true,
    .arbitrationRequest 0 0 0 0 false false 0 0,
    .sinc3Result 0 0 0,
    .flashRead 0 1 0 0,
    .slsWindowEnd 0 0,
    .extResponse 0 0 false,
    .pwmPeriodBoundary 0 0,
    .comparatorArm 0 1 0,
    .arbitrationRequest 0 0 0 0 false false 0 0,
    .weirClose 0 1 0 0,
    .doorbellSet 0 1 16 0,
    .narrowAccess 0 1 0 2 4 0,
    .ss1Timeout 0 0] : List Instr).all Instr.wf = true := by decide +kernel

/-- No row of the opcode table has bits: no word spells a command. -/
theorem test_no_word_decodes : decodeTableWord 8 0 = none ∧ decodeTableWord 64 0xFFFF = none := by decide

/-! ### Values the spec gives -/

/-- The bytes of the text 123456789. -/
def digits : List Byte := [0x31, 0x32, 0x33, 0x34, 0x35, 0x36, 0x37, 0x38, 0x39]

/-- The check value of R91. -/
theorem test_crc32c : crc32c digits = 0xE3069283 := by decide +kernel

/-- The check values of R417. -/
theorem test_crc8_fcs : crc8 digits = 0xF4 ∧ fcs32 digits = 0xCBF43926 := by decide +kernel

/-- Weir 278 OPEN at epoch 4, as in the worked example of 02_clocks_power_weirs.md. -/
def core3Open : State :=
  ((awake.setFld .sysBootStat fSysBootStat_STAGE stRUNNING).setFld (.sysWeir 278) fSysWeir_STATE 0).setFld
    (.sysWeir 278) fSysWeir_EPOCH 4

/-- What a field reads after one command, 512 where it does not answer a next state. -/
def after (c : Instr) (s : State) (r : Reg) (f : Fld) : Nat :=
  match exec c s with
  | .next t => t.fld r f
  | _ => 512

/-- The code an agent is answered after one command. -/
def codeAfter (c : Instr) (s : State) (ag : Nat) : Nat :=
  match exec c s with
  | .next t => (t.agent ag).code
  | _ => 512

/-- The worked example: the PCIe host's CLOSE answers OK and the weir drains. -/
theorem test_weir_close : after (.weirClose 0 9 278 1) core3Open (.sysWeir 278) fSysWeir_STATE = 1 ∧
    codeAfter (.weirClose 0 9 278 1) core3Open 9 = cOK := by decide +kernel

/-- Weir 278 in its reset, with OPEN ordered during the drain. -/
def core3Resets : State :=
  ((core3Open.setFld (.sysWeir 278) fSysWeir_STATE 3).setFld (.sysWeir 278) fSysWeir_RESTART_PENDING 1).setWeirH 278
    { phase := phRESET }

/-- The worked example: the reset's end opens the weir at epoch 5 and clears RESTART_PENDING. -/
theorem test_weir_reopens :
    after (.unitResetComplete 1000000 278 true) core3Resets (.sysWeir 278) fSysWeir_EPOCH = 5 ∧
    after (.unitResetComplete 1000000 278 true) core3Resets (.sysWeir 278) fSysWeir_STATE = 0 ∧
    after (.unitResetComplete 1000000 278 true) core3Resets (.sysWeir 278) fSysWeir_RESTART_PENDING = 0 := by
  decide +kernel

/-- R75: a core may not close its own weir. -/
theorem test_weir_own_close : codeAfter (.weirClose 0 4 278 0) core3Open 4 = cACCESS := by decide +kernel

/-- R604: a lock is not freed by an agent that does not own it; R603: a read by another agent counts in CONTEND. -/
theorem test_lock : codeAfter (.lockWrite 0 10 5 0) (awake.setFld (.lkStat 5) fLkStat_OWNER 2) 10 = cLOCKED ∧
    after (.lockRead 0 10 5) (awake.setFld (.lkStat 5) fLkStat_OWNER 2) (.lkStat 5) fLkStat_CONTEND = 1 ∧
    after (.lockRead 0 10 5) awake (.lkStat 5) fLkStat_OWNER = 10 := by decide +kernel

/-- R12: among the codes met the lowest is answered (WORK_POST behind a closed weir, to a task not used). -/
theorem test_lowest_code : codeAfter (.workPost 0 9 0) awake 9 = cACCESS := by decide +kernel


/-- The examples of reduce in 06_jets.md: the values and the saturation of the last. -/
theorem test_reduce : ([0x1800000, 0x2800000, 0x2800001, -0x1800000, 2 ^ 47] : List Int).map (fun a =>
    (((reduce a 24 24).run {}).1, ((reduce a 24 24).run {}).2.sat)) =
    [(2, false), (2, false), (3, false), (-2, false), (0x7FFFFF, true)] := by decide +kernel

/-- The worked example of 10_feedback.md: edges at 100,000 and 300,000 ns, sampled at 312,500 ns in a cycle of 15,625 ns; and
after the reversal edge at 600,000 ns the one at 760,000 ns, sampled at 765,625 ns, the tick before it. -/
theorem test_edge_speed :
    (edgeEstimate { dir := 1, dc := 1, tLast := some 150000, tRef := some 50000 } 156250 5000000 31250).1 = 1310720 ∧
    (edgeEstimate { dir := -1, dc := 1, tLast := some 380000, tRef := some 300000 } 382812 5000000 31250).1 = -1638400 := by
  decide +kernel

/-- The cam points of table 0 of the knife in 08_profiles_cams.md. -/
def knife : List CamPt := camChain (0, 0) (0, 0) [(0, 0, 0x10C6F7A), (15625, 16384, 0x10C6F7A), (300000, 262144, 0x10C6F7A)]

/-- The knife at the start of its synchronous segment: 549,755,812, a tie to even; in mid-product a slope of 0.7720. -/
theorem test_knife : roundEven ((camEval knife 0).2.1 * 524288000) = 549755812 ∧
    roundEven ((camEval knife (157812 + 1 / 2)).2.1 * 10000) = 7720 := by decide +kernel

/-- The window of axis 17 begins at 0x0008_4400 and that of axis 191 ends at 0x000A_FFFF (01_architecture.md). -/
theorem test_axis_window : (Reg.axsCfg 17).addr = 0x84408 ∧ (Reg.axsCfg 191).addr < 0xB0000 := by decide

/-! ### Cases that meet the hypotheses of the statements -/

/-- StepRunsCommand: a state with a command waiting. -/
theorem witness_StepRunsCommand : ∃ (c : Instr) (l : List Instr) (s : State), s.pending = c :: l :=
  ⟨.lockRead 0 1 0, [], { State.reset with pending := [.lockRead 0 1 0] }, rfl⟩

/-- EmptyQueueIdles: the state after reset. -/
theorem witness_EmptyQueueIdles : ∃ s : State, s.pending = [] := ⟨State.reset, rfl⟩

/-- MemoryStaysCanonical: a canonical memory and a step that answers a next state. -/
theorem witness_MemoryStaysCanonical : ∃ s t : State, Memory.wf s.mem = true ∧ step s = .next t :=
  ⟨{ State.reset.setByte 0x1180000 1 with pending := [.lockRead 0 1 0] }, _, by decide, rfl⟩

/-- The chip awake, with core 1 running. -/
def core1Runs : State := awake.setFld (.sysWeir 276) fSysWeir_STATE 0

/-- WritesTakeEffectWholeOrNotAtAll: a refused write of a plain register, of SLU.POST and of DONE; an accepted write; a write of a
register that the role leaves out. -/
theorem witness_WritesTakeEffectWholeOrNotAtAll :
    ((Instr.registerWrite 0 9 0x8 5).writes (awake.elapse 0) = some (9, .sysUidLo, 5) ∧
      (awake.elapse 0).refuses 9 .sysUidLo 5 cACCESS ∧ RegName.sysUidLo ≠ .sluPost ∧ RegName.sysUidLo ≠ .coreDone) ∧
    ((Instr.workPost 0 9 0).writes (awake.elapse 0) = some (9, .sluPost, 0) ∧
      (awake.elapse 0).refuses 9 .sluPost 0 cACCESS) ∧
    (∃ v, (Instr.complete 0 2 0).writes (core1Runs.elapse 0) = some (2, .coreDone 0, v) ∧
      (core1Runs.elapse 0).refuses 2 (.coreDone 0) v cACCESS ∧ cACCESS ≠ cOFFLINE) ∧
    (∃ v, (Instr.vlogClr 0 9).writes (awake.elapse 0) = some (9, .sysVlogCtl, v) ∧
      (awake.elapse 0).accepts 9 .sysVlogCtl v) ∧
    (∃ v, (Instr.twinCntClr 0 9).writes (awake.elapse 0) = some (9, .twnCtl, v) ∧ (awake.elapse 0).issues 9 = true ∧
      Reg.twnCtl.mapped ∧ ((awake.elapse 0).settleReg .twnCtl).regAbsent .twnCtl = true ∧ ∃ f ∈ Reg.twnCtl.fields, f.acc ≠ .ro) :=
  ⟨⟨rfl, refuses_of (by decide +kernel), by decide, by decide⟩, ⟨rfl, refuses_of (by decide +kernel)⟩,
    ⟨_, rfl, refuses_of (by decide +kernel), by decide⟩, ⟨_, rfl, accepts_of (by decide +kernel)⟩,
    _, rfl, by decide +kernel, mapped_of (by decide +kernel), rfl, by decide⟩

/-- RegisterWritesStoreNothing. -/
theorem witness_RegisterWritesStoreNothing : ∃ (c : Instr) (s t : State) (ag : Nat) (r : Reg) (v : Word48),
    c.writes (s.elapse c.ticks) = some (ag, r, v) ∧ r.mapped ∧ r.name ≠ .coreDone ∧ r.name ≠ .sysWeir ∧
      r.name ≠ .axsMvCtl ∧ r.name ≠ .sysImgCtl ∧ exec c s = .next t :=
  ⟨.lockWrite 0 9 0 0, awake, _, _, _, _, rfl, mapped_of (by decide +kernel), by decide, by decide, by decide, by decide, rfl⟩

/-- EventsStoreNothing. -/
theorem witness_EventsStoreNothing : ∃ (c : Instr) (s t : State), c.storesNothing = true ∧ exec c s = .next t :=
  ⟨.syncOutPulseEnd 0, State.reset, _, rfl, rfl⟩

/-- LowestRefusalCodeIsAnswered: a post to a task that is not used, behind a closed weir, meets two conditions. -/
theorem witness_LowestRefusalCodeIsAnswered :
    (Instr.workPost 0 9 0).writes (awake.elapse 0) = some (9, .sluPost, 0) ∧ (awake.elapse 0).issues 9 = true ∧
      Reg.sluPost.mapped ∧ ((awake.elapse 0).settleReg .sluPost).writeRefuse 9 .sluPost 0 = [cOFFLINE, cACCESS] :=
  ⟨rfl, by decide +kernel, mapped_of (by decide +kernel), by decide +kernel⟩

/-- WriteToReadOnlyRegisterIsRefused. -/
theorem witness_WriteToReadOnlyRegisterIsRefused :
    (Instr.registerWrite 0 9 0x8 5).writes (awake.elapse 0) = some (9, .sysUidLo, 5) ∧ (awake.elapse 0).issues 9 = true ∧
      Reg.sysUidLo.mapped ∧ ∀ f ∈ Reg.sysUidLo.fields, f.acc = .ro :=
  ⟨rfl, by decide +kernel, mapped_of (by decide +kernel), by decide⟩

/-- WriteLeavesReadOnlyFields: fields of each access code, and reserved bits. -/
theorem witness_WriteLeavesReadOnlyFields :
    (⟨fSysWeir_EPOCH, .ro, 0⟩ ∈ (Reg.sysWeir 0).fields) ∧ (⟨fSysWeir_CMD, .wo, 0⟩ ∈ (Reg.sysWeir 0).fields) ∧
    (∀ f ∈ Reg.sysRole.fields, f.fld.apart ⟨47, 1⟩ = true) ∧ (⟨fPortCtl_EV_DOWN, .rw, 0⟩ ∈ (Reg.portCtl 0).fields) ∧
    (⟨fPortCtl_TEST, .rwl, 0⟩ ∈ (Reg.portCtl 0).fields) ∧
    (⟨fSysWeir_DRAIN_FORCED, .w1c, 0⟩ ∈ (Reg.sysWeir 0).fields) :=
  by decide

/-- AddressDecodesToItsRegister. -/
theorem witness_AddressDecodesToItsRegister : Reg.ofAddr 0x8 = some .sysUidLo := rfl

/-- LowWordReadLatchesHighWord: each clause. -/
theorem witness_LowWordReadLatchesHighWord :
    (Reg.sysRole.addr = 0x18 ∧ isDispatch 0x18 = false ∧ (awake.elapse 0).readable 9 .sysRole) ∧
    (((awake.setAgent 9 { latch := some (0x18, 5) }).elapse 0).issues 9 = true ∧ 0x18 < 0x1000000 ∧ 0x18 % 8 = 0 ∧
      (((awake.setAgent 9 { latch := some (0x18, 5) }).elapse 0).agent 9).latch = some (0x18, 5)) ∧
    (∀ n, ((awake.elapse 0).agent 9).latch ≠ some (0x18, n)) :=
  ⟨⟨rfl, rfl, readable_of (by decide +kernel)⟩, ⟨by decide +kernel, by decide, by decide, rfl⟩, fun n h => by cases h⟩

/-- LowWordIsStagedForHighWordWrite: each clause. -/
theorem witness_LowWordIsStagedForHighWordWrite :
    ((awake.elapse 0).issues 9 = true ∧ Reg.sysRole.addr = 0x18 ∧ Reg.sysRole.mapped) ∧
    (((awake.setAgent 9 { staged := some (0x18, 5, false) }).elapse 0).agent 9).staged = some (0x18, 5, false) ∧
    (∀ n b, ((awake.elapse 0).agent 9).staged ≠ some (0x18, n, b)) :=
  ⟨⟨by decide +kernel, rfl, mapped_of (by decide +kernel)⟩, rfl, fun n b h => by cases h⟩

/-- LockIsFreedByItsOwnerOrByForce: each clause, at the last lock. -/
theorem witness_LockIsFreedByItsOwnerOrByForce :
    (63 < 64 ∧ (awake.elapse 0).issues 10 = true ∧ (awake.setFld (.lkStat 63) fLkStat_OWNER 5).fld (.lkStat 63) fLkStat_OWNER = 5) ∧
    awake.fld (.lkStat 63) fLkStat_OWNER ≠ 5 ∧
    (let v := wordPut (wordPut 0 fLkStat_FORCE 1) fLkStat_KEY 0xC1EA
     wordFld v fLkStat_FORCE = 1 ∧ wordFld v fLkStat_KEY = 0xC1EA ∧ (1 ≤ 10 ∧ 10 ≤ 10 ∨ 10 = 16)) ∧
    ¬(wordFld 0 fLkStat_FORCE = 1 ∧ wordFld 0 fLkStat_KEY = 0xC1EA ∧ (1 ≤ 16 ∧ 16 ≤ 10 ∨ 16 = 16)) :=
  ⟨by decide +kernel, by decide +kernel, by decide +kernel, by decide +kernel⟩

/-- LockReadAcquiresAFreeLock: free, owned by the reader, owned by another. -/
theorem witness_LockReadAcquiresAFreeLock :
    (awake.elapse 0).issues 31 = true ∧ 63 < 64 ∧ 1 ≤ 31 ∧ 31 < 32 ∧ State.reset.fld (.lkStat 63) fLkStat_OWNER = 0 ∧
    (State.reset.setFld (.lkStat 63) fLkStat_OWNER 31).fld (.lkStat 63) fLkStat_OWNER = 31 ∧
    ((State.reset.setFld (.lkStat 63) fLkStat_OWNER 7).fld (.lkStat 63) fLkStat_OWNER ≠ 0 ∧
      (State.reset.setFld (.lkStat 63) fLkStat_OWNER 7).fld (.lkStat 63) fLkStat_OWNER ≠ 31) :=
  by decide +kernel

/-- DoorbellsAreRungAndCleared: each clause at its last agent and its widest mask. -/
theorem witness_DoorbellsAreRungAndCleared :
    (awake.elapse 0).issues 16 = true ∧ (1 ≤ 16 ∧ 16 ≤ 16 ∧ 65535 < 2 ^ 16) ∧ (1 ≤ 1 ∧ 1 ≤ 16) ∧
      (2 ≠ 16 ∧ 0 < 1 ∧ 1 < 2 ^ 16) := by decide +kernel

/-- ResetPulseLengthDecides: the two bounds, and the pin low. -/
theorem witness_ResetPulseLengthDecides : awake.power.rstLow = false ∧ 49 < 50 ∧ 500 ≤ 500 ∧
    (awake.setRstLow true).power.rstLow = true := by decide +kernel

/-- ClockWindowJudgesTheCount: the bounds of the count. -/
theorem witness_ClockWindowJudgesTheCount :
    (22800 ≤ 22800 ∧ 28900 ≤ 28900) ∧ 22799 < 22800 ∧ 28900 < 28901 := by decide

/-- TickCounterStartsAtPllLock: a state before the lock, a running counter, and one at its last value. -/
theorem witness_TickCounterStartsAtPllLock :
    (∃ s : State, s.power.inReset = false ∧ s.fld .sysClkStat fSysClkStat_LOCK = 0 ∧
      s.fld .sysBootStat fSysBootStat_STAGE = 1) ∧
    (∃ s : State, s.t48 = BitVec.ofNat 48 (2 ^ 48 - 1) ∧ s.t48Runs = true ∧ s.pending = []) :=
  ⟨⟨{ State.reset.setFld .sysBootStat fSysBootStat_STAGE 1 with power := { inReset := false } }, rfl, by decide +kernel,
      by decide +kernel⟩,
    ⟨{ State.reset with t48 := BitVec.ofNat 48 (2 ^ 48 - 1), t48Runs := true }, rfl, rfl, rfl⟩⟩

/-- KeyHashIsFusedOnlyOnceInRecovery: fused before, and unfused in RECOVERY. -/
theorem witness_KeyHashIsFusedOnlyOnceInRecovery :
    (State.reset.setFld .sysBootStat fSysBootStat_KEY_FUSED 1).fld .sysBootStat fSysBootStat_KEY_FUSED ≠ 0 ∧
    (let s := State.reset.setFld .sysBootStat fSysBootStat_STAGE 9
     s.fld .sysBootStat fSysBootStat_KEY_FUSED = 0 ∧ s.fld .sysBootStat fSysBootStat_STAGE = 9) :=
  by decide +kernel

/-- BoundaryScanActsOnlyWhenStopped: the stages on both sides. -/
theorem witness_BoundaryScanActsOnlyWhenStopped :
    (State.reset.setFld .sysBootStat fSysBootStat_STAGE 9).fld .sysBootStat fSysBootStat_STAGE = 9 ∧
    (State.reset.setFld .sysBootStat fSysBootStat_STAGE 10).fld .sysBootStat fSysBootStat_STAGE = 10 ∧
    (State.reset.setFld .sysBootStat fSysBootStat_STAGE 8).fld .sysBootStat fSysBootStat_STAGE = 8 :=
  by decide +kernel

/-- ReceiverReadEmptiesTheBox: the receiver of a full box, of an empty one, and another agent, at the last box. -/
theorem witness_ReceiverReadEmptiesTheBox :
    (let s := (awake.setFld (.mbCfg 63) fMbCfg_RECEIVER 31).setFld (.mbStat 63) fMbStat_FULL 1
     (s.elapse 0).issues 31 = true ∧ 63 < 64 ∧ 31 < 32 ∧ s.fld (.mbCfg 63) fMbCfg_RECEIVER = 31 ∧ s.fld (.mbStat 63) fMbStat_FULL = 1) ∧
    (State.reset.setFld (.mbCfg 63) fMbCfg_RECEIVER 31).fld (.mbStat 63) fMbStat_FULL = 0 ∧
    (State.reset.setFld (.mbCfg 63) fMbCfg_RECEIVER 31).fld (.mbCfg 63) fMbCfg_RECEIVER ≠ 1 :=
  by decide +kernel

/-- DispatchReadIsForItsOwnIdleCore: another agent, a core that holds a task, an idle core, at the last core. -/
theorem witness_DispatchReadIsForItsOwnIdleCore :
    ((awake.setFld (.sysWeir 282) fSysWeir_STATE 0).elapse 0).issues (7 + 1) = true ∧ (awake.elapse 0).issues 9 = true ∧
    7 < 8 ∧ 9 ≠ 7 + 1 ∧ (State.reset.setFld (.coreStat 7) fCoreStat_HOLD 1).fld (.coreStat 7) fCoreStat_HOLD = 1 ∧
    State.reset.fld (.coreStat 7) fCoreStat_HOLD = 0 :=
  by decide +kernel

/-- AxisCommandsRankByPrecedence: an open weir, and each outcome. -/
theorem witness_AxisCommandsRankByPrecedence :
    (let s := opened (.axsCmd 191)
     (s.elapse 0).issues 9 = true ∧ s.twin = false ∧ s.weirState 191 = 0 ∧ s.kind 191 ≠ kindOBSERVER ∧ s.ax 191 ≠ axHOLD ∧
       cmdRank (s.axis 191).cmd ≤ cmdRank 1) ∧
    (let s := (opened (.axsCmd 191)).setAxis 191 { cmd := 4 }
     cmdRank 1 < cmdRank (s.axis 191).cmd) :=
  by decide +kernel

/-- TimestampReadTakesTheHeadEntry: a queue of one entry, and an empty one. -/
theorem witness_TimestampReadTakesTheHeadEntry :
    (∃ (s : State) (e : TsqE) (l : List TsqE), (s.elapse 0).issues 31 = true ∧ 31 < 32 ∧ s.time.tsq = e :: l) ∧
      (awake.elapse 0).issues 31 = true ∧ awake.time.tsq = [] :=
  ⟨⟨{ awake with time := { awake.time with tsq := [⟨0, 0⟩] } }, ⟨0, 0⟩, [], by decide +kernel, by decide, rfl⟩,
    by decide +kernel, rfl⟩

/-- TemperatureReadingKeepsTheMaximum: both bounds of the field. -/
theorem witness_TemperatureReadingKeepsTheMaximum :
    ((-2048 : Int) ≤ -2048 ∧ (-2048 : Int) ≤ 2047) ∧ ((-2048 : Int) ≤ 2047 ∧ (2047 : Int) ≤ 2047) := by decide

/-- LiveBankWriteReturnsAccess: a write whose last byte alone is in a live bank, and the bounds of the banks. -/
theorem witness_LiveBankWriteReturnsAccess :
    (awake.elapse 0).issues 9 = true ∧ (0x1000000 % 8 = 0 ∨ isCore 9 = false) ∧ (∃ i, i < [(0 : Byte), 0].length ∧ 0x1000000 ≤ 0x1001FFF + i ∧ 0x1001FFF + i < 0x1180000 ∧
      (0x1001FFF + i) % 0x2000 < 0x1000) ∧
    (0x1000000 ≤ 0x1000000 ∧ 0x1000000 < 0x1180000 ∧ 0x1000000 % 0x2000 < 0x1000) ∧
    (0x1000000 ≤ 0x117EFFF ∧ 0x117EFFF < 0x1180000 ∧ 0x117EFFF % 0x2000 < 0x1000) :=
  ⟨by decide +kernel, by decide, ⟨1, by decide⟩, by decide, by decide⟩

/-- MemoryWindowWriteStoresItsEightBytes: each window at a bound, accepted; and one refused. -/
theorem witness_MemoryWindowWriteStoresItsEightBytes :
    (awake.elapse 0).issues 9 = true ∧ (0x1001000 % 8 = 0 ∧ 0x1000 ≤ 0x1001000 % 0x2000 ∧
      ((opened (.axsCmd 0)).elapse 0).memCode 9 0x1001000 8 true = cOK) ∧
    (0x11BFFF8 < 0x11C0000 ∧ (awake.elapse 0).memCode 9 0x11BFFF8 8 true = cOK) ∧
    (0x11FFFF8 < 0x1200000 ∧ (awake.elapse 0).memCode 9 0x11FFFF8 8 true = cOK) ∧
    (awake.elapse 0).memCode 9 0x1001500 8 true ≠ cOK :=
  by decide +kernel

/-- PlainRegisterWriteChangesOnlyThatRegister. -/
theorem witness_PlainRegisterWriteChangesOnlyThatRegister :
    (Reg.shrReqCfg 0 0).acts = false ∧ (awake.elapse 0).accepts 9 (.shrReqCfg 0 0)
      (wordPut (wordPut 0 fShrReqCfg_WEIGHT 1) fShrReqCfg_AGE_LIMIT 1) :=
  ⟨rfl, accepts_of (by decide +kernel)⟩

/-- CounterClearTouchesOnlyItsCounters: one command of each condition on the weir. -/
theorem witness_CounterClearTouchesOnlyItsCounters :
    (∃ v, (Instr.tsqClr 0 9).writes (awake.elapse 0) = some (9, .timTsqStat, v) ∧
      (awake.elapse 0).accepts 9 .timTsqStat v) ∧
    (∃ v, (Instr.ageStatClr 0 9 0).writes ((opened (.axsAgeStat 0)).elapse 0) = some (9, .axsAgeStat 0, v) ∧
      ((opened (.axsAgeStat 0)).elapse 0).accepts 9 (.axsAgeStat 0) v) :=
  ⟨⟨_, rfl, accepts_of (by decide +kernel)⟩, _, rfl, accepts_of (by decide +kernel)⟩

/-- ClosedWeirRefusesAChangingWrite: a field of each kind, and a write that changes nothing. -/
theorem witness_ClosedWeirRefusesAChangingWrite :
    (∃ v, (Instr.enable 0 9 0).writes (awake.elapse 0) = some (9, .axsCmd 0, v) ∧ (awake.elapse 0).issues 9 = true ∧ (Reg.axsCmd 0).mapped ∧
      (awake.elapse 0).regAbsent (.axsCmd 0) = false ∧ (Reg.axsCmd 0).weir = some 0 ∧
      ⟨fAxsCmd_CMD, .wo, 0⟩ ∈ (Reg.axsCmd 0).fields ∧
      fieldChanges ((awake.elapse 0).shown 9 (.axsCmd 0)) v ⟨fAxsCmd_CMD, .wo, 0⟩ = true ∧
      (awake.elapse 0).weirState 0 ≠ 0) ∧
    (∃ v, (Instr.retrain 0 9 0).writes ((opened (.portCtl 0)).elapse 0) = some (9, .portCtl 0, v) ∧
      ⟨fPortCtl_RETRAIN, .rwl, 0⟩ ∈ (Reg.portCtl 0).fields ∧
      fieldChanges (((opened (.portCtl 0)).elapse 0).shown 9 (.portCtl 0)) v ⟨fPortCtl_RETRAIN, .rwl, 0⟩ = true ∧
      ((opened (.portCtl 0)).elapse 0).weirState 192 ≠ 2) ∧
    (∀ f ∈ (Reg.axsCmd 0).fields, fieldChanges (awake.shown 9 (.axsCmd 0)) 0 f = false) :=
  ⟨⟨_, rfl, by decide +kernel, mapped_of (by decide +kernel), rfl, rfl, by decide, by decide +kernel, by decide +kernel⟩,
    ⟨_, rfl, by decide, by decide +kernel, by decide +kernel⟩, by decide +kernel⟩

/-- PasswordIsPresentedByItsAgentsOnly: a wrong agent, a wrong length at each bound, a right one while locked. -/
theorem witness_PasswordIsPresentedByItsAgentsOnly :
    (awake.elapse 0).issues 9 = true ∧ ¬(1 ≤ 11 ∧ 11 ≤ 10 ∨ 11 = 16) ∧
    (let v := wordPut (wordPut 0 fOasPwdCtl_PRESENT 1) fOasPwdCtl_LEN 7
     wordFld v fOasPwdCtl_PRESENT = 1 ∧ wordFld v fOasPwdCtl_LEN < 8) ∧
    (let v := wordPut (wordPut 0 fOasPwdCtl_PRESENT 1) fOasPwdCtl_LEN 17
     wordFld v fOasPwdCtl_PRESENT = 1 ∧ 16 < wordFld v fOasPwdCtl_LEN) ∧
    (let v := wordPut (wordPut 0 fOasPwdCtl_PRESENT 1) fOasPwdCtl_LEN 16
     wordFld v fOasPwdCtl_PRESENT = 1 ∧ 8 ≤ wordFld v fOasPwdCtl_LEN ∧ wordFld v fOasPwdCtl_LEN ≤ 16) ∧
    { awake with oas := { awake.oas with lockTo := some 5 } }.oas.lockTo ≠ none :=
  by decide +kernel

/-- CompleteAccess: each clause with hypotheses. -/
theorem witness_CompleteAccess :
    (∃ s : State, ∃ r : Reg, r.addr = (Reg.sysVlogCtl.addr) ∧ (s.elapse 0).accepts 9 r (0 : Word48)) ∧
    (∃ s : State, ∃ r : Reg, r.addr = 0x18 ∧ isDispatch 0x18 = false ∧ (s.elapse 0).readable 9 r) ∧
    (∃ s : State, ∃ n, (s.elapse 0).issues 9 = true ∧ 0x18 < 0x1000000 ∧ 0x18 % 8 = 0 ∧ ((s.elapse 0).agent 9).latch = some (0x18, n)) ∧
    (∃ s : State, ∃ r : Reg, (s.elapse 0).issues 9 = true ∧ r.addr = 0x18 ∧ r.mapped) ∧
    (∃ s : State, ∃ r : Reg, ∃ n : Nat, (s.elapse 0).issues 9 = true ∧ r.addr = 0x18 ∧ r.mapped ∧ ((s.elapse 0).agent 9).staged = some (0x18, n, false)) ∧
    (∃ s : State, ∃ r : Reg, (s.elapse 0).issues 9 = true ∧ r.addr = 0x18 / 8 * 8 ∧ r.mapped ∧ 0 < 2 ∧ (0x18 % 2 ≠ 0 ∨ 2 < 4) ∧ (0x18 % 2 = 0 ∨ isCore 9 = false)) ∧
    (∃ s : State, (s.elapse 0).issues 1 = true ∧ isCore 1 = true ∧ 0 < 2 ∧ 0x1A % 8 ≠ 0) ∧
    (∃ _s : State, 0 < 2 ∧ 0x1000002 % 2 = 0 ∧ 0x1000000 ≤ 0x1000002) ∧
    (∃ _s : State, 2 ≤ 4 ∧ 4 < 5) ∧
    (∃ s : State, (s.elapse 0).issues 9 = true ∧ 0x1000000 ≤ 0x1002000 ∧ 0x1002000 < 0x1180000 ∧ 0x1002000 % 8 = 0 ∧ 0x1002000 % 0x2000 < 0x1000) :=
  ⟨⟨opened .sysVlogCtl, .sysVlogCtl, by decide +kernel, accepts_of (by decide +kernel)⟩,
    ⟨awake, .sysRole, by decide +kernel, by decide +kernel, readable_of (by decide +kernel)⟩,
    ⟨awake.setAgent 9 { latch := some (0x18, 5) }, 5, by decide +kernel, by decide +kernel, by decide +kernel, rfl⟩,
    ⟨awake, .sysRole, by decide +kernel, by decide +kernel, mapped_of (by decide +kernel)⟩,
    ⟨awake.setAgent 9 { staged := some (0x18, 5, false) }, .sysRole, 5, by decide +kernel, by decide +kernel, mapped_of (by decide +kernel), rfl⟩,
    ⟨awake, .sysRole, by decide +kernel, by decide +kernel, mapped_of (by decide +kernel), by decide +kernel, by decide +kernel, by decide +kernel⟩,
    ⟨(awake.setFld (.sysWeir 275) fSysWeir_STATE 0), by decide +kernel, by decide +kernel, by decide +kernel, by decide +kernel⟩,
    ⟨awake, by decide +kernel, by decide +kernel, by decide +kernel⟩,
    ⟨awake, by decide +kernel, by decide +kernel⟩,
    ⟨awake, by decide +kernel, by decide +kernel, by decide +kernel, by decide +kernel, by decide +kernel⟩⟩

/-- CompleteCycle: each clause with hypotheses. -/
theorem witness_CompleteCycle :
    (∃ s : State, (s.elapse 1000000000000).boundaryDue = true) ∧
    (∃ s : State, (s.elapse 1000000000000).syncOutEnds = true) ∧
    (∃ s : State, (s.elapse 1000000000000).oiDue = true) ∧
    (∃ s : State, (s.elapse 1000000000000).passDue = true) ∧
    (∃ s : State, (s.elapse 0).casSys.from_.isSome = true) :=
  ⟨⟨{ ((awake.setFld .sysRole fSysRole_ROLE 1).setFld .netCsStat fNetCsStat_STATE 2) with bndNext := 1 }, by decide +kernel⟩,
    ⟨{ awake with time := { awake.time with syncOut := some 0 } }, by decide +kernel⟩,
    ⟨awake, by decide +kernel⟩,
    ⟨{ awake with cycles := 1 }, by decide +kernel⟩,
    ⟨{ awake with casSys := { awake.casSys with from_ := some 0 } }, by decide +kernel⟩⟩

/-- CompleteJets: each clause with hypotheses. -/
theorem witness_CompleteJets :
    (∃ s : State, (s.elapse 1000000000000).recordDue 0 = true) ∧
    (∃ s : State, (s.elapse 1000000000000).taskEnds 0 = true) ∧
    (∃ s : State, ∃ q, (s.elapse 1000000000000).jetRefusalDue 0 = some q) ∧
    (∃ s : State, (s.elapse 1000000000000).cmdDue 0 = true) ∧
    (∃ s : State, (s.elapse 1000000000000).cmdDelayDue 0 = true) ∧
    (∃ s : State, (s.elapse 1000000000000).testEnds 0 = true) ∧
    (∃ s : State, (s.elapse 0).accepts 9 .jetCtl ((s.elapse 0).wordWith 9 .jetCtl fJetCtl_SWAP 1)) ∧
    (∃ s : State, (s.elapse 1000000000000).rotationDue = true) ∧
    (∃ s : State, (s.elapse 0).accepts 9 .jetCntClr ((s.elapse 0).wordWith 9 .jetCntClr fJetCntClr_CLR 1)) :=
  ⟨⟨awake.setPort 0 { rx := { st := 2, hdr := List.replicate 9 255 } }, by decide +kernel⟩,
    ⟨awake.setJet 0 { task := some { axis := 0, cl := false, start := 0, cost := 1 } }, by decide +kernel⟩,
    ⟨(awake.setFld (.shrReqCfg 0 0) fShrReqCfg_CLASS 2).setArb 0 { waiting := [{ r := 0, arrival := 0, tick := 0, cost := 1 }] }, { r := 0, arrival := 0, tick := 0, cost := 1 }, rfl⟩,
    ⟨((awake.setFld .sysRole fSysRole_ROLE 1).setFld (.nodeCfg 0) fNodeCfg_USED 1).setNode 0 { ready := some 0 }, by decide +kernel⟩,
    ⟨awake.setNode 0 { delayed := true }, by decide +kernel⟩,
    ⟨awake.setJet 0 { testFrom := some 0 }, by decide +kernel⟩,
    ⟨(awake.setFld (.jetjStat 0) fJetjStat_ROLE roleSTANDBY), accepts_of (by decide +kernel)⟩,
    ⟨{ (awake.setFld .jetCtl fJetCtl_ROT_PERIOD 1) with cycles := 1, bndAt := 1000000000000 }, by decide +kernel⟩,
    ⟨opened (.jetCntClr), accepts_of (by decide +kernel)⟩⟩

/-- CompleteFrames: each clause with hypotheses. -/
theorem witness_CompleteFrames :
    (∃ s : State, (s.elapse 1000000000000).headerDue 0 = true) ∧
    (∃ s : State, (s.elapse 1000000000000).checkDue 0 = true) ∧
    (∃ s : State, (s.elapse 1000000000000).closeDue 0 2 0 = true) ∧
    (∃ s : State, (s.elapse 1000000000000).openDue 0 = true) ∧
    (∃ s : State, (((s.elapse 0).port 0).rx.st == 3) = true) ∧
    (∃ s : State, (s.elapse 1000000000000).fwdDue 0 = true) ∧
    (∃ s : State, (s.elapse 0).repeatsFrom 0 1200 = true) ∧
    (∃ s : State, (s.elapse 0).repeatOver 0 = true) ∧
    (∃ s : State, (s.elapse 1000000000000).fbDue = true) ∧
    (∃ s : State, (s.elapse 0).ownRuns 0 = true) ∧
    (∃ s : State, (s.elapse 1000000000000).rangeReqDue false = true) ∧
    (∃ s : State, (s.elapse 1000000000000).rangeDue 0 = true) ∧
    (∃ s : State, (s.elapse 0).rangeTimedOut false = true) ∧
    (∃ s : State, (s.elapse 0).cmdLost = true) ∧
    (∃ s : State, wordFld ((wordPut 0 fFlowTx_POST 1) : Word48) fFlowTx_POST = 1 ∧ (s.elapse 0).accepts 9 (Reg.flowTx 0) ((wordPut 0 fFlowTx_POST 1) : Word48)) ∧
    (∃ s : State, ∃ g, (s.elapse 1000000000000).dynDue 0 = some g) ∧
    (∃ s : State, (s.elapse 1000000000000).upDue = true) ∧
    (∃ s : State, (s.elapse 1000000000000).syncOverdue false = true) ∧
    (∃ s : State, (s.elapse 0).accepts 9 .netCntClr ((s.elapse 0).wordWith 9 .netCntClr fNetCntClr_CLR 1)) :=
  ⟨⟨awake.setPort 0 { rx := { st := 1 } }, by decide +kernel⟩,
    ⟨awake.setPort 0 { rx := { st := 2 } }, by decide +kernel⟩,
    ⟨(awake.setFld .netCsStat fNetCsStat_STATE 4), by decide +kernel⟩,
    ⟨((awake.setFld (.nodeCfg 0) fNodeCfg_USED 1).setFld .netSegCfg fNetSegCfg_STATIC_START 100).setPort 0 { rx := { st := 4 } }, by decide +kernel⟩,
    ⟨awake.setPort 0 { rx := { st := 3 } }, by decide +kernel⟩,
    ⟨(awake.setFld (.fwdCfg 0) fFwdCfg_USED 1), by decide +kernel⟩,
    ⟨(((((awake.setFld .sysRole fSysRole_ROLE 2).setFld (.portStat 0) fPortStat_LSTATE lsUP).setFld (.portStat 2) fPortStat_LSTATE lsUP).setFld (.sysWeir 192) fSysWeir_STATE 0).setFld (.sysWeir 194) fSysWeir_STATE 0), by decide +kernel⟩,
    ⟨{ ((awake.setFld .sysRole fSysRole_ROLE 2).setFld .netSyncStat fNetSyncStat_ISTATE 3).setPort 0 { txUntil := 100, rpt := some 2 } with cycles := 1 }, by decide +kernel⟩,
    ⟨{ ((awake.setFld .sysRole fSysRole_ROLE 2).setFld .netSyncStat fNetSyncStat_ISTATE 3) with cycles := 1 }, by decide +kernel⟩,
    ⟨{ ((awake.setFld .sysRole fSysRole_ROLE 2).setPort 0 { txUntil := 100, txOwed := true }) with drv := { awake.drv with fbSent := true } }, by decide +kernel⟩,
    ⟨(((((awake.setFld .sysRole fSysRole_ROLE 2).setFld .netSyncStat fNetSyncStat_ISTATE 2).setFld .netSyncStat fNetSyncStat_A_OK 1).setFld (.portStat 0) fPortStat_LSTATE lsUP).setFld (.sysWeir 192) fSysWeir_STATE 0), by decide +kernel⟩,
    ⟨awake.setPort 0 { rngReq := some (0, 0, 0) }, by decide +kernel⟩,
    ⟨{ (awake.setFld .netSyncStat fNetSyncStat_ISTATE 2) with cycles := 32 }, by decide +kernel⟩,
    ⟨{ (awake.setFld .netSyncStat fNetSyncStat_ISTATE 3) with drv := { awake.drv with noCmd := 8 } }, by decide +kernel⟩,
    ⟨(((awake.setFld .sysRole fSysRole_ROLE 2).setFld (.sysWeir 192) fSysWeir_STATE 0).setFld .netDynCfg fNetDynCfg_MS_COUNT 100).setByte psiBase 3, by decide +kernel, accepts_of (by decide +kernel)⟩,
    ⟨{ awake with net := { awake.net with grants := [⟨0, 0, 0, 0⟩] } }, ⟨0, 0, 0, 0⟩, rfl⟩,
    ⟨{ ((awake.setFld .sysRole fSysRole_ROLE 2).setFld .netSyncStat fNetSyncStat_ISTATE 3) with cycles := 1, drv := { awake.drv with upMs := 1 } }, by decide +kernel⟩,
    ⟨(awake.setFld .netSyncStat fNetSyncStat_ISTATE 3), by decide +kernel⟩,
    ⟨opened (.netCntClr), accepts_of (by decide +kernel)⟩⟩

/-- CompleteLinks: each clause with hypotheses. -/
theorem witness_CompleteLinks :
    (∃ s : State, ((s.elapse 0).link 0 == lsACQUIRE) = true) ∧
    (∃ s : State, (s.elapse 1000000000000).linkFor 0 lsACQUIRE 100000 = true) ∧
    (∃ s : State, (s.elapse 1000000000000).adaptDone 0 = true) ∧
    (∃ s : State, (s.elapse 1000000000000).linkFor 0 lsADAPT 2500000 = true) ∧
    (∃ s : State, (s.elapse 0).errLimitReached 0 = true) ∧
    (∃ s : State, (s.elapse 0).accepts 9 (.portCtl 0) ((s.elapse 0).wordWith 9 (.portCtl 0) fPortCtl_RETRAIN 1)) ∧
    (∃ s : State, 1 < 4 ∧ (s.elapse 0).accepts 9 (.portCtl 0) ((s.elapse 0).wordWith 9 (.portCtl 0) fPortCtl_TEST 1)) ∧
    (∃ s : State, (s.elapse 0).accepts 9 (.portCtl 0) ((s.elapse 0).wordWith 9 (.portCtl 0) fPortCtl_TEST 0)) ∧
    (∃ s : State, (s.elapse 0).accepts 9 (.portCntClr 0) ((s.elapse 0).wordWith 9 (.portCntClr 0) fPortCntClr_CLR 1)) :=
  ⟨⟨(awake.setFld (.portStat 0) fPortStat_LSTATE lsACQUIRE), by decide +kernel⟩,
    ⟨(awake.setFld (.portStat 0) fPortStat_LSTATE lsACQUIRE), by decide +kernel⟩,
    ⟨(awake.setFld (.portStat 0) fPortStat_LSTATE lsADAPT), by decide +kernel⟩,
    ⟨(awake.setFld (.portStat 0) fPortStat_LSTATE lsADAPT), by decide +kernel⟩,
    ⟨(awake.setFld (.portStat 0) fPortStat_LSTATE lsUP).setPort 0 { errs := List.replicate 16 0 }, by decide +kernel⟩,
    ⟨awake, accepts_of (by decide +kernel)⟩,
    ⟨awake, by decide +kernel, accepts_of (by decide +kernel)⟩,
    ⟨opened (.portCtl 0), accepts_of (by decide +kernel)⟩,
    ⟨opened (.portCntClr 0), accepts_of (by decide +kernel)⟩⟩

/-- CompletePower: each clause with hypotheses. -/
theorem witness_CompletePower :
    (∃ s : State, (s.elapse 0).pllMayLock = true) ∧
    (∃ s : State, ((s.elapse 0).flag .sysClkStat fSysClkStat_LOCK) = true) ∧
    (∃ s : State, (s.elapse 1000000000000).seqMayStart 500000 = true) ∧
    (∃ s : State, (s.elapse 0).seqMayStep 250000 = true) ∧
    (∃ s : State, (s.elapse 1000000000000).pgTimesOut = true) ∧
    (∃ s : State, (s.elapse 1000000000000).downDue = true) ∧
    (∃ s : State, (s.elapse 0).railLive 0 = true) ∧
    (∃ s : State, (s.elapse 1000000000000).waitEnds = true) ∧
    (∃ s : State, (s.elapse 1000000000000).pollDue = true) ∧
    (∃ s : State, ((s.elapse 0).power.pmbOut.contains (0, 0)) = true) ∧
    (∃ s : State, (s.elapse 0).mayRelease = true) ∧
    (∃ s : State, (s.elapse 0).accepts 9 Reg.sysRstCtl ((wordPut (wordPut 0 fSysRstCtl_KEY 0xC1EA) fSysRstCtl_CHIP 1))) ∧
    (∃ s : State, (s.elapse 1000000000000).softDue = true) ∧
    (∃ s : State, (s.elapse 0).accepts 9 .sysTemp ((s.elapse 0).wordWith 9 .sysTemp fSysTemp_CLR 1)) :=
  ⟨⟨(awake.setFld .sysBootStat fSysBootStat_STAGE 1).setFlag .sysClkStat fSysClkStat_LOCK false, by decide +kernel⟩,
    ⟨(awake.setFld .sysClkStat fSysClkStat_LOCK 1), by decide +kernel⟩,
    ⟨(awake.setFld .sysPwrStat fSysPwrStat_SEQ_STATE seqOFF), by decide +kernel⟩,
    ⟨(awake.setFld .sysPwrStat fSysPwrStat_SEQ_STATE seqSEQUENCING), by decide +kernel⟩,
    ⟨(awake.setFld .sysPwrStat fSysPwrStat_SEQ_STATE seqSEQUENCING), by decide +kernel⟩,
    ⟨(awake.setFld .sysPwrStat fSysPwrStat_SEQ_STATE seqDOWN), by decide +kernel⟩,
    ⟨awake, by decide +kernel⟩,
    ⟨(awake.setFld .sysPwrStat fSysPwrStat_SEQ_STATE seqWAIT), by decide +kernel⟩,
    ⟨{ awake with power := { awake.power with pmb := some (0, [], 1) } }, by decide +kernel⟩,
    ⟨{ awake with power := { awake.power with pmbOut := [(0, 0)] } }, by decide +kernel⟩,
    ⟨{ (awake.setFld .sysPwrStat fSysPwrStat_SEQ_STATE seqUP) with power := { awake.power with inReset := true } }, by decide +kernel⟩,
    ⟨opened (Reg.sysRstCtl), accepts_of (by decide +kernel)⟩,
    ⟨{ awake with power := { awake.power with softReset := some 0 } }, by decide +kernel⟩,
    ⟨opened (.sysTemp), accepts_of (by decide +kernel)⟩⟩

/-- CompleteWeirs: each clause with hypotheses. -/
theorem witness_CompleteWeirs :
    (∃ s : State, (s.elapse 0).accepts 9 (.sysWeir 0) ((s.elapse 0).wordWith 9 (.sysWeir 0) fSysWeir_CMD wcCLOSE)) ∧
    (∃ s : State, (s.elapse 0).accepts 9 (.sysWeir 0) ((s.elapse 0).wordWith 9 (.sysWeir 0) fSysWeir_CMD wcOPEN)) ∧
    (∃ s : State, (s.elapse 0).accepts 9 (.sysWeir 0) ((s.elapse 0).wordWith 9 (.sysWeir 0) fSysWeir_CMD wcCYCLE)) ∧
    (∃ s : State, (s.elapse 0).accepts 9 (.sysWeir 275) ((s.elapse 0).wordWith 9 (.sysWeir 275) fSysWeir_CMD wcOFF)) ∧
    (∃ s : State, (s.elapse 0).accepts 9 (.sysWeir 275) ((s.elapse 0).wordWith 9 (.sysWeir 275) fSysWeir_CMD wcON)) ∧
    (∃ s : State, (s.elapse 0).accepts 9 (.sysWeir 0) ((s.elapse 0).wordWith 9 (.sysWeir 0) fSysWeir_CNT_CLR 1)) ∧
    (∃ s : State, (s.elapse 0).drainMayEnd 0 = true) ∧
    (∃ s : State, (s.elapse 1000000000000).drainTimesOut 0 = true) ∧
    (∃ s : State, (s.elapse 1000000000000).powerUpEnds 275 = true) ∧
    (∃ s : State, (s.elapse 1000000000000).resetEnds 0 = true) ∧
    (∃ s : State, (s.elapse 0).replyLate 0 0 = true) :=
  ⟨⟨opened (.sysWeir 0), accepts_of (by decide +kernel)⟩,
    ⟨opened (.sysWeir 0), accepts_of (by decide +kernel)⟩,
    ⟨opened (.sysWeir 0), accepts_of (by decide +kernel)⟩,
    ⟨awake, accepts_of (by decide +kernel)⟩,
    ⟨awake, accepts_of (by decide +kernel)⟩,
    ⟨opened (.sysWeir 0), accepts_of (by decide +kernel)⟩,
    ⟨awake.setWeirH 0 { phase := phDRAIN }, by decide +kernel⟩,
    ⟨awake.setWeirH 0 { phase := phDRAIN }, by decide +kernel⟩,
    ⟨awake.setWeirH 275 { phase := phPOWER }, by decide +kernel⟩,
    ⟨awake.setWeirH 0 { phase := phRESET }, by decide +kernel⟩,
    ⟨awake.setWeirH 0 { leftAt := some 0 }, by decide +kernel⟩⟩

/-- CompleteBoot: each clause with hypotheses. -/
theorem witness_CompleteBoot :
    (∃ s : State, ((s.elapse 0).stage == stHEADERS) = true) ∧
    (∃ s : State, ((s.elapse 0).stage == stREAD) = true) ∧
    (∃ s : State, ((s.elapse 0).stage == stCONFIG) = true) ∧
    (∃ s : State, ((s.elapse 0).stage == stADMISSION) = true) ∧
    (∃ s : State, ((s.elapse 0).stage == stSELFTEST) = true) ∧
    (∃ s : State, wordFld ((wordPut 0 fSysImgCtl_GO 1) : Word48) fSysImgCtl_GO = 1 ∧ wordFld ((wordPut 0 fSysImgCtl_GO 1) : Word48) fSysImgCtl_CANCEL = 0 ∧ (s.elapse 0).accepts 9 Reg.sysImgCtl ((wordPut 0 fSysImgCtl_GO 1) : Word48)) ∧
    (∃ s : State, (s.elapse 0).accepts 9 .sysImgCtl ((s.elapse 0).wordWith 9 .sysImgCtl fSysImgCtl_CANCEL 1)) ∧
    (∃ s : State, ((s.elapse 0).imgState == imgVERIFYING) = true) ∧
    (∃ s : State, ((s.elapse 0).imgState == imgSTAGING) = true) ∧
    (∃ s : State, (s.elapse 0).imgDeadline = true) ∧
    (∃ s : State, 0 < 2 ∧ 0 < 2 ^ 24 ∧ (s.elapse 0).accepts 9 .sysFlashCtl (wordPut (wordPut (wordPut 0 fSysFlashCtl_OP 1) fSysFlashCtl_SLOT 0) fSysFlashCtl_ADDR 0)) ∧
    (∃ s : State, 0 < 2 ∧ 0 < 2 ^ 24 ∧ (s.elapse 0).accepts 9 .sysFlashCtl (wordPut (wordPut (wordPut 0 fSysFlashCtl_OP 2) fSysFlashCtl_SLOT 0) fSysFlashCtl_ADDR 0)) ∧
    (∃ s : State, 0 < 2 ∧ 0 < 2 ^ 24 ∧ (s.elapse 0).accepts 9 .sysFlashCtl (wordPut (wordPut (wordPut 0 fSysFlashCtl_OP 3) fSysFlashCtl_SLOT 0) fSysFlashCtl_ADDR 0)) ∧
    (∃ s : State, ((s.elapse 0).flag .sysFlashCtl fSysFlashCtl_BUSY) = true) ∧
    (∃ s : State, (s.elapse 0).accepts 9 (Reg.sysFlashBuf 0) (0 : Word48)) :=
  ⟨⟨(awake.setFld .sysBootStat fSysBootStat_STAGE stHEADERS), by decide +kernel⟩,
    ⟨(awake.setFld .sysBootStat fSysBootStat_STAGE stREAD), by decide +kernel⟩,
    ⟨(awake.setFld .sysBootStat fSysBootStat_STAGE stCONFIG), by decide +kernel⟩,
    ⟨(awake.setFld .sysBootStat fSysBootStat_STAGE stADMISSION), by decide +kernel⟩,
    ⟨(awake.setFld .sysBootStat fSysBootStat_STAGE stSELFTEST), by decide +kernel⟩,
    ⟨awake, by decide +kernel, by decide +kernel, accepts_of (by decide +kernel)⟩,
    ⟨opened (.sysImgCtl), accepts_of (by decide +kernel)⟩,
    ⟨(awake.setFld .sysImgStat fSysImgStat_STATE imgVERIFYING), by decide +kernel⟩,
    ⟨(awake.setFld .sysImgStat fSysImgStat_STATE imgSTAGING), by decide +kernel⟩,
    ⟨{ (awake.setFld .sysImgStat fSysImgStat_STATE imgVERIFYING) with boot := { awake.boot with order := some { ag := 1, restart := false, target := 0, n := 0 } } }, by decide +kernel⟩,
    ⟨opened (.sysFlashCtl), by decide +kernel, by decide +kernel, accepts_of (by decide +kernel)⟩,
    ⟨opened (.sysFlashCtl), by decide +kernel, by decide +kernel, accepts_of (by decide +kernel)⟩,
    ⟨opened (.sysFlashCtl), by decide +kernel, by decide +kernel, accepts_of (by decide +kernel)⟩,
    ⟨(awake.setFld .sysFlashCtl fSysFlashCtl_BUSY 1), by decide +kernel⟩,
    ⟨opened (Reg.sysFlashBuf 0), accepts_of (by decide +kernel)⟩⟩

/-- CompleteShared: each clause with hypotheses. -/
theorem witness_CompleteShared :
    (∃ _s : State, ((2 == 2 || 2 == 3 || 2 == 7)) = true) ∧
    (∃ s : State, wordFld ((wordPut 0 fShrAdmCtl_CHECK 1) : Word48) fShrAdmCtl_CHECK = 1 ∧ (s.elapse 0).accepts 9 Reg.shrAdmCtl ((wordPut 0 fShrAdmCtl_CHECK 1) : Word48)) ∧
    (∃ s : State, (s.elapse 0).adm.running.isSome = true) ∧
    (∃ s : State, (s.elapse 0).accepts 9 (.shrReqWait 0 0) ((s.elapse 0).wordWith 9 (.shrReqWait 0 0) fShrReqWait_CLR 1)) ∧
    (∃ s : State, (s.elapse 0).accepts 9 (.shrUnitArb 0) ((s.elapse 0).wordWith 9 (.shrUnitArb 0) fShrUnitArb_CLR 1)) ∧
    (∃ s : State, (s.elapse 0).accepts 9 .sysVlogCtl ((s.elapse 0).wordWith 9 .sysVlogCtl fSysVlogCtl_CLR 1)) :=
  ⟨⟨awake, by decide +kernel⟩,
    ⟨awake, by decide +kernel, accepts_of (by decide +kernel)⟩,
    ⟨{ awake with adm := { awake.adm with running := some (0, 0) } }, by decide +kernel⟩,
    ⟨opened (.shrReqWait 0 0), accepts_of (by decide +kernel)⟩,
    ⟨opened (.shrUnitArb 0), accepts_of (by decide +kernel)⟩,
    ⟨opened (.sysVlogCtl), accepts_of (by decide +kernel)⟩⟩

/-- CompleteAxes: each clause with hypotheses. -/
theorem witness_CompleteAxes :
    (∃ s : State, wordFld ((wordPut 0 fAxsStage_REQ 1) : Word48) fAxsStage_REQ = 1 ∧ wordFld ((wordPut 0 fAxsStage_REQ 1) : Word48) fAxsStage_CANCEL = 0 ∧ (s.elapse 0).accepts 9 (Reg.axsStage 0) ((wordPut 0 fAxsStage_REQ 1) : Word48)) ∧
    (∃ s : State, (s.elapse 0).accepts 9 (.axsStage 0) ((s.elapse 0).wordWith 9 (.axsStage 0) fAxsStage_CANCEL 1)) ∧
    (∃ s : State, (s.elapse 0).issues 9 = true ∧ 0x1000000 ≤ 0x1001000 ∧ 0x1001000 < 0x1180000 ∧ 0x1001000 % 8 = 0 ∧ 0x1000 ≤ 0x1001000 % 0x2000 ∧ (s.elapse 0).memCode 9 0x1001000 8 true = cOK) ∧
    (∃ s : State, (s.elapse 0).accepts 9 (.axsCmd 0) ((s.elapse 0).wordWith 9 (.axsCmd 0) fAxsCmd_CMD cmdENABLE)) ∧
    (∃ s : State, (s.elapse 0).accepts 9 (.axsCmd 0) ((s.elapse 0).wordWith 9 (.axsCmd 0) fAxsCmd_CMD cmdDISABLE)) ∧
    (∃ s : State, (s.elapse 0).accepts 9 (.axsCmd 0) ((s.elapse 0).wordWith 9 (.axsCmd 0) fAxsCmd_CMD cmdSTOP)) ∧
    (∃ s : State, (s.elapse 0).accepts 9 (.axsCmd 0) ((s.elapse 0).wordWith 9 (.axsCmd 0) fAxsCmd_CMD cmdQUICK)) ∧
    (∃ s : State, (s.elapse 0).accepts 9 (.axsCmd 0) ((s.elapse 0).wordWith 9 (.axsCmd 0) fAxsCmd_CMD cmdRESET)) ∧
    (∃ s : State, (s.elapse 0).accepts 9 (.axsAgeStat 0) ((s.elapse 0).wordWith 9 (.axsAgeStat 0) fAxsAgeStat_CLR 1)) ∧
    (∃ s : State, (s.elapse 0).accepts 9 (.axsCsFocStat 0) ((s.elapse 0).wordWith 9 (.axsCsFocStat 0) fAxsCsFocStat_CLR 1)) :=
  ⟨⟨(awake.setFld (.sysWeir 0) fSysWeir_STATE 0), by decide +kernel, by decide +kernel, accepts_of (by decide +kernel)⟩,
    ⟨opened (.axsStage 0), accepts_of (by decide +kernel)⟩,
    ⟨(awake.setFld (.sysWeir 0) fSysWeir_STATE 0), by decide +kernel, by decide +kernel, by decide +kernel, by decide +kernel, by decide +kernel, by decide +kernel⟩,
    ⟨opened (.axsCmd 0), accepts_of (by decide +kernel)⟩,
    ⟨opened (.axsCmd 0), accepts_of (by decide +kernel)⟩,
    ⟨opened (.axsCmd 0), accepts_of (by decide +kernel)⟩,
    ⟨opened (.axsCmd 0), accepts_of (by decide +kernel)⟩,
    ⟨opened (.axsCmd 0), accepts_of (by decide +kernel)⟩,
    ⟨opened (.axsAgeStat 0), accepts_of (by decide +kernel)⟩,
    ⟨opened (.axsCsFocStat 0), accepts_of (by decide +kernel)⟩⟩

/-- CompleteMoves: each clause with hypotheses. -/
theorem witness_CompleteMoves :
    (∃ s : State, (s.elapse 0).accepts 9 (.axsMvCtl 0) ((s.elapse 0).wordWith 9 (.axsMvCtl 0) fAxsMvCtl_PUSH 1)) ∧
    (∃ s : State, (s.elapse 0).accepts 9 (.axsMvCtl 0) ((s.elapse 0).wordWith 9 (.axsMvCtl 0) fAxsMvCtl_FLUSH 1)) ∧
    (∃ s : State, (s.elapse 0).accepts 9 (.axsChgCtl 0) ((s.elapse 0).wordWith 9 (.axsChgCtl 0) fAxsChgCtl_APPLY 1)) ∧
    (∃ s : State, (s.elapse 0).accepts 9 (.axsFolCtl 0) ((s.elapse 0).wordWith 9 (.axsFolCtl 0) fAxsFolCtl_OP 1)) ∧
    (∃ s : State, (s.elapse 0).accepts 9 (.axsFolCtl 0) ((s.elapse 0).wordWith 9 (.axsFolCtl 0) fAxsFolCtl_OP 2)) ∧
    (∃ s : State, (s.elapse 0).accepts 9 (.axsFolCtl 0) ((s.elapse 0).wordWith 9 (.axsFolCtl 0) fAxsFolCtl_OP 3)) ∧
    (∃ s : State, (s.elapse 0).accepts 9 (.axsFolCtl 0) ((s.elapse 0).wordWith 9 (.axsFolCtl 0) fAxsFolCtl_CANCEL 1)) ∧
    (∃ s : State, 0 < 32 ∧ (s.elapse 0).accepts 9 Reg.casGrpCtl ((wordPut ((s.elapse 0).wordWith 9 .casGrpCtl fCasGrpCtl_GO 1) fCasGrpCtl_GROUP 0))) ∧
    (∃ s : State, (s.elapse 0).accepts 9 (Reg.casCam 0) (0 : Word48)) ∧
    (∃ s : State, ((s.elapse 0).flag (.casCam 0) fCasCam_BUSY) = true) ∧
    (∃ s : State, (s.elapse 0).issues 9 = true ∧ 0x1180000 ≤ 0x1180000 ∧ 0x1180000 < 0x11C0000 ∧ 0x1180000 % 8 = 0 ∧ (s.elapse 0).memCode 9 0x1180000 8 true = cOK) ∧
    (∃ s : State, (s.elapse 0).accepts 9 (.lmOCtl 0) ((s.elapse 0).wordWith 9 (.lmOCtl 0) fLmOCtl_CMD 1)) ∧
    (∃ s : State, (s.elapse 0).accepts 9 (.lmOCtl 0) ((s.elapse 0).wordWith 9 (.lmOCtl 0) fLmOCtl_CMD 3)) ∧
    (∃ s : State, (s.elapse 0).accepts 9 (.lmOCtl 0) ((s.elapse 0).wordWith 9 (.lmOCtl 0) fLmOCtl_CMD 4)) ∧
    (∃ s : State, (s.elapse 0).accepts 9 (Reg.lmPrNs 0) (0 : Word48)) ∧
    (∃ s : State, (((s.elapse 0).lm 0).pred.isSome) = true) :=
  ⟨⟨opened (.axsMvCtl 0), accepts_of (by decide +kernel)⟩,
    ⟨opened (.axsMvCtl 0), accepts_of (by decide +kernel)⟩,
    ⟨opened (.axsChgCtl 0), accepts_of (by decide +kernel)⟩,
    ⟨opened (.axsFolCtl 0), accepts_of (by decide +kernel)⟩,
    ⟨opened (.axsFolCtl 0), accepts_of (by decide +kernel)⟩,
    ⟨opened (.axsFolCtl 0), accepts_of (by decide +kernel)⟩,
    ⟨opened (.axsFolCtl 0), accepts_of (by decide +kernel)⟩,
    ⟨awake, by decide +kernel, accepts_of (by decide +kernel)⟩,
    ⟨opened (Reg.casCam 0), accepts_of (by decide +kernel)⟩,
    ⟨(awake.setFld (.casCam 0) fCasCam_BUSY 1), by decide +kernel⟩,
    ⟨awake, by decide +kernel, by decide +kernel, by decide +kernel, by decide +kernel, by decide +kernel⟩,
    ⟨opened (.lmOCtl 0), accepts_of (by decide +kernel)⟩,
    ⟨opened (.lmOCtl 0), accepts_of (by decide +kernel)⟩,
    ⟨opened (.lmOCtl 0), accepts_of (by decide +kernel)⟩,
    ⟨opened (Reg.lmPrNs 0), accepts_of (by decide +kernel)⟩,
    ⟨awake.setLm 0 { pred := some 0 }, by decide +kernel⟩⟩

/-- CompleteStops: each clause with hypotheses. -/
theorem witness_CompleteStops :
    (∃ s : State, (s.elapse 0).stopTimesOut 0 = true) ∧
    (∃ s : State, (s.elapse 0).restDue 0 = true) ∧
    (∃ s : State, (s.elapse 0).crDue 0 = true) ∧
    (∃ s : State, (s.elapse 1000000000000).debDue 0 0 = true) ∧
    (∃ s : State, (s.elapse 1000000000000).blockEnds 0 0 = true) ∧
    (∃ s : State, (s.elapse 0).accepts 9 (.axsLimStat 0) ((s.elapse 0).wordWith 9 (.axsLimStat 0) fAxsLimStat_CLR 1)) ∧
    (∃ s : State, (s.elapse 0).accepts 9 (.axsHmCtl 0) ((s.elapse 0).wordWith 9 (.axsHmCtl 0) fAxsHmCtl_START 1)) ∧
    (∃ s : State, (s.elapse 0).accepts 9 (.axsHmCtl 0) ((s.elapse 0).wordWith 9 (.axsHmCtl 0) fAxsHmCtl_ABORT 1)) ∧
    (∃ s : State, (s.elapse 1000000000000).winEnds 0 = true) ∧
    (∃ s : State, (s.elapse 1000000000000).dwellEnds 0 = true) :=
  ⟨⟨awake.setStop 0 { watch := true }, by decide +kernel⟩,
    ⟨awake.setStop 0 { restRun := 1 }, by decide +kernel⟩,
    ⟨((((awake.setFld .sysRole fSysRole_ROLE 1).setFld .netCycCfg fNetCycCfg_CYC_LEN 1000).setFld (.axsStat 0) fAxsStat_STATE axENABLED).setFld (.axsSsStat 0) fAxsSsStat_AT_REST 1).setBank 0 0x848 16 16 1 |>.setStop 0 { crRun := 1000000 }, by decide +kernel⟩,
    ⟨(awake.setFld (.axsLimStat 0) (fRaw 0) 1).setBank 0 0x858 0 2 1, by decide +kernel⟩,
    ⟨(awake.setFld (.axsLimStat 0) (fBlk 0) 1), by decide +kernel⟩,
    ⟨opened (.axsLimStat 0), accepts_of (by decide +kernel)⟩,
    ⟨opened (.axsHmCtl 0), accepts_of (by decide +kernel)⟩,
    ⟨opened (.axsHmCtl 0), accepts_of (by decide +kernel)⟩,
    ⟨awake.setHome 0 { latch := some (0, 0) }, by decide +kernel⟩,
    ⟨awake.setHome 0 { dwell := some 0 }, by decide +kernel⟩⟩

/-- CompleteFeedback: each clause with hypotheses. -/
theorem witness_CompleteFeedback :
    (∃ s : State, (s.elapse 0).indexTaken 0 = true) ∧
    (∃ s : State, (s.elapse 5).serialStartDue 0 = true) ∧
    (∃ s : State, (s.elapse 0).accepts 9 (.axsFbStat 0) ((s.elapse 0).wordWith 9 (.axsFbStat 0) fAxsFbStat_CHK_CLR 1)) ∧
    (∃ s : State, 1 < 2 ∧ (s.elapse 0).accepts 9 (.encLatCtl 0) ((s.elapse 0).wordWith 9 (.encLatCtl 0) (fEncLatCtl_ARM 1) 1)) ∧
    (∃ s : State, 1 < 2 ∧ (s.elapse 0).accepts 9 (.encLatCtl 0) ((s.elapse 0).wordWith 9 (.encLatCtl 0) (fEncLatCtl_DISARM 1) 1)) ∧
    (∃ s : State, (s.elapse 0).latchMatches 0 0 0 false = true) ∧
    (∃ s : State, (s.elapse 0).accepts 9 (.encErr 0) ((s.elapse 0).wordWith 9 (.encErr 0) fEncErr_CLR 1)) :=
  ⟨⟨(awake.setFld (.encCfg 0) fEncCfg_TYPE 1), by decide +kernel⟩,
    ⟨{ (awake.setFld (.encCfg 0) fEncCfg_TYPE 3) with bndNext := 5 }, by decide +kernel⟩,
    ⟨opened (.axsFbStat 0), accepts_of (by decide +kernel)⟩,
    ⟨awake, by decide +kernel, accepts_of (by decide +kernel)⟩,
    ⟨awake, by decide +kernel, accepts_of (by decide +kernel)⟩,
    ⟨awake.setEnc 0 { arm0 := some 0 }, by decide +kernel⟩,
    ⟨opened (.encErr 0), accepts_of (by decide +kernel)⟩⟩

/-- CompletePwm: each clause with hypotheses. -/
theorem witness_CompletePwm :
    (∃ s : State, (s.elapse 1000000000000).periodEnds 0 = true) ∧
    (∃ s : State, 1 ≤ 2 ∧ (s.elapse 0).accepts 9 (tcShadow 1 0) (5 : Word48)) ∧
    (∃ s : State, (s.elapse 0).accepts 9 (.tcCtl 0) ((s.elapse 0).wordWith 9 (.tcCtl 0) fTcCtl_COMMIT 1)) ∧
    (∃ s : State, (s.elapse 0).accepts 9 (.sgCtl 0) ((s.elapse 0).wordWith 9 (.sgCtl 0) fSgCtl_COMMIT 1)) ∧
    (∃ s : State, (s.elapse 1000000000000).shootTrips 0 = true) ∧
    (∃ s : State, (s.elapse 0).accepts 9 (.sgCtl 0) ((s.elapse 0).wordWith 9 (.sgCtl 0) fSgCtl_EN 1)) ∧
    (∃ s : State, (s.elapse 0).accepts 9 (.sgCtl 0) ((s.elapse 0).wordWith 9 (.sgCtl 0) fSgCtl_EN 0)) ∧
    (∃ s : State, (s.elapse 1000000000000).sgShutdownEnds 0 = true) ∧
    (∃ s : State, (s.elapse 0).accepts 9 (.sgCtl 0) ((s.elapse 0).wordWith 9 (.sgCtl 0) fSgCtl_PRECHARGE 1)) ∧
    (∃ s : State, (s.elapse 1000000000000).preOnEnds 0 = true) ∧
    (∃ s : State, (s.elapse 1000000000000).preDone 0 = true) ∧
    (∃ s : State, (s.elapse 1000000000000).preExpires 0 = true) ∧
    (∃ s : State, (s.elapse 1000000000000).fastTrips 0 = true) ∧
    (∃ s : State, (s.elapse 1000000000000).snapCloses 0 = true) ∧
    (∃ s : State, (s.elapse 0).accepts 9 (.sgCtl 0) ((s.elapse 0).wordWith 9 (.sgCtl 0) fSgCtl_TRIP_CLR 1)) ∧
    (∃ s : State, (s.elapse 0).sinc3Ends 0 = true) ∧
    (∃ s : State, ((s.elapse 0).sdWindowEnds 0 ((s.elapse 0).fld (.sdCfg 0) fSdCfg_OSR2)) = true) ∧
    (∃ s : State, (s.elapse 0).accepts 9 (.cmpStat 0) ((s.elapse 0).wordWith 9 (.cmpStat 0) fCmpStat_ST_CMD 1)) ∧
    (∃ s : State, (((s.elapse 0).cmp 0).test.isSome) = true) ∧
    (∃ s : State, (s.elapse 0).accepts 9 (.tcStat 0) ((s.elapse 0).wordWith 9 (.tcStat 0) fTcStat_CLR 1)) :=
  ⟨⟨((awake.setFld (.tcCfg 0) fTcCfg_GROUP 0).setFld (.sgStat 0) fSgStat_STATE sgRUN), by decide +kernel⟩,
    ⟨awake, by decide +kernel, accepts_of (by decide +kernel)⟩,
    ⟨opened (.tcCtl 0), accepts_of (by decide +kernel)⟩,
    ⟨opened (.sgCtl 0), accepts_of (by decide +kernel)⟩,
    ⟨(awake.setFld (.tcCfg 0) fTcCfg_GROUP 0).setTc 0 { shoot := some 0 }, by decide +kernel⟩,
    ⟨opened (.sgCtl 0), accepts_of (by decide +kernel)⟩,
    ⟨opened (.sgCtl 0), accepts_of (by decide +kernel)⟩,
    ⟨(awake.setFld (.sgStat 0) fSgStat_STATE sgSHUTDOWN), by decide +kernel⟩,
    ⟨opened (.sgCtl 0), accepts_of (by decide +kernel)⟩,
    ⟨(awake.setFld (.sgStat 0) fSgStat_STATE sgPRECHARGE), by decide +kernel⟩,
    ⟨(awake.setFld (.sgStat 0) fSgStat_STATE sgPRECHARGE).setSg 0 { gap := true }, by decide +kernel⟩,
    ⟨((awake.setFld (.sgCfg2 0) fSgCfg2_PRE_VALID 1).setFld (.sgStat 0) fSgStat_PRECHARGED 1), by decide +kernel⟩,
    ⟨(((awake.setFld (.tcCfg 0) fTcCfg_GROUP 0).setFld (.cmpCfg 0) fCmpCfg_FAST_EN 1).setFld (.cmpStat 0) fCmpStat_QUAL_FAST 1), by decide +kernel⟩,
    ⟨awake.setSg 0 { tripAt := some 0 }, by decide +kernel⟩,
    ⟨opened (.sgCtl 0), accepts_of (by decide +kernel)⟩,
    ⟨awake, by decide +kernel⟩,
    ⟨awake, by decide +kernel⟩,
    ⟨opened (.cmpStat 0), accepts_of (by decide +kernel)⟩,
    ⟨awake.setCmp 0 { test := some 0 }, by decide +kernel⟩,
    ⟨opened (.tcStat 0), accepts_of (by decide +kernel)⟩⟩

/-- CompleteTwin: each clause with hypotheses. -/
theorem witness_CompleteTwin :
    (∃ s : State, (s.elapse 1000000000000).listenDone = true) ∧
    (∃ s : State, (s.elapse 0).coldDone = true) ∧
    (∃ s : State, ((s.elapse 0).cs == csCOLD && 1 != (s.elapse 0).headId) = true) ∧
    (∃ s : State, (s.elapse 1000000000000).backoffDone = true) ∧
    (∃ s : State, (s.elapse 0).accepts 9 .netCsCtl ((s.elapse 0).wordWith 9 .netCsCtl fNetCsCtl_RETRY 1)) ∧
    (∃ s : State, ((s.elapse 0).cs == csRUN && 1 != (s.elapse 0).headId) = true) ∧
    (∃ s : State, ((s.elapse 0).isHead && !(s.elapse 0).twin && 1 != (s.elapse 0).headId) = true) ∧
    (∃ s : State, ((s.elapse 0).cs == csLISTEN) = true) ∧
    (∃ s : State, (s.elapse 1000000000000).statusDue = true) ∧
    (∃ s : State, (s.elapse 1000000000000).digestDue = true) ∧
    (∃ s : State, (s.elapse 0).digestMissed = true) ∧
    (∃ s : State, (s.elapse 0).standbyDue = true) ∧
    (∃ s : State, (s.elapse 1000000000000).copyDue = true) ∧
    (∃ s : State, (s.elapse 1000000000000).copyLoadDue = true) ∧
    (∃ s : State, (s.elapse 0).abdCause 2 = true) ∧
    (∃ s : State, (s.elapse 0).accepts 9 .twnCtl ((s.elapse 0).wordWith 9 .twnCtl fTwnCtl_HANDOVER 1)) ∧
    (∃ s : State, (s.elapse 1000000000000).deafDue = true) ∧
    (∃ s : State, (s.elapse 0).hlLost = true) ∧
    (∃ s : State, (s.elapse 0).accepts 9 .twnCtl ((s.elapse 0).wordWith 9 .twnCtl fTwnCtl_RESYNC 1)) ∧
    (∃ s : State, (s.elapse 1000000000000).pullDue 64 = true) ∧
    (∃ s : State, (s.elapse 0).accepts 9 .twnCtl ((s.elapse 0).wordWith 9 .twnCtl fTwnCtl_CNT_CLR 1)) :=
  ⟨⟨{ (awake.setFld .netCsStat fNetCsStat_STATE csLISTEN) with net := { awake.net with csHears := true } }, by decide +kernel⟩,
    ⟨{ (awake.setFld .netCsStat fNetCsStat_STATE csCOLD) with net := { awake.net with csCycles := 9 } }, by decide +kernel⟩,
    ⟨(awake.setFld .netCsStat fNetCsStat_STATE csCOLD), by decide +kernel⟩,
    ⟨(awake.setFld .netCsStat fNetCsStat_STATE csBACKOFF), by decide +kernel⟩,
    ⟨opened (.netCsCtl), accepts_of (by decide +kernel)⟩,
    ⟨(awake.setFld .netCsStat fNetCsStat_STATE csRUN), by decide +kernel⟩,
    ⟨(awake.setFld .sysRole fSysRole_ROLE 1), by decide +kernel⟩,
    ⟨(awake.setFld .netCsStat fNetCsStat_STATE csLISTEN), by decide +kernel⟩,
    ⟨(((awake.setFld .sysRole fSysRole_ROLE 1).setFld .sysRole fSysRole_TWIN 1).setFld .netCsStat fNetCsStat_STATE csRUN), by decide +kernel⟩,
    ⟨{ (((awake.setFld .sysRole fSysRole_ROLE 1).setFld .sysRole fSysRole_TWIN 1).setFld .netCsStat fNetCsStat_STATE csRUN) with twn := { awake.twn with digests := [0] } }, by decide +kernel⟩,
    ⟨{ (((awake.setFld .sysRole fSysRole_ROLE 1).setFld .sysRole fSysRole_TWIN 1).setFld .twnStat fTwnStat_TSTATE 3) with twn := { awake.twn with digGot := false } }, by decide +kernel⟩,
    ⟨(((awake.setFld .sysRole fSysRole_ROLE 1).setFld .sysRole fSysRole_TWIN 1).setFld .twnStat fTwnStat_TSTATE tsVERIFYING), by decide +kernel⟩,
    ⟨{ ((((awake.setFld .sysRole fSysRole_ROLE 1).setFld .sysRole fSysRole_TWIN 1).setFld .twnStat fTwnStat_TSTATE tsLEADER).setFld .twnStat fTwnStat_P_TSTATE tsVERIFYING) with twn := { awake.twn with casEnd := some 0 } }, by decide +kernel⟩,
    ⟨{ (((awake.setFld .sysRole fSysRole_ROLE 1).setFld .sysRole fSysRole_TWIN 1).setFld .twnStat fTwnStat_TSTATE 3) with twn := { awake.twn with parts := [⟨2 ^ 48 - 1, 0, 0, [], 0⟩] } }, by decide +kernel⟩,
    ⟨((((awake.setFld .sysRole fSysRole_ROLE 1).setFld .sysRole fSysRole_TWIN 1).setFld .twnStat fTwnStat_TSTATE tsLEADER).setFld .timStat fTimStat_LOST_SYNC 1), by decide +kernel⟩,
    ⟨(((((awake.setFld .sysRole fSysRole_ROLE 1).setFld .sysRole fSysRole_TWIN 1).setFld .twnStat fTwnStat_TSTATE 3).setFld (.sysWeir 256) fSysWeir_STATE 0).setFld (.sysWeir 257) fSysWeir_STATE 0), accepts_of (by decide +kernel)⟩,
    ⟨(((awake.setFld .sysRole fSysRole_ROLE 1).setFld .sysRole fSysRole_TWIN 1).setFld .netCsStat fNetCsStat_STATE csRUN), by decide +kernel⟩,
    ⟨(((awake.setFld .sysRole fSysRole_ROLE 1).setFld .sysRole fSysRole_TWIN 1).setFld .twnStat fTwnStat_TSTATE 3), by decide +kernel⟩,
    ⟨(((((awake.setFld .sysRole fSysRole_ROLE 1).setFld .sysRole fSysRole_TWIN 1).setFld .twnStat fTwnStat_TSTATE 3).setFld (.sysWeir 256) fSysWeir_STATE 0).setFld (.sysWeir 257) fSysWeir_STATE 0), accepts_of (by decide +kernel)⟩,
    ⟨((((((awake.setFld .sysRole fSysRole_ROLE 1).setFld .sysRole fSysRole_TWIN 1).setFld .twnStat fTwnStat_TSTATE tsLEADER).setFld .twnStat fTwnStat_P_TSTATE tsPULLING).setFld (.portStat 64) fPortStat_LSTATE lsUP).setFld (.sysWeir 256) fSysWeir_STATE 0), by decide +kernel⟩,
    ⟨(((((awake.setFld .sysRole fSysRole_ROLE 1).setFld .sysRole fSysRole_TWIN 1).setFld .twnStat fTwnStat_TSTATE 3).setFld (.sysWeir 256) fSysWeir_STATE 0).setFld (.sysWeir 257) fSysWeir_STATE 0), accepts_of (by decide +kernel)⟩⟩

/-- CompleteTime: each clause with hypotheses. -/
theorem witness_CompleteTime :
    (∃ s : State, (s.elapse 0).accepts 9 (.domMCtl 0) ((s.elapse 0).wordWith 9 (.domMCtl 0) fDomMCtl_POST 1)) ∧
    (∃ s : State, (s.elapse 1000000000000).domTimedOut 0 = true) ∧
    (∃ s : State, (s.elapse 1000000000000).revertDue = true) ∧
    (∃ s : State, (s.elapse 1000000000000).holdLimit = true) ∧
    (∃ s : State, (s.elapse 0).ltLocks = true) ∧
    (∃ s : State, (s.elapse 0).readable 9 .timTsqId) ∧
    (∃ s : State, (s.elapse 0).accepts 9 .timTsqStat ((s.elapse 0).wordWith 9 .timTsqStat fTimTsqStat_CLR 1)) ∧
    (∃ s : State, (s.elapse 0).accepts 9 (.ttCtl 0) ((s.elapse 0).wordWith 9 (.ttCtl 0) fTtCtl_ARM 1)) ∧
    (∃ s : State, (s.elapse 0).accepts 9 (.ttCtl 0) ((s.elapse 0).wordWith 9 (.ttCtl 0) fTtCtl_DISARM 1)) ∧
    (∃ s : State, (s.elapse 1000000000000).pulseEnds 0 = true) :=
  ⟨⟨opened (.domMCtl 0), accepts_of (by decide +kernel)⟩,
    ⟨(awake.setFld (.domStat 0) fDomStat_DSTATE 1), by decide +kernel⟩,
    ⟨{ (((awake.setFld .timCfg fTimCfg_REVERT_S 1).setFld (.domStat 0) fDomStat_DSTATE 3).setFld .timStat fTimStat_LSTATE 2) with time := { awake.time with sel := some 1 } }, by decide +kernel⟩,
    ⟨(awake.setFld .timStat fTimStat_LSTATE 3), by decide +kernel⟩,
    ⟨(awake.setFld .timStat fTimStat_LSTATE 1), by decide +kernel⟩,
    ⟨awake, readable_of (by decide +kernel)⟩,
    ⟨opened (.timTsqStat), accepts_of (by decide +kernel)⟩,
    ⟨opened (.ttCtl 0), accepts_of (by decide +kernel)⟩,
    ⟨opened (.ttCtl 0), accepts_of (by decide +kernel)⟩,
    ⟨awake.setTt 0 { pulseEnd := some 0 }, by decide +kernel⟩⟩

/-- CompleteMirage: each clause with hypotheses. -/
theorem witness_CompleteMirage :
    (∃ s : State, (((s.elapse 0).setBalls 0).mirSettle 0).mirSampleDue 0 = true) ∧
    (∃ s : State, ((s.elapse 1000000000000).mirSettle 0).mirAbsDue 0 = true) ∧
    (∃ s : State, 16 < 2 ^ 18 ∧ (s.elapse 0).accepts 9 (Reg.mirRingCtl 0) ((wordPut (wordPut 0 fMirRingCtl_LEN_NEW 16) fMirRingCtl_STAGE 1))) ∧
    (∃ s : State, (s.elapse 0).accepts 9 (.mirCtl 0) ((s.elapse 0).wordWith 9 (.mirCtl 0) fMirCtl_ARM 1)) ∧
    (∃ s : State, (s.elapse 0).accepts 9 (.mirCtl 0) ((s.elapse 0).wordWith 9 (.mirCtl 0) fMirCtl_DISARM 1)) ∧
    (∃ s : State, (s.elapse 0).accepts 9 (.mirCtl 0) ((s.elapse 0).wordWith 9 (.mirCtl 0) fMirCtl_FORCE_TRIG 1)) ∧
    (∃ s : State, ∃ n, (((s.elapse 0).mirSettle 0).mir 0).holdTo = some n ∧ n ≤ ((s.elapse 0).mirSettle 0).now) ∧
    (∃ s : State, ((s.elapse 0).mirSettle 0).mirMayPre 0 = true) ∧
    (∃ s : State, ((s.elapse 0).mirSettle 0).mirEdge 0 false = true) ∧
    (∃ s : State, ((s.elapse 1000000000000).mirSettle 0).mirTimesOut 0 = true) ∧
    (∃ s : State, (s.elapse 1000000000000).xtlEnds 0 = true) ∧
    (∃ s : State, ((s.elapse 0).mirSettle 0).mirStreamDue 0 = true) ∧
    (∃ s : State, (s.elapse 0).accepts 9 (.mirCtl 0) ((s.elapse 0).wordWith 9 (.mirCtl 0) fMirCtl_CNT_CLR 1)) ∧
    (∃ s : State, (s.elapse 0).accepts 9 (Reg.mirMaskCfg 0) ((wordPut (wordPut 0 fMirMaskCfg_COUNT 1) fMirMaskCfg_VCNT 1) : Word48)) :=
  ⟨⟨(((awake.setFld (.sysWeir 283) fSysWeir_STATE 0).setFld (.mirStat 0) fMirStat_STATE mirPRE).setFld (.mirRate 0) fMirRate_RATE 2), by decide +kernel⟩,
    ⟨((awake.setFld (.sysWeir 283) fSysWeir_STATE 0).setFld (.mirStat 0) fMirStat_STATE mirPOST).setMir 0 { lastTick := some 0 }, by decide +kernel⟩,
    ⟨(awake.setFld (.sysWeir 283) fSysWeir_STATE 0), by decide +kernel, accepts_of (by decide +kernel)⟩,
    ⟨opened (.mirCtl 0), accepts_of (by decide +kernel)⟩,
    ⟨opened (.mirCtl 0), accepts_of (by decide +kernel)⟩,
    ⟨opened (.mirCtl 0), accepts_of (by decide +kernel)⟩,
    ⟨awake.setMir 0 { holdTo := some 0 }, 0, rfl, by decide +kernel⟩,
    ⟨((awake.setFld (.sysWeir 283) fSysWeir_STATE 0).setFld (.mirStat 0) fMirStat_STATE mirREARM), by decide +kernel⟩,
    ⟨((awake.setFld (.mirTrig 0) fMirTrig_T_KIND 1).setFld (.mirTrig 0) fMirTrig_EDGE 2), by decide +kernel⟩,
    ⟨((awake.setFld (.mirStat 0) fMirStat_STATE mirPOST).setFld (.mirAcq 0) fMirAcq_POST_TMAX 1).setMir 0 { trigT := some (0, 0) }, by decide +kernel⟩,
    ⟨(awake.setFld .mirXtl fMirXtl_DRIVEN 1).setMir 0 { xtl := some (0, 0, 0) }, by decide +kernel⟩,
    ⟨((((awake.setFld (.mirStat 0) fMirStat_STATE mirROLL).setFld (.mirCtl 0) fMirCtl_UPL 2).setFld (.mirRing 0) fMirRing_LEN 1024).setFld (.mirPtr 0) fMirPtr_WR 600), by decide +kernel⟩,
    ⟨opened (.mirCtl 0), accepts_of (by decide +kernel)⟩,
    ⟨awake, accepts_of (by decide +kernel)⟩⟩

/-- CompleteSpout: each clause with hypotheses. -/
theorem witness_CompleteSpout :
    (∃ s : State, (s.elapse 0).accepts 1 .sptSubGo ((s.elapse 0).wordWith 1 .sptSubGo fSptSubGo_GO 1)) ∧
    (∃ s : State, (s.elapse 0).sptMayStart = true) ∧
    (∃ s : State, (s.elapse 0).sptMayPreempt = true) ∧
    (∃ s : State, (s.elapse 1000000000000).sptTimesOut = true) ∧
    (∃ s : State, ∃ j : SptJob, ∃ e : SptExt, (s.elapse 0).sptExtJob 0 = some j ∧ j.ext = some e) ∧
    (∃ s : State, (s.elapse 0).accepts 9 .sptCntClr ((s.elapse 0).wordWith 9 .sptCntClr fSptCntClr_CLR 1)) ∧
    (∃ s : State, (s.elapse 0).issues 9 = true ∧ 0x11E0000 ≤ 0x11E0000 ∧ 0x11E0000 < 0x1200000 ∧ 0x11E0000 % 8 = 0 ∧ (s.elapse 0).memCode 9 0x11E0000 8 true = cOK) :=
  ⟨⟨(((awake.setFld (.sysWeir 507) fSysWeir_STATE 0).setFld (.sysWeir 275) fSysWeir_STATE 0).setFld (.coreStat 0) fCoreStat_HOLD 1), accepts_of (by decide +kernel)⟩,
    ⟨(awake.setFld (.sysWeir 507) fSysWeir_STATE 0).setArb 1 { waiting := [{ r := 0, arrival := 0, tick := 0, cost := 1 }] }, by decide +kernel⟩,
    ⟨{ (((awake.setFld (.shrReqCfg 1 0) fShrReqCfg_CLASS 3).setFld (.shrReqCfg 1 1) fShrReqCfg_CLASS 1).setArb 1 { waiting := [{ r := 1, arrival := 0, tick := 0, cost := 1 }] }) with spout := { run := some { task := 0 } } }, by decide +kernel⟩,
    ⟨{ awake with spout := { run := some { task := 0, limit := 1 } } }, by decide +kernel⟩,
    ⟨{ awake with spout := { run := some { task := 0, ext := some { addr := 0, load := true, space := 0, word := 0, p := [] } } } }, { task := 0, ext := some { addr := 0, load := true, space := 0, word := 0, p := [] } }, { addr := 0, load := true, space := 0, word := 0, p := [] }, rfl, rfl⟩,
    ⟨opened (.sptCntClr), accepts_of (by decide +kernel)⟩,
    ⟨awake, by decide +kernel, by decide +kernel, by decide +kernel, by decide +kernel, by decide +kernel⟩⟩

/-- CompleteSpoutInstr: each clause with hypotheses. -/
theorem witness_CompleteSpoutInstr :
    (∃ s : State, ∃ j : SptJob, ∃ w : Nat, (s.elapse 1000000000000).sptNow opNOP = some (j, w) ∧ (s.elapse 1000000000000).sptEcc j w false = false) ∧
    (∃ s : State, ∃ j : SptJob, ∃ w : Nat, (s.elapse 1000000000000).sptNow opLD = some (j, w) ∧ (s.elapse 1000000000000).sptEcc j w false = false) ∧
    (∃ s : State, ∃ j : SptJob, ∃ w : Nat, (s.elapse 1000000000000).sptNow opST = some (j, w) ∧ (s.elapse 1000000000000).sptEcc j w false = false) ∧
    (∃ s : State, ∃ j : SptJob, ∃ w : Nat, (s.elapse 1000000000000).sptNow opLDI = some (j, w) ∧ (s.elapse 1000000000000).sptEcc j w false = false) ∧
    (∃ s : State, ∃ j : SptJob, ∃ w : Nat, (s.elapse 1000000000000).sptNow opLPI = some (j, w) ∧ (s.elapse 1000000000000).sptEcc j w false = false) ∧
    (∃ s : State, ∃ j : SptJob, ∃ w : Nat, (s.elapse 1000000000000).sptNow opLDC = some (j, w) ∧ (s.elapse 1000000000000).sptEcc j w false = false) ∧
    (∃ s : State, ∃ j : SptJob, ∃ w : Nat, ∃ q : Nat, (s.elapse 1000000000000).sptNow opADDP = some (j, w) ∧ (s.elapse 1000000000000).sptEcc j w false = false ∧ sptUpd (getN j.p (bitsOf w 19 3)) (getN j.m (bitsOf w 16 3)) = some q) ∧
    (∃ s : State, ∃ j : SptJob, ∃ w : Nat, (s.elapse 1000000000000).sptNow opMPY = some (j, w) ∧ (s.elapse 1000000000000).sptEcc j w false = false) ∧
    (∃ s : State, ∃ j : SptJob, ∃ w : Nat, (s.elapse 1000000000000).sptNow opMAC = some (j, w) ∧ (s.elapse 1000000000000).sptEcc j w false = false) ∧
    (∃ s : State, ∃ j : SptJob, ∃ w : Nat, (s.elapse 1000000000000).sptNow opMSU = some (j, w) ∧ (s.elapse 1000000000000).sptEcc j w false = false) ∧
    (∃ s : State, ∃ j : SptJob, ∃ w : Nat, (s.elapse 1000000000000).sptNow opMXY = some (j, w) ∧ (s.elapse 1000000000000).sptEcc j w false = false) ∧
    (∃ s : State, ∃ j : SptJob, ∃ k : SptJob, ∃ w : Nat, ∃ l : SptW, (s.elapse 1000000000000).sptNow opMXP = some (j, w) ∧ (s.elapse 1000000000000).sptEcc j w false = false ∧ (s.elapse 1000000000000).sptMx j w true = .next k l) ∧
    (∃ s : State, ∃ j : SptJob, ∃ w : Nat, (s.elapse 1000000000000).sptNow opCLR = some (j, w) ∧ (s.elapse 1000000000000).sptEcc j w false = false) ∧
    (∃ s : State, ∃ j : SptJob, ∃ w : Nat, (s.elapse 1000000000000).sptNow opSETA = some (j, w) ∧ (s.elapse 1000000000000).sptEcc j w false = false) ∧
    (∃ s : State, ∃ j : SptJob, ∃ w : Nat, (s.elapse 1000000000000).sptNow opADDA = some (j, w) ∧ (s.elapse 1000000000000).sptEcc j w false = false) ∧
    (∃ s : State, ∃ j : SptJob, ∃ w : Nat, (s.elapse 1000000000000).sptNow opSUBA = some (j, w) ∧ (s.elapse 1000000000000).sptEcc j w false = false) ∧
    (∃ s : State, ∃ j : SptJob, ∃ w : Nat, (s.elapse 1000000000000).sptNow opASH = some (j, w) ∧ (s.elapse 1000000000000).sptEcc j w false = false) ∧
    (∃ s : State, ∃ j : SptJob, ∃ w : Nat, (s.elapse 1000000000000).sptNow opABSA = some (j, w) ∧ (s.elapse 1000000000000).sptEcc j w false = false) ∧
    (∃ s : State, ∃ j : SptJob, ∃ w : Nat, (s.elapse 1000000000000).sptNow opRND = some (j, w) ∧ (s.elapse 1000000000000).sptEcc j w false = false) ∧
    (∃ s : State, ∃ j : SptJob, ∃ w : Nat, (s.elapse 1000000000000).sptNow opRNDS = some (j, w) ∧ (s.elapse 1000000000000).sptEcc j w false = false) ∧
    (∃ s : State, ∃ j : SptJob, ∃ w : Nat, (s.elapse 1000000000000).sptNow opPKD = some (j, w) ∧ (s.elapse 1000000000000).sptEcc j w false = false) ∧
    (∃ s : State, ∃ j : SptJob, ∃ w : Nat, (s.elapse 1000000000000).sptNow opBFLY = some (j, w) ∧ (s.elapse 1000000000000).sptEcc j w false = false) ∧
    (∃ s : State, ∃ j : SptJob, ∃ w : Nat, (s.elapse 1000000000000).sptNow opBSCL = some (j, w) ∧ (s.elapse 1000000000000).sptEcc j w false = false) ∧
    (∃ s : State, ∃ j : SptJob, ∃ w : Nat, (s.elapse 1000000000000).sptNow opBCLR = some (j, w) ∧ (s.elapse 1000000000000).sptEcc j w false = false) ∧
    (∃ s : State, ∃ j : SptJob, ∃ k : SptJob, ∃ w : Nat, ∃ l : SptW, (s.elapse 1000000000000).sptNow opREP = some (j, w) ∧ (s.elapse 1000000000000).sptEcc j w false = false ∧ (s.elapse 1000000000000).sptRep j w = .next k l) ∧
    (∃ s : State, ∃ j : SptJob, ∃ k : SptJob, ∃ w : Nat, ∃ l : SptW, (s.elapse 1000000000000).sptNow opDO = some (j, w) ∧ (s.elapse 1000000000000).sptEcc j w false = false ∧ (s.elapse 1000000000000).sptDo j w = .next k l) ∧
    (∃ s : State, ∃ j : SptJob, ∃ w : Nat, (s.elapse 1000000000000).sptNow opB = some (j, w) ∧ (s.elapse 1000000000000).sptEcc j w false = false) ∧
    (∃ s : State, ∃ j : SptJob, ∃ w : Nat, (s.elapse 1000000000000).sptNow opHALT = some (j, w) ∧ (s.elapse 1000000000000).sptEcc j w false = false) ∧
    (∃ s : State, ∃ j : SptJob, ∃ w : Nat, ∃ q : Nat, ∃ i : Nat, ∃ l : List Nat, (s.elapse 1000000000000).sptNow opLDE = some (j, w) ∧ (s.elapse 1000000000000).sptEcc j w false = false ∧ sptIn (bitsOf w 14 2) (getN j.p (bitsOf w 11 3)) = true ∧ sptUpd (getN j.p (bitsOf w 11 3)) (getN j.m (bitsOf w 8 3)) = some q ∧ l = j.p.set (bitsOf w 11 3) q ∧ sptUpd (getN l (bitsOf w 19 3)) (getN j.m (bitsOf w 16 3)) = some i) ∧
    (∃ s : State, ∃ j : SptJob, ∃ w : Nat, ∃ q : Nat, ∃ i : Nat, ∃ l : List Nat, (s.elapse 1000000000000).sptNow opSTE = some (j, w) ∧ (s.elapse 1000000000000).sptEcc j w false = false ∧ sptIn (bitsOf w 14 2) (getN j.p (bitsOf w 11 3)) = true ∧ sptUpd (getN j.p (bitsOf w 11 3)) (getN j.m (bitsOf w 8 3)) = some q ∧ l = j.p.set (bitsOf w 11 3) q ∧ sptUpd (getN l (bitsOf w 19 3)) (getN j.m (bitsOf w 16 3)) = some i) ∧
    (∃ s : State, ∃ j : SptJob, ∃ w : Nat, (s.elapse 1000000000000).sptNow 0 = some (j, w) ∧ (s.elapse 1000000000000).sptEcc j w false = false) :=
  ⟨⟨{ (awake.setBytes 0x11E0000 (leBytes 4 0x04000000)) with spout := { run := some { task := 0 } } }, { task := 0 }, 0x04000000, rfl, by decide +kernel⟩,
    ⟨{ (awake.setBytes 0x11E0000 (leBytes 4 0x08000000)) with spout := { run := some { task := 0 } } }, { task := 0 }, 0x08000000, rfl, by decide +kernel⟩,
    ⟨{ (awake.setBytes 0x11E0000 (leBytes 4 0x0C000000)) with spout := { run := some { task := 0 } } }, { task := 0 }, 0x0C000000, rfl, by decide +kernel⟩,
    ⟨{ (awake.setBytes 0x11E0000 (leBytes 4 0x10000000)) with spout := { run := some { task := 0 } } }, { task := 0 }, 0x10000000, rfl, by decide +kernel⟩,
    ⟨{ (awake.setBytes 0x11E0000 (leBytes 4 0x14000000)) with spout := { run := some { task := 0 } } }, { task := 0 }, 0x14000000, rfl, by decide +kernel⟩,
    ⟨{ (awake.setBytes 0x11E0000 (leBytes 4 0x18000000)) with spout := { run := some { task := 0 } } }, { task := 0 }, 0x18000000, rfl, by decide +kernel⟩,
    ⟨{ (awake.setBytes 0x11E0000 (leBytes 4 0x1C000000)) with spout := { run := some { task := 0 } } }, _, _, _, rfl, by decide +kernel, rfl⟩,
    ⟨{ (awake.setBytes 0x11E0000 (leBytes 4 0x20000000)) with spout := { run := some { task := 0 } } }, { task := 0 }, 0x20000000, rfl, by decide +kernel⟩,
    ⟨{ (awake.setBytes 0x11E0000 (leBytes 4 0x24000000)) with spout := { run := some { task := 0 } } }, { task := 0 }, 0x24000000, rfl, by decide +kernel⟩,
    ⟨{ (awake.setBytes 0x11E0000 (leBytes 4 0x28000000)) with spout := { run := some { task := 0 } } }, { task := 0 }, 0x28000000, rfl, by decide +kernel⟩,
    ⟨{ (awake.setBytes 0x11E0000 (leBytes 4 0x2C000000)) with spout := { run := some { task := 0 } } }, { task := 0 }, 0x2C000000, rfl, by decide +kernel⟩,
    ⟨{ (awake.setBytes 0x11E0000 (leBytes 4 0x30400000)) with spout := { run := some { task := 0 } } }, _, _, _, _, rfl, by decide +kernel, rfl⟩,
    ⟨{ (awake.setBytes 0x11E0000 (leBytes 4 0x34000000)) with spout := { run := some { task := 0 } } }, { task := 0 }, 0x34000000, rfl, by decide +kernel⟩,
    ⟨{ (awake.setBytes 0x11E0000 (leBytes 4 0x38000000)) with spout := { run := some { task := 0 } } }, { task := 0 }, 0x38000000, rfl, by decide +kernel⟩,
    ⟨{ (awake.setBytes 0x11E0000 (leBytes 4 0x3C000000)) with spout := { run := some { task := 0 } } }, { task := 0 }, 0x3C000000, rfl, by decide +kernel⟩,
    ⟨{ (awake.setBytes 0x11E0000 (leBytes 4 0x40000000)) with spout := { run := some { task := 0 } } }, { task := 0 }, 0x40000000, rfl, by decide +kernel⟩,
    ⟨{ (awake.setBytes 0x11E0000 (leBytes 4 0x44000000)) with spout := { run := some { task := 0 } } }, { task := 0 }, 0x44000000, rfl, by decide +kernel⟩,
    ⟨{ (awake.setBytes 0x11E0000 (leBytes 4 0x48000000)) with spout := { run := some { task := 0 } } }, { task := 0 }, 0x48000000, rfl, by decide +kernel⟩,
    ⟨{ (awake.setBytes 0x11E0000 (leBytes 4 0x4C000000)) with spout := { run := some { task := 0 } } }, { task := 0 }, 0x4C000000, rfl, by decide +kernel⟩,
    ⟨{ (awake.setBytes 0x11E0000 (leBytes 4 0x50000000)) with spout := { run := some { task := 0 } } }, { task := 0 }, 0x50000000, rfl, by decide +kernel⟩,
    ⟨{ (awake.setBytes 0x11E0000 (leBytes 4 0x54000000)) with spout := { run := some { task := 0 } } }, { task := 0 }, 0x54000000, rfl, by decide +kernel⟩,
    ⟨{ (awake.setBytes 0x11E0000 (leBytes 4 0x60000000)) with spout := { run := some { task := 0 } } }, { task := 0 }, 0x60000000, rfl, by decide +kernel⟩,
    ⟨{ (awake.setBytes 0x11E0000 (leBytes 4 0x64000000)) with spout := { run := some { task := 0 } } }, { task := 0 }, 0x64000000, rfl, by decide +kernel⟩,
    ⟨{ (awake.setBytes 0x11E0000 (leBytes 4 0x68000000)) with spout := { run := some { task := 0 } } }, { task := 0 }, 0x68000000, rfl, by decide +kernel⟩,
    ⟨{ { (awake.setBytes 0x11E0000 (leBytes 4 0x80000000 ++ leBytes 4 0x04000000)) with spout := { run := some { task := 0 } } } with regs := (awake.setFld .sptCfg fSptCfg_REP_LIM 16).regs }, _, _, _, _, rfl, by decide +kernel, rfl⟩,
    ⟨{ (awake.setBytes 0x11E0000 (leBytes 4 0x84000001 ++ leBytes 4 0x04000000 ++ leBytes 4 0x04000000)) with spout := { run := some { task := 0 } } }, _, _, _, _, rfl, by decide +kernel, rfl⟩,
    ⟨{ (awake.setBytes 0x11E0000 (leBytes 4 0x88000000)) with spout := { run := some { task := 0 } } }, { task := 0 }, 0x88000000, rfl, by decide +kernel⟩,
    ⟨{ (awake.setBytes 0x11E0000 (leBytes 4 0x8C000000)) with spout := { run := some { task := 0 } } }, { task := 0 }, 0x8C000000, rfl, by decide +kernel⟩,
    ⟨{ (awake.setBytes 0x11E0000 (leBytes 4 0xA0000000)) with spout := { run := some { task := 0 } } }, _, _, _, _, _, rfl, by decide +kernel, by decide +kernel, rfl, rfl, rfl⟩,
    ⟨{ (awake.setBytes 0x11E0000 (leBytes 4 0xA4000000)) with spout := { run := some { task := 0 } } }, _, _, _, _, _, rfl, by decide +kernel, by decide +kernel, rfl, rfl, rfl⟩,
    ⟨{ (awake.setBytes 0x11E0000 (leBytes 4 0x00000000)) with spout := { run := some { task := 0 } } }, { task := 0 }, 0, rfl, by decide +kernel⟩⟩

/-- CompleteSluice: each clause with hypotheses. -/
theorem witness_CompleteSluice :
    (∃ s : State, (s.elapse 0).readable 1 (.coreDispatch 0)) ∧
    (∃ s : State, (s.elapse 0).accepts 1 (.coreDone 0) ((s.elapse 0).wordWith 1 (.coreDone 0) fCoreDone_OP 1)) ∧
    (∃ s : State, 0 < 2 ^ 32 ∧ (s.elapse 0).accepts 1 (Reg.coreDone 0) ((wordPut (wordPut (wordPut 0 fCoreDone_OP 2) fCoreDone_WAIT_MODE (b2n false)) fCoreDone_WAIT_MASK 0))) ∧
    (∃ s : State, (s.elapse 0).accepts 1 (.coreDone 0) ((s.elapse 0).wordWith 1 (.coreDone 0) fCoreDone_OP 3)) ∧
    (∃ s : State, 0 < 2 ^ 32 ∧ (s.elapse 0).accepts 9 (.taskFlagSet 0) ((s.elapse 0).wordWith 9 (.taskFlagSet 0) fTaskFlagSet_BITS 0)) ∧
    (∃ s : State, 0 < 2 ^ 32 ∧ (s.elapse 0).accepts 9 (.taskFlagClr 0) ((s.elapse 0).wordWith 9 (.taskFlagClr 0) fTaskFlagClr_BITS 0)) ∧
    (∃ s : State, (s.elapse 0).accepts 9 Reg.sluPost (0 : Word48)) ∧
    (∃ s : State, wordFld ((wordPut (wordPut 0 fSluCvnCtl_STAGE 1) fSluCvnCtl_LEN_NEW 1024) : Word48) fSluCvnCtl_STAGE = 1 ∧ (s.elapse 0).accepts 9 Reg.sluCvnCtl ((wordPut (wordPut 0 fSluCvnCtl_STAGE 1) fSluCvnCtl_LEN_NEW 1024) : Word48)) ∧
    (∃ s : State, (s.elapse 1000000000000).timerIrq 0 = true) ∧
    (∃ s : State, (s.elapse 1000000000000).wdogDue 0 = true) ∧
    (∃ s : State, wordFld ((wordPut 0 fCoreWdog_KICK 1) : Word48) fCoreWdog_KICK = 1 ∧ (s.elapse 0).accepts 9 (Reg.coreWdog 0) ((wordPut 0 fCoreWdog_KICK 1) : Word48)) ∧
    (∃ s : State, (s.elapse 0).accepts 9 (Reg.mbData 0) (0 : Word48)) ∧
    (∃ s : State, (s.elapse 0).accepts 9 (Reg.mbData 56) (0 : Word48)) ∧
    (∃ s : State, (s.elapse 0).readable 9 (.mbData 0)) ∧
    (∃ s : State, (s.elapse 0).accepts 9 (.mbWait 0) ((s.elapse 0).wordWith 9 (.mbWait 0) fMbWait_WAIT (b2n false))) ∧
    (∃ s : State, (s.elapse 0).readable 9 (.lk 0)) ∧
    (∃ s : State, (s.elapse 0).accepts 9 (Reg.lk 0) (0 : Word48)) ∧
    (∃ s : State, (s.elapse 0).accepts 9 (Reg.lkStat 0) ((wordPut (wordPut 0 fLkStat_FORCE 1) fLkStat_KEY 0xC1EA) : Word48)) ∧
    (∃ s : State, 0 < 2 ^ 16 ∧ (s.elapse 0).accepts 9 (.dbSet 1) ((s.elapse 0).wordWith 9 (.dbSet 1) fDbSet_BITS 0)) ∧
    (∃ s : State, 0 < 2 ^ 16 ∧ (s.elapse 0).accepts 9 (.dbPend 1) ((s.elapse 0).wordWith 9 (.dbPend 1) fDbPend_BITS 0)) :=
  ⟨⟨(awake.setFld (.sysWeir 275) fSysWeir_STATE 0), readable_of (by decide +kernel)⟩,
    ⟨((awake.setFld (.sysWeir 275) fSysWeir_STATE 0).setFld (.coreStat 0) fCoreStat_HOLD 1), accepts_of (by decide +kernel)⟩,
    ⟨((awake.setFld (.sysWeir 275) fSysWeir_STATE 0).setFld (.coreStat 0) fCoreStat_HOLD 1), by decide +kernel, accepts_of (by decide +kernel)⟩,
    ⟨((awake.setFld (.sysWeir 275) fSysWeir_STATE 0).setFld (.coreStat 0) fCoreStat_HOLD 1), accepts_of (by decide +kernel)⟩,
    ⟨opened (.taskFlagSet 0), by decide +kernel, accepts_of (by decide +kernel)⟩,
    ⟨opened (.taskFlagClr 0), by decide +kernel, accepts_of (by decide +kernel)⟩,
    ⟨((awake.setFld (.sysWeir 315) fSysWeir_STATE 0).setFld (.taskCfg 0) fTaskCfg_USED 1), accepts_of (by decide +kernel)⟩,
    ⟨awake, by decide +kernel, accepts_of (by decide +kernel)⟩,
    ⟨awake, by decide +kernel⟩,
    ⟨((awake.setFld (.sysWeir 275) fSysWeir_STATE 0).setFld (.coreWdog 0) fCoreWdog_PERIOD 1), by decide +kernel⟩,
    ⟨(awake.setFld (.sysWeir 275) fSysWeir_STATE 0), by decide +kernel, accepts_of (by decide +kernel)⟩,
    ⟨((((awake.setFld (.sysWeir 443) fSysWeir_STATE 0).setFld (.sysWeir 276) fSysWeir_STATE 0).setFld (.mbCfg 0) fMbCfg_SENDER 9).setFld (.mbCfg 0) fMbCfg_RECEIVER 2), accepts_of (by decide +kernel)⟩,
    ⟨((((awake.setFld (.sysWeir 499) fSysWeir_STATE 0).setFld (.sysWeir 276) fSysWeir_STATE 0).setFld (.mbCfg 56) fMbCfg_RECEIVER 2).setFld (.lkStat 0) fLkStat_OWNER 9), accepts_of (by decide +kernel)⟩,
    ⟨(awake.setFld (.mbCfg 0) fMbCfg_RECEIVER 9), readable_of (by decide +kernel)⟩,
    ⟨((awake.setFld (.sysWeir 443) fSysWeir_STATE 0).setFld (.mbCfg 0) fMbCfg_SENDER 9), accepts_of (by decide +kernel)⟩,
    ⟨awake, readable_of (by decide +kernel)⟩,
    ⟨(awake.setFld (.lkStat 0) fLkStat_OWNER 9), accepts_of (by decide +kernel)⟩,
    ⟨awake, accepts_of (by decide +kernel)⟩,
    ⟨awake, by decide +kernel, accepts_of (by decide +kernel)⟩,
    ⟨awake, by decide +kernel, accepts_of (by decide +kernel)⟩⟩

/-- CompleteOasis: each clause with hypotheses. -/
theorem witness_CompleteOasis :
    (∃ s : State, (s.elapse 1000000000000).safetyDue = true) ∧
    (∃ s : State, (s.elapse 0).discDue 0 = true) ∧
    (∃ s : State, (s.elapse 0).ss1Due 0 = true) ∧
    (∃ s : State, (s.elapse 1000000000000).pulseDue 0 false = true) ∧
    (∃ s : State, (s.elapse 1000000000000).edmDue 0 = true) ∧
    (∃ s : State, (s.elapse 0).slsDue 0 = true) ∧
    (∃ s : State, (s.elapse 0).slsWindowDue 0 = true) ∧
    (∃ s : State, (s.elapse 0).oas.edge = true) ∧
    (∃ s : State, (s.elapse 0).srstSticks = true) ∧
    (∃ s : State, (s.elapse 1000000000000).watchdogDue 0 = true) ∧
    (∃ s : State, (s.elapse 0).accepts 9 (Reg.zoneCtl 0) (0 : Word48)) ∧
    (∃ s : State, wordFld ((wordPut (wordPut 0 fOasPwdCtl_PRESENT 1) fOasPwdCtl_LEN 8) : Word48) fOasPwdCtl_PRESENT = 1 ∧ wordFld ((wordPut (wordPut 0 fOasPwdCtl_PRESENT 1) fOasPwdCtl_LEN 8) : Word48) fOasPwdCtl_CLEAR = 0 ∧ (s.elapse 0).accepts 9 Reg.oasPwdCtl ((wordPut (wordPut 0 fOasPwdCtl_PRESENT 1) fOasPwdCtl_LEN 8) : Word48)) ∧
    (∃ s : State, (s.elapse 0).accepts 9 .oasPwdCtl ((s.elapse 0).wordWith 9 .oasPwdCtl fOasPwdCtl_CLEAR 1)) ∧
    (∃ s : State, (s.elapse 0).pwdExpires = true) ∧
    (∃ s : State, (s.elapse 0).lockEnds = true) ∧
    (∃ s : State, (s.elapse 0).accepts 9 (.slsStat 0) ((s.elapse 0).wordWith 9 (.slsStat 0) fSlsStat_CLR 1)) :=
  ⟨⟨{ awake with power := { awake.power with inReset := false } }, by decide +kernel⟩,
    ⟨((awake.setFld (.siCfg 0) fSiCfg_EN 1).setFld (.siStat 0) fSiStat_DCOUNT 1), by decide +kernel⟩,
    ⟨(awake.setFld (.zoneStat 0) fZoneStat_ZSTATE zSS1), by decide +kernel⟩,
    ⟨(awake.setFld (.soStat 0) fSoStat_CMD 1), by decide +kernel⟩,
    ⟨(awake.setFld (.soCfg 0) fSoCfg_FUNC 1), by decide +kernel⟩,
    ⟨awake.setZone 0 { slsFrom := some 0 }, by decide +kernel⟩,
    ⟨((awake.setFld (.slsCfg 0) fSlsCfg_EN 1).setFld (.zoneStat 0) fZoneStat_SLS_ACT 1), by decide +kernel⟩,
    ⟨{ awake with oas := { awake.oas with edge := true } }, by decide +kernel⟩,
    ⟨{ awake with oas := { awake.oas with high := 50001 } }, by decide +kernel⟩,
    ⟨((awake.setFld (.connCfg 0) fConnCfg_USED 1).setFld (.connStat 0) fConnStat_CSTATE 1), by decide +kernel⟩,
    ⟨opened (Reg.zoneCtl 0), accepts_of (by decide +kernel)⟩,
    ⟨awake, by decide +kernel, by decide +kernel, accepts_of (by decide +kernel)⟩,
    ⟨opened (.oasPwdCtl), accepts_of (by decide +kernel)⟩,
    ⟨{ awake with oas := { awake.oas with pwdTo := some 0 } }, by decide +kernel⟩,
    ⟨{ awake with oas := { awake.oas with lockTo := some 0 } }, by decide +kernel⟩,
    ⟨opened (.slsStat 0), accepts_of (by decide +kernel)⟩⟩

/-- CompletePorts: each clause with hypotheses. -/
theorem witness_CompletePorts :
    (∃ s : State, (s.elapse 0).pcieLive = true) ∧
    (∃ s : State, (s.elapse 0).pcieLive = true) ∧
    (∃ s : State, (s.elapse 1000000000000).perstEnds = true) ∧
    (∃ s : State, (s.elapse 0).pcieMayUp = true) ∧
    (∃ s : State, (s.elapse 0).accepts 1 (Reg.dmaPost 0) ((wordPut (wordPut 0 fDmaPost_SRC 0x1000000) fDmaPost_LEN 8) : Word48)) ∧
    (∃ s : State, (s.elapse 0).accepts 9 (Reg.dmaCtl 0) ((wordPut 0 fDmaCtl_LEN 16) : Word48)) ∧
    (∃ s : State, (s.elapse 0).dmaReady 0 = true) ∧
    (∃ s : State, (((s.elapse 0).dmaH 0).current.isSome && !((s.elapse 0).dmaH 0).starved) = true) ∧
    (∃ s : State, (((s.elapse 0).dmaH 0).starved) = true) ∧
    (∃ s : State, (s.elapse 0).accepts 9 .hstSpiIrq ((s.elapse 0).wordWith 9 .hstSpiIrq fHstSpiIrq_VLOG_CLR 1)) ∧
    (∃ s : State, ((s.elapse 0).flag (.ethStat 0) fEthStat_LINK) = true) ∧
    (∃ s : State, (s.elapse 0).accepts 1 (Reg.ethTxPost 0) ((wordPut 0 fEthTxPost_LEN 60) : Word48)) ∧
    (∃ s : State, (s.elapse 0).ethMaySend 0 = true) ∧
    (∃ s : State, (s.elapse 0).accepts 9 (.ethStat 0) ((s.elapse 0).wordWith 9 (.ethStat 0) fEthStat_CLR 1)) ∧
    (∃ s : State, ((s.elapse 0).host.tapInstr == 0x10 && (1 == 1 || 1 == 2)) = true) :=
  ⟨⟨(awake.setFld .hstPcieStat fHstPcieStat_SPEED 1), by decide +kernel⟩,
    ⟨(awake.setFld .hstPcieStat fHstPcieStat_SPEED 1), by decide +kernel⟩,
    ⟨{ awake with host := { awake.host with perst := true, perstUp := some 0 } }, by decide +kernel⟩,
    ⟨{ awake with host := { awake.host with linkEnabled := true } }, by decide +kernel⟩,
    ⟨((awake.setFld (.sysWeir 275) fSysWeir_STATE 0).setFld (.dmaCtl 0) fDmaCtl_EN 1), accepts_of (by decide +kernel)⟩,
    ⟨awake, accepts_of (by decide +kernel)⟩,
    ⟨(awake.setFld (.dmaCtl 0) fDmaCtl_EN 1).setDmaH 0 { waiting := [{}] }, by decide +kernel⟩,
    ⟨awake.setDmaH 0 { current := some {} }, by decide +kernel⟩,
    ⟨awake.setDmaH 0 { starved := true }, by decide +kernel⟩,
    ⟨opened (.hstSpiIrq), accepts_of (by decide +kernel)⟩,
    ⟨(awake.setFld (.ethStat 0) fEthStat_LINK 1), by decide +kernel⟩,
    ⟨(awake.setFld (.sysWeir 275) fSysWeir_STATE 0), accepts_of (by decide +kernel)⟩,
    ⟨(awake.setFld (.ethStat 0) fEthStat_LINK 1).setEthH 0 { posts := [⟨0, 60, false⟩] }, by decide +kernel⟩,
    ⟨opened (.ethStat 0), accepts_of (by decide +kernel)⟩,
    ⟨{ awake with host := { awake.host with tapInstr := 0x10 } }, by decide +kernel⟩⟩

end

end Sys2Proof.Tests
end

section
/-! PROOFS. The two 32-bit halves of a register slot (R29 to R32): one equation per case of each access, and the two statements
about them. -/
namespace Sys2Proof.Machine

/-! ### The commands are the 32-bit accesses -/

theorem exec_lowWordRead (dt ag a : Nat) (s : State) :
    exec (.lowWordRead dt ag a) s = .next (((s.elapse dt).read32 ag a).inTimeOf (s.elapse dt)) := rfl

theorem exec_highWordRead (dt ag a : Nat) (s : State) :
    exec (.highWordRead dt ag a) s = .next (((s.elapse dt).read32 ag (a + 4)).inTimeOf (s.elapse dt)) := rfl

theorem exec_lowWordWrite (dt ag a w : Nat) (s : State) :
    exec (.lowWordWrite dt ag a w) s = .next (((s.elapse dt).write32 ag a w).inTimeOf (s.elapse dt)) := rfl

theorem exec_highWordWrite (dt ag a w : Nat) (s : State) :
    exec (.highWordWrite dt ag a w) s = .next (((s.elapse dt).write32 ag (a + 4) w).inTimeOf (s.elapse dt)) := rfl

/-! ### Which half of a slot an address reaches -/

section
variable {s : State} {ag a : Nat} (hi : s.issues ag = true) (ha : a < 0x1000000) (h8 : a % 8 = 0)
include hi ha h8

/-- A 32-bit read at a slot's own address is one of its low word. -/
theorem read32_low : s.read32 ag a = s.lowRead ag a := by
  have h4 : a % 4 = 0 := by omega
  simp [State.read32, hi, ha, h8, h4]

/-- A 32-bit read four bytes on is one of its high word. -/
theorem read32_high : s.read32 ag (a + 4) = s.highRead ag a := by
  have h4 : (a + 4) % 4 = 0 := by omega
  have hb : a + 4 < 0x1000000 := by omega
  have hn : (a + 4) % 8 ≠ 0 := by omega
  simp [State.read32, hi, hb, hn, h4]

/-- A 32-bit write at a slot's own address is one of its low word. -/
theorem write32_low (w : Nat) : s.write32 ag a w = s.lowWrite ag a w := by
  have h4 : a % 4 = 0 := by omega
  simp [State.write32, hi, ha, h8, h4]

/-- A 32-bit write four bytes on is one of its high word. -/
theorem write32_high (w : Nat) : s.write32 ag (a + 4) w = s.highWrite ag a w := by
  have h4 : (a + 4) % 4 = 0 := by omega
  have hb : a + 4 < 0x1000000 := by omega
  have hn : (a + 4) % 8 ≠ 0 := by omega
  simp [State.write32, hi, hb, hn, h4]

end

/-! ### Reads (R29, R30) -/

/-- Noting an epoch leaves what is held for every agent. -/
theorem noteEpoch_agent (s : State) (ag : Nat) (r : Reg) (b : Nat) : (s.noteEpoch ag r).agent b = s.agent b := by
  unfold State.agent
  rw [(noteEpoch_pres s ag r).1]

/-- An accepted read of a low word answers it and latches the high one (R29). -/
theorem lowRead_readable {s : State} {ag : Nat} {r : Reg} (h : s.readable ag r) (hd : isDispatch r.addr = false) :
    s.lowRead ag r.addr =
      (let x := (s.settleReg r).readAct ag r
       let y := x.2.noteEpoch ag r
       (y.setAgent ag { y.agent ag with latch := some (r.addr, slotBits r x.1 / 2 ^ 32) }).answer ag r.addr tyRead cOK
         (slotBits r x.1 % 2 ^ 32)) := by
  obtain ⟨-, hm, hr⟩ := h
  have hn : r.name ≠ .coreDispatch := by simpa [isDispatch_addr r hm] using hd
  have e := regRead_ok s ag r (by rw [hr]; rfl) hn
  simp [State.lowRead, access8_read s ag r 0 hm, e, hd]

/-- A read of a high word that is latched answers the latched one and frees the latch (R29). -/
theorem highRead_latched {s : State} {ag a n : Nat} (h : (s.agent ag).latch = some (a, n)) :
    s.highRead ag a = (s.setAgent ag { s.agent ag with latch := none }).answer ag (a + 4) tyRead cOK n := by
  simp [State.highRead, h]

/-- An accepted read of a high word that is not latched answers the current one (R30). -/
theorem highRead_current {s : State} {ag : Nat} {r : Reg} (h : s.readable ag r)
    (hl : ∀ n, (s.agent ag).latch ≠ some (r.addr, n)) :
    s.highRead ag r.addr =
      ((s.settleReg r).noteEpoch ag r).answer ag (r.addr + 4) tyRead cOK (slotBits r ((s.settleReg r).shown ag r) / 2 ^ 32) := by
  obtain ⟨-, ⟨-, -, ho⟩, hr⟩ := h
  have hc : lowestCode ((s.settleReg r).readRefuse ag r) = cOK := by rw [hr]; rfl
  unfold State.highRead
  cases hg : (s.agent ag).latch with
  | none => simp [ho, hc]
  | some l =>
    have hne : l.1 ≠ r.addr := fun e => hl l.2 (by rw [hg, ← e])
    simp [ho, hc, hne]

/-- Settles O15: each read is one of the three cases above, and an answer OK keeps the rest of the agent's record. That a read
answered from the latch leaves SYS.RSP_EPOCH too is the model's choice (log entry 85). -/
theorem lowWordReadLatchesHighWord : Obligations.LowWordReadLatchesHighWord := by
  unfold Obligations.LowWordReadLatchesHighWord
  refine ⟨?_, ?_, ?_⟩
  · rintro dt ag _ s r t₁ rfl hd hr
    have ⟨hi, ⟨ha, h8, _⟩, _⟩ := hr
    rw [exec_lowWordRead, read32_low hi ha h8, lowRead_readable hr hd]
    refine ⟨_, rfl, ?_⟩
    rw [agent_inTimeOf, answer_ok_agent, agent_setAgent]
    exact ⟨rfl, rfl, rfl⟩
  · intro dt ag a n s hi ha h8 hl
    rw [exec_highWordRead, read32_high hi ha h8, highRead_latched hl]
    refine ⟨_, rfl, ?_⟩
    rw [agent_inTimeOf, answer_ok_agent, agent_setAgent]
    exact ⟨rfl, rfl, rfl, answer_ok_regs _ ag _ tyRead n⟩
  · rintro dt ag _ s r t₁ rfl hr hl
    have ⟨hi, ⟨ha, h8, _⟩, _⟩ := hr
    rw [exec_highWordRead, read32_high hi ha h8, highRead_current hr hl]
    refine ⟨_, rfl, ?_⟩
    rw [agent_inTimeOf, answer_ok_agent, noteEpoch_agent]
    exact ⟨rfl, rfl, rfl⟩

/-! ### Writes (R31, R32) -/

/-- A write of a low word is staged for its agent (R31). -/
theorem lowWrite_mapped (s : State) (ag w : Nat) {r : Reg} (hm : r.mapped) :
    s.lowWrite ag r.addr w =
      (s.setAgent ag { s.agent ag with staged := some (r.addr, w % 2 ^ 32, false) }).answer ag r.addr (writeType ag) cOK 0 := by
  simp [State.lowWrite, hm.2.2]

/-- A write of a high word writes the low word staged for it as well (R31). -/
theorem highWrite_staged {s : State} {ag n : Nat} (w : Nat) {r : Reg} (hm : r.mapped)
    (h : (s.agent ag).staged = some (r.addr, n, false)) :
    s.highWrite ag r.addr w =
      (let y := (s.setAgent ag { s.agent ag with staged := none }).regWrite ag r (BitVec.ofNat 48 (n + 2 ^ 32 * (w % 2 ^ 16))) 0
       y.2.answer ag (r.addr + 4) (writeType ag) y.1 0) := by
  simp [State.highWrite, hm.2.2, h]

/-- A write of a high word for which none is staged writes the register's current low word with it (R32). -/
theorem highWrite_unstaged {s : State} {ag : Nat} (w : Nat) {r : Reg} (hm : r.mapped)
    (h : ∀ n b, (s.agent ag).staged ≠ some (r.addr, n, b)) :
    s.highWrite ag r.addr w =
      (let y := s.regWrite ag r (BitVec.ofNat 48 ((s.shown ag r).toNat % 2 ^ 32 + 2 ^ 32 * (w % 2 ^ 16))) 0
       y.2.answer ag (r.addr + 4) (writeType ag) y.1 0) := by
  unfold State.highWrite
  cases hg : (s.agent ag).staged with
  | none => simp [hm.2.2]
  | some g =>
    have hne : g.1 ≠ r.addr := fun e => h g.2.1 g.2.2 (by rw [hg, ← e])
    simp [hm.2.2, hne]

/-- Settles O16: each write is one of the three cases above. That the staged word is used up where the write of both words is
refused is the model's reading (log entry 84). -/
theorem lowWordIsStagedForHighWordWrite : Obligations.LowWordIsStagedForHighWordWrite := by
  unfold Obligations.LowWordIsStagedForHighWordWrite
  refine ⟨?_, ?_, ?_⟩
  · rintro dt ag _ w s r hi rfl hm
    have ⟨ha, h8, _⟩ := hm
    rw [exec_lowWordWrite, write32_low hi ha h8, lowWrite_mapped _ ag w hm]
    refine ⟨_, rfl, ?_⟩
    rw [agent_inTimeOf, answer_ok_agent, agent_setAgent]
    exact ⟨answer_ok_regs _ ag r.addr _ 0, rfl, rfl⟩
  · rintro dt ag _ w n s r t₁ hi rfl hm hs
    have ⟨ha, h8, _⟩ := hm
    rw [exec_highWordWrite, write32_high hi ha h8, highWrite_staged w hm hs]
  · rintro dt ag _ w s r t₁ hi rfl hm hs
    have ⟨ha, h8, _⟩ := hm
    rw [exec_highWordWrite, write32_high hi ha h8, highWrite_unstaged w hm hs]

end Sys2Proof.Machine
end

section
/-! PROOFS. Writes that reach a Basin live bank (R37): the byte that lies in one refuses the whole write with ACCESS, and no
byte of the memory windows refuses with a lower code. -/
namespace Sys2Proof.Machine

/-- An address in a live bank of Basin: the lower 4 KiB of an axis's 8 KiB (R36, R37). -/
def inLiveBank (a : Nat) : Prop := 0x1000000 ≤ a ∧ a < 0x1180000 ∧ a % 0x2000 < 0x1000

/-- A write of a byte in a live bank is refused with ACCESS (R37). -/
theorem byteRefuse_liveBank (s : State) (ag : Nat) {a : Nat} (h : inLiveBank a) : s.byteRefuse ag a true = [cACCESS] := by
  obtain ⟨h1, h2, h3⟩ := h
  simp [State.byteRefuse, Nat.not_lt.2 h1, h2, h3]

/-- A ground gives its own code alone, where it holds. -/
theorem forall_mem_refuseIf {p : Nat → Prop} {b : Bool} {c : Nat} : (∀ k ∈ refuseIf b c, p k) ↔ (b = true → p c) := by
  cases b <;> simp [refuseIf]

/-- In the memory windows below shared memory a write of a byte is refused with ACCESS or a higher code: only an address
outside them answers DECODE (R12). -/
theorem access_le_byteRefuse (s : State) (ag : Nat) {a : Nat} (h1 : 0x1000000 ≤ a) (h2 : a < 0x1500000) :
    ∀ c ∈ s.byteRefuse ag a true, cACCESS ≤ c := by
  have offline : cACCESS ≤ cOFFLINE := by decide
  have locked : cACCESS ≤ cLOCKED := by decide
  have ecc : cACCESS ≤ cECC := by decide
  unfold State.byteRefuse State.camStoreRefuse State.sptMemRefuse State.mirMemRefuse
  simp only [Nat.not_lt.2 h1, h2, if_false, if_true, Bool.not_true, Bool.false_eq_true]
  -- one case per memory window, each a list of grounds
  repeat' split
  all_goals simp only [List.forall_mem_append, List.forall_mem_singleton, forall_mem_refuseIf, offline, locked, ecc, Nat.le_refl,
    implies_true, and_self]

/-- A write of bytes of the memory windows of which one lies in a live bank answers ACCESS. -/
theorem memCode_liveBank (s : State) (ag : Nat) {a n i : Nat} (hi : i < n) (hl : inLiveBank (a + i)) (h1 : 0x1000000 ≤ a)
    (h2 : a + n ≤ 0x1500000) : s.memCode ag a n true = cACCESS := by
  refine lowestCode_eq _ _ (List.mem_flatMap.2 ⟨i, List.mem_range.2 hi, ?_⟩) (by decide) fun c hc => ?_
  · rw [byteRefuse_liveBank s ag hl]
    exact List.mem_singleton_self _
  · obtain ⟨j, hj, hc⟩ := List.mem_flatMap.1 hc
    have hj : j < n := List.mem_range.1 hj
    exact access_le_byteRefuse s ag (by omega) (by omega) c hc

/-- Such a write leaves the state as it was. -/
theorem memWrite_liveBank (s : State) (ag : Nat) {a i : Nat} {b : List Byte} (hi : i < b.length) (hl : inLiveBank (a + i))
    (h1 : 0x1000000 ≤ a) (h2 : a + b.length ≤ 0x1500000) : s.memWrite ag a b = (cACCESS, s) := by
  simp [State.memWrite, memCode_liveBank s ag hi hl h1 h2, cACCESS, cOK]

/-- A write of a number of n bytes at a live-bank address answers ACCESS, and the state is as it was. -/
theorem memWrite_leBytes_liveBank (s : State) (ag v : Nat) {a n : Nat} (hn : 0 < n) (hn8 : n ≤ 8) (hl : inLiveBank a) :
    s.memWrite ag a (leBytes n v) = (cACCESS, s) := by
  have ⟨h1, h2, _⟩ := hl
  exact memWrite_liveBank s ag (i := 0) (by rwa [leBytes_length]) hl h1 (by rw [leBytes_length]; omega)

/-- A memory window stands at a live-bank address. -/
theorem addrExists_liveBank {a : Nat} (hl : inLiveBank a) : addrExists a = true := by
  obtain ⟨h1, h2, -⟩ := hl
  simp only [addrExists, Nat.not_lt.2 h1, if_false, decide_eq_true_eq]
  omega

/-- A 64-bit write at a live-bank address, aligned or not, answers ACCESS. -/
theorem access8_liveBank (s : State) (ag v owed : Nat) {a : Nat} (hl : inLiveBank a) :
    s.access8 ag a (some v) owed = (cACCESS, 0, s) := by
  unfold State.access8
  by_cases h8 : a % 8 = 0
  · simp [h8, Nat.not_lt.2 hl.1, memWrite_leBytes_liveBank s ag v (n := 8) (by omega) (by omega) hl]
  · simp [h8, addrExists_liveBank hl]

/-- A 64-bit write at a live-bank address is answered ACCESS, but for a core's misaligned one. -/
theorem slot_liveBank {s : State} {ag a : Nat} (v owed : Nat) (hi : s.issues ag = true) (h8 : a % 8 = 0 ∨ isCore ag = false)
    (hl : inLiveBank a) : s.slot ag a (some v) owed = s.answer ag a (writeType ag) cACCESS 0 := by
  have hx : (decide (a % 8 ≠ 0) && isCore ag) = false := by rcases h8 with h | h <;> simp [h]
  unfold State.slot
  rw [hi, hx, access8_liveBank s ag v owed hl]
  rfl

/-- A 32-bit write at a live-bank address is answered ACCESS, but for a core's misaligned one. -/
theorem write32_liveBank {s : State} {ag a : Nat} (w : Nat) (hi : s.issues ag = true) (h4 : a % 4 = 0 ∨ isCore ag = false)
    (hl : inLiveBank a) : s.write32 ag a w = s.answer ag a (writeType ag) cACCESS 0 := by
  unfold State.write32
  by_cases h : a % 4 = 0
  · simp [hi, h, Nat.not_lt.2 hl.1, State.memSlot, memWrite_leBytes_liveBank s ag w (n := 4) (by omega) (by omega) hl]
  · have hc : isCore ag = false := h4.resolve_left h
    simp [hi, h, State.narrow, hc, addrExists_liveBank hl]

theorem exec_basinLiveBankWrite (dt ag a : Nat) (v : BitVec 64) (s : State) :
    exec (.basinLiveBankWrite dt ag a v) s = .next (((s.elapse dt).slot ag a (some v.toNat) 0).inTimeOf (s.elapse dt)) := rfl

/-- Settles O30: a write of any length answers the lowest code of its bytes' grounds, and each of the two commands is one such
write, or a misaligned access that ACCESS answers as well. -/
theorem liveBankWriteReturnsAccess : Obligations.LiveBankWriteReturnsAccess := by
  unfold Obligations.LiveBankWriteReturnsAccess
  refine ⟨?_, ?_, ?_⟩
  · rintro s ag a b ⟨i, hi, hl⟩ h1 h2
    exact memWrite_liveBank s ag hi hl h1 h2
  · intro dt ag a v s hi h8 h1 h2 h3
    rw [exec_basinLiveBankWrite, slot_liveBank v.toNat 0 hi h8 ⟨h1, h2, h3⟩]
  · intro dt ag a w s hi h4 h1 h2 h3
    rw [exec_lowWordWrite, write32_liveBank w hi h4 ⟨h1, h2, h3⟩]

end Sys2Proof.Machine
end

section
/-! PROOFS. The lock registers written (R604): what each refuses, what an accepted write leaves of the lock, and the statement
about both. -/
namespace Sys2Proof.Machine

/-! ### Saturating counters -/

/-- A number saturated at a width is the smaller of it and the width's largest. -/
theorem satU_eq_min (w n : Nat) : satU w n = min (2 ^ w - 1) n := by
  have hpos : 0 < 2 ^ w := Nat.two_pow_pos w
  unfold satU
  split <;> omega

/-- A field after one is counted in it. -/
theorem fld_incSat_self (s : State) (r : Reg) {f : Fld} (h : f.lo + f.w ≤ 48) :
    (s.incSat r f).fld r f = min (2 ^ f.w - 1) (s.fld r f + 1) := by
  have hlt : min (2 ^ f.w - 1) (s.fld r f + 1) < 2 ^ f.w := by
    have hpos : 0 < 2 ^ f.w := Nat.two_pow_pos f.w
    omega
  calc (s.incSat r f).fld r f = satU f.w (s.fld r f + 1) % 2 ^ f.w := fld_setFld_self s r f _ h
    _ = min (2 ^ f.w - 1) (s.fld r f + 1) := by rw [satU_eq_min, Nat.mod_eq_of_lt hlt]

/-- A field apart from the one counted in. -/
theorem fld_incSat_apart (s : State) (r : Reg) {f g : Fld} (h : f.apart g = true) : (s.incSat r f).fld r g = s.fld r g :=
  fld_setFld_apart s r f g _ h

/-! ### What frees a lock -/

/-- A lock freed by its owner has none. -/
theorem lockFree_owner (s : State) (n : Nat) : (s.lockFree n).fld (.lkStat n) fLkStat_OWNER = 0 :=
  fld_setFld_self s _ fLkStat_OWNER 0 (by decide)

/-- A lock freed by force has no owner. -/
theorem lockForce_owner (s : State) (n : Nat) : (s.lockForce n).fld (.lkStat n) fLkStat_OWNER = 0 := by
  unfold State.lockForce
  rw [fld_incSat_apart _ _ (by decide)]
  exact fld_setFld_self s _ fLkStat_OWNER 0 (by decide)

/-- A lock freed by force is counted in FORCED, which saturates. -/
theorem lockForce_forced (s : State) (n : Nat) :
    (s.lockForce n).fld (.lkStat n) fLkStat_FORCED = min 255 (s.fld (.lkStat n) fLkStat_FORCED + 1) := by
  unfold State.lockForce
  rw [fld_incSat_self _ _ (by decide), fld_setFld_apart s _ _ _ _ (by decide)]
  rfl

/-! ### The lock registers in the map -/

/-- LK[n] stands in the map for the 64 locks. -/
theorem mapped_lk {n : Nat} (hn : n < 64) : (Reg.lk n).mapped := by
  have ha : (Reg.lk n).addr = 0x122000 + n * 0x10 := rfl
  have hat : ∀ k < 64, Reg.ofAddr (Reg.lk k).addr = some (.lk k) := by decide +kernel
  exact ⟨by omega, by omega, hat n hn⟩

/-- LK_STAT[n] stands in the map for the 64 locks. -/
theorem mapped_lkStat {n : Nat} (hn : n < 64) : (Reg.lkStat n).mapped := by
  have ha : (Reg.lkStat n).addr = 0x122008 + n * 0x10 := rfl
  have hat : ∀ k < 64, Reg.ofAddr (Reg.lkStat k).addr = some (.lkStat k) := by decide +kernel
  exact ⟨by omega, by omega, hat n hn⟩

/-! ### What a write of them is refused with

Both have a field that is not RO, stand behind no weir and carry no order of R481: the register's own ground is the only one. -/

theorem writeRefuse_lk (s : State) (ag n : Nat) (v : Word48) : s.writeRefuse ag (.lk n) v = s.lkRefuse ag n := rfl

theorem writeRefuse_lkStat (s : State) (ag n : Nat) (v : Word48) : s.writeRefuse ag (.lkStat n) v = lkStatRefuse ag v := rfl

/-- The agents of R75, by number. -/
theorem privAgent_iff (ag : Nat) : privAgent ag = true ↔ 1 ≤ ag ∧ ag ≤ 10 ∨ ag = 16 := by
  simp [privAgent]

/-- What a write of LK_STAT[n] needs to force the lock free: FORCE, the key, and an agent of R75. -/
def forcesLock (ag : Nat) (v : Word48) : Prop :=
  wordFld v fLkStat_FORCE = 1 ∧ wordFld v fLkStat_KEY = 0xC1EA ∧ (1 ≤ ag ∧ ag ≤ 10 ∨ ag = 16)

/-- LK_STAT tests for just that. -/
theorem forcesLock_iff (ag : Nat) (v : Word48) :
    (wordFld v fLkStat_FORCE == 1 && wordFld v fLkStat_KEY == 0xC1EA && privAgent ag) = true ↔ forcesLock ag v := by
  simp [forcesLock, ← privAgent_iff, and_assoc]

theorem lkStatRefuse_forces {ag : Nat} {v : Word48} (h : forcesLock ag v) : lkStatRefuse ag v = [] :=
  refuseIf_false cACCESS (by rw [(forcesLock_iff ag v).2 h]; rfl)

theorem lkStatRefuse_not_forces {ag : Nat} {v : Word48} (h : ¬forcesLock ag v) : lkStatRefuse ag v = [cACCESS] :=
  refuseIf_true cACCESS (by rw [Bool.eq_false_iff.2 (mt (forcesLock_iff ag v).1 h)]; rfl)

/-! ### What a write of them leaves (R604) -/

section
variable {s : State} {ag n : Nat} (v : Word48) (hi : s.issues ag = true) (hn : n < 64)
include hi hn

/-- The owner's write of LK[n] frees the lock, whatever the value. -/
theorem busWrite_lk_owner (ho : s.fld (.lkStat n) fLkStat_OWNER = ag) :
    s.busWrite ag (Reg.lk n).addr v = (s.lockFree n).answer ag (Reg.lk n).addr (writeType ag) cOK 0 := by
  have hr : s.writeRefuse ag (.lk n) v = [] := (writeRefuse_lk s ag n v).trans (refuseIf_false cLOCKED (by simp [ho]))
  have ha : s.accepts ag (.lk n) v := ⟨hi, mapped_lk hn, rfl, hr⟩
  rw [busWrite_accepted s ag (.lk n) v ha]
  rfl

/-- A write of LK[n] by another agent is refused. -/
theorem busWrite_lk_other (ho : s.fld (.lkStat n) fLkStat_OWNER ≠ ag) :
    s.busWrite ag (Reg.lk n).addr v = s.answer ag (Reg.lk n).addr (writeType ag) cLOCKED 0 := by
  have hr : s.writeRefuse ag (.lk n) v = [cLOCKED] := (writeRefuse_lk s ag n v).trans (refuseIf_true cLOCKED (by simp [ho]))
  have hx : s.refuses ag (.lk n) v cLOCKED := ⟨hi, mapped_lk hn, by decide, congrArg lowestCode hr⟩
  exact slot_refused s ag (.lk n) v 0 cLOCKED hx

/-- A write of LK_STAT[n] with FORCE, the key and an agent of R75 forces the lock free. As every field is RO or WO, its plain
effect puts the register's own word back. -/
theorem busWrite_lkStat_forces (h : forcesLock ag v) :
    s.busWrite ag (Reg.lkStat n).addr v =
      ((s.setReg (.lkStat n) (s.reg (.lkStat n))).lockForce n).answer ag (Reg.lkStat n).addr (writeType ag) cOK 0 := by
  have hr : s.writeRefuse ag (.lkStat n) v = [] := (writeRefuse_lkStat s ag n v).trans (lkStatRefuse_forces h)
  have ha : s.accepts ag (.lkStat n) v := ⟨hi, mapped_lkStat hn, rfl, hr⟩
  rw [busWrite_accepted s ag (.lkStat n) v ha]
  rfl

/-- Any other write of LK_STAT[n] is refused. -/
theorem busWrite_lkStat_not_forces (h : ¬forcesLock ag v) :
    s.busWrite ag (Reg.lkStat n).addr v = s.answer ag (Reg.lkStat n).addr (writeType ag) cACCESS 0 := by
  have hr : s.writeRefuse ag (.lkStat n) v = [cACCESS] := (writeRefuse_lkStat s ag n v).trans (lkStatRefuse_not_forces h)
  have hx : s.refuses ag (.lkStat n) v cACCESS := ⟨hi, mapped_lkStat hn, by decide, congrArg lowestCode hr⟩
  exact slot_refused s ag (.lkStat n) v 0 cACCESS hx

end

theorem exec_lockWrite (dt ag n : Nat) (v : Word48) (s : State) :
    exec (.lockWrite dt ag n v) s = .next (((s.elapse dt).busWrite ag (Reg.lk n).addr v).inTimeOf (s.elapse dt)) := rfl

theorem exec_lockForce (dt ag n : Nat) (v : Word48) (s : State) :
    exec (.lockForce dt ag n v) s = .next (((s.elapse dt).busWrite ag (Reg.lkStat n).addr v).inTimeOf (s.elapse dt)) := rfl

/-- Settles O17: each command is one of the four writes above, on the state after its ticks. -/
theorem lockIsFreedByItsOwnerOrByForce : Obligations.LockIsFreedByItsOwnerOrByForce := by
  unfold Obligations.LockIsFreedByItsOwnerOrByForce
  refine ⟨?owner, ?other, ?forces, ?refused⟩
  case owner =>
    intro dt ag n v s hi hn ho
    rw [exec_lockWrite, busWrite_lk_owner v hi hn ho]
    refine ⟨_, rfl, ?_, ?_⟩
    · rw [agent_inTimeOf, answer_code]
    · rw [fld_inTimeOf, answer_ok_fld, lockFree_owner]
  case other =>
    intro dt ag n v s hi hn ho
    rw [exec_lockWrite, busWrite_lk_other v hi hn ho]
  case forces =>
    intro dt ag n v s hi hn h
    rw [exec_lockForce, busWrite_lkStat_forces v hi hn h]
    refine ⟨_, rfl, ?_, ?_, ?_⟩
    · rw [agent_inTimeOf, answer_code]
    · rw [fld_inTimeOf, answer_ok_fld, lockForce_owner]
    · rw [fld_inTimeOf, answer_ok_fld, lockForce_forced, fld_setReg]
      rfl
  case refused =>
    intro dt ag n v s hi hn h
    rw [exec_lockForce, busWrite_lkStat_not_forces v hi hn h]

end Sys2Proof.Machine
end

section
/-! PROOFS. What every command of the block does: it completes, keeps the queue behind it and the canonical form of the memories,
and its ticks pass; and the 159 commands that store nothing. -/
namespace Sys2Proof.Machine

/-! ### Every command is a row -/

/-- Every command is a row: its ticks pass, and of its effect's outcome the queue and the tick count are put back. -/
theorem exec_row (c : Instr) (s : State) : ∃ u : State, exec c s = .next (u.inTimeOf (s.elapse c.ticks)) := by
  cases c <;> exact ⟨_, rfl⟩

/-- Settles O3: every command is a row. That no effect touches the queue or the tick count is the model's choice
(log entries 1 and 93). -/
theorem everyCommandCompletes : Obligations.EveryCommandCompletes := by
  unfold Obligations.EveryCommandCompletes
  intro c s
  obtain ⟨u, hu⟩ := exec_row c s
  exact ⟨_, hu, rfl, rfl⟩

/-! ### One step -/

theorem step_nil {s : State} (h : s.pending = []) : step s = .next (s.elapse 1) := by
  unfold step
  rw [h]

theorem step_cons {s : State} {c : Instr} {l : List Instr} (h : s.pending = c :: l) :
    step s = exec c { s with pending := l } := by
  unfold step
  rw [h]

/-- Settles O1, by the definition of a step at a queue that is not empty. -/
theorem stepRunsCommand : Obligations.StepRunsCommand := by
  unfold Obligations.StepRunsCommand
  exact fun _ _ _ h => step_cons h

/-- Settles O2, by the definition of a step at an empty queue. The one tick is the model's choice (log entry 2). -/
theorem emptyQueueIdles : Obligations.EmptyQueueIdles := by
  unfold Obligations.EmptyQueueIdles
  exact fun _ h => step_nil h

/-- Settles O4: an empty queue idles, and the front command of another completes. The queue, and that an operand out of its
range stops nothing, are the model's choices (log entries 2, 92 and 93). -/
theorem blockNeverStops : Obligations.BlockNeverStops := by
  unfold Obligations.BlockNeverStops
  intro s
  cases hs : s.pending with
  | nil => exact ⟨_, step_nil hs, hs⟩
  | cons c l =>
    obtain ⟨t, ht, hp, -⟩ := everyCommandCompletes c { s with pending := l }
    exact ⟨t, (step_cons hs).trans ht, hp⟩

/-! ### Reset -/

/-- A field of a register reads its part of the reset value after reset. -/
theorem reset_fld (r : Reg) (f : Fld) : State.reset.fld r f = wordFld r.resetVal f := rfl

/-- Settles O6: nothing is listed after reset, and 0 is what an unlisted byte reads as (log entry 6). -/
theorem resetMemoryIsCanonical : Obligations.ResetMemoryIsCanonical := by
  unfold Obligations.ResetMemoryIsCanonical
  exact ⟨reset_wf, fun _ => rfl⟩

/-- Settles O7: the registers of one class share their reset value, whatever their index is. -/
theorem resetLeavesSpecValues : Obligations.ResetLeavesSpecValues := by
  unfold Obligations.ResetLeavesSpecValues
  have hstate : wordFld (Reg.sysWeir 0).resetVal fSysWeir_STATE = 2 := by decide
  have hepoch : wordFld (Reg.sysWeir 0).resetVal fSysWeir_EPOCH = 0 := by decide
  have howner : wordFld (Reg.lkStat 0).resetVal fLkStat_OWNER = 0 := by decide
  exact ⟨fun k _ => ⟨(reset_fld (.sysWeir k) _).trans hstate, (reset_fld (.sysWeir k) _).trans hepoch⟩,
    fun b _ => (reset_fld (.lkStat b) _).trans howner, rfl, rfl, rfl, rfl⟩

/-! ### The canonical form of the memories -/

/-- Every command keeps the canonical form: the table of what each of them keeps. -/
theorem exec_wf {c : Instr} {s t : State} (e : exec c s = .next t) (h : Memory.wf s.mem = true) : Memory.wf t.mem = true := by
  cases c with
  | registerWrite => exact execRegisterWrite_wf _ _ _ _ _ _ h e
  | lowWordRead => exact execLowWordRead_wf _ _ _ _ _ h e
  | highWordRead => exact execHighWordRead_wf _ _ _ _ _ h e
  | lowWordWrite => exact execLowWordWrite_wf _ _ _ _ _ _ h e
  | highWordWrite => exact execHighWordWrite_wf _ _ _ _ _ _ h e
  | narrowAccess => exact execNarrowAccess_wf _ _ _ _ _ _ _ _ h e
  | basinLiveBankWrite => exact execBasinLiveBankWrite_wf _ _ _ _ _ _ h e
  | cycleBoundary => exact execCycleBoundary_wf _ _ _ h e
  | syncOutPulseEnd => exact execSyncOutPulseEnd_wf _ _ _ h e
  | feedbackRecordComplete => exact execFeedbackRecordComplete_wf _ _ _ _ _ h e
  | scheduledTaskRelease => exact execScheduledTaskRelease_wf _ _ _ _ h e
  | jetGrant => exact execJetGrant_wf _ _ _ h e
  | jetTaskEnd => exact execJetTaskEnd_wf _ _ _ _ _ h e
  | jetTimeRefusal => exact execJetTimeRefusal_wf _ _ _ _ h e
  | commandFrameLaunch => exact execCommandFrameLaunch_wf _ _ _ _ h e
  | delayedCommandLaunch => exact execDelayedCommandLaunch_wf _ _ _ _ h e
  | jetCheckFailure => exact execJetCheckFailure_wf _ _ _ _ _ h e
  | jetSelfTestEnd => exact execJetSelfTestEnd_wf _ _ _ _ _ h e
  | jetSwap => exact execJetSwap_wf _ _ _ _ h e
  | jetRotation => exact execJetRotation_wf _ _ _ h e
  | jetCntClr => exact execJetCntClr_wf _ _ _ _ h e
  | frameStart => exact execFrameStart_wf _ _ _ _ h e
  | frameHeader => exact execFrameHeader_wf _ _ _ _ _ _ h e
  | frameCheck => exact execFrameCheck_wf _ _ _ _ _ _ _ h e
  | guardianWindowClose => exact execGuardianWindowClose_wf _ _ _ _ _ _ h e
  | forwardCopyStart => exact execForwardCopyStart_wf _ _ _ _ h e
  | outputInstant => exact execOutputInstant_wf _ _ _ h e
  | commandFrameReceived => exact execCommandFrameReceived_wf _ _ _ h e
  | cascadePass => exact execCascadePass_wf _ _ _ h e
  | cascadePassEnd => exact execCascadePassEnd_wf _ _ _ h e
  | pllLock => exact execPllLock_wf _ _ _ h e
  | pllLossOfLock => exact execPllLossOfLock_wf _ _ _ _ h e
  | clockWindowEnd => exact execClockWindowEnd_wf _ _ _ _ h e
  | powerOnReset => exact execPowerOnReset_wf _ _ _ h e
  | sequencerStart => exact execSequencerStart_wf _ _ _ _ h e
  | sequencerStep => exact execSequencerStep_wf _ _ _ _ h e
  | pgTimeout => exact execPgTimeout_wf _ _ _ h e
  | powerDownStep => exact execPowerDownStep_wf _ _ _ h e
  | railMeasurement => exact execRailMeasurement_wf _ _ _ _ _ _ h e
  | railFault => exact execRailFault_wf _ _ _ _ h e
  | faultWaitEnd => exact execFaultWaitEnd_wf _ _ _ h e
  | pmbusPoll => exact execPmbusPoll_wf _ _ _ h e
  | pmbusReply => exact execPmbusReply_wf _ _ _ _ _ _ _ _ h e
  | pmbAlert => exact execPmbAlert_wf _ _ _ h e
  | resetNLow => exact execResetNLow_wf _ _ _ _ _ h e
  | resetRelease => exact execResetRelease_wf _ _ _ h e
  | softwareResetRequest => exact execSoftwareResetRequest_wf _ _ _ _ h e
  | softwareChipReset => exact execSoftwareChipReset_wf _ _ _ h e
  | weirClose => exact execWeirClose_wf _ _ _ _ _ _ h e
  | weirOpen => exact execWeirOpen_wf _ _ _ _ _ h e
  | weirCycle => exact execWeirCycle_wf _ _ _ _ _ _ h e
  | weirPowerOff => exact execWeirPowerOff_wf _ _ _ _ _ _ h e
  | weirPowerOn => exact execWeirPowerOn_wf _ _ _ _ _ h e
  | weirCntClr => exact execWeirCntClr_wf _ _ _ _ _ h e
  | drainComplete => exact execDrainComplete_wf _ _ _ _ h e
  | drainTimeout => exact execDrainTimeout_wf _ _ _ _ h e
  | unitPowerUpComplete => exact execUnitPowerUpComplete_wf _ _ _ _ h e
  | unitResetComplete => exact execUnitResetComplete_wf _ _ _ _ _ h e
  | lateReplyDiscard => exact execLateReplyDiscard_wf _ _ _ _ _ h e
  | bootHeaders => exact execBootHeaders_wf _ _ _ h e
  | imageReadComplete => exact execImageReadComplete_wf _ _ _ _ h e
  | unitConfigurationComplete => exact execUnitConfigurationComplete_wf _ _ _ _ _ _ h e
  | startupAdmissionComplete => exact execStartupAdmissionComplete_wf _ _ _ h e
  | selfTestsComplete => exact execSelfTestsComplete_wf _ _ _ _ _ _ _ h e
  | imageSwitchGo => exact execImageSwitchGo_wf _ _ _ _ _ h e
  | imageSwitchCancel => exact execImageSwitchCancel_wf _ _ _ _ h e
  | imageVerifyComplete => exact execImageVerifyComplete_wf _ _ _ _ _ h e
  | imageStagingComplete => exact execImageStagingComplete_wf _ _ _ h e
  | imageSwitchDeadline => exact execImageSwitchDeadline_wf _ _ _ h e
  | partnerArmed => exact execPartnerArmed_wf _ _ _ _ _ h e
  | flashRead => exact execFlashRead_wf _ _ _ _ _ _ h e
  | flashProgram => exact execFlashProgram_wf _ _ _ _ _ _ h e
  | flashErase => exact execFlashErase_wf _ _ _ _ _ _ h e
  | flashOpComplete => exact execFlashOpComplete_wf _ _ _ _ h e
  | flashBufWrite => exact execFlashBufWrite_wf _ _ _ _ _ _ h e
  | arbitrationRequest => exact execArbitrationRequest_wf _ _ _ _ _ _ _ _ _ _ h e
  | arbitrationGrant => exact execArbitrationGrant_wf _ _ _ _ h e
  | ageLimitRefusal => exact execAgeLimitRefusal_wf _ _ _ _ h e
  | admissionCheckCmd => exact execAdmissionCheckCmd_wf _ _ _ _ _ h e
  | admissionCheckComplete => exact execAdmissionCheckComplete_wf _ _ _ h e
  | reqWaitClr => exact execReqWaitClr_wf _ _ _ _ _ _ h e
  | boundMissClr => exact execBoundMissClr_wf _ _ _ _ _ h e
  | vlogClr => exact execVlogClr_wf _ _ _ _ h e
  | stageRequest => exact execStageRequest_wf _ _ _ _ _ _ h e
  | stageCancel => exact execStageCancel_wf _ _ _ _ _ h e
  | enable => exact execEnable_wf _ _ _ _ _ h e
  | disable => exact execDisable_wf _ _ _ _ _ h e
  | stop => exact execStop_wf _ _ _ _ _ h e
  | quickStop => exact execQuickStop_wf _ _ _ _ _ h e
  | faultReset => exact execFaultReset_wf _ _ _ _ _ h e
  | ageStatClr => exact execAgeStatClr_wf _ _ _ _ _ h e
  | vlimCntClr => exact execVlimCntClr_wf _ _ _ _ _ h e
  | movePush => exact execMovePush_wf _ _ _ _ _ h e
  | moveFlush => exact execMoveFlush_wf _ _ _ _ _ h e
  | changeApply => exact execChangeApply_wf _ _ _ _ _ h e
  | engage => exact execEngage_wf _ _ _ _ _ h e
  | disengage => exact execDisengage_wf _ _ _ _ _ h e
  | camSwitch => exact execCamSwitch_wf _ _ _ _ _ h e
  | followCancel => exact execFollowCancel_wf _ _ _ _ _ h e
  | groupGo => exact execGroupGo_wf _ _ _ _ _ h e
  | camDescriptorWrite => exact execCamDescriptorWrite_wf _ _ _ _ _ _ h e
  | camCheckComplete => exact execCamCheckComplete_wf _ _ _ _ h e
  | camStoreWrite => exact execCamStoreWrite_wf _ _ _ _ _ _ h e
  | lineMasterPush => exact execLineMasterPush_wf _ _ _ _ _ h e
  | lineMasterReanchor => exact execLineMasterReanchor_wf _ _ _ _ _ h e
  | lineMasterClear => exact execLineMasterClear_wf _ _ _ _ _ h e
  | lineMasterPredict => exact execLineMasterPredict_wf _ _ _ _ _ _ h e
  | predictionDone => exact execPredictionDone_wf _ _ _ _ h e
  | stopTimeout => exact execStopTimeout_wf _ _ _ _ h e
  | atRestSet => exact execAtRestSet_wf _ _ _ _ h e
  | currentReduction => exact execCurrentReduction_wf _ _ _ _ h e
  | debounceChange => exact execDebounceChange_wf _ _ _ _ _ h e
  | limitBlockRelease => exact execLimitBlockRelease_wf _ _ _ _ _ h e
  | limitStatClr => exact execLimitStatClr_wf _ _ _ _ _ h e
  | homingStart => exact execHomingStart_wf _ _ _ _ _ h e
  | homingAbort => exact execHomingAbort_wf _ _ _ _ _ h e
  | referenceEdge => exact execReferenceEdge_wf _ _ _ _ _ _ h e
  | captureWindowEnd => exact execCaptureWindowEnd_wf _ _ _ _ h e
  | hardStopDwellEnd => exact execHardStopDwellEnd_wf _ _ _ _ h e
  | encoderEdge => exact execEncoderEdge_wf _ _ _ _ _ _ h e
  | hallCodeChange => exact execHallCodeChange_wf _ _ _ _ _ h e
  | indexEvent => exact execIndexEvent_wf _ _ _ _ h e
  | serialFrameStart => exact execSerialFrameStart_wf _ _ _ _ _ h e
  | serialFrameComplete => exact execSerialFrameComplete_wf _ _ _ _ _ h e
  | serialTimeout => exact execSerialTimeout_wf _ _ _ _ h e
  | standstillTimeout => exact execStandstillTimeout_wf _ _ _ _ h e
  | chkClr => exact execChkClr_wf _ _ _ _ _ h e
  | latchArm => exact execLatchArm_wf _ _ _ _ _ _ h e
  | latchDisarm => exact execLatchDisarm_wf _ _ _ _ _ _ h e
  | latchCapture => exact execLatchCapture_wf _ _ _ _ _ _ _ h e
  | encErrClr => exact execEncErrClr_wf _ _ _ _ _ h e
  | pwmPeriodBoundary => exact execPwmPeriodBoundary_wf _ _ _ _ h e
  | shadowWrite => exact execShadowWrite_wf _ _ _ _ _ _ _ h e
  | channelCommit => exact execChannelCommit_wf _ _ _ _ _ h e
  | groupCommit => exact execGroupCommit_wf _ _ _ _ _ h e
  | compareEdge => exact execCompareEdge_wf _ _ _ _ h e
  | shootThroughTrip => exact execShootThroughTrip_wf _ _ _ _ h e
  | groupEnable => exact execGroupEnable_wf _ _ _ _ _ h e
  | groupDisable => exact execGroupDisable_wf _ _ _ _ _ h e
  | shutdownEnd => exact execShutdownEnd_wf _ _ _ _ h e
  | prechargeCmd => exact execPrechargeCmd_wf _ _ _ _ _ h e
  | prechargeOnEnd => exact execPrechargeOnEnd_wf _ _ _ _ h e
  | prechargeComplete => exact execPrechargeComplete_wf _ _ _ _ h e
  | prechargeExpiry => exact execPrechargeExpiry_wf _ _ _ _ h e
  | hardTrip => exact execHardTrip_wf _ _ _ _ _ h e
  | fastQualified => exact execFastQualified_wf _ _ _ _ _ h e
  | fastTrip => exact execFastTrip_wf _ _ _ _ h e
  | tripSnapshotClose => exact execTripSnapshotClose_wf _ _ _ _ h e
  | tripClr => exact execTripClr_wf _ _ _ _ _ h e
  | sinc3Result => exact execSinc3Result_wf _ _ _ _ _ h e
  | sinc2Result => exact execSinc2Result_wf _ _ _ _ _ h e
  | sdStuck => exact execSdStuck_wf _ _ _ _ h e
  | comparatorSelfTest => exact execComparatorSelfTest_wf _ _ _ _ _ h e
  | comparatorSelfTestEnd => exact execComparatorSelfTestEnd_wf _ _ _ _ _ h e
  | tcCntClr => exact execTcCntClr_wf _ _ _ _ _ h e
  | signalDetected => exact execSignalDetected_wf _ _ _ _ h e
  | linkAcquired => exact execLinkAcquired_wf _ _ _ _ _ h e
  | acquireTimeout => exact execAcquireTimeout_wf _ _ _ _ h e
  | linkUp => exact execLinkUp_wf _ _ _ _ _ h e
  | adaptTimeout => exact execAdaptTimeout_wf _ _ _ _ h e
  | signalLost => exact execSignalLost_wf _ _ _ _ h e
  | codeErrorLimit => exact execCodeErrorLimit_wf _ _ _ _ h e
  | retrain => exact execRetrain_wf _ _ _ _ _ h e
  | portTest => exact execPortTest_wf _ _ _ _ _ _ h e
  | portTestExit => exact execPortTestExit_wf _ _ _ _ _ h e
  | invalidCodeGroup => exact execInvalidCodeGroup_wf _ _ _ _ _ h e
  | syncReceived => exact execSyncReceived_wf _ _ _ _ _ _ _ h e
  | syncMissing => exact execSyncMissing_wf _ _ _ _ h e
  | repeatStart => exact execRepeatStart_wf _ _ _ _ _ _ _ _ h e
  | repeatCut => exact execRepeatCut_wf _ _ _ _ h e
  | portCntClr => exact execPortCntClr_wf _ _ _ _ _ h e
  | feedbackFrameSend => exact execFeedbackFrameSend_wf _ _ _ h e
  | ownFrameEnd => exact execOwnFrameEnd_wf _ _ _ _ h e
  | rangeRequestSend => exact execRangeRequestSend_wf _ _ _ _ h e
  | rangeRequestAdmit => exact execRangeRequestAdmit_wf _ _ _ _ h e
  | rangeResponseSend => exact execRangeResponseSend_wf _ _ _ _ h e
  | rangeResponseReceived => exact execRangeResponseReceived_wf _ _ _ _ h e
  | rangingTimeout => exact execRangingTimeout_wf _ _ _ _ h e
  | commandLoss => exact execCommandLoss_wf _ _ _ h e
  | flowPost => exact execFlowPost_wf _ _ _ _ _ _ h e
  | dynamicFrameSend => exact execDynamicFrameSend_wf _ _ _ _ h e
  | uplinkFrameSend => exact execUplinkFrameSend_wf _ _ _ h e
  | dynamicFrameStore => exact execDynamicFrameStore_wf _ _ _ h e
  | serviceRequest => exact execServiceRequest_wf _ _ _ h e
  | serviceResponse => exact execServiceResponse_wf _ _ _ h e
  | netCntClr => exact execNetCntClr_wf _ _ _ _ h e
  | listenEnd => exact execListenEnd_wf _ _ _ h e
  | coldStartComplete => exact execColdStartComplete_wf _ _ _ h e
  | collision => exact execCollision_wf _ _ _ _ h e
  | backoffEnd => exact execBackoffEnd_wf _ _ _ h e
  | coldStartRetry => exact execColdStartRetry_wf _ _ _ _ h e
  | coldStartEcho => exact execColdStartEcho_wf _ _ _ h e
  | coldStartBlock => exact execColdStartBlock_wf _ _ _ _ h e
  | foreignHead => exact execForeignHead_wf _ _ _ _ h e
  | statusSend => exact execStatusSend_wf _ _ _ h e
  | statusReceived => exact execStatusReceived_wf _ _ _ h e
  | digestSend => exact execDigestSend_wf _ _ _ h e
  | digestReceived => exact execDigestReceived_wf _ _ _ h e
  | digestMiss => exact execDigestMiss_wf _ _ _ h e
  | standbyEntry => exact execStandbyEntry_wf _ _ _ h e
  | copySend => exact execCopySend_wf _ _ _ h e
  | copyLoad => exact execCopyLoad_wf _ _ _ h e
  | mirrorReceived => exact execMirrorReceived_wf _ _ _ h e
  | mirrorRetransmit => exact execMirrorRetransmit_wf _ _ _ h e
  | abdication => exact execAbdication_wf _ _ _ _ h e
  | handoverArm => exact execHandoverArm_wf _ _ _ _ h e
  | deafnessEvaluation => exact execDeafnessEvaluation_wf _ _ _ h e
  | headLinkLoss => exact execHeadLinkLoss_wf _ _ _ h e
  | resync => exact execResync_wf _ _ _ _ h e
  | pullSend => exact execPullSend_wf _ _ _ _ h e
  | pullReceived => exact execPullReceived_wf _ _ _ h e
  | twinCntClr => exact execTwinCntClr_wf _ _ _ _ h e
  | ptpPost => exact execPtpPost_wf _ _ _ _ _ h e
  | domainTimeout => exact execDomainTimeout_wf _ _ _ _ h e
  | domainRevert => exact execDomainRevert_wf _ _ _ h e
  | holdoverLimit => exact execHoldoverLimit_wf _ _ _ h e
  | timestampRead => exact execTimestampRead_wf _ _ _ _ h e
  | tsqClr => exact execTsqClr_wf _ _ _ _ h e
  | comparatorArm => exact execComparatorArm_wf _ _ _ _ _ h e
  | comparatorDisarm => exact execComparatorDisarm_wf _ _ _ _ _ h e
  | comparatorFire => exact execComparatorFire_wf _ _ _ h e
  | pulseEnd => exact execPulseEnd_wf _ _ _ _ h e
  | mirageSample => exact execMirageSample_wf _ _ _ _ _ h e
  | absRecord => exact execAbsRecord_wf _ _ _ _ h e
  | ringStage => exact execRingStage_wf _ _ _ _ _ _ h e
  | mirageArm => exact execMirageArm_wf _ _ _ _ _ h e
  | mirageDisarm => exact execMirageDisarm_wf _ _ _ _ _ h e
  | forceTrig => exact execForceTrig_wf _ _ _ _ _ h e
  | rearmHoldEnd => exact execRearmHoldEnd_wf _ _ _ _ h e
  | preEntry => exact execPreEntry_wf _ _ _ _ h e
  | triggerAct => exact execTriggerAct_wf _ _ _ _ _ h e
  | postTimeout => exact execPostTimeout_wf _ _ _ _ h e
  | xtlRelease => exact execXtlRelease_wf _ _ _ _ h e
  | streamUpload => exact execStreamUpload_wf _ _ _ _ h e
  | uploadComplete => exact execUploadComplete_wf _ _ _ _ h e
  | mirageCntClr => exact execMirageCntClr_wf _ _ _ _ _ h e
  | maskCfgWrite => exact execMaskCfgWrite_wf _ _ _ _ _ _ h e
  | spoutPost => exact execSpoutPost_wf _ _ _ _ h e
  | spoutJobStart => exact execSpoutJobStart_wf _ _ _ h e
  | spoutPreemption => exact execSpoutPreemption_wf _ _ _ h e
  | spoutJobTimeout => exact execSpoutJobTimeout_wf _ _ _ h e
  | extResponse => exact execExtResponse_wf _ _ _ _ _ h e
  | spoutCntClr => exact execSpoutCntClr_wf _ _ _ _ h e
  | programWordWrite => exact execProgramWordWrite_wf _ _ _ _ _ _ h e
  | nop => exact execNop_wf _ _ _ _ h e
  | ld => exact execLd_wf _ _ _ _ h e
  | st => exact execSt_wf _ _ _ _ h e
  | ldi => exact execLdi_wf _ _ _ _ h e
  | lpi => exact execLpi_wf _ _ _ _ h e
  | ldc => exact execLdc_wf _ _ _ _ h e
  | addp => exact execAddp_wf _ _ _ _ h e
  | mpy => exact execMpy_wf _ _ _ _ h e
  | mac => exact execMac_wf _ _ _ _ h e
  | msu => exact execMsu_wf _ _ _ _ h e
  | mxy => exact execMxy_wf _ _ _ _ h e
  | mxp => exact execMxp_wf _ _ _ _ h e
  | clr => exact execClr_wf _ _ _ _ h e
  | seta => exact execSeta_wf _ _ _ _ h e
  | adda => exact execAdda_wf _ _ _ _ h e
  | suba => exact execSuba_wf _ _ _ _ h e
  | ash => exact execAsh_wf _ _ _ _ h e
  | absa => exact execAbsa_wf _ _ _ _ h e
  | rnd => exact execRnd_wf _ _ _ _ h e
  | rnds => exact execRnds_wf _ _ _ _ h e
  | pkd => exact execPkd_wf _ _ _ _ h e
  | bfly => exact execBfly_wf _ _ _ _ h e
  | bscl => exact execBscl_wf _ _ _ _ h e
  | bclr => exact execBclr_wf _ _ _ _ h e
  | repeatNext => exact execRepeatNext_wf _ _ _ _ h e
  | doLoop => exact execDoLoop_wf _ _ _ _ h e
  | branch => exact execBranch_wf _ _ _ _ h e
  | halt => exact execHalt_wf _ _ _ _ h e
  | lde => exact execLde_wf _ _ _ _ h e
  | ste => exact execSte_wf _ _ _ _ h e
  | illegal => exact execIllegal_wf _ _ _ _ h e
  | dispatchRead => exact execDispatchRead_wf _ _ _ _ _ h e
  | dispatchGrant => exact execDispatchGrant_wf _ _ _ _ h e
  | dispatchDeadline => exact execDispatchDeadline_wf _ _ _ _ h e
  | complete => exact execComplete_wf _ _ _ _ _ h e
  | block => exact execBlock_wf _ _ _ _ _ _ _ h e
  | yield => exact execYield_wf _ _ _ _ _ h e
  | waitTimeout => exact execWaitTimeout_wf _ _ _ _ h e
  | flagSet => exact execFlagSet_wf _ _ _ _ _ _ h e
  | flagClr => exact execFlagClr_wf _ _ _ _ _ _ h e
  | workPost => exact execWorkPost_wf _ _ _ _ _ h e
  | caravanStage => exact execCaravanStage_wf _ _ _ _ _ h e
  | machineTimerInterrupt => exact execMachineTimerInterrupt_wf _ _ _ _ h e
  | watchdogExpiry => exact execWatchdogExpiry_wf _ _ _ _ h e
  | watchdogKick => exact execWatchdogKick_wf _ _ _ _ _ _ h e
  | mailboxWrite => exact execMailboxWrite_wf _ _ _ _ _ _ h e
  | sharedMailboxWrite => exact execSharedMailboxWrite_wf _ _ _ _ _ _ h e
  | mailboxRead => exact execMailboxRead_wf _ _ _ _ _ h e
  | mailboxTimeout => exact execMailboxTimeout_wf _ _ _ _ h e
  | mailboxWait => exact execMailboxWait_wf _ _ _ _ _ _ h e
  | crosswaitDetection => exact execCrosswaitDetection_wf _ _ _ h e
  | lockRead => exact execLockRead_wf _ _ _ _ _ h e
  | lockWrite => exact execLockWrite_wf _ _ _ _ _ _ h e
  | lockForce => exact execLockForce_wf _ _ _ _ _ _ h e
  | doorbellSet => exact execDoorbellSet_wf _ _ _ _ _ _ h e
  | doorbellClear => exact execDoorbellClear_wf _ _ _ _ _ _ h e
  | safetyTick => exact execSafetyTick_wf _ _ _ _ _ _ _ _ h e
  | discrepancyFault => exact execDiscrepancyFault_wf _ _ _ _ h e
  | ss1Timeout => exact execSs1Timeout_wf _ _ _ _ h e
  | testPulse => exact execTestPulse_wf _ _ _ _ _ _ h e
  | edmTimeout => exact execEdmTimeout_wf _ _ _ _ h e
  | slsDelayEnd => exact execSlsDelayEnd_wf _ _ _ _ h e
  | slsWindowEnd => exact execSlsWindowEnd_wf _ _ _ _ h e
  | srstEdge => exact execSrstEdge_wf _ _ _ h e
  | srstStuck => exact execSrstStuck_wf _ _ _ h e
  | oasisRailFault => exact execOasisRailFault_wf _ _ _ _ h e
  | containerReceived => exact execContainerReceived_wf _ _ _ h e
  | connectionWatchdog => exact execConnectionWatchdog_wf _ _ _ _ h e
  | zoneRequest => exact execZoneRequest_wf _ _ _ _ _ _ h e
  | passwordPresent => exact execPasswordPresent_wf _ _ _ _ _ h e
  | passwordClear => exact execPasswordClear_wf _ _ _ _ h e
  | passwordExpiry => exact execPasswordExpiry_wf _ _ _ h e
  | presentLockEnd => exact execPresentLockEnd_wf _ _ _ h e
  | slsPeakClr => exact execSlsPeakClr_wf _ _ _ _ _ h e
  | pcieRequest => exact execPcieRequest_wf _ _ _ _ _ _ _ h e
  | pcieLinkReset => exact execPcieLinkReset_wf _ _ _ _ h e
  | perst => exact execPerst_wf _ _ _ _ h e
  | dmaPost => exact execDmaPost_wf _ _ _ _ _ _ h e
  | dmaEnable => exact execDmaEnable_wf _ _ _ _ _ _ h e
  | dmaTransferStart => exact execDmaTransferStart_wf _ _ _ _ _ h e
  | dmaBufferReturn => exact execDmaBufferReturn_wf _ _ _ _ _ _ _ _ h e
  | spiRead => exact execSpiRead_wf _ _ _ _ _ h e
  | spiQread => exact execSpiQread_wf _ _ _ _ _ h e
  | spiWrite => exact execSpiWrite_wf _ _ _ _ _ h e
  | spiQwrite => exact execSpiQwrite_wf _ _ _ _ _ h e
  | spiUnknownCommand => exact execSpiUnknownCommand_wf _ _ _ h e
  | spiCsAbort => exact execSpiCsAbort_wf _ _ _ _ _ _ _ h e
  | spiVlogClr => exact execSpiVlogClr_wf _ _ _ _ h e
  | ethFrameReceived => exact execEthFrameReceived_wf _ _ _ _ _ _ h e
  | ethTxPost => exact execEthTxPost_wf _ _ _ _ _ _ h e
  | ethFrameSent => exact execEthFrameSent_wf _ _ _ _ _ h e
  | ethLinkChange => exact execEthLinkChange_wf _ _ _ _ _ h e
  | ethCntClr => exact execEthCntClr_wf _ _ _ _ _ h e
  | idcode => exact execIdcode_wf _ _ _ h e
  | samplePreload => exact execSamplePreload_wf _ _ _ _ h e
  | extest => exact execExtest_wf _ _ _ h e
  | extestPulse => exact execExtestPulse_wf _ _ _ h e
  | extestTrain => exact execExtestTrain_wf _ _ _ h e
  | clamp => exact execClamp_wf _ _ _ h e
  | highz => exact execHighz_wf _ _ _ h e
  | dbgAccess => exact execDbgAccess_wf _ _ _ h e
  | debugSlotAccess => exact execDebugSlotAccess_wf _ _ _ _ _ _ h e
  | fuseProg => exact execFuseProg_wf _ _ _ _ _ h e
  | bypass => exact execBypass_wf _ _ _ h e
  | tapReset => exact execTapReset_wf _ _ _ h e
  | temperatureReading => exact execTemperatureReading_wf _ _ _ _ h e
  | tjMaxClr => exact execTjMaxClr_wf _ _ _ _ h e
  | stagedBankWrite => exact execStagedBankWrite_wf _ _ _ _ _ _ h e
  | lineTimeLocked => exact execLineTimeLocked_wf _ _ _ h e
  | idleReceived => exact execIdleReceived_wf _ _ _ _ h e
  | guardianWindowOpen => exact execGuardianWindowOpen_wf _ _ _ _ h e
  | headBlocked => exact execHeadBlocked_wf _ _ _ h e
  | perstRelease => exact execPerstRelease_wf _ _ _ h e
  | pcieLinkUp => exact execPcieLinkUp_wf _ _ _ _ _ h e
  | bufferLent => exact execBufferLent_wf _ _ _ _ h e

/-- Settles O5: an idle tick touches no memory, and every command keeps the canonical form. -/
theorem memoryStaysCanonical : Obligations.MemoryStaysCanonical := by
  unfold Obligations.MemoryStaysCanonical
  intro s t h e
  cases hs : s.pending with
  | nil =>
    rw [step_nil hs] at e
    cases e
    exact h
  | cons c l =>
    rw [step_cons hs] at e
    exact exec_wf e h

/-! ### Commands that store nothing -/

/-- The 159 commands that store nothing leave the memories as they were: the table of them. -/
theorem exec_same {c : Instr} {s t : State} (hq : c.storesNothing = true) (e : exec c s = .next t) : t.mem = s.mem := by
  cases c with
  | syncOutPulseEnd => exact execSyncOutPulseEnd_same _ _ _ e
  | jetGrant => exact execJetGrant_same _ _ _ e
  | jetTimeRefusal => exact execJetTimeRefusal_same _ _ _ _ e
  | commandFrameLaunch => exact execCommandFrameLaunch_same _ _ _ _ e
  | delayedCommandLaunch => exact execDelayedCommandLaunch_same _ _ _ _ e
  | jetCheckFailure => exact execJetCheckFailure_same _ _ _ _ _ e
  | jetSelfTestEnd => exact execJetSelfTestEnd_same _ _ _ _ _ e
  | jetRotation => exact execJetRotation_same _ _ _ e
  | frameStart => exact execFrameStart_same _ _ _ _ e
  | frameHeader => exact execFrameHeader_same _ _ _ _ _ _ e
  | forwardCopyStart => exact execForwardCopyStart_same _ _ _ _ e
  | cascadePassEnd => exact execCascadePassEnd_same _ _ _ e
  | pllLock => exact execPllLock_same _ _ _ e
  | sequencerStart => exact execSequencerStart_same _ _ _ _ e
  | sequencerStep => exact execSequencerStep_same _ _ _ _ e
  | powerDownStep => exact execPowerDownStep_same _ _ _ e
  | railMeasurement => exact execRailMeasurement_same _ _ _ _ _ _ e
  | faultWaitEnd => exact execFaultWaitEnd_same _ _ _ e
  | pmbusPoll => exact execPmbusPoll_same _ _ _ e
  | pmbusReply => exact execPmbusReply_same _ _ _ _ _ _ _ _ e
  | pmbAlert => exact execPmbAlert_same _ _ _ e
  | resetRelease => exact execResetRelease_same _ _ _ e
  | lateReplyDiscard => exact execLateReplyDiscard_same _ _ _ _ _ e
  | bootHeaders => exact execBootHeaders_same _ _ _ e
  | imageReadComplete => exact execImageReadComplete_same _ _ _ _ e
  | selfTestsComplete => exact execSelfTestsComplete_same _ _ _ _ _ _ _ e
  | partnerArmed => exact execPartnerArmed_same _ _ _ _ _ e
  | flashOpComplete => exact execFlashOpComplete_same _ _ _ _ e
  | ageLimitRefusal => exact execAgeLimitRefusal_same _ _ _ _ e
  | camCheckComplete => exact execCamCheckComplete_same _ _ _ _ e
  | predictionDone => exact execPredictionDone_same _ _ _ _ e
  | stopTimeout => exact execStopTimeout_same _ _ _ _ e
  | atRestSet => exact execAtRestSet_same _ _ _ _ e
  | currentReduction => exact execCurrentReduction_same _ _ _ _ e
  | debounceChange => exact execDebounceChange_same _ _ _ _ _ e
  | limitBlockRelease => exact execLimitBlockRelease_same _ _ _ _ _ e
  | referenceEdge => exact execReferenceEdge_same _ _ _ _ _ _ e
  | captureWindowEnd => exact execCaptureWindowEnd_same _ _ _ _ e
  | hardStopDwellEnd => exact execHardStopDwellEnd_same _ _ _ _ e
  | encoderEdge => exact execEncoderEdge_same _ _ _ _ _ _ e
  | hallCodeChange => exact execHallCodeChange_same _ _ _ _ _ e
  | indexEvent => exact execIndexEvent_same _ _ _ _ e
  | serialFrameStart => exact execSerialFrameStart_same _ _ _ _ _ e
  | serialFrameComplete => exact execSerialFrameComplete_same _ _ _ _ _ e
  | serialTimeout => exact execSerialTimeout_same _ _ _ _ e
  | standstillTimeout => exact execStandstillTimeout_same _ _ _ _ e
  | latchCapture => exact execLatchCapture_same _ _ _ _ _ _ _ e
  | pwmPeriodBoundary => exact execPwmPeriodBoundary_same _ _ _ _ e
  | compareEdge => exact execCompareEdge_same _ _ _ _ e
  | shootThroughTrip => exact execShootThroughTrip_same _ _ _ _ e
  | shutdownEnd => exact execShutdownEnd_same _ _ _ _ e
  | prechargeOnEnd => exact execPrechargeOnEnd_same _ _ _ _ e
  | prechargeComplete => exact execPrechargeComplete_same _ _ _ _ e
  | prechargeExpiry => exact execPrechargeExpiry_same _ _ _ _ e
  | hardTrip => exact execHardTrip_same _ _ _ _ _ e
  | fastQualified => exact execFastQualified_same _ _ _ _ _ e
  | fastTrip => exact execFastTrip_same _ _ _ _ e
  | tripSnapshotClose => exact execTripSnapshotClose_same _ _ _ _ e
  | sinc3Result => exact execSinc3Result_same _ _ _ _ _ e
  | sinc2Result => exact execSinc2Result_same _ _ _ _ _ e
  | sdStuck => exact execSdStuck_same _ _ _ _ e
  | comparatorSelfTestEnd => exact execComparatorSelfTestEnd_same _ _ _ _ _ e
  | signalDetected => exact execSignalDetected_same _ _ _ _ e
  | linkAcquired => exact execLinkAcquired_same _ _ _ _ _ e
  | acquireTimeout => exact execAcquireTimeout_same _ _ _ _ e
  | linkUp => exact execLinkUp_same _ _ _ _ _ e
  | adaptTimeout => exact execAdaptTimeout_same _ _ _ _ e
  | signalLost => exact execSignalLost_same _ _ _ _ e
  | codeErrorLimit => exact execCodeErrorLimit_same _ _ _ _ e
  | invalidCodeGroup => exact execInvalidCodeGroup_same _ _ _ _ _ e
  | syncReceived => exact execSyncReceived_same _ _ _ _ _ _ _ e
  | syncMissing => exact execSyncMissing_same _ _ _ _ e
  | repeatStart => exact execRepeatStart_same _ _ _ _ _ _ _ _ e
  | repeatCut => exact execRepeatCut_same _ _ _ _ e
  | feedbackFrameSend => exact execFeedbackFrameSend_same _ _ _ e
  | ownFrameEnd => exact execOwnFrameEnd_same _ _ _ _ e
  | rangeRequestSend => exact execRangeRequestSend_same _ _ _ _ e
  | rangeRequestAdmit => exact execRangeRequestAdmit_same _ _ _ _ e
  | rangeResponseSend => exact execRangeResponseSend_same _ _ _ _ e
  | rangeResponseReceived => exact execRangeResponseReceived_same _ _ _ _ e
  | rangingTimeout => exact execRangingTimeout_same _ _ _ _ e
  | commandLoss => exact execCommandLoss_same _ _ _ e
  | dynamicFrameSend => exact execDynamicFrameSend_same _ _ _ _ e
  | uplinkFrameSend => exact execUplinkFrameSend_same _ _ _ e
  | serviceRequest => exact execServiceRequest_same _ _ _ e
  | listenEnd => exact execListenEnd_same _ _ _ e
  | coldStartComplete => exact execColdStartComplete_same _ _ _ e
  | collision => exact execCollision_same _ _ _ _ e
  | backoffEnd => exact execBackoffEnd_same _ _ _ e
  | coldStartEcho => exact execColdStartEcho_same _ _ _ e
  | coldStartBlock => exact execColdStartBlock_same _ _ _ _ e
  | foreignHead => exact execForeignHead_same _ _ _ _ e
  | statusSend => exact execStatusSend_same _ _ _ e
  | statusReceived => exact execStatusReceived_same _ _ _ e
  | digestSend => exact execDigestSend_same _ _ _ e
  | digestReceived => exact execDigestReceived_same _ _ _ e
  | digestMiss => exact execDigestMiss_same _ _ _ e
  | standbyEntry => exact execStandbyEntry_same _ _ _ e
  | copySend => exact execCopySend_same _ _ _ e
  | mirrorRetransmit => exact execMirrorRetransmit_same _ _ _ e
  | abdication => exact execAbdication_same _ _ _ _ e
  | deafnessEvaluation => exact execDeafnessEvaluation_same _ _ _ e
  | pullSend => exact execPullSend_same _ _ _ _ e
  | domainTimeout => exact execDomainTimeout_same _ _ _ _ e
  | domainRevert => exact execDomainRevert_same _ _ _ e
  | holdoverLimit => exact execHoldoverLimit_same _ _ _ e
  | pulseEnd => exact execPulseEnd_same _ _ _ _ e
  | absRecord => exact execAbsRecord_same _ _ _ _ e
  | rearmHoldEnd => exact execRearmHoldEnd_same _ _ _ _ e
  | xtlRelease => exact execXtlRelease_same _ _ _ _ e
  | uploadComplete => exact execUploadComplete_same _ _ _ _ e
  | spoutJobStart => exact execSpoutJobStart_same _ _ _ e
  | spoutPreemption => exact execSpoutPreemption_same _ _ _ e
  | spoutJobTimeout => exact execSpoutJobTimeout_same _ _ _ e
  | dispatchDeadline => exact execDispatchDeadline_same _ _ _ _ e
  | waitTimeout => exact execWaitTimeout_same _ _ _ _ e
  | machineTimerInterrupt => exact execMachineTimerInterrupt_same _ _ _ _ e
  | mailboxTimeout => exact execMailboxTimeout_same _ _ _ _ e
  | crosswaitDetection => exact execCrosswaitDetection_same _ _ _ e
  | safetyTick => exact execSafetyTick_same _ _ _ _ _ _ _ _ e
  | discrepancyFault => exact execDiscrepancyFault_same _ _ _ _ e
  | ss1Timeout => exact execSs1Timeout_same _ _ _ _ e
  | testPulse => exact execTestPulse_same _ _ _ _ _ _ e
  | edmTimeout => exact execEdmTimeout_same _ _ _ _ e
  | slsDelayEnd => exact execSlsDelayEnd_same _ _ _ _ e
  | slsWindowEnd => exact execSlsWindowEnd_same _ _ _ _ e
  | srstEdge => exact execSrstEdge_same _ _ _ e
  | srstStuck => exact execSrstStuck_same _ _ _ e
  | oasisRailFault => exact execOasisRailFault_same _ _ _ _ e
  | containerReceived => exact execContainerReceived_same _ _ _ e
  | connectionWatchdog => exact execConnectionWatchdog_same _ _ _ _ e
  | passwordExpiry => exact execPasswordExpiry_same _ _ _ e
  | presentLockEnd => exact execPresentLockEnd_same _ _ _ e
  | pcieLinkReset => exact execPcieLinkReset_same _ _ _ _ e
  | perst => exact execPerst_same _ _ _ _ e
  | dmaTransferStart => exact execDmaTransferStart_same _ _ _ _ _ e
  | dmaBufferReturn => exact execDmaBufferReturn_same _ _ _ _ _ _ _ _ e
  | spiUnknownCommand => exact execSpiUnknownCommand_same _ _ _ e
  | ethFrameSent => exact execEthFrameSent_same _ _ _ _ _ e
  | ethLinkChange => exact execEthLinkChange_same _ _ _ _ _ e
  | idcode => exact execIdcode_same _ _ _ e
  | samplePreload => exact execSamplePreload_same _ _ _ _ e
  | extest => exact execExtest_same _ _ _ e
  | extestPulse => exact execExtestPulse_same _ _ _ e
  | extestTrain => exact execExtestTrain_same _ _ _ e
  | clamp => exact execClamp_same _ _ _ e
  | highz => exact execHighz_same _ _ _ e
  | dbgAccess => exact execDbgAccess_same _ _ _ e
  | fuseProg => exact execFuseProg_same _ _ _ _ _ e
  | bypass => exact execBypass_same _ _ _ e
  | tapReset => exact execTapReset_same _ _ _ e
  | temperatureReading => exact execTemperatureReading_same _ _ _ _ e
  | lineTimeLocked => exact execLineTimeLocked_same _ _ _ e
  | idleReceived => exact execIdleReceived_same _ _ _ _ e
  | guardianWindowOpen => exact execGuardianWindowOpen_same _ _ _ _ e
  | headBlocked => exact execHeadBlocked_same _ _ _ e
  | perstRelease => exact execPerstRelease_same _ _ _ e
  | pcieLinkUp => exact execPcieLinkUp_same _ _ _ _ _ e
  | bufferLent => exact execBufferLent_same _ _ _ _ e
  | _ => cases hq

/-- Settles O10: a memory that stays reads the same at every byte. -/
theorem eventsStoreNothing : Obligations.EventsStoreNothing := by
  unfold Obligations.EventsStoreNothing
  exact fun c s t hq e => sameMemory_of_mem (exec_same hq e)

/-- Settles O9: a command that writes a register is one access of its slot, and such an access stores nothing but through the
four registers named. -/
theorem registerWritesStoreNothing : Obligations.RegisterWritesStoreNothing := by
  unfold Obligations.RegisterWritesStoreNothing
  intro c s t ag r v hw hm hdone hweir hmv himg e
  obtain ⟨owed, he⟩ := exec_writes c s ag r v hw
  rw [he] at e
  cases e
  exact sameMemory_of_mem (slot_mem _ ag r v owed hm hdone hweir hmv himg)

end Sys2Proof.Machine
end

section
/-! PROOFS. What a write leaves of each field of a register (R8, R702). -/
namespace Sys2Proof.Machine

/-! ### One field -/

/-- What a field holds after a write of n to it, by its access code, where it held cur (R8). -/
def Acc.after (a : Acc) (cur n : Nat) : Nat :=
  match a with
  | .rw | .rwl => n
  | .w1c => cur - Nat.land cur n
  | .w1s => Nat.lor cur n
  | .ro | .wo | .rc => cur

/-- The effect of a write of v on one field of the word a register holds. -/
def writeField (v x : Word48) (f : FieldRow) : Word48 :=
  match f.acc with
  | .rw | .rwl => wordPut x f.fld (wordFld v f.fld)
  | .w1c => wordPut x f.fld (wordFld x f.fld - Nat.land (wordFld x f.fld) (wordFld v f.fld))
  | .w1s => wordPut x f.fld (Nat.lor (wordFld x f.fld) (wordFld v f.fld))
  | .ro | .wo | .rc => x

/-- A write takes its effect field by field. -/
theorem plainWrite_eq (r : Reg) (cur v : Word48) : plainWrite r cur v = r.fields.foldl (writeField v) cur := rfl

/-- The effect on a field leaves those that share no bit with it. -/
theorem wordFld_writeField_apart (v x : Word48) {f : FieldRow} {g : Fld} (h : f.fld.apart g = true) :
    wordFld (writeField v x f) g = wordFld x g := by
  unfold writeField
  cases f.acc <;> simp only [wordFld_wordPut_apart _ _ _ _ h]

/-- The effect on a field, by its access code. -/
theorem wordFld_writeField_self (v x : Word48) {f : FieldRow} (h : f.fld.lo + f.fld.w ≤ 48) :
    wordFld (writeField v x f) f.fld = f.acc.after (wordFld x f.fld) (wordFld v f.fld) := by
  have hx := wordFld_lt x f.fld
  have hv := wordFld_lt v f.fld
  have hor : Nat.lor (wordFld x f.fld) (wordFld v f.fld) < 2 ^ f.fld.w := Nat.or_lt_two_pow hx hv
  have hsub : wordFld x f.fld - Nat.land (wordFld x f.fld) (wordFld v f.fld) < 2 ^ f.fld.w := by omega
  unfold writeField Acc.after
  cases f.acc <;> simp only [wordFld_wordPut_self _ _ _ h, Nat.mod_eq_of_lt, hv, hor, hsub]

/-! ### A list of fields -/

/-- Fields within 48 bits no two of which share a bit. -/
def fieldsApart (l : List FieldRow) : Bool :=
  match l with
  | [] => true
  | f :: t => decide (f.fld.lo + f.fld.w ≤ 48) && t.all (fun g => f.fld.apart g.fld && g.fld.apart f.fld) && fieldsApart t

/-- The effect on fields apart from one leaves that one. -/
theorem wordFld_foldl_apart (v : Word48) (g : Fld) (l : List FieldRow) (x : Word48) (h : ∀ f ∈ l, f.fld.apart g = true) :
    wordFld (l.foldl (writeField v) x) g = wordFld x g := by
  induction l generalizing x with
  | nil => rfl
  | cons f t ih =>
    obtain ⟨hf, ht⟩ := List.forall_mem_cons.1 h
    exact (ih _ ht).trans (wordFld_writeField_apart v x hf)

/-- Each of a list of fields that share no bit takes its own effect. -/
theorem wordFld_foldl_mem (v : Word48) (l : List FieldRow) (x : Word48) (h : fieldsApart l = true) {f : FieldRow} (hf : f ∈ l) :
    wordFld (l.foldl (writeField v) x) f.fld = f.acc.after (wordFld x f.fld) (wordFld v f.fld) := by
  induction l generalizing x with
  | nil => cases hf
  | cons g t ih =>
    simp only [fieldsApart, Bool.and_eq_true, decide_eq_true_eq, List.all_eq_true] at h
    obtain ⟨⟨hg, hgt⟩, ht⟩ := h
    rcases List.mem_cons.1 hf with rfl | hf
    · exact (wordFld_foldl_apart v f.fld t _ fun e he => (hgt e he).2).trans (wordFld_writeField_self v x hg)
    · exact (ih _ ht hf).trans (by rw [wordFld_writeField_apart v x (hgt f hf).1])

/-! ### The registers of the map -/

/-- No two fields of a register share a bit, in any register of the map. -/
theorem fields_apart (r : Reg) : fieldsApart r.fields = true := by
  obtain ⟨n, i, j⟩ := r
  cases n <;> rfl

/-- What a write leaves of each field of a register. -/
theorem wordFld_plainWrite (r : Reg) (cur v : Word48) {f : FieldRow} (hf : f ∈ r.fields) :
    wordFld (plainWrite r cur v) f.fld = f.acc.after (wordFld cur f.fld) (wordFld v f.fld) := by
  rw [plainWrite_eq]
  exact wordFld_foldl_mem v r.fields cur (fields_apart r) hf

/-- Settles O13: each field takes the effect of its access code, and bits outside every field are apart from all of them. That
WO fields keep what they held is the model's reading (log entry 83). -/
theorem writeLeavesReadOnlyFields : Obligations.WriteLeavesReadOnlyFields := by
  unfold Obligations.WriteLeavesReadOnlyFields
  refine ⟨?kept, ?reserved, ?written, ?cleared⟩
  case kept =>
    intro r cur v f hf ha
    rw [wordFld_plainWrite r cur v hf]
    rcases ha with ha | ha <;> rw [ha, Acc.after]
  case reserved =>
    intro r cur v g h
    exact wordFld_foldl_apart v g r.fields cur h
  case written =>
    intro r cur v f hf ha
    rw [wordFld_plainWrite r cur v hf]
    rcases ha with ha | ha <;> rw [ha, Acc.after]
  case cleared =>
    intro r cur v f hf ha
    rw [wordFld_plainWrite r cur v hf, ha, Acc.after]

end Sys2Proof.Machine
end

section
/-! PROOFS. The register map (R25, R26): every row of the decoding table places its registers at the addresses that their own
tables give. -/
namespace Sys2Proof.Machine

/-! ### One row -/

/-- What makes a row of the decoding table consistent: its registers stand, by their own tables, where the row places them, at
multiples of 8, all within the register space. -/
def RegRow.consistent (t : RegRow) : Prop :=
  (∀ i j, i < t.n1 → j < t.n2 → (t.make i j).addr = t.base + i * t.s1 + j * t.s2) ∧
  (8 ∣ t.base ∧ 8 ∣ t.s1 ∧ 8 ∣ t.s2) ∧ t.base + (t.n1 - 1) * t.s1 + (t.n2 - 1) * t.s2 < 0x1000000

/-- The register a row gives for an address is one of its registers, at the place of its indices. -/
theorem RegRow.at_some {t : RegRow} {a : Nat} {r : Reg} (h : t.at a = some r) :
    ∃ i j, i < t.n1 ∧ j < t.n2 ∧ r = t.make i j ∧ a = t.base + i * t.s1 + j * t.s2 := by
  unfold RegRow.at at h
  split at h
  · cases h
  · dsimp only at h
    split at h
    · rename_i hb hc
      obtain ⟨hi, hd, hj⟩ := hc
      cases h
      refine ⟨_, _, hi, hj, rfl, ?_⟩
      have h1 := Nat.div_add_mod' (a - t.base) t.s1
      have h2 := Nat.div_mul_cancel (Nat.dvd_of_mod_eq_zero hd)
      omega
    · cases h

/-- A consistent row gives for an address the register that stands there. -/
theorem RegRow.consistent.at_addr {t : RegRow} (ht : t.consistent) {a : Nat} {r : Reg} (h : t.at a = some r) :
    r.addr = a ∧ a % 8 = 0 ∧ a < 0x1000000 := by
  obtain ⟨haddr, ⟨hb, h1, h2⟩, hend⟩ := ht
  obtain ⟨i, j, hi, hj, rfl, rfl⟩ := RegRow.at_some h
  refine ⟨haddr i j hi hj, ?_, ?_⟩
  · exact Nat.mod_eq_zero_of_dvd
      (Nat.dvd_add (Nat.dvd_add hb (Nat.dvd_mul_left_of_dvd h1 i)) (Nat.dvd_mul_left_of_dvd h2 j))
  · have hi' : i * t.s1 ≤ (t.n1 - 1) * t.s1 := Nat.mul_le_mul_right _ (by omega)
    have hj' : j * t.s2 ≤ (t.n2 - 1) * t.s2 := Nat.mul_le_mul_right _ (by omega)
    omega

/-! ### The rows of each block -/

/-- A consistent row before consistent rows. -/
theorem consistent_cons {t : RegRow} {l : List RegRow} (hl : ∀ x ∈ l, x.consistent)
    (ha : ∀ i j, i < t.n1 → j < t.n2 → (t.make i j).addr = t.base + i * t.s1 + j * t.s2)
    (hd : 8 ∣ t.base ∧ 8 ∣ t.s1 ∧ 8 ∣ t.s2) (he : t.base + (t.n1 - 1) * t.s1 + (t.n2 - 1) * t.s2 < 0x1000000) :
    ∀ x ∈ t :: l, x.consistent :=
  List.forall_mem_cons.2 ⟨⟨ha, hd, he⟩, hl⟩

theorem rowsSys_consistent : ∀ t ∈ rowsSys, t.consistent := by
  unfold rowsSys
  repeat' refine consistent_cons ?_ (fun i j hi hj => ?_) (by decide) (by decide)
  · nofun
  all_goals simp only [Reg.addr] at * <;> omega

theorem rowsShr_consistent : ∀ t ∈ rowsShr, t.consistent := by
  unfold rowsShr
  repeat' refine consistent_cons ?_ (fun i j hi hj => ?_) (by decide) (by decide)
  · nofun
  all_goals simp only [Reg.addr] at * <;> omega

theorem rowsNet_consistent : ∀ t ∈ rowsNet, t.consistent := by
  unfold rowsNet
  repeat' refine consistent_cons ?_ (fun i j hi hj => ?_) (by decide) (by decide)
  · nofun
  all_goals simp only [Reg.addr] at * <;> omega

theorem rowsTwn_consistent : ∀ t ∈ rowsTwn, t.consistent := by
  unfold rowsTwn
  repeat' refine consistent_cons ?_ (fun i j hi hj => ?_) (by decide) (by decide)
  · nofun
  all_goals simp only [Reg.addr] at * <;> omega

theorem rowsTim_consistent : ∀ t ∈ rowsTim, t.consistent := by
  unfold rowsTim
  repeat' refine consistent_cons ?_ (fun i j hi hj => ?_) (by decide) (by decide)
  · nofun
  all_goals simp only [Reg.addr] at * <;> omega

theorem rowsJet_consistent : ∀ t ∈ rowsJet, t.consistent := by
  unfold rowsJet
  repeat' refine consistent_cons ?_ (fun i j hi hj => ?_) (by decide) (by decide)
  · nofun
  all_goals simp only [Reg.addr] at * <;> omega

theorem rowsAxs_consistent : ∀ t ∈ rowsAxs, t.consistent := by
  unfold rowsAxs
  repeat' refine consistent_cons ?_ (fun i j hi hj => ?_) (by decide) (by decide)
  · nofun
  all_goals simp only [Reg.addr] at * <;> omega

theorem rowsCas_consistent : ∀ t ∈ rowsCas, t.consistent := by
  unfold rowsCas
  repeat' refine consistent_cons ?_ (fun i j hi hj => ?_) (by decide) (by decide)
  · nofun
  all_goals simp only [Reg.addr] at * <;> omega

theorem rowsFbk_consistent : ∀ t ∈ rowsFbk, t.consistent := by
  unfold rowsFbk
  repeat' refine consistent_cons ?_ (fun i j hi hj => ?_) (by decide) (by decide)
  · nofun
  all_goals simp only [Reg.addr] at * <;> omega

theorem rowsPwm_consistent : ∀ t ∈ rowsPwm, t.consistent := by
  unfold rowsPwm
  repeat' refine consistent_cons ?_ (fun i j hi hj => ?_) (by decide) (by decide)
  · nofun
  all_goals simp only [Reg.addr] at * <;> omega

theorem rowsMir_consistent : ∀ t ∈ rowsMir, t.consistent := by
  unfold rowsMir
  repeat' refine consistent_cons ?_ (fun i j hi hj => ?_) (by decide) (by decide)
  · nofun
  all_goals simp only [Reg.addr] at * <;> omega

theorem rowsSpt_consistent : ∀ t ∈ rowsSpt, t.consistent := by
  unfold rowsSpt
  repeat' refine consistent_cons ?_ (fun i j hi hj => ?_) (by decide) (by decide)
  · nofun
  all_goals simp only [Reg.addr] at * <;> omega

theorem rowsSlu_consistent : ∀ t ∈ rowsSlu, t.consistent := by
  unfold rowsSlu
  repeat' refine consistent_cons ?_ (fun i j hi hj => ?_) (by decide) (by decide)
  · nofun
  all_goals simp only [Reg.addr] at * <;> omega

theorem rowsMbx_consistent : ∀ t ∈ rowsMbx, t.consistent := by
  unfold rowsMbx
  repeat' refine consistent_cons ?_ (fun i j hi hj => ?_) (by decide) (by decide)
  · nofun
  all_goals simp only [Reg.addr] at * <;> omega

theorem rowsOas_consistent : ∀ t ∈ rowsOas, t.consistent := by
  unfold rowsOas
  repeat' refine consistent_cons ?_ (fun i j hi hj => ?_) (by decide) (by decide)
  · nofun
  all_goals simp only [Reg.addr] at * <;> omega

theorem rowsHst_consistent : ∀ t ∈ rowsHst, t.consistent := by
  unfold rowsHst
  repeat' refine consistent_cons ?_ (fun i j hi hj => ?_) (by decide) (by decide)
  · nofun
  all_goals simp only [Reg.addr] at * <;> omega

/-! ### The whole table -/

/-- What holds of the rows of both sides holds of the rows a bound on the address chooses. -/
theorem forall_mem_ite {α : Type} {p : α → Prop} {l m : List α} {c : Prop} [Decidable c] (hl : ∀ t ∈ l, p t) (hm : ∀ t ∈ m, p t) :
    ∀ t ∈ (if c then l else m), p t := by
  by_cases h : c
  · rwa [if_pos h]
  · rwa [if_neg h]

/-- Every row of the decoding table is consistent. -/
theorem regRowsOf_consistent (a : Nat) : ∀ t ∈ regRowsOf a, t.consistent := by
  unfold regRowsOf
  exact forall_mem_ite rowsSys_consistent <| forall_mem_ite rowsShr_consistent <| forall_mem_ite rowsNet_consistent <|
    forall_mem_ite rowsTwn_consistent <| forall_mem_ite rowsTim_consistent <| forall_mem_ite rowsJet_consistent <|
    forall_mem_ite rowsAxs_consistent <| forall_mem_ite rowsCas_consistent <| forall_mem_ite rowsFbk_consistent <|
    forall_mem_ite rowsPwm_consistent <| forall_mem_ite rowsMir_consistent <| forall_mem_ite rowsSpt_consistent <|
    forall_mem_ite rowsSlu_consistent <| forall_mem_ite rowsMbx_consistent <| forall_mem_ite rowsOas_consistent <|
    forall_mem_ite rowsHst_consistent <| (fun _ h => nomatch h)

/-- Settles O14: the register of an address is found in a row, and every row is consistent. -/
theorem addressDecodesToItsRegister : Obligations.AddressDecodesToItsRegister := by
  unfold Obligations.AddressDecodesToItsRegister
  intro a r h
  obtain ⟨t, ht, hr⟩ := List.exists_of_findSome?_eq_some h
  exact (regRowsOf_consistent a t ht).at_addr hr

end Sys2Proof.Machine
end

section
/-! PROOFS. Writes of registers as one access (R12, R84, R702, R703): the code a write answers, and what it leaves when it is
refused, accepted, or made to a register that the role leaves out. -/
namespace Sys2Proof.Machine

/-! ### The access -/

section
variable (s : State) (ag : Nat) (r : Reg) (v : Word48) (owed : Nat)

/-- A write answers the lowest-numbered of the codes it meets, or OK (R12). -/
theorem regWrite_code : (s.regWrite ag r v owed).1 = lowestCode ((s.settleReg r).writeRefuse ag r v) := by
  unfold State.regWrite
  dsimp only
  by_cases hc : lowestCode ((s.settleReg r).writeRefuse ag r v) = cOK
  · rw [if_neg (fun hn => hn hc), hc]
    split <;> rfl
  · rw [if_pos hc]

/-- A write that meets a code leaves what its register counts of refusals, and nothing else (R703). -/
theorem regWrite_refused {code : Nat} (hc : code ≠ cOK) (h : lowestCode ((s.settleReg r).writeRefuse ag r v) = code) :
    s.regWrite ag r v owed = (code, (s.settleReg r).writeRefused ag r code) := by
  unfold State.regWrite
  simp [h, hc]

/-- A write of a register that the role leaves out, where no code applies, stores nothing. -/
theorem regWrite_absent (ha : (s.settleReg r).regAbsent r = true) (h : (s.settleReg r).writeRefuse ag r v = []) :
    s.regWrite ag r v owed = (cOK, s.settleReg r) := by
  unfold State.regWrite
  simp [ha, h, lowestCode]

/-- A write of a mapped register by an agent that issues accesses is the register's own write, with its answer. -/
theorem slot_write (hi : s.issues ag = true) (hm : r.mapped) :
    s.slot ag r.addr (some v.toNat) owed =
      (s.regWrite ag r v owed).2.answer ag r.addr (writeType ag) (s.regWrite ag r v owed).1 0 := by
  rw [slot_eq s ag r _ owed hi hm, access8_write s ag r v owed hm]
  simp

end

/-! ### What a refused write leaves (R703) -/

section
variable (s : State) (ag : Nat) (r : Reg) (code : Nat)

theorem writeRefused_of_ne (hp : r.name ≠ .sluPost) (hd : r.name ≠ .coreDone) : s.writeRefused ag r code = s := by
  unfold State.writeRefused
  split <;> first | contradiction | rfl

theorem writeRefused_coreDone (h : r.name = .coreDone) (hc : code ≠ cOFFLINE) : s.writeRefused ag r code = s := by
  unfold State.writeRefused
  simp [h, hc]

/-- A post that is refused moves no register but SLU.STAT (R587). -/
theorem writeRefused_sluPost (h : r.name = .sluPost) : sameRegsBut [.sluStat] s (s.writeRefused ag r code) := by
  intro q hq
  have hne : q.addr ≠ Reg.sluStat.addr := hq _ (List.mem_singleton_self _)
  simp only [State.writeRefused, h]
  split
  · exact reg_setFld_ne s .sluStat q fSluStat_BUSY_CNT _ hne
  · rfl

end

/-! ### Registers that the role leaves out (log entry 83) -/

theorem writeRefuse_absent {s : State} {r : Reg} (ag : Nat) (v : Word48) (h : s.regAbsent r = true) :
    s.writeRefuse ag r v = roRefuse r := if_pos h

theorem roRefuse_nil {r : Reg} (h : ∃ f ∈ r.fields, f.acc ≠ .ro) : roRefuse r = [] :=
  refuseIf_false cACCESS (by simpa using h)

theorem roRefuse_all {r : Reg} (h : ∀ f ∈ r.fields, f.acc = .ro) : roRefuse r = [cACCESS] :=
  refuseIf_true cACCESS (by simpa using h)

/-- Settles O8: the write is one access of the slot, whose three outcomes are a refusal, the register's own write, and the
nothing that a register left out stores. That such a register answers OK, before R84 and its own refusals, is the model's choice
(log entry 83). -/
theorem writesTakeEffectWholeOrNotAtAll : Obligations.WritesTakeEffectWholeOrNotAtAll := by
  unfold Obligations.WritesTakeEffectWholeOrNotAtAll
  refine ⟨?refused, ?accepted, ?absent, ?access⟩
  case refused =>
    intro c s ag r v code t₁ x hw hr
    obtain ⟨owed, he⟩ := exec_writes c s ag r v hw
    refine ⟨?_, writeRefused_of_ne x ag r code, writeRefused_sluPost x ag r code, writeRefused_coreDone x ag r code⟩
    rw [he, slot_refused _ ag r v owed code hr]
  case accepted =>
    intro c s ag r v t₁ hw ha
    obtain ⟨owed, he⟩ := exec_writes c s ag r v hw
    exact ⟨owed, by rw [he, slot_accepted _ ag r v owed ha]⟩
  case absent =>
    intro c s ag r v t₁ x hw hi hm ha hf
    obtain ⟨owed, he⟩ := exec_writes c s ag r v hw
    have hn : x.writeRefuse ag r v = [] := (writeRefuse_absent ag v ha).trans (roRefuse_nil hf)
    rw [he, slot_write _ ag r v owed hi hm, regWrite_absent _ ag r v owed ha hn]
  case access =>
    rintro s ag r v owed code ⟨-, -, hc, hr⟩
    exact regWrite_refused s ag r v owed hc hr

/-- Settles O11: the code answered is the lowest of the codes met. -/
theorem lowestRefusalCodeIsAnswered : Obligations.LowestRefusalCodeIsAnswered := by
  unfold Obligations.LowestRefusalCodeIsAnswered
  intro c s ag r v t₁ l hw hi hm hl
  obtain ⟨owed, he⟩ := exec_writes c s ag r v hw
  refine ⟨_, he, ?_⟩
  rw [agent_inTimeOf, slot_write _ ag r v owed hi hm, answer_code, regWrite_code]
  exact ⟨lowestCode_mem l hl, fun k hk h0 => (lowestCode_le l k hk h0).1⟩

/-! ### Registers of read-only fields (R702) -/

/-- Every field of a register is RO: which fields can be written is the same throughout a class of registers. -/
theorem allRo_name (r : Reg) :
    r.fields.all (fun f => f.acc == .ro) = (Reg.mk r.name 0 0).fields.all (fun f => f.acc == .ro) := by
  obtain ⟨n, i, j⟩ := r
  cases n <;> rfl

/-- A register of RO fields alone is none of a class that has a field of another kind. -/
theorem name_ne_of_allRo {r : Reg} (h : ∀ f ∈ r.fields, f.acc = .ro) {n : RegName}
    (hn : (Reg.mk n 0 0).fields.all (fun f => f.acc == .ro) = false) : r.name ≠ n := by
  rintro rfl
  rw [← allRo_name, List.all_eq_false] at hn
  obtain ⟨f, hf, ha⟩ := hn
  exact ha (by simp [h f hf])

/-- No register of RO fields alone refuses a write on its own account. -/
theorem actRefuse_allRo (s : State) (ag : Nat) {r : Reg} (v : Word48) (h : ∀ f ∈ r.fields, f.acc = .ro) :
    s.actRefuse ag r v = [] := by
  unfold State.actRefuse
  dsimp only
  split
  any_goals exact absurd ‹r.name = _› (name_ne_of_allRo h (by decide))
  rfl

/-- No write of a register of RO fields alone carries an order. -/
theorem isOrder_allRo {r : Reg} (v : Word48) (h : ∀ f ∈ r.fields, f.acc = .ro) : isOrder r v = false := by
  unfold isOrder
  dsimp only
  split
  any_goals exact absurd ‹r.name = _› (name_ne_of_allRo h (by decide))
  rfl

/-- A write that changes no field meets no weir check (R84). -/
theorem offlineRefuse_of_no_change {s : State} {ag : Nat} {r : Reg} {v : Word48}
    (h : ∀ f ∈ r.fields, fieldChanges (s.shown ag r) v f = false) : s.offlineRefuse ag r v = [] := by
  have hl : r.fields.filter (fun f => fieldChanges (s.shown ag r) v f) = [] := by simpa using h
  unfold State.offlineRefuse
  dsimp only
  rw [hl]
  split <;> rfl

/-- A register of RO fields alone refuses every write with ACCESS and no other code, left out by the role or not. -/
theorem writeRefuse_allRo (s : State) (ag : Nat) {r : Reg} (v : Word48) (h : ∀ f ∈ r.fields, f.acc = .ro) :
    s.writeRefuse ag r v = [cACCESS] := by
  have hno : ∀ f ∈ r.fields, fieldChanges (s.shown ag r) v f = false := fun f hf => by rw [fieldChanges, h f hf]
  unfold State.writeRefuse
  rw [roRefuse_all h, offlineRefuse_of_no_change hno, isOrder_allRo v h, actRefuse_allRo s ag v h]
  split <;> rfl

/-- Settles O12: the one code is ACCESS, and no register of RO fields alone counts its refusals. -/
theorem writeToReadOnlyRegisterIsRefused : Obligations.WriteToReadOnlyRegisterIsRefused := by
  unfold Obligations.WriteToReadOnlyRegisterIsRefused
  intro c s ag r v t₁ x hw hi hm h
  obtain ⟨owed, he⟩ := exec_writes c s ag r v hw
  have hr : t₁.refuses ag r v cACCESS := ⟨hi, hm, by decide, by rw [writeRefuse_allRo _ ag v h]; rfl⟩
  have hx : x.writeRefused ag r cACCESS = x :=
    writeRefused_of_ne x ag r cACCESS (name_ne_of_allRo h (by decide)) (name_ne_of_allRo h (by decide))
  rw [he, slot_refused _ ag r v owed cACCESS hr, hx]

/-! ### Weirs (R84) -/

/-- A write that would change a field its weir's state does not allow meets OFFLINE. -/
theorem offlineRefuse_of_change {s : State} {ag k : Nat} {r : Reg} {v : Word48} {f : FieldRow} (hk : r.weir = some k)
    (hf : f ∈ r.fields) (hc : fieldChanges (s.shown ag r) v f = true)
    (hw : f.acc = .rwl ∧ s.weirState k ≠ 2 ∨ f.acc ≠ .rwl ∧ s.weirState k ≠ 0) : s.offlineRefuse ag r v = [cOFFLINE] := by
  unfold State.offlineRefuse
  rw [hk]
  refine refuseIf_true cOFFLINE ?_
  simp only [Bool.or_eq_true, Bool.and_eq_true, List.any_eq_true, List.mem_filter, beq_iff_eq, bne_iff_ne]
  exact hw.imp (fun h => ⟨⟨f, ⟨hf, hc⟩, h.1⟩, h.2⟩) (fun h => ⟨⟨f, ⟨hf, hc⟩, h.1⟩, h.2⟩)

/-- What the weir of a register refuses is among what a write of it is refused with, unless the role leaves it out. -/
theorem mem_writeRefuse_of_offline {s : State} {ag code : Nat} {r : Reg} {v : Word48} (ha : s.regAbsent r = false)
    (h : code ∈ s.offlineRefuse ag r v) : code ∈ s.writeRefuse ag r v := by
  simp [State.writeRefuse, ha, h]

/-- Settles O34: OFFLINE is among the codes met, and the lowest is answered (R12). -/
theorem closedWeirRefusesAChangingWrite : Obligations.ClosedWeirRefusesAChangingWrite := by
  unfold Obligations.ClosedWeirRefusesAChangingWrite
  refine ⟨?closed, fun s ag r v h => offlineRefuse_of_no_change h⟩
  intro c s ag k r v f t₁ x hw hi hm ha hk hf hc hs
  obtain ⟨owed, he⟩ := exec_writes c s ag r v hw
  have hmem : cOFFLINE ∈ x.writeRefuse ag r v :=
    mem_writeRefuse_of_offline ha (by rw [offlineRefuse_of_change hk hf hc hs]; exact List.mem_singleton_self _)
  obtain ⟨hle, hne⟩ := lowestCode_le _ _ hmem (by decide)
  refine ⟨_, _, hle, ⟨hi, hm, hne, rfl⟩, he, ?_⟩
  rw [agent_inTimeOf, slot_write _ ag r v owed hi hm, answer_code, regWrite_code]

/-! ### Registers without an action -/

/-- The plain effect of a write on a register whose fields no action of its own sets. -/
theorem plain_not_owned (s : State) {r : Reg} (v : Word48) (h : ownsFields r = false) :
    s.plain r v = s.setReg r (plainWrite r (s.reg r) v) := by
  simp [State.plain, h]

/-- A write that carries no order is not mirrored (R481). -/
theorem mirrorReg_not_order (s : State) (ag : Nat) {r : Reg} {v : Word48} (h : isOrder r v = false) : s.mirrorReg ag r v = s := by
  simp [State.mirrorReg, h]

/-- Whether a write of a register acts is the same throughout a class of registers. -/
theorem name_ne_of_acts {r : Reg} (h : r.acts = false) {n : RegName} (hn : (Reg.mk n 0 0).acts = true) : r.name ≠ n := by
  rintro rfl
  exact Bool.false_ne_true (h.symm.trans hn)

section
variable {r : Reg} (h : r.acts = false)
include h

/-- Nothing is due before an access to a register without an action. -/
theorem settleReg_plain (s : State) : s.settleReg r = s := by
  unfold State.settleReg
  split
  any_goals exact absurd ‹r.name = _› (name_ne_of_acts h rfl)
  rfl

theorem ownsFields_plain : ownsFields r = false := by
  unfold ownsFields
  split
  any_goals exact absurd ‹r.name = _› (name_ne_of_acts h rfl)
  rfl

theorem isOrder_plain (v : Word48) : isOrder r v = false := by
  unfold isOrder
  dsimp only
  split
  any_goals exact absurd ‹r.name = _› (name_ne_of_acts h rfl)
  rfl

theorem writeAct_plain (s was : State) (ag : Nat) (v : Word48) (owed : Nat) : s.writeAct was ag r v owed = s := by
  unfold State.writeAct
  dsimp only
  split
  any_goals exact absurd ‹r.name = _› (name_ne_of_acts h rfl)
  rfl

/-- An accepted write of a register without an action stores its word, and the agent is answered. -/
theorem accepted_plain (s was : State) (ag : Nat) (v : Word48) (owed : Nat) :
    s.accepted ag r v (fun u => u.writeAct was ag r v owed) =
      (s.setReg r (plainWrite r (s.reg r) v)).answer ag r.addr (writeType ag) cOK 0 := by
  simp only [State.accepted, settleReg_plain h, plain_not_owned s v (ownsFields_plain h), writeAct_plain h,
    mirrorReg_not_order _ ag (isOrder_plain h v)]

end

theorem exec_registerWrite (dt ag a : Nat) (v : Word48) (s : State) :
    exec (.registerWrite dt ag a v) s = .next (((s.elapse dt).busWrite ag a v).inTimeOf (s.elapse dt)) := rfl

/-- Settles O32: the write stores one word, and its answer OK changes the agent's record and what is outstanding alone. -/
theorem plainRegisterWriteChangesOnlyThatRegister : Obligations.PlainRegisterWriteChangesOnlyThatRegister := by
  unfold Obligations.PlainRegisterWriteChangesOnlyThatRegister
  intro dt ag r v s t₁ h ha
  rw [exec_registerWrite, busWrite_accepted _ ag r v ha, accepted_plain h, answer_ok]
  refine ⟨_, rfl, ?code, ?word, ?regs, fun _ => rfl, rfl⟩
  case code => exact congrArg AgentH.code (agent_setAgent _ ag _)
  case word => exact reg_setReg _ r _
  case regs => exact fun q hq => reg_setReg_ne _ r q _ (hq r (List.mem_singleton_self r))

end Sys2Proof.Machine
end

section
/-! PROOFS. What commands complete with: an event takes its effect, an accepted write takes its action; the families whose
orders go by one field. -/
namespace Sys2Proof.Machine

/-- Two effects that leave the same state complete alike. -/
theorem next_congr {t u w : State} (h : u = w) : (.next (u.inTimeOf t) : Out) = .next (w.inTimeOf t) := by rw [h]

/-- A command that writes one register completes with the accepted write, its action written out. -/
theorem write_next {s : State} {dt ag : Nat} {r : Reg} {v : Word48} {g : State → State} (owed : Nat)
    (h : (s.elapse dt).accepts ag r v)
    (act : (((s.elapse dt).settleReg r).plain r v).writeAct ((s.elapse dt).settleReg r) ag r v owed =
      g (((s.elapse dt).settleReg r).plain r v)) :
    (.next (((s.elapse dt).slot ag r.addr (some v.toNat) owed).inTimeOf (s.elapse dt)) : Out) =
      .next (((s.elapse dt).accepted ag r v g).inTimeOf (s.elapse dt)) := by
  rw [slot_accepted _ _ _ _ _ h, accepted_congr _ _ _ _ _ g act]

/-- An action whose condition is false does not take place. -/
theorem doIf_false (u : State) (g : State → State) : u.doIf false g = u := rfl

/-- An action that a bit of the written word orders takes place where the bit is 1. -/
theorem doIf_wordFld {f : Fld} {v : Word48} (h : wordFld v f = 1) (u : State) (g : State → State) :
    u.doIf (wordFld v f == 1) g = g u := by
  unfold State.doIf
  rw [h]
  rfl

/-- An action that a bit of the written word orders does not take place where the bit is 0. -/
theorem doIf_wordFld_zero {f : Fld} {v : Word48} (h : wordFld v f = 0) (u : State) (g : State → State) :
    u.doIf (wordFld v f == 1) g = u := by
  unfold State.doIf
  rw [h]
  rfl

/-- A write whose action one bit of the word orders, with that bit 1. -/
theorem write_when {s : State} {dt ag : Nat} {r : Reg} {v : Word48} {g : State → State} (f : Fld)
    (on : wordFld v f = 1) (h : (s.elapse dt).accepts ag r v)
    (act : ∀ u w : State, u.writeAct w ag r v 0 = u.doIf (wordFld v f == 1) g) :
    (.next (((s.elapse dt).slot ag r.addr (some v.toNat) 0).inTimeOf (s.elapse dt)) : Out) =
      .next (((s.elapse dt).accepted ag r v g).inTimeOf (s.elapse dt)) :=
  write_next 0 h ((act _ _).trans (doIf_wordFld on _ g))

/-- In the word that orders something by a one-bit field, that field reads 1. -/
theorem wordWith_one (s : State) (ag : Nat) (r : Reg) (f : Fld) (h : f.lo < 48 ∧ f.w = 1) :
    wordFld (s.wordWith ag r f 1) f = 1 := by
  have e := wordWith_self s ag r f 1 (by omega)
  rw [h.2] at e
  exact e

/-- An order by a one-bit field whose register acts by that bit. -/
theorem order_when {s : State} {dt ag : Nat} {r : Reg} {g : State → State} (f : Fld) (bit : f.lo < 48 ∧ f.w = 1)
    (h : (s.elapse dt).accepts ag r ((s.elapse dt).wordWith ag r f 1))
    (act : ∀ (u w : State) (v : Word48), u.writeAct w ag r v 0 = u.doIf (wordFld v f == 1) g) :
    (.next (((s.elapse dt).order ag r f 1).inTimeOf (s.elapse dt)) : Out) =
      .next (((s.elapse dt).accepted ag r ((s.elapse dt).wordWith ag r f 1) g).inTimeOf (s.elapse dt)) :=
  write_when f (wordWith_one _ ag r f bit) h (fun u w => act u w _)

/-- Settles O37: five events with their conditions, and the arrival of a command frame. -/
theorem completeCycle : Obligations.CompleteCycle :=
  ⟨fun _ _ h => rowIf_next _ _ _ _ h, fun _ _ h => rowIf_next _ _ _ _ h, fun _ _ h => rowIf_next _ _ _ _ h, fun _ _ => rfl,
    fun _ _ h => rowIf_next _ _ _ _ h, fun _ _ h => rowIf_next _ _ _ _ h⟩

/-! ### Jets -/

/-- The word that orders a swap carries the rotation period as it stands. -/
theorem rotPeriod_wordWith_swap (s : State) (ag : Nat) (h : s.regAbsent .jetCtl = false) :
    wordFld (s.wordWith ag .jetCtl fJetCtl_SWAP 1) fJetCtl_ROT_PERIOD = s.fld .jetCtl fJetCtl_ROT_PERIOD := by
  unfold State.wordWith State.shown
  rw [if_neg (by simp [h]), wordFld_wordPut_apart _ _ _ _ rfl]
  show wordFld (wordPut (wordPut (s.reg .jetCtl) fJetCtl_SWAP 0) fJetCtl_SWAP 0) fJetCtl_ROT_PERIOD = _
  rw [wordFld_wordPut_apart _ _ _ _ rfl, wordFld_wordPut_apart _ _ _ _ rfl]
  rfl

/-- A write of JET.CTL leaves the rotation period it carries. -/
theorem rotPeriod_plain (s : State) (v : Word48) :
    (s.plain .jetCtl v).fld .jetCtl fJetCtl_ROT_PERIOD = wordFld v fJetCtl_ROT_PERIOD := by
  have hf : (⟨fJetCtl_ROT_PERIOD, .rw, 1000⟩ : FieldRow) ∈ Reg.jetCtl.fields := List.mem_cons_self
  rw [plain_not_owned s (r := .jetCtl) v rfl, fld_setReg]
  exact wordFld_plainWrite .jetCtl _ v hf

/-- What a write of JET.CTL orders: the count of the rotation starts anew where its period changes, and a swap by its bit. -/
theorem writeAct_jetCtl (s w : State) (ag : Nat) (v : Word48) (owed : Nat) :
    s.writeAct w ag .jetCtl v owed =
      (s.doIf (s.fld .jetCtl fJetCtl_ROT_PERIOD != w.fld .jetCtl fJetCtl_ROT_PERIOD)
        (fun s => { s with jetSys := { s.jetSys with rotFrom := s.now } })).doIf
          (wordFld v fJetCtl_SWAP == 1) State.swapSchedule := rfl

/-- An order of a swap leaves the rotation period, so that the count of the rotation goes on. -/
theorem jetSwap_act (s : State) (ag : Nat) (h : s.regAbsent .jetCtl = false) :
    let v := s.wordWith ag .jetCtl fJetCtl_SWAP 1
    (s.plain .jetCtl v).writeAct s ag .jetCtl v 0 = (s.plain .jetCtl v).swapSchedule := by
  intro v
  have hs : wordFld v fJetCtl_SWAP = 1 := wordWith_one s ag .jetCtl _ (by decide)
  rw [writeAct_jetCtl, doIf_wordFld hs, rotPeriod_plain, rotPeriod_wordWith_swap s ag h, bne_self_eq_false, doIf_false]

/-- The request whose refusal is due at Jet n is refused. -/
theorem jetTimeRefusal_due {s : State} {n : Nat} {q : ArbReq} (h : s.jetRefusalDue n = some q) :
    s.jetTimeRefusal n = s.jetRefuse q := by
  unfold State.jetTimeRefusal
  rw [h]

/-- Settles O38: events, the refusal of the request that is due, and the two orders by a bit. -/
theorem completeJets : Obligations.CompleteJets :=
  ⟨fun _ _ _ _ h => rowIf_next _ _ _ _ h, fun _ _ _ => rfl, fun _ _ => rfl, fun _ _ _ _ h => rowIf_next _ _ _ _ h,
    fun _ _ _ _ h => next_congr (jetTimeRefusal_due h),
    fun _ _ _ h => rowIf_next _ _ _ _ h, fun _ _ _ h => rowIf_next _ _ _ _ h, fun _ _ _ _ => rfl, fun _ _ _ _ h => rowIf_next _ _ _ _ h,
    fun _ _ _ h => write_next 0 h (jetSwap_act _ _ h.2.2.1),
    fun _ _ h => rowIf_next _ _ _ _ h,
    fun _ _ _ h => order_when fJetCntClr_CLR (by decide) h (fun _ _ _ => rfl)⟩

/-! ### Frames, link ports, power, shared resources -/

/-- The dynamic frame that is due is sent. -/
theorem dynFrameSend_due {s : State} {f : Nat} {g : DynGrant} (h : s.dynDue f = some g) : s.dynFrameSend f = s.dynSend g := by
  unfold State.dynFrameSend
  rw [h]

/-- Settles O39: events with their conditions, the dynamic frame that is due, a post by its bit, and the clearing of counters. -/
theorem completeFrames : Obligations.CompleteFrames :=
  ⟨fun _ _ _ => rfl, fun _ _ _ _ _ h => rowIf_next _ _ _ _ h, fun _ _ _ _ _ _ h => rowIf_next _ _ _ _ h,
    fun _ _ _ _ _ h => rowIf_next _ _ _ _ h, fun _ _ _ h => rowIf_next _ _ _ _ h,
    fun _ _ _ h => rowIf_next _ _ _ _ h, fun _ _ _ h => rowIf_next _ _ _ _ h,
    fun _ _ _ _ _ _ _ h => rowIf_next _ _ _ _ h, fun _ _ _ h => rowIf_next _ _ _ _ h,
    fun _ _ h => rowIf_next _ _ _ _ h, fun _ _ _ h => rowIf_next _ _ _ _ h, fun _ _ _ h => rowIf_next _ _ _ _ h,
    fun _ _ _ => rfl, fun _ _ _ h => rowIf_next _ _ _ _ h, fun _ _ _ => rfl, fun _ _ _ h => rowIf_next _ _ _ _ h,
    fun _ _ h => rowIf_next _ _ _ _ h, fun _ _ _ _ _ on h => write_when fFlowTx_POST on h (fun _ _ => rfl),
    fun _ _ _ _ h => next_congr (dynFrameSend_due h), fun _ _ h => rowIf_next _ _ _ _ h, fun _ _ => rfl, fun _ _ => rfl,
    fun _ _ => rfl, fun _ _ _ _ _ _ => rfl, fun _ _ _ h => rowIf_next _ _ _ _ h,
    fun _ _ _ h => order_when fNetCntClr_CLR (by decide) h (fun _ _ _ => rfl)⟩

/-- Settles O40: events of the ports, and the writes of PORT.CTL and PORT.CNT_CLR with their actions. -/
theorem completeLinks : Obligations.CompleteLinks :=
  ⟨fun _ _ _ => rfl, fun _ _ _ _ h => rowIf_next _ _ _ _ h, fun _ _ _ h => rowIf_next _ _ _ _ h,
    fun _ _ _ _ h => rowIf_next _ _ _ _ h, fun _ _ _ h => rowIf_next _ _ _ _ h, fun _ _ _ => rfl,
    fun _ _ _ h => rowIf_next _ _ _ _ h,
    fun _ _ _ _ h => write_next 0 h rfl,
    fun _ _ _ _ _ _ h => write_next 0 h rfl,
    fun _ _ _ _ h => write_next 0 h rfl, fun _ _ _ _ => rfl,
    fun _ _ _ _ h => order_when fPortCntClr_CLR (by decide) h (fun _ _ _ => rfl)⟩

/-- Settles O41: events of the clocks, the sequencer and the sensors, and the two writes that order a reset and a clear. -/
theorem completePower : Obligations.CompletePower :=
  ⟨fun _ _ h => rowIf_next _ _ _ _ h, fun _ _ _ h => rowIf_next _ _ _ _ h, fun _ _ _ => rfl, fun _ _ => rfl,
    fun _ _ _ h => rowIf_next _ _ _ _ h, fun _ _ _ h => rowIf_next _ _ _ _ h, fun _ _ h => rowIf_next _ _ _ _ h,
    fun _ _ h => rowIf_next _ _ _ _ h, fun _ _ _ _ _ => rfl, fun _ _ _ h => rowIf_next _ _ _ _ h,
    fun _ _ h => rowIf_next _ _ _ _ h, fun _ _ h => rowIf_next _ _ _ _ h,
    fun _ _ _ _ _ _ _ h => rowIf_next _ _ _ _ h, fun _ _ => rfl, fun _ _ _ _ => rfl,
    fun _ _ h => rowIf_next _ _ _ _ h, fun _ _ _ h => write_next 0 h rfl, fun _ _ h => rowIf_next _ _ _ _ h,
    fun _ _ _ => rfl, fun _ _ _ h => order_when fSysTemp_CLR (by decide) h (fun _ _ _ => rfl)⟩

/-- Settles O44: the events of arbiters and admission, and four orders by one bit. -/
theorem completeShared : Obligations.CompleteShared :=
  ⟨fun _ _ _ _ _ _ _ _ _ h => rowIf_next _ _ _ _ h, fun _ _ _ => rfl, fun _ _ _ => rfl,
    fun _ _ _ _ on h => write_when fShrAdmCtl_CHECK on h (fun _ _ => rfl), fun _ _ h => rowIf_next _ _ _ _ h,
    fun _ _ _ _ _ h => order_when fShrReqWait_CLR (by decide) h (fun _ _ _ => rfl),
    fun _ _ _ _ h => order_when fShrUnitArb_CLR (by decide) h (fun _ _ _ => rfl),
    fun _ _ _ h => order_when fSysVlogCtl_CLR (by decide) h (fun _ _ _ => rfl)⟩

end Sys2Proof.Machine
end

section
/-! PROOFS. What commands complete with, where the action of a register goes by several fields of the word: weirs, image
switches and the flash, axes and their staged banks. -/
namespace Sys2Proof.Machine

/-- In an order by field f of register r, field g reads 0: it shares no bit with f and does not keep its value. -/
def Reg.clears (r : Reg) (f g : Fld) : Bool :=
  f.apart g && (r.fields.all (fun x => x.fld == g && decide (g.lo + g.w ≤ 48) || x.fld.apart g || !x.cleared) &&
    r.fields.any (fun x => x.cleared && x.fld == g))

/-- What the other order fields of a word read that orders something by one field. -/
theorem wordWith_zero {s : State} {ag n : Nat} {r : Reg} {f g : Fld} (h : r.clears f g = true) :
    wordFld (s.wordWith ag r f n) g = 0 := by
  simp only [Reg.clears, Bool.and_eq_true] at h
  obtain ⟨ha, hall, hany⟩ := h
  exact wordWith_other s ag r f g n ha hall hany

/-- An order by a field whose value the register's action takes. -/
theorem order_field {s : State} {dt ag : Nat} {r : Reg} {f : Fld} {g : Nat → State → State} (n : Nat)
    (fits : f.lo + f.w ≤ 48) (hn : n < 2 ^ f.w) (h : (s.elapse dt).accepts ag r ((s.elapse dt).wordWith ag r f n))
    (act : ∀ (u w : State) (v : Word48), u.writeAct w ag r v 0 = g (wordFld v f) u) :
    (.next (((s.elapse dt).order ag r f n).inTimeOf (s.elapse dt)) : Out) =
      .next (((s.elapse dt).accepted ag r ((s.elapse dt).wordWith ag r f n) (g n)).inTimeOf (s.elapse dt)) := by
  refine write_next 0 h ?_
  rw [act, wordWith_self _ _ _ _ _ fits, Nat.mod_eq_of_lt hn]

/-! ### Weirs -/

/-- What a command c to weir k does: at once, or for an axis weir of a twin head at the boundary it waits for (R481). -/
def State.weirTake (s : State) (ag k c owed : Nat) : State :=
  if s.twin && s.isHead && decide (k < 192) then
    { s with twn := { s.twn with weirDue := s.twn.weirDue ++ [(s.leadCycle ag, s.fromB ag, k, c, owed)] } }
  else s.weirCmd k c owed

/-- A word that carries a command and clears no counters. -/
theorem weirAct_cmd (s : State) (ag k owed : Nat) {v : Word48} (hn : wordFld v fSysWeir_CNT_CLR = 0)
    (hc : wordFld v fSysWeir_CMD ≠ 0) : s.weirAct ag k v owed = s.weirTake ag k (wordFld v fSysWeir_CMD) owed := by
  unfold State.weirAct
  dsimp only
  rw [doIf_wordFld_zero hn, if_neg hc]
  rfl

/-- A word that clears the counters of a weir and carries no command. -/
theorem weirAct_cntClr (s : State) (ag k owed : Nat) {v : Word48} (hn : wordFld v fSysWeir_CNT_CLR = 1)
    (hc : wordFld v fSysWeir_CMD = 0) : s.weirAct ag k v owed = s.weirCntClr k := by
  unfold State.weirAct
  dsimp only
  rw [doIf_wordFld hn, if_pos hc]

/-- A command to a weir. -/
theorem weirOrder_next {s : State} {dt ag k : Nat} (c owed : Nat) (hc : 0 < c ∧ c < 2 ^ 3)
    (h : (s.elapse dt).accepts ag (.sysWeir k) ((s.elapse dt).wordWith ag (.sysWeir k) fSysWeir_CMD c)) :
    (.next (((s.elapse dt).weirOrder ag k c owed).inTimeOf (s.elapse dt)) : Out) =
      .next (((s.elapse dt).accepted ag (.sysWeir k) ((s.elapse dt).wordWith ag (.sysWeir k) fSysWeir_CMD c)
        (fun x => x.weirTake ag k c owed)).inTimeOf (s.elapse dt)) := by
  have hf : wordFld ((s.elapse dt).wordWith ag (.sysWeir k) fSysWeir_CMD c) fSysWeir_CMD = c :=
    (wordWith_self _ _ _ _ _ (by decide)).trans (Nat.mod_eq_of_lt hc.2)
  refine write_next owed h ((weirAct_cmd _ ag k owed (wordWith_zero rfl) ?_).trans ?_)
  · rw [hf]
    omega
  · rw [hf]

/-- Settles O42: the five commands and the clearing of the counters by their fields of SYS.WEIR, and the events of a weir. -/
theorem completeWeirs : Obligations.CompleteWeirs :=
  ⟨fun _ _ _ _ _ h => weirOrder_next wcCLOSE _ (by decide) h,
    fun _ _ _ _ h => weirOrder_next wcOPEN _ (by decide) h,
    fun _ _ _ _ _ h => weirOrder_next wcCYCLE _ (by decide) h,
    fun _ _ _ _ _ h => weirOrder_next wcOFF _ (by decide) h,
    fun _ _ _ _ h => weirOrder_next wcON _ (by decide) h,
    fun _ _ k _ h => write_next 0 h (weirAct_cntClr _ _ k _ (wordWith_one _ _ _ _ (by decide)) (wordWith_zero rfl)),
    fun _ _ _ h => rowIf_next _ _ _ _ h, fun _ _ _ h => rowIf_next _ _ _ _ h, fun _ _ _ h => rowIf_next _ _ _ _ h,
    fun _ _ _ _ h => rowIf_next _ _ _ _ h, fun _ _ _ _ h => rowIf_next _ _ _ _ h⟩

/-! ### Image switches and the flash -/

/-- A word that orders an image switch and cancels none. -/
theorem imgCtl_go (s w : State) (ag : Nat) {v : Word48} (go : wordFld v fSysImgCtl_GO = 1)
    (cancel : wordFld v fSysImgCtl_CANCEL = 0) : s.writeAct w ag .sysImgCtl v 0 = s.imgGo ag := by
  show (s.doIf (wordFld v fSysImgCtl_CANCEL == 1) State.imgCancel).doIf (wordFld v fSysImgCtl_GO == 1) (fun s => s.imgGo ag) = _
  rw [doIf_wordFld_zero cancel, doIf_wordFld go]

/-- A word that cancels an image switch and orders none. -/
theorem imgCtl_cancel (s w : State) (ag : Nat) {v : Word48} (go : wordFld v fSysImgCtl_GO = 0)
    (cancel : wordFld v fSysImgCtl_CANCEL = 1) : s.writeAct w ag .sysImgCtl v 0 = s.imgCancel := by
  show (s.doIf (wordFld v fSysImgCtl_CANCEL == 1) State.imgCancel).doIf (wordFld v fSysImgCtl_GO == 1) (fun s => s.imgGo ag) = _
  rw [doIf_wordFld cancel, doIf_wordFld_zero go]

/-- The word of a flash operation. -/
def flashWord (op slot addr : Nat) : Word48 :=
  wordPut (wordPut (wordPut 0 fSysFlashCtl_OP op) fSysFlashCtl_SLOT slot) fSysFlashCtl_ADDR addr

/-- The word of a flash operation starts it with its slot and address. -/
theorem flashCtl_act (s w : State) (ag : Nat) {op slot addr : Nat} (ho : op < 4) (hs : slot < 2) (ha : addr < 2 ^ 24) :
    s.writeAct w ag .sysFlashCtl (flashWord op slot addr) 0 = s.flashStart op slot addr := by
  have eo : wordFld (flashWord op slot addr) fSysFlashCtl_OP = op := by
    rw [flashWord, wordFld_wordPut_apart _ _ _ _ (by decide), wordFld_wordPut_apart _ _ _ _ (by decide),
      wordFld_wordPut_self _ _ _ (by decide)]
    exact Nat.mod_eq_of_lt ho
  have es : wordFld (flashWord op slot addr) fSysFlashCtl_SLOT = slot := by
    rw [flashWord, wordFld_wordPut_apart _ _ _ _ (by decide), wordFld_wordPut_self _ _ _ (by decide)]
    exact Nat.mod_eq_of_lt hs
  have ea : wordFld (flashWord op slot addr) fSysFlashCtl_ADDR = addr := by
    rw [flashWord, wordFld_wordPut_self _ _ _ (by decide)]
    exact Nat.mod_eq_of_lt ha
  show s.flashStart _ _ _ = _
  rw [eo, es, ea]

/-- Settles O43: the events of start-up and of an image switch, the two orders of SYS.IMG_CTL, the flash operations by their
word, and a buffer write, which orders nothing. -/
theorem completeBoot : Obligations.CompleteBoot :=
  ⟨fun _ _ h => rowIf_next _ _ _ _ h, fun _ _ _ h => rowIf_next _ _ _ _ h, fun _ _ _ _ _ h => rowIf_next _ _ _ _ h,
    fun _ _ h => rowIf_next _ _ _ _ h, fun _ _ _ _ _ _ h => rowIf_next _ _ _ _ h,
    fun _ _ _ _ go cancel h => write_next 0 h (imgCtl_go _ _ _ go cancel),
    fun _ _ _ h => write_next 0 h (imgCtl_cancel _ _ _ (wordWith_zero rfl) (wordWith_one _ _ _ _ (by decide))),
    fun _ _ _ _ h => rowIf_next _ _ _ _ h, fun _ _ h => rowIf_next _ _ _ _ h, fun _ _ h => rowIf_next _ _ _ _ h,
    fun _ _ _ _ => rfl,
    fun _ _ _ _ _ hs ha h => write_next 0 h (flashCtl_act _ _ _ (op := 1) (by decide) hs ha),
    fun _ _ _ _ _ hs ha h => write_next 0 h (flashCtl_act _ _ _ (op := 2) (by decide) hs ha),
    fun _ _ _ _ _ hs ha h => write_next 0 h (flashCtl_act _ _ _ (op := 3) (by decide) hs ha),
    fun _ _ _ h => rowIf_next _ _ _ _ h, fun _ _ _ _ _ h => write_next 0 h rfl⟩

/-! ### Writes of memory words -/

/-- An 8-byte memory write by its address is one of the memory windows. -/
theorem slot_memWrite {s : State} {ag a : Nat} (v : Nat) (hi : s.issues ag = true) (lo : 0x1000000 ≤ a) (h8 : a % 8 = 0) :
    s.slot ag a (some v) 0 =
      (s.memWrite ag a (leBytes 8 v)).2.answer ag a (writeType ag) (s.memWrite ag a (leBytes 8 v)).1 0 := by
  unfold State.slot State.access8
  simp [hi, h8, Nat.not_lt.2 lo]

/-- What a memory window holds after eight bytes are stored at a: the words written whole hold no error any more
(log entries 85 and 103). -/
def State.wordStored (s : State) (a v : Nat) : State :=
  { s.setBytes a (leBytes 8 v) with ecc := s.ecc.filter (fun w => !decide (a ≤ 4 * w ∧ 4 * w + 4 ≤ a + 8)) }

/-- A write of eight bytes that nothing refuses. -/
theorem memWrite_word {s : State} {ag a : Nat} (v : Nat) (hc : s.memCode ag a 8 true = cOK) :
    s.memWrite ag a (leBytes 8 v) =
      (cOK, if mirroredMem a then (s.wordStored a v).mirrorMem ag (List.range 9) (memEntries a (leBytes 8 v)) else s.wordStored a v) := by
  unfold State.memWrite
  rw [leBytes_length, hc]
  rfl

/-- A write of a word of a memory that a twin head mirrors. -/
theorem slot_mirrored {s : State} {ag a : Nat} (v : Nat) (hi : s.issues ag = true) (lo : 0x1000000 ≤ a) (h8 : a % 8 = 0)
    (hm : mirroredMem a = true) (hc : s.memCode ag a 8 true = cOK) :
    s.slot ag a (some v) 0 =
      ((s.wordStored a v).mirrorMem ag (List.range 9) (memEntries a (leBytes 8 v))).answer ag a (writeType ag) cOK 0 := by
  rw [slot_memWrite v hi lo h8, memWrite_word v hc, if_pos hm]

/-- A write of a word of a memory that a twin head does not mirror. -/
theorem slot_unmirrored {s : State} {ag a : Nat} (v : Nat) (hi : s.issues ag = true) (lo : 0x1000000 ≤ a) (h8 : a % 8 = 0)
    (hm : mirroredMem a = false) (hc : s.memCode ag a 8 true = cOK) :
    s.slot ag a (some v) 0 = (s.wordStored a v).answer ag a (writeType ag) cOK 0 := by
  rw [slot_memWrite v hi lo h8, memWrite_word v hc, if_neg (by simp [hm])]

/-- Staged banks are mirrored. -/
theorem mirroredMem_bank {a : Nat} (lo : 0x1000000 ≤ a) (hi : a < 0x1180000) (hb : 0x1000 ≤ a % 0x2000) :
    mirroredMem a = true := by
  simp [mirroredMem, lo, hi, hb]

/-- The cam store is mirrored. -/
theorem mirroredMem_cam {a : Nat} (lo : 0x1180000 ≤ a) (hi : a < 0x11C0000) : mirroredMem a = true := by
  simp [mirroredMem, lo, hi]

/-- The memories above the cam store are not mirrored. -/
theorem mirroredMem_above {a : Nat} (lo : 0x11C0000 ≤ a) : mirroredMem a = false := by
  have h1 : ¬ a < 0x1180000 := by omega
  have h2 : ¬ a < 0x11C0000 := by omega
  simp [mirroredMem, h1, h2]

/-! ### Axes -/

/-- Operations that do the same are the same at the cycle of an order. -/
theorem atOrder_congr {s : State} {ag : Nat} {c : Reg} {f g : State → State} (h : ∀ u, f u = g u) :
    s.atOrder ag c f = s.atOrder ag c g := by
  rw [funext h]

/-- A word that requests a staging and cancels none. -/
theorem stageAct_request (s : State) (n : Nat) {v : Word48} (req : wordFld v fAxsStage_REQ = 1)
    (cancel : wordFld v fAxsStage_CANCEL = 0) : s.stageAct n v = s.stageRequest n := by
  unfold State.stageAct
  dsimp only
  rw [doIf_wordFld_zero cancel, doIf_wordFld req]

/-- A word that cancels a staging and requests none. -/
theorem stageAct_cancel (s : State) (n : Nat) {v : Word48} (req : wordFld v fAxsStage_REQ = 0)
    (cancel : wordFld v fAxsStage_CANCEL = 1) : s.stageAct n v = s.stageCancel n := by
  unfold State.stageAct
  dsimp only
  rw [doIf_wordFld cancel, doIf_wordFld_zero req]

/-- A command to an axis. -/
theorem axsCmd_next {s : State} {dt ag n : Nat} (c : Nat) (hc : c < 2 ^ 3)
    (h : (s.elapse dt).accepts ag (.axsCmd n) ((s.elapse dt).wordWith ag (.axsCmd n) fAxsCmd_CMD c)) :
    (.next (((s.elapse dt).order ag (.axsCmd n) fAxsCmd_CMD c).inTimeOf (s.elapse dt)) : Out) =
      .next (((s.elapse dt).accepted ag (.axsCmd n) ((s.elapse dt).wordWith ag (.axsCmd n) fAxsCmd_CMD c)
        (fun x => x.cmdAct ag n c)).inTimeOf (s.elapse dt)) :=
  order_field (g := fun c x => x.cmdAct ag n c) c (by decide) hc h (fun _ _ _ => rfl)

/-- Settles O45: the two orders of STAGE, a write of a staged bank, the five commands by the field CMD, and two clears. -/
theorem completeAxes : Obligations.CompleteAxes :=
  ⟨fun _ _ _ _ _ req cancel h => write_next 0 h (atOrder_congr fun u => stageAct_request u _ req cancel),
    fun _ _ _ _ h => write_next 0 h (atOrder_congr fun u =>
      stageAct_cancel u _ (wordWith_zero rfl) (wordWith_one _ _ _ _ (by decide))),
    fun _ _ _ v _ hi lo hu h8 hb hc => next_congr (slot_mirrored v.toNat hi lo h8 (mirroredMem_bank lo hu hb) hc),
    fun _ _ _ _ h => axsCmd_next cmdENABLE (by decide) h,
    fun _ _ _ _ h => axsCmd_next cmdDISABLE (by decide) h,
    fun _ _ _ _ h => axsCmd_next cmdSTOP (by decide) h,
    fun _ _ _ _ h => axsCmd_next cmdQUICK (by decide) h,
    fun _ _ _ _ h => axsCmd_next cmdRESET (by decide) h,
    fun _ _ _ _ h => order_when fAxsAgeStat_CLR (by decide) h (fun _ _ _ => rfl),
    fun _ _ _ _ h => order_when fAxsCsFocStat_CLR (by decide) h (fun _ _ _ => rfl)⟩

end Sys2Proof.Machine
end

section
/-! PROOFS. What commands complete with, where one bit of several orders: moves, following and cams, homing, latches, the timer
channels and their groups. -/
namespace Sys2Proof.Machine

/-! ### Moves and following -/

/-- A word of MV_CTL that pushes a move and flushes none. -/
theorem mvCtlAct_push (s : State) (n : Nat) {v : Word48} (push : wordFld v fAxsMvCtl_PUSH = 1)
    (flush : wordFld v fAxsMvCtl_FLUSH = 0) : s.mvCtlAct n v = s.movePush n := by
  unfold State.mvCtlAct
  dsimp only
  rw [doIf_wordFld_zero flush, doIf_wordFld push]

/-- A word of MV_CTL that flushes the queue and pushes no move. -/
theorem mvCtlAct_flush (s : State) (n : Nat) {v : Word48} (push : wordFld v fAxsMvCtl_PUSH = 0)
    (flush : wordFld v fAxsMvCtl_FLUSH = 1) : s.mvCtlAct n v = s.moveFlush n := by
  unfold State.mvCtlAct
  dsimp only
  rw [doIf_wordFld flush, doIf_wordFld_zero push]

/-- What an operation of FOL_CTL places for the axis: 1 engages, 2 disengages, 3 switches the cam table (R279, R289). -/
def State.folOrder (s : State) (n op : Nat) (v : Word48) : State :=
  match op with
  | 1 => s.folPut n (.engage (wordFld v fAxsFolCtl_AT_POS == 1) (s.regN (.axsFolPos n)) (wordFld v fAxsFolCtl_REL == 1))
  | 2 => s.folPut n (.disengage (wordFld v fAxsFolCtl_AT_POS == 1) (s.regN (.axsFolPos n)))
  | 3 => s.folPut n (.switch (s.regN (.axsFolPos n)) (wordFld v fAxsFolCtl_SW_TABLE) (wordFld v fAxsFolCtl_FORCE == 1))
  | _ => s

/-- A word of FOL_CTL that cancels nothing. -/
theorem folCtlAct_op (s : State) (n : Nat) {op : Nat} {v : Word48} (hop : wordFld v fAxsFolCtl_OP = op)
    (cancel : wordFld v fAxsFolCtl_CANCEL = 0) : s.folCtlAct n v = s.folOrder n op v := by
  unfold State.folCtlAct
  dsimp only
  rw [doIf_wordFld_zero cancel, hop]
  rfl

/-- A word of FOL_CTL that cancels and carries no operation. -/
theorem folCtlAct_cancel (s : State) (n : Nat) {v : Word48} (hop : wordFld v fAxsFolCtl_OP = 0)
    (cancel : wordFld v fAxsFolCtl_CANCEL = 1) : s.folCtlAct n v = s.folPut n .cancel := by
  unfold State.folCtlAct
  dsimp only
  rw [doIf_wordFld cancel, hop]
  rfl

/-- An order by the operation of FOL_CTL. -/
theorem folOrder_next {s : State} {dt ag n : Nat} (op : Nat) (ho : op < 2 ^ 2)
    (h : (s.elapse dt).accepts ag (.axsFolCtl n) ((s.elapse dt).wordWith ag (.axsFolCtl n) fAxsFolCtl_OP op)) :
    (.next (((s.elapse dt).order ag (.axsFolCtl n) fAxsFolCtl_OP op).inTimeOf (s.elapse dt)) : Out) =
      .next (((s.elapse dt).accepted ag (.axsFolCtl n) ((s.elapse dt).wordWith ag (.axsFolCtl n) fAxsFolCtl_OP op)
        (fun x => x.atOrder ag (.axsCasCycle n)
          (fun y => y.folOrder n op ((s.elapse dt).wordWith ag (.axsFolCtl n) fAxsFolCtl_OP op)))).inTimeOf (s.elapse dt)) :=
  write_next 0 h (atOrder_congr fun u => folCtlAct_op u n
    ((wordWith_self _ _ _ _ _ (by decide)).trans (Nat.mod_eq_of_lt ho)) (wordWith_zero rfl))

/-- The word that orders a group's start carries the group. -/
theorem grpCtl_act (s w t : State) (ag : Nat) {g : Nat} (hg : g < 32) :
    let v := wordPut (t.wordWith ag .casGrpCtl fCasGrpCtl_GO 1) fCasGrpCtl_GROUP g
    s.writeAct w ag .casGrpCtl v 0 = s.atOrder ag .casGrpCycle (fun y => y.groupGo g) := by
  intro v
  have go : wordFld v fCasGrpCtl_GO = 1 :=
    (wordFld_wordPut_apart _ _ _ _ (by decide)).trans (wordWith_one _ _ _ _ (by decide))
  have group : wordFld v fCasGrpCtl_GROUP = g := (wordFld_wordPut_self _ _ _ (by decide)).trans (Nat.mod_eq_of_lt hg)
  show s.doIf (wordFld v fCasGrpCtl_GO == 1)
    (fun s => s.atOrder ag .casGrpCycle (fun s => s.groupGo (wordFld v fCasGrpCtl_GROUP))) = _
  rw [doIf_wordFld go, group]

/-- A command to a line master. -/
theorem lmOCtl_next {s : State} {dt ag l : Nat} (c : Nat) (hc : c < 2 ^ 3)
    (h : (s.elapse dt).accepts ag (.lmOCtl l) ((s.elapse dt).wordWith ag (.lmOCtl l) fLmOCtl_CMD c)) :
    (.next (((s.elapse dt).order ag (.lmOCtl l) fLmOCtl_CMD c).inTimeOf (s.elapse dt)) : Out) =
      .next (((s.elapse dt).accepted ag (.lmOCtl l) ((s.elapse dt).wordWith ag (.lmOCtl l) fLmOCtl_CMD c)
        (fun x => x.lmCtlAct l c)).inTimeOf (s.elapse dt)) :=
  order_field (g := fun c x => x.lmCtlAct l c) c (by decide) hc h (fun _ _ _ => rfl)

/-- Settles O46: the orders of MV_CTL, CHG_CTL and FOL_CTL at the cycle they name, the start of a group, writes of the cam
descriptors and of the cam store, and the commands of a line master. -/
theorem completeMoves : Obligations.CompleteMoves :=
  ⟨fun _ _ _ _ h => write_next 0 h (atOrder_congr fun u =>
      mvCtlAct_push u _ (wordWith_one _ _ _ _ (by decide)) (wordWith_zero rfl)),
    fun _ _ _ _ h => write_next 0 h (atOrder_congr fun u =>
      mvCtlAct_flush u _ (wordWith_zero rfl) (wordWith_one _ _ _ _ (by decide))),
    fun _ _ _ _ h => order_when fAxsChgCtl_APPLY (by decide) h (fun _ _ _ => rfl),
    fun _ _ _ _ h => folOrder_next 1 (by decide) h, fun _ _ _ _ h => folOrder_next 2 (by decide) h,
    fun _ _ _ _ h => folOrder_next 3 (by decide) h,
    fun _ _ _ _ h => write_next 0 h (atOrder_congr fun u =>
      folCtlAct_cancel u _ (wordWith_zero rfl) (wordWith_one _ _ _ _ (by decide))),
    fun _ _ _ _ hg h => write_next 0 h (grpCtl_act _ _ _ _ hg),
    fun _ _ _ _ _ h => write_next 0 h rfl, fun _ _ _ h => rowIf_next _ _ _ _ h,
    fun _ _ _ v _ hi lo hu h8 hc => next_congr (slot_mirrored v.toNat hi (by omega) h8 (mirroredMem_cam lo hu) hc),
    fun _ _ _ _ h => lmOCtl_next 1 (by decide) h, fun _ _ _ _ h => lmOCtl_next 3 (by decide) h,
    fun _ _ _ _ h => lmOCtl_next 4 (by decide) h,
    fun _ _ _ _ _ h => write_next 0 h rfl, fun _ _ _ h => rowIf_next _ _ _ _ h⟩

/-! ### Stops and homing -/

/-- A word of HM_CTL that starts homing and aborts none. -/
theorem hmCtlAct_start (s : State) (n : Nat) {v : Word48} (start : wordFld v fAxsHmCtl_START = 1)
    (abort : wordFld v fAxsHmCtl_ABORT = 0) : s.hmCtlAct n v = s.homeOrder n := by
  unfold State.hmCtlAct
  dsimp only
  rw [doIf_wordFld_zero abort, doIf_wordFld start]

/-- A word of HM_CTL that aborts homing and starts none. -/
theorem hmCtlAct_abort (s : State) (n : Nat) {v : Word48} (start : wordFld v fAxsHmCtl_START = 0)
    (abort : wordFld v fAxsHmCtl_ABORT = 1) : s.hmCtlAct n v = s.homeAbortOrder n := by
  unfold State.hmCtlAct
  dsimp only
  rw [doIf_wordFld abort, doIf_wordFld_zero start]

/-- Settles O47: events with their conditions, a clear by its bit, and the two orders of HM_CTL at the cycle they name. -/
theorem completeStops : Obligations.CompleteStops :=
  ⟨fun _ _ _ h => rowIf_next _ _ _ _ h, fun _ _ _ h => rowIf_next _ _ _ _ h, fun _ _ _ h => rowIf_next _ _ _ _ h,
    fun _ _ _ _ h => rowIf_next _ _ _ _ h, fun _ _ _ _ h => rowIf_next _ _ _ _ h,
    fun _ _ _ _ h => order_when fAxsLimStat_CLR (by decide) h (fun _ _ _ => rfl),
    fun _ _ _ _ h => write_next 0 h (atOrder_congr fun u =>
      hmCtlAct_start u _ (wordWith_one _ _ _ _ (by decide)) (wordWith_zero rfl)),
    fun _ _ _ _ h => write_next 0 h (atOrder_congr fun u =>
      hmCtlAct_abort u _ (wordWith_zero rfl) (wordWith_one _ _ _ _ (by decide))),
    fun _ _ _ _ _ => rfl, fun _ _ _ h => rowIf_next _ _ _ _ h, fun _ _ _ h => rowIf_next _ _ _ _ h⟩

/-! ### Latches -/

/-- What a word of LAT_CTL does: latch 0 first, each armed before it is disarmed. -/
theorem latCtlAct_eq (s : State) (c : Nat) (v : Word48) :
    s.latCtlAct c v =
      ((((s.doIf (wordFld v (fEncLatCtl_ARM 0) == 1) (fun s => s.latchArm c 0)).doIf
        (wordFld v (fEncLatCtl_DISARM 0) == 1) (fun s => s.latchDisarm c 0)).doIf
        (wordFld v (fEncLatCtl_ARM 1) == 1) (fun s => s.latchArm c 1)).doIf
        (wordFld v (fEncLatCtl_DISARM 1) == 1) (fun s => s.latchDisarm c 1)) := rfl

/-- The word that arms one latch arms that one. -/
theorem latCtl_arm (s t : State) (ag c : Nat) {l : Nat} (hl : l < 2) :
    s.latCtlAct c (t.wordWith ag (.encLatCtl c) (fEncLatCtl_ARM l) 1) = s.latchArm c l := by
  rw [latCtlAct_eq]
  have hl : l = 0 ∨ l = 1 := by omega
  rcases hl with rfl | rfl <;>
    rw [doIf_wordFld (wordWith_one _ _ _ _ (by decide)), doIf_wordFld_zero (wordWith_zero rfl),
      doIf_wordFld_zero (wordWith_zero rfl), doIf_wordFld_zero (wordWith_zero rfl)]

/-- The word that disarms one latch disarms that one. -/
theorem latCtl_disarm (s t : State) (ag c : Nat) {l : Nat} (hl : l < 2) :
    s.latCtlAct c (t.wordWith ag (.encLatCtl c) (fEncLatCtl_DISARM l) 1) = s.latchDisarm c l := by
  rw [latCtlAct_eq]
  have hl : l = 0 ∨ l = 1 := by omega
  rcases hl with rfl | rfl <;>
    rw [doIf_wordFld (wordWith_one _ _ _ _ (by decide)), doIf_wordFld_zero (wordWith_zero rfl),
      doIf_wordFld_zero (wordWith_zero rfl), doIf_wordFld_zero (wordWith_zero rfl)]

/-- Settles O48: the events of the encoder channels, two clears by their bits, and the arming and disarming of a latch. -/
theorem completeFeedback : Obligations.CompleteFeedback :=
  ⟨fun _ _ _ _ _ => rfl, fun _ _ _ _ => rfl, fun _ _ _ h => rowIf_next _ _ _ _ h,
    fun _ _ _ _ h => rowIf_next _ _ _ _ h, fun _ _ _ _ => rfl, fun _ _ _ => rfl, fun _ _ _ => rfl,
    fun _ _ _ _ h => order_when fAxsFbStat_CHK_CLR (by decide) h (fun _ _ _ => rfl),
    fun _ _ _ _ _ hl h => write_next 0 h (latCtl_arm _ _ _ _ hl),
    fun _ _ _ _ _ hl h => write_next 0 h (latCtl_disarm _ _ _ _ hl),
    fun _ _ _ _ _ _ h => rowIf_next _ _ _ _ h,
    fun _ _ _ _ h => order_when fEncErr_CLR (by decide) h (fun _ _ _ => rfl)⟩

/-! ### Timer channels and groups -/

/-- What a word of SG[g].CTL does: trips first, then the enable, a commit and a precharge. -/
theorem sgCtlAct_eq (s : State) (g : Nat) (was : Bool) (v : Word48) :
    s.sgCtlAct g was v =
      (((let u := s.doIf (wordFld v fSgCtl_TRIP_CLR == 1) (fun s => s.tripClr g)
        if wordFld v fSgCtl_EN == 1 then u.sgEnable g else if was then u.sgDisable g else u).doIf
        (wordFld v fSgCtl_COMMIT == 1) (fun s => s.sgCommit g)).doIf
        (wordFld v fSgCtl_PRECHARGE == 1) (fun s => s.sgPrecharge g)) := rfl

/-- A word that clears no trips. -/
theorem sgCtlAct_noClr (s : State) (g : Nat) (was : Bool) {v : Word48} (clr : wordFld v fSgCtl_TRIP_CLR = 0) :
    s.sgCtlAct g was v =
      ((if wordFld v fSgCtl_EN == 1 then s.sgEnable g else if was then s.sgDisable g else s).doIf
        (wordFld v fSgCtl_COMMIT == 1) (fun s => s.sgCommit g)).doIf
        (wordFld v fSgCtl_PRECHARGE == 1) (fun s => s.sgPrecharge g) := by
  rw [sgCtlAct_eq, doIf_wordFld_zero clr]

/-- The word that orders a commit, with the enable as it stands in it. -/
theorem sgCtl_commit (s t : State) (ag g : Nat) (was : Bool) :
    let v := t.wordWith ag (.sgCtl g) fSgCtl_COMMIT 1
    s.sgCtlAct g was v = (if wordFld v fSgCtl_EN == 1 then s.sgEnable g else if was then s.sgDisable g else s).sgCommit g := by
  intro v
  rw [sgCtlAct_noClr s g was (wordWith_zero rfl), doIf_wordFld (f := fSgCtl_COMMIT) (wordWith_one _ _ _ _ (by decide)),
    doIf_wordFld_zero (wordWith_zero rfl)]

/-- The word that orders a precharge, with the enable as it stands in it. -/
theorem sgCtl_precharge (s t : State) (ag g : Nat) (was : Bool) :
    let v := t.wordWith ag (.sgCtl g) fSgCtl_PRECHARGE 1
    s.sgCtlAct g was v = (if wordFld v fSgCtl_EN == 1 then s.sgEnable g else if was then s.sgDisable g else s).sgPrecharge g := by
  intro v
  rw [sgCtlAct_noClr s g was (wordWith_zero rfl), doIf_wordFld_zero (f := fSgCtl_COMMIT) (wordWith_zero rfl),
    doIf_wordFld (wordWith_one _ _ _ _ (by decide))]

/-- The word that writes the enable alone. -/
theorem sgCtl_enable (s t : State) (ag g n : Nat) (was : Bool) :
    let v := t.wordWith ag (.sgCtl g) fSgCtl_EN n
    s.sgCtlAct g was v = if wordFld v fSgCtl_EN == 1 then s.sgEnable g else if was then s.sgDisable g else s := by
  intro v
  rw [sgCtlAct_noClr s g was (wordWith_zero rfl), doIf_wordFld_zero (f := fSgCtl_COMMIT) (wordWith_zero rfl),
    doIf_wordFld_zero (wordWith_zero rfl)]

/-- The word that sets the enable. -/
theorem sgCtl_on (s t : State) (ag g : Nat) (was : Bool) :
    s.sgCtlAct g was (t.wordWith ag (.sgCtl g) fSgCtl_EN 1) = s.sgEnable g := by
  rw [sgCtl_enable, wordWith_one _ _ _ _ (by decide)]
  rfl

/-- The word that clears the enable. -/
theorem sgCtl_off (s t : State) (ag g : Nat) (was : Bool) :
    s.sgCtlAct g was (t.wordWith ag (.sgCtl g) fSgCtl_EN 0) = if was then s.sgDisable g else s := by
  rw [sgCtl_enable, wordWith_self _ _ _ _ _ (by decide)]
  rfl

/-- The word that clears the trips, with the enable as it stands in it. -/
theorem sgCtl_tripClr (s t : State) (ag g : Nat) (was : Bool) :
    let v := t.wordWith ag (.sgCtl g) fSgCtl_TRIP_CLR 1
    s.sgCtlAct g was v =
      if wordFld v fSgCtl_EN == 1 then (s.tripClr g).sgEnable g else if was then (s.tripClr g).sgDisable g else s.tripClr g := by
  intro v
  rw [sgCtlAct_eq, doIf_wordFld (f := fSgCtl_TRIP_CLR) (wordWith_one _ _ _ _ (by decide)),
    doIf_wordFld_zero (f := fSgCtl_COMMIT) (wordWith_zero rfl), doIf_wordFld_zero (wordWith_zero rfl)]

/-- A write of a shadow register of a timer channel stages that shadow. -/
theorem shadow_act (s w : State) (ag n : Nat) {which : Nat} (hw : which ≤ 2) (v : Word48) :
    s.writeAct w ag (tcShadow which n) v 0 = s.shadowWritten n which := by
  obtain rfl | rfl | rfl : which = 0 ∨ which = 1 ∨ which = 2 := by omega
  · rfl
  · rfl
  · rfl

/-- Settles O49: the events of channels, groups and sigma-delta inputs, the staging of a shadow, the orders of SG[g].CTL with the
enable their word carries, and three orders by one bit. -/
theorem completePwm : Obligations.CompletePwm :=
  ⟨fun _ _ _ h => rowIf_next _ _ _ _ h, fun _ _ _ _ _ _ hw h => write_next 0 h (shadow_act _ _ _ _ hw _),
    fun _ _ _ _ h => order_when fTcCtl_COMMIT (by decide) h (fun _ _ _ => rfl),
    fun _ _ _ _ h => write_next 0 h (sgCtl_commit _ _ _ _ _), fun _ _ _ => rfl,
    fun _ _ _ h => rowIf_next _ _ _ _ h, fun _ _ _ _ h => write_next 0 h (sgCtl_on _ _ _ _ _),
    fun _ _ _ _ h => write_next 0 h (sgCtl_off _ _ _ _ _), fun _ _ _ h => rowIf_next _ _ _ _ h,
    fun _ _ _ _ h => write_next 0 h (sgCtl_precharge _ _ _ _ _),
    fun _ _ _ h => rowIf_next _ _ _ _ h, fun _ _ _ h => rowIf_next _ _ _ _ h, fun _ _ _ h => rowIf_next _ _ _ _ h,
    fun _ _ _ _ => rfl, fun _ _ _ _ => rfl, fun _ _ _ h => rowIf_next _ _ _ _ h,
    fun _ _ _ h => rowIf_next _ _ _ _ h, fun _ _ _ _ h => write_next 0 h (sgCtl_tripClr _ _ _ _ _),
    fun _ _ _ _ h => rowIf_next _ _ _ _ h, fun _ _ _ _ h => rowIf_next _ _ _ _ h, fun _ _ _ => rfl,
    fun _ _ _ _ h => order_when fCmpStat_ST_CMD (by decide) h (fun _ _ _ => rfl),
    fun _ _ _ _ h => rowIf_next _ _ _ _ h, fun _ _ _ _ h => order_when fTcStat_CLR (by decide) h (fun _ _ _ => rfl)⟩

end Sys2Proof.Machine
end

section
/-! PROOFS. What commands complete with: twin heads, time, Mirage, Spout's jobs, cores and Sluice, Oasis, the ports; reads that
act, and the register windows whose action goes by several fields. -/
namespace Sys2Proof.Machine

/-- A command that reads one register other than DISPATCH completes with the accepted read, its action written out. -/
theorem read_next {s : State} {dt ag : Nat} {r : Reg} {v : Word48} {u : State} (hd : r.name ≠ .coreDispatch)
    (h : (s.elapse dt).readable ag r) (act : ((s.elapse dt).settleReg r).readAct ag r = (v, u)) :
    (.next (((s.elapse dt).slot ag r.addr none 0).inTimeOf (s.elapse dt)) : Out) =
      .next ((u.readBack ag r v).inTimeOf (s.elapse dt)) := by
  have hn : isDispatch r.addr = false := by
    rw [isDispatch_addr r h.2.1, beq_eq_false_iff_ne]
    exact hd
  rw [slot_read _ _ _ _ h hn, act]

/-! ### Cold start and twin heads -/

/-- A word of TWN.CTL that arms a handover alone. -/
theorem twnCtlAct_handover (s : State) {v : Word48} (clr : wordFld v fTwnCtl_CNT_CLR = 0)
    (handover : wordFld v fTwnCtl_HANDOVER = 1) (resync : wordFld v fTwnCtl_RESYNC = 0) :
    s.twnCtlAct v = s.handoverArm := by
  unfold State.twnCtlAct
  dsimp only
  rw [doIf_wordFld_zero clr, doIf_wordFld handover, doIf_wordFld_zero resync]

/-- A word of TWN.CTL that orders a resync alone. -/
theorem twnCtlAct_resync (s : State) {v : Word48} (clr : wordFld v fTwnCtl_CNT_CLR = 0)
    (handover : wordFld v fTwnCtl_HANDOVER = 0) (resync : wordFld v fTwnCtl_RESYNC = 1) : s.twnCtlAct v = s.resync := by
  unfold State.twnCtlAct
  dsimp only
  rw [doIf_wordFld_zero clr, doIf_wordFld_zero handover, doIf_wordFld resync]

/-- A word of TWN.CTL that clears the counters alone. -/
theorem twnCtlAct_cntClr (s : State) {v : Word48} (clr : wordFld v fTwnCtl_CNT_CLR = 1)
    (handover : wordFld v fTwnCtl_HANDOVER = 0) (resync : wordFld v fTwnCtl_RESYNC = 0) : s.twnCtlAct v = s.twinCntClr := by
  unfold State.twnCtlAct
  dsimp only
  rw [doIf_wordFld clr, doIf_wordFld_zero handover, doIf_wordFld_zero resync]

/-- Settles O50: the events of cold start and of the head links, the retry by its bit, and the three orders of TWN.CTL at the
cycle they name. -/
theorem completeTwin : Obligations.CompleteTwin :=
  ⟨fun _ _ h => rowIf_next _ _ _ _ h, fun _ _ h => rowIf_next _ _ _ _ h, fun _ _ _ h => rowIf_next _ _ _ _ h,
    fun _ _ h => rowIf_next _ _ _ _ h, fun _ _ _ h => order_when fNetCsCtl_RETRY (by decide) h (fun _ _ _ => rfl),
    fun _ _ => rfl, fun _ _ _ h => rowIf_next _ _ _ _ h, fun _ _ _ h => rowIf_next _ _ _ _ h,
    fun _ _ h => rowIf_next _ _ _ _ h, fun _ _ h => rowIf_next _ _ _ _ h, fun _ _ => rfl,
    fun _ _ h => rowIf_next _ _ _ _ h, fun _ _ => rfl, fun _ _ h => rowIf_next _ _ _ _ h,
    fun _ _ h => rowIf_next _ _ _ _ h, fun _ _ h => rowIf_next _ _ _ _ h, fun _ _ h => rowIf_next _ _ _ _ h,
    fun _ _ => rfl, fun _ _ => rfl, fun _ _ _ h => rowIf_next _ _ _ _ h,
    fun _ _ _ h => write_next 0 h (atOrder_congr fun u =>
      twnCtlAct_handover u (wordWith_zero rfl) (wordWith_one _ _ _ _ (by decide)) (wordWith_zero rfl)),
    fun _ _ h => rowIf_next _ _ _ _ h, fun _ _ h => rowIf_next _ _ _ _ h,
    fun _ _ _ h => write_next 0 h (atOrder_congr fun u =>
      twnCtlAct_resync u (wordWith_zero rfl) (wordWith_zero rfl) (wordWith_one _ _ _ _ (by decide))),
    fun _ _ _ h => rowIf_next _ _ _ _ h, fun _ _ => rfl,
    fun _ _ _ h => write_next 0 h (atOrder_congr fun u =>
      twnCtlAct_cntClr u (wordWith_one _ _ _ _ (by decide)) (wordWith_zero rfl) (wordWith_zero rfl))⟩

/-! ### Time -/

/-- A word of TT[i].CTL that arms the comparator. -/
theorem ttCtlAct_arm (s : State) (i : Nat) {v : Word48} (arm : wordFld v fTtCtl_ARM = 1) (disarm : wordFld v fTtCtl_DISARM = 0) :
    s.ttCtlAct i v = (s.ttHold i).ttArm i := by
  unfold State.ttCtlAct
  dsimp only
  rw [doIf_wordFld arm, doIf_wordFld_zero disarm]

/-- A word of TT[i].CTL that disarms the comparator. -/
theorem ttCtlAct_disarm (s : State) (i : Nat) {v : Word48} (arm : wordFld v fTtCtl_ARM = 0)
    (disarm : wordFld v fTtCtl_DISARM = 1) : s.ttCtlAct i v = (s.ttHold i).ttDisarm i := by
  unfold State.ttCtlAct
  dsimp only
  rw [doIf_wordFld_zero arm, doIf_wordFld disarm]

/-- Settles O51: the events of the clock domains and comparators, a post and a clear by their bits, the read that takes the head
stamp, and the two orders of a comparator. -/
theorem completeTime : Obligations.CompleteTime :=
  ⟨fun _ _ _ _ h => order_when fDomMCtl_POST (by decide) h (fun _ _ _ => rfl), fun _ _ _ h => rowIf_next _ _ _ _ h,
    fun _ _ h => rowIf_next _ _ _ _ h, fun _ _ h => rowIf_next _ _ _ _ h, fun _ _ h => rowIf_next _ _ _ _ h,
    fun _ _ _ h => read_next nofun h rfl,
    fun _ _ _ h => order_when fTimTsqStat_CLR (by decide) h (fun _ _ _ => rfl),
    fun _ _ _ _ h => write_next 0 h (ttCtlAct_arm _ _ (wordWith_one _ _ _ _ (by decide)) (wordWith_zero rfl)),
    fun _ _ _ _ h => write_next 0 h (ttCtlAct_disarm _ _ (wordWith_zero rfl) (wordWith_one _ _ _ _ (by decide))),
    fun _ _ => rfl, fun _ _ _ h => rowIf_next _ _ _ _ h⟩

/-! ### Mirage -/

/-- An event whose condition holds takes its effect. -/
theorem when_true {s : State} {can : State → Bool} (f : State → State) (h : can s = true) : s.when can f = f s := if_pos h

/-- A tick at which a channel samples. -/
theorem mirSampled_due {s : State} {c pins : Nat} (h : ((s.setBalls pins).mirSettle c).mirSampleDue c = true) :
    s.mirSampled c pins = ((s.setBalls pins).mirSettle c).mirSample c := if_pos h

/-- The end of a hold. -/
theorem mirHoldEnd_due {s : State} {c n : Nat} (h : (s.mir c).holdTo = some n) (hn : n ≤ s.now) :
    s.mirHoldEnd c =
      (s.setMir c { s.mir c with holdTo := none }).when (fun s => s.mirMayPre c) (fun s => s.mirToPre c) := by
  unfold State.mirHoldEnd
  rw [h]
  exact if_pos hn

/-- The word that stages a ring length carries it. -/
theorem ringCtl_act (s w : State) (ag c : Nat) {len : Nat} (hl : len < 2 ^ 18) :
    s.writeAct w ag (.mirRingCtl c) (wordPut (wordPut 0 fMirRingCtl_LEN_NEW len) fMirRingCtl_STAGE 1) 0 = s.ringStage c len := by
  have stage : wordFld (wordPut (wordPut 0 fMirRingCtl_LEN_NEW len) fMirRingCtl_STAGE 1) fMirRingCtl_STAGE = 1 :=
    wordFld_wordPut_self _ _ _ (by decide)
  have new : wordFld (wordPut (wordPut 0 fMirRingCtl_LEN_NEW len) fMirRingCtl_STAGE 1) fMirRingCtl_LEN_NEW = len := by
    rw [wordFld_wordPut_apart _ _ _ _ (by decide), wordFld_wordPut_self _ _ _ (by decide)]
    exact Nat.mod_eq_of_lt hl
  show s.doIf (wordFld _ fMirRingCtl_STAGE == 1) (fun s => s.ringStage c (wordFld _ fMirRingCtl_LEN_NEW)) = _
  rw [doIf_wordFld stage, new]

/-- What a word of MIR[c].CTL that clears no counters orders. -/
theorem mirCtlAct_order (s : State) (c : Nat) {v : Word48} (clr : wordFld v fMirCtl_CNT_CLR = 0)
    (some' : (wordFld v fMirCtl_ARM == 1 || wordFld v fMirCtl_DISARM == 1 || wordFld v fMirCtl_FORCE_TRIG == 1) = true) :
    s.mirCtlAct c v =
      s.mirOrder c (wordFld v fMirCtl_ARM == 1) (wordFld v fMirCtl_DISARM == 1) (wordFld v fMirCtl_FORCE_TRIG == 1) := by
  unfold State.mirCtlAct
  dsimp only
  rw [doIf_wordFld_zero clr, if_pos some']

/-- The word that arms a channel. -/
theorem mirCtl_arm (s t : State) (ag c : Nat) :
    s.mirCtlAct c (t.wordWith ag (.mirCtl c) fMirCtl_ARM 1) = s.mirOrder c true false false := by
  have arm := wordWith_one t ag (.mirCtl c) fMirCtl_ARM (by decide)
  have disarm : wordFld (t.wordWith ag (.mirCtl c) fMirCtl_ARM 1) fMirCtl_DISARM = 0 := wordWith_zero rfl
  have force : wordFld (t.wordWith ag (.mirCtl c) fMirCtl_ARM 1) fMirCtl_FORCE_TRIG = 0 := wordWith_zero rfl
  rw [mirCtlAct_order s c (wordWith_zero rfl) (by rw [arm]; rfl), arm, disarm, force]
  rfl

/-- The word that disarms a channel. -/
theorem mirCtl_disarm (s t : State) (ag c : Nat) :
    s.mirCtlAct c (t.wordWith ag (.mirCtl c) fMirCtl_DISARM 1) = s.mirOrder c false true false := by
  have arm : wordFld (t.wordWith ag (.mirCtl c) fMirCtl_DISARM 1) fMirCtl_ARM = 0 := wordWith_zero rfl
  have disarm := wordWith_one t ag (.mirCtl c) fMirCtl_DISARM (by decide)
  have force : wordFld (t.wordWith ag (.mirCtl c) fMirCtl_DISARM 1) fMirCtl_FORCE_TRIG = 0 := wordWith_zero rfl
  rw [mirCtlAct_order s c (wordWith_zero rfl) (by rw [arm, disarm]; rfl), arm, disarm, force]
  rfl

/-- The word that forces a trigger. -/
theorem mirCtl_force (s t : State) (ag c : Nat) :
    s.mirCtlAct c (t.wordWith ag (.mirCtl c) fMirCtl_FORCE_TRIG 1) = s.mirOrder c false false true := by
  have arm : wordFld (t.wordWith ag (.mirCtl c) fMirCtl_FORCE_TRIG 1) fMirCtl_ARM = 0 := wordWith_zero rfl
  have disarm : wordFld (t.wordWith ag (.mirCtl c) fMirCtl_FORCE_TRIG 1) fMirCtl_DISARM = 0 := wordWith_zero rfl
  have force := wordWith_one t ag (.mirCtl c) fMirCtl_FORCE_TRIG (by decide)
  rw [mirCtlAct_order s c (wordWith_zero rfl) (by rw [arm, disarm, force]; rfl), arm, disarm, force]
  rfl

/-- The word that clears a channel's counters orders nothing else. -/
theorem mirCtl_cntClr (s t : State) (ag c : Nat) :
    s.mirCtlAct c (t.wordWith ag (.mirCtl c) fMirCtl_CNT_CLR 1) = s.mirCntClr c := by
  have arm : wordFld (t.wordWith ag (.mirCtl c) fMirCtl_CNT_CLR 1) fMirCtl_ARM = 0 := wordWith_zero rfl
  have disarm : wordFld (t.wordWith ag (.mirCtl c) fMirCtl_CNT_CLR 1) fMirCtl_DISARM = 0 := wordWith_zero rfl
  have force : wordFld (t.wordWith ag (.mirCtl c) fMirCtl_CNT_CLR 1) fMirCtl_FORCE_TRIG = 0 := wordWith_zero rfl
  unfold State.mirCtlAct
  dsimp only
  rw [doIf_wordFld (wordWith_one _ _ _ _ (by decide)), if_neg (by rw [arm, disarm, force]; decide)]

/-- Settles O52: the events of a channel after the orders due at it have taken effect, the staging of a ring, the four orders of
CTL, and a write of a mask's configuration, which orders nothing. -/
theorem completeMirage : Obligations.CompleteMirage :=
  ⟨fun _ _ _ _ h => next_congr (mirSampled_due h), fun _ _ _ h => next_congr (when_true _ h),
    fun _ _ _ _ _ hl h => write_next 0 h (ringCtl_act _ _ _ _ hl),
    fun _ _ _ _ h => write_next 0 h (mirCtl_arm _ _ _ _), fun _ _ _ _ h => write_next 0 h (mirCtl_disarm _ _ _ _),
    fun _ _ _ _ h => write_next 0 h (mirCtl_force _ _ _ _),
    fun _ _ _ _ h hn => next_congr (mirHoldEnd_due h hn), fun _ _ _ h => next_congr (when_true _ h),
    fun _ _ _ _ h => next_congr (when_true _ h), fun _ _ _ h => next_congr (when_true _ h),
    fun _ _ _ h => rowIf_next _ _ _ _ h, fun _ _ _ h => next_congr (when_true _ h), fun _ _ _ => rfl,
    fun _ _ _ _ h => write_next 0 h (mirCtl_cntClr _ _ _ _), fun _ _ _ _ _ h => write_next 0 h rfl⟩

/-! ### Spout's jobs -/

/-- The answer to the access a job waits for. -/
theorem sptExtAnswer_waits {s : State} {t : Nat} {j : SptJob} {e : SptExt} (deny : Bool) (hj : s.sptExtJob t = some j)
    (he : j.ext = some e) :
    let x := if e.load then s.read32 11 e.addr else s.write32 11 e.addr e.data
    s.sptExtAnswer t deny =
      if deny then s.sptRespond t cDEFERRED 0 else x.sptRespond t (x.agent 11).code (x.agent 11).data := by
  have h : (s.sptExtJob t).bind (fun j => j.ext) = some e := by rw [hj, Option.bind_some, he]
  unfold State.sptExtAnswer
  rw [h]

/-- Settles O53: the events of Spout's jobs, the two orders by one bit, the answer to a job's access, and a write of a program
word; that a word written whole holds no error any more is the model's choice (log entry 103). -/
theorem completeSpout : Obligations.CompleteSpout :=
  ⟨fun _ _ _ h => order_when fSptSubGo_GO (by decide) h (fun _ _ _ => rfl), fun _ _ h => rowIf_next _ _ _ _ h,
    fun _ _ h => rowIf_next _ _ _ _ h, fun _ _ h => rowIf_next _ _ _ _ h,
    fun _ _ deny _ _ _ hj he => next_congr (sptExtAnswer_waits deny hj he),
    fun _ _ _ h => order_when fSptCntClr_CLR (by decide) h (fun _ _ _ => rfl),
    fun _ _ _ v _ hi lo _ h8 hc =>
      next_congr (slot_unmirrored v.toNat hi (by omega) h8 (mirroredMem_above (by omega)) hc)⟩

/-! ### Cores, Sluice, mailboxes, locks, doorbells -/

/-- A read of DISPATCH by the core it belongs to waits unanswered. -/
theorem slot_dispatch {s : State} {ag k : Nat} (h : s.readable ag (.coreDispatch k)) :
    s.slot ag (Reg.coreDispatch k).addr none 0 = s.dispatchRead k := by
  obtain ⟨hi, hm, hr⟩ := h
  have hd : isDispatch (Reg.coreDispatch k).addr = true := by rw [isDispatch_addr _ hm]; rfl
  have e : s.regRead ag (.coreDispatch k) = (cOK, slotBits (.coreDispatch k) 0, s.dispatchRead k) := by
    have hs : s.settleReg (.coreDispatch k) = s := rfl
    rw [hs] at hr
    unfold State.regRead
    simp [hs, hr, lowestCode, State.readAct]
  rw [slot_eq s ag _ none 0 hi hm, access8_read s ag _ 0 hm, e]
  simp [hd]

/-- The word of DONE that blocks a task. -/
def blockWord (mask : Nat) (all : Bool) : Word48 :=
  wordPut (wordPut (wordPut 0 fCoreDone_OP 2) fCoreDone_WAIT_MODE (b2n all)) fCoreDone_WAIT_MASK mask

/-- The word of DONE that blocks a task carries what it waits for. -/
theorem doneAct_block (s : State) (k : Nat) {mask : Nat} (all : Bool) (hm : mask < 2 ^ 32) :
    s.doneAct k (blockWord mask all) = s.doneBlock k mask all := by
  have op : wordFld (blockWord mask all) fCoreDone_OP = 2 := by
    rw [blockWord, wordFld_wordPut_apart _ _ _ _ (by decide), wordFld_wordPut_apart _ _ _ _ (by decide),
      wordFld_wordPut_self _ _ _ (by decide)]
    rfl
  have mode : (wordFld (blockWord mask all) fCoreDone_WAIT_MODE == 1) = all := by
    rw [blockWord, wordFld_wordPut_apart _ _ _ _ (by decide), wordFld_wordPut_self _ _ _ (by decide)]
    cases all <;> rfl
  have masked : wordFld (blockWord mask all) fCoreDone_WAIT_MASK = mask := by
    rw [blockWord, wordFld_wordPut_self _ _ _ (by decide)]
    exact Nat.mod_eq_of_lt hm
  unfold State.doneAct
  rw [op, mode, masked]
  rfl

/-- The word of DONE that completes a task. -/
theorem doneAct_complete (s t : State) (ag k : Nat) :
    s.doneAct k (t.wordWith ag (.coreDone k) fCoreDone_OP 1) = s.doneComplete k := by
  unfold State.doneAct
  rw [wordWith_self _ _ _ _ _ (by decide)]
  rfl

/-- The word of DONE that yields. -/
theorem doneAct_yield (s t : State) (ag k : Nat) :
    s.doneAct k (t.wordWith ag (.coreDone k) fCoreDone_OP 3) = s.doneYield k := by
  unfold State.doneAct
  rw [wordWith_self _ _ _ _ _ (by decide)]
  rfl

/-- The word of WAIT carries whether the agent waits. -/
theorem boxWait_act (s t w : State) (ag n : Nat) (wait : Bool) :
    s.writeAct w ag (.mbWait n) (t.wordWith ag (.mbWait n) fMbWait_WAIT (b2n wait)) 0 = s.boxWait ag n wait := by
  have hw : (wordFld (t.wordWith ag (.mbWait n) fMbWait_WAIT (b2n wait)) fMbWait_WAIT == 1) = wait := by
    rw [wordWith_self _ _ _ _ _ (by decide)]
    cases wait <;> rfl
  show s.boxWait ag n (wordFld _ fMbWait_WAIT == 1) = _
  rw [hw]

/-- Settles O55: the events of cores and mailboxes, the reads that act, the orders of DONE by their word, the flags and
doorbells by the bits they carry, and the writes of posts, boxes and locks. -/
theorem completeSluice : Obligations.CompleteSluice :=
  ⟨fun _ _ _ _ h => next_congr (slot_dispatch h), fun _ _ _ => rfl, fun _ _ _ => rfl,
    fun _ _ _ _ h => write_next 0 h (doneAct_complete _ _ _ _),
    fun _ _ _ _ all _ hm h => write_next 0 h (doneAct_block _ _ all hm),
    fun _ _ _ _ h => write_next 0 h (doneAct_yield _ _ _ _), fun _ _ _ => rfl,
    fun _ _ t bits _ hb h => order_field (g := fun b x => x.setTaskFlags t b) bits (by decide) hb h (fun _ _ _ => rfl),
    fun _ _ t bits _ hb h => order_field
      (g := fun b x => x.setFld (.taskFlags t) fTaskFlags_FLAGS (x.fld (.taskFlags t) fTaskFlags_FLAGS -
        Nat.land (x.fld (.taskFlags t) fTaskFlags_FLAGS) b)) bits (by decide) hb h (fun _ _ _ => rfl),
    fun _ _ _ _ h => write_next 0 h rfl, fun _ _ _ _ on h => write_when fSluCvnCtl_STAGE on h (fun _ _ => rfl),
    fun _ _ _ h => rowIf_next _ _ _ _ h, fun _ _ _ h => rowIf_next _ _ _ _ h,
    fun _ _ _ _ _ on h => write_when fCoreWdog_KICK on h (fun _ _ => rfl), fun _ _ _ _ _ h => write_next 0 h rfl,
    fun _ _ _ _ _ h => write_next 0 h rfl, fun _ _ _ _ h => read_next nofun h rfl, fun _ _ _ => rfl,
    fun _ _ _ wait _ h => write_next 0 h (boxWait_act _ _ _ _ _ wait), fun _ _ => rfl,
    fun _ _ _ _ h => read_next nofun h rfl, fun _ _ _ _ _ h => write_next 0 h rfl, fun _ _ _ _ _ h => write_next 0 h rfl,
    fun _ _ a bits _ hb h => order_field (g := fun b x => x.ring a b) bits (by decide) hb h (fun _ _ _ => rfl),
    fun _ _ a bits _ hb h => order_field (g := fun b x => x.unring a b) bits (by decide) hb h (fun _ _ _ => rfl)⟩

/-! ### Oasis and the ports -/

/-- A word of PWD_CTL that presents a password and clears none. -/
theorem pwdCtlAct_present (s : State) {v : Word48} (present : wordFld v fOasPwdCtl_PRESENT = 1)
    (clear : wordFld v fOasPwdCtl_CLEAR = 0) : s.pwdCtlAct v = s.pwdPresent (wordFld v fOasPwdCtl_LEN) := by
  unfold State.pwdCtlAct
  dsimp only
  rw [doIf_wordFld_zero clear, doIf_wordFld present]

/-- A word of PWD_CTL that clears and presents nothing. -/
theorem pwdCtlAct_clear (s : State) {v : Word48} (present : wordFld v fOasPwdCtl_PRESENT = 0)
    (clear : wordFld v fOasPwdCtl_CLEAR = 1) : s.pwdCtlAct v = s.setPwdOk false := by
  unfold State.pwdCtlAct
  dsimp only
  rw [doIf_wordFld clear, doIf_wordFld_zero present]

/-- Settles O56: the events of Oasis with their conditions, a zone's write, the two orders of PWD_CTL and a clear by its bit. -/
theorem completeOasis : Obligations.CompleteOasis :=
  ⟨fun _ _ _ _ _ _ _ h => rowIf_next _ _ _ _ h, fun _ _ _ h => rowIf_next _ _ _ _ h,
    fun _ _ _ h => rowIf_next _ _ _ _ h, fun _ _ _ _ _ h => rowIf_next _ _ _ _ h,
    fun _ _ _ h => rowIf_next _ _ _ _ h, fun _ _ _ h => rowIf_next _ _ _ _ h, fun _ _ _ h => rowIf_next _ _ _ _ h,
    fun _ _ h => rowIf_next _ _ _ _ h, fun _ _ h => rowIf_next _ _ _ _ h, fun _ _ _ => rfl, fun _ _ => rfl,
    fun _ _ _ h => rowIf_next _ _ _ _ h, fun _ _ _ _ _ h => write_next 0 h rfl,
    fun _ _ _ _ present clear h => write_next 0 h (pwdCtlAct_present _ present clear),
    fun _ _ _ h => write_next 0 h (pwdCtlAct_clear _ (wordWith_zero rfl) (wordWith_one _ _ _ _ (by decide))),
    fun _ _ h => rowIf_next _ _ _ _ h, fun _ _ h => rowIf_next _ _ _ _ h,
    fun _ _ _ _ h => order_when fSlsStat_CLR (by decide) h (fun _ _ _ => rfl)⟩

/-- Settles O57: the transactions of the ports and of the TAP, the events with their conditions, the posts by their words and two
clears by one bit. -/
theorem completePorts : Obligations.CompletePorts :=
  ⟨fun _ _ _ _ _ _ h => rowIf_next _ _ _ _ h, fun _ _ _ h => rowIf_next _ _ _ _ h, fun _ _ _ => rfl,
    fun _ _ h => rowIf_next _ _ _ _ h, fun _ _ _ _ h => rowIf_next _ _ _ _ h, fun _ _ _ _ _ h => write_next 0 h rfl,
    fun _ _ _ _ _ h => write_next 0 h rfl, fun _ _ _ _ h => rowIf_next _ _ _ _ h,
    fun _ _ _ _ _ _ _ h => rowIf_next _ _ _ _ h, fun _ _ _ h => rowIf_next _ _ _ _ h, fun _ _ _ _ => rfl,
    fun _ _ _ _ => rfl, fun _ _ _ _ => rfl, fun _ _ _ _ => rfl, fun _ _ => rfl, fun _ _ _ _ _ _ => rfl,
    fun _ _ _ h => order_when fHstSpiIrq_VLOG_CLR (by decide) h (fun _ _ _ => rfl),
    fun _ _ _ _ _ h => rowIf_next _ _ _ _ h, fun _ _ _ _ _ h => write_next 0 h rfl,
    fun _ _ _ _ h => rowIf_next _ _ _ _ h, fun _ _ _ _ => rfl,
    fun _ _ _ _ h => order_when fEthStat_CLR (by decide) h (fun _ _ _ => rfl), fun _ _ => rfl, fun _ _ _ => rfl,
    fun _ _ => rfl, fun _ _ => rfl, fun _ _ => rfl, fun _ _ => rfl, fun _ _ => rfl, fun _ _ => rfl,
    fun _ _ _ _ _ h => rowIf_next _ _ _ _ h, fun _ _ _ _ => rfl, fun _ _ => rfl, fun _ _ => rfl⟩

end Sys2Proof.Machine
end

section
/-! PROOFS. Spout's instructions (R560 to R566): what the word of each does to the running job, and what each command completes
with. -/
namespace Sys2Proof.Machine

/-! ### What a word does, one equation per opcode -/

section
variable {s : State} {j : SptJob} {w : Nat}

/-- A word of NOP leaves the context. -/
theorem sptData_nop (h : sptOp w = opNOP) : s.sptData j w = .next j [] := by
  rw [State.sptData, h]
  rfl

/-- A word of LD reads memory. -/
theorem sptData_ld (h : sptOp w = opLD) : s.sptData j w = s.sptMem j w true := by
  rw [State.sptData, h]
  rfl

/-- A word of ST writes memory. -/
theorem sptData_st (h : sptOp w = opST) : s.sptData j w = s.sptMem j w false := by
  rw [State.sptData, h]
  rfl

/-- A word of LDI carries the value. -/
theorem sptData_ldi (h : sptOp w = opLDI) :
    s.sptData j w =
      .next ((j.setD (bitsOf w 19 3) (sgn 16 w * 2 ^ 8)).nz (sgn 16 w * 2 ^ 8)) [] := by
  rw [State.sptData, h]
  rfl

/-- A word of LPI carries the address. -/
theorem sptData_lpi (h : sptOp w = opLPI) :
    s.sptData j w =
      .next { j with p := j.p.set (bitsOf w 19 3) (bitsOf w 0 15) } [] := by
  rw [State.sptData, h]
  rfl

/-- A word of LDC loads a modifier or a pointer from P memory. -/
theorem sptData_ldc (h : sptOp w = opLDC) :
    s.sptData j w =
      .next (if bitOf w 25 then { j with m := j.m.set (bitsOf w 19 3) (s.sptWord 2 (bitsOf w 0 15)) }
        else { j with p := j.p.set (bitsOf w 19 3) (s.sptWord 2 (bitsOf w 0 15) % 2 ^ 15) }) [] := by
  rw [State.sptData, h]
  rfl

/-- A word of MPY sets an accumulator to the product. -/
theorem sptData_mpy (h : sptOp w = opMPY) :
    s.sptData j w =
      .next (j.setAcc (bitsOf w 24 2) (2 * getI j.d (bitsOf w 19 3) * getI j.d (bitsOf w 16 3))) [] := by
  rw [State.sptData, h]
  rfl

/-- A word of MAC adds the product. -/
theorem sptData_mac (h : sptOp w = opMAC) :
    s.sptData j w =
      .next (j.setAcc (bitsOf w 24 2)
        (getI j.acc (bitsOf w 24 2) + 2 * getI j.d (bitsOf w 19 3) * getI j.d (bitsOf w 16 3))) [] := by
  rw [State.sptData, h]
  rfl

/-- A word of MSU takes the product away. -/
theorem sptData_msu (h : sptOp w = opMSU) :
    s.sptData j w =
      .next (j.setAcc (bitsOf w 24 2)
        (getI j.acc (bitsOf w 24 2) - 2 * getI j.d (bitsOf w 19 3) * getI j.d (bitsOf w 16 3))) [] := by
  rw [State.sptData, h]
  rfl

/-- A word of MXY multiplies with two loads. -/
theorem sptData_mxy (h : sptOp w = opMXY) : s.sptData j w = s.sptMx j w false := by
  rw [State.sptData, h]
  rfl

/-- A word of MXP multiplies with three loads. -/
theorem sptData_mxp (h : sptOp w = opMXP) : s.sptData j w = s.sptMx j w true := by
  rw [State.sptData, h]
  rfl

/-- A word of CLR clears an accumulator. -/
theorem sptData_clr (h : sptOp w = opCLR) : s.sptData j w = .next (j.setAcc (bitsOf w 24 2) 0) [] := by
  rw [State.sptData, h]
  rfl

/-- A word of SETA sets an accumulator from a data register. -/
theorem sptData_seta (h : sptOp w = opSETA) :
    s.sptData j w =
      .next (j.setAcc (bitsOf w 24 2) (getI j.d (bitsOf w 19 3) * 2 ^ 24)) [] := by
  rw [State.sptData, h]
  rfl

/-- A word of ADDA adds accumulators. -/
theorem sptData_adda (h : sptOp w = opADDA) :
    s.sptData j w =
      .next (j.setAcc (bitsOf w 22 2) (getI j.acc (bitsOf w 22 2) + getI j.acc (bitsOf w 24 2))) [] := by
  rw [State.sptData, h]
  rfl

/-- A word of SUBA subtracts accumulators. -/
theorem sptData_suba (h : sptOp w = opSUBA) :
    s.sptData j w =
      .next (j.setAcc (bitsOf w 22 2) (getI j.acc (bitsOf w 22 2) - getI j.acc (bitsOf w 24 2))) [] := by
  rw [State.sptData, h]
  rfl

/-- A word of ASH shifts an accumulator left, or right with the reduction. -/
theorem sptData_ash (h : sptOp w = opASH) :
    s.sptData j w =
      (let y := j.red (getI j.acc (bitsOf w 24 2)) (-(sgn 6 w)) 56
        if 0 ≤ sgn 6 w then .next (j.setAcc (bitsOf w 24 2) (getI j.acc (bitsOf w 24 2) * 2 ^ (sgn 6 w).toNat)) []
        else .next (y.2.setAcc (bitsOf w 24 2) y.1) []) := by
  rw [State.sptData, h]
  rfl

/-- A word of ABSA takes the magnitude. -/
theorem sptData_absa (h : sptOp w = opABSA) :
    s.sptData j w =
      .next (j.setAcc (bitsOf w 24 2) ((getI j.acc (bitsOf w 24 2)).natAbs : Int)) [] := by
  rw [State.sptData, h]
  rfl

/-- A word of RND reduces by the shift it carries. -/
theorem sptData_rnd (h : sptOp w = opRND) : s.sptData j w = sptRnd j w (24 + (bitsOf w 0 6 : Int)) := by
  rw [State.sptData, h]
  rfl

/-- A word of RNDS reduces by the block scale. -/
theorem sptData_rnds (h : sptOp w = opRNDS) : s.sptData j w = sptRnd j w (24 + (j.sc : Int)) := by
  rw [State.sptData, h]
  rfl

/-- A word of PKD keeps the greater accumulator with the loop index at which it came. -/
theorem sptData_pkd (h : sptOp w = opPKD) :
    s.sptData j w =
      if getI j.acc (bitsOf w 22 2) < getI j.acc (bitsOf w 24 2) then
        .next ((j.setAcc (bitsOf w 22 2) (getI j.acc (bitsOf w 24 2))).setD (bitsOf w 19 3)
          (match j.loops with | i :: _ => (i.idx : Int) | [] => 0)) []
      else .next j [] := by
  rw [State.sptData, h]
  rfl

/-- A word of BFLY computes the butterfly. -/
theorem sptData_bfly (h : sptOp w = opBFLY) : s.sptData j w = s.sptBfly j := by
  rw [State.sptData, h]
  rfl

/-- A word of BSCL sets the block scale from the headroom. -/
theorem sptData_bscl (h : sptOp w = opBSCL) :
    s.sptData j w =
      .next { j with sc := 2 - j.bex, exp := j.exp + (2 - j.bex), bex := 23 } [] := by
  rw [State.sptData, h]
  rfl

/-- A word of BCLR clears the block scale. -/
theorem sptData_bclr (h : sptOp w = opBCLR) : s.sptData j w = .next { j with bex := 23, sc := 0, exp := 0 } [] := by
  rw [State.sptData, h]
  rfl

/-- A word of ADDP moves a pointer where the update stays in its buffer. -/
theorem sptData_addp {q : Nat} (hq : sptUpd (getN j.p (bitsOf w 19 3)) (getN j.m (bitsOf w 16 3)) = some q) (h : sptOp w = opADDP) :
    s.sptData j w = .next { j with p := j.p.set (bitsOf w 19 3) q } [] := by
  rw [State.sptData, h, hq]
  rfl

end

/-! ### How an instruction takes effect -/

section
variable {s : State} {op : Nat} {ecc : Bool} {j : SptJob} {w : Nat}

/-- An instruction that writes one register, with no error on its reads. -/
theorem sptRunData_one {t : Nat} {r : SptRes} (hn : s.sptNow op = some (j, w)) (he : s.sptEcc j w ecc = false)
    (one : op ≠ opMXP ∧ op ≠ opPKD) (ht : sptTicks j op w = t) (act : sptOp w = op → s.sptData j w = r) :
    s.sptRunData op ecc = s.sptTake t r := by
  have ho := sptNow_op hn
  have h2 : sptTwo j w = false := by
    unfold sptTwo
    dsimp only
    rw [ho, beq_eq_false_iff_ne.2 one.1, beq_eq_false_iff_ne.2 one.2]
    rfl
  unfold State.sptRunData
  rw [hn]
  dsimp only
  rw [he, h2, if_neg Bool.false_ne_true, if_neg Bool.false_ne_true, ht, act ho]

/-- An instruction that writes two registers leaves N and Z free (log entry 68). -/
theorem sptRunData_two {t : Nat} {k : SptJob} {l : SptW} (hn : s.sptNow op = some (j, w)) (he : s.sptEcc j w ecc = false)
    (two : sptTwo j w = true) (ht : sptTicks j op w = t) (act : sptOp w = op → s.sptData j w = .next k l) :
    s.sptRunData op ecc =
      (s.takeFree 2).2.sptTake t (.next { k with n := bitOf (s.takeFree 2).1 0, z := bitOf (s.takeFree 2).1 1 } l) := by
  unfold State.sptRunData
  rw [hn]
  dsimp only
  rw [he, two, if_neg Bool.false_ne_true, if_pos rfl, ht, act (sptNow_op hn)]

/-- MXP writes two registers. -/
theorem sptTwo_mxp (h : sptOp w = opMXP) : sptTwo j w = true := by
  rw [sptTwo, h]
  rfl

/-- PKD writes two registers where the new accumulator is the greater one. -/
theorem sptTwo_pkd (h : sptOp w = opPKD) :
    sptTwo j w = decide (getI j.acc (bitsOf w 22 2) < getI j.acc (bitsOf w 24 2)) := by
  rw [sptTwo, h]
  exact Bool.false_or _

/-- MXP. -/
theorem sptRun_mxp {k : SptJob} {l : SptW} (hn : s.sptNow opMXP = some (j, w)) (he : s.sptEcc j w ecc = false)
    (hk : s.sptMx j w true = .next k l) :
    s.sptRunData opMXP ecc =
      (s.takeFree 2).2.sptTake 1 (.next { k with n := bitOf (s.takeFree 2).1 0, z := bitOf (s.takeFree 2).1 1 } l) :=
  sptRunData_two hn he (sptTwo_mxp (sptNow_op hn)) rfl (fun h => (sptData_mxp h).trans hk)

/-- PKD: a greater value is taken with its loop index, another leaves the context. -/
theorem sptRun_pkd (hn : s.sptNow opPKD = some (j, w)) (he : s.sptEcc j w ecc = false) :
    let y := s.takeFree 2
    let k := (j.setAcc (bitsOf w 22 2) (getI j.acc (bitsOf w 24 2))).setD (bitsOf w 19 3)
      (match j.loops with | i :: _ => (i.idx : Int) | [] => 0)
    s.sptRunData opPKD ecc =
      if getI j.acc (bitsOf w 22 2) < getI j.acc (bitsOf w 24 2) then
        y.2.sptTake 1 (.next { k with n := bitOf y.1 0, z := bitOf y.1 1 } [])
      else s.sptTake 1 (.next j []) := by
  intro y k
  have h := sptNow_op hn
  have h2 := sptTwo_pkd (j := j) h
  by_cases hc : getI j.acc (bitsOf w 22 2) < getI j.acc (bitsOf w 24 2)
  · rw [if_pos hc]
    exact sptRunData_two hn he (h2.trans (decide_eq_true hc)) rfl (fun h => (sptData_pkd h).trans (if_pos hc))
  · rw [if_neg hc]
    unfold State.sptRunData
    rw [hn]
    dsimp only
    rw [he, h2, decide_eq_false hc, if_neg Bool.false_ne_true, if_neg Bool.false_ne_true, sptData_pkd h, if_neg hc]
    rfl

/-- REP. -/
theorem sptRun_rep {k : SptJob} {l : SptW} (hn : s.sptNow opREP = some (j, w)) (he : s.sptEcc j w ecc = false)
    (hk : s.sptRep j w = .next k l) :
    let q := { k with pc := (k.pc + 1) % 2 ^ 15, used := k.used + 1 }
    s.sptRunRep ecc = (s.sptCharge k.task 1).setSpout { s.spout with run := some q, at_ := s.now } := by
  unfold State.sptRunRep
  rw [hn]
  dsimp only
  rw [he, if_neg Bool.false_ne_true, hk]

/-- DO. -/
theorem sptRun_do {k : SptJob} {l : SptW} (hn : s.sptNow opDO = some (j, w)) (he : s.sptEcc j w ecc = false)
    (hk : s.sptDo j w = .next k l) :
    let q := { k with pc := (k.pc + 1) % 2 ^ 15, used := k.used + 2 }
    s.sptRunDo ecc = ((s.sptCharge k.task 2).setSpout { s.spout with run := some q, at_ := s.now }).sptPoint := by
  unfold State.sptRunDo
  rw [hn]
  dsimp only
  rw [he, if_neg Bool.false_ne_true, hk]

/-- The ticks of a branch tell whether it is taken. -/
theorem sptTicks_b (j : SptJob) (w : Nat) : sptTicks j opB w = if sptCond j (bitsOf w 23 3) then 3 else 1 := rfl

/-- B. -/
theorem sptRun_b (hn : s.sptNow opB = some (j, w)) (he : s.sptEcc j w ecc = false) :
    let k := bitsOf w 0 15
    let q := { j with pc := k, loops := loopsAfter k j.loops, used := j.used + 3 }
    s.sptRunB ecc =
      if sptCond j (bitsOf w 23 3) then ((s.sptCharge j.task 3).setSpout { s.spout with run := some q, at_ := s.now }).sptPoint
      else s.sptTake 1 (.next j []) := by
  unfold State.sptRunB
  rw [hn]
  dsimp only
  rw [he, if_neg Bool.false_ne_true, sptTicks_b]
  by_cases hc : sptCond j (bitsOf w 23 3) = true
  · rw [if_pos hc, if_pos hc]
    rfl
  · rw [if_neg hc, if_neg hc]
    rfl

/-- HALT. -/
theorem sptRun_halt (hn : s.sptNow opHALT = some (j, w)) (he : s.sptEcc j w ecc = false) :
    s.sptRunHalt ecc = s.sptTake 2 (.stop j 0 0 (bitsOf w 0 8) 0) := by
  unfold State.sptRunHalt
  rw [hn]
  dsimp only
  rw [he, if_neg Bool.false_ne_true]

/-- An illegal word. -/
theorem sptRun_illegal (hn : s.sptNow 0 = some (j, w)) (he : s.sptEcc j w ecc = false) :
    s.sptRunIllegal ecc = s.sptTake 0 (.stop j 4 0 0 0) := by
  unfold State.sptRunIllegal
  rw [hn]
  dsimp only
  rw [he, if_neg Bool.false_ne_true, sptIll]

/-- LDE and STE issue their access with the pointers updated in turn; STE takes its word at once (log entry 68). -/
theorem sptRun_issue {load : Bool} {q i : Nat} (hn : s.sptNow (if load then opLDE else opSTE) = some (j, w))
    (he : s.sptEcc j w ecc = false) (hin : sptIn (bitsOf w 14 2) (getN j.p (bitsOf w 11 3)) = true)
    (hq : sptUpd (getN j.p (bitsOf w 11 3)) (getN j.m (bitsOf w 8 3)) = some q)
    (hi : sptUpd (getN (j.p.set (bitsOf w 11 3) q) (bitsOf w 19 3)) (getN j.m (bitsOf w 16 3)) = some i) :
    let y := getN j.p (bitsOf w 11 3)
    let e : SptExt := { addr := (j.eb + 4 * getN j.p (bitsOf w 19 3)) % 2 ^ 32, load := load, space := bitsOf w 14 2, word := y,
                        data := s.sptWord (bitsOf w 14 2) y, p := (j.p.set (bitsOf w 11 3) q).set (bitsOf w 19 3) i }
    s.sptIssue load ecc = s.setSpout { s.spout with run := some { j with ext := some e }, at_ := s.now } := by
  have ho : (j.operand (bitsOf w 11 3) (bitsOf w 8 3)).2 = some (j.p.set (bitsOf w 11 3) q) := by
    unfold SptJob.operand
    rw [hq]
    rfl
  have hi' : sptIn (bitsOf w 14 2) (j.operand (bitsOf w 11 3) (bitsOf w 8 3)).1 = true := hin
  unfold State.sptIssue
  rw [hn]
  dsimp only
  rw [he, if_neg Bool.false_ne_true, hi', if_neg (by decide), ho]
  dsimp only
  rw [hi]
  rfl

end

/-- Settles O54: each data instruction by the equation of its word, REP, DO, B and HALT by their own steps, and the two external
accesses. That MXP and PKD leave N and Z free and that STE takes its word when it is issued is the model's choice
(log entry 68). -/
theorem completeSpoutInstr : Obligations.CompleteSpoutInstr :=
  ⟨fun _ _ _ _ _ hn he => next_congr (sptRunData_one hn he (by decide) rfl sptData_nop),
    fun _ _ _ _ _ hn he => next_congr (sptRunData_one hn he (by decide) rfl sptData_ld),
    fun _ _ _ _ _ hn he => next_congr (sptRunData_one hn he (by decide) rfl sptData_st),
    fun _ _ _ _ _ hn he => next_congr (sptRunData_one hn he (by decide) rfl sptData_ldi),
    fun _ _ _ _ _ hn he => next_congr (sptRunData_one hn he (by decide) rfl sptData_lpi),
    fun _ _ _ _ _ hn he => next_congr (sptRunData_one hn he (by decide) rfl sptData_ldc),
    fun _ _ _ _ _ _ hn he hq => next_congr (sptRunData_one hn he (by decide) rfl (sptData_addp hq)),
    fun _ _ _ _ _ hn he => next_congr (sptRunData_one hn he (by decide) rfl sptData_mpy),
    fun _ _ _ _ _ hn he => next_congr (sptRunData_one hn he (by decide) rfl sptData_mac),
    fun _ _ _ _ _ hn he => next_congr (sptRunData_one hn he (by decide) rfl sptData_msu),
    fun _ _ _ _ _ hn he => next_congr (sptRunData_one hn he (by decide) rfl sptData_mxy),
    fun _ _ _ _ _ _ _ hn he hk => next_congr (sptRun_mxp hn he hk),
    fun _ _ _ _ _ hn he => next_congr (sptRunData_one hn he (by decide) rfl sptData_clr),
    fun _ _ _ _ _ hn he => next_congr (sptRunData_one hn he (by decide) rfl sptData_seta),
    fun _ _ _ _ _ hn he => next_congr (sptRunData_one hn he (by decide) rfl sptData_adda),
    fun _ _ _ _ _ hn he => next_congr (sptRunData_one hn he (by decide) rfl sptData_suba),
    fun _ _ _ _ _ hn he => next_congr (sptRunData_one hn he (by decide) rfl sptData_ash),
    fun _ _ _ _ _ hn he => next_congr (sptRunData_one hn he (by decide) rfl sptData_absa),
    fun _ _ _ _ _ hn he => next_congr (sptRunData_one hn he (by decide) rfl sptData_rnd),
    fun _ _ _ _ _ hn he => next_congr (sptRunData_one hn he (by decide) rfl sptData_rnds),
    fun _ _ _ _ _ hn he => next_congr (sptRun_pkd hn he),
    fun _ _ _ _ _ hn he => next_congr (sptRunData_one hn he (by decide) rfl sptData_bfly),
    fun _ _ _ _ _ hn he => next_congr (sptRunData_one hn he (by decide) rfl sptData_bscl),
    fun _ _ _ _ _ hn he => next_congr (sptRunData_one hn he (by decide) rfl sptData_bclr),
    fun _ _ _ _ _ _ _ hn he hk => next_congr (sptRun_rep hn he hk),
    fun _ _ _ _ _ _ _ hn he hk => next_congr (sptRun_do hn he hk),
    fun _ _ _ _ _ hn he => next_congr (sptRun_b hn he),
    fun _ _ _ _ _ hn he => next_congr (sptRun_halt hn he),
    fun _ _ _ _ _ _ _ _ hn he hin hq hl hi => next_congr (by subst hl; exact sptRun_issue (load := true) hn he hin hq hi),
    fun _ _ _ _ _ _ _ _ hn he hin hq hl hi => next_congr (by subst hl; exact sptRun_issue (load := false) hn he hin hq hi),
    fun _ _ _ _ _ hn he => next_congr (sptRun_illegal hn he)⟩

end Sys2Proof.Machine
end

section
/-! PROOFS. Accesses of other sizes (R28, R575), and what the commands that access registers and memories complete with. -/
namespace Sys2Proof.Machine

/-- A read or write of n bytes, by kind. -/
theorem sized_access {s : State} {ag a n ty v : Nat} (ht : ty < 2) :
    s.sized ag a n ty v =
      if a % n ≠ 0 ∨ (a < 0x1000000 ∧ n < 4) then s.narrow ag a n ty
      else if a < 0x1000000 then
        if n = 4 then (if ty = 0 then s.read32 ag a else s.write32 ag a v)
        else s.slot ag a (if ty = 0 then none else some v) 0
      else if ty = 0 then s.memGet ag a n
      else s.memSlot ag a (leBytes n v) := by
  obtain rfl | rfl : ty = 0 ∨ ty = 1 := by omega
  · rfl
  · rfl

/-- An access that is not naturally aligned, or a short one to a register slot, is one the register space does not take. -/
theorem sized_narrow {s : State} {ag a n ty v : Nat} (ht : ty < 2) (h : a % n ≠ 0 ∨ (a < 0x1000000 ∧ n < 4)) :
    s.sized ag a n ty v = s.narrow ag a n ty := by
  rw [sized_access ht, if_pos h]

/-- An aligned access to the memory windows is one of its bytes. -/
theorem sized_memory {s : State} {ag a n ty v : Nat} (ht : ty < 2) (hn : a % n = 0) (ha : 0x1000000 ≤ a) :
    s.sized ag a n ty v = if ty = 0 then s.memGet ag a n else s.memSlot ag a (leBytes n v) := by
  have h1 : ¬ (a % n ≠ 0 ∨ (a < 0x1000000 ∧ n < 4)) := by omega
  rw [sized_access ht, if_neg h1, if_neg (Nat.not_lt.2 ha)]

/-- A fetch, an LR, and an SC or AMO. -/
theorem sized_core {s : State} {ag a n ty v : Nat} (lo : 2 ≤ ty) (hi : ty < 5) :
    s.sized ag a n ty v = if ty = 2 then s.fetch ag a else s.atomic ag a n (if ty = 3 then none else some v) := by
  obtain rfl | rfl | rfl : ty = 2 ∨ ty = 3 ∨ ty = 4 := by omega
  · rfl
  · rfl
  · rfl

/-- A register stands at every address of its slot. -/
theorem addrExists_slot {r : Reg} {a : Nat} (hr : r.addr = a / 8 * 8) (hm : r.mapped) : addrExists a = true := by
  obtain ⟨ha, -, ho⟩ := hm
  have hlt : a < 0x1000000 := by omega
  rw [addrExists, if_pos hlt, ← hr, ho]
  rfl

/-- An access that the register space does not take, at a register, but for a core's misaligned one (R28). -/
theorem narrow_register {s : State} {ag a n ty : Nat} {r : Reg} (hi : s.issues ag = true) (hr : r.addr = a / 8 * 8) (hm : r.mapped)
    (hc : a % n = 0 ∨ isCore ag = false) :
    s.narrow ag a n ty = s.answer ag a (if ty = 0 then tyRead else writeType ag) cACCESS 0 := by
  have hx : (decide (a % n ≠ 0) && isCore ag) = false := by rcases hc with h | h <;> simp [h]
  unfold State.narrow
  rw [hi, hx, addrExists_slot hr hm]
  rfl

/-- A core's misaligned access raises an exception (R575). -/
theorem narrow_misaligned {s : State} {ag a n ty : Nat} (hi : s.issues ag = true) (hc : isCore ag = true) (hn : a % n ≠ 0) :
    s.narrow ag a n ty = s.misaligned ag (if ty = 0 then tyRead else tyWrite) := by
  unfold State.narrow
  simp [hi, hc, hn]

/-- Settles O36: a register write, the four halves of a slot, the forms of a narrow access, and the write a live bank refuses.
That a high word answered from the latch notes no epoch and that a misaligned or short access answers ACCESS is the model's
choice (log entry 85), as are the use of the staged word (log entry 84) and a core's fetches and atomics (log entry 16). -/
theorem completeAccess : Obligations.CompleteAccess := by
  refine ⟨?write, ?lowRead, ?highRead, ?lowWrite, ?highWrite, ?register, ?misaligned, ?memory, ?core, ?liveBank⟩
  case write =>
    rintro dt ag _ v s t₁ r rfl h
    rw [exec_registerWrite, busWrite_accepted _ _ _ _ h]
  case lowRead =>
    rintro dt ag _ s t₁ r rfl hd h
    have ⟨hi, ⟨ha, h8, _⟩, _⟩ := h
    rw [exec_lowWordRead, read32_low hi ha h8, lowRead_readable h hd]
  case highRead =>
    intro dt ag a s t₁ n hi ha h8 hl
    rw [exec_highWordRead, read32_high hi ha h8, highRead_latched hl]
  case lowWrite =>
    rintro dt ag _ w s t₁ r hi rfl hm
    have ⟨ha, h8, _⟩ := hm
    rw [exec_lowWordWrite, write32_low hi ha h8, lowWrite_mapped _ ag w hm]
  case highWrite =>
    rintro dt ag _ w s t₁ r n hi rfl hm hs
    have ⟨ha, h8, _⟩ := hm
    rw [exec_highWordWrite, write32_high hi ha h8, highWrite_staged w hm hs]
  case register =>
    intro dt ag a n ty v s t₁ r hi hr hm ht hn hc
    have ha : a < 0x1000000 := by
      have := hm.1
      omega
    exact next_congr ((sized_narrow ht (hn.imp_right fun h => ⟨ha, h⟩)).trans (narrow_register hi hr hm hc))
  case misaligned =>
    intro dt ag a n ty v s t₁ hi hc ht hn
    exact next_congr ((sized_narrow ht (Or.inl hn)).trans (narrow_misaligned hi hc hn))
  case memory =>
    intro dt ag a n ty v s t₁ ht hn ha
    exact next_congr (sized_memory ht hn ha)
  case core =>
    intro dt ag a n ty v s t₁ lo hi
    exact next_congr (sized_core lo hi)
  case liveBank =>
    intro dt ag a v s t₁ hi lo hu h8 hb
    exact next_congr (slot_liveBank v.toNat 0 hi (Or.inl h8) ⟨lo, hu, hb⟩)

end Sys2Proof.Machine
end

section
/-! PROOFS. The reads that act (R522, R582, R598, R603): what an accepted read leaves of the other registers, and the statements
about locks, mailboxes, DISPATCH and the queue of stamps. -/
namespace Sys2Proof.Machine

/-! ### What an accepted read answers and leaves -/

theorem readBack_code (u : State) (ag : Nat) (r : Reg) (v : Word48) : ((u.readBack ag r v).agent ag).code = cOK :=
  answer_code ..

theorem readBack_data (u : State) (ag : Nat) (r : Reg) (v : Word48) : ((u.readBack ag r v).agent ag).data = slotBits r v :=
  answer_data ..

/-- An accepted read leaves every register above the epochs of R80 as the read's own effect does. -/
theorem readBack_reg (u : State) {ag : Nat} (r q : Reg) (v : Word48) (hag : ag < 32) (hq : 0x10000 ≤ q.addr) :
    (u.readBack ag r v).reg q = u.reg q := by
  have hne : q.addr ≠ (Reg.sysRspEpoch ag).addr := by
    have := rsp_low ag hag
    omega
  exact (answer_ok_reg _ ag r.addr tyRead _ q).trans (noteEpoch_reg u ag r q hne)

theorem readBack_fld (u : State) {ag : Nat} (r q : Reg) (v : Word48) (f : Fld) (hag : ag < 32) (hq : 0x10000 ≤ q.addr) :
    (u.readBack ag r v).fld q f = u.fld q f :=
  congrArg (wordFld · f) (readBack_reg u r q v hag hq)

/-- A number below 2 to the 48 is what an unsigned register's slot reads for it. -/
theorem slotBits_ofNat {r : Reg} (hr : r.signed = false) {n : Nat} (hn : n < 2 ^ 48) : slotBits r (BitVec.ofNat 48 n) = n := by
  unfold slotBits
  rw [hr]
  exact Nat.mod_eq_of_lt hn

/-! ### Locks (R603) -/

theorem addr_lkStat (n : Nat) : (Reg.lkStat n).addr = 0x122008 + n * 0x10 := rfl

/-- A read of a free lock gives it to the reader. -/
theorem lockRead_free {s : State} {n : Nat} (ag : Nat) (h : s.fld (.lkStat n) fLkStat_OWNER = 0) :
    s.lockRead ag n = (0, s.setFld (.lkStat n) fLkStat_OWNER ag) := if_pos h

/-- A read of a lock by its owner leaves it. -/
theorem lockRead_own {s : State} {ag n : Nat} (h : s.fld (.lkStat n) fLkStat_OWNER = ag) (h0 : ag ≠ 0) :
    s.lockRead ag n = (0, s) := by
  unfold State.lockRead
  dsimp only
  rw [h, if_neg h0, if_pos rfl]

/-- A read of another's lock answers the owner and counts. -/
theorem lockRead_other {s : State} {ag n : Nat} (h0 : s.fld (.lkStat n) fLkStat_OWNER ≠ 0)
    (h : s.fld (.lkStat n) fLkStat_OWNER ≠ ag) :
    s.lockRead ag n = (s.fld (.lkStat n) fLkStat_OWNER, s.incSat (.lkStat n) fLkStat_CONTEND) := by
  unfold State.lockRead
  dsimp only
  rw [if_neg h0, if_neg h]

/-- The read of a lock, as a command. -/
theorem exec_lockRead {dt ag n : Nat} {s : State} (hi : (s.elapse dt).issues ag = true) (hn : n < 64) :
    exec (.lockRead dt ag n) s =
      .next ((((s.elapse dt).lockRead ag n).2.readBack ag (.lk n) (BitVec.ofNat 48 ((s.elapse dt).lockRead ag n).1)).inTimeOf
        (s.elapse dt)) :=
  read_next nofun ⟨hi, mapped_lk hn, rfl⟩ rfl

/-- Settles O18: the read answers the lock's own word and notes an epoch elsewhere; the three cases are those of the lock. -/
theorem lockReadAcquiresAFreeLock : Obligations.LockReadAcquiresAFreeLock := by
  intro dt ag n s hi hn h1 hag o
  have hq : 0x10000 ≤ (Reg.lkStat n).addr := by rw [addr_lkStat]; omega
  have ho : o < 2 ^ 5 := wordFld_lt _ fLkStat_OWNER
  refine ⟨_, exec_lockRead hi hn, ?_, ?free, ?own, ?other⟩
  · rw [agent_inTimeOf, readBack_code]
  case free =>
    intro h
    rw [lockRead_free (s := s.elapse dt) ag h, agent_inTimeOf, fld_inTimeOf, readBack_data, readBack_fld _ _ _ _ _ hag hq]
    exact ⟨slotBits_ofNat rfl (by omega), (fld_setFld_self _ _ _ _ (by decide)).trans (Nat.mod_eq_of_lt hag)⟩
  case own =>
    intro h
    rw [lockRead_own (s := s.elapse dt) h (by omega), agent_inTimeOf, reg_inTimeOf, readBack_data, readBack_reg _ _ _ _ hag hq]
    exact ⟨slotBits_ofNat rfl (by omega), rfl⟩
  case other =>
    intro h0 h
    rw [lockRead_other (s := s.elapse dt) h0 h, agent_inTimeOf, fld_inTimeOf, fld_inTimeOf, readBack_data,
      readBack_fld _ _ _ _ _ hag hq, readBack_fld _ _ _ _ _ hag hq, fld_incSat_apart _ _ (by decide), fld_incSat_self _ _ (by decide)]
    exact ⟨slotBits_ofNat rfl (by show o < 2 ^ 48; omega), rfl, rfl⟩

/-! ### Mailboxes (R598) -/

theorem addr_mbData (n : Nat) : (Reg.mbData n).addr = 0x120000 + n * 0x40 := rfl
theorem addr_mbStat (n : Nat) : (Reg.mbStat n).addr = 0x120008 + n * 0x40 := rfl
theorem addr_mbWait (n : Nat) : (Reg.mbWait n).addr = 0x120018 + n * 0x40 := rfl

/-- MB[n].DATA stands in the map for the 64 boxes. -/
theorem mapped_mbData {n : Nat} (hn : n < 64) : (Reg.mbData n).mapped := by
  have hat : ∀ k < 64, Reg.ofAddr (Reg.mbData k).addr = some (.mbData k) := by decide +kernel
  have ha := addr_mbData n
  exact ⟨by omega, by omega, hat n hn⟩

/-- The read of a box, as a command. -/
theorem exec_mailboxRead (dt ag n : Nat) (s : State) :
    exec (.mailboxRead dt ag n) s = .next (((s.elapse dt).slot ag (Reg.mbData n).addr none 0).inTimeOf (s.elapse dt)) := rfl

/-- The read of a box by its receiver, as a command. -/
theorem exec_mailboxRead_receiver {dt ag n : Nat} {s : State} (hi : (s.elapse dt).issues ag = true) (hn : n < 64)
    (hr : s.fld (.mbCfg n) fMbCfg_RECEIVER = ag) :
    exec (.mailboxRead dt ag n) s =
      .next ((((s.elapse dt).boxRead n).readBack ag (.mbData n) ((s.elapse dt).shown ag (.mbData n))).inTimeOf (s.elapse dt)) :=
  read_next nofun ⟨hi, mapped_mbData hn, refuseIf_false cACCESS (bne_eq_false_iff_eq.2 hr)⟩ rfl

/-- What DATA reads is the word it holds. -/
theorem slotBits_mbData (s : State) (ag n : Nat) :
    slotBits (.mbData n) (s.shown ag (.mbData n)) = s.fld (.mbData n) fMbData_WORD := by
  show (s.reg (.mbData n)).toNat = (s.reg (.mbData n)).toNat / 2 ^ 0 % 2 ^ 48
  have := (s.reg (.mbData n)).isLt
  omega

/-- A box that is not full stays as it is when read. -/
theorem boxRead_empty {s : State} {n : Nat} (h : s.fld (.mbStat n) fMbStat_FULL = 0) : s.boxRead n = s :=
  if_neg (by rw [State.flag, h]; decide)

/-- A full box empties when read. -/
theorem boxRead_full {s : State} {n : Nat} (h : s.fld (.mbStat n) fMbStat_FULL = 1) :
    s.boxRead n =
      s.withMap (fun s => ((s.setFlag (.mbStat n) fMbStat_FULL false).setFlag (.mbStat n) fMbStat_EMPTY true).endWait n) :=
  if_pos (by rw [State.flag, h]; decide)

/-- The end of a wait leaves every register but the box's STAT and WAIT. -/
theorem endWait_reg (s : State) {n : Nat} {q : Reg} (h1 : q.addr ≠ (Reg.mbStat n).addr) (h2 : q.addr ≠ (Reg.mbWait n).addr) :
    (s.endWait n).reg q = s.reg q := by
  show ((s.setFld (.mbStat n) fMbStat_WAITER 0).setFld (.mbWait n) fMbWait_WAIT 0).reg q = _
  rw [reg_setFld_ne _ _ _ _ _ h2, reg_setFld_ne _ _ _ _ _ h1]

/-- The end of a wait leaves no waiter in STAT. -/
theorem endWait_stat (s : State) (n : Nat) :
    (s.endWait n).reg (.mbStat n) = wordPut (s.reg (.mbStat n)) fMbStat_WAITER 0 := by
  have hne : (Reg.mbStat n).addr ≠ (Reg.mbWait n).addr := by rw [addr_mbStat, addr_mbWait]; omega
  show ((s.setFld (.mbStat n) fMbStat_WAITER 0).setFld (.mbWait n) fMbWait_WAIT 0).reg (.mbStat n) = _
  rw [reg_setFld_ne _ _ _ _ _ hne]
  exact reg_setReg _ _ _

/-- The word of MB.STAT once a full box is read: empty, with no wait, and the rest as it was. -/
theorem boxRead_stat {s : State} {n : Nat} (h : s.fld (.mbStat n) fMbStat_FULL = 1) :
    (s.boxRead n).reg (.mbStat n) =
      wordPut (wordPut (wordPut (s.reg (.mbStat n)) fMbStat_FULL 0) fMbStat_EMPTY 1) fMbStat_WAITER 0 := by
  rw [boxRead_full h, withMap_reg, endWait_stat]
  unfold State.setFlag State.setFld
  rw [reg_setReg, reg_setReg]
  rfl

/-- A read of a box leaves its word. -/
theorem boxRead_data (s : State) (n : Nat) : (s.boxRead n).reg (.mbData n) = s.reg (.mbData n) := by
  have h1 : (Reg.mbData n).addr ≠ (Reg.mbStat n).addr := by rw [addr_mbData, addr_mbStat]; omega
  have h2 : (Reg.mbData n).addr ≠ (Reg.mbWait n).addr := by rw [addr_mbData, addr_mbWait]; omega
  unfold State.boxRead
  split
  · rw [withMap_reg, endWait_reg _ h1 h2]
    unfold State.setFlag
    rw [reg_setFld_ne _ _ _ _ _ h1, reg_setFld_ne _ _ _ _ _ h1]
  · rfl

/-- Settles O25: the receiver's read is accepted and empties a full box, any other agent's is refused. -/
theorem receiverReadEmptiesTheBox : Obligations.ReceiverReadEmptiesTheBox := by
  unfold Obligations.ReceiverReadEmptiesTheBox
  refine ⟨?receiver, ?other⟩
  case receiver =>
    intro dt ag n s hi hn hag hr
    have hd : 0x10000 ≤ (Reg.mbData n).addr := by rw [addr_mbData]; omega
    have hq : 0x10000 ≤ (Reg.mbStat n).addr := by rw [addr_mbStat]; omega
    refine ⟨_, exec_mailboxRead_receiver hi hn hr, ?_, ?_, ?_, ?full, ?empty⟩
    · rw [agent_inTimeOf, readBack_code]
    · rw [agent_inTimeOf, readBack_data, slotBits_mbData]
      rfl
    · rw [reg_inTimeOf, readBack_reg _ _ _ _ hag hd, boxRead_data]
      rfl
    case full =>
      intro hf
      have e := (readBack_reg ((s.elapse dt).boxRead n) (.mbData n) (.mbStat n) ((s.elapse dt).shown ag (.mbData n)) hag hq).trans
        (boxRead_stat hf)
      refine ⟨(congrArg (wordFld · _) e).trans ?_, (congrArg (wordFld · _) e).trans ?_, (congrArg (wordFld · _) e).trans ?_,
        (congrArg (wordFld · _) e).trans ?_⟩
      · rw [wordFld_wordPut_apart _ _ _ _ (by decide), wordFld_wordPut_apart _ _ _ _ (by decide),
          wordFld_wordPut_self _ _ _ (by decide)]
        rfl
      · rw [wordFld_wordPut_apart _ _ _ _ (by decide), wordFld_wordPut_self _ _ _ (by decide)]
        rfl
      · rw [wordFld_wordPut_self _ _ _ (by decide)]
        rfl
      · rw [wordFld_wordPut_apart _ _ _ _ (by decide), wordFld_wordPut_apart _ _ _ _ (by decide),
          wordFld_wordPut_apart _ _ _ _ (by decide)]
        rfl
    case empty =>
      intro hf
      rw [reg_inTimeOf, readBack_reg _ _ _ _ hag hq, boxRead_empty (s := s.elapse dt) hf]
      rfl
  case other =>
    intro dt ag n s hi hn hr
    have ha : (s.elapse dt).readRefuse ag (.mbData n) = [cACCESS] := refuseIf_true cACCESS (bne_iff_ne.2 hr)
    rw [exec_mailboxRead, slot_read_refused _ _ _ _ cACCESS hi (mapped_mbData hn) (by decide) (congrArg lowestCode ha)]
    rfl

end Sys2Proof.Machine
end

section
/-! PROOFS. A core's read of DISPATCH (R582) and the read that takes the head stamp of the queue (R522). -/
namespace Sys2Proof.Machine

/-! ### DISPATCH (R582) -/

/-- CORE[k].DISPATCH stands in the map for the eight cores. -/
theorem mapped_coreDispatch {k : Nat} (hk : k < 8) : (Reg.coreDispatch k).mapped := by
  have hat : ∀ i < 8, Reg.ofAddr (Reg.coreDispatch i).addr = some (.coreDispatch i) := by decide +kernel
  have ha : (Reg.coreDispatch k).addr = 0x118000 + k * 0x100 := rfl
  exact ⟨by omega, by omega, hat k hk⟩

theorem readRefuse_coreDispatch (s : State) (ag k : Nat) :
    s.readRefuse ag (.coreDispatch k) = refuseIf (ag != k + 1 || s.flag (.coreStat k) fCoreStat_HOLD) cACCESS := rfl

/-- A waiting read of DISPATCH is noted at its core and adds requests of unit 8: no agent's record changes. -/
theorem dispatchRead_agents (s : State) (k : Nat) : (s.dispatchRead k).agents = s.agents := by
  unfold State.dispatchRead
  refine each_pres State.agents _ _ (fun t u => ?_) _
  split <;> rfl

/-- A waiting read of DISPATCH changes the record of its core alone among the cores. -/
theorem dispatchRead_cores (s : State) (k : Nat) :
    (s.dispatchRead k).cores = (s.setCore k { s.core k with reading := some s.now }).cores := by
  unfold State.dispatchRead
  refine each_pres State.cores _ _ (fun t u => ?_) _
  split <;> rfl

theorem exec_dispatchRead (dt ag k : Nat) (s : State) :
    exec (.dispatchRead dt ag k) s = .next (((s.elapse dt).slot ag (Reg.coreDispatch k).addr none 0).inTimeOf (s.elapse dt)) := rfl

/-- Settles O26: HOLD is a one-bit field, so the refusal and the waiting read cover a core's own read. -/
theorem dispatchReadIsForItsOwnIdleCore : Obligations.DispatchReadIsForItsOwnIdleCore := by
  unfold Obligations.DispatchReadIsForItsOwnIdleCore
  refine ⟨?refused, ?waits⟩
  case refused =>
    intro dt ag k s hi hk h
    have hr : (s.elapse dt).readRefuse ag (.coreDispatch k) = [cACCESS] := by
      refine (readRefuse_coreDispatch _ ag k).trans (refuseIf_true cACCESS ?_)
      rcases h with h | h
      · rw [bne_iff_ne.2 h, Bool.true_or]
      · rw [State.flag, show (s.elapse dt).fld (.coreStat k) fCoreStat_HOLD = 1 from h]
        exact Bool.or_true _
    rw [exec_dispatchRead, slot_read_refused _ _ _ _ cACCESS hi (mapped_coreDispatch hk) (by decide) (congrArg lowestCode hr)]
    rfl
  case waits =>
    intro dt k s hi hk h
    have hr : (s.elapse dt).readRefuse (k + 1) (.coreDispatch k) = [] := by
      refine (readRefuse_coreDispatch _ _ k).trans (refuseIf_false cACCESS ?_)
      rw [bne_self_eq_false, State.flag, show (s.elapse dt).fld (.coreStat k) fCoreStat_HOLD = 0 from h]
      rfl
    rw [exec_dispatchRead, slot_dispatch ⟨hi, mapped_coreDispatch hk, hr⟩]
    refine ⟨_, rfl, ?_, ?_, ?_⟩
    · exact congrArg (tabGet {} · (k + 1)) (dispatchRead_agents (s.elapse dt) k)
    · exact sameMemory_of_mem (dispatchRead_mem (s.elapse dt) k)
    · show (tabGet {} ((s.elapse dt).dispatchRead k).cores k).reading = _
      rw [dispatchRead_cores, State.setCore, tabGet_tabSet_self]
      rfl

/-! ### The queue of stamps (R522) -/

theorem mapped_timTsqId : Reg.timTsqId.mapped := by
  have hat : Reg.ofAddr Reg.timTsqId.addr = some .timTsqId := by decide +kernel
  have ha : Reg.timTsqId.addr = 0x50200 := rfl
  exact ⟨by omega, by omega, hat⟩

/-- The read of TSQ_ID, as a command. -/
theorem exec_timestampRead {dt ag : Nat} {s : State} (hi : (s.elapse dt).issues ag = true) :
    exec (.timestampRead dt ag) s =
      .next (((s.elapse dt).tsqRead.2.readBack ag .timTsqId (BitVec.ofNat 48 (s.elapse dt).tsqRead.1)).inTimeOf
        (s.elapse dt)) :=
  read_next nofun ⟨hi, mapped_timTsqId, rfl⟩ rfl

/-- An accepted read leaves what the clocks hold as its own effect does. -/
theorem readBack_time (u : State) (ag : Nat) (r : Reg) (v : Word48) : (u.readBack ag r v).time = u.time := by
  unfold State.readBack State.noteEpoch
  rw [answer_ok]
  split <;> rfl

theorem time_inTimeOf (u t : State) : (u.inTimeOf t).time = u.time := rfl

/-- The head stamp is taken out of the queue and shown, with the number left. -/
theorem tsqRead_cons {s : State} {e : TsqE} {l : List TsqE} (h : s.time.tsq = e :: l) :
    s.tsqRead =
      (putBit e.id 29 true,
        ({ s with time := { s.time with tsq := l } }.setFld .timTsqStat fTimTsqStat_COUNT l.length).setReg .timTsqTime e.stamp) := by
  unfold State.tsqRead
  rw [h]

theorem tsqRead_nil {s : State} (h : s.time.tsq = []) : s.tsqRead = (0, s) := by
  unfold State.tsqRead
  rw [h]

/-- Settles O28: both reads are accepted, and their answers are those of the queue with and without a head. -/
theorem timestampReadTakesTheHeadEntry : Obligations.TimestampReadTakesTheHeadEntry := by
  unfold Obligations.TimestampReadTakesTheHeadEntry
  have ht : 0x10000 ≤ Reg.timTsqTime.addr := by decide
  have hs : 0x10000 ≤ Reg.timTsqStat.addr := by decide
  refine ⟨?head, ?empty⟩
  case head =>
    intro dt ag s e l hi hag hq
    rw [exec_timestampRead hi, tsqRead_cons (s := s.elapse dt) hq]
    refine ⟨_, rfl, ?_, ?_, ?_, ?_, ?_⟩
    · rw [agent_inTimeOf, readBack_code]
    · rw [agent_inTimeOf, readBack_data]
    · rw [time_inTimeOf, readBack_time]
      rfl
    · rw [reg_inTimeOf, readBack_reg _ _ _ _ hag ht]
      exact reg_setReg _ _ _
    · have hne : Reg.timTsqStat.addr ≠ Reg.timTsqTime.addr := by decide
      rw [fld_inTimeOf, readBack_fld _ _ _ _ _ hag hs]
      refine (congrArg (wordFld · _) (reg_setReg_ne _ _ _ _ hne)).trans ?_
      exact fld_setFld_self _ .timTsqStat fTimTsqStat_COUNT _ (by decide)
  case empty =>
    intro dt ag s hi hag hq
    rw [exec_timestampRead hi, tsqRead_nil (s := s.elapse dt) hq]
    refine ⟨_, rfl, ?_, ?_, ?_, ?_⟩
    · rw [agent_inTimeOf, readBack_code]
    · rw [agent_inTimeOf, readBack_data]
      exact slotBits_ofNat (n := 0) rfl (by decide)
    · rw [time_inTimeOf, readBack_time]
      exact hq
    · rw [reg_inTimeOf, readBack_reg _ _ _ _ hag ht]
      rfl

end Sys2Proof.Machine
end

section
/-! PROOFS. Resets and the clocks (R55, R56, R68, R69, R503), the key fuse (R670) and the die sensor (R683). -/
namespace Sys2Proof.Machine

/-! ### What a chip reset other than power-on leaves (R68) -/

/-- A cut flash operation writes no register. -/
theorem flashCut_regs (s : State) (p : Bool) : (s.flashCut p).regs = s.regs := by
  unfold State.flashCut
  split
  · rfl
  · split <;> rfl

theorem flashCut_reg (s : State) (p : Bool) (r : Reg) : (s.flashCut p).reg r = s.reg r :=
  congrArg (tabGet r.resetVal · r.addr) (flashCut_regs s p)

/-- The units after a chip reset whose cause is not power-on, before the cause is recorded. -/
def State.unitsCut (s : State) (cause : Nat) : State :=
  let s := s.flashCut (cause == rstRAIL)
  { State.reset with
    pending := s.pending
    now := s.now
    free := s.free
    mem := if cause == rstRAIL then [] else s.mem
    ecc := if cause == rstRAIL then [] else s.ecc
    flash := s.flash
    pins := s.pins
    encs := s.encs.map (fun p => (p.1, encPins p.2)) |>.filter (fun p => p.2 != {})
    time := { gpio := 0 }
    oas := { kept := s.oas.kept, clkBad := cause == rstCLOCK, last := s.now }
    host := hostKept s.host
    power := { aonSince := s.power.aonSince, since := s.power.since, downTo := s.power.downTo,
               railRestart := s.power.railRestart, rstLow := s.power.rstLow } }

/-- A chip reset whose cause is not power-on: the units start over, and three registers of the always-on domain are written. -/
theorem chipReset_eq (s : State) {cause : Nat} (h : cause ≠ rstPOR) :
    s.chipReset cause =
      (((s.unitsCut cause).setReg .sysPwrStat
          (BitVec.ofNat 48 (putBits ((s.flashCut (cause == rstRAIL)).regN .sysPwrStat) 16 7 0))).setReg .sysJetRetired
        ((s.flashCut (cause == rstRAIL)).reg .sysJetRetired)).setRegN .sysRstCause
          (2 ^ cause + 256 * satU 8 ((s.flashCut (cause == rstRAIL)).fld .sysRstCause fSysRstCause_COUNT + 1)) := by
  unfold State.chipReset
  rw [beq_eq_false_iff_ne.2 h]
  rfl

/-- Every register but RST_CAUSE, PWR_STAT and JET_RETIRED reads its reset value (R68). -/
theorem chipReset_reg (s : State) {cause : Nat} (h : cause ≠ rstPOR) {r : Reg} (h1 : r.addr ≠ Reg.sysRstCause.addr)
    (h2 : r.addr ≠ Reg.sysPwrStat.addr) (h3 : r.addr ≠ Reg.sysJetRetired.addr) :
    (s.chipReset cause).reg r = State.reset.reg r := by
  rw [chipReset_eq s h, State.setRegN, reg_setReg_ne _ _ _ _ h1, reg_setReg_ne _ _ _ _ h3, reg_setReg_ne _ _ _ _ h2]
  rfl

/-- JET_RETIRED survives. -/
theorem chipReset_jetRetired (s : State) {cause : Nat} (h : cause ≠ rstPOR) :
    (s.chipReset cause).reg .sysJetRetired = s.reg .sysJetRetired := by
  rw [chipReset_eq s h, State.setRegN, reg_setReg_ne _ _ _ _ (by decide), reg_setReg, flashCut_reg]

/-- RST_CAUSE reads the cause, and counts. -/
theorem chipReset_cause (s : State) {cause : Nat} (h : cause ≠ rstPOR) :
    (s.chipReset cause).reg .sysRstCause =
      BitVec.ofNat 48 (2 ^ cause + 256 * min 255 (s.fld .sysRstCause fSysRstCause_COUNT + 1)) := by
  rw [chipReset_eq s h, State.setRegN, reg_setReg, State.fld, flashCut_reg, satU_eq_min]
  rfl

/-- The chip is in reset, and the pin stands as it stood. -/
theorem chipReset_power (s : State) {cause : Nat} (h : cause ≠ rstPOR) : (s.chipReset cause).power.inReset = true := by
  rw [chipReset_eq s h]
  rfl

/-- The memories keep their bytes unless a rail failed. -/
theorem chipReset_mem (s : State) {cause : Nat} (h : cause ≠ rstPOR) (hr : cause ≠ rstRAIL) : (s.chipReset cause).mem = s.mem := by
  rw [chipReset_eq s h]
  show (if (cause == rstRAIL) = true then _ else (s.flashCut (cause == rstRAIL)).mem) = _
  rw [beq_eq_false_iff_ne.2 hr, if_neg Bool.false_ne_true, flashCut_mem]

/-- A field of the word RST_CAUSE takes. -/
theorem wordFld_cause {cause n : Nat} (hc : cause < 8) (hn : n ≤ 255) (f : Fld) :
    wordFld (BitVec.ofNat 48 (2 ^ cause + 256 * n)) f = (2 ^ cause + 256 * n) / 2 ^ f.lo % 2 ^ f.w := by
  have h : 2 ^ cause ≤ 2 ^ 7 := Nat.pow_le_pow_right (by decide) (by omega)
  have hlt : 2 ^ cause + 256 * n < 2 ^ 48 := by omega
  unfold wordFld bitsOf
  rw [BitVec.toNat_ofNat, Nat.mod_eq_of_lt hlt]

theorem causeWord_pin (n : Nat) : (2 ^ 1 + 256 * n) / 2 ^ 1 % 2 ^ 1 = 1 := by omega

theorem causeWord_por (n : Nat) : (2 ^ 1 + 256 * n) / 2 ^ 0 % 2 ^ 1 = 0 := by omega

theorem causeWord_clock (n : Nat) : (2 ^ 3 + 256 * n) / 2 ^ 3 % 2 ^ 1 = 1 := by omega

theorem causeWord_count {n : Nat} (h : n ≤ 255) : (2 ^ 1 + 256 * n) / 2 ^ 8 % 2 ^ 8 = n := by omega

/-! ### RESET_N (R69) -/

/-- A long pulse on RESET_N: the chip is reset, and the sequencer leaves FAULT_STOP. -/
def State.pinReset (s : State) (still : Bool) : State :=
  let t := (s.chipReset rstPIN).setRstLow still
  if t.seq = seqSTOP then t.setSeq seqOFF else t

theorem resetPin_low {s : State} (low : Nat) (still : Bool) (h : s.power.rstLow = true) :
    s.resetPin low still = s.setRstLow still := if_pos h

theorem resetPin_short {s : State} {low : Nat} (still : Bool) (h : s.power.rstLow = false) (hl : low < 50) :
    s.resetPin low still = s := by
  unfold State.resetPin
  dsimp only
  rw [h, if_neg Bool.false_ne_true, if_pos hl]

theorem resetPin_long {s : State} {low : Nat} (still : Bool) (h : s.power.rstLow = false) (hl : 500 ≤ low) :
    s.resetPin low still = s.pinReset still := by
  unfold State.resetPin
  dsimp only
  rw [h, if_neg Bool.false_ne_true, if_neg (show ¬low < 50 by omega), if_pos (show usTicks ≤ low from hl)]
  rfl

theorem setSeq_reg (s : State) (n : Nat) {r : Reg} (h : r.addr ≠ Reg.sysPwrStat.addr) : (s.setSeq n).reg r = s.reg r := by
  have hr : (s.setSeq n).reg r = (s.setFld .sysPwrStat fSysPwrStat_SEQ_STATE n).reg r := rfl
  rw [hr, reg_setFld_ne _ _ _ _ _ h]

/-- A pulse on RESET_N leaves the registers as the reset does, but for the sequencer's state in PWR_STAT. -/
theorem pinReset_reg (s : State) (still : Bool) {r : Reg} (h : r.addr ≠ Reg.sysPwrStat.addr) :
    (s.pinReset still).reg r = (s.chipReset rstPIN).reg r := by
  unfold State.pinReset
  dsimp only
  split
  · rw [setSeq_reg _ _ h]
    rfl
  · rfl

theorem pinReset_power (s : State) (still : Bool) :
    (s.pinReset still).power.inReset = true ∧ (s.pinReset still).power.rstLow = still := by
  have h := chipReset_power s (cause := rstPIN) (by decide)
  unfold State.pinReset
  dsimp only
  split
  · exact ⟨h, rfl⟩
  · exact ⟨h, rfl⟩

theorem pinReset_mem (s : State) (still : Bool) : (s.pinReset still).mem = s.mem := by
  have h := chipReset_mem s (cause := rstPIN) (by decide) (by decide)
  unfold State.pinReset
  dsimp only
  split
  · exact h
  · exact h

theorem exec_resetNLow (dt low : Nat) (still : Bool) (s : State) :
    exec (.resetNLow dt low still) s = .next (((s.elapse dt).resetPin low still).inTimeOf (s.elapse dt)) := rfl

/-- Settles O20: the three lengths of a pulse the statement names, and the release that a low pin holds off. What a pulse between
them does is left to a free bit (log entry 72). -/
theorem resetPulseLengthDecides : Obligations.ResetPulseLengthDecides := by
  unfold Obligations.ResetPulseLengthDecides
  refine ⟨?short, ?long, ?low, ?release⟩
  case short =>
    intro dt low still s h hl
    rw [exec_resetNLow, resetPin_short (s := s.elapse dt) still h hl]
    rfl
  case long =>
    intro dt low still s h hl
    have hc : (s.elapse dt).fld .sysRstCause fSysRstCause_COUNT = s.fld .sysRstCause fSysRstCause_COUNT := rfl
    have hw : ((s.elapse dt).pinReset still).reg .sysRstCause =
        BitVec.ofNat 48 (2 ^ rstPIN + 256 * min 255 (s.fld .sysRstCause fSysRstCause_COUNT + 1)) := by
      rw [pinReset_reg _ _ (by decide), chipReset_cause _ (by decide), hc]
    have hf : ∀ f : Fld, ((s.elapse dt).pinReset still).fld .sysRstCause f =
        (2 ^ 1 + 256 * min 255 (s.fld .sysRstCause fSysRstCause_COUNT + 1)) / 2 ^ f.lo % 2 ^ f.w := fun f => by
      rw [State.fld, hw]
      exact wordFld_cause (by decide) (Nat.min_le_left _ _) f
    have ⟨hr, hs⟩ := pinReset_power (s.elapse dt) still
    rw [exec_resetNLow, resetPin_long (s := s.elapse dt) still h hl]
    refine ⟨_, rfl, hr, hs, ?_, ?_, ?_, ?_, ?_, ?_⟩
    · rw [fld_inTimeOf, hf]
      exact causeWord_pin _
    · rw [fld_inTimeOf, hf]
      exact causeWord_por _
    · rw [fld_inTimeOf, hf]
      exact causeWord_count (Nat.min_le_left _ _)
    · intro r h1 h2 h3
      rw [reg_inTimeOf, pinReset_reg _ _ h2, chipReset_reg _ (by decide) h1 h2 h3]
    · rw [reg_inTimeOf, pinReset_reg _ _ (by decide), chipReset_jetRetired _ (by decide)]
      rfl
    · exact sameMemory_of_mem (pinReset_mem (s.elapse dt) still)
  case low =>
    intro dt low still s h
    rw [exec_resetNLow, resetPin_low (s := s.elapse dt) low still h]
    exact ⟨_, rfl, rfl, rfl, sameMemory_of_mem rfl⟩
  case release =>
    intro dt s h
    have hm : (s.elapse dt).mayRelease = false := by
      unfold State.mayRelease
      rw [show (s.elapse dt).power.rstLow = true from h]
      exact Bool.and_false _
    exact rowIf_idle s dt State.mayRelease State.release hm

/-! ### The clock window (R56) -/

/-- A count within the window is shown with RC_OK. -/
theorem clockWindow_good {s : State} {n : Nat} (h : 22800 ≤ n ∧ n ≤ 28900) :
    s.clockWindow n =
      (let u := (s.setFld .sysClkStat fSysClkStat_RC_COUNT n).setFlag .sysClkStat fSysClkStat_RC_OK true
       { u with oas := { u.oas with clkBad := false } }) := by
  have hw : rcInWindow n = true := decide_eq_true h
  have hn : satU 16 n = n := if_pos (by omega)
  unfold State.clockWindow
  rw [hw, hn]
  rfl

/-- A count outside the window is a clock fault. -/
theorem clockWindow_bad {s : State} {n : Nat} (h : ¬(22800 ≤ n ∧ n ≤ 28900)) :
    s.clockWindow n =
      ((s.setFld .sysClkStat fSysClkStat_RC_COUNT (satU 16 n)).setFlag .sysClkStat fSysClkStat_RC_OK false).chipReset rstCLOCK := by
  have hw : rcInWindow n = false := decide_eq_false h
  unfold State.clockWindow
  rw [hw]
  rfl

theorem exec_clockWindowEnd (dt n : Nat) (s : State) :
    exec (.clockWindowEnd dt n) s = .next (((s.elapse dt).clockWindow n).inTimeOf (s.elapse dt)) := rfl

/-- Settles O21: a count within the window writes SYS.CLK_STAT alone, any other is a chip reset with cause CLOCK. -/
theorem clockWindowJudgesTheCount : Obligations.ClockWindowJudgesTheCount := by
  unfold Obligations.ClockWindowJudgesTheCount
  refine ⟨?good, ?bad⟩
  case good =>
    intro dt n s h1 h2
    rw [exec_clockWindowEnd, clockWindow_good ⟨h1, h2⟩]
    refine ⟨_, rfl, ?_, ?_, ?_, sameMemory_of_mem rfl⟩
    · show (((s.elapse dt).setFld .sysClkStat fSysClkStat_RC_COUNT n).setFlag .sysClkStat fSysClkStat_RC_OK true).fld .sysClkStat
        fSysClkStat_RC_COUNT = n
      rw [State.setFlag, fld_setFld_apart _ _ _ _ _ (by decide), fld_setFld_self _ _ _ _ (by decide)]
      exact Nat.mod_eq_of_lt (show n < 65536 by omega)
    · exact fld_setFld_self _ .sysClkStat fSysClkStat_RC_OK 1 (by decide)
    · intro r hr
      have hne := hr .sysClkStat (List.mem_singleton_self _)
      show (((s.elapse dt).setFld .sysClkStat fSysClkStat_RC_COUNT n).setFlag .sysClkStat fSysClkStat_RC_OK true).reg r = _
      rw [State.setFlag, reg_setFld_ne _ _ _ _ _ hne, reg_setFld_ne _ _ _ _ _ hne]
      rfl
  case bad =>
    intro dt n s h
    rw [exec_clockWindowEnd, clockWindow_bad (by omega)]
    refine ⟨_, rfl, ?_, ?_⟩
    · rw [fld_inTimeOf, State.fld, chipReset_cause _ (by decide), wordFld_cause (by decide) (Nat.min_le_left _ _)]
      exact causeWord_clock _
    · intro r h1 h2 h3
      rw [reg_inTimeOf, chipReset_reg _ (by decide) h1 h2 h3]

/-! ### T48 (R503) -/

/-- What CLK_STAT shows at the lock of the root PLL. -/
def State.pllShown (s : State) : State :=
  ((s.setFlag .sysClkStat fSysClkStat_LOCK true).setFlag .sysClkStat fSysClkStat_REF_OK true).setFld .sysClkStat fSysClkStat_LOCK_US
    (satU 16 ((s.now - s.power.pllFrom) / usTicks))

theorem pllShown_lock (s : State) : s.pllShown.fld .sysClkStat fSysClkStat_LOCK = 1 := by
  unfold State.pllShown
  rw [fld_setFld_apart _ _ _ _ _ (by decide), State.setFlag, fld_setFld_apart _ _ _ _ _ (by decide), State.setFlag,
    fld_setFld_self _ _ _ _ (by decide)]
  rfl

theorem pllLock_eq (s : State) :
    s.pllLock = { s.unitsReset.pllShown.setFld .sysBootStat fSysBootStat_STAGE 2 with
      t48 := 0, t48Runs := true, time := { s.unitsReset.time with from_ := s.unitsReset.now } } := rfl

/-- The registers at the lock. -/
theorem pllLock_regs (s : State) : s.pllLock.regs = (s.unitsReset.pllShown.setFld .sysBootStat fSysBootStat_STAGE 2).regs := by
  rw [pllLock_eq]

/-- The lock of the root PLL shows in CLK_STAT. -/
theorem pllLock_lock (s : State) : s.pllLock.fld .sysClkStat fSysClkStat_LOCK = 1 := by
  have hne : Reg.sysClkStat.addr ≠ Reg.sysBootStat.addr := by decide
  unfold State.fld State.reg
  rw [pllLock_regs]
  exact (fld_setFld_ne _ _ _ _ _ _ hne).trans (pllShown_lock _)

/-- Settles O22: the lock starts the count, and an idle step is one tick (log entry 2), which wraps. -/
theorem tickCounterStartsAtPllLock : Obligations.TickCounterStartsAtPllLock := by
  unfold Obligations.TickCounterStartsAtPllLock
  have tick : ∀ s : State, s.t48Runs = true → (s.elapse 1).t48 = s.t48 + 1 := fun s h => if_pos h
  refine ⟨?lock, ?counts, ?wraps⟩
  case lock =>
    intro dt s hr hl hs
    have hm : (s.elapse dt).pllMayLock = true := by
      unfold State.pllMayLock State.flag
      rw [show (s.elapse dt).power.inReset = false from hr, show (s.elapse dt).fld .sysClkStat fSysClkStat_LOCK = 0 from hl,
        show (s.elapse dt).fld .sysBootStat fSysBootStat_STAGE = 1 from hs]
      rfl
    refine ⟨_, rowIf_next s dt State.pllMayLock State.pllLock hm, rfl, rfl, ?_⟩
    rw [fld_inTimeOf]
    exact pllLock_lock _
  case counts =>
    intro s hp hr
    exact ⟨_, step_nil hp, tick s hr, hr, rfl⟩
  case wraps =>
    intro s h48 hr hp
    refine ⟨_, step_nil hp, ?_⟩
    rw [tick s hr, h48]
    rfl

/-! ### The key fuse (R670) -/

theorem exec_fuseProg (dt hash back : Nat) (s : State) :
    exec (.fuseProg dt hash back) s = .next (((s.elapse dt).fuseProg hash back).inTimeOf (s.elapse dt)) := rfl

/-- Already fused, or in another stage than RECOVERY. -/
theorem fuseProg_refused {s : State} (hash back : Nat)
    (h : s.fld .sysBootStat fSysBootStat_KEY_FUSED ≠ 0 ∨ s.fld .sysBootStat fSysBootStat_STAGE ≠ 9) :
    s.fuseProg hash back = (s.tapTake 0x18).setFld .hstJtagStat fHstJtagStat_FUSE_RES 2 := by
  refine if_pos ?_
  rcases h with h | h
  · rw [State.flag, bne_iff_ne.2 (show (s.tapTake 0x18).fld .sysBootStat fSysBootStat_KEY_FUSED ≠ 0 from h), Bool.true_or]
  · rw [bne_iff_ne.2 (show (s.tapTake 0x18).fld .sysBootStat fSysBootStat_STAGE ≠ 9 from h), Bool.or_true]

/-- In RECOVERY, not fused yet: what the fuses read back decides. -/
theorem fuseProg_taken {s : State} (hash back : Nat) (hf : s.fld .sysBootStat fSysBootStat_KEY_FUSED = 0)
    (hs : s.fld .sysBootStat fSysBootStat_STAGE = 9) :
    s.fuseProg hash back =
      (let u := s.tapTake 0x18
       if back = hash then
        ({ u with host := { u.host with keyHash := hash } }.setFlag .sysBootStat fSysBootStat_KEY_FUSED (hash != 0)).setFld
          .hstJtagStat fHstJtagStat_FUSE_RES 1
       else
        ({ u with host := { u.host with keyHash := back, keyBad := true } }.setFlag .sysBootStat fSysBootStat_KEY_FUSED true).setFld
          .hstJtagStat fHstJtagStat_FUSE_RES 3) := by
  refine if_neg ?_
  rw [State.flag, show (s.tapTake 0x18).fld .sysBootStat fSysBootStat_KEY_FUSED = 0 from hf,
    show (s.tapTake 0x18).fld .sysBootStat fSysBootStat_STAGE = 9 from hs]
  decide

/-- FUSE_RES takes a result. -/
theorem fuseRes_self (s : State) {n : Nat} (h : n < 4) :
    (s.setFld .hstJtagStat fHstJtagStat_FUSE_RES n).fld .hstJtagStat fHstJtagStat_FUSE_RES = n := by
  rw [fld_setFld_self _ _ _ _ (by decide)]
  exact Nat.mod_eq_of_lt h

/-- It leaves KEY_FUSED, which stands in another register. -/
theorem fuseRes_keyFused (s : State) (n : Nat) :
    (s.setFld .hstJtagStat fHstJtagStat_FUSE_RES n).fld .sysBootStat fSysBootStat_KEY_FUSED =
      s.fld .sysBootStat fSysBootStat_KEY_FUSED :=
  fld_setFld_ne _ _ _ _ _ _ (by decide)

theorem keyFused_set (s : State) : (s.setFlag .sysBootStat fSysBootStat_KEY_FUSED true).fld .sysBootStat fSysBootStat_KEY_FUSED = 1 :=
  fld_setFld_self _ _ _ _ (by decide)

/-- Settles O23: the refusal, the fusing that reads back, and the one that does not. -/
theorem keyHashIsFusedOnlyOnceInRecovery : Obligations.KeyHashIsFusedOnlyOnceInRecovery := by
  intro dt hash back s fused stage
  refine ⟨_, exec_fuseProg dt hash back s, ?refused, ?good, ?bad⟩
  case refused =>
    intro h
    rw [fuseProg_refused (s := s.elapse dt) hash back h, fld_inTimeOf, fld_inTimeOf]
    exact ⟨fuseRes_self _ (by decide), rfl, fuseRes_keyFused _ _⟩
  case good =>
    intro hf hs hb h0
    rw [fuseProg_taken (s := s.elapse dt) hash back hf hs, if_pos hb, bne_iff_ne.2 h0, fld_inTimeOf, fld_inTimeOf]
    exact ⟨fuseRes_self _ (by decide), rfl, (fuseRes_keyFused _ _).trans (keyFused_set _)⟩
  case bad =>
    intro hf hs hb
    rw [fuseProg_taken (s := s.elapse dt) hash back hf hs, if_neg hb, fld_inTimeOf, fld_inTimeOf]
    exact ⟨fuseRes_self _ (by decide), (fuseRes_keyFused _ _).trans (keyFused_set _), rfl⟩

/-! ### The die sensor (R683) -/

theorem fldI_inTimeOf (s t : State) (r : Reg) (f : Fld) : (s.inTimeOf t).fldI r f = s.fldI r f := rfl

theorem fldI_elapse (s : State) (dt : Nat) (r : Reg) (f : Fld) : (s.elapse dt).fldI r f = s.fldI r f := rfl

theorem fldI_setFld_apart (s : State) (r : Reg) (f g : Fld) (n : Nat) (h : f.apart g = true) :
    (s.setFld r f n).fldI r g = s.fldI r g := by
  unfold State.fldI
  rw [fld_setFld_apart _ _ _ _ _ h]

theorem fldI_setFld_self (s : State) (r : Reg) (f : Fld) (n : Nat) (h : f.lo + f.w ≤ 48) :
    (s.setFld r f n).fldI r f = sgn f.w (n % 2 ^ f.w) := by
  unfold State.fldI
  rw [fld_setFld_self _ _ _ _ h]

/-- A signed number of 12 bits reads back from its field. -/
theorem sgn_uns_12 {i : Int} (h1 : -2048 ≤ i) (h2 : i ≤ 2047) : sgn 12 (uns 12 i % 2 ^ 12) = i := by
  unfold sgn uns
  dsimp only
  split <;> omega

/-- A number within the field's range is not cut. -/
theorem satS_12 {i : Int} (h1 : -2048 ≤ i) (h2 : i ≤ 2047) : satS 12 i = i := by
  unfold satS
  dsimp only
  rw [if_neg (by omega), if_neg (by omega)]

/-- The state once a reading is shown. -/
def State.tjShown (s : State) (tj : Int) : State :=
  (s.setFld .sysTemp fSysTemp_TJ (uns 12 tj)).setFlag .sysTemp fSysTemp_VALID true

theorem tjShown_tj (s : State) {tj : Int} (h1 : -2048 ≤ tj) (h2 : tj ≤ 2047) : (s.tjShown tj).fldI .sysTemp fSysTemp_TJ = tj := by
  unfold State.tjShown
  rw [State.setFlag, fldI_setFld_apart _ _ _ _ _ (by decide), fldI_setFld_self _ _ _ _ (by decide)]
  exact sgn_uns_12 h1 h2

theorem tjShown_max (s : State) (tj : Int) :
    (s.tjShown tj).fldI .sysTemp fSysTemp_TJ_MAX = s.fldI .sysTemp fSysTemp_TJ_MAX := by
  unfold State.tjShown
  rw [State.setFlag, fldI_setFld_apart _ _ _ _ _ (by decide), fldI_setFld_apart _ _ _ _ _ (by decide)]

theorem tjShown_valid (s : State) (tj : Int) : (s.tjShown tj).fld .sysTemp fSysTemp_VALID = 1 :=
  fld_setFld_self _ .sysTemp fSysTemp_VALID 1 (by decide)

theorem tjShown_reg (s : State) (tj : Int) {r : Reg} (h : r.addr ≠ Reg.sysTemp.addr) : (s.tjShown tj).reg r = s.reg r := by
  unfold State.tjShown
  rw [State.setFlag, reg_setFld_ne _ _ _ _ _ h, reg_setFld_ne _ _ _ _ _ h]

theorem tjMaxClr_tj (s : State) : s.tjMaxClr.fldI .sysTemp fSysTemp_TJ = s.fldI .sysTemp fSysTemp_TJ := by
  unfold State.tjMaxClr
  rw [fldI_setFld_apart _ _ _ _ _ (by decide)]

theorem tjMaxClr_max (s : State) : s.tjMaxClr.fldI .sysTemp fSysTemp_TJ_MAX = s.fldI .sysTemp fSysTemp_TJ := by
  unfold State.tjMaxClr
  rw [fldI_setFld_self _ _ _ _ (by decide)]
  exact congrArg (sgn 12) (Nat.mod_eq_of_lt (wordFld_lt (s.reg .sysTemp) fSysTemp_TJ))

theorem tjMaxClr_valid (s : State) : s.tjMaxClr.fld .sysTemp fSysTemp_VALID = s.fld .sysTemp fSysTemp_VALID := by
  unfold State.tjMaxClr
  rw [fld_setFld_apart _ _ _ _ _ (by decide)]

theorem tjMaxClr_reg (s : State) {r : Reg} (h : r.addr ≠ Reg.sysTemp.addr) : s.tjMaxClr.reg r = s.reg r := by
  unfold State.tjMaxClr
  rw [reg_setFld_ne _ _ _ _ _ h]

/-- A reading within the field's range is shown as it is, and a new maximum takes it. -/
theorem temperature_eq (s : State) {tj : Int} (h1 : -2048 ≤ tj) (h2 : tj ≤ 2047) :
    s.temperature tj =
      if s.fldI .sysTemp fSysTemp_TJ_MAX < tj then (s.tjShown tj).tjMaxClr else s.tjShown tj := by
  have h : s.temperature tj =
      if (s.tjShown tj).fldI .sysTemp fSysTemp_TJ_MAX < (s.tjShown tj).fldI .sysTemp fSysTemp_TJ then (s.tjShown tj).tjMaxClr
      else s.tjShown tj := by
    unfold State.temperature
    rw [satS_12 h1 h2]
    rfl
  rw [h, tjShown_max, tjShown_tj s h1 h2]

/-- What TEMP reads after a reading within the field's range. -/
theorem temperature_shows (s : State) {tj : Int} (h1 : -2048 ≤ tj) (h2 : tj ≤ 2047) :
    (s.temperature tj).fldI .sysTemp fSysTemp_TJ = tj ∧
    (s.temperature tj).fldI .sysTemp fSysTemp_TJ_MAX = max (s.fldI .sysTemp fSysTemp_TJ_MAX) tj ∧
    (s.temperature tj).fld .sysTemp fSysTemp_VALID = 1 := by
  have e := tjShown_tj s h1 h2
  rw [temperature_eq s h1 h2]
  split
  next h => exact ⟨(tjMaxClr_tj _).trans e, ((tjMaxClr_max _).trans e).trans (Int.max_eq_right (Int.le_of_lt h)).symm,
    (tjMaxClr_valid _).trans (tjShown_valid s tj)⟩
  next h => exact ⟨e, (tjShown_max s tj).trans (Int.max_eq_left (Int.not_lt.1 h)).symm, tjShown_valid s tj⟩

/-- A reading writes no other register. -/
theorem temperature_reg (s : State) {tj : Int} (h1 : -2048 ≤ tj) (h2 : tj ≤ 2047) {r : Reg} (h : r.addr ≠ Reg.sysTemp.addr) :
    (s.temperature tj).reg r = s.reg r := by
  rw [temperature_eq s h1 h2]
  split
  · rw [tjMaxClr_reg _ h, tjShown_reg _ _ h]
  · rw [tjShown_reg _ _ h]

theorem exec_temperatureReading (dt : Nat) (tj : Int) (s : State) :
    exec (.temperatureReading dt tj) s = .next (((s.elapse dt).temperature tj).inTimeOf (s.elapse dt)) := rfl

/-- Settles O29: below a new maximum the reading is shown alone, at one TJ_MAX takes it as well. -/
theorem temperatureReadingKeepsTheMaximum : Obligations.TemperatureReadingKeepsTheMaximum := by
  unfold Obligations.TemperatureReadingKeepsTheMaximum
  intro dt tj s h1 h2
  have ⟨htj, hmax, hvalid⟩ := temperature_shows (s.elapse dt) h1 h2
  refine ⟨_, exec_temperatureReading dt tj s, ?_, ?_, ?_, ?_, ?_⟩
  · rw [fldI_inTimeOf, htj]
  · rw [fldI_inTimeOf, hmax, fldI_elapse]
  · rw [fld_inTimeOf, hvalid]
  · intro r hr
    rw [reg_inTimeOf, temperature_reg _ h1 h2 (hr .sysTemp (List.mem_singleton_self _)), reg_elapse]
  · refine sameMemory_of_mem ?_
    rw [inTimeOf_mem, temperature_mem, elapse_mem]

end Sys2Proof.Machine
end

section
/-! PROOFS. Doorbells (R606), the password of Oasis (R645) and the commands of an axis (R174). -/
namespace Sys2Proof.Machine

/-! ### Doorbells (R606) -/

theorem addr_dbSet (a : Nat) : (Reg.dbSet a).addr = 0x123010 + (a - 1) * 0x10 := rfl
theorem addr_dbPend (a : Nat) : (Reg.dbPend a).addr = 0x123018 + (a - 1) * 0x10 := rfl

theorem mapped_dbSet {a : Nat} (h1 : 1 ≤ a) (h : a ≤ 16) : (Reg.dbSet a).mapped := by
  have hat : ∀ k < 17, 1 ≤ k → Reg.ofAddr (Reg.dbSet k).addr = some (.dbSet k) := by decide +kernel
  have ha := addr_dbSet a
  exact ⟨by omega, by omega, hat a (by omega) h1⟩

theorem mapped_dbPend {a : Nat} (h1 : 1 ≤ a) (h : a ≤ 16) : (Reg.dbPend a).mapped := by
  have hat : ∀ k < 17, 1 ≤ k → Reg.ofAddr (Reg.dbPend k).addr = some (.dbPend k) := by decide +kernel
  have ha := addr_dbPend a
  exact ⟨by omega, by omega, hat a (by omega) h1⟩

/-- A doorbell is no weir's, and what it refuses is the agents outside 1 to 16. -/
theorem dbSet_refuse (s : State) (ag a : Nat) (v : Word48) :
    s.writeRefuse ag (.dbSet a) v = refuseIf (!decide (1 ≤ ag ∧ ag ≤ 16)) cACCESS := rfl

/-- PEND refuses bits to be cleared for another agent than its own. -/
theorem dbPend_refuse (s : State) (ag a : Nat) (v : Word48) :
    s.writeRefuse ag (.dbPend a) v = refuseIf (ag != a && wordFld v fDbPend_BITS != 0) cACCESS := rfl

/-- Rung bits are added to those set; an interrupt of the host leaves the registers. -/
theorem ring_pend (s : State) (a : Nat) {bits : Nat} (h : bits < 2 ^ 16) :
    (s.ring a bits).fld (.dbPend a) fDbPend_BITS = Nat.lor (s.fld (.dbPend a) fDbPend_BITS) bits := by
  have hlt : Nat.lor (s.fld (.dbPend a) fDbPend_BITS) bits < 2 ^ 16 := Nat.or_lt_two_pow (wordFld_lt _ fDbPend_BITS) h
  have e : (s.setFld (.dbPend a) fDbPend_BITS (Nat.lor (s.fld (.dbPend a) fDbPend_BITS) bits)).fld (.dbPend a) fDbPend_BITS = _ :=
    fld_setFld_self _ _ _ _ (by decide)
  unfold State.ring
  dsimp only
  split
  · unfold State.sendVector
    split <;> exact e.trans (Nat.mod_eq_of_lt hlt)
  · exact e.trans (Nat.mod_eq_of_lt hlt)

/-- The bits named are taken from those set. -/
theorem unring_pend (s : State) (a bits : Nat) :
    (s.unring a bits).fld (.dbPend a) fDbPend_BITS =
      s.fld (.dbPend a) fDbPend_BITS - Nat.land (s.fld (.dbPend a) fDbPend_BITS) bits := by
  have hp : s.fld (.dbPend a) fDbPend_BITS < 2 ^ fDbPend_BITS.w := wordFld_lt _ _
  unfold State.unring
  rw [fld_setFld_self _ _ _ _ (by decide)]
  exact Nat.mod_eq_of_lt (Nat.lt_of_le_of_lt (Nat.sub_le _ _) hp)

/-- The word of a doorbell's order carries its bits. -/
theorem wordWith_bits (s : State) (ag : Nat) (r : Reg) {bits : Nat} (h : bits < 2 ^ 16) :
    wordFld (s.wordWith ag r ⟨0, 16⟩ bits) ⟨0, 16⟩ = bits :=
  (wordWith_self s ag r _ bits (by decide)).trans (Nat.mod_eq_of_lt h)

theorem exec_doorbellSet (dt ag a bits : Nat) (s : State) :
    exec (.doorbellSet dt ag a bits) s = .next (((s.elapse dt).order ag (.dbSet a) fDbSet_BITS bits).inTimeOf (s.elapse dt)) := rfl

theorem exec_doorbellClear (dt ag a bits : Nat) (s : State) :
    exec (.doorbellClear dt ag a bits) s = .next (((s.elapse dt).order ag (.dbPend a) fDbPend_BITS bits).inTimeOf (s.elapse dt)) := rfl

/-- An order of a register that is not mirrored answers OK and leaves what its action does. -/
theorem order_acts {s : State} {ag n : Nat} {r : Reg} {f : Fld} (h : s.accepts ag r (s.wordWith ag r f n))
    (ho : isOrder r (s.wordWith ag r f n) = false) :
    s.order ag r f n =
      (((s.settleReg r).plain r (s.wordWith ag r f n)).writeAct (s.settleReg r) ag r (s.wordWith ag r f n) 0).answer ag r.addr
        (writeType ag) cOK 0 := by
  rw [order_accepted _ _ _ _ _ h, State.accepted, mirrorReg_not_order _ _ ho]

/-- An order that meets one code answers it, where its register counts no refusals. -/
theorem order_refused {s : State} {ag n c : Nat} {r : Reg} {f : Fld} (hi : s.issues ag = true) (hm : r.mapped) (hc : c ≠ cOK)
    (h : (s.settleReg r).writeRefuse ag r (s.wordWith ag r f n) = [c]) (hp : r.name ≠ .sluPost) (hd : r.name ≠ .coreDone) :
    s.order ag r f n = (s.settleReg r).answer ag r.addr (writeType ag) c 0 := by
  have hr : s.refuses ag r (s.wordWith ag r f n) c := ⟨hi, hm, hc, by rw [h]; simp [lowestCode]⟩
  exact (slot_refused _ _ _ _ 0 c hr).trans (by rw [writeRefused_of_ne _ _ _ _ hp hd])

/-- Settles O19: the two orders that are accepted, with what they leave in PEND, and the clear by another agent. -/
theorem doorbellsAreRungAndCleared : Obligations.DoorbellsAreRungAndCleared := by
  unfold Obligations.DoorbellsAreRungAndCleared
  refine ⟨?set, ?clear, ?other⟩
  case set =>
    intro dt ag a bits s hi h1 h16 ha1 ha16 hb
    have hr : (s.elapse dt).accepts ag (.dbSet a) ((s.elapse dt).wordWith ag (.dbSet a) fDbSet_BITS bits) :=
      ⟨hi, mapped_dbSet ha1 ha16, rfl, (dbSet_refuse _ _ _ _).trans (refuseIf_false _ (by simp [h1, h16]))⟩
    have hne : (Reg.dbPend a).addr ≠ (Reg.dbSet a).addr := by rw [addr_dbPend, addr_dbSet]; omega
    refine ⟨_, (exec_doorbellSet dt ag a bits s).trans (by rw [order_acts hr rfl]), ?_, ?_⟩
    · rw [agent_inTimeOf, answer_code]
    · rw [fld_inTimeOf, answer_ok_fld]
      refine (congrArg (State.fld · (.dbPend a) fDbPend_BITS) (congrArg (State.ring _ a) (wordWith_bits _ _ _ hb))).trans ?_
      rw [ring_pend _ _ hb]
      rw [plain_not_owned _ _ rfl, State.fld, reg_setReg_ne _ _ _ _ hne]
      rfl
  case clear =>
    intro dt a bits s hi h1 h16 hb
    have hr : (s.elapse dt).accepts a (.dbPend a) ((s.elapse dt).wordWith a (.dbPend a) fDbPend_BITS bits) :=
      ⟨hi, mapped_dbPend h1 h16, rfl, (dbPend_refuse _ _ _ _).trans (refuseIf_false _ (by simp))⟩
    refine ⟨_, (exec_doorbellClear dt a a bits s).trans (by rw [order_acts hr rfl]), ?_, ?_⟩
    · rw [agent_inTimeOf, answer_code]
    · rw [fld_inTimeOf, answer_ok_fld]
      refine (congrArg (State.fld · (.dbPend a) fDbPend_BITS) (congrArg (State.unring _ a) (wordWith_bits _ _ _ hb))).trans ?_
      rw [unring_pend]
      rfl
  case other =>
    intro dt ag a bits s hi h1 h16 hne h0 hb
    have e : wordFld ((s.elapse dt).wordWith ag (.dbPend a) fDbPend_BITS bits) fDbPend_BITS = bits := wordWith_bits _ _ _ hb
    have hw : wordFld ((s.elapse dt).wordWith ag (.dbPend a) fDbPend_BITS bits) fDbPend_BITS ≠ 0 := by omega
    rw [exec_doorbellClear, order_refused (c := cACCESS) hi (mapped_dbPend h1 h16) (by decide)
      ((dbPend_refuse _ _ _ _).trans (refuseIf_true _ (by simp [hne, hw]))) nofun nofun]
    rfl

/-! ### The password of Oasis (R645) -/

/-- What a write of PWD_CTL refuses is its own alone. -/
theorem pwdCtl_refuse (s : State) (ag : Nat) (v : Word48) : s.writeRefuse ag .oasPwdCtl v = s.pwdRefuse ag v := rfl

theorem mapped_oasPwdCtl : Reg.oasPwdCtl.mapped := ⟨by decide, by decide, by decide +kernel⟩

theorem exec_passwordPresent (dt ag : Nat) (v : Word48) (s : State) :
    exec (.passwordPresent dt ag v) s =
      .next (((s.elapse dt).slot ag Reg.oasPwdCtl.addr (some v.toNat) 0).inTimeOf (s.elapse dt)) := rfl

/-- A write of PWD_CTL that is refused answers the code, and nothing else. -/
theorem passwordPresent_refused {dt ag c : Nat} {v : Word48} {s : State} (hi : (s.elapse dt).issues ag = true) (hc : c ≠ cOK)
    (h : lowestCode ((s.elapse dt).pwdRefuse ag v) = c) :
    exec (.passwordPresent dt ag v) s =
      .next (((s.elapse dt).answer ag Reg.oasPwdCtl.addr (writeType ag) c 0).inTimeOf (s.elapse dt)) := by
  rw [exec_passwordPresent, slot_refused _ _ _ _ 0 c ⟨hi, mapped_oasPwdCtl, hc, (congrArg lowestCode (pwdCtl_refuse _ _ _)).trans h⟩]
  rfl

/-- ACCESS comes before LOCKED. -/
theorem pwdRefuse_access {s : State} {ag : Nat} {v : Word48}
    (h : ¬(1 ≤ ag ∧ ag ≤ 10 ∨ ag = 16) ∨
      (wordFld v fOasPwdCtl_PRESENT = 1 ∧ (wordFld v fOasPwdCtl_LEN < 8 ∨ 16 < wordFld v fOasPwdCtl_LEN))) :
    lowestCode (s.pwdRefuse ag v) = cACCESS := by
  unfold State.pwdRefuse
  dsimp only
  rw [refuseIf_true cACCESS (by simp; omega), refuseIf]
  split <;> rfl

/-- A PRESENT of a password's length, by one of its agents, meets the lock alone. -/
theorem pwdRefuse_locked {s : State} {ag : Nat} {v : Word48} (ha : 1 ≤ ag ∧ ag ≤ 10 ∨ ag = 16)
    (hp : wordFld v fOasPwdCtl_PRESENT = 1) (h8 : 8 ≤ wordFld v fOasPwdCtl_LEN) (h16 : wordFld v fOasPwdCtl_LEN ≤ 16)
    (hl : s.oas.lockTo ≠ none) : lowestCode (s.pwdRefuse ag v) = cLOCKED := by
  unfold State.pwdRefuse
  dsimp only
  rw [refuseIf_false cACCESS (by simp [hp, h8, h16]; omega), refuseIf_true cLOCKED (by simp [hp, Option.isSome_iff_ne_none, hl])]
  rfl

/-- The state once PWD_IN is cleared. -/
def State.pwdTaken (s : State) : State := s.each (List.range 4) (fun j s => s.setReg (.oasPwdIn j) 0)

theorem pwdTaken_eq (s : State) :
    s.pwdTaken = (((s.setReg (.oasPwdIn 0) 0).setReg (.oasPwdIn 1) 0).setReg (.oasPwdIn 2) 0).setReg (.oasPwdIn 3) 0 := rfl

theorem addr_oasPwdIn (j : Nat) : (Reg.oasPwdIn j).addr = 0x130010 + j * 0x8 := rfl

theorem pwdTaken_in (s : State) {j : Nat} (h : j < 4) : s.pwdTaken.reg (.oasPwdIn j) = 0 := by
  rw [pwdTaken_eq]
  match j, h with
  | 0, _ => rw [reg_setReg_ne _ _ _ _ (by decide), reg_setReg_ne _ _ _ _ (by decide), reg_setReg_ne _ _ _ _ (by decide), reg_setReg]
  | 1, _ => rw [reg_setReg_ne _ _ _ _ (by decide), reg_setReg_ne _ _ _ _ (by decide), reg_setReg]
  | 2, _ => rw [reg_setReg_ne _ _ _ _ (by decide), reg_setReg]
  | 3, _ => rw [reg_setReg]

/-- PWD_OK leaves every register but STAT and PWD_CTL. -/
theorem setPwdOk_reg (s : State) (b : Bool) {q : Reg} (h1 : q.addr ≠ Reg.oasStat.addr) (h2 : q.addr ≠ Reg.oasPwdCtl.addr) :
    (s.setPwdOk b).reg q = s.reg q := by
  unfold State.setPwdOk State.setFlag
  rw [reg_setFld_ne _ _ _ _ _ h2, reg_setFld_ne _ _ _ _ _ h1]
  rfl

/-- A mismatch counts, and the third one locks. -/
def State.pwdFailed (s : State) : State :=
  let s := s.incSat .oasPwdCtl fOasPwdCtl_FAILS
  if 3 ≤ s.fld .oasPwdCtl fOasPwdCtl_FAILS then { s with oas := { s.oas with lockTo := some (s.now + 60 * 500000000) } } else s

theorem pwdFailed_reg (s : State) {q : Reg} (h : q.addr ≠ Reg.oasPwdCtl.addr) : s.pwdFailed.reg q = s.reg q := by
  have hf : s.pwdFailed.regs = (s.incSat .oasPwdCtl fOasPwdCtl_FAILS).regs := by
    unfold State.pwdFailed
    dsimp only
    split <;> rfl
  unfold State.reg
  rw [hf]
  exact reg_setFld_ne s .oasPwdCtl q fOasPwdCtl_FAILS _ h

/-- A PRESENT clears PWD_IN, then matches or fails. -/
theorem pwdPresent_cases (s : State) (n : Nat) :
    s.pwdPresent n = (s.pwdTaken.setFld .oasPwdCtl fOasPwdCtl_FAILS 0).setPwdOk true ∨ s.pwdPresent n = s.pwdTaken.pwdFailed := by
  unfold State.pwdPresent
  exact (Decidable.em _).imp (fun h => if_pos h) (fun h => if_neg h)

/-- What a PRESENT decides shows in STAT and PWD_CTL alone. -/
theorem pwdPresent_reg (s : State) (n : Nat) {q : Reg} (h1 : q.addr ≠ Reg.oasStat.addr) (h2 : q.addr ≠ Reg.oasPwdCtl.addr) :
    (s.pwdPresent n).reg q = s.pwdTaken.reg q := by
  rcases pwdPresent_cases s n with e | e
  · rw [e, setPwdOk_reg _ _ h1 h2, reg_setFld_ne _ _ _ _ _ h2]
  · rw [e, pwdFailed_reg _ h2]

/-- Settles O35: the two codes of a refused write, and the cleared registers of one that is taken. -/
theorem passwordIsPresentedByItsAgentsOnly : Obligations.PasswordIsPresentedByItsAgentsOnly := by
  unfold Obligations.PasswordIsPresentedByItsAgentsOnly
  refine ⟨?access, ?locked, ?clears⟩
  case access => exact fun dt ag v s hi h => passwordPresent_refused hi (by decide) (pwdRefuse_access h)
  case locked => exact fun dt ag v s hi ha hp h8 h16 hl => passwordPresent_refused hi (by decide) (pwdRefuse_locked ha hp h8 h16 hl)
  case clears =>
    intro s n j hj
    have ha := addr_oasPwdIn j
    have h1 : (Reg.oasPwdIn j).addr ≠ Reg.oasStat.addr := by
      have : Reg.oasStat.addr = 0x130000 := rfl
      omega
    have h2 : (Reg.oasPwdIn j).addr ≠ Reg.oasPwdCtl.addr := by
      have : Reg.oasPwdCtl.addr = 0x130030 := rfl
      omega
    rw [pwdPresent_reg s n h1 h2, pwdTaken_in s hj]

end Sys2Proof.Machine
end

section
/-! PROOFS. The commands of an axis (R173 to R175). -/
namespace Sys2Proof.Machine

/-! ### What a write of AXS[n].CMD refuses -/

/-- A weir that is OPEN refuses no write of a register without RWL fields (R84). -/
theorem offlineRefuse_open {s : State} {ag k : Nat} {r : Reg} {v : Word48} (hk : r.weir = some k) (h0 : s.weirState k = 0)
    (hf : r.fields.all (fun f => f.acc != .rwl) = true) : s.offlineRefuse ag r v = [] := by
  unfold State.offlineRefuse
  rw [hk]
  refine refuseIf_false cOFFLINE ?_
  rw [h0, show ((0 : Nat) != 0) = false from rfl, Bool.and_false, Bool.or_false, Bool.and_eq_false_imp]
  intro ha
  obtain ⟨f, hm, hr⟩ := List.any_eq_true.1 ha
  have hn := List.all_eq_true.1 hf f (List.mem_filter.1 hm).1
  exact absurd (beq_iff_eq.1 hr) (bne_iff_ne.1 hn)

/-- Out of a twin head precedence is judged by the pending command alone. -/
theorem cmdWriteRefuse_single {s : State} (ag n c : Nat) (h : s.twin = false) : s.cmdWriteRefuse ag n c = s.cmdRefuse n c := by
  unfold State.cmdWriteRefuse
  rw [h, Bool.and_false, Bool.false_and]
  exact List.append_nil _

/-- A command to an axis that is neither an OBSERVER nor in HOLD is refused by its rank alone. -/
theorem cmdRefuse_rank {s : State} {n c : Nat} (hc : 1 ≤ c ∧ c ≤ 5) (hk : s.kind n ≠ kindOBSERVER) (ha : s.ax n ≠ axHOLD) :
    s.cmdRefuse n c = refuseIf (decide (cmdRank c < cmdRank (s.axis n).cmd)) cBUSY := by
  have h6 : (c == 6 || c == 7) = false := by simp; omega
  have h0 : (c != 0) = true := by simp; omega
  unfold State.cmdRefuse
  rw [h6, h0, beq_eq_false_iff_ne.2 hk, beq_eq_false_iff_ne.2 ha]
  rfl

section
variable {s : State} {ag n c : Nat} {v : Word48}

/-- A write of CMD meets its weir, the twin head's states and the axis. -/
theorem axsCmd_refuse (hw : s.weirState n = 0) (ht : s.twin = false) (hc : 1 ≤ c ∧ c ≤ 5) (hv : wordFld v fAxsCmd_CMD = c)
    (hk : s.kind n ≠ kindOBSERVER) (ha : s.ax n ≠ axHOLD) :
    s.writeRefuse ag (.axsCmd n) v = refuseIf (decide (cmdRank c < cmdRank (s.axis n).cmd)) cBUSY := by
  have hoff : s.ordersOff = false := by
    unfold State.ordersOff
    rw [ht, Bool.false_and]
  have hact : s.actRefuse ag (.axsCmd n) v = s.cmdWriteRefuse ag n (wordFld v fAxsCmd_CMD) := rfl
  have hro : roRefuse (.axsCmd n) = [] := rfl
  have habs : s.regAbsent (.axsCmd n) = false := rfl
  unfold State.writeRefuse
  rw [habs, hro, offlineRefuse_open (k := n) rfl hw rfl, hoff, Bool.and_false, hact, hv, cmdWriteRefuse_single _ _ _ ht,
    cmdRefuse_rank hc hk ha]
  rfl

end

/-! ### What it leaves -/

theorem mapped_axsCmd {n : Nat} (hn : n < 192) : (Reg.axsCmd n).mapped := by
  have hat : ∀ k < 192, Reg.ofAddr (Reg.axsCmd k).addr = some (.axsCmd k) := by decide +kernel
  have ha : (Reg.axsCmd n).addr = 0x80010 + n * 0x400 := rfl
  exact ⟨by omega, by omega, hat n hn⟩

/-- The command takes the place of the pending one. -/
theorem cmdPlace_eq (s : State) (ag n : Nat) {c : Nat} (hc : c ≠ 0) :
    s.cmdPlace ag n c =
      (s.setAxis n { s.axis n with cmd := c, cmdAgent := ag }).setFlag (.axsStat n) fAxsStat_CMD_PENDING true := if_neg hc

theorem cmdAct_single {s : State} (ag n c : Nat) (h : s.twin = false) : s.cmdAct ag n c = s.cmdPlace ag n c := by
  unfold State.cmdAct
  rw [h, Bool.false_and, if_neg Bool.false_ne_true]

/-- The five commands and their codes in CMD. -/
theorem exec_axsCmd {dt ag n c : Nat} {i : Instr} (s : State)
    (h : i = .enable dt ag n ∧ c = 1 ∨ i = .disable dt ag n ∧ c = 2 ∨ i = .stop dt ag n ∧ c = 3 ∨ i = .quickStop dt ag n ∧ c = 4 ∨
      i = .faultReset dt ag n ∧ c = 5) :
    exec i s = .next (((s.elapse dt).order ag (.axsCmd n) fAxsCmd_CMD c).inTimeOf (s.elapse dt)) := by
  rcases h with ⟨rfl, rfl⟩ | ⟨rfl, rfl⟩ | ⟨rfl, rfl⟩ | ⟨rfl, rfl⟩ | ⟨rfl, rfl⟩ <;> rfl

/-- Whether a head is a twin is read of SYS.ROLE. -/
theorem twin_of_reg {s t : State} (h : t.reg .sysRole = s.reg .sysRole) : t.twin = s.twin := by
  unfold State.twin State.flag State.fld
  rw [h]

/-- The state once axis n holds the command c of agent ag. -/
def State.cmdHeld (s : State) (ag n c : Nat) : State :=
  (s.setAxis n { s.axis n with cmd := c, cmdAgent := ag }).setFlag (.axsStat n) fAxsStat_CMD_PENDING true

theorem cmdHeld_reg (s : State) (ag n c : Nat) {r : Reg} (h : r.addr ≠ (Reg.axsStat n).addr) : (s.cmdHeld ag n c).reg r = s.reg r := by
  unfold State.cmdHeld State.setFlag
  rw [reg_setFld_ne _ _ _ _ _ h]
  rfl

theorem axis_setReg (s : State) (r : Reg) (w : Word48) (n : Nat) : (s.setReg r w).axis n = s.axis n := rfl
theorem axis_elapse (s : State) (dt n : Nat) : (s.elapse dt).axis n = s.axis n := rfl
theorem axis_inTimeOf (s t : State) (n : Nat) : (s.inTimeOf t).axis n = s.axis n := rfl

/-- An answer OK leaves every axis. -/
theorem answer_ok_axis (s : State) (ag addr ty data n : Nat) : (s.answer ag addr ty cOK data).axis n = s.axis n := by
  rw [answer_ok]
  rfl

theorem cmdHeld_axis (s : State) (ag n c : Nat) : (s.cmdHeld ag n c).axis n = { s.axis n with cmd := c, cmdAgent := ag } :=
  tabGet_tabSet_self _ _ _ _

theorem cmdHeld_pending (s : State) (ag n c : Nat) : (s.cmdHeld ag n c).fld (.axsStat n) fAxsStat_CMD_PENDING = 1 :=
  fld_setFld_self _ _ _ _ (by decide)

/-- What an accepted command leaves, out of a twin head. -/
theorem axsCmd_accepted {s : State} {ag n c : Nat} (ht : s.twin = false) (hc : 1 ≤ c ∧ c ≤ 5)
    (h : s.accepts ag (.axsCmd n) (s.wordWith ag (.axsCmd n) fAxsCmd_CMD c)) :
    ∃ w, s.order ag (.axsCmd n) fAxsCmd_CMD c =
      ((s.setReg (.axsCmd n) w).cmdHeld ag n c).answer ag (Reg.axsCmd n).addr (writeType ag) cOK 0 := by
  have hn : Reg.sysRole.addr ≠ (Reg.axsCmd n).addr ∧ Reg.sysRole.addr ≠ (Reg.axsStat n).addr := by
    have h0 : Reg.sysRole.addr = 0x18 := rfl
    have h1 : (Reg.axsCmd n).addr = 0x80010 + n * 0x400 := rfl
    have h2 : (Reg.axsStat n).addr = 0x80018 + n * 0x400 := rfl
    omega
  have hv : wordFld (s.wordWith ag (.axsCmd n) fAxsCmd_CMD c) fAxsCmd_CMD = c :=
    (wordWith_self _ _ _ _ _ (by decide)).trans (Nat.mod_eq_of_lt (show c < 8 by omega))
  refine ⟨plainWrite (.axsCmd n) (s.reg (.axsCmd n)) (s.wordWith ag (.axsCmd n) fAxsCmd_CMD c), ?_⟩
  have hp := plain_not_owned s (r := .axsCmd n) (s.wordWith ag (.axsCmd n) fAxsCmd_CMD c) rfl
  have ht1 : (s.plain (.axsCmd n) (s.wordWith ag (.axsCmd n) fAxsCmd_CMD c)).twin = false := by
    rw [hp, twin_of_reg (reg_setReg_ne _ _ _ _ hn.1), ht]
  have hact : (s.plain (.axsCmd n) (s.wordWith ag (.axsCmd n) fAxsCmd_CMD c)).writeAct s ag (.axsCmd n)
      (s.wordWith ag (.axsCmd n) fAxsCmd_CMD c) 0 =
      (s.plain (.axsCmd n) (s.wordWith ag (.axsCmd n) fAxsCmd_CMD c)).cmdHeld ag n c := by
    refine (congrArg (State.cmdAct _ ag n) hv).trans ?_
    rw [cmdAct_single _ _ _ ht1, cmdPlace_eq _ _ _ (by omega)]
    rfl
  have ht2 : ((s.plain (.axsCmd n) (s.wordWith ag (.axsCmd n) fAxsCmd_CMD c)).cmdHeld ag n c).twin = false := by
    rw [twin_of_reg (cmdHeld_reg _ _ _ _ hn.2), ht1]
  rw [order_accepted _ _ _ _ _ h]
  refine Eq.trans (congrArg (fun u => (State.mirrorReg u _ _ _).answer _ _ _ _ _) hact) ?_
  rw [mirrorReg_single _ _ _ _ ht2, hp]

/-- Settles O27: the command is refused by its rank alone, and an accepted one becomes the pending one. -/
theorem axisCommandsRankByPrecedence : Obligations.AxisCommandsRankByPrecedence := by
  intro dt ag n c i s hi hn hcmd ht hw hk ha
  have hc : 1 ≤ c ∧ c ≤ 5 := by omega
  have hv : wordFld ((s.elapse dt).wordWith ag (.axsCmd n) fAxsCmd_CMD c) fAxsCmd_CMD = c :=
    (wordWith_self _ _ _ _ _ (by decide)).trans (Nat.mod_eq_of_lt (show c < 8 by omega))
  have hr : (s.elapse dt).writeRefuse ag (.axsCmd n) ((s.elapse dt).wordWith ag (.axsCmd n) fAxsCmd_CMD c) =
      refuseIf (decide (cmdRank c < cmdRank (s.axis n).cmd)) cBUSY :=
    axsCmd_refuse (s := s.elapse dt) hw ht hc hv hk ha
  rw [exec_axsCmd s hcmd]
  refine ⟨?accepted, ?refused⟩
  case accepted =>
    intro hle
    obtain ⟨w, e⟩ := axsCmd_accepted (s := s.elapse dt) ht hc
      ⟨hi, mapped_axsCmd hn, rfl, hr.trans (refuseIf_false _ (decide_eq_false (by omega)))⟩
    rw [e]
    refine ⟨_, rfl, ?_, ?_, ?_, ?_⟩
    · rw [agent_inTimeOf, answer_code]
    · rw [axis_inTimeOf, answer_ok_axis, cmdHeld_axis, axis_setReg, axis_elapse]
    · rw [fld_inTimeOf, answer_ok_fld, cmdHeld_pending]
    · refine sameMemory_of_mem ?_
      rw [inTimeOf_mem, answer_mem]
      rfl
  case refused =>
    intro hlt
    rw [order_refused (c := cBUSY) hi (mapped_axsCmd hn) (by decide) (hr.trans (refuseIf_true _ (decide_eq_true hlt))) nofun nofun]
    rfl

end Sys2Proof.Machine
end

section
/-! PROOFS. Writes of eight bytes to the memory windows (R36). -/
namespace Sys2Proof.Machine

/-! ### The bytes of a word -/

/-- Byte i of a number, least significant first. -/
theorem leBytes_getD {n i : Nat} (x : Nat) (h : i < n) : (leBytes n x).getD i 0#8 = BitVec.ofNat 8 (x / 256 ^ i) := by
  induction n generalizing x i with
  | zero => exact absurd h (Nat.not_lt_zero i)
  | succ n ih =>
    cases i with
    | zero =>
      refine BitVec.eq_of_toNat_eq ?_
      show x % 256 % 2 ^ 8 = x / 256 ^ 0 % 2 ^ 8
      rw [Nat.pow_zero, Nat.div_one]
      omega
    | succ i =>
      have e := ih (x / 256) (Nat.lt_of_succ_lt_succ h)
      rw [Nat.div_div_eq_div_mul, ← Nat.pow_succ'] at e
      exact e

/-! ### What a stored word changes -/

/-- Bytes written change memory alone. -/
theorem setBytes_eq (s : State) (a : Nat) (l : List Byte) : s.setBytes a l = { s with mem := (s.setBytes a l).mem } := by
  induction l generalizing s a with
  | nil => rfl
  | cons b t ih => exact ih (s.setByte a b) (a + 1)

theorem wordStored_eq (s : State) (a v : Nat) :
    s.wordStored a v = { s with mem := (s.setBytes a (leBytes 8 v)).mem, ecc := (s.wordStored a v).ecc } := by
  unfold State.wordStored
  rw [setBytes_eq]

theorem wordStored_regs (s : State) (a v : Nat) : (s.wordStored a v).regs = s.regs := by rw [wordStored_eq]

/-- Whether a head mirrors is read of its registers and of the loss of its partner. -/
theorem mirrors_congr {s t : State} (hr : t.regs = s.regs) (hl : t.twn = s.twn) : t.mirrors = s.mirrors := by
  have hf : ∀ r f, t.fld r f = s.fld r f := fun r f => by
    unfold State.fld State.reg
    rw [hr]
  unfold State.mirrors State.twin State.isHead State.portOn State.link State.weirOpen State.weirState State.tstate State.flag
  simp only [hf, hl]

theorem wordStored_mirrors (s : State) (a v : Nat) : (s.wordStored a v).mirrors = s.mirrors :=
  mirrors_congr (wordStored_regs s a v) (by rw [wordStored_eq])

/-- A head that mirrors nothing sends no order. -/
theorem mirrorOrder_off {s : State} (ag n : Nat) (es : List (Nat × Nat × Nat)) (h : s.mirrors = false) :
    s.mirrorOrder ag n es = s := by
  unfold State.mirrorOrder
  rw [h]
  exact if_pos rfl

/-- Nor does it send one for a memory write. -/
theorem mirrorMem_off {s : State} (ag : Nat) (l : List Nat) (es : List (Nat × Nat × Nat)) (h : s.mirrors = false) :
    s.mirrorMem ag l es = s := by
  induction l generalizing es with
  | nil => rfl
  | cons x t ih =>
    rw [State.mirrorMem, mirrorOrder_off ag 0 _ h, ih, ite_self]

/-- The state a write of a word that nothing refuses leaves before its answer. -/
def State.wordWritten (s : State) (ag a v : Nat) : State :=
  if mirroredMem a then (s.wordStored a v).mirrorMem ag (List.range 9) (memEntries a (leBytes 8 v)) else s.wordStored a v

theorem memWrite_written {s : State} {ag a : Nat} (v : Nat) (hc : s.memCode ag a 8 true = cOK) :
    s.memWrite ag a (leBytes 8 v) = (cOK, s.wordWritten ag a v) := memWrite_word v hc

theorem wordWritten_mem (s : State) (ag a v : Nat) : (s.wordWritten ag a v).mem = (s.setBytes a (leBytes 8 v)).mem := by
  unfold State.wordWritten
  split
  · rw [mirrorMem_mem]
    rfl
  · rfl

theorem wordWritten_byte (s : State) (ag a v b : Nat) : (s.wordWritten ag a v).byte b = (s.setBytes a (leBytes 8 v)).byte b := by
  unfold State.byte
  rw [wordWritten_mem]

theorem wordWritten_regs {s : State} (ag a v : Nat) (h : s.mirrors = false) : (s.wordWritten ag a v).regs = s.regs := by
  unfold State.wordWritten
  rw [mirrorMem_off _ _ _ ((wordStored_mirrors s a v).trans h), ite_self, wordStored_regs]

/-! ### The three windows -/

/-- The three commands are one access of the slot. -/
theorem exec_wordWrite {c : Instr} {dt ag a : Nat} {v : BitVec 64} (s : State)
    (h : c = .stagedBankWrite dt ag a v ∨ c = .camStoreWrite dt ag a v ∨ c = .programWordWrite dt ag a v) :
    exec c s = .next (((s.elapse dt).slot ag a (some v.toNat) 0).inTimeOf (s.elapse dt)) := by
  rcases h with rfl | rfl | rfl <;> rfl

/-- A memory write that meets a code changes nothing (R703). -/
theorem memWrite_refused {s : State} {ag a : Nat} (v : Nat) (hc : s.memCode ag a 8 true ≠ cOK) :
    s.memWrite ag a (leBytes 8 v) = (s.memCode ag a 8 true, s) := by
  unfold State.memWrite
  rw [leBytes_length]
  exact if_pos hc

/-- Settles O31: the three commands are one access of the slot, whose memory write stores its eight bytes or nothing. -/
theorem memoryWindowWriteStoresItsEightBytes : Obligations.MemoryWindowWriteStoresItsEightBytes := by
  intro c dt ag a v s hi h8 hcmd
  have lo : 0x1000000 ≤ a := by omega
  have hx : c = .stagedBankWrite dt ag a v ∨ c = .camStoreWrite dt ag a v ∨ c = .programWordWrite dt ag a v :=
    hcmd.imp And.left (Or.imp And.left And.left)
  rw [exec_wordWrite s hx, slot_memWrite v.toNat hi lo h8]
  refine ⟨?stored, ?refused⟩
  case stored =>
    intro hc
    rw [memWrite_written v.toNat hc]
    have hl : (leBytes 8 v.toNat).length = 8 := leBytes_length 8 _
    have hb : ∀ b, (((((s.elapse dt).wordWritten ag a v.toNat).answer ag a (writeType ag) cOK 0)).inTimeOf (s.elapse dt)).byte b =
        ((s.elapse dt).setBytes a (leBytes 8 v.toNat)).byte b := fun b => by
      rw [State.byte, inTimeOf_mem, answer_mem]
      exact wordWritten_byte _ _ _ _ _
    refine ⟨_, rfl, ?_, ?_, ?_, ?_⟩
    · rw [agent_inTimeOf, answer_code]
    · intro i hi8
      exact (hb (a + i)).trans ((byte_setBytes_in _ _ _ _ (by omega)).trans (leBytes_getD _ hi8))
    · intro b hout
      exact (hb b).trans (byte_setBytes_out _ _ _ _ (by omega))
    · intro hm
      rw [inTimeOf_regs, answer_ok_regs]
      exact wordWritten_regs (s := s.elapse dt) ag a v.toNat hm
  case refused =>
    intro hc
    rw [memWrite_refused v.toNat hc]

end Sys2Proof.Machine
end

section
/-! PROOFS. The frame of eight commands that clear counters (R124 and log entry 96 at an arbiter's register). -/
namespace Sys2Proof.Machine

/-! ### Fields of one register, cleared -/

/-- A register's fields are cleared, one after another. -/
def State.fieldsClr (r : Reg) (fs : List Fld) (s : State) : State := fs.foldl (fun s f => s.setFld r f 0) s

theorem fieldsClr_cons (s : State) (r : Reg) (f : Fld) (fs : List Fld) :
    s.fieldsClr r (f :: fs) = (s.setFld r f 0).fieldsClr r fs := rfl

/-- Cleared fields change registers alone. -/
theorem fieldsClr_eq (s : State) (r : Reg) (fs : List Fld) : s.fieldsClr r fs = { s with regs := (s.fieldsClr r fs).regs } := by
  induction fs generalizing s with
  | nil => rfl
  | cons f t ih => exact ih (s.setFld r f 0)

/-- They change no other register. -/
theorem fieldsClr_reg (s : State) {r q : Reg} (fs : List Fld) (h : q.addr ≠ r.addr) : (s.fieldsClr r fs).reg q = s.reg q := by
  induction fs generalizing s with
  | nil => rfl
  | cons f t ih => rw [fieldsClr_cons, ih, reg_setFld_ne _ _ _ _ _ h]

/-- A field apart from those cleared stays. -/
theorem fieldsClr_apart (s : State) (r : Reg) {g : Fld} {fs : List Fld} (h : ∀ f ∈ fs, f.apart g = true) :
    (s.fieldsClr r fs).fld r g = s.fld r g := by
  induction fs generalizing s with
  | nil => rfl
  | cons f t ih =>
    rw [fieldsClr_cons, ih _ (fun f hf => h f (List.mem_cons_of_mem _ hf)), fld_setFld_apart _ _ _ _ _ (h f List.mem_cons_self)]

/-- Fields within the word that share no bit, one with another. -/
def fldsApart : List Fld → Bool
  | [] => true
  | g :: t => decide (g.lo + g.w ≤ 48) && t.all (fun f => f.apart g) && fldsApart t

/-- Each of them reads 0 once they are cleared. -/
theorem fieldsClr_zero (s : State) (r : Reg) {g : Fld} {fs : List Fld} (h : fldsApart fs = true) (hg : g ∈ fs) :
    (s.fieldsClr r fs).fld r g = 0 := by
  induction fs generalizing s with
  | nil => cases hg
  | cons f t ih =>
    unfold fldsApart at h
    simp only [Bool.and_eq_true, decide_eq_true_eq, List.all_eq_true] at h
    obtain ⟨⟨hw, ha⟩, ht⟩ := h
    rw [fieldsClr_cons]
    rcases List.mem_cons.1 hg with rfl | hm
    · rw [fieldsClr_apart _ _ ha, fld_setFld_self _ _ _ _ hw, Nat.zero_mod]
    · exact ih _ ht hm

/-! ### A clear, as a command -/

/-- What a clear leaves: one register, and the agent's answer OK. -/
def State.clearedBy (x : State) (ag : Nat) (r : Reg) (w : Word48) (fs : List Fld) : State :=
  ((x.setReg r w).fieldsClr r fs).answer ag r.addr (writeType ag) cOK 0

/-- A clear is a write by one bit of a register that is not mirrored. -/
theorem clear_next {s : State} {dt ag : Nat} {r : Reg} {v : Word48} {fs : List Fld} (f : Fld) (bit : f.lo < 48 ∧ f.w = 1)
    (hv : v = (s.elapse dt).wordWith ag r f 1) (h : (s.elapse dt).accepts ag r v)
    (act : ∀ (u w : State) (v : Word48), u.writeAct w ag r v 0 = u.doIf (wordFld v f == 1) (State.fieldsClr r fs))
    (own : ownsFields r = false) (no : isOrder r v = false) :
    ∃ w, (.next (((s.elapse dt).order ag r f 1).inTimeOf (s.elapse dt)) : Out) =
      .next ((((s.elapse dt).settleReg r).clearedBy ag r w fs).inTimeOf (s.elapse dt)) := by
  subst hv
  refine ⟨plainWrite r (((s.elapse dt).settleReg r).reg r) ((s.elapse dt).wordWith ag r f 1), (order_when f bit h act).trans ?_⟩
  rw [State.accepted, mirrorReg_not_order _ _ no, plain_not_owned _ _ own]
  rfl

section
variable {x : State} {ag : Nat} {r : Reg} {w : Word48} {fs : List Fld}

theorem clearedBy_reg {q : Reg} (h : q.addr ≠ r.addr) : (x.clearedBy ag r w fs).reg q = x.reg q := by
  rw [State.clearedBy, answer_ok_reg, fieldsClr_reg _ _ h, reg_setReg_ne _ _ _ _ h]

theorem clearedBy_fld (h : fldsApart fs = true) {f : Fld} (hf : f ∈ fs) : (x.clearedBy ag r w fs).fld r f = 0 := by
  rw [State.clearedBy, answer_ok_fld, fieldsClr_zero _ _ h hf]

/-- A clear changes registers and the agents' records alone. -/
theorem clearedBy_eq : x.clearedBy ag r w fs =
    { x with regs := (x.clearedBy ag r w fs).regs, agents := (x.clearedBy ag r w fs).agents,
             outst := (x.clearedBy ag r w fs).outst } := by
  rw [State.clearedBy, answer_ok, fieldsClr_eq]
  rfl

theorem clearedBy_mem : (x.clearedBy ag r w fs).mem = x.mem := by
  rw [clearedBy_eq]

end

/-- Settles O33: each clear is an order by one bit whose action clears the fields of one register. -/
theorem counterClearTouchesOnlyItsCounters : Obligations.CounterClearTouchesOnlyItsCounters := by
  intro c dt ag n r fs v s t₁ x hcmd hw h
  have key : (∃ w, exec c s = .next ((x.clearedBy ag r w fs).inTimeOf t₁)) ∧ fldsApart fs = true ∧ (r.name ≠ .shrUnitArb → x = t₁) := by
    rcases hcmd with ⟨rfl, rfl, rfl⟩ | ⟨rfl, rfl, rfl⟩ | ⟨rfl, rfl, rfl⟩ | ⟨rfl, rfl, rfl⟩ | ⟨rfl, rfl, rfl⟩ | ⟨rfl, rfl, rfl⟩ |
      ⟨rfl, rfl, rfl⟩ | ⟨rfl, rfl, rfl⟩ <;> obtain rfl := (Prod.mk.inj (Prod.mk.inj (Option.some.inj hw)).2).2
    · exact ⟨clear_next fAxsAgeStat_CLR (by decide) rfl h (fun _ _ _ => rfl) rfl rfl, by decide, fun _ => rfl⟩
    · exact ⟨clear_next fAxsCsFocStat_CLR (by decide) rfl h (fun _ _ _ => rfl) rfl rfl, by decide, fun _ => rfl⟩
    · exact ⟨clear_next fAxsLimStat_CLR (by decide) rfl h (fun _ _ _ => rfl) rfl rfl, by decide, fun _ => rfl⟩
    · exact ⟨clear_next fShrUnitArb_CLR (by decide) rfl h (fun _ _ _ => rfl) rfl rfl, by decide, fun h => absurd rfl h⟩
    · exact ⟨clear_next fSlsStat_CLR (by decide) rfl h (fun _ _ _ => rfl) rfl rfl, by decide, fun _ => rfl⟩
    · exact ⟨clear_next fTcStat_CLR (by decide) rfl h (fun _ _ _ => rfl) rfl rfl, by decide, fun _ => rfl⟩
    · exact ⟨clear_next fTimTsqStat_CLR (by decide) rfl h (fun _ _ _ => rfl) rfl rfl, by decide, fun _ => rfl⟩
    · exact ⟨clear_next fEthStat_CLR (by decide) rfl h (fun _ _ _ => rfl) rfl rfl, by decide, fun _ => rfl⟩
  obtain ⟨⟨w, e⟩, hap, hx⟩ := key
  refine ⟨_, e, ?_, ?_, ?_, ?_, ?_, hx⟩
  · rw [agent_inTimeOf]
    exact answer_code ..
  · intro f hf
    rw [fld_inTimeOf, clearedBy_fld hap hf]
  · intro q hq
    rw [reg_inTimeOf, clearedBy_reg (hq r (List.mem_singleton_self r))]
  · refine sameMemory_of_mem ?_
    rw [inTimeOf_mem, clearedBy_mem, settleReg_mem]
    rfl
  · rw [clearedBy_eq]
    rfl

end Sys2Proof.Machine
end
